-- ==== Sys2Proof/Word.lean ====
section
/-! DEFINITION. The words the device works in, and the shapes of its register map's rows. -/

namespace Sys2Proof

/-- A byte of memory, of a payload or of a frame. -/
abbrev Byte := BitVec 8

/-- A register's word (R3). -/
abbrev Word := BitVec 32

/-- Sparse data by key: a list of key and value pairs in rising order of the keys. A key it does not list has
the value that the reader names as the default. -/
abbrev Tab (α : Type) := List (Nat × α)

/-- Register access codes (R4). -/
inductive Access where
  | rw | ro | wo | w1c | rs | rwx
deriving DecidableEq, Repr

/-- One field of a register: its bits, its access code, its reset value and the range its Meaning column states. -/
structure FieldRow where
  hi : Nat
  lo : Nat
  acc : Access
  reset : Nat
  min : Nat
  max : Nat
deriving DecidableEq, Repr

/-- One register, or a run of like registers: name, address of the first, how many, the distance between two,
and the fields. -/
structure RegRow where
  name : String
  base : Nat
  count : Nat
  stride : Nat
  fields : List FieldRow
deriving DecidableEq, Repr

/-- The place of a field: the address of its register's first copy (on channel 0), the distance between copies,
and the bits. -/
structure Fld where
  base : Nat
  stride : Nat
  hi : Nat
  lo : Nat
deriving DecidableEq, Repr

/-- The address of copy `k` of the field's register, on channel `n` (0 for a device register). -/
def Fld.addr (f : Fld) (n k : Nat) : Nat := f.base + 0x10000 * n + f.stride * k

end Sys2Proof
end

