-- ==== Sys2Proof/Syntax.lean ====
section
/-! DEFINITION. The commands of the block: one constructor for every row of spec/opcode_table.json, with the
operands the row's rule gives it. A measurement that the analog side makes is an operand of the command that
reports it. -/

namespace Sys2Proof

/-- Where a command, a register access or a delivery comes from. -/
inductive Origin where
  /-- the host port -/
  | host
  /-- a vendor record or FoE write on Tun engine `e` (R326, R327) -/
  | tun (e : Nat)
  /-- a WRAP_REQ from the node with this logical address (R353) -/
  | fabric (addr : Nat)
  /-- a frame at the network-boot ROM, from this source MAC address (R328) -/
  | net (mac : Nat)
deriving DecidableEq, Repr

/-- What a frame of the boot EtherType tells beside its TAG and PAYLOAD (R328): its OPCODE, its source MAC address, and whether it
is addressed to the port's own. -/
structure NetHead where
  op : Nat
  src : Nat
  mine : Bool
deriving DecidableEq, Repr

/-- What a channel's monitor converter and die sensor read at a boundary (R79, R80). -/
structure ChEnv where
  /-- VHV in 10 mV -/
  vhv : Nat
  /-- die sensor, thousandths of a degree -/
  die : Int
  /-- CHn_NTC in mV -/
  ntcMv : Nat
  /-- the NTC's temperature, thousandths of a degree -/
  ntc : Int
deriving DecidableEq, Repr

/-- What is measured at a boundary: one record a channel, and the junction in whole degrees (R456). -/
structure TickEnv where
  ch : List ChEnv
  tj : Int
deriving DecidableEq, Repr

/-- Why a G3 frame is bad (R297). -/
inductive BadFrame where
  /-- fewer than 6 bytes -/
  | short
  /-- length or CRC -/
  | crc (op tag : Nat)
  /-- unknown opcode -/
  | opcode (op tag : Nat)
deriving DecidableEq, Repr

/-- A frame's return stream on a Tap line (R264). -/
structure TapRet where
  /-- a stream came within the window, and began with a BREAK -/
  began : Bool
  /-- its 16-bit statuses, in chain order -/
  statuses : List Nat
  /-- followed by 2 Tb of idle -/
  idle : Bool
deriving DecidableEq, Repr

/-- What a PROBE_RSP tells (R339), with the link by which the node was reached: the prober's UID and port, the node's own
port, and the link's measured delay in ns. `partner` is the UID of the device it forms a pair with, 0 for none (R371). -/
structure ProbeInfo where
  uid : Nat
  role : Nat
  imgAddr : Nat
  periodUs : Nat
  boot : Bool
  parent : Nat
  port : Nat
  inPort : Nat
  delay : Nat
  partner : Nat
deriving DecidableEq, Repr

/-- What a ring node knows of its ring (R344, R345): its length, this node's position, its ports toward the next and the
previous position, the address at each position, 0 for none, the ring position that owns each address, and the ring links
that the root knows to be broken. -/
structure RingInfo where
  len : Nat
  pos : Nat
  fwd : Nat
  back : Nat
  members : List Nat
  owners : List (Nat × Nat)
  broken : List Nat
deriving DecidableEq, Repr

/-- What a JOIN_CHAL names beside its nonce (R342): the address offered, and SRC, the root's own. -/
structure JoinOffer where
  addr : Nat
  root : Nat
deriving DecidableEq, Repr

/-- Who reports in a LINK_STATE: the reporting node's address and its ring position. -/
structure LinkReport where
  node : Nat
  ringPos : Nat
deriving DecidableEq, Repr

/-- A change that an active streams to its standby (R361, R362). -/
inductive PairWhat where
  /-- an element of the SEG_PLANE -/
  | elem (e : Nat) (on : Bool)
  /-- a field's value record -/
  | value (f v : Nat) (bad : Bool)
  /-- an IMAGE_SWAP -/
  | swap
  /-- an alert's condition, by ALERT_ID -/
  | alertCond (id : Nat) (on : Bool)
  /-- an acknowledge, by ALERT_ID, with its origin code -/
  | alertAck (id origin : Nat)
  /-- a class, blink or other register -/
  | reg (addr val : Nat)
  /-- a dim update: group, level, apply tick, issuing address -/
  | dim (group level tick addr : Nat)
  /-- a lamp demand, by FN_ID -/
  | lamp (id level : Nat)
deriving DecidableEq, Repr

/-- A COMMIT: the change, and the tick its stamp names. -/
structure PairItem where
  what : PairWhat
  due : Option Nat
deriving DecidableEq, Repr

/-- What the STATE frames of a boundary carry for one channel (R362). -/
structure PairDelta where
  /-- MASH_FSTAT words, by field -/
  fields : List (Nat × Nat)
  /-- alert states, by ALERT_ID -/
  alerts : List (Nat × Nat)
  /-- accounts, by line, as KILN_ACC words -/
  accounts : List (Nat × Nat)
  /-- LED_GOV word and the tick estimates in µW, newest first; P_avg of the last decision in µW; the voltages of the pairs
  by element, in mV -/
  gov : Nat × List Nat
  govAvg : Nat
  volts : List (Nat × Nat)
  /-- element states as INTEG_ELEM words, the checks that declared each failed element, the elements in RECHECK with the
  checks that must still pass and their passes, fields whose policy is in force -/
  elems : List (Nat × Nat)
  failedBy : List (Nat × Nat)
  recheck : List (Nat × List (Nat × Nat))
  policies : List Nat
  /-- lamps: LAMP_LST word and light debt; lamps in RECHECK, with their passes; functions held off by FN_ID, with the failed
  member's code and whether a clear has acted; the LAMP_GOV word and the tick estimates of the switch governor -/
  lamps : List (Nat × Nat)
  lampRe : List (Nat × Nat)
  fnOff : List (Nat × Nat × Bool)
  swGov : Nat × List Nat
  /-- Tap member failures by line × 256 + node × 16 + output, chain faults by line with their VALUE, nodes failed by CRC_ERR
  as line × 16 + node, and TAP_STAT words -/
  tapFailed : List Nat
  tapFault : List (Nat × Nat)
  tapCrc : List Nat
  tapStat : List Nat
  /-- ring entries stored since the last delta, 16 bytes each, OLDEST, and NEXT, which the two determine (R214) -/
  entries : List (List Byte)
  oldest : Nat
  next : Nat
  /-- GRIST_KEYS words -/
  keys : List Nat
deriving DecidableEq, Repr

/-- A piece of a resync (R363): a delta of the full state, whose entries are those of the whole ring, bytes of the front image
and, in HELD, of the back image at an offset, what waits for a boundary with the settings and dim levels, alert conditions and
written lamp levels. -/
structure PairPiece where
  delta : PairDelta
  image : List (Nat × Byte)
  back : List (Nat × Byte)
  items : List PairItem
  conds : List (Nat × Bool)
  levels : List (Nat × Nat)
deriving DecidableEq, Repr

/-- The parameters of a protocol image that its row of the table limits by numbers, and those that the device uses at run
(R316, R319, R320). A parameter that a row does not have stands at 0 or empty. -/
structure TunParams where
  /-- PROFINET: send clock in µs -/
  sendClockUs : Nat
  /-- PROFINET: reduction ratio -/
  reduction : Nat
  /-- process data received, in bytes -/
  bytesOut : Nat
  /-- process data sent, in bytes -/
  bytesIn : Nat
  /-- EtherCAT: SYNC0 cycle in µs; 0 in the modes without SYNC0 -/
  sync0Us : Nat
  /-- POWERLINK: cycle in µs -/
  cycleUs : Nat
  /-- EtherNet/IP: RPI in ms -/
  rpiMs : Nat
  /-- EtherNet/IP: exclusive-owner connections -/
  owners : Nat
  /-- EtherNet/IP: input-only and listen-only connections -/
  listeners : Nat
  /-- Modbus TCP: connections -/
  connections : Nat
  /-- Modbus TCP: holding registers -/
  holding : Nat
  /-- Modbus TCP: input registers -/
  inputs : Nat
  /-- Modbus RTU: address -/
  address : Nat
  /-- UART and CAN: bit/s; 0 where PROFIBUS finds it itself -/
  baud : Nat
  /-- GOOSE: subscribed control blocks -/
  subscribed : Nat
  /-- GOOSE: published control blocks -/
  published : Nat
  /-- GOOSE: publish retransmissions in ms -/
  resendMs : List Nat
  /-- GOOSE: members of its data sets -/
  members : List Nat
  /-- listener or receive rules -/
  rules : Nat
  /-- IEC 61162: the period of each talker sentence in ticks -/
  talkers : List Nat
  /-- NMEA 2000 and J1939: bytes of its PGNs -/
  pgnBytes : List Nat
  /-- CANopen: RPDOs -/
  rpdos : Nat
  /-- CANopen: TPDOs -/
  tpdos : Nat
  /-- IEC 61162-450: the UDP ports of its transmission groups -/
  udpPorts : List Nat
  /-- IEC 61162: the age limit of each listener rule, in ticks; 0 none -/
  ages : List Nat
  /-- GOOSE: messages with the simulation bit are accepted -/
  simOk : Bool
  /-- PROFINET: the bytes of the input C_SDU that hold an IOPS, and those that hold an IOCS -/
  iops : List Nat
  iocs : List Nat
  /-- GOOSE: the members of each published block that are qualities, by block -/
  qualities : List (List Nat)
deriving DecidableEq, Repr, Inhabited

/-- What one arrival carries, by the layout of its protocol's SETs (R320). -/
inductive TunArrival where
  /-- the whole payload of a cyclic frame, a telegram or a PGN -/
  | whole (data : List Byte)
  /-- a Modbus write of holding registers from `first` -/
  | registers (first : Nat) (values : List Nat)
  /-- a Modbus write of coils from `first` -/
  | coils (first : Nat) (bits : List Bool)
  /-- a GOOSE message: its confRev matches, its simulation bit, and its members as 32-bit values -/
  | goose (confRev sim : Bool) (members : List Nat)
  /-- a sentence for listener rule `rule`: its value, whether its checksum is good, and whether its status field is A or the
  rule names none -/
  | sentence (rule value : Nat) (checksum statusA : Bool)
  /-- CANopen RPDO `k`, from 1 -/
  | rpdo (k : Nat) (data : List Byte)
deriving DecidableEq, Repr

/-- Where the Ethernet switch takes a frame: the other port, the internal port, or both (R317). -/
inductive SwitchDest where
  | through
  | internal
  | both
deriving DecidableEq, Repr

/-- A PTP message by the mechanism it belongs to (R318): one of both mechanisms, a response to a delay request, and the
request and the response of the peer delay mechanism. -/
inductive PtpMsg where
  | common
  | delayResp
  | peerReq
  | peerResp
deriving DecidableEq, Repr

/-- An Ethernet frame as the switch sees it: its 802.1Q priority, 8 where it is untagged, its EtherType, and whether it is a
PTP event message (R317, R318). -/
structure EthFrame where
  prio : Nat
  ethertype : Nat
  ptpEvent : Bool
deriving DecidableEq, Repr

/-- A PTP message that has arrived (R318): its domain and mechanism, whether the clock sends its delay request upon it, the
state that the slave clock's state machine comes to, and the offset from the master. -/
structure PtpArrival where
  domain : Nat
  msg : PtpMsg
  asks : Bool
  state : Nat
  offsetNs : Int
deriving DecidableEq, Repr

/-- The ordered sets of a fabric link but for IDLE: /S/, /T/, /E/, /P/ and /R/ (R331). -/
inductive LinkSet where
  | idle
  | start
  | good
  | bad
  | suspend
  | resume
deriving DecidableEq, Repr

/-- The commands. `o` is the origin, `tag` the frame's TAG and `pl` its payload; `ch` a channel; `v` a written word. -/
inductive Instr where
  | tickBoundary (env : TickEnv)
  | slotStart (ch : Fin 8)
  | ntcFallback (ch : Fin 8)
  | ntcReturn (ch : Fin 8)
  | kilnReady (ch : Fin 8)
  | kilnHoldEnd (ch : Fin 8) (ts : Nat) (settles : Bool) (buf : Nat)
  | kilnOvercurrent (ch : Fin 8) (src : Nat)
  | dischargeProof (ch : Fin 8) (mv : List Nat)
  | quiesceDone (ch : Fin 8)
  | lockSourceEvent (cycleNs : Nat) (errNs : Int)
  | lockRetry
  | lockHoldover
  | mode (o : Origin) (tag : Nat) (pl : List Byte)
  | modeCommit
  | status (o : Origin) (tag : Nat) (pl : List Byte)
  | memRead (o : Origin) (tag : Nat) (pl : List Byte)
  | memWrite (o : Origin) (tag : Nat) (pl : List Byte)
  | registerWrite (o : Origin) (addr : Nat) (v : Word)
  | fieldSet (o : Origin) (tag : Nat) (pl : List Byte)
  | segWrite (o : Origin) (tag : Nat) (pl : List Byte)
  | imageSwap (o : Origin) (tag : Nat) (pl : List Byte)
  | alertSetCondition (o : Origin) (tag : Nat) (pl : List Byte)
  | alertClearCondition (o : Origin) (tag : Nat) (pl : List Byte)
  | alertAcknowledge (o : Origin) (tag : Nat) (pl : List Byte)
  | alertAcknowledgeGroups (o : Origin) (tag : Nat) (pl : List Byte)
  | dim (o : Origin) (tag : Nat) (pl : List Byte)
  | eventRead (o : Origin) (tag : Nat) (pl : List Byte)
  | eventAck (o : Origin) (tag : Nat) (pl : List Byte)
  | powerIdle (o : Origin) (tag : Nat) (pl : List Byte)
  | powerSleep (o : Origin) (tag : Nat) (pl : List Byte)
  | powerDeep (o : Origin) (tag : Nat) (pl : List Byte)
  | powerOff (o : Origin) (tag : Nat) (pl : List Byte)
  | padsRelease (o : Origin) (tag : Nat) (pl : List Byte)
  | cfgBegin (o : Origin) (tag : Nat) (pl : List Byte)
  | cfgData (o : Origin) (tag : Nat) (pl : List Byte)
  | cfgEnd (o : Origin) (tag : Nat) (pl : List Byte)
  | cfgSessionTimeout
  | imageActivate (bad : Nat)
  | partialImageActivate (bad : Nat)
  | abort (o : Origin) (tag : Nat) (atCommit : Bool)
  | fabricWrap (o : Origin) (tag : Nat) (pl : List Byte)
  | fabricWrapTimeout
  | nop (o : Origin) (tag : Nat) (pl : List Byte)
  | fetch (whole : Bool)
  | g3BadFrame (why : BadFrame)
  | g3FrameReject (op : Nat) (tag : Nat)
  | g2Write (addr : Nat) (data : List Byte)
  | g2Read (addr : Nat) (count : Nat)
  | g2SoftReset
  | g1WriteAuto (addr : Nat) (data : List Byte)
  | g1WriteFixed (addr : Nat) (data : Byte)
  | g1ReadKey
  | g1ReadCount
  | g1QueueClear
  | g1DisplayOff
  | g1DisplayOn (b : Nat)
  | g1BadCommand (cmd : Byte)
  | seqCommit (o : Origin) (ch : Fin 8) (v : Word)
  | seqRun (o : Origin) (ch : Fin 8) (v : Word)
  | seqStop (o : Origin) (ch : Fin 8) (v : Word)
  | statsClr (o : Origin) (ch : Fin 8) (v : Word)
  | tickCfgWrite (o : Origin) (v : Word)
  | maxClr (o : Origin) (ch : Fin 8) (v : Word)
  | integClrAll (o : Origin) (ch : Fin 8) (v : Word)
  | integClrField (o : Origin) (ch : Fin 8) (v : Word)
  | ledGovDisable (o : Origin) (ch : Fin 8) (v : Word)
  | lampGovDisable (o : Origin) (ch : Fin 8) (v : Word)
  | lampClrAll (o : Origin) (ch : Fin 8) (v : Word)
  | lampClrFn (o : Origin) (ch : Fin 8) (v : Word)
  | lampDemWrite (o : Origin) (ch : Fin 8) (f : Fin 32) (v : Word)
  | lampForceWrite (o : Origin) (ch : Fin 8) (v : Word)
  | sinkGovDecision (ch : Fin 8)
  | switchGovDecision (ch : Fin 8)
  | predriverCurrentLimit (ch : Fin 8)
  | litCheck (ch : Fin 8) (mv : List Nat)
  | dissipationCapture (ch : Fin 8) (mv : List Nat)
  | comWatch (ch : Fin 8) (mv : List Nat)
  | darkCheck (ch : Fin 8) (mv : List Nat)
  | lineChargeCheck (ch : Fin 8) (charge : List Nat)
  | litUnverified (ch : Fin 8)
  | mashDelivery (ch : Fin 8)
  | mashQueueEnter (ch : Fin 8)
  | mashBurstCommit (ch : Fin 8)
  | fieldStale (ch : Fin 8) (f : Fin 128)
  | dimUpdate (group level applyTick addr : Nat)
  | dimSyncSend
  | dimSync (entries : List (Nat × Nat × Nat × Nat))
  | keyStep (ch : Fin 8) (heads feet drvHead drvFoot : List Nat)
  | continuityTest (ch : Fin 8) (heads : List Nat)
  | keyRepeat (ch : Fin 8) (key : Fin 512)
  | encoderInputChange (ch : Fin 8) (j : Fin 2) (a b : Bool) (us : Nat)
  | lampOpenTrip (ch : Fin 8) (k : Fin 12)
  | lampWindowCapture (ch : Fin 8) (mv : List Nat)
  | lampDiagPeriod (ch : Fin 8)
  | pumpReady (ch : Fin 8) (k : Fin 12)
  | tapFrameSend (ch : Fin 8) (l : Fin 2)
  | tapReturnReceive (ch : Fin 8) (l : Fin 2) (ret : TapRet)
  | orphanStreamReceive (ch : Fin 8) (l : Fin 2) (statuses : List Nat)
  | nopInstruction (ch : Fin 8) (e : Fin 4)
  | await (ch : Fin 8) (e : Fin 4) (pins : Nat)
  | awaitEnd (ch : Fin 8) (e : Fin 4) (pins : Nat)
  | emit (ch : Fin 8) (e : Fin 4)
  | gather (ch : Fin 8) (e : Fin 4) (pins : List Nat)
  | spill (ch : Fin 8) (e : Fin 4)
  | take (ch : Fin 8) (e : Fin 4)
  | give (ch : Fin 8) (e : Fin 4)
  | psqStallEnd (ch : Fin 8) (e : Fin 4) (pins : List Nat)
  | countLoad (ch : Fin 8) (e : Fin 4)
  | countRepeat (ch : Fin 8) (e : Fin 4)
  | countInc (ch : Fin 8) (e : Fin 4)
  | raiseSet (ch : Fin 8) (e : Fin 4)
  | raiseClear (ch : Fin 8) (e : Fin 4)
  | raiseEntry (ch : Fin 8) (e : Fin 4)
  | raiseEvent (ch : Fin 8) (e : Fin 4)
  | goto (ch : Fin 8) (e : Fin 4) (pins : Nat)
  | move (ch : Fin 8) (e : Fin 4) (pins : Nat)
  | psqWindowStart (ch : Fin 8) (e : Fin 4)
  | psqWindowEnd (ch : Fin 8) (e : Fin 4)
  | psqRun (o : Origin) (ch : Fin 8) (v : Word)
  | psqStop (o : Origin) (ch : Fin 8) (v : Word)
  | psqRestart (o : Origin) (ch : Fin 8) (v : Word)
  | psqTxWrite (o : Origin) (ch : Fin 8) (e : Fin 4) (v : Word)
  | psqRxRead (o : Origin) (ch : Fin 8) (e : Fin 4)
  | psqRxackWrite (o : Origin) (ch : Fin 8) (e : Fin 4) (v : Word)
  | psqLoopWrite (o : Origin) (ch : Fin 8) (e : Fin 4) (v : Word)
  | psqProgramWrite (o : Origin) (ch : Fin 8) (off : Nat) (v : Word)
  | tunDelivery (e : Fin 4) (set : Nat) (arr : TunArrival) (relays : List (Nat × Nat × Nat)) (offLine : Bool)
  | tunInputSend (e : Fin 4) (set : Nat)
  | vendorRecordRequest (e : Fin 4) (op tag : Nat) (pl : List Byte)
  | vendorRecordRead (e : Fin 4)
  | foeImageWrite (e : Fin 4) (image : List Byte)
  | tunWatchdogExpire (e : Fin 4) (codeGood : Bool)
  | tunRestart (e : Fin 4)
  | netBootFrame (head : NetHead) (tag : Nat) (pl : List Byte)
  | linkDown (p : Fin 3)
  | linkUp (p : Fin 3)
  | linkRejoin (p : Fin 3)
  | pdelaySend (p : Fin 3) (ns : Nat)
  | pdelayReq (p : Fin 3) (src t1 t2 t3 : Nat)
  | pdelayRsp (p : Fin 3) (src t2 t3 t4 : Nat)
  | frameForward (p : Fin 3) (dest src kind flags hops blimit : Nat) (payload : List Byte) (hcrcGood crcGood : Bool) (sending : List Nat)
  | probe (p : Fin 3) (rootUid : Nat)
  | probeRsp (info : ProbeInfo) (nr : List Byte)
  | joinChal (nr nn : List Byte) (offer : Option JoinOffer)
  | joinRsp (uid : Option Nat) (nn mac : List Byte)
  | joinAccept (mac : List Byte) (addr : Option Nat) (routes : List Nat) (ring : Option RingInfo)
  | joinTimeout
  | linkState (p : Fin 3) (report : LinkReport) (port : Nat) (up : Bool)
  | time (count periodUs : Nat) (errNs : Int)
  | dataSetPublish
  | dataSet (src setId seq : Nat) (data : List Byte)
  | wrapReq (src tag : Nat) (noWait bcast : Bool) (op : Nat) (itag : Nat) (pl : List Byte)
  | wrapRsp (src tag : Nat) (rsp : List Byte)
  | pairOwnClaim
  | helloSend
  | hello (uid role mask serial : Nat)
  | chId (ch : Fin 8) (chSer structCrc : Nat)
  | heartbeatSend
  | heartbeat (tick echo drive ready : Nat) (lead shadow : Bool)
  | heartbeatMissed
  | commit (ch : Fin 8) (item : PairItem)
  | cut (ch : Fin 8) (count crc : Nat)
  | stateSend
  | state (ch : Fin 8) (delta : PairDelta) (digest : Nat)
  | resyncReq (mask : Nat)
  | resync (ch : Fin 8) (piece : PairPiece) (last : Bool)
  | handover (mask : Nat) (lead : Bool) (boundary : Nat)
  | fwd (dest src kind flags : Nat) (payload : List Byte)
  | pairHand (o : Origin) (v : Word)
  | shadowCapture (ch : Fin 8) (mv : List (Nat × Nat))
  | bankAccess (bank master addr : Nat) (wait : Nat) (flips : Nat) (collides : Bool)
  | eccWriteback (bank : Nat)
  | memCntClr (o : Origin) (v : Word)
  | steepWindowStart
  | steepMarchEnd (bad : List (Nat × Nat))
  | steepRestart
  | powerOnAonReset
  | powerOnReset
  | brownOutReset (rail : Nat)
  | pinReset
  | clockReset
  | memFailReset
  | lockupReset
  | watchdogReset
  | debugReset
  | softwareReset (o : Origin) (v : Word)
  | releaseStep (good : Bool) (measured : Nat)
  | bootFlashLoad
  | flashStore (good : Bool)
  | flashStoreEnd (good : Bool)
  | channelRelease
  | tunBlockReset (o : Origin) (e : Fin 4)
  | hostBlockReset (o : Origin)
  | fabricBlockReset (o : Origin)
  | pairBlockReset (o : Origin)
  | netBlockReset (o : Origin)
  | steepBlockReset (o : Origin)
  | blockResetRelease (o : Origin) (bit : Fin 9)
  | channelReset (o : Origin) (ch : Fin 8)
  | channelQuiesceReset (o : Origin) (ch : Fin 8)
  | channelResetRelease (o : Origin) (ch : Fin 8)
  | gristReset (o : Origin) (ch : Fin 8)
  | encReset (o : Origin) (ch : Fin 8)
  | caskReset (o : Origin) (ch : Fin 8)
  | lampReset (o : Origin) (ch : Fin 8)
  | tapReset (o : Origin) (ch : Fin 8)
  | psqReset (o : Origin) (ch : Fin 8)
  | integReset (o : Origin) (ch : Fin 8)
  | mashReset (o : Origin) (ch : Fin 8)
  | blinkReset (o : Origin) (ch : Fin 8)
  | subblockResetRelease (o : Origin) (ch : Fin 8) (bit : Fin 9)
  | powerEntryCommit
  | wakeKey (ch : Fin 8) (low : Nat)
  | wakeEnc (ch : Fin 8)
  | wakeHost
  | wakePhy (p : Fin 2)
  | wakeFabric (p : Fin 3)
  | wakePin
  | wakeTimer
  | wakeChev (ch : Fin 8)
  | wakeNet
  | powerExit (asleepMs : Nat)
  | pmbusPoll (acked : Bool) (statusWord : Nat) (vcoreMv : Nat)
  | offWakeTimeout
  | pmbAlert (statusWord : Nat)
  | crystalFallback
  | latchLost
  | nonceRequest (o : Origin) (v : Word)
  | nonceExpire
  | lockoutEnd
  | openReq
  | debugOpenWrite (o : Origin) (v : Word)
  | eraseStep (good : Bool)
  | debugClose (o : Origin) (v : Word)
  | monStart (o : Origin) (v : Word)
  | monStop (o : Origin) (v : Word)
  | monClear (o : Origin) (v : Word)
  | monSnap (o : Origin) (v : Word)
  | autoSnapshot
  | tempHot
  | tempCool
  | tempOver
  | tempOverClear
  | releaseOrderStart
  | switchForward (port : Fin 2) (dst : SwitchDest) (frame : EthFrame) (residence linkNs : Nat) (good : Bool)
  | ptpMessage (port : Fin 2) (msg : PtpArrival) (good : Bool)
  | connectionLost (e : Fin 4)
  | timeAllowedToLiveExpiry (e : Fin 4) (set : Fin 16)
deriving DecidableEq, Repr

end Sys2Proof
end

