-- ==== Sys2Proof/Config.lean ====
section
/-! DEFINITION. What one part fixes and the spec does not give (fuses), and the values the spec leaves open.
None of these has a body: a claim about them holds whatever they are. -/

namespace Sys2Proof.Config

/-- The low half of the 64-bit unique ID, fused (RHL_UID). -/
opaque uidLo : Word
/-- The high half of the 64-bit unique ID, fused (RHL_UID). -/
opaque uidHi : Word
/-- MEM_REPAIR word k, fused (R378). -/
opaque memRepair : Nat → Word
/-- The NO_DEBUG fuse (SEC_STAT). -/
opaque noDebug : Bool

/-- A value the spec leaves open, by its width and the reading of the free counter (log entry 5). -/
opaque freeValue : (w : Nat) → Nat → BitVec w
/-- The payload bytes of a COMMIT: the spec names item codes and offsets and gives neither (R358). -/
opaque pairItemBytes : PairItem → List Byte
/-- The payload bytes of any other pair frame, by its kind and contents: the spec names the contents and not their
layout (R358). -/
opaque pairBytes : Nat → List Nat → List Byte
/-- The payload bytes of a fabric frame by its kind and contents, where the spec names the contents and not their layout
(R334 to R348; log entry 6). -/
opaque fabBytes : Nat → List Nat → List Byte
/-- The CRC-32 over a channel's presented state: the spec does not say in what form the state is taken (R362). -/
opaque presentedDigest : List Nat → Nat

/-- How a quotient is rounded where the spec gives its value and no rounding (log entry 9): up, or down. -/
opaque roundsUp : Int → Nat → Bool

/-- SHA-256, as FIPS 180-4 gives it: the spec names it and does not define it (log entry 15). -/
opaque sha256 : List Byte → List Byte
/-- HMAC-SHA-256 of a key and a message, as RFC 2104 gives it (log entry 15). -/
opaque hmacSha256 : List Byte → List Byte → List Byte
/-- Whether an ECDSA P-256 signature of a digest verifies under a public key (log entry 15). -/
opaque ecdsaOk : List Byte → List Byte → List Byte → Bool
/-- AES-256-GCM decryption: key, IV, additional data, ciphertext, tag; none where the tag fails (log entry 15). -/
opaque gcmOpen : List Byte → List Byte → List Byte → List Byte → List Byte → Option (List Byte)
/-- AES key wrap's unwrap under the fused factory key; none where its integrity check fails (log entry 15). -/
opaque unwrapKey : List Byte → Option (List Byte)
/-- The fused hash of Gulovora's image-signing key (R59). -/
opaque signingKeyHash : List Byte


/-- Whether Gulovora signed a TUN section: the spec names the signature and not its place (R60, R319; log entry 16). -/
opaque tunSigned : List Byte → Bool
/-- The number of a TUN section's protocol image, less 1 (R319; log entry 16). -/
opaque tunImage : List Byte → Fin 13
/-- It asks for nothing that its row does not list (R319; log entry 16). -/
opaque tunListed : List Byte → Bool
/-- Its parameters (R319; log entry 16). -/
opaque tunParams : List Byte → TunParams

/-- The MAC address that the fuses hold for a network port (R328). -/
opaque portMac : Nat → Nat

/-- PROFINET's byte of an IOPS or IOCS, GOOD or not (R320, R323); the spec gives the state and no code (log entry 86). -/
opaque ioxs : Bool → Byte

/-- A GOOSE quality made invalid (R323); the spec gives no code (log entry 86). -/
opaque invalidQuality : Nat → Nat
/-- Where in local memory above the code an area's SET lies, by the engine's code, whether it is an input SET, and its number:
the spec says only that the areas are there (R315; log entry 86). -/
opaque tunPlace : List Byte → Bool → Nat → Nat
/-- The queue of a frame that is not for the highest, by its 802.1Q priority, 8 untagged (R317; log entry 86). -/
opaque lowQueue : Nat → Fin 3
/-- Which CAN controller or UART it takes (R316; log entry 16). -/
opaque tunUnit : List Byte → Fin 2
/-- Its code part, at the low end of Tun local memory (R315; log entry 16). -/
opaque tunCode : List Byte → List Byte
/-- Its input SETs as they stand at activation, whose lengths are their areas' (R158, R322; log entry 16). -/
opaque tunInputs : List Byte → List (Nat × List Byte)
/-- What a flash copy reads as after a readback mismatch (R74). -/
opaque flashResidue : Nat → List Byte

end Sys2Proof.Config
end

