-- ==== Sys2Proof/Machine/Bits.lean ====
section
/-! DEFINITION. Bit fields, sign extension, byte order, rounding, the sparse table, and the CRCs the spec names. -/

namespace Sys2Proof.Machine

/-- Bits `hi` to `lo` of a number. -/
def bitsOf (v hi lo : Nat) : Nat := v / 2 ^ lo % 2 ^ (hi - lo + 1)

/-- Bit `i` of a number. -/
def bitOf (v i : Nat) : Bool := v / 2 ^ i % 2 == 1

/-- A word with bits `hi` to `lo` set to `x`. -/
def setBits (v hi lo x : Nat) : Nat :=
  v % 2 ^ lo + (x % 2 ^ (hi - lo + 1)) * 2 ^ lo + v / 2 ^ (hi + 1) * 2 ^ (hi + 1)

/-- One bit set or cleared. -/
def setBit (v i : Nat) (b : Bool) : Nat := setBits v i i b.toNat

/-- The two's complement reading of the low `w` bits. -/
def signed (w v : Nat) : Int :=
  let m := v % 2 ^ w
  if m < 2 ^ (w - 1) then (m : Int) else (m : Int) - (2 ^ w : Nat)

/-- The low `w` bits of an integer, as a number. -/
def unsigned (w : Nat) (i : Int) : Nat := (i % (2 ^ w : Nat)).toNat

/-- A count that stops at its highest value. -/
def satAdd (top a b : Nat) : Nat := Nat.min top (a + b)

/-- The little-endian value of a run of bytes (R7). -/
def leVal : List Byte → Nat
  | [] => 0
  | b :: bs => b.toNat + 256 * leVal bs

/-- The big-endian value of a run of bytes. -/
def beVal (bs : List Byte) : Nat := bs.foldl (fun acc b => acc * 256 + b.toNat) 0

/-- The little-endian bytes of a value, `k` of them (R7). -/
def leBytes : Nat → Nat → List Byte
  | 0, _ => []
  | k + 1, v => BitVec.ofNat 8 v :: leBytes k (v / 256)

/-- The big-endian bytes of a value, `k` of them. -/
def beBytes (k v : Nat) : List Byte := (leBytes k v).reverse

/-- The bytes of a payload from `off`, `k` of them; a byte the payload does not hold reads 0. -/
def takeAt (bs : List Byte) (off k : Nat) : List Byte :=
  let r := (bs.drop off).take k
  r ++ List.replicate (k - r.length) 0

/-- A little-endian field of a payload. -/
def leAt (bs : List Byte) (off k : Nat) : Nat := leVal (takeAt bs off k)

/-- Quotient rounded half away from zero. -/
def divRound (a b : Nat) : Nat := if b = 0 then 0 else (2 * a + b) / (2 * b)

/-- Signed quotient rounded half away from zero. -/
def divRoundInt (a : Int) (b : Nat) : Int :=
  if a < 0 then -(divRound a.natAbs b : Int) else (divRound a.natAbs b : Int)

/-- Quotient rounded up. -/
def divCeil (a b : Nat) : Nat := if b = 0 then 0 else (a + b - 1) / b

/-- The value of a key in a sparse table. -/
def tabFind {α : Type} : Tab α → Nat → Option α
  | [], _ => none
  | (k', v) :: t, k => if k' = k then some v else tabFind t k

/-- The value of a key, or the default where the table does not list it. -/
def tabGet {α : Type} (t : Tab α) (d : α) (k : Nat) : α := (tabFind t k).getD d

/-- A key put in at its place, its old entry replaced. -/
def tabInsert {α : Type} : Tab α → Nat → α → Tab α
  | [], k, v => [(k, v)]
  | (k', v') :: t, k, v =>
    if k < k' then (k, v) :: (k', v') :: t
    else if k = k' then (k, v) :: t
    else (k', v') :: tabInsert t k v

/-- A key taken out. -/
def tabErase {α : Type} (t : Tab α) (k : Nat) : Tab α := t.filter (fun p => p.1 != k)

/-- A key set to a value: an entry that would equal the default is not kept. -/
def tabPut {α : Type} [DecidableEq α] (t : Tab α) (d : α) (k : Nat) (v : α) : Tab α :=
  if v = d then tabErase t k else tabInsert t k v

/-- Keys strictly rising. -/
def tabRising {α : Type} : Tab α → Bool
  | [] => true
  | [_] => true
  | a :: b :: t => a.1 < b.1 && tabRising (b :: t)

/-- `List.range'` as the list of `k` numbers from `a`. -/
def upFrom (a k : Nat) : List Nat := (List.range k).map (a + ·)

/-- The largest `m` from 0 to `n` for which a falling property holds (0 if none). -/
def lastTrue (p : Nat → Bool) : Nat → Nat
  | 0 => 0
  | n + 1 => if p (n + 1) then n + 1 else lastTrue p n

/-- One byte into a reflected CRC of width up to 32. -/
def crcByteR (poly : Nat) (crc : Nat) (b : Byte) : Nat :=
  (List.range 8).foldl (fun c _ => if c % 2 == 1 then (c / 2) ^^^ poly else c / 2) (crc ^^^ b.toNat)

/-- CRC-32 of IEEE 802.3 (R50): polynomial 0x04C1_1DB7 reflected, initial and final 0xFFFF_FFFF. -/
def crc32 (bs : List Byte) : Nat := bs.foldl (crcByteR 0xEDB88320) 0xFFFFFFFF ^^^ 0xFFFFFFFF

/-- One byte into an unreflected CRC of `w` bits. -/
def crcByteL (w poly : Nat) (crc : Nat) (b : Byte) : Nat :=
  (List.range 8).foldl
    (fun c _ => if c / 2 ^ (w - 1) % 2 == 1 then (c * 2 % 2 ^ w) ^^^ poly else c * 2 % 2 ^ w)
    (crc ^^^ (b.toNat * 2 ^ (w - 8)))

end Sys2Proof.Machine
end

