-- ==== Sys2Proof/Machine/RegMap.lean ====
section
/-! DEFINITION. The register map of the device: one row for every register the chapters of spec/ describe,
with the bits, access code, reset value and stated range of each of its fields (R3, R4, R6), and a name for
every field. Channel rows stand at channel 0's address; channel n lies 0x1_0000 times n above (R23, R24). -/

namespace Sys2Proof.Machine

/-- Registers of SYS (01, 02, 03, 08, 10, 19, 23 of spec/). -/
def rowsSYS0 : List RegRow := [
  ⟨"SYS_ID", 0x40000000, 1, 4,
    [⟨15, 0, .ro, 37504, 0, 65535⟩, ⟨23, 16, .ro, 1, 0, 255⟩]⟩,
  ⟨"SYS_MODE", 0x40000004, 1, 4,
    [⟨2, 0, .ro, 0, 0, 7⟩, ⟨15, 8, .ro, 0, 0, 255⟩, ⟨16, 16, .ro, 0, 0, 1⟩,
     ⟨17, 17, .ro, 0, 0, 1⟩, ⟨31, 24, .ro, 0, 0, 255⟩]⟩,
  ⟨"SYS_CH_STATE", 0x40000008, 1, 4,
    [⟨31, 0, .ro, 0, 0, 4294967295⟩]⟩,
  ⟨"SYS_TICK_CFG", 0x40000040, 1, 4,
    [⟨11, 0, .rwx, 1000, 250, 4000⟩, ⟨14, 12, .rwx, 0, 0, 6⟩, ⟨15, 15, .rwx, 0, 0, 1⟩,
     ⟨23, 16, .rwx, 1, 1, 255⟩, ⟨24, 24, .rwx, 0, 0, 1⟩]⟩,
  ⟨"SYS_TICK_STAT", 0x40000044, 1, 4,
    [⟨1, 0, .ro, 0, 0, 3⟩, ⟨2, 2, .rs, 0, 0, 1⟩, ⟨15, 8, .ro, 0, 0, 255⟩,
     ⟨31, 16, .ro, 0, 0, 65535⟩]⟩,
  ⟨"SYS_IMG_STAT", 0x40000080, 1, 4,
    [⟨0, 0, .ro, 0, 0, 1⟩, ⟨3, 1, .ro, 0, 0, 7⟩, ⟨4, 4, .ro, 0, 0, 1⟩,
     ⟨5, 5, .rs, 0, 0, 1⟩, ⟨6, 6, .rs, 0, 0, 1⟩, ⟨15, 8, .ro, 0, 0, 255⟩,
     ⟨23, 16, .ro, 0, 0, 255⟩]⟩,
  ⟨"SYS_IMG_SERIAL", 0x40000084, 1, 4,
    [⟨31, 0, .ro, 0, 0, 4294967295⟩]⟩,
  ⟨"SYS_CFG_SESS", 0x40000088, 1, 4,
    [⟨1, 0, .ro, 0, 0, 3⟩, ⟨4, 2, .ro, 0, 0, 7⟩, ⟨28, 8, .ro, 0, 0, 2097151⟩]⟩,
  ⟨"SYS_IMG_CHSER", 0x400000a0, 8, 4,
    [⟨31, 0, .ro, 0, 0, 4294967295⟩]⟩,
  ⟨"SYS_BLINK", 0x400000c0, 1, 4,
    [⟨11, 0, .ro, 500, 0, 4095⟩, ⟨12, 12, .ro, 1, 0, 1⟩, ⟨13, 13, .ro, 1, 0, 1⟩]⟩,
  ⟨"SYS_DIM_CFG", 0x40000100, 1, 4,
    [⟨7, 0, .rwx, 2, 2, 255⟩, ⟨31, 16, .rwx, 65535, 0, 65535⟩]⟩,
  ⟨"SYS_DIM_LVL", 0x40000140, 16, 4,
    [⟨15, 0, .ro, 65535, 0, 65535⟩, ⟨24, 16, .ro, 0, 0, 511⟩]⟩,
  ⟨"SYS_DIM_INIT", 0x40000180, 16, 4,
    [⟨15, 0, .rwx, 65535, 0, 65535⟩]⟩,
  ⟨"SYS_DIM_VER", 0x400001c0, 16, 4,
    [⟨31, 0, .ro, 0, 0, 4294967295⟩]⟩,
  ⟨"SYS_DRING_CFG", 0x40000200, 1, 4,
    [⟨12, 0, .rw, 16, 0, 8191⟩, ⟨23, 16, .rw, 1, 0, 255⟩]⟩,
  ⟨"SYS_DRING_STAT", 0x40000204, 1, 4,
    [⟨12, 0, .ro, 0, 0, 8191⟩, ⟨13, 13, .ro, 0, 0, 1⟩, ⟨14, 14, .rs, 0, 0, 1⟩,
     ⟨15, 15, .ro, 0, 0, 1⟩, ⟨28, 16, .ro, 1024, 0, 8191⟩]⟩,
  ⟨"SYS_DRING_SEQ", 0x40000208, 1, 4,
    [⟨15, 0, .ro, 0, 0, 65535⟩, ⟨31, 16, .ro, 0, 0, 65535⟩]⟩,
  ⟨"SYS_DRING_DROPS", 0x4000020c, 1, 4,
    [⟨31, 0, .ro, 0, 0, 4294967295⟩]⟩,
  ⟨"SYS_RST_CTL", 0x40000300, 1, 4,
    [⟨0, 0, .wo, 0, 0, 1⟩, ⟨31, 16, .wo, 0, 0, 65535⟩]⟩,
  ⟨"SYS_BLK_RST", 0x40000304, 1, 4,
    [⟨3, 0, .rw, 0, 0, 15⟩, ⟨4, 4, .rw, 0, 0, 1⟩, ⟨5, 5, .rw, 0, 0, 1⟩,
     ⟨6, 6, .rw, 0, 0, 1⟩, ⟨7, 7, .rw, 0, 0, 1⟩, ⟨8, 8, .rw, 0, 0, 1⟩]⟩]

/-- Registers of SYS, continued. -/
def rowsSYS1 : List RegRow := [
  ⟨"SYS_WDT", 0x40000308, 1, 4,
    [⟨15, 0, .rwx, 50, 10, 1000⟩]⟩,
  ⟨"SYS_REL", 0x4000030c, 1, 4,
    [⟨3, 0, .ro, 0, 0, 15⟩, ⟨11, 4, .ro, 0, 0, 255⟩, ⟨12, 12, .ro, 0, 0, 1⟩]⟩,
  ⟨"SYS_BOOTSEL", 0x40000310, 1, 4,
    [⟨3, 0, .ro, 0, 0, 15⟩, ⟨4, 4, .ro, 0, 0, 1⟩, ⟨6, 5, .ro, 0, 0, 3⟩,
     ⟨8, 7, .ro, 0, 0, 3⟩, ⟨9, 9, .ro, 0, 0, 1⟩, ⟨10, 10, .ro, 0, 0, 1⟩,
     ⟨21, 12, .ro, 0, 0, 1023⟩]⟩,
  ⟨"SYS_TEMP", 0x40000380, 1, 4,
    [⟨7, 0, .ro, 0, 0, 255⟩, ⟨15, 8, .ro, 128, 0, 255⟩, ⟨16, 16, .ro, 0, 0, 1⟩,
     ⟨17, 17, .ro, 0, 0, 1⟩, ⟨18, 18, .rs, 0, 0, 1⟩, ⟨19, 19, .rs, 0, 0, 1⟩]⟩]

/-- All registers of SYS. -/
def rowsSYS : List RegRow := rowsSYS0 ++ rowsSYS1

/-- Registers of SEQ (02 of spec/). -/
def rowsSEQ : List RegRow := [
  ⟨"SEQ_CTL", 0x40100000, 1, 4,
    [⟨0, 0, .rwx, 0, 0, 1⟩, ⟨1, 1, .rwx, 0, 0, 1⟩, ⟨31, 31, .wo, 0, 0, 1⟩]⟩,
  ⟨"SEQ_CFG", 0x40100004, 1, 4,
    [⟨0, 0, .rwx, 0, 0, 1⟩, ⟨4, 1, .rwx, 0, 0, 15⟩, ⟨14, 8, .rwx, 0, 0, 64⟩]⟩,
  ⟨"SEQ_STAT", 0x40100008, 1, 4,
    [⟨5, 0, .ro, 0, 0, 63⟩, ⟨10, 8, .ro, 5, 0, 7⟩, ⟨15, 11, .ro, 0, 0, 31⟩,
     ⟨16, 16, .ro, 0, 0, 1⟩]⟩,
  ⟨"SEQ_ERR", 0x4010000c, 1, 4,
    [⟨0, 0, .rs, 0, 0, 1⟩, ⟨1, 1, .rs, 0, 0, 1⟩, ⟨2, 2, .rs, 0, 0, 1⟩,
     ⟨3, 3, .rs, 0, 0, 1⟩, ⟨4, 4, .rs, 0, 0, 1⟩, ⟨5, 5, .rs, 0, 0, 1⟩]⟩,
  ⟨"SEQ_DROPS", 0x40100010, 1, 4,
    [⟨15, 0, .ro, 0, 0, 65535⟩, ⟨31, 16, .ro, 0, 0, 65535⟩]⟩,
  ⟨"SEQ_MARGIN", 0x40100014, 1, 4,
    [⟨19, 0, .ro, 1048575, 0, 1048575⟩]⟩,
  ⟨"SEQ_FRAC", 0x40100018, 1, 4,
    [⟨15, 0, .ro, 0, 0, 65535⟩]⟩,
  ⟨"SEQ_SLOT", 0x40100100, 64, 4,
    [⟨2, 0, .rwx, 0, 0, 5⟩, ⟨23, 4, .rwx, 0, 0, 1048575⟩, ⟨26, 24, .rwx, 0, 0, 5⟩,
     ⟨27, 27, .rwx, 0, 0, 1⟩]⟩,
  ⟨"SEQ_ACT", 0x40100200, 64, 4,
    [⟨2, 0, .ro, 0, 0, 7⟩, ⟨23, 4, .ro, 0, 0, 1048575⟩, ⟨26, 24, .ro, 0, 0, 7⟩,
     ⟨27, 27, .ro, 0, 0, 1⟩]⟩]

/-- Registers of LINE (02 of spec/). -/
def rowsLINE : List RegRow := [
  ⟨"LINE_ROLE", 0x4010d000, 80, 4,
    [⟨2, 0, .rwx, 0, 0, 6⟩, ⟨3, 3, .rwx, 0, 0, 1⟩, ⟨6, 4, .rwx, 0, 0, 7⟩,
     ⟨13, 8, .rwx, 0, 0, 63⟩]⟩,
  ⟨"LINE_GPIO_OUT", 0x4010d200, 3, 4,
    [⟨31, 0, .rw, 0, 0, 4294967295⟩]⟩,
  ⟨"LINE_GPIO_OE", 0x4010d210, 3, 4,
    [⟨31, 0, .rw, 0, 0, 4294967295⟩]⟩,
  ⟨"LINE_GPIO_IN", 0x4010d220, 3, 4,
    [⟨31, 0, .ro, 0, 0, 4294967295⟩]⟩,
  ⟨"LINE_SUM", 0x4010d240, 1, 4,
    [⟨4, 0, .ro, 0, 0, 31⟩, ⟨11, 5, .ro, 0, 0, 127⟩, ⟨15, 12, .ro, 0, 0, 15⟩,
     ⟨19, 16, .ro, 0, 0, 15⟩, ⟨31, 31, .ro, 0, 0, 1⟩]⟩]

/-- Registers of KILN (04 of spec/). -/
def rowsKILN : List RegRow := [
  ⟨"KILN_CFG", 0x40101000, 1, 4,
    [⟨0, 0, .rwx, 0, 0, 1⟩, ⟨3, 1, .rwx, 4, 0, 4⟩, ⟨4, 4, .rwx, 0, 0, 1⟩,
     ⟨5, 5, .rwx, 0, 0, 1⟩, ⟨6, 6, .rwx, 1, 0, 1⟩, ⟨7, 7, .rwx, 1, 0, 1⟩]⟩,
  ⟨"KILN_VSET", 0x40101004, 1, 4,
    [⟨10, 0, .rw, 1000, 250, 1600⟩]⟩,
  ⟨"KILN_TC", 0x40101008, 1, 4,
    [⟨6, 0, .rwx, 0, 0, 120⟩, ⟨15, 8, .rwx, 25, 0, 255⟩]⟩,
  ⟨"KILN_BOOST", 0x4010100c, 1, 4,
    [⟨3, 0, .rwx, 8, 0, 15⟩, ⟨9, 4, .rwx, 20, 2, 63⟩]⟩,
  ⟨"KILN_STAT", 0x40101010, 1, 4,
    [⟨10, 0, .ro, 0, 0, 2047⟩, ⟨11, 11, .ro, 0, 0, 1⟩, ⟨12, 12, .rs, 0, 0, 1⟩,
     ⟨13, 13, .rs, 0, 0, 1⟩, ⟨14, 14, .rs, 0, 0, 1⟩, ⟨23, 16, .ro, 0, 0, 255⟩]⟩,
  ⟨"KILN_HOLDS", 0x40101014, 1, 4,
    [⟨15, 0, .ro, 0, 0, 65535⟩, ⟨25, 16, .ro, 0, 0, 1023⟩]⟩,
  ⟨"KILN_LEDGER_CFG", 0x40101020, 1, 4,
    [⟨6, 0, .rwx, 20, 1, 64⟩, ⟨15, 8, .rwx, 16, 1, 255⟩]⟩,
  ⟨"KILN_LEDGER_STAT", 0x40101024, 1, 4,
    [⟨23, 0, .ro, 0, 0, 16777215⟩, ⟨30, 24, .ro, 0, 0, 127⟩]⟩,
  ⟨"KILN_LEDGER_FLAGS", 0x40101028, 1, 4,
    [⟨0, 0, .rs, 0, 0, 1⟩, ⟨1, 1, .rs, 0, 0, 1⟩, ⟨2, 2, .rs, 0, 0, 1⟩]⟩,
  ⟨"KILN_AHALF", 0x4010102c, 1, 4,
    [⟨23, 0, .ro, 0, 0, 16777215⟩]⟩,
  ⟨"KILN_LEDGER_CTL", 0x40101030, 1, 4,
    [⟨0, 0, .wo, 0, 0, 1⟩]⟩,
  ⟨"KILN_ACC", 0x40101100, 80, 4,
    [⟨23, 0, .ro, 0, 0, 16777215⟩]⟩]

/-- Registers of LED (05 of spec/). -/
def rowsLED : List RegRow := [
  ⟨"LED_CFG", 0x40102000, 1, 4,
    [⟨8, 0, .rwx, 50, 10, 500⟩, ⟨17, 9, .rwx, 100, 0, 500⟩, ⟨18, 18, .rwx, 1, 0, 1⟩,
     ⟨19, 19, .rwx, 1, 0, 1⟩]⟩,
  ⟨"LED_PWR_CFG", 0x40102004, 1, 4,
    [⟨11, 0, .rwx, 600, 0, 1200⟩]⟩,
  ⟨"LED_PWR", 0x40102008, 1, 4,
    [⟨11, 0, .ro, 0, 0, 4095⟩, ⟨27, 16, .ro, 0, 0, 4095⟩]⟩,
  ⟨"LED_GOV", 0x4010200c, 1, 4,
    [⟨16, 0, .ro, 65536, 0, 131071⟩, ⟨17, 17, .ro, 0, 0, 1⟩]⟩,
  ⟨"LED_STAT", 0x40102010, 1, 4,
    [⟨0, 0, .rs, 0, 0, 1⟩, ⟨1, 1, .rs, 0, 0, 1⟩, ⟨2, 2, .rs, 0, 0, 1⟩,
     ⟨3, 3, .rs, 0, 0, 1⟩, ⟨4, 4, .rs, 0, 0, 1⟩, ⟨11, 8, .ro, 0, 0, 15⟩]⟩,
  ⟨"LED_CLASS", 0x40102040, 16, 4,
    [⟨15, 0, .rw, 65535, 0, 65535⟩, ⟨19, 16, .rw, 0, 0, 15⟩, ⟨20, 20, .rw, 0, 0, 1⟩]⟩,
  ⟨"LED_ISEG", 0x40102100, 64, 4,
    [⟨5, 0, .rwx, 0, 0, 63⟩]⟩,
  ⟨"LED_CLASSMAP", 0x40102400, 128, 4,
    [⟨31, 0, .rw, 0, 0, 4294967295⟩]⟩]

/-- Registers of INTEG (06 of spec/). -/
def rowsINTEG : List RegRow := [
  ⟨"INTEG_CFG", 0x40103000, 1, 4,
    [⟨0, 0, .rwx, 1, 0, 1⟩, ⟨1, 1, .rwx, 1, 0, 1⟩, ⟨2, 2, .rwx, 0, 0, 1⟩,
     ⟨3, 3, .rwx, 1, 0, 1⟩, ⟨4, 4, .rwx, 1, 0, 1⟩, ⟨15, 8, .rwx, 16, 8, 255⟩,
     ⟨17, 16, .rwx, 2, 0, 3⟩]⟩,
  ⟨"INTEG_CHAIN", 0x40103004, 1, 4,
    [⟨8, 0, .rwx, 0, 0, 511⟩]⟩,
  ⟨"INTEG_STAT", 0x40103008, 1, 4,
    [⟨10, 0, .ro, 0, 0, 2047⟩, ⟨18, 11, .ro, 0, 0, 255⟩, ⟨19, 19, .rs, 0, 0, 1⟩,
     ⟨20, 20, .ro, 0, 0, 1⟩, ⟨21, 21, .ro, 0, 0, 1⟩, ⟨22, 22, .rs, 0, 0, 1⟩]⟩,
  ⟨"INTEG_CLR", 0x4010300c, 1, 4,
    [⟨0, 0, .wo, 0, 0, 1⟩, ⟨1, 1, .wo, 0, 0, 1⟩, ⟨14, 8, .wo, 0, 0, 127⟩]⟩,
  ⟨"INTEG_LINE", 0x40103100, 80, 4,
    [⟨15, 0, .ro, 0, 0, 65535⟩, ⟨17, 16, .ro, 0, 0, 3⟩]⟩,
  ⟨"INTEG_BASE", 0x40103280, 80, 4,
    [⟨15, 0, .rwx, 0, 0, 65535⟩, ⟨16, 16, .ro, 0, 0, 1⟩]⟩,
  ⟨"INTEG_POL", 0x40103400, 128, 4,
    [⟨1, 0, .rwx, 0, 0, 3⟩, ⟨2, 2, .rwx, 1, 0, 1⟩, ⟨3, 3, .rwx, 0, 0, 1⟩,
     ⟨4, 4, .rwx, 0, 0, 1⟩, ⟨5, 5, .rwx, 0, 0, 1⟩, ⟨15, 6, .rwx, 0, 0, 1023⟩,
     ⟨31, 31, .ro, 0, 0, 1⟩]⟩,
  ⟨"INTEG_ELEM", 0x40103600, 64, 4,
    [⟨31, 0, .ro, 0, 0, 4294967295⟩]⟩]

/-- Registers of MASH (07 of spec/). -/
def rowsMASH : List RegRow := [
  ⟨"MASH_CFG", 0x4010c000, 1, 4,
    [⟨0, 0, .rwx, 0, 0, 1⟩, ⟨1, 1, .rwx, 1, 0, 1⟩]⟩,
  ⟨"MASH_STAT", 0x4010c004, 1, 4,
    [⟨0, 0, .ro, 0, 0, 1⟩, ⟨1, 1, .ro, 0, 0, 1⟩, ⟨8, 2, .ro, 0, 0, 127⟩,
     ⟨17, 9, .ro, 0, 0, 511⟩]⟩,
  ⟨"MASH_ERR", 0x4010c008, 1, 4,
    [⟨0, 0, .rs, 0, 0, 1⟩, ⟨1, 1, .rs, 0, 0, 1⟩, ⟨2, 2, .rs, 0, 0, 1⟩,
     ⟨3, 3, .rs, 0, 0, 1⟩, ⟨4, 4, .rs, 0, 0, 1⟩, ⟨5, 5, .rs, 0, 0, 1⟩]⟩,
  ⟨"MASH_CNT", 0x4010c00c, 1, 4,
    [⟨15, 0, .ro, 0, 0, 65535⟩, ⟨31, 16, .ro, 0, 0, 65535⟩]⟩,
  ⟨"MASH_SWAPS", 0x4010c010, 1, 4,
    [⟨31, 0, .ro, 0, 0, 4294967295⟩]⟩,
  ⟨"MASH_FSTAT", 0x4010c100, 128, 4,
    [⟨2, 0, .ro, 4, 0, 7⟩, ⟨3, 3, .ro, 0, 0, 1⟩, ⟨23, 8, .ro, 0, 0, 65535⟩]⟩,
  ⟨"MASH_OWN", 0x4010c400, 32, 4,
    [⟨31, 0, .ro, 0, 0, 4294967295⟩]⟩]

/-- Registers of BLINK (08 of spec/). -/
def rowsBLINK : List RegRow := [
  ⟨"BLINK_CFG", 0x4010b000, 1, 4,
    [⟨0, 0, .rwx, 1, 0, 1⟩]⟩,
  ⟨"BLINK_STAT", 0x4010b004, 1, 4,
    [⟨8, 0, .ro, 0, 0, 511⟩, ⟨17, 9, .ro, 0, 0, 511⟩, ⟨26, 18, .ro, 0, 0, 511⟩]⟩,
  ⟨"BLINK_ERR", 0x4010b008, 1, 4,
    [⟨0, 0, .rs, 0, 0, 1⟩, ⟨1, 1, .rs, 0, 0, 1⟩]⟩,
  ⟨"BLINK_GRP_T", 0x4010b040, 8, 8,
    [⟨15, 0, .rw, 1000, 2, 65535⟩, ⟨31, 16, .rw, 500, 0, 65535⟩]⟩,
  ⟨"BLINK_GRP_C", 0x4010b044, 8, 8,
    [⟨15, 0, .rw, 0, 0, 65535⟩, ⟨17, 16, .rw, 3, 0, 3⟩]⟩,
  ⟨"BLINK_ACK", 0x4010b080, 8, 4,
    [⟨8, 0, .rwx, 0, 0, 511⟩, ⟨9, 9, .rwx, 0, 0, 1⟩, ⟨23, 16, .rwx, 0, 0, 255⟩]⟩,
  ⟨"BLINK_DIMENC", 0x4010b0a0, 2, 4,
    [⟨0, 0, .rwx, 0, 0, 1⟩, ⟨4, 1, .rwx, 0, 0, 15⟩, ⟨15, 8, .rwx, 8, 1, 255⟩,
     ⟨31, 16, .rwx, 0, 0, 65535⟩]⟩,
  ⟨"BLINK_FIELD", 0x4010b100, 16, 4,
    [⟨31, 0, .rw, 0, 0, 4294967295⟩]⟩,
  ⟨"BLINK_ELEM", 0x4010b200, 128, 4,
    [⟨31, 0, .rw, 0, 0, 4294967295⟩]⟩,
  ⟨"BLINK_ALST", 0x4010b400, 16, 4,
    [⟨31, 0, .ro, 0, 0, 4294967295⟩]⟩,
  ⟨"BLINK_ALCOND", 0x4010b440, 8, 4,
    [⟨31, 0, .ro, 0, 0, 4294967295⟩]⟩,
  ⟨"BLINK_DIMD", 0x4010b480, 16, 4,
    [⟨15, 0, .ro, 65535, 0, 65535⟩, ⟨31, 16, .ro, 65535, 0, 65535⟩]⟩]

/-- Registers of GRIST (09 of spec/). -/
def rowsGRIST : List RegRow := [
  ⟨"GRIST_CFG", 0x40104000, 1, 4,
    [⟨5, 0, .rwx, 8, 2, 50⟩, ⟨7, 6, .rwx, 0, 0, 3⟩, ⟨8, 8, .rwx, 0, 0, 1⟩,
     ⟨9, 9, .rwx, 1, 0, 1⟩]⟩,
  ⟨"GRIST_LADDER", 0x40104004, 1, 4,
    [⟨7, 0, .rwx, 0, 0, 255⟩, ⟨15, 8, .ro, 0, 0, 255⟩]⟩,
  ⟨"GRIST_DEB", 0x40104008, 1, 4,
    [⟨3, 0, .rwx, 2, 1, 15⟩, ⟨7, 4, .rwx, 3, 1, 15⟩]⟩,
  ⟨"GRIST_WIN", 0x4010400c, 1, 4,
    [⟨7, 0, .rwx, 12, 0, 255⟩, ⟨15, 8, .rwx, 22, 0, 255⟩, ⟨23, 16, .rwx, 20, 0, 255⟩,
     ⟨31, 24, .rwx, 70, 0, 255⟩]⟩,
  ⟨"GRIST_RELAY", 0x40104010, 1, 4,
    [⟨9, 0, .rwx, 72, 0, 1023⟩, ⟨26, 16, .rwx, 1100, 0, 2047⟩]⟩,
  ⟨"GRIST_NONE", 0x40104014, 1, 4,
    [⟨11, 0, .rwx, 3891, 0, 4095⟩]⟩,
  ⟨"GRIST_CONT", 0x40104018, 1, 4,
    [⟨11, 0, .rwx, 64, 16, 4095⟩]⟩,
  ⟨"GRIST_CONT_BAND", 0x4010401c, 1, 4,
    [⟨11, 0, .rwx, 2185, 0, 4095⟩, ⟨27, 16, .rwx, 3277, 0, 4095⟩]⟩,
  ⟨"GRIST_STAT", 0x40104020, 1, 4,
    [⟨15, 0, .ro, 0, 0, 65535⟩, ⟨18, 16, .ro, 0, 0, 7⟩, ⟨19, 19, .ro, 0, 0, 1⟩,
     ⟨20, 20, .ro, 0, 0, 1⟩, ⟨21, 21, .ro, 0, 0, 1⟩, ⟨22, 22, .ro, 0, 0, 1⟩]⟩,
  ⟨"GRIST_ERR", 0x40104024, 1, 4,
    [⟨0, 0, .rs, 0, 0, 1⟩, ⟨1, 1, .rs, 0, 0, 1⟩, ⟨2, 2, .rs, 0, 0, 1⟩,
     ⟨3, 3, .rs, 0, 0, 1⟩, ⟨4, 4, .rs, 0, 0, 1⟩]⟩,
  ⟨"GRIST_CNT", 0x40104028, 1, 4,
    [⟨11, 0, .ro, 0, 0, 4095⟩, ⟨21, 12, .ro, 0, 0, 1023⟩, ⟨31, 22, .ro, 0, 0, 1023⟩]⟩,
  ⟨"GRIST_KEYS", 0x40104100, 16, 4,
    [⟨31, 0, .ro, 0, 0, 4294967295⟩]⟩,
  ⟨"GRIST_HIDDEN", 0x40104140, 16, 4,
    [⟨31, 0, .ro, 0, 0, 4294967295⟩]⟩,
  ⟨"GRIST_DRV", 0x40104300, 8, 4,
    [⟨11, 0, .ro, 0, 0, 4095⟩, ⟨23, 12, .ro, 0, 0, 4095⟩, ⟨25, 24, .ro, 0, 0, 3⟩]⟩,
  ⟨"GRIST_READ", 0x40104400, 64, 4,
    [⟨11, 0, .ro, 0, 0, 4095⟩, ⟨23, 12, .ro, 0, 0, 4095⟩, ⟨27, 24, .ro, 0, 0, 15⟩,
     ⟨31, 28, .ro, 0, 0, 15⟩]⟩]

/-- Registers of CASK (10 of spec/). -/
def rowsCASK : List RegRow := [
  ⟨"CASK_CFG", 0x40106000, 1, 4,
    [⟨12, 0, .rw, 16, 0, 8191⟩, ⟨23, 16, .rw, 1, 0, 255⟩]⟩,
  ⟨"CASK_STAT", 0x40106004, 1, 4,
    [⟨12, 0, .ro, 0, 0, 8191⟩, ⟨13, 13, .ro, 0, 0, 1⟩, ⟨14, 14, .rs, 0, 0, 1⟩,
     ⟨15, 15, .ro, 0, 0, 1⟩, ⟨28, 16, .ro, 0, 0, 8191⟩]⟩,
  ⟨"CASK_SEQ", 0x40106008, 1, 4,
    [⟨15, 0, .ro, 0, 0, 65535⟩, ⟨31, 16, .ro, 0, 0, 65535⟩]⟩,
  ⟨"CASK_DROPS", 0x4010600c, 1, 4,
    [⟨31, 0, .ro, 0, 0, 4294967295⟩]⟩,
  ⟨"CASK_COMPAT", 0x40106010, 1, 4,
    [⟨0, 0, .rwx, 0, 0, 1⟩, ⟨3, 1, .rwx, 0, 0, 7⟩, ⟨8, 4, .ro, 0, 0, 31⟩,
     ⟨9, 9, .rs, 0, 0, 1⟩]⟩,
  ⟨"CASK_KCLASS", 0x40106040, 4, 4,
    [⟨11, 0, .rw, 500, 0, 4095⟩, ⟨21, 12, .rw, 100, 10, 1000⟩, ⟨22, 22, .rw, 1, 0, 1⟩,
     ⟨23, 23, .rw, 1, 0, 1⟩]⟩,
  ⟨"CASK_KMAP", 0x40106100, 32, 4,
    [⟨31, 0, .rw, 0, 0, 4294967295⟩]⟩]

/-- Registers of ENC (10 of spec/). -/
def rowsENC : List RegRow := [
  ⟨"ENC_CFG", 0x40105000, 2, 4,
    [⟨0, 0, .rw, 0, 0, 1⟩, ⟨2, 1, .rw, 2, 0, 2⟩, ⟨4, 3, .rw, 0, 0, 3⟩,
     ⟨5, 5, .rw, 0, 0, 1⟩, ⟨6, 6, .rw, 0, 0, 1⟩]⟩,
  ⟨"ENC_ACC", 0x40105008, 1, 4,
    [⟨7, 0, .rw, 15, 0, 255⟩, ⟨11, 8, .rw, 4, 1, 15⟩, ⟨23, 16, .rw, 40, 0, 255⟩,
     ⟨27, 24, .rw, 2, 1, 15⟩]⟩,
  ⟨"ENC_POS", 0x40105010, 2, 4,
    [⟨15, 0, .ro, 0, 0, 65535⟩, ⟨31, 16, .ro, 0, 0, 65535⟩]⟩,
  ⟨"ENC_STAT", 0x40105018, 1, 4,
    [⟨0, 0, .rs, 0, 0, 1⟩, ⟨1, 1, .rs, 0, 0, 1⟩, ⟨2, 2, .ro, 0, 0, 1⟩,
     ⟨3, 3, .ro, 0, 0, 1⟩, ⟨7, 4, .ro, 0, 0, 15⟩]⟩]

/-- Registers of LAMP (11 of spec/). -/
def rowsLAMP : List RegRow := [
  ⟨"LAMP_CFG", 0x40107000, 1, 4,
    [⟨0, 0, .rwx, 0, 0, 1⟩, ⟨1, 1, .rwx, 1, 0, 1⟩, ⟨2, 2, .rwx, 1, 0, 1⟩,
     ⟨13, 3, .rwx, 64, 16, 1024⟩, ⟨25, 14, .rwx, 0, 0, 4095⟩]⟩,
  ⟨"LAMP_SRC", 0x40107004, 1, 4,
    [⟨9, 0, .rwx, 0, 0, 1023⟩, ⟨19, 10, .rwx, 350, 1, 1000⟩]⟩,
  ⟨"LAMP_GOV_CFG", 0x40107008, 1, 4,
    [⟨9, 0, .rwx, 375, 0, 1000⟩]⟩,
  ⟨"LAMP_GOV", 0x4010700c, 1, 4,
    [⟨16, 0, .ro, 65536, 0, 131071⟩, ⟨17, 17, .ro, 0, 0, 1⟩, ⟨27, 18, .ro, 0, 0, 1023⟩]⟩,
  ⟨"LAMP_PWR", 0x40107010, 1, 4,
    [⟨11, 0, .ro, 0, 0, 4095⟩, ⟨27, 16, .ro, 0, 0, 4095⟩]⟩,
  ⟨"LAMP_STAT", 0x40107014, 1, 4,
    [⟨0, 0, .rs, 0, 0, 1⟩, ⟨1, 1, .rs, 0, 0, 1⟩, ⟨2, 2, .rs, 0, 0, 1⟩,
     ⟨3, 3, .rs, 0, 0, 1⟩, ⟨4, 4, .rs, 0, 0, 1⟩, ⟨5, 5, .rs, 0, 0, 1⟩,
     ⟨6, 6, .rs, 0, 0, 1⟩, ⟨7, 7, .rs, 0, 0, 1⟩, ⟨8, 8, .ro, 0, 0, 1⟩,
     ⟨9, 9, .ro, 0, 0, 1⟩]⟩,
  ⟨"LAMP_FNFAIL", 0x40107018, 1, 4,
    [⟨31, 0, .ro, 0, 0, 4294967295⟩]⟩,
  ⟨"LAMP_FNOFF", 0x4010701c, 1, 4,
    [⟨31, 0, .ro, 0, 0, 4294967295⟩]⟩,
  ⟨"LAMP_CLR", 0x40107020, 1, 4,
    [⟨0, 0, .wo, 0, 0, 1⟩, ⟨1, 1, .wo, 0, 0, 1⟩, ⟨12, 8, .wo, 0, 0, 31⟩]⟩,
  ⟨"LAMP_FORCE", 0x40107024, 1, 4,
    [⟨0, 0, .rwx, 0, 0, 1⟩, ⟨12, 1, .rwx, 0, 0, 4095⟩]⟩,
  ⟨"LAMP_DEM", 0x40107100, 32, 4,
    [⟨15, 0, .rw, 0, 0, 65535⟩]⟩,
  ⟨"LAMP_LST", 0x40107200, 12, 4,
    [⟨1, 0, .ro, 3, 0, 3⟩, ⟨2, 2, .ro, 0, 0, 1⟩, ⟨3, 3, .ro, 0, 0, 1⟩,
     ⟨4, 4, .ro, 0, 0, 1⟩, ⟨15, 5, .ro, 0, 0, 2047⟩, ⟨27, 16, .ro, 0, 0, 4095⟩]⟩]

/-- Registers of TAP (12 of spec/). -/
def rowsTAP : List RegRow := [
  ⟨"TAP_CFG", 0x40108000, 2, 32,
    [⟨0, 0, .rwx, 0, 0, 1⟩, ⟨1, 1, .rwx, 0, 0, 1⟩, ⟨2, 2, .rwx, 0, 0, 1⟩,
     ⟨11, 3, .rwx, 100, 50, 400⟩, ⟨15, 12, .rwx, 0, 0, 15⟩, ⟨23, 16, .rwx, 8, 1, 255⟩,
     ⟨27, 24, .rwx, 1, 0, 15⟩]⟩,
  ⟨"TAP_GEN", 0x40108004, 2, 32,
    [⟨8, 0, .rwx, 25, 0, 511⟩, ⟨17, 9, .rwx, 75, 0, 511⟩, ⟨19, 18, .rwx, 1, 0, 2⟩,
     ⟨23, 20, .rwx, 15, 0, 15⟩, ⟨24, 24, .rwx, 0, 0, 1⟩, ⟨25, 25, .rwx, 0, 0, 1⟩]⟩,
  ⟨"TAP_STAT", 0x40108008, 2, 32,
    [⟨0, 0, .ro, 0, 0, 1⟩, ⟨1, 1, .ro, 0, 0, 1⟩, ⟨2, 2, .rs, 0, 0, 1⟩,
     ⟨3, 3, .rs, 0, 0, 1⟩, ⟨4, 4, .rs, 0, 0, 1⟩, ⟨11, 8, .ro, 0, 0, 15⟩,
     ⟨20, 16, .ro, 31, 0, 31⟩, ⟨25, 21, .ro, 0, 0, 31⟩]⟩,
  ⟨"TAP_CNT", 0x4010800c, 2, 32,
    [⟨15, 0, .ro, 0, 0, 65535⟩, ⟨31, 16, .ro, 0, 0, 65535⟩]⟩,
  ⟨"TAP_RAW", 0x40108010, 2, 32,
    [⟨0, 0, .rwx, 0, 0, 1⟩, ⟨12, 1, .rwx, 0, 0, 4095⟩, ⟨23, 13, .rwx, 0, 0, 2047⟩]⟩,
  ⟨"TAP_NODE", 0x40108100, 32, 4,
    [⟨15, 0, .ro, 0, 0, 65535⟩, ⟨31, 16, .ro, 0, 0, 65535⟩]⟩]

/-- Registers of PSQ (13 of spec/). -/
def rowsPSQ : List RegRow := [
  ⟨"PSQ_CTL", 0x40109000, 1, 4,
    [⟨3, 0, .rwx, 0, 0, 15⟩, ⟨7, 4, .rwx, 0, 0, 15⟩, ⟨11, 8, .wo, 0, 0, 15⟩]⟩,
  ⟨"PSQ_STAT", 0x40109004, 1, 4,
    [⟨3, 0, .ro, 0, 0, 15⟩, ⟨7, 4, .ro, 0, 0, 15⟩, ⟨11, 8, .ro, 0, 0, 15⟩,
     ⟨15, 12, .ro, 0, 0, 15⟩, ⟨19, 16, .ro, 0, 0, 15⟩]⟩,
  ⟨"PSQ_CLKDIV", 0x40109040, 4, 64,
    [⟨15, 0, .rwx, 1, 1, 65535⟩]⟩,
  ⟨"PSQ_PINCLS", 0x40109044, 4, 64,
    [⟨1, 0, .rwx, 0, 0, 3⟩, ⟨3, 2, .rwx, 0, 0, 3⟩, ⟨5, 4, .rwx, 0, 0, 3⟩,
     ⟨7, 6, .rwx, 0, 0, 3⟩, ⟨9, 8, .rwx, 0, 0, 3⟩, ⟨11, 10, .rwx, 0, 0, 3⟩,
     ⟨13, 12, .rwx, 0, 0, 3⟩, ⟨15, 14, .rwx, 0, 0, 3⟩, ⟨17, 16, .rwx, 0, 0, 3⟩,
     ⟨19, 18, .rwx, 0, 0, 3⟩, ⟨21, 20, .rwx, 0, 0, 3⟩, ⟨23, 22, .rwx, 0, 0, 3⟩,
     ⟨25, 24, .rwx, 0, 0, 3⟩, ⟨27, 26, .rwx, 0, 0, 3⟩, ⟨29, 28, .rwx, 0, 0, 3⟩,
     ⟨31, 30, .rwx, 0, 0, 3⟩]⟩,
  ⟨"PSQ_SHCFG", 0x40109048, 4, 64,
    [⟨0, 0, .rwx, 0, 0, 1⟩, ⟨1, 1, .rwx, 0, 0, 1⟩, ⟨2, 2, .rwx, 0, 0, 1⟩,
     ⟨3, 3, .rwx, 0, 0, 1⟩, ⟨8, 4, .rwx, 0, 0, 31⟩, ⟨13, 10, .rwx, 0, 0, 15⟩,
     ⟨17, 14, .rwx, 0, 0, 15⟩, ⟨18, 18, .rwx, 0, 0, 1⟩, ⟨19, 19, .rwx, 0, 0, 1⟩,
     ⟨20, 20, .rwx, 0, 0, 1⟩, ⟨27, 24, .rwx, 0, 0, 8⟩]⟩,
  ⟨"PSQ_LOOP", 0x4010904c, 4, 64,
    [⟨5, 0, .rwx, 0, 0, 63⟩, ⟨13, 8, .rwx, 63, 0, 63⟩, ⟨21, 16, .ro, 0, 0, 63⟩,
     ⟨29, 24, .ro, 63, 0, 63⟩]⟩,
  ⟨"PSQ_WIN", 0x40109050, 4, 64,
    [⟨11, 0, .rwx, 0, 0, 4095⟩, ⟨27, 16, .rwx, 0, 0, 4095⟩]⟩,
  ⟨"PSQ_STATE", 0x40109054, 4, 64,
    [⟨5, 0, .rwx, 0, 0, 63⟩, ⟨6, 6, .ro, 0, 0, 1⟩, ⟨13, 8, .ro, 0, 0, 63⟩,
     ⟨19, 16, .ro, 0, 0, 15⟩, ⟨25, 20, .ro, 0, 0, 63⟩, ⟨31, 26, .ro, 0, 0, 63⟩]⟩,
  ⟨"PSQ_GTR", 0x40109058, 4, 64,
    [⟨31, 0, .ro, 0, 0, 4294967295⟩]⟩,
  ⟨"PSQ_SPR", 0x4010905c, 4, 64,
    [⟨31, 0, .ro, 0, 0, 4294967295⟩]⟩,
  ⟨"PSQ_CTR", 0x40109060, 4, 64,
    [⟨31, 0, .ro, 0, 0, 4294967295⟩]⟩,
  ⟨"PSQ_PASSES", 0x40109074, 4, 64,
    [⟨15, 0, .ro, 0, 0, 65535⟩]⟩,
  ⟨"PSQ_FSTAT", 0x40109064, 4, 64,
    [⟨3, 0, .ro, 0, 0, 15⟩, ⟨7, 4, .ro, 0, 0, 15⟩, ⟨15, 8, .ro, 0, 0, 255⟩,
     ⟨16, 16, .rs, 0, 0, 1⟩, ⟨17, 17, .rs, 0, 0, 1⟩, ⟨18, 18, .rs, 0, 0, 1⟩,
     ⟨19, 19, .rs, 0, 0, 1⟩, ⟨20, 20, .rs, 0, 0, 1⟩]⟩,
  ⟨"PSQ_TX", 0x40109068, 4, 64,
    [⟨31, 0, .wo, 0, 0, 4294967295⟩]⟩,
  ⟨"PSQ_RX", 0x4010906c, 4, 64,
    [⟨31, 0, .ro, 0, 0, 4294967295⟩]⟩,
  ⟨"PSQ_RXACK", 0x40109070, 4, 64,
    [⟨7, 0, .wo, 0, 0, 255⟩]⟩,
  ⟨"PSQ_IMEM", 0x40109400, 256, 4,
    [⟨15, 0, .rwx, 0, 0, 65535⟩]⟩]

/-- Registers of HOST (14 of spec/). -/
def rowsHOST : List RegRow := [
  ⟨"HOST_CFG", 0x40010000, 1, 4,
    [⟨0, 0, .ro, 0, 0, 1⟩, ⟨2, 1, .rw, 0, 0, 2⟩, ⟨3, 3, .rwx, 0, 0, 1⟩]⟩,
  ⟨"HOST_STAT", 0x40010004, 1, 4,
    [⟨0, 0, .ro, 0, 0, 1⟩, ⟨1, 1, .ro, 0, 0, 1⟩, ⟨15, 8, .ro, 0, 0, 255⟩,
     ⟨31, 16, .ro, 0, 0, 65535⟩]⟩,
  ⟨"HOST_ERR", 0x40010008, 1, 4,
    [⟨0, 0, .rs, 0, 0, 1⟩, ⟨1, 1, .rs, 0, 0, 1⟩, ⟨2, 2, .rs, 0, 0, 1⟩,
     ⟨3, 3, .rs, 0, 0, 1⟩, ⟨4, 4, .rs, 0, 0, 1⟩, ⟨5, 5, .rs, 0, 0, 1⟩,
     ⟨6, 6, .rs, 0, 0, 1⟩]⟩,
  ⟨"HOST_ATTN", 0x4001000c, 1, 4,
    [⟨8, 0, .rw, 511, 0, 511⟩, ⟨24, 16, .ro, 0, 0, 511⟩]⟩,
  ⟨"HOST_RESP", 0x40010010, 1, 4,
    [⟨7, 0, .ro, 0, 0, 255⟩, ⟨8, 8, .ro, 0, 0, 1⟩, ⟨9, 9, .ro, 0, 0, 1⟩,
     ⟨10, 10, .ro, 0, 0, 1⟩, ⟨31, 16, .ro, 0, 0, 65535⟩]⟩,
  ⟨"HOST_EMU", 0x40010014, 1, 4,
    [⟨2, 0, .rwx, 0, 0, 7⟩, ⟨6, 3, .rwx, 0, 0, 15⟩, ⟨9, 7, .rwx, 7, 0, 7⟩,
     ⟨26, 16, .rwx, 1000, 0, 2047⟩]⟩,
  ⟨"HOST_CNT", 0x40010018, 1, 4,
    [⟨15, 0, .ro, 0, 0, 65535⟩, ⟨31, 16, .ro, 0, 0, 65535⟩]⟩]

/-- Registers of TUN (15 of spec/). -/
def rowsTUN : List RegRow := [
  ⟨"TUN_CTL", 0x40080000, 1, 4,
    [⟨3, 0, .ro, 0, 0, 15⟩, ⟨5, 4, .rwx, 0, 0, 3⟩, ⟨19, 8, .rwx, 0, 0, 4000⟩]⟩,
  ⟨"TUN_STAT", 0x40080010, 4, 4,
    [⟨3, 0, .ro, 0, 0, 15⟩, ⟨5, 4, .ro, 0, 0, 3⟩, ⟨6, 6, .ro, 0, 0, 1⟩]⟩,
  ⟨"TUN_ERR", 0x40080020, 4, 4,
    [⟨0, 0, .rs, 0, 0, 1⟩, ⟨1, 1, .rs, 0, 0, 1⟩, ⟨2, 2, .rs, 0, 0, 1⟩]⟩,
  ⟨"TUN_CNT", 0x40080030, 4, 4,
    [⟨15, 0, .ro, 0, 0, 65535⟩, ⟨31, 16, .ro, 0, 0, 65535⟩]⟩]

/-- Registers of NET (15 of spec/). -/
def rowsNET : List RegRow := [
  ⟨"NET_PORT", 0x40070000, 2, 4,
    [⟨1, 0, .rwx, 0, 0, 2⟩, ⟨8, 8, .ro, 0, 0, 1⟩, ⟨10, 9, .ro, 0, 0, 3⟩]⟩,
  ⟨"NET_PTP_CFG", 0x40070020, 1, 4,
    [⟨0, 0, .rwx, 0, 0, 1⟩, ⟨1, 1, .rwx, 0, 0, 1⟩, ⟨2, 2, .rwx, 0, 0, 1⟩,
     ⟨3, 3, .rwx, 0, 0, 1⟩, ⟨15, 8, .rwx, 0, 0, 255⟩]⟩,
  ⟨"NET_PTP_CYC", 0x40070024, 1, 4,
    [⟨19, 0, .rwx, 1000, 250, 1020000⟩]⟩,
  ⟨"NET_PTP_OFS", 0x40070028, 1, 4,
    [⟨29, 0, .rwx, 0, 0, 1073741823⟩]⟩,
  ⟨"NET_PTP_STAT", 0x4007002c, 1, 4,
    [⟨1, 0, .ro, 0, 0, 3⟩, ⟨31, 16, .ro, 0, 0, 65535⟩]⟩]

/-- Registers of RHL (16 of spec/). -/
def rowsRHL : List RegRow := [
  ⟨"RHL_CFG", 0x40050000, 1, 4,
    [⟨0, 0, .rwx, 0, 0, 1⟩, ⟨1, 1, .rwx, 0, 0, 1⟩, ⟨4, 2, .rwx, 0, 0, 7⟩,
     ⟨5, 5, .rwx, 0, 0, 1⟩, ⟨24, 16, .rwx, 0, 0, 510⟩]⟩,
  ⟨"RHL_STAT", 0x40050004, 1, 4,
    [⟨2, 0, .ro, 0, 0, 7⟩, ⟨7, 4, .ro, 0, 0, 15⟩, ⟨8, 8, .ro, 0, 0, 1⟩,
     ⟨24, 16, .ro, 0, 0, 511⟩]⟩,
  ⟨"RHL_UID_LO", 0x40050008, 1, 4,
    [⟨31, 0, .ro, 0, 0, 4294967295⟩]⟩,
  ⟨"RHL_UID_HI", 0x4005000c, 1, 4,
    [⟨31, 0, .ro, 0, 0, 4294967295⟩]⟩,
  ⟨"RHL_PORT", 0x40050010, 3, 4,
    [⟨0, 0, .ro, 0, 0, 1⟩, ⟨1, 1, .ro, 0, 0, 1⟩, ⟨2, 2, .ro, 0, 0, 1⟩,
     ⟨12, 4, .ro, 0, 0, 511⟩, ⟨31, 16, .ro, 0, 0, 65535⟩]⟩,
  ⟨"RHL_DECL", 0x40050020, 3, 4,
    [⟨15, 0, .rwx, 0, 0, 65535⟩]⟩,
  ⟨"RHL_TIME", 0x40050030, 1, 4,
    [⟨15, 0, .ro, 0, 0, 65535⟩]⟩,
  ⟨"RHL_SUBTICK", 0x40050034, 1, 4,
    [⟨21, 0, .ro, 0, 0, 4194303⟩]⟩,
  ⟨"RHL_ERR", 0x40050038, 1, 4,
    [⟨0, 0, .rs, 0, 0, 1⟩, ⟨1, 1, .rs, 0, 0, 1⟩, ⟨2, 2, .rs, 0, 0, 1⟩,
     ⟨3, 3, .rs, 0, 0, 1⟩, ⟨4, 4, .rs, 0, 0, 1⟩, ⟨5, 5, .rs, 0, 0, 1⟩,
     ⟨6, 6, .rs, 0, 0, 1⟩]⟩,
  ⟨"RHL_CNT", 0x4005003c, 1, 4,
    [⟨15, 0, .ro, 0, 0, 65535⟩, ⟨31, 16, .ro, 0, 0, 65535⟩]⟩,
  ⟨"RHL_WORST", 0x40050040, 1, 4,
    [⟨23, 0, .ro, 0, 0, 16777215⟩]⟩,
  ⟨"RHL_PUB_A", 0x40050100, 64, 8,
    [⟨11, 0, .rwx, 0, 0, 4095⟩, ⟨12, 12, .rwx, 0, 0, 1⟩, ⟨13, 13, .rwx, 0, 0, 1⟩,
     ⟨25, 16, .rwx, 0, 0, 1023⟩]⟩,
  ⟨"RHL_PUB_B", 0x40050104, 64, 8,
    [⟨8, 0, .rwx, 511, 0, 511⟩, ⟨23, 16, .rwx, 1, 1, 255⟩]⟩,
  ⟨"RHL_ROUTE", 0x40050400, 32, 4,
    [⟨31, 0, .ro, 0, 0, 4294967295⟩]⟩]

/-- Registers of PAIR (17 of spec/). -/
def rowsPAIR : List RegRow := [
  ⟨"PAIR_CFG", 0x40060000, 1, 4,
    [⟨0, 0, .rwx, 0, 0, 1⟩, ⟨2, 1, .ro, 0, 0, 3⟩, ⟨15, 8, .rwx, 0, 0, 255⟩,
     ⟨25, 16, .rwx, 200, 20, 500⟩]⟩,
  ⟨"PAIR_STAT", 0x40060004, 1, 4,
    [⟨0, 0, .ro, 0, 0, 1⟩, ⟨1, 1, .ro, 0, 0, 1⟩, ⟨15, 8, .ro, 0, 0, 255⟩,
     ⟨23, 16, .ro, 0, 0, 255⟩, ⟨31, 24, .rs, 0, 0, 255⟩]⟩,
  ⟨"PAIR_HAND", 0x40060008, 1, 4,
    [⟨7, 0, .wo, 0, 0, 255⟩]⟩,
  ⟨"PAIR_ERR", 0x4006000c, 1, 4,
    [⟨0, 0, .rs, 0, 0, 1⟩, ⟨1, 1, .rs, 0, 0, 1⟩, ⟨2, 2, .rs, 0, 0, 1⟩,
     ⟨3, 3, .rs, 0, 0, 1⟩, ⟨4, 4, .rs, 0, 0, 1⟩, ⟨5, 5, .rs, 0, 0, 1⟩]⟩,
  ⟨"PAIR_CNT", 0x40060010, 1, 4,
    [⟨15, 0, .ro, 0, 0, 65535⟩, ⟨31, 16, .ro, 0, 0, 65535⟩]⟩,
  ⟨"PAIR_PARTNER_LO", 0x40060018, 1, 4,
    [⟨31, 0, .rwx, 0, 0, 4294967295⟩]⟩,
  ⟨"PAIR_PARTNER_HI", 0x4006001c, 1, 4,
    [⟨31, 0, .rwx, 0, 0, 4294967295⟩]⟩,
  ⟨"PAIR_SHADOW", 0x40060020, 1, 4,
    [⟨11, 0, .ro, 0, 0, 4095⟩, ⟨18, 12, .ro, 0, 0, 127⟩, ⟨21, 19, .ro, 0, 0, 7⟩]⟩]

/-- Registers of MEM (18 of spec/). -/
def rowsMEM : List RegRow := [
  ⟨"MEM_CNT", 0x40030000, 16, 4,
    [⟨31, 0, .ro, 0, 0, 4294967295⟩]⟩,
  ⟨"MEM_CTL", 0x40030080, 1, 4,
    [⟨0, 0, .wo, 0, 0, 1⟩]⟩,
  ⟨"MEM_COLLIDE", 0x40030084, 1, 4,
    [⟨19, 0, .ro, 0, 0, 1048575⟩, ⟨30, 30, .ro, 0, 0, 1⟩, ⟨31, 31, .rs, 0, 0, 1⟩]⟩,
  ⟨"MEM_FAILED", 0x40030088, 1, 4,
    [⟨31, 0, .ro, 0, 0, 4294967295⟩]⟩,
  ⟨"MEM_STAT", 0x4003008c, 1, 4,
    [⟨0, 0, .ro, 0, 0, 1⟩, ⟨1, 1, .rs, 0, 0, 1⟩, ⟨2, 2, .rs, 0, 0, 1⟩]⟩,
  ⟨"MEM_ECC", 0x40030100, 33, 4,
    [⟨15, 0, .ro, 0, 0, 65535⟩, ⟨23, 16, .ro, 0, 0, 255⟩]⟩,
  ⟨"MEM_REPAIR", 0x40030200, 5, 4,
    [⟨31, 0, .ro, 0, 0, 4294967295⟩]⟩,
  ⟨"STEEP_CFG", 0x40030400, 1, 4,
    [⟨0, 0, .rwx, 1, 0, 1⟩, ⟨16, 1, .rwx, 32000, 100, 36000⟩, ⟨17, 17, .rwx, 1, 0, 1⟩]⟩,
  ⟨"STEEP_MASK", 0x40030404, 1, 4,
    [⟨31, 0, .rwx, 4294967295, 0, 4294967295⟩]⟩,
  ⟨"STEEP_STAT", 0x40030408, 1, 4,
    [⟨5, 0, .ro, 0, 0, 63⟩, ⟨14, 6, .ro, 0, 0, 511⟩, ⟨16, 15, .ro, 0, 0, 3⟩,
     ⟨17, 17, .ro, 0, 0, 1⟩]⟩,
  ⟨"STEEP_CNT", 0x4003040c, 1, 4,
    [⟨15, 0, .ro, 0, 0, 65535⟩, ⟨31, 16, .ro, 0, 0, 65535⟩]⟩,
  ⟨"STEEP_SKIP", 0x40030410, 1, 4,
    [⟨15, 0, .ro, 0, 0, 65535⟩, ⟨31, 16, .ro, 0, 0, 65535⟩]⟩,
  ⟨"STEEP_ERR", 0x40030414, 1, 4,
    [⟨0, 0, .rs, 0, 0, 1⟩, ⟨1, 1, .rs, 0, 0, 1⟩, ⟨2, 2, .rs, 0, 0, 1⟩]⟩,
  ⟨"STEEP_FAULT", 0x40030418, 1, 4,
    [⟨31, 0, .ro, 0, 0, 4294967295⟩]⟩]

/-- Registers of CTL (19 of spec/). -/
def rowsCTL : List RegRow := [
  ⟨"CTL_RST", 0x4010f000, 1, 4,
    [⟨0, 0, .rw, 0, 0, 1⟩, ⟨1, 1, .rw, 0, 0, 1⟩, ⟨10, 2, .rw, 0, 0, 511⟩]⟩,
  ⟨"CTL_STAT", 0x4010f004, 1, 4,
    [⟨0, 0, .ro, 0, 0, 1⟩, ⟨1, 1, .ro, 0, 0, 1⟩, ⟨31, 16, .ro, 0, 0, 65535⟩]⟩]

/-- Registers of BKP (19, 20 of spec/). -/
def rowsBKP : List RegRow := [
  ⟨"BKP", 0x3002000, 8, 4,
    [⟨31, 0, .rw, 0, 0, 4294967295⟩]⟩,
  ⟨"RST_REC", 0x3002040, 1, 4,
    [⟨3, 0, .ro, 2, 0, 15⟩, ⟨7, 4, .ro, 0, 0, 15⟩, ⟨17, 8, .ro, 0, 0, 1023⟩,
     ⟨19, 18, .ro, 0, 0, 3⟩, ⟨20, 20, .ro, 0, 0, 1⟩, ⟨21, 21, .ro, 0, 0, 1⟩,
     ⟨25, 22, .ro, 0, 0, 15⟩, ⟨26, 26, .ro, 0, 0, 1⟩]⟩,
  ⟨"RST_PREV", 0x3002044, 1, 4,
    [⟨3, 0, .ro, 2, 0, 15⟩, ⟨7, 4, .ro, 0, 0, 15⟩, ⟨17, 8, .ro, 0, 0, 1023⟩,
     ⟨19, 18, .ro, 0, 0, 3⟩, ⟨20, 20, .ro, 0, 0, 1⟩, ⟨21, 21, .ro, 0, 0, 1⟩,
     ⟨25, 22, .ro, 0, 0, 15⟩, ⟨26, 26, .ro, 0, 0, 1⟩]⟩,
  ⟨"RST_COUNT", 0x3002048, 1, 4,
    [⟨15, 0, .ro, 0, 0, 65535⟩]⟩,
  ⟨"SEC_FLAGS", 0x3002050, 1, 4,
    [⟨0, 0, .rs, 0, 0, 1⟩]⟩,
  ⟨"WAKE_REC", 0x300204c, 1, 4,
    [⟨3, 0, .ro, 0, 0, 15⟩, ⟨6, 4, .ro, 0, 0, 7⟩, ⟨8, 8, .ro, 0, 0, 1⟩,
     ⟨9, 9, .ro, 0, 0, 1⟩, ⟨10, 10, .ro, 0, 0, 1⟩, ⟨11, 11, .ro, 0, 0, 1⟩,
     ⟨14, 12, .ro, 0, 0, 7⟩, ⟨17, 16, .ro, 0, 0, 3⟩]⟩]

/-- Registers of PWR (20 of spec/). -/
def rowsPWR : List RegRow := [
  ⟨"PWR_STAT", 0x40008000, 1, 4,
    [⟨2, 0, .ro, 0, 0, 7⟩, ⟨3, 3, .ro, 0, 0, 1⟩, ⟨4, 4, .rs, 0, 0, 1⟩,
     ⟨15, 8, .ro, 0, 0, 255⟩]⟩,
  ⟨"PWR_CFG", 0x40008004, 1, 4,
    [⟨0, 0, .rwx, 0, 0, 1⟩, ⟨7, 1, .rwx, 0, 0, 127⟩, ⟨8, 8, .rwx, 0, 0, 1⟩,
     ⟨9, 9, .rwx, 0, 0, 1⟩, ⟨23, 16, .rwx, 0, 0, 255⟩]⟩,
  ⟨"PWR_VOUT", 0x40008008, 1, 4,
    [⟨9, 0, .rwx, 800, 720, 880⟩, ⟨25, 16, .rwx, 650, 620, 680⟩]⟩,
  ⟨"PWR_PMB_STAT", 0x4000800c, 1, 4,
    [⟨0, 0, .rs, 0, 0, 1⟩, ⟨1, 1, .rs, 0, 0, 1⟩, ⟨2, 2, .rs, 0, 0, 1⟩,
     ⟨3, 3, .rs, 0, 0, 1⟩, ⟨6, 4, .ro, 0, 0, 7⟩, ⟨31, 16, .ro, 0, 0, 65535⟩]⟩,
  ⟨"PWR_WAKE_PEND", 0x40008010, 1, 4,
    [⟨8, 0, .ro, 0, 0, 511⟩]⟩,
  ⟨"PWR_LF", 0x40008014, 1, 4,
    [⟨15, 0, .ro, 32768, 0, 65535⟩]⟩]

/-- Registers of SEC (21 of spec/). -/
def rowsSEC : List RegRow := [
  ⟨"SEC_STAT", 0x40020000, 1, 4,
    [⟨3, 0, .ro, 0, 0, 15⟩, ⟨4, 4, .ro, 0, 0, 1⟩, ⟨5, 5, .ro, 0, 0, 1⟩,
     ⟨6, 6, .ro, 0, 0, 1⟩, ⟨7, 7, .ro, 0, 0, 1⟩, ⟨8, 8, .ro, 0, 0, 1⟩,
     ⟨18, 16, .ro, 0, 0, 7⟩]⟩,
  ⟨"SEC_CHAL", 0x40020004, 1, 4,
    [⟨0, 0, .wo, 0, 0, 1⟩]⟩,
  ⟨"SEC_NONCE", 0x40020010, 4, 4,
    [⟨31, 0, .ro, 0, 0, 4294967295⟩]⟩,
  ⟨"SEC_DBG_CTL", 0x40020020, 1, 4,
    [⟨0, 0, .wo, 0, 0, 1⟩, ⟨1, 1, .wo, 0, 0, 1⟩, ⟨31, 16, .wo, 0, 0, 65535⟩]⟩]

/-- Registers of MON (22 of spec/). -/
def rowsMON : List RegRow := [
  ⟨"MON_CTL", 0x40040000, 1, 4,
    [⟨15, 0, .rw, 0, 0, 65535⟩]⟩,
  ⟨"MON_MASK", 0x40040004, 1, 4,
    [⟨31, 0, .rw, 0, 0, 4294967295⟩]⟩,
  ⟨"MON_CMD", 0x40040008, 1, 4,
    [⟨0, 0, .wo, 0, 0, 1⟩, ⟨1, 1, .wo, 0, 0, 1⟩, ⟨2, 2, .wo, 0, 0, 1⟩,
     ⟨3, 3, .wo, 0, 0, 1⟩, ⟨4, 4, .wo, 0, 0, 1⟩]⟩,
  ⟨"MON_STAMP", 0x4004000c, 1, 4,
    [⟨31, 0, .rw, 0, 0, 4294967295⟩]⟩,
  ⟨"MON_STAT", 0x40040010, 1, 4,
    [⟨0, 0, .ro, 0, 0, 1⟩, ⟨1, 1, .ro, 0, 0, 1⟩, ⟨31, 16, .ro, 0, 0, 65535⟩]⟩,
  ⟨"MON_RUN", 0x40040014, 1, 4,
    [⟨31, 0, .ro, 0, 0, 4294967295⟩]⟩,
  ⟨"MON_SNAP_TICK", 0x40040018, 1, 4,
    [⟨31, 0, .ro, 0, 0, 4294967295⟩]⟩,
  ⟨"MON_CFG", 0x40040100, 32, 4,
    [⟨6, 0, .rw, 0, 0, 127⟩, ⟨12, 8, .rw, 31, 0, 31⟩]⟩,
  ⟨"MON_SNAP_LO", 0x40040200, 32, 8,
    [⟨31, 0, .ro, 0, 0, 4294967295⟩]⟩,
  ⟨"MON_SNAP_HI", 0x40040204, 32, 8,
    [⟨15, 0, .ro, 0, 0, 65535⟩, ⟨16, 16, .ro, 0, 0, 1⟩]⟩]

/-- The block rows an address falls among: empty where the address is in no register block of R23 or R24. -/
def blockRows (a : Nat) : List RegRow :=
  if a < 0x40000000 then (if 0x03002000 ≤ a ∧ a < 0x03002100 then rowsBKP else [])
  else if a < 0x40008000 then rowsSYS
  else if a < 0x40010000 then rowsPWR
  else if a < 0x40020000 then rowsHOST
  else if a < 0x40030000 then rowsSEC
  else if a < 0x40040000 then rowsMEM
  else if a < 0x40050000 then rowsMON
  else if a < 0x40060000 then rowsRHL
  else if a < 0x40070000 then rowsPAIR
  else if a < 0x40080000 then rowsNET
  else if a < 0x40090000 then rowsTUN
  else if a < 0x40100000 then []
  else if a < 0x40180000 then
    match (a % 0x10000) / 0x1000 with
    | 0 => rowsSEQ
    | 1 => rowsKILN
    | 2 => rowsLED
    | 3 => rowsINTEG
    | 4 => rowsGRIST
    | 5 => rowsENC
    | 6 => rowsCASK
    | 7 => rowsLAMP
    | 8 => rowsTAP
    | 9 => rowsPSQ
    | 11 => rowsBLINK
    | 12 => rowsMASH
    | 13 => rowsLINE
    | 15 => rowsCTL
    | _ => []
  else []

/-- The address a channel register has on channel 0; a device address stays as it is (R23). -/
def foldChannel (a : Nat) : Nat :=
  if 0x40100000 ≤ a ∧ a < 0x40180000 then 0x40100000 + a % 0x10000 else a

/-- The channel whose register range an address lies in; 0 for a device address. -/
def channelOf (a : Nat) : Nat :=
  if 0x40100000 ≤ a ∧ a < 0x40180000 then (a - 0x40100000) / 0x10000 else 0

/-- Whether a row's copies include the address (already folded to channel 0). -/
def rowHas (r : RegRow) (a : Nat) : Bool :=
  r.base ≤ a && (a - r.base) % r.stride == 0 && (a - r.base) / r.stride < r.count

/-- The row of the register at an address, and which copy of it, if there is one. -/
def rowAt (a : Nat) : Option (RegRow × Nat) :=
  let b := foldChannel a
  ((blockRows a).find? (fun r => rowHas r b)).map (fun r => (r, (b - r.base) / r.stride))

/-- A field's bits at its value. -/
def placeField (f : FieldRow) (v : Nat) : Nat := v % 2 ^ (f.hi - f.lo + 1) * 2 ^ f.lo

/-- A word of MEM_REPAIR as the fuses give it: a count of 0 to 4 for each of its `k` banks that have spares; the fourth bit of
a nibble is reserved, and the AON bank has none (R378, MEM_REPAIR). -/
def sparesWord (v k : Nat) : Nat := ((List.range k).map (fun b => Nat.min 4 (v / 16 ^ b % 8) * 16 ^ b)).sum

/-- The register's value after a reset that reaches it (R3): the Reset column, and the fuses where the column says Fused. -/
def resetWord (a : Nat) : Nat :=
  match rowAt a with
  | none => 0
  | some (r, k) =>
    let w := r.fields.foldl (fun acc f => acc + placeField f f.reset) 0
    if r.base = 0x40050008 then Config.uidLo.toNat
    else if r.base = 0x4005000c then Config.uidHi.toNat
    else if r.base = 0x40030200 then sparesWord (Config.memRepair k).toNat (if k < 4 then 8 else 0)
    else if r.base = 0x40020000 then w + 256 * Config.noDebug.toNat
    else w

end Sys2Proof.Machine

/-! Names of registers (whole words) and of their fields. -/
namespace Sys2Proof.Machine.R

def SYS_ID : Fld := ⟨0x40000000, 4, 31, 0⟩
def SYS_MODE : Fld := ⟨0x40000004, 4, 31, 0⟩
def SYS_CH_STATE : Fld := ⟨0x40000008, 4, 31, 0⟩
def SYS_TICK_CFG : Fld := ⟨0x40000040, 4, 31, 0⟩
def SYS_TICK_STAT : Fld := ⟨0x40000044, 4, 31, 0⟩
def SEQ_CTL : Fld := ⟨0x40100000, 4, 31, 0⟩
def SEQ_CFG : Fld := ⟨0x40100004, 4, 31, 0⟩
def SEQ_STAT : Fld := ⟨0x40100008, 4, 31, 0⟩
def SEQ_ERR : Fld := ⟨0x4010000c, 4, 31, 0⟩
def SEQ_DROPS : Fld := ⟨0x40100010, 4, 31, 0⟩
def SEQ_MARGIN : Fld := ⟨0x40100014, 4, 31, 0⟩
def SEQ_FRAC : Fld := ⟨0x40100018, 4, 31, 0⟩
def SEQ_SLOT : Fld := ⟨0x40100100, 4, 31, 0⟩
def SEQ_ACT : Fld := ⟨0x40100200, 4, 31, 0⟩
def LINE_ROLE : Fld := ⟨0x4010d000, 4, 31, 0⟩
def LINE_GPIO_OUT : Fld := ⟨0x4010d200, 4, 31, 0⟩
def LINE_GPIO_OE : Fld := ⟨0x4010d210, 4, 31, 0⟩
def LINE_GPIO_IN : Fld := ⟨0x4010d220, 4, 31, 0⟩
def LINE_SUM : Fld := ⟨0x4010d240, 4, 31, 0⟩
def SYS_IMG_STAT : Fld := ⟨0x40000080, 4, 31, 0⟩
def SYS_IMG_SERIAL : Fld := ⟨0x40000084, 4, 31, 0⟩
def SYS_CFG_SESS : Fld := ⟨0x40000088, 4, 31, 0⟩
def SYS_IMG_CHSER : Fld := ⟨0x400000a0, 4, 31, 0⟩
def KILN_CFG : Fld := ⟨0x40101000, 4, 31, 0⟩
def KILN_VSET : Fld := ⟨0x40101004, 4, 31, 0⟩
def KILN_TC : Fld := ⟨0x40101008, 4, 31, 0⟩
def KILN_BOOST : Fld := ⟨0x4010100c, 4, 31, 0⟩
def KILN_STAT : Fld := ⟨0x40101010, 4, 31, 0⟩
def KILN_HOLDS : Fld := ⟨0x40101014, 4, 31, 0⟩
def KILN_LEDGER_CFG : Fld := ⟨0x40101020, 4, 31, 0⟩
def KILN_LEDGER_STAT : Fld := ⟨0x40101024, 4, 31, 0⟩
def KILN_LEDGER_FLAGS : Fld := ⟨0x40101028, 4, 31, 0⟩
def KILN_AHALF : Fld := ⟨0x4010102c, 4, 31, 0⟩
def KILN_LEDGER_CTL : Fld := ⟨0x40101030, 4, 31, 0⟩
def KILN_ACC : Fld := ⟨0x40101100, 4, 31, 0⟩
def LED_CFG : Fld := ⟨0x40102000, 4, 31, 0⟩
def LED_PWR_CFG : Fld := ⟨0x40102004, 4, 31, 0⟩
def LED_PWR : Fld := ⟨0x40102008, 4, 31, 0⟩
def LED_GOV : Fld := ⟨0x4010200c, 4, 31, 0⟩
def LED_STAT : Fld := ⟨0x40102010, 4, 31, 0⟩
def LED_CLASS : Fld := ⟨0x40102040, 4, 31, 0⟩
def LED_ISEG : Fld := ⟨0x40102100, 4, 31, 0⟩
def LED_CLASSMAP : Fld := ⟨0x40102400, 4, 31, 0⟩
def INTEG_CFG : Fld := ⟨0x40103000, 4, 31, 0⟩
def INTEG_CHAIN : Fld := ⟨0x40103004, 4, 31, 0⟩
def INTEG_STAT : Fld := ⟨0x40103008, 4, 31, 0⟩
def INTEG_CLR : Fld := ⟨0x4010300c, 4, 31, 0⟩
def INTEG_LINE : Fld := ⟨0x40103100, 4, 31, 0⟩
def INTEG_BASE : Fld := ⟨0x40103280, 4, 31, 0⟩
def INTEG_POL : Fld := ⟨0x40103400, 4, 31, 0⟩
def INTEG_ELEM : Fld := ⟨0x40103600, 4, 31, 0⟩
def MASH_CFG : Fld := ⟨0x4010c000, 4, 31, 0⟩
def MASH_STAT : Fld := ⟨0x4010c004, 4, 31, 0⟩
def MASH_ERR : Fld := ⟨0x4010c008, 4, 31, 0⟩
def MASH_CNT : Fld := ⟨0x4010c00c, 4, 31, 0⟩
def MASH_SWAPS : Fld := ⟨0x4010c010, 4, 31, 0⟩
def MASH_FSTAT : Fld := ⟨0x4010c100, 4, 31, 0⟩
def MASH_OWN : Fld := ⟨0x4010c400, 4, 31, 0⟩
def SYS_BLINK : Fld := ⟨0x400000c0, 4, 31, 0⟩
def SYS_DIM_CFG : Fld := ⟨0x40000100, 4, 31, 0⟩
def SYS_DIM_LVL : Fld := ⟨0x40000140, 4, 31, 0⟩
def SYS_DIM_INIT : Fld := ⟨0x40000180, 4, 31, 0⟩
def SYS_DIM_VER : Fld := ⟨0x400001c0, 4, 31, 0⟩
def BLINK_CFG : Fld := ⟨0x4010b000, 4, 31, 0⟩
def BLINK_STAT : Fld := ⟨0x4010b004, 4, 31, 0⟩
def BLINK_ERR : Fld := ⟨0x4010b008, 4, 31, 0⟩
def BLINK_GRP_T : Fld := ⟨0x4010b040, 8, 31, 0⟩
def BLINK_GRP_C : Fld := ⟨0x4010b044, 8, 31, 0⟩
def BLINK_ACK : Fld := ⟨0x4010b080, 4, 31, 0⟩
def BLINK_DIMENC : Fld := ⟨0x4010b0a0, 4, 31, 0⟩
def BLINK_FIELD : Fld := ⟨0x4010b100, 4, 31, 0⟩
def BLINK_ELEM : Fld := ⟨0x4010b200, 4, 31, 0⟩
def BLINK_ALST : Fld := ⟨0x4010b400, 4, 31, 0⟩
def BLINK_ALCOND : Fld := ⟨0x4010b440, 4, 31, 0⟩
def BLINK_DIMD : Fld := ⟨0x4010b480, 4, 31, 0⟩
def GRIST_CFG : Fld := ⟨0x40104000, 4, 31, 0⟩
def GRIST_LADDER : Fld := ⟨0x40104004, 4, 31, 0⟩
def GRIST_DEB : Fld := ⟨0x40104008, 4, 31, 0⟩
def GRIST_WIN : Fld := ⟨0x4010400c, 4, 31, 0⟩
def GRIST_RELAY : Fld := ⟨0x40104010, 4, 31, 0⟩
def GRIST_NONE : Fld := ⟨0x40104014, 4, 31, 0⟩
def GRIST_CONT : Fld := ⟨0x40104018, 4, 31, 0⟩
def GRIST_CONT_BAND : Fld := ⟨0x4010401c, 4, 31, 0⟩
def GRIST_STAT : Fld := ⟨0x40104020, 4, 31, 0⟩
def GRIST_ERR : Fld := ⟨0x40104024, 4, 31, 0⟩
def GRIST_CNT : Fld := ⟨0x40104028, 4, 31, 0⟩
def GRIST_KEYS : Fld := ⟨0x40104100, 4, 31, 0⟩
def GRIST_HIDDEN : Fld := ⟨0x40104140, 4, 31, 0⟩
def GRIST_DRV : Fld := ⟨0x40104300, 4, 31, 0⟩
def GRIST_READ : Fld := ⟨0x40104400, 4, 31, 0⟩
def CASK_CFG : Fld := ⟨0x40106000, 4, 31, 0⟩
def SYS_DRING_CFG : Fld := ⟨0x40000200, 4, 31, 0⟩
def CASK_STAT : Fld := ⟨0x40106004, 4, 31, 0⟩
def SYS_DRING_STAT : Fld := ⟨0x40000204, 4, 31, 0⟩
def CASK_SEQ : Fld := ⟨0x40106008, 4, 31, 0⟩
def SYS_DRING_SEQ : Fld := ⟨0x40000208, 4, 31, 0⟩
def CASK_DROPS : Fld := ⟨0x4010600c, 4, 31, 0⟩
def SYS_DRING_DROPS : Fld := ⟨0x4000020c, 4, 31, 0⟩
def CASK_COMPAT : Fld := ⟨0x40106010, 4, 31, 0⟩
def CASK_KCLASS : Fld := ⟨0x40106040, 4, 31, 0⟩
def CASK_KMAP : Fld := ⟨0x40106100, 4, 31, 0⟩
def ENC_CFG : Fld := ⟨0x40105000, 4, 31, 0⟩
def ENC_ACC : Fld := ⟨0x40105008, 4, 31, 0⟩
def ENC_POS : Fld := ⟨0x40105010, 4, 31, 0⟩
def ENC_STAT : Fld := ⟨0x40105018, 4, 31, 0⟩
def LAMP_CFG : Fld := ⟨0x40107000, 4, 31, 0⟩
def LAMP_SRC : Fld := ⟨0x40107004, 4, 31, 0⟩
def LAMP_GOV_CFG : Fld := ⟨0x40107008, 4, 31, 0⟩
def LAMP_GOV : Fld := ⟨0x4010700c, 4, 31, 0⟩
def LAMP_PWR : Fld := ⟨0x40107010, 4, 31, 0⟩
def LAMP_STAT : Fld := ⟨0x40107014, 4, 31, 0⟩
def LAMP_FNFAIL : Fld := ⟨0x40107018, 4, 31, 0⟩
def LAMP_FNOFF : Fld := ⟨0x4010701c, 4, 31, 0⟩
def LAMP_CLR : Fld := ⟨0x40107020, 4, 31, 0⟩
def LAMP_FORCE : Fld := ⟨0x40107024, 4, 31, 0⟩
def LAMP_DEM : Fld := ⟨0x40107100, 4, 31, 0⟩
def LAMP_LST : Fld := ⟨0x40107200, 4, 31, 0⟩
def TAP_CFG : Fld := ⟨0x40108000, 32, 31, 0⟩
def TAP_GEN : Fld := ⟨0x40108004, 32, 31, 0⟩
def TAP_STAT : Fld := ⟨0x40108008, 32, 31, 0⟩
def TAP_CNT : Fld := ⟨0x4010800c, 32, 31, 0⟩
def TAP_RAW : Fld := ⟨0x40108010, 32, 31, 0⟩
def TAP_NODE : Fld := ⟨0x40108100, 4, 31, 0⟩
def PSQ_CTL : Fld := ⟨0x40109000, 4, 31, 0⟩
def PSQ_STAT : Fld := ⟨0x40109004, 4, 31, 0⟩
def PSQ_CLKDIV : Fld := ⟨0x40109040, 64, 31, 0⟩
def PSQ_PINCLS : Fld := ⟨0x40109044, 64, 31, 0⟩
def PSQ_SHCFG : Fld := ⟨0x40109048, 64, 31, 0⟩
def PSQ_LOOP : Fld := ⟨0x4010904c, 64, 31, 0⟩
def PSQ_WIN : Fld := ⟨0x40109050, 64, 31, 0⟩
def PSQ_STATE : Fld := ⟨0x40109054, 64, 31, 0⟩
def PSQ_GTR : Fld := ⟨0x40109058, 64, 31, 0⟩
def PSQ_SPR : Fld := ⟨0x4010905c, 64, 31, 0⟩
def PSQ_CTR : Fld := ⟨0x40109060, 64, 31, 0⟩
def PSQ_PASSES : Fld := ⟨0x40109074, 64, 31, 0⟩
def PSQ_FSTAT : Fld := ⟨0x40109064, 64, 31, 0⟩
def PSQ_TX : Fld := ⟨0x40109068, 64, 31, 0⟩
def PSQ_RX : Fld := ⟨0x4010906c, 64, 31, 0⟩
def PSQ_RXACK : Fld := ⟨0x40109070, 64, 31, 0⟩
def PSQ_IMEM : Fld := ⟨0x40109400, 4, 31, 0⟩
def HOST_CFG : Fld := ⟨0x40010000, 4, 31, 0⟩
def HOST_STAT : Fld := ⟨0x40010004, 4, 31, 0⟩
def HOST_ERR : Fld := ⟨0x40010008, 4, 31, 0⟩
def HOST_ATTN : Fld := ⟨0x4001000c, 4, 31, 0⟩
def HOST_RESP : Fld := ⟨0x40010010, 4, 31, 0⟩
def HOST_EMU : Fld := ⟨0x40010014, 4, 31, 0⟩
def HOST_CNT : Fld := ⟨0x40010018, 4, 31, 0⟩
def TUN_CTL : Fld := ⟨0x40080000, 4, 31, 0⟩
def TUN_STAT : Fld := ⟨0x40080010, 4, 31, 0⟩
def TUN_ERR : Fld := ⟨0x40080020, 4, 31, 0⟩
def TUN_CNT : Fld := ⟨0x40080030, 4, 31, 0⟩
def NET_PORT : Fld := ⟨0x40070000, 4, 31, 0⟩
def NET_PTP_CFG : Fld := ⟨0x40070020, 4, 31, 0⟩
def NET_PTP_CYC : Fld := ⟨0x40070024, 4, 31, 0⟩
def NET_PTP_OFS : Fld := ⟨0x40070028, 4, 31, 0⟩
def NET_PTP_STAT : Fld := ⟨0x4007002c, 4, 31, 0⟩
def RHL_CFG : Fld := ⟨0x40050000, 4, 31, 0⟩
def RHL_STAT : Fld := ⟨0x40050004, 4, 31, 0⟩
def RHL_UID_LO : Fld := ⟨0x40050008, 4, 31, 0⟩
def RHL_UID_HI : Fld := ⟨0x4005000c, 4, 31, 0⟩
def RHL_PORT : Fld := ⟨0x40050010, 4, 31, 0⟩
def RHL_DECL : Fld := ⟨0x40050020, 4, 31, 0⟩
def RHL_TIME : Fld := ⟨0x40050030, 4, 31, 0⟩
def RHL_SUBTICK : Fld := ⟨0x40050034, 4, 31, 0⟩
def RHL_ERR : Fld := ⟨0x40050038, 4, 31, 0⟩
def RHL_CNT : Fld := ⟨0x4005003c, 4, 31, 0⟩
def RHL_WORST : Fld := ⟨0x40050040, 4, 31, 0⟩
def RHL_PUB_A : Fld := ⟨0x40050100, 8, 31, 0⟩
def RHL_PUB_B : Fld := ⟨0x40050104, 8, 31, 0⟩
def RHL_ROUTE : Fld := ⟨0x40050400, 4, 31, 0⟩
def PAIR_CFG : Fld := ⟨0x40060000, 4, 31, 0⟩
def PAIR_STAT : Fld := ⟨0x40060004, 4, 31, 0⟩
def PAIR_HAND : Fld := ⟨0x40060008, 4, 31, 0⟩
def PAIR_ERR : Fld := ⟨0x4006000c, 4, 31, 0⟩
def PAIR_CNT : Fld := ⟨0x40060010, 4, 31, 0⟩
def PAIR_PARTNER_LO : Fld := ⟨0x40060018, 4, 31, 0⟩
def PAIR_PARTNER_HI : Fld := ⟨0x4006001c, 4, 31, 0⟩
def PAIR_SHADOW : Fld := ⟨0x40060020, 4, 31, 0⟩
def MEM_CNT : Fld := ⟨0x40030000, 4, 31, 0⟩
def MEM_CTL : Fld := ⟨0x40030080, 4, 31, 0⟩
def MEM_COLLIDE : Fld := ⟨0x40030084, 4, 31, 0⟩
def MEM_FAILED : Fld := ⟨0x40030088, 4, 31, 0⟩
def MEM_STAT : Fld := ⟨0x4003008c, 4, 31, 0⟩
def MEM_ECC : Fld := ⟨0x40030100, 4, 31, 0⟩
def MEM_REPAIR : Fld := ⟨0x40030200, 4, 31, 0⟩
def STEEP_CFG : Fld := ⟨0x40030400, 4, 31, 0⟩
def STEEP_MASK : Fld := ⟨0x40030404, 4, 31, 0⟩
def STEEP_STAT : Fld := ⟨0x40030408, 4, 31, 0⟩
def STEEP_CNT : Fld := ⟨0x4003040c, 4, 31, 0⟩
def STEEP_SKIP : Fld := ⟨0x40030410, 4, 31, 0⟩
def STEEP_ERR : Fld := ⟨0x40030414, 4, 31, 0⟩
def STEEP_FAULT : Fld := ⟨0x40030418, 4, 31, 0⟩
def SYS_RST_CTL : Fld := ⟨0x40000300, 4, 31, 0⟩
def SYS_BLK_RST : Fld := ⟨0x40000304, 4, 31, 0⟩
def SYS_WDT : Fld := ⟨0x40000308, 4, 31, 0⟩
def SYS_REL : Fld := ⟨0x4000030c, 4, 31, 0⟩
def SYS_BOOTSEL : Fld := ⟨0x40000310, 4, 31, 0⟩
def CTL_RST : Fld := ⟨0x4010f000, 4, 31, 0⟩
def CTL_STAT : Fld := ⟨0x4010f004, 4, 31, 0⟩
def BKP : Fld := ⟨0x3002000, 4, 31, 0⟩
def RST_REC : Fld := ⟨0x3002040, 4, 31, 0⟩
def RST_PREV : Fld := ⟨0x3002044, 4, 31, 0⟩
def RST_COUNT : Fld := ⟨0x3002048, 4, 31, 0⟩
def SEC_FLAGS : Fld := ⟨0x3002050, 4, 31, 0⟩
def PWR_STAT : Fld := ⟨0x40008000, 4, 31, 0⟩
def PWR_CFG : Fld := ⟨0x40008004, 4, 31, 0⟩
def PWR_VOUT : Fld := ⟨0x40008008, 4, 31, 0⟩
def PWR_PMB_STAT : Fld := ⟨0x4000800c, 4, 31, 0⟩
def PWR_WAKE_PEND : Fld := ⟨0x40008010, 4, 31, 0⟩
def PWR_LF : Fld := ⟨0x40008014, 4, 31, 0⟩
def WAKE_REC : Fld := ⟨0x300204c, 4, 31, 0⟩
def SEC_STAT : Fld := ⟨0x40020000, 4, 31, 0⟩
def SEC_CHAL : Fld := ⟨0x40020004, 4, 31, 0⟩
def SEC_NONCE : Fld := ⟨0x40020010, 4, 31, 0⟩
def SEC_DBG_CTL : Fld := ⟨0x40020020, 4, 31, 0⟩
def MON_CTL : Fld := ⟨0x40040000, 4, 31, 0⟩
def MON_MASK : Fld := ⟨0x40040004, 4, 31, 0⟩
def MON_CMD : Fld := ⟨0x40040008, 4, 31, 0⟩
def MON_STAMP : Fld := ⟨0x4004000c, 4, 31, 0⟩
def MON_STAT : Fld := ⟨0x40040010, 4, 31, 0⟩
def MON_RUN : Fld := ⟨0x40040014, 4, 31, 0⟩
def MON_SNAP_TICK : Fld := ⟨0x40040018, 4, 31, 0⟩
def MON_CFG : Fld := ⟨0x40040100, 4, 31, 0⟩
def MON_SNAP_LO : Fld := ⟨0x40040200, 8, 31, 0⟩
def MON_SNAP_HI : Fld := ⟨0x40040204, 8, 31, 0⟩
def SYS_TEMP : Fld := ⟨0x40000380, 4, 31, 0⟩

end Sys2Proof.Machine.R

namespace Sys2Proof.Machine.F

def SYS_ID_PART : Fld := ⟨0x40000000, 4, 15, 0⟩
def SYS_ID_DIE_REV : Fld := ⟨0x40000000, 4, 23, 16⟩
def SYS_MODE_MODE : Fld := ⟨0x40000004, 4, 2, 0⟩
def SYS_MODE_TEST_MASK : Fld := ⟨0x40000004, 4, 15, 8⟩
def SYS_MODE_SAFE_START : Fld := ⟨0x40000004, 4, 16, 16⟩
def SYS_MODE_PENDING : Fld := ⟨0x40000004, 4, 17, 17⟩
def SYS_MODE_MODE_SEQ : Fld := ⟨0x40000004, 4, 31, 24⟩
def SYS_CH_STATE_STATES : Fld := ⟨0x40000008, 4, 31, 0⟩
def SYS_TICK_CFG_PERIOD_US : Fld := ⟨0x40000040, 4, 11, 0⟩
def SYS_TICK_CFG_LOCK_SRC : Fld := ⟨0x40000040, 4, 14, 12⟩
def SYS_TICK_CFG_TICK_IN_EDGE : Fld := ⟨0x40000040, 4, 15, 15⟩
def SYS_TICK_CFG_RATIO : Fld := ⟨0x40000040, 4, 23, 16⟩
def SYS_TICK_CFG_RATIO_DIR : Fld := ⟨0x40000040, 4, 24, 24⟩
def SYS_TICK_STAT_LOCK_STATE : Fld := ⟨0x40000044, 4, 1, 0⟩
def SYS_TICK_STAT_LOCK_MISMATCH : Fld := ⟨0x40000044, 4, 2, 2⟩
def SYS_TICK_STAT_STEPS : Fld := ⟨0x40000044, 4, 15, 8⟩
def SYS_TICK_STAT_PHASE_ERR_NS : Fld := ⟨0x40000044, 4, 31, 16⟩
def SEQ_CTL_COMMIT : Fld := ⟨0x40100000, 4, 0, 0⟩
def SEQ_CTL_RUN : Fld := ⟨0x40100000, 4, 1, 1⟩
def SEQ_CTL_STATS_CLR : Fld := ⟨0x40100000, 4, 31, 31⟩
def SEQ_CFG_DRIVE : Fld := ⟨0x40100004, 4, 0, 0⟩
def SEQ_CFG_COMMONS : Fld := ⟨0x40100004, 4, 4, 1⟩
def SEQ_CFG_PLAN_LEN : Fld := ⟨0x40100004, 4, 14, 8⟩
def SEQ_STAT_SLOT : Fld := ⟨0x40100008, 4, 5, 0⟩
def SEQ_STAT_KIND : Fld := ⟨0x40100008, 4, 10, 8⟩
def SEQ_STAT_STEP : Fld := ⟨0x40100008, 4, 15, 11⟩
def SEQ_STAT_RUNNING : Fld := ⟨0x40100008, 4, 16, 16⟩
def SEQ_ERR_DIAG_DROP : Fld := ⟨0x4010000c, 4, 0, 0⟩
def SEQ_ERR_KEY_DROP : Fld := ⟨0x4010000c, 4, 1, 1⟩
def SEQ_ERR_DISP_SHORT : Fld := ⟨0x4010000c, 4, 2, 2⟩
def SEQ_ERR_PLAN_REFUSED : Fld := ⟨0x4010000c, 4, 3, 3⟩
def SEQ_ERR_STRETCH : Fld := ⟨0x4010000c, 4, 4, 4⟩
def SEQ_ERR_CUT : Fld := ⟨0x4010000c, 4, 5, 5⟩
def SEQ_DROPS_DIAG_DROPS : Fld := ⟨0x40100010, 4, 15, 0⟩
def SEQ_DROPS_KEY_DROPS : Fld := ⟨0x40100010, 4, 31, 16⟩
def SEQ_MARGIN_MIN_GUARD : Fld := ⟨0x40100014, 4, 19, 0⟩
def SEQ_FRAC_NONDISP_FRAC : Fld := ⟨0x40100018, 4, 15, 0⟩
def SEQ_SLOT_KIND : Fld := ⟨0x40100100, 4, 2, 0⟩
def SEQ_SLOT_DUR : Fld := ⟨0x40100100, 4, 23, 4⟩
def SEQ_SLOT_DIAG_G : Fld := ⟨0x40100100, 4, 26, 24⟩
def SEQ_SLOT_DIAG_L : Fld := ⟨0x40100100, 4, 27, 27⟩
def SEQ_ACT_KIND : Fld := ⟨0x40100200, 4, 2, 0⟩
def SEQ_ACT_DUR : Fld := ⟨0x40100200, 4, 23, 4⟩
def SEQ_ACT_DIAG_G : Fld := ⟨0x40100200, 4, 26, 24⟩
def SEQ_ACT_DIAG_L : Fld := ⟨0x40100200, 4, 27, 27⟩
def LINE_ROLE_ROLE : Fld := ⟨0x4010d000, 4, 2, 0⟩
def LINE_ROLE_KDRIVE : Fld := ⟨0x4010d000, 4, 3, 3⟩
def LINE_ROLE_KDRIVE_IDX : Fld := ⟨0x4010d000, 4, 6, 4⟩
def LINE_ROLE_IDX : Fld := ⟨0x4010d000, 4, 13, 8⟩
def LINE_GPIO_OUT_OUT : Fld := ⟨0x4010d200, 4, 31, 0⟩
def LINE_GPIO_OE_OE : Fld := ⟨0x4010d210, 4, 31, 0⟩
def LINE_GPIO_IN_IN : Fld := ⟨0x4010d220, 4, 31, 0⟩
def LINE_SUM_N_COM : Fld := ⟨0x4010d240, 4, 4, 0⟩
def LINE_SUM_N_SEG : Fld := ⟨0x4010d240, 4, 11, 5⟩
def LINE_SUM_N_LADDER : Fld := ⟨0x4010d240, 4, 15, 12⟩
def LINE_SUM_N_DRIVE : Fld := ⟨0x4010d240, 4, 19, 16⟩
def LINE_SUM_ROLES_OK : Fld := ⟨0x4010d240, 4, 31, 31⟩
def SYS_IMG_STAT_ACTIVE : Fld := ⟨0x40000080, 4, 0, 0⟩
def SYS_IMG_STAT_SOURCE : Fld := ⟨0x40000080, 4, 3, 1⟩
def SYS_IMG_STAT_FLASH_BUSY : Fld := ⟨0x40000080, 4, 4, 4⟩
def SYS_IMG_STAT_FLASH_FAIL : Fld := ⟨0x40000080, 4, 5, 5⟩
def SYS_IMG_STAT_PRIMARY_BAD : Fld := ⟨0x40000080, 4, 6, 6⟩
def SYS_IMG_STAT_LAST_ERR : Fld := ⟨0x40000080, 4, 15, 8⟩
def SYS_IMG_STAT_PARTIAL_MASK : Fld := ⟨0x40000080, 4, 23, 16⟩
def SYS_IMG_SERIAL_SERIAL : Fld := ⟨0x40000084, 4, 31, 0⟩
def SYS_CFG_SESS_STATE : Fld := ⟨0x40000088, 4, 1, 0⟩
def SYS_CFG_SESS_OWNER : Fld := ⟨0x40000088, 4, 4, 2⟩
def SYS_CFG_SESS_NEXT_OFFSET : Fld := ⟨0x40000088, 4, 28, 8⟩
def SYS_IMG_CHSER_SERIAL : Fld := ⟨0x400000a0, 4, 31, 0⟩
def KILN_CFG_EN : Fld := ⟨0x40101000, 4, 0, 0⟩
def KILN_CFG_BIAS : Fld := ⟨0x40101000, 4, 3, 1⟩
def KILN_CFG_INV : Fld := ⟨0x40101000, 4, 4, 4⟩
def KILN_CFG_TEMP_SRC : Fld := ⟨0x40101000, 4, 5, 5⟩
def KILN_CFG_EQ_EN : Fld := ⟨0x40101000, 4, 6, 6⟩
def KILN_CFG_HOLD_EN : Fld := ⟨0x40101000, 4, 7, 7⟩
def KILN_VSET_VSET : Fld := ⟨0x40101004, 4, 10, 0⟩
def KILN_TC_TC_COEF : Fld := ⟨0x40101008, 4, 6, 0⟩
def KILN_TC_T_REF : Fld := ⟨0x40101008, 4, 15, 8⟩
def KILN_BOOST_BOOST_MA : Fld := ⟨0x4010100c, 4, 3, 0⟩
def KILN_BOOST_BOOST_T : Fld := ⟨0x4010100c, 4, 9, 4⟩
def KILN_STAT_VLCD_ACT : Fld := ⟨0x40101010, 4, 10, 0⟩
def KILN_STAT_READY : Fld := ⟨0x40101010, 4, 11, 11⟩
def KILN_STAT_HEADROOM : Fld := ⟨0x40101010, 4, 12, 12⟩
def KILN_STAT_NTC_FAULT : Fld := ⟨0x40101010, 4, 13, 13⟩
def KILN_STAT_BUF_FAULT : Fld := ⟨0x40101010, 4, 14, 14⟩
def KILN_STAT_TEMP : Fld := ⟨0x40101010, 4, 23, 16⟩
def KILN_HOLDS_HOLDS : Fld := ⟨0x40101014, 4, 15, 0⟩
def KILN_HOLDS_MAX_HOLD : Fld := ⟨0x40101014, 4, 25, 16⟩
def KILN_LEDGER_CFG_TRIM_MAX : Fld := ⟨0x40101020, 4, 6, 0⟩
def KILN_LEDGER_CFG_DEADBAND : Fld := ⟨0x40101020, 4, 15, 8⟩
def KILN_LEDGER_STAT_MAX_ABS : Fld := ⟨0x40101024, 4, 23, 0⟩
def KILN_LEDGER_STAT_MAX_LINE : Fld := ⟨0x40101024, 4, 30, 24⟩
def KILN_LEDGER_FLAGS_HIGH : Fld := ⟨0x40101028, 4, 0, 0⟩
def KILN_LEDGER_FLAGS_SAT : Fld := ⟨0x40101028, 4, 1, 1⟩
def KILN_LEDGER_FLAGS_LONG_SETTLE : Fld := ⟨0x40101028, 4, 2, 2⟩
def KILN_AHALF_A_HALF : Fld := ⟨0x4010102c, 4, 23, 0⟩
def KILN_LEDGER_CTL_MAX_CLR : Fld := ⟨0x40101030, 4, 0, 0⟩
def KILN_ACC_ACC : Fld := ⟨0x40101100, 4, 23, 0⟩
def LED_CFG_DEAD : Fld := ⟨0x40102000, 4, 8, 0⟩
def LED_CFG_RISE : Fld := ⟨0x40102000, 4, 17, 9⟩
def LED_CFG_DITHER_EN : Fld := ⟨0x40102000, 4, 18, 18⟩
def LED_CFG_GOV_EN : Fld := ⟨0x40102000, 4, 19, 19⟩
def LED_PWR_CFG_SINK_MW : Fld := ⟨0x40102004, 4, 11, 0⟩
def LED_PWR_EST_MW : Fld := ⟨0x40102008, 4, 11, 0⟩
def LED_PWR_TICK_MW : Fld := ⟨0x40102008, 4, 27, 16⟩
def LED_GOV_GAIN : Fld := ⟨0x4010200c, 4, 16, 0⟩
def LED_GOV_STATE : Fld := ⟨0x4010200c, 4, 17, 17⟩
def LED_STAT_WARN : Fld := ⟨0x40102010, 4, 0, 0⟩
def LED_STAT_GOV : Fld := ⟨0x40102010, 4, 1, 1⟩
def LED_STAT_FAST : Fld := ⟨0x40102010, 4, 2, 2⟩
def LED_STAT_COM_OC : Fld := ⟨0x40102010, 4, 3, 3⟩
def LED_STAT_W_CLIP : Fld := ⟨0x40102010, 4, 4, 4⟩
def LED_STAT_COM_OC_DIG : Fld := ⟨0x40102010, 4, 11, 8⟩
def LED_CLASS_VALUE : Fld := ⟨0x40102040, 4, 15, 0⟩
def LED_CLASS_DIM_GRP : Fld := ⟨0x40102040, 4, 19, 16⟩
def LED_CLASS_DIM_EN : Fld := ⟨0x40102040, 4, 20, 20⟩
def LED_ISEG_CODE : Fld := ⟨0x40102100, 4, 5, 0⟩
def LED_CLASSMAP_CLASSES : Fld := ⟨0x40102400, 4, 31, 0⟩
def INTEG_CFG_LED_LIT_EN : Fld := ⟨0x40103000, 4, 0, 0⟩
def INTEG_CFG_LED_DARK_EN : Fld := ⟨0x40103000, 4, 1, 1⟩
def INTEG_CFG_CHAIN_EN : Fld := ⟨0x40103000, 4, 2, 2⟩
def INTEG_CFG_LCD_EN : Fld := ⟨0x40103000, 4, 3, 3⟩
def INTEG_CFG_BASE_LEARN : Fld := ⟨0x40103000, 4, 4, 4⟩
def INTEG_CFG_LIT_MIN : Fld := ⟨0x40103000, 4, 15, 8⟩
def INTEG_CFG_OPEN_FRAC : Fld := ⟨0x40103000, 4, 17, 16⟩
def INTEG_CHAIN_CHAIN_HI : Fld := ⟨0x40103004, 4, 8, 0⟩
def INTEG_STAT_N_FAILED : Fld := ⟨0x40103008, 4, 10, 0⟩
def INTEG_STAT_N_FIELDS : Fld := ⟨0x40103008, 4, 18, 11⟩
def INTEG_STAT_UNVERIFIED : Fld := ⟨0x40103008, 4, 19, 19⟩
def INTEG_STAT_LEARNING : Fld := ⟨0x40103008, 4, 20, 20⟩
def INTEG_STAT_RECHECK : Fld := ⟨0x40103008, 4, 21, 21⟩
def INTEG_STAT_MARK_FALLBACK : Fld := ⟨0x40103008, 4, 22, 22⟩
def INTEG_CLR_CLR_ALL : Fld := ⟨0x4010300c, 4, 0, 0⟩
def INTEG_CLR_CLR_FIELD : Fld := ⟨0x4010300c, 4, 1, 1⟩
def INTEG_CLR_FIELD : Fld := ⟨0x4010300c, 4, 14, 8⟩
def INTEG_LINE_C_MEAS : Fld := ⟨0x40103100, 4, 15, 0⟩
def INTEG_LINE_STATE : Fld := ⟨0x40103100, 4, 17, 16⟩
def INTEG_BASE_C_BASE : Fld := ⟨0x40103280, 4, 15, 0⟩
def INTEG_BASE_LEARNED : Fld := ⟨0x40103280, 4, 16, 16⟩
def INTEG_POL_POLICY : Fld := ⟨0x40103400, 4, 1, 0⟩
def INTEG_POL_PERSIST : Fld := ⟨0x40103400, 4, 2, 2⟩
def INTEG_POL_FLASH_CLK : Fld := ⟨0x40103400, 4, 3, 3⟩
def INTEG_POL_DIGIT_OFF : Fld := ⟨0x40103400, 4, 4, 4⟩
def INTEG_POL_FAULT_DASH : Fld := ⟨0x40103400, 4, 5, 5⟩
def INTEG_POL_MARK_ELEM : Fld := ⟨0x40103400, 4, 15, 6⟩
def INTEG_POL_ACTIVE : Fld := ⟨0x40103400, 4, 31, 31⟩
def INTEG_ELEM_STATES : Fld := ⟨0x40103600, 4, 31, 0⟩
def MASH_CFG_SWAP_MODE : Fld := ⟨0x4010c000, 4, 0, 0⟩
def MASH_CFG_BIND_EN : Fld := ⟨0x4010c000, 4, 1, 1⟩
def MASH_STAT_FRONT : Fld := ⟨0x4010c004, 4, 0, 0⟩
def MASH_STAT_SWAP_PENDING : Fld := ⟨0x4010c004, 4, 1, 1⟩
def MASH_STAT_STAMPED : Fld := ⟨0x4010c004, 4, 8, 2⟩
def MASH_STAT_QUEUE : Fld := ⟨0x4010c004, 4, 17, 9⟩
def MASH_ERR_LATE : Fld := ⟨0x4010c008, 4, 0, 0⟩
def MASH_ERR_QFULL : Fld := ⟨0x4010c008, 4, 1, 1⟩
def MASH_ERR_SRC_RANGE : Fld := ⟨0x4010c008, 4, 2, 2⟩
def MASH_ERR_OWNED : Fld := ⟨0x4010c008, 4, 3, 3⟩
def MASH_ERR_HELD_BUSY : Fld := ⟨0x4010c008, 4, 4, 4⟩
def MASH_ERR_BAD_SKIP : Fld := ⟨0x4010c008, 4, 5, 5⟩
def MASH_CNT_DELIVERIES : Fld := ⟨0x4010c00c, 4, 15, 0⟩
def MASH_CNT_LATE_DELIV : Fld := ⟨0x4010c00c, 4, 31, 16⟩
def MASH_SWAPS_SWAPS : Fld := ⟨0x4010c010, 4, 31, 0⟩
def MASH_FSTAT_SHOWN : Fld := ⟨0x4010c100, 4, 2, 0⟩
def MASH_FSTAT_FLASHING : Fld := ⟨0x4010c100, 4, 3, 3⟩
def MASH_FSTAT_AGE : Fld := ⟨0x4010c100, 4, 23, 8⟩
def MASH_OWN_OWNED : Fld := ⟨0x4010c400, 4, 31, 0⟩
def SYS_BLINK_FAST_T : Fld := ⟨0x400000c0, 4, 11, 0⟩
def SYS_BLINK_FAST : Fld := ⟨0x400000c0, 4, 12, 12⟩
def SYS_BLINK_SLOW : Fld := ⟨0x400000c0, 4, 13, 13⟩
def SYS_DIM_CFG_LEAD : Fld := ⟨0x40000100, 4, 7, 0⟩
def SYS_DIM_CFG_FABRIC_MASK : Fld := ⟨0x40000100, 4, 31, 16⟩
def SYS_DIM_LVL_LEVEL : Fld := ⟨0x40000140, 4, 15, 0⟩
def SYS_DIM_LVL_ORIGIN : Fld := ⟨0x40000140, 4, 24, 16⟩
def SYS_DIM_INIT_INIT : Fld := ⟨0x40000180, 4, 15, 0⟩
def SYS_DIM_VER_APPLY_TICK : Fld := ⟨0x400001c0, 4, 31, 0⟩
def BLINK_CFG_ACK_LOCAL_EN : Fld := ⟨0x4010b000, 4, 0, 0⟩
def BLINK_STAT_N_ACT_UNACK : Fld := ⟨0x4010b004, 4, 8, 0⟩
def BLINK_STAT_N_ACT_ACK : Fld := ⟨0x4010b004, 4, 17, 9⟩
def BLINK_STAT_N_RECT_UNACK : Fld := ⟨0x4010b004, 4, 26, 18⟩
def BLINK_ERR_COND_BAD : Fld := ⟨0x4010b008, 4, 0, 0⟩
def BLINK_ERR_DIM_LATE : Fld := ⟨0x4010b008, 4, 1, 1⟩
def BLINK_GRP_T_PERIOD : Fld := ⟨0x4010b040, 8, 15, 0⟩
def BLINK_GRP_T_ON : Fld := ⟨0x4010b040, 8, 31, 16⟩
def BLINK_GRP_C_PHASE : Fld := ⟨0x4010b044, 8, 15, 0⟩
def BLINK_GRP_C_SRC : Fld := ⟨0x4010b044, 8, 17, 16⟩
def BLINK_ACK_KEY : Fld := ⟨0x4010b080, 4, 8, 0⟩
def BLINK_ACK_EN : Fld := ⟨0x4010b080, 4, 9, 9⟩
def BLINK_ACK_GRP_MASK : Fld := ⟨0x4010b080, 4, 23, 16⟩
def BLINK_DIMENC_EN : Fld := ⟨0x4010b0a0, 4, 0, 0⟩
def BLINK_DIMENC_GROUP : Fld := ⟨0x4010b0a0, 4, 4, 1⟩
def BLINK_DIMENC_STEP : Fld := ⟨0x4010b0a0, 4, 15, 8⟩
def BLINK_DIMENC_MIN : Fld := ⟨0x4010b0a0, 4, 31, 16⟩
def BLINK_FIELD_ENTRIES : Fld := ⟨0x4010b100, 4, 31, 0⟩
def BLINK_ELEM_ENTRIES : Fld := ⟨0x4010b200, 4, 31, 0⟩
def BLINK_ALST_STATES : Fld := ⟨0x4010b400, 4, 31, 0⟩
def BLINK_ALCOND_COND : Fld := ⟨0x4010b440, 4, 31, 0⟩
def BLINK_DIMD_D : Fld := ⟨0x4010b480, 4, 15, 0⟩
def BLINK_DIMD_L : Fld := ⟨0x4010b480, 4, 31, 16⟩
def GRIST_CFG_SETTLE_US : Fld := ⟨0x40104000, 4, 5, 0⟩
def GRIST_CFG_STEPS : Fld := ⟨0x40104000, 4, 7, 6⟩
def GRIST_CFG_EN : Fld := ⟨0x40104000, 4, 8, 8⟩
def GRIST_CFG_CONT_EN : Fld := ⟨0x40104000, 4, 9, 9⟩
def GRIST_LADDER_WIDE : Fld := ⟨0x40104004, 4, 7, 0⟩
def GRIST_LADDER_SINGLE : Fld := ⟨0x40104004, 4, 15, 8⟩
def GRIST_DEB_PRESS_N : Fld := ⟨0x40104008, 4, 3, 0⟩
def GRIST_DEB_RELEASE_N : Fld := ⟨0x40104008, 4, 7, 4⟩
def GRIST_WIN_W_LO : Fld := ⟨0x4010400c, 4, 7, 0⟩
def GRIST_WIN_W_HI : Fld := ⟨0x4010400c, 4, 15, 8⟩
def GRIST_WIN_W4_LO : Fld := ⟨0x4010400c, 4, 23, 16⟩
def GRIST_WIN_W4_HI : Fld := ⟨0x4010400c, 4, 31, 24⟩
def GRIST_RELAY_V_GND : Fld := ⟨0x40104010, 4, 9, 0⟩
def GRIST_RELAY_V_OPEN : Fld := ⟨0x40104010, 4, 26, 16⟩
def GRIST_NONE_NONE_CODE : Fld := ⟨0x40104014, 4, 11, 0⟩
def GRIST_CONT_CONT_SCANS : Fld := ⟨0x40104018, 4, 11, 0⟩
def GRIST_CONT_BAND_CONT_LO : Fld := ⟨0x4010401c, 4, 11, 0⟩
def GRIST_CONT_BAND_CONT_HI : Fld := ⟨0x4010401c, 4, 27, 16⟩
def GRIST_STAT_SCAN : Fld := ⟨0x40104020, 4, 15, 0⟩
def GRIST_STAT_DRIVE : Fld := ⟨0x40104020, 4, 18, 16⟩
def GRIST_STAT_SHIFT_ACT : Fld := ⟨0x40104020, 4, 19, 19⟩
def GRIST_STAT_AMBIG_ACT : Fld := ⟨0x40104020, 4, 20, 20⟩
def GRIST_STAT_SPLIT_ACT : Fld := ⟨0x40104020, 4, 21, 21⟩
def GRIST_STAT_CONT_WAIT : Fld := ⟨0x40104020, 4, 22, 22⟩
def GRIST_ERR_GHOST_SHIFT : Fld := ⟨0x40104024, 4, 0, 0⟩
def GRIST_ERR_GHOST_AMBIG : Fld := ⟨0x40104024, 4, 1, 1⟩
def GRIST_ERR_LADDER_SPLIT : Fld := ⟨0x40104024, 4, 2, 2⟩
def GRIST_ERR_CABLE_BREAK : Fld := ⟨0x40104024, 4, 3, 3⟩
def GRIST_ERR_STEP_LOST : Fld := ⟨0x40104024, 4, 4, 4⟩
def GRIST_CNT_REJECTS : Fld := ⟨0x40104028, 4, 11, 0⟩
def GRIST_CNT_GHOSTS : Fld := ⟨0x40104028, 4, 21, 12⟩
def GRIST_CNT_STEPS_LOST : Fld := ⟨0x40104028, 4, 31, 22⟩
def GRIST_KEYS_DOWN : Fld := ⟨0x40104100, 4, 31, 0⟩
def GRIST_HIDDEN_FROZEN : Fld := ⟨0x40104140, 4, 31, 0⟩
def GRIST_DRV_HEAD_CODE : Fld := ⟨0x40104300, 4, 11, 0⟩
def GRIST_DRV_FOOT_CODE : Fld := ⟨0x40104300, 4, 23, 12⟩
def GRIST_DRV_BAND : Fld := ⟨0x40104300, 4, 25, 24⟩
def GRIST_READ_HEAD_CODE : Fld := ⟨0x40104400, 4, 11, 0⟩
def GRIST_READ_FOOT_CODE : Fld := ⟨0x40104400, 4, 23, 12⟩
def GRIST_READ_HEAD_CLASS : Fld := ⟨0x40104400, 4, 27, 24⟩
def GRIST_READ_FOOT_CLASS : Fld := ⟨0x40104400, 4, 31, 28⟩
def CASK_CFG_WMARK : Fld := ⟨0x40106000, 4, 12, 0⟩
def CASK_CFG_ATT_AGE : Fld := ⟨0x40106000, 4, 23, 16⟩
def SYS_DRING_CFG_WMARK : Fld := ⟨0x40000200, 4, 12, 0⟩
def SYS_DRING_CFG_ATT_AGE : Fld := ⟨0x40000200, 4, 23, 16⟩
def CASK_STAT_COUNT : Fld := ⟨0x40106004, 4, 12, 0⟩
def CASK_STAT_ATTN : Fld := ⟨0x40106004, 4, 13, 13⟩
def CASK_STAT_OVF : Fld := ⟨0x40106004, 4, 14, 14⟩
def CASK_STAT_LOSS_PEND : Fld := ⟨0x40106004, 4, 15, 15⟩
def CASK_STAT_DEPTH : Fld := ⟨0x40106004, 4, 28, 16⟩
def SYS_DRING_STAT_COUNT : Fld := ⟨0x40000204, 4, 12, 0⟩
def SYS_DRING_STAT_ATTN : Fld := ⟨0x40000204, 4, 13, 13⟩
def SYS_DRING_STAT_OVF : Fld := ⟨0x40000204, 4, 14, 14⟩
def SYS_DRING_STAT_LOSS_PEND : Fld := ⟨0x40000204, 4, 15, 15⟩
def SYS_DRING_STAT_DEPTH : Fld := ⟨0x40000204, 4, 28, 16⟩
def CASK_SEQ_OLDEST : Fld := ⟨0x40106008, 4, 15, 0⟩
def CASK_SEQ_NEXT : Fld := ⟨0x40106008, 4, 31, 16⟩
def SYS_DRING_SEQ_OLDEST : Fld := ⟨0x40000208, 4, 15, 0⟩
def SYS_DRING_SEQ_NEXT : Fld := ⟨0x40000208, 4, 31, 16⟩
def CASK_DROPS_DROPS : Fld := ⟨0x4010600c, 4, 31, 0⟩
def SYS_DRING_DROPS_DROPS : Fld := ⟨0x4000020c, 4, 31, 0⟩
def CASK_COMPAT_COMPAT_EN : Fld := ⟨0x40106010, 4, 0, 0⟩
def CASK_COMPAT_COMPAT_LADDER : Fld := ⟨0x40106010, 4, 3, 1⟩
def CASK_COMPAT_QCOUNT : Fld := ⟨0x40106010, 4, 8, 4⟩
def CASK_COMPAT_QOVF : Fld := ⟨0x40106010, 4, 9, 9⟩
def CASK_KCLASS_DELAY_MS : Fld := ⟨0x40106040, 4, 11, 0⟩
def CASK_KCLASS_PERIOD_MS : Fld := ⟨0x40106040, 4, 21, 12⟩
def CASK_KCLASS_REP_EN : Fld := ⟨0x40106040, 4, 22, 22⟩
def CASK_KCLASS_REL_EN : Fld := ⟨0x40106040, 4, 23, 23⟩
def CASK_KMAP_CLASSES : Fld := ⟨0x40106100, 4, 31, 0⟩
def ENC_CFG_EN : Fld := ⟨0x40105000, 4, 0, 0⟩
def ENC_CFG_TPD : Fld := ⟨0x40105000, 4, 2, 1⟩
def ENC_CFG_REST : Fld := ⟨0x40105000, 4, 4, 3⟩
def ENC_CFG_DIR : Fld := ⟨0x40105000, 4, 5, 5⟩
def ENC_CFG_ACCEL_EN : Fld := ⟨0x40105000, 4, 6, 6⟩
def ENC_ACC_T1_MS : Fld := ⟨0x40105008, 4, 7, 0⟩
def ENC_ACC_M1 : Fld := ⟨0x40105008, 4, 11, 8⟩
def ENC_ACC_T2_MS : Fld := ⟨0x40105008, 4, 23, 16⟩
def ENC_ACC_M2 : Fld := ⟨0x40105008, 4, 27, 24⟩
def ENC_POS_POS : Fld := ⟨0x40105010, 4, 15, 0⟩
def ENC_POS_X : Fld := ⟨0x40105010, 4, 31, 16⟩
def ENC_STAT_ENC_ERR0 : Fld := ⟨0x40105018, 4, 0, 0⟩
def ENC_STAT_ENC_ERR1 : Fld := ⟨0x40105018, 4, 1, 1⟩
def ENC_STAT_ANCHOR0 : Fld := ⟨0x40105018, 4, 2, 2⟩
def ENC_STAT_ANCHOR1 : Fld := ⟨0x40105018, 4, 3, 3⟩
def ENC_STAT_LEVELS : Fld := ⟨0x40105018, 4, 7, 4⟩
def LAMP_CFG_EN : Fld := ⟨0x40107000, 4, 0, 0⟩
def LAMP_CFG_PULSE_EN : Fld := ⟨0x40107000, 4, 1, 1⟩
def LAMP_CFG_GOV_EN : Fld := ⟨0x40107000, 4, 2, 2⟩
def LAMP_CFG_DIAG_P : Fld := ⟨0x40107000, 4, 13, 3⟩
def LAMP_CFG_FITTED : Fld := ⟨0x40107000, 4, 25, 14⟩
def LAMP_SRC_ISET : Fld := ⟨0x40107004, 4, 9, 0⟩
def LAMP_SRC_ISTR_MA : Fld := ⟨0x40107004, 4, 19, 10⟩
def LAMP_GOV_CFG_SW_CAP_MW : Fld := ⟨0x40107008, 4, 9, 0⟩
def LAMP_GOV_GAIN : Fld := ⟨0x4010700c, 4, 16, 0⟩
def LAMP_GOV_STATE : Fld := ⟨0x4010700c, 4, 17, 17⟩
def LAMP_GOV_SIREF_ACT : Fld := ⟨0x4010700c, 4, 27, 18⟩
def LAMP_PWR_EST_MW : Fld := ⟨0x40107010, 4, 11, 0⟩
def LAMP_PWR_TICK_MW : Fld := ⟨0x40107010, 4, 27, 16⟩
def LAMP_STAT_WARN : Fld := ⟨0x40107014, 4, 0, 0⟩
def LAMP_STAT_GOV : Fld := ⟨0x40107014, 4, 1, 1⟩
def LAMP_STAT_FAST : Fld := ⟨0x40107014, 4, 2, 2⟩
def LAMP_STAT_FLOOR : Fld := ⟨0x40107014, 4, 3, 3⟩
def LAMP_STAT_OPEN : Fld := ⟨0x40107014, 4, 4, 4⟩
def LAMP_STAT_SHORT : Fld := ⟨0x40107014, 4, 5, 5⟩
def LAMP_STAT_UNVERIFIED : Fld := ⟨0x40107014, 4, 6, 6⟩
def LAMP_STAT_SRC_FAULT : Fld := ⟨0x40107014, 4, 7, 7⟩
def LAMP_STAT_PUMP_READY : Fld := ⟨0x40107014, 4, 8, 8⟩
def LAMP_STAT_SEN : Fld := ⟨0x40107014, 4, 9, 9⟩
def LAMP_FNFAIL_FAILED : Fld := ⟨0x40107018, 4, 31, 0⟩
def LAMP_FNOFF_OFF : Fld := ⟨0x4010701c, 4, 31, 0⟩
def LAMP_CLR_CLR_ALL : Fld := ⟨0x40107020, 4, 0, 0⟩
def LAMP_CLR_CLR_FN : Fld := ⟨0x40107020, 4, 1, 1⟩
def LAMP_CLR_FN : Fld := ⟨0x40107020, 4, 12, 8⟩
def LAMP_FORCE_FORCE_EN : Fld := ⟨0x40107024, 4, 0, 0⟩
def LAMP_FORCE_OPEN : Fld := ⟨0x40107024, 4, 12, 1⟩
def LAMP_DEM_LEVEL : Fld := ⟨0x40107100, 4, 15, 0⟩
def LAMP_LST_STATE : Fld := ⟨0x40107200, 4, 1, 0⟩
def LAMP_LST_RECHECK : Fld := ⟨0x40107200, 4, 2, 2⟩
def LAMP_LST_DUE : Fld := ⟨0x40107200, 4, 3, 3⟩
def LAMP_LST_WINDOW : Fld := ⟨0x40107200, 4, 4, 4⟩
def LAMP_LST_V_LAMP : Fld := ⟨0x40107200, 4, 15, 5⟩
def LAMP_LST_V_SW : Fld := ⟨0x40107200, 4, 27, 16⟩
def TAP_CFG_EN : Fld := ⟨0x40108000, 32, 0, 0⟩
def TAP_CFG_MODE : Fld := ⟨0x40108000, 32, 1, 1⟩
def TAP_CFG_PAIR : Fld := ⟨0x40108000, 32, 2, 2⟩
def TAP_CFG_RATE : Fld := ⟨0x40108000, 32, 11, 3⟩
def TAP_CFG_N_M1 : Fld := ⟨0x40108000, 32, 15, 12⟩
def TAP_CFG_LATCH : Fld := ⟨0x40108000, 32, 23, 16⟩
def TAP_CFG_RET_DLY : Fld := ⟨0x40108000, 32, 27, 24⟩
def TAP_GEN_T0_LOW : Fld := ⟨0x40108004, 32, 8, 0⟩
def TAP_GEN_T1_LOW : Fld := ⟨0x40108004, 32, 17, 9⟩
def TAP_GEN_BITS : Fld := ⟨0x40108004, 32, 19, 18⟩
def TAP_GEN_OUTS_M1 : Fld := ⟨0x40108004, 32, 23, 20⟩
def TAP_GEN_POL : Fld := ⟨0x40108004, 32, 24, 24⟩
def TAP_GEN_BRK_EN : Fld := ⟨0x40108004, 32, 25, 25⟩
def TAP_STAT_RUNNING : Fld := ⟨0x40108008, 32, 0, 0⟩
def TAP_STAT_FAULT : Fld := ⟨0x40108008, 32, 1, 1⟩
def TAP_STAT_CRC_ERR : Fld := ⟨0x40108008, 32, 2, 2⟩
def TAP_STAT_CHECK_ERR : Fld := ⟨0x40108008, 32, 3, 3⟩
def TAP_STAT_POR : Fld := ⟨0x40108008, 32, 4, 4⟩
def TAP_STAT_FAILS : Fld := ⟨0x40108008, 32, 11, 8⟩
def TAP_STAT_P : Fld := ⟨0x40108008, 32, 20, 16⟩
def TAP_STAT_M : Fld := ⟨0x40108008, 32, 25, 21⟩
def TAP_CNT_FRAMES : Fld := ⟨0x4010800c, 32, 15, 0⟩
def TAP_CNT_BAD : Fld := ⟨0x4010800c, 32, 31, 16⟩
def TAP_RAW_RAW_EN : Fld := ⟨0x40108010, 32, 0, 0⟩
def TAP_RAW_RAW_LEN : Fld := ⟨0x40108010, 32, 12, 1⟩
def TAP_RAW_RAW_OFF : Fld := ⟨0x40108010, 32, 23, 13⟩
def TAP_NODE_STATUS : Fld := ⟨0x40108100, 4, 15, 0⟩
def TAP_NODE_FAILED : Fld := ⟨0x40108100, 4, 31, 16⟩
def PSQ_CTL_RUN : Fld := ⟨0x40109000, 4, 3, 0⟩
def PSQ_CTL_BOUNDARY : Fld := ⟨0x40109000, 4, 7, 4⟩
def PSQ_CTL_RESTART : Fld := ⟨0x40109000, 4, 11, 8⟩
def PSQ_STAT_RUNNING : Fld := ⟨0x40109004, 4, 3, 0⟩
def PSQ_STAT_STALLED : Fld := ⟨0x40109004, 4, 7, 4⟩
def PSQ_STAT_PENDING : Fld := ⟨0x40109004, 4, 11, 8⟩
def PSQ_STAT_LOOP_PEND : Fld := ⟨0x40109004, 4, 15, 12⟩
def PSQ_STAT_FROZEN : Fld := ⟨0x40109004, 4, 19, 16⟩
def PSQ_CLKDIV_DIV : Fld := ⟨0x40109040, 64, 15, 0⟩
def PSQ_PINCLS_CLS0 : Fld := ⟨0x40109044, 64, 1, 0⟩
def PSQ_PINCLS_CLS1 : Fld := ⟨0x40109044, 64, 3, 2⟩
def PSQ_PINCLS_CLS2 : Fld := ⟨0x40109044, 64, 5, 4⟩
def PSQ_PINCLS_CLS3 : Fld := ⟨0x40109044, 64, 7, 6⟩
def PSQ_PINCLS_CLS4 : Fld := ⟨0x40109044, 64, 9, 8⟩
def PSQ_PINCLS_CLS5 : Fld := ⟨0x40109044, 64, 11, 10⟩
def PSQ_PINCLS_CLS6 : Fld := ⟨0x40109044, 64, 13, 12⟩
def PSQ_PINCLS_CLS7 : Fld := ⟨0x40109044, 64, 15, 14⟩
def PSQ_PINCLS_CLS8 : Fld := ⟨0x40109044, 64, 17, 16⟩
def PSQ_PINCLS_CLS9 : Fld := ⟨0x40109044, 64, 19, 18⟩
def PSQ_PINCLS_CLS10 : Fld := ⟨0x40109044, 64, 21, 20⟩
def PSQ_PINCLS_CLS11 : Fld := ⟨0x40109044, 64, 23, 22⟩
def PSQ_PINCLS_CLS12 : Fld := ⟨0x40109044, 64, 25, 24⟩
def PSQ_PINCLS_CLS13 : Fld := ⟨0x40109044, 64, 27, 26⟩
def PSQ_PINCLS_CLS14 : Fld := ⟨0x40109044, 64, 29, 28⟩
def PSQ_PINCLS_CLS15 : Fld := ⟨0x40109044, 64, 31, 30⟩
def PSQ_SHCFG_GATHER_ORDER : Fld := ⟨0x40109048, 64, 0, 0⟩
def PSQ_SHCFG_SPILL_ORDER : Fld := ⟨0x40109048, 64, 1, 1⟩
def PSQ_SHCFG_HAND_EN : Fld := ⟨0x40109048, 64, 2, 2⟩
def PSQ_SHCFG_REFILL_EN : Fld := ⟨0x40109048, 64, 3, 3⟩
def PSQ_SHCFG_WORD_BITS : Fld := ⟨0x40109048, 64, 8, 4⟩
def PSQ_SHCFG_TEST_PIN : Fld := ⟨0x40109048, 64, 13, 10⟩
def PSQ_SHCFG_CLK_PIN : Fld := ⟨0x40109048, 64, 17, 14⟩
def PSQ_SHCFG_CLK_POL : Fld := ⟨0x40109048, 64, 18, 18⟩
def PSQ_SHCFG_CLK_EN : Fld := ⟨0x40109048, 64, 19, 19⟩
def PSQ_SHCFG_TICK_SYNC : Fld := ⟨0x40109048, 64, 20, 20⟩
def PSQ_SHCFG_PRELOAD_N : Fld := ⟨0x40109048, 64, 27, 24⟩
def PSQ_LOOP_LOOP_HEAD : Fld := ⟨0x4010904c, 64, 5, 0⟩
def PSQ_LOOP_LOOP_TAIL : Fld := ⟨0x4010904c, 64, 13, 8⟩
def PSQ_LOOP_HEAD_ACT : Fld := ⟨0x4010904c, 64, 21, 16⟩
def PSQ_LOOP_TAIL_ACT : Fld := ⟨0x4010904c, 64, 29, 24⟩
def PSQ_WIN_WIN_START : Fld := ⟨0x40109050, 64, 11, 0⟩
def PSQ_WIN_WIN_END : Fld := ⟨0x40109050, 64, 27, 16⟩
def PSQ_STATE_PC : Fld := ⟨0x40109054, 64, 5, 0⟩
def PSQ_STATE_PARTIAL : Fld := ⟨0x40109054, 64, 6, 6⟩
def PSQ_STATE_STEPS_LEFT : Fld := ⟨0x40109054, 64, 13, 8⟩
def PSQ_STATE_FLAGS : Fld := ⟨0x40109054, 64, 19, 16⟩
def PSQ_STATE_GHELD : Fld := ⟨0x40109054, 64, 25, 20⟩
def PSQ_STATE_SREM : Fld := ⟨0x40109054, 64, 31, 26⟩
def PSQ_GTR_GTR : Fld := ⟨0x40109058, 64, 31, 0⟩
def PSQ_SPR_SPR : Fld := ⟨0x4010905c, 64, 31, 0⟩
def PSQ_CTR_CTR : Fld := ⟨0x40109060, 64, 31, 0⟩
def PSQ_PASSES_PASSES : Fld := ⟨0x40109074, 64, 15, 0⟩
def PSQ_FSTAT_TX_LEVEL : Fld := ⟨0x40109064, 64, 3, 0⟩
def PSQ_FSTAT_RX_LEVEL : Fld := ⟨0x40109064, 64, 7, 4⟩
def PSQ_FSTAT_RX_SEQ : Fld := ⟨0x40109064, 64, 15, 8⟩
def PSQ_FSTAT_TX_OVR : Fld := ⟨0x40109064, 64, 16, 16⟩
def PSQ_FSTAT_TX_STARVE : Fld := ⟨0x40109064, 64, 17, 17⟩
def PSQ_FSTAT_RX_OVR : Fld := ⟨0x40109064, 64, 18, 18⟩
def PSQ_FSTAT_RX_STARVE : Fld := ⟨0x40109064, 64, 19, 19⟩
def PSQ_FSTAT_SHIFT_LOST : Fld := ⟨0x40109064, 64, 20, 20⟩
def PSQ_TX_TX : Fld := ⟨0x40109068, 64, 31, 0⟩
def PSQ_RX_RX : Fld := ⟨0x4010906c, 64, 31, 0⟩
def PSQ_RXACK_SEQ : Fld := ⟨0x40109070, 64, 7, 0⟩
def PSQ_IMEM_INSTR : Fld := ⟨0x40109400, 4, 15, 0⟩
def HOST_CFG_GEN : Fld := ⟨0x40010000, 4, 0, 0⟩
def HOST_CFG_WIDTH : Fld := ⟨0x40010000, 4, 2, 1⟩
def HOST_CFG_G2_EN : Fld := ⟨0x40010000, 4, 3, 3⟩
def HOST_STAT_IN_FLIGHT : Fld := ⟨0x40010004, 4, 0, 0⟩
def HOST_STAT_RESP_READY : Fld := ⟨0x40010004, 4, 1, 1⟩
def HOST_STAT_LAST_OP : Fld := ⟨0x40010004, 4, 15, 8⟩
def HOST_STAT_RSEQ : Fld := ⟨0x40010004, 4, 31, 16⟩
def HOST_ERR_FRAME_ERR : Fld := ⟨0x40010008, 4, 0, 0⟩
def HOST_ERR_CRC_ERR : Fld := ⟨0x40010008, 4, 1, 1⟩
def HOST_ERR_REJECT : Fld := ⟨0x40010008, 4, 2, 2⟩
def HOST_ERR_G2_OFF : Fld := ⟨0x40010008, 4, 3, 3⟩
def HOST_ERR_G1_BADCMD : Fld := ⟨0x40010008, 4, 4, 4⟩
def HOST_ERR_EMU_MODE : Fld := ⟨0x40010008, 4, 5, 5⟩
def HOST_ERR_EMU_CH_BAD : Fld := ⟨0x40010008, 4, 6, 6⟩
def HOST_ATTN_MASK : Fld := ⟨0x4001000c, 4, 8, 0⟩
def HOST_ATTN_ACTIVE : Fld := ⟨0x4001000c, 4, 24, 16⟩
def HOST_RESP_STATUS : Fld := ⟨0x40010010, 4, 7, 0⟩
def HOST_RESP_VALID : Fld := ⟨0x40010010, 4, 8, 8⟩
def HOST_RESP_STALE : Fld := ⟨0x40010010, 4, 9, 9⟩
def HOST_RESP_ABORT_LATE : Fld := ⟨0x40010010, 4, 10, 10⟩
def HOST_RESP_RSEQ : Fld := ⟨0x40010010, 4, 31, 16⟩
def HOST_EMU_EMU_CH : Fld := ⟨0x40010014, 4, 2, 0⟩
def HOST_EMU_G1_CLASS : Fld := ⟨0x40010014, 4, 6, 3⟩
def HOST_EMU_G2_BLK : Fld := ⟨0x40010014, 4, 9, 7⟩
def HOST_EMU_G2_VBASE : Fld := ⟨0x40010014, 4, 26, 16⟩
def HOST_CNT_FRAMES : Fld := ⟨0x40010018, 4, 15, 0⟩
def HOST_CNT_CRC_ERRS : Fld := ⟨0x40010018, 4, 31, 16⟩
def TUN_CTL_RUNNING : Fld := ⟨0x40080000, 4, 3, 0⟩
def TUN_CTL_LOCK_ENG : Fld := ⟨0x40080000, 4, 5, 4⟩
def TUN_CTL_LOCK_OFS_US : Fld := ⟨0x40080000, 4, 19, 8⟩
def TUN_STAT_PROTO : Fld := ⟨0x40080010, 4, 3, 0⟩
def TUN_STAT_STATE : Fld := ⟨0x40080010, 4, 5, 4⟩
def TUN_STAT_VR_BUSY : Fld := ⟨0x40080010, 4, 6, 6⟩
def TUN_ERR_WDOG : Fld := ⟨0x40080020, 4, 0, 0⟩
def TUN_ERR_CODE_BAD : Fld := ⟨0x40080020, 4, 1, 1⟩
def TUN_ERR_AREA_LONG : Fld := ⟨0x40080020, 4, 2, 2⟩
def TUN_CNT_DELIVERIES : Fld := ⟨0x40080030, 4, 15, 0⟩
def TUN_CNT_JITTER_DROPS : Fld := ⟨0x40080030, 4, 31, 16⟩
def NET_PORT_MODE : Fld := ⟨0x40070000, 4, 1, 0⟩
def NET_PORT_LINK : Fld := ⟨0x40070000, 4, 8, 8⟩
def NET_PORT_SPEED : Fld := ⟨0x40070000, 4, 10, 9⟩
def NET_PTP_CFG_EN : Fld := ⟨0x40070020, 4, 0, 0⟩
def NET_PTP_CFG_PORT : Fld := ⟨0x40070020, 4, 1, 1⟩
def NET_PTP_CFG_DELAY : Fld := ⟨0x40070020, 4, 2, 2⟩
def NET_PTP_CFG_PROFILE : Fld := ⟨0x40070020, 4, 3, 3⟩
def NET_PTP_CFG_DOMAIN : Fld := ⟨0x40070020, 4, 15, 8⟩
def NET_PTP_CYC_PERIOD_US : Fld := ⟨0x40070024, 4, 19, 0⟩
def NET_PTP_OFS_OFFSET_NS : Fld := ⟨0x40070028, 4, 29, 0⟩
def NET_PTP_STAT_STATE : Fld := ⟨0x4007002c, 4, 1, 0⟩
def NET_PTP_STAT_OFFSET : Fld := ⟨0x4007002c, 4, 31, 16⟩
def RHL_CFG_ROLE : Fld := ⟨0x40050000, 4, 0, 0⟩
def RHL_CFG_ADDR_MODE : Fld := ⟨0x40050000, 4, 1, 1⟩
def RHL_CFG_PORT_EN : Fld := ⟨0x40050000, 4, 4, 2⟩
def RHL_CFG_PAIR_P2 : Fld := ⟨0x40050000, 4, 5, 5⟩
def RHL_CFG_ADDR : Fld := ⟨0x40050000, 4, 24, 16⟩
def RHL_STAT_STATE : Fld := ⟨0x40050004, 4, 2, 0⟩
def RHL_STAT_REASON : Fld := ⟨0x40050004, 4, 7, 4⟩
def RHL_STAT_RING : Fld := ⟨0x40050004, 4, 8, 8⟩
def RHL_STAT_ADDR_ACT : Fld := ⟨0x40050004, 4, 24, 16⟩
def RHL_UID_LO_UID : Fld := ⟨0x40050008, 4, 31, 0⟩
def RHL_UID_HI_UID : Fld := ⟨0x4005000c, 4, 31, 0⟩
def RHL_PORT_LINK : Fld := ⟨0x40050010, 4, 0, 0⟩
def RHL_PORT_RING_PORT : Fld := ⟨0x40050010, 4, 1, 1⟩
def RHL_PORT_HOLD : Fld := ⟨0x40050010, 4, 2, 2⟩
def RHL_PORT_NEIGH : Fld := ⟨0x40050010, 4, 12, 4⟩
def RHL_PORT_DELAY_NS : Fld := ⟨0x40050010, 4, 31, 16⟩
def RHL_DECL_DECL_NS : Fld := ⟨0x40050020, 4, 15, 0⟩
def RHL_TIME_OFFSET_NS : Fld := ⟨0x40050030, 4, 15, 0⟩
def RHL_SUBTICK_SUBTICK : Fld := ⟨0x40050034, 4, 21, 0⟩
def RHL_ERR_LINK_DOWN : Fld := ⟨0x40050038, 4, 0, 0⟩
def RHL_ERR_CRC : Fld := ⟨0x40050038, 4, 1, 1⟩
def RHL_ERR_HOP_DROP : Fld := ⟨0x40050038, 4, 2, 2⟩
def RHL_ERR_MEDIA_MISMATCH : Fld := ⟨0x40050038, 4, 3, 3⟩
def RHL_ERR_SET_CONFLICT : Fld := ⟨0x40050038, 4, 4, 4⟩
def RHL_ERR_AUTH_FAIL : Fld := ⟨0x40050038, 4, 5, 5⟩
def RHL_ERR_LATENCY : Fld := ⟨0x40050038, 4, 6, 6⟩
def RHL_CNT_CRC_ERRS : Fld := ⟨0x4005003c, 4, 15, 0⟩
def RHL_CNT_HEALS : Fld := ⟨0x4005003c, 4, 31, 16⟩
def RHL_WORST_WORST_NS : Fld := ⟨0x40050040, 4, 23, 0⟩
def RHL_PUB_A_SET_ID : Fld := ⟨0x40050100, 8, 11, 0⟩
def RHL_PUB_A_URGENT : Fld := ⟨0x40050100, 8, 12, 12⟩
def RHL_PUB_A_EN : Fld := ⟨0x40050100, 8, 13, 13⟩
def RHL_PUB_A_LEN : Fld := ⟨0x40050100, 8, 25, 16⟩
def RHL_PUB_B_DEST : Fld := ⟨0x40050104, 8, 8, 0⟩
def RHL_PUB_B_PUB_TICKS : Fld := ⟨0x40050104, 8, 23, 16⟩
def RHL_ROUTE_PORTS : Fld := ⟨0x40050400, 4, 31, 0⟩
def PAIR_CFG_EN : Fld := ⟨0x40060000, 4, 0, 0⟩
def PAIR_CFG_ROLE : Fld := ⟨0x40060000, 4, 2, 1⟩
def PAIR_CFG_PAIR_MASK : Fld := ⟨0x40060000, 4, 15, 8⟩
def PAIR_CFG_HB_DL : Fld := ⟨0x40060000, 4, 25, 16⟩
def PAIR_STAT_LINK : Fld := ⟨0x40060004, 4, 0, 0⟩
def PAIR_STAT_LEAD : Fld := ⟨0x40060004, 4, 1, 1⟩
def PAIR_STAT_ACTIVE : Fld := ⟨0x40060004, 4, 15, 8⟩
def PAIR_STAT_READY : Fld := ⟨0x40060004, 4, 23, 16⟩
def PAIR_STAT_COLD : Fld := ⟨0x40060004, 4, 31, 24⟩
def PAIR_HAND_MASK : Fld := ⟨0x40060008, 4, 7, 0⟩
def PAIR_ERR_HB_MISS : Fld := ⟨0x4006000c, 4, 0, 0⟩
def PAIR_ERR_LINK_LOST : Fld := ⟨0x4006000c, 4, 1, 1⟩
def PAIR_ERR_DESYNC : Fld := ⟨0x4006000c, 4, 2, 2⟩
def PAIR_ERR_SHADOW : Fld := ⟨0x4006000c, 4, 3, 3⟩
def PAIR_ERR_KEY_DISAGREE : Fld := ⟨0x4006000c, 4, 4, 4⟩
def PAIR_ERR_MISMATCH : Fld := ⟨0x4006000c, 4, 5, 5⟩
def PAIR_CNT_HB_MISSED : Fld := ⟨0x40060010, 4, 15, 0⟩
def PAIR_CNT_TAKEOVERS : Fld := ⟨0x40060010, 4, 31, 16⟩
def PAIR_PARTNER_LO_PARTNER_UID : Fld := ⟨0x40060018, 4, 31, 0⟩
def PAIR_PARTNER_HI_PARTNER_UID : Fld := ⟨0x4006001c, 4, 31, 0⟩
def PAIR_SHADOW_CODE : Fld := ⟨0x40060020, 4, 11, 0⟩
def PAIR_SHADOW_LINE : Fld := ⟨0x40060020, 4, 18, 12⟩
def PAIR_SHADOW_CHANNEL : Fld := ⟨0x40060020, 4, 21, 19⟩
def MEM_CNT_CYCLES : Fld := ⟨0x40030000, 4, 31, 0⟩
def MEM_CTL_CNT_CLR : Fld := ⟨0x40030080, 4, 0, 0⟩
def MEM_COLLIDE_OFFSET : Fld := ⟨0x40030084, 4, 19, 0⟩
def MEM_COLLIDE_MORE : Fld := ⟨0x40030084, 4, 30, 30⟩
def MEM_COLLIDE_COLLIDE : Fld := ⟨0x40030084, 4, 31, 31⟩
def MEM_FAILED_FAILED : Fld := ⟨0x40030088, 4, 31, 0⟩
def MEM_STAT_AON_FAILED : Fld := ⟨0x4003008c, 4, 0, 0⟩
def MEM_STAT_ECC_CORR : Fld := ⟨0x4003008c, 4, 1, 1⟩
def MEM_STAT_ECC_UNCORR : Fld := ⟨0x4003008c, 4, 2, 2⟩
def MEM_ECC_CORR : Fld := ⟨0x40030100, 4, 15, 0⟩
def MEM_ECC_UNCORR : Fld := ⟨0x40030100, 4, 23, 16⟩
def MEM_REPAIR_SPARES : Fld := ⟨0x40030200, 4, 31, 0⟩
def STEEP_CFG_EN : Fld := ⟨0x40030400, 4, 0, 0⟩
def STEEP_CFG_PACE_US : Fld := ⟨0x40030400, 4, 16, 1⟩
def STEEP_CFG_AON_EN : Fld := ⟨0x40030400, 4, 17, 17⟩
def STEEP_MASK_MASK : Fld := ⟨0x40030404, 4, 31, 0⟩
def STEEP_STAT_BANK : Fld := ⟨0x40030408, 4, 5, 0⟩
def STEEP_STAT_WINDOW : Fld := ⟨0x40030408, 4, 14, 6⟩
def STEEP_STAT_PHASE : Fld := ⟨0x40030408, 4, 16, 15⟩
def STEEP_STAT_BORROWED : Fld := ⟨0x40030408, 4, 17, 17⟩
def STEEP_CNT_SWEEPS : Fld := ⟨0x4003040c, 4, 15, 0⟩
def STEEP_CNT_RESTARTS : Fld := ⟨0x4003040c, 4, 31, 16⟩
def STEEP_SKIP_SKIPS : Fld := ⟨0x40030410, 4, 15, 0⟩
def STEEP_SKIP_SWEEP_S : Fld := ⟨0x40030410, 4, 31, 16⟩
def STEEP_ERR_HARD_BIT : Fld := ⟨0x40030414, 4, 0, 0⟩
def STEEP_ERR_FAIL : Fld := ⟨0x40030414, 4, 1, 1⟩
def STEEP_ERR_SKIP : Fld := ⟨0x40030414, 4, 2, 2⟩
def STEEP_FAULT_ADDR : Fld := ⟨0x40030418, 4, 31, 0⟩
def SYS_RST_CTL_REQ : Fld := ⟨0x40000300, 4, 0, 0⟩
def SYS_RST_CTL_KEY : Fld := ⟨0x40000300, 4, 31, 16⟩
def SYS_BLK_RST_TUN : Fld := ⟨0x40000304, 4, 3, 0⟩
def SYS_BLK_RST_HOST : Fld := ⟨0x40000304, 4, 4, 4⟩
def SYS_BLK_RST_FABRIC : Fld := ⟨0x40000304, 4, 5, 5⟩
def SYS_BLK_RST_PAIR : Fld := ⟨0x40000304, 4, 6, 6⟩
def SYS_BLK_RST_NET : Fld := ⟨0x40000304, 4, 7, 7⟩
def SYS_BLK_RST_STEEP : Fld := ⟨0x40000304, 4, 8, 8⟩
def SYS_WDT_TIMEOUT_MS : Fld := ⟨0x40000308, 4, 15, 0⟩
def SYS_REL_STEP : Fld := ⟨0x4000030c, 4, 3, 0⟩
def SYS_REL_CH_REL : Fld := ⟨0x4000030c, 4, 11, 4⟩
def SYS_REL_RC_FALLBACK : Fld := ⟨0x4000030c, 4, 12, 12⟩
def SYS_BOOTSEL_BAND : Fld := ⟨0x40000310, 4, 3, 0⟩
def SYS_BOOTSEL_GEN : Fld := ⟨0x40000310, 4, 4, 4⟩
def SYS_BOOTSEL_SRC : Fld := ⟨0x40000310, 4, 6, 5⟩
def SYS_BOOTSEL_PAIR : Fld := ⟨0x40000310, 4, 8, 7⟩
def SYS_BOOTSEL_SAFE : Fld := ⟨0x40000310, 4, 9, 9⟩
def SYS_BOOTSEL_EDGE : Fld := ⟨0x40000310, 4, 10, 10⟩
def SYS_BOOTSEL_CODE : Fld := ⟨0x40000310, 4, 21, 12⟩
def CTL_RST_CH : Fld := ⟨0x4010f000, 4, 0, 0⟩
def CTL_RST_QUIESCE : Fld := ⟨0x4010f000, 4, 1, 1⟩
def CTL_RST_SUB : Fld := ⟨0x4010f000, 4, 10, 2⟩
def CTL_STAT_IN_RESET : Fld := ⟨0x4010f004, 4, 0, 0⟩
def CTL_STAT_QUIESCING : Fld := ⟨0x4010f004, 4, 1, 1⟩
def CTL_STAT_ISO_ERRS : Fld := ⟨0x4010f004, 4, 31, 16⟩
def BKP_DATA : Fld := ⟨0x3002000, 4, 31, 0⟩
def RST_REC_CAUSE : Fld := ⟨0x3002040, 4, 3, 0⟩
def RST_REC_RAIL : Fld := ⟨0x3002040, 4, 7, 4⟩
def RST_REC_SOURCES : Fld := ⟨0x3002040, 4, 17, 8⟩
def RST_REC_TRIM_BAD : Fld := ⟨0x3002040, 4, 19, 18⟩
def RST_REC_HOLD : Fld := ⟨0x3002040, 4, 20, 20⟩
def RST_REC_MEMHOLD : Fld := ⟨0x3002040, 4, 21, 21⟩
def RST_REC_BAND : Fld := ⟨0x3002040, 4, 25, 22⟩
def RST_REC_EDGE : Fld := ⟨0x3002040, 4, 26, 26⟩
def RST_PREV_CAUSE : Fld := ⟨0x3002044, 4, 3, 0⟩
def RST_PREV_RAIL : Fld := ⟨0x3002044, 4, 7, 4⟩
def RST_PREV_SOURCES : Fld := ⟨0x3002044, 4, 17, 8⟩
def RST_PREV_TRIM_BAD : Fld := ⟨0x3002044, 4, 19, 18⟩
def RST_PREV_HOLD : Fld := ⟨0x3002044, 4, 20, 20⟩
def RST_PREV_MEMHOLD : Fld := ⟨0x3002044, 4, 21, 21⟩
def RST_PREV_BAND : Fld := ⟨0x3002044, 4, 25, 22⟩
def RST_PREV_EDGE : Fld := ⟨0x3002044, 4, 26, 26⟩
def RST_COUNT_COUNT : Fld := ⟨0x3002048, 4, 15, 0⟩
def SEC_FLAGS_SECRETS_ERASED : Fld := ⟨0x3002050, 4, 0, 0⟩
def PWR_STAT_STATE : Fld := ⟨0x40008000, 4, 2, 0⟩
def PWR_STAT_ENTERING : Fld := ⟨0x40008000, 4, 3, 3⟩
def PWR_STAT_LATCH_LOST : Fld := ⟨0x40008000, 4, 4, 4⟩
def PWR_STAT_LATCHED : Fld := ⟨0x40008000, 4, 15, 8⟩
def PWR_CFG_PMB_EN : Fld := ⟨0x40008004, 4, 0, 0⟩
def PWR_CFG_PMB_ADDR : Fld := ⟨0x40008004, 4, 7, 1⟩
def PWR_CFG_PEC_EN : Fld := ⟨0x40008004, 4, 8, 8⟩
def PWR_CFG_WAKE_POL : Fld := ⟨0x40008004, 4, 9, 9⟩
def PWR_CFG_AUTO_REL : Fld := ⟨0x40008004, 4, 23, 16⟩
def PWR_VOUT_RUN_MV : Fld := ⟨0x40008008, 4, 9, 0⟩
def PWR_VOUT_RET_MV : Fld := ⟨0x40008008, 4, 25, 16⟩
def PWR_PMB_STAT_REG_NOACK : Fld := ⟨0x4000800c, 4, 0, 0⟩
def PWR_PMB_STAT_WAKE_FAIL_REG : Fld := ⟨0x4000800c, 4, 1, 1⟩
def PWR_PMB_STAT_ALERT : Fld := ⟨0x4000800c, 4, 2, 2⟩
def PWR_PMB_STAT_MODE_BAD : Fld := ⟨0x4000800c, 4, 3, 3⟩
def PWR_PMB_STAT_ATTEMPTS : Fld := ⟨0x4000800c, 4, 6, 4⟩
def PWR_PMB_STAT_STATUS_WORD : Fld := ⟨0x4000800c, 4, 31, 16⟩
def PWR_WAKE_PEND_PEND : Fld := ⟨0x40008010, 4, 8, 0⟩
def PWR_LF_LF_HZ : Fld := ⟨0x40008014, 4, 15, 0⟩
def WAKE_REC_SOURCE : Fld := ⟨0x300204c, 4, 3, 0⟩
def WAKE_REC_STATE : Fld := ⟨0x300204c, 4, 6, 4⟩
def WAKE_REC_CANCELLED : Fld := ⟨0x300204c, 4, 8, 8⟩
def WAKE_REC_REG_NOACK : Fld := ⟨0x300204c, 4, 9, 9⟩
def WAKE_REC_WAKE_FAIL_REG : Fld := ⟨0x300204c, 4, 10, 10⟩
def WAKE_REC_OSC_FALLBACK : Fld := ⟨0x300204c, 4, 11, 11⟩
def WAKE_REC_CHANNEL : Fld := ⟨0x300204c, 4, 14, 12⟩
def WAKE_REC_PORT : Fld := ⟨0x300204c, 4, 17, 16⟩
def SEC_STAT_KEYS : Fld := ⟨0x40020000, 4, 3, 0⟩
def SEC_STAT_NONCE_VALID : Fld := ⟨0x40020000, 4, 4, 4⟩
def SEC_STAT_LOCKOUT : Fld := ⟨0x40020000, 4, 5, 5⟩
def SEC_STAT_DEBUG_OPEN : Fld := ⟨0x40020000, 4, 6, 6⟩
def SEC_STAT_ERASING : Fld := ⟨0x40020000, 4, 7, 7⟩
def SEC_STAT_NO_DEBUG : Fld := ⟨0x40020000, 4, 8, 8⟩
def SEC_STAT_FAILS : Fld := ⟨0x40020000, 4, 18, 16⟩
def SEC_CHAL_REQ : Fld := ⟨0x40020004, 4, 0, 0⟩
def SEC_NONCE_NONCE : Fld := ⟨0x40020010, 4, 31, 0⟩
def SEC_DBG_CTL_OPEN : Fld := ⟨0x40020020, 4, 0, 0⟩
def SEC_DBG_CTL_CLOSE : Fld := ⟨0x40020020, 4, 1, 1⟩
def SEC_DBG_CTL_KEY : Fld := ⟨0x40020020, 4, 31, 16⟩
def MON_CTL_AUTO_PER : Fld := ⟨0x40040000, 4, 15, 0⟩
def MON_MASK_MASK : Fld := ⟨0x40040004, 4, 31, 0⟩
def MON_CMD_START : Fld := ⟨0x40040008, 4, 0, 0⟩
def MON_CMD_STOP : Fld := ⟨0x40040008, 4, 1, 1⟩
def MON_CMD_CLEAR : Fld := ⟨0x40040008, 4, 2, 2⟩
def MON_CMD_SNAP : Fld := ⟨0x40040008, 4, 3, 3⟩
def MON_CMD_STAMPED : Fld := ⟨0x40040008, 4, 4, 4⟩
def MON_STAMP_STAMP : Fld := ⟨0x4004000c, 4, 31, 0⟩
def MON_STAT_PENDING : Fld := ⟨0x40040010, 4, 0, 0⟩
def MON_STAT_STAMP_PEND : Fld := ⟨0x40040010, 4, 1, 1⟩
def MON_STAT_SNAP_SEQ : Fld := ⟨0x40040010, 4, 31, 16⟩
def MON_RUN_RUN : Fld := ⟨0x40040014, 4, 31, 0⟩
def MON_SNAP_TICK_TICK : Fld := ⟨0x40040018, 4, 31, 0⟩
def MON_CFG_SRC : Fld := ⟨0x40040100, 4, 6, 0⟩
def MON_CFG_INST : Fld := ⟨0x40040100, 4, 12, 8⟩
def MON_SNAP_LO_VAL_LO : Fld := ⟨0x40040200, 8, 31, 0⟩
def MON_SNAP_HI_VAL_HI : Fld := ⟨0x40040204, 8, 15, 0⟩
def MON_SNAP_HI_OVF : Fld := ⟨0x40040204, 8, 16, 16⟩
def SYS_TEMP_TJ : Fld := ⟨0x40000380, 4, 7, 0⟩
def SYS_TEMP_TJ_MAX : Fld := ⟨0x40000380, 4, 15, 8⟩
def SYS_TEMP_HOT : Fld := ⟨0x40000380, 4, 16, 16⟩
def SYS_TEMP_OVER : Fld := ⟨0x40000380, 4, 17, 17⟩
def SYS_TEMP_HOT_SEEN : Fld := ⟨0x40000380, 4, 18, 18⟩
def SYS_TEMP_OVER_SEEN : Fld := ⟨0x40000380, 4, 19, 19⟩

end Sys2Proof.Machine.F
end

