-- ==== Sys2Proof/Machine/State.lean ====
section
/-! DEFINITION. The state of the device: plain data. Registers are one table by address (`Dev.regs`); what no
register shows stands in the structures below, each field with the rule that names it. -/

namespace Sys2Proof.Machine

/-- What restarts a channel at the next boundary. -/
inductive Restart where
  /-- after quiescing without an image: content and states are kept (R96, R205) -/
  | plain
  /-- after an image activation (R69 to R71) -/
  | image
deriving DecidableEq, Repr

/-- A slot of the running tick: its place in the plan, its kind, its duration in channel-clock cycles as it now
stands, and whether it was shortened in this tick (R41). -/
structure SlotRun where
  idx : Nat
  kind : Nat
  dur : Nat
  short : Bool
deriving DecidableEq, Repr

/-- What a commit adopts: SEQ_CFG, the slot words, the roles by line, and the fields that R75, R100 and the register texts
of GRIST_CFG and INTEG_CFG adopt only at a successful plan commit. -/
structure PlanSet where
  /-- SEQ_CFG as checked; R48 -/
  cfg : Nat
  /-- slot entries, as SEQ_SLOT words; R48 -/
  slots : List Nat
  /-- role word of each line, as LINE_ROLE; R31 -/
  roles : List Nat
  /-- BIAS; R75 -/
  bias : Nat
  /-- INV; R75 -/
  inv : Bool
  /-- DEAD in 10 ns; R100 -/
  dead : Nat
  /-- RISE in 10 ns; R100 -/
  rise : Nat
  /-- SETTLE_US; ch. 09, register text -/
  settle : Nat
  /-- STEPS; ch. 09, register text -/
  steps : Nat
  /-- LED_DARK_EN; INTEG_CFG, R48, R121 -/
  darkEn : Bool
  /-- LCD_EN; INTEG_CFG, R48, R123 -/
  lcdEn : Bool
deriving DecidableEq, Repr

/-- The channel sequencer (R36 to R48). -/
structure Seq where
  /-- the active plan, roles and the settings adopted with them; R29, R48, R75, R100 -/
  act : PlanSet
  /-- a checked commit that waits for its boundary; R48 -/
  commit : Option PlanSet
  /-- slots of the running tick that have not started; R34, R41 -/
  todo : List SlotRun
  /-- the slot in progress; R34 -/
  cur : Option SlotRun
  /-- its start, in cycles from the boundary; R41 -/
  curStart : Nat
  /-- cycles by which a hold has lengthened it; R40, R82 -/
  hold : Nat
  /-- slots started in the tick; R12, R41 -/
  started : Nat
  /-- the count of started slots just after the GUARD slot started, in the tick; R12, R42 -/
  guardOrd : Option Nat
  /-- DISPLAY slots started in the tick; R36 -/
  nDisp : Nat
  /-- what the running DIAG slot has come to: 0 nothing captured, 1 past the lamp window, 2 past a line group of
  the integrity engine, 3 past the last one, taken by the continuity test; R38, R206 -/
  diagPhase : Nat
  /-- a STATS_CLR waits for its boundary; SEQ_CTL -/
  statsClr : Bool
  /-- cycles of lock correction still to be placed in this tick's DISPLAY slots; R44 -/
  corr : Int
  /-- R41 has dropped or shortened something in this tick; R433 -/
  yielded : Bool
  /-- plan entries of the KEY slots dropped in this tick, whose steps pass in their order as the tick ends; R193, R203 -/
  lost : List Nat
  /-- the plan has stopped within this tick, and the key steps it still owed have passed; R84, R203 -/
  halted : Bool
deriving DecidableEq, Repr

/-- How far a channel's quiescing has come (R93, R94). -/
inductive Quiesce where
  /-- not quiescing -/
  | none
  /-- asked for; starts at the next boundary -/
  | pend
  /-- settle ticks left, the running one included -/
  | settle (left : Nat)
  /-- the discharge tick, or a repeat of its proof: repeats done -/
  | discharge (rep : Nat)
  /-- LED: boundaries left -/
  | led (left : Nat)
  /-- the last tick of quiescing has ended: QUIESCE_DONE is due -/
  | done
deriving DecidableEq, Repr

/-- How a line is booked in the running slot: its deviation from VMID and the trim taken from its time (R77, R88). -/
structure LineBook where
  line : Nat
  dev : Int
  trim : Nat
deriving DecidableEq, Repr

/-- The Kiln and the DC ledger (R79 to R97). -/
structure Kiln where
  /-- VLCD and all buffers off; R83 -/
  cold : Bool
  /-- VLCD ramps from cold at 10 V/ms, and READY has not been set since; R83 -/
  ramping : Bool
  /-- the target ve of the last boundary, in 10 mV; R79, R83 -/
  target : Nat
  /-- the readings of the source in use, newest first, at most 64, in thousandths of a degree; R80 -/
  temps : List Int
  /-- T in thousandths of a degree; R80 -/
  tFilt : Int
  /-- the source in use is the die sensor; R80 -/
  onDie : Bool
  /-- ticks for which T still holds its last value; R80 -/
  tHold : Nat
  /-- consecutive out-of-range NTC readings; stands at 4 while the die sensor stands in for the NTC; R80 -/
  ntcBad : Nat
  /-- consecutive in-range NTC readings, newest first, at most 64; R80 -/
  ntcGood : List Int
  /-- consecutive DISPLAY slots that ended unsettled; R82 -/
  unsettled : Nat
  /-- a Kiln fault stops the channel; R84 -/
  faulted : Bool
  /-- a Kiln fault has been detected, and the next slot start acts on it; R84 -/
  faultDue : Bool
  /-- account A of each line, in 1/7,680 of 10 mV times 5 ns; R86 -/
  acc : Tab Int
  /-- accounts as of the last boundary; R97, R362 -/
  accAt : Tab Int
  /-- the levels that the partner drove last, as deviations from VMID; R97 -/
  driven : Tab Int
  /-- cycles from the GUARD slot's start to the boundary in the last tick that the partner drove; R97 -/
  guardLen : Nat
  /-- nobody drove the channel in the last tick; R97 -/
  away : Bool
  /-- residual R of each line, same unit; R88 -/
  res : Tab Int
  /-- the bookings of the running slot; R86 to R89 -/
  book : List LineBook
  /-- parked lines of the last DISPLAY slot; R89, R123 -/
  parked : List Nat
  /-- the level each line held last, as a deviation from VMID; R87, R97, R122 -/
  lastDev : Tab Int
  /-- how far quiescing has come; R93 -/
  quiesce : Quiesce
  /-- lines that failed the last discharge proof; R93 -/
  proofFail : List Nat
  /-- the proof of the running discharge tick has been captured; R93 -/
  proofRun : Bool
  /-- MAX_CLR waits for its boundary; KILN_LEDGER_CTL -/
  maxClr : Bool
deriving DecidableEq, Repr

/-- The LED sinks and the sink governor. -/
structure Led where
  /-- V(s, d) in mV by element; none: never measured; R106 -/
  volts : Tab Nat
  /-- the stored tick estimates in µW, newest first, at most 16; R107, R112 -/
  est : List Nat
  /-- P_avg of the previous decision in µW; R108 -/
  prevAvg : Nat
  /-- P_tick of the ending tick, in µW, where it is acted on; R107 -/
  tickEst : Option Nat
  /-- the fast path acted at this boundary; R108 -/
  fastNow : Bool
  /-- the decision of this boundary is due; R108 -/
  decide : Bool
  /-- the running slot's digit pre-driver is in current limit; R98 -/
  ocNow : Bool
  /-- cycles of the PWM window of each digit in this tick, where shorter than planned; R102 -/
  winOf : Tab Nat
deriving DecidableEq, Repr

/-- A failure that takes effect at the boundary that ends the tick (R126). -/
structure Declared where
  /-- the elements -/
  elems : List Nat
  /-- 1 DARK, 2 LIT, 3 UNKNOWN -/
  state : Nat
  /-- the line, for a line declaration -/
  line : Option Nat
deriving DecidableEq, Repr

/-- The integrity engine (R114 to R137). -/
structure Integ where
  /-- failing results in a row, by check × 1,024 + index; checks: 0 lit and 1 chain by element, 2 COM watch by COM
  index, 3 dark by SEG index, 4 line charge by line; R125 -/
  fails : Tab Nat
  /-- the checks that declared a failed element: element, and check × 1,024 + index; R127 -/
  failedBy : List (Nat × Nat)
  /-- SEG indices that failed a test in the running dark period; R120 -/
  darkNow : List Nat
  /-- SEG indices tested in the running dark period; R120 -/
  darkSeen : List Nat
  /-- learning: measurements taken and their smallest, by line; R124 -/
  learn : Tab (Nat × Nat)
  /-- the elements in RECHECK: the checks that must still pass, each with its passing results in a row; R127 -/
  recheck : Tab (List (Nat × Nat))
  /-- DIAG slots dropped since the restart, by which the check periods stand later; R42 -/
  diagLost : Nat
  /-- declarations of this tick, in order; R126 -/
  decl : List Declared
  /-- elements that returned to OK in this tick; R127 -/
  okNow : List Nat
  /-- INTEG_CLR writes due at the next boundary: none for all, or the field; R127 -/
  clr : List (Option Nat)
  /-- fields whose policy is in force; R131, R135 -/
  inForce : List Nat
  /-- elements with a pulse of at least LIT_MIN in the running dither period; R117 -/
  verified : List Nat
  /-- elements lit in every tick of the running dither period so far; R117 -/
  litAll : List Nat
  /-- elements reported unverified since their last verified pulse; R117 -/
  unverRep : List Nat
deriving DecidableEq, Repr

/-- One write of a delivery's results. -/
inductive DispWrite where
  /-- an element of the SEG_PLANE -/
  | elem (e : Nat) (on : Bool)
  /-- a field's value record -/
  | value (f : Nat) (v : Nat) (bad : Bool)
deriving DecidableEq, Repr

/-- What a delivery carries. -/
inductive DelivBody where
  /-- FIELD_SET entries: field, bad quality, value (R162) -/
  | fields (es : List (Nat × Bool × Nat))
  /-- SEG_WRITE pairs: word, mask, value (R163) -/
  | segs (ps : List (Nat × Nat × Nat))
  /-- an area: binding KIND, ENGINE, SET and the bytes delivered (R157, R159) -/
  | area (kind engine set : Nat) (data : List Byte)
  /-- elements of an emulated plane (R310, R313) -/
  | plane (es : List (Nat × Bool))
deriving DecidableEq, Repr

/-- A delivery at the Mash (R159). -/
structure Delivery where
  body : DelivBody
  /-- where it came from -/
  src : Origin
  /-- the port whose command in flight it completes, if any -/
  who : Option Origin
  /-- slots started by its arrival in the tick it arrived in; none once that tick has ended (R12) -/
  ord : Option Nat
  /-- the future tick its stamp names (R14) -/
  due : Option Nat
  /-- its stamp named the current tick or a past one (R14) -/
  late : Bool
deriving DecidableEq, Repr

/-- A delivery drawn into staging: what its burst will write and do (R159 to R161). -/
structure Drawn where
  deliv : Delivery
  disp : List DispWrite
  /-- alert conditions -/
  alerts : List (Nat × Bool)
  /-- dim levels -/
  dims : List (Nat × Nat)
  /-- lamp function levels -/
  lamps : List (Nat × Nat)
deriving DecidableEq, Repr

/-- A change that waits for a boundary of the channel (R12 to R14). -/
inductive Chg where
  /-- the display writes of a delivery -/
  | disp (ws : List DispWrite)
  /-- IMAGE_SWAP (R164) -/
  | swap
  /-- an alert's condition (R175) -/
  | alertCond (a : Nat) (on : Bool)
  /-- an acknowledge: alert, origin code of R179 -/
  | alertAck (a : Nat) (origin : Nat)
  /-- an acknowledge of every alert whose ACK_GRP is in the mask, and the origin code (R177, R178) -/
  | alertAckGrp (mask : Nat) (origin : Nat)
  /-- a register's new value comes into force -/
  | reg (addr : Nat) (val : Nat)
  /-- a lamp function's written level (R236) -/
  | lamp (f level : Nat)
deriving DecidableEq, Repr

/-- A pending change: when it committed, and for what boundary (R12 to R14). -/
structure Change where
  /-- the tick in which it committed -/
  tick : Nat
  /-- slots started in that tick by then; none once that tick has ended (R12) -/
  ord : Option Nat
  /-- the future tick its stamp names, where it has one (R14) -/
  due : Option Nat
  /-- it met the late case of R14: its stamp named the current tick or a past one, or it committed after its cut-off -/
  late : Bool
  what : Chg
deriving DecidableEq, Repr

/-- The Mash engine. -/
structure Mash where
  /-- changes waiting for their boundary, in commit order; R12 to R15, R160 -/
  changes : List Change
  /-- the input queue, oldest first; R161 -/
  queue : List Delivery
  /-- deliveries a Tun engine or the fabric holds while the queue is full; R161 -/
  waiting : List Delivery
  /-- the delivery drawn into staging; R159 -/
  drawn : Option Drawn
  /-- registers whose running value still is an older one, by address; R12 -/
  older : Tab Nat
  /-- the channels that the IMAGE_SWAP that waits names, as a mask; R164 -/
  swapMask : Nat
deriving DecidableEq, Repr

/-- Alerts and blinking. -/
structure Blink where
  /-- elements lit in the running tick, in rising order; R132 -/
  lit : List Nat
  /-- digits whose pre-driver a policy holds off in this tick; R134 -/
  digitsOff : List Nat
  /-- the last tick presented before BLINK was held; R399 -/
  shownAt : Nat
deriving DecidableEq, Repr

/-- A shifted ghost, span, ambiguity or break that has been reported, with the VALUE of its starting entry (R209). -/
structure GristRec where
  code : Nat
  value : Nat
deriving DecidableEq, Repr

/-- A boundary entry that waits for the batch of R216: its group, kind, code, flags, value and stamp. -/
structure Waiting where
  group : Nat
  kind : Nat
  code : Nat
  flags : Nat
  value : Nat
  stamp : Nat
deriving DecidableEq, Repr

/-- The key scanner. -/
structure Grist where
  /-- raw map: taps named, as a bit mask by (drive × 8 + ladder); R196 -/
  raw : Tab Nat
  /-- relay drives of each drive's last step, as a mask by drive; R201 -/
  relay : Tab Nat
  /-- press count of each key; R203 -/
  press : Tab Nat
  /-- release count of each key; R203 -/
  release : Tab Nat
  /-- debounced-down keys as declared, before their boundary; R204 -/
  down : List Nat
  /-- keys observed FROZEN at their last step; R223 -/
  frozen : List Nat
  /-- ghosts open, by (drive × 64 + ladder × 8); R198 -/
  ghosts : List GristRec
  /-- spans open; R199 -/
  splits : List GristRec
  /-- ambiguous keys: key index, VALUE of the entry; R200 -/
  ambig : List GristRec
  /-- keys chosen under R201, with the drive j, the other ladder X and its tap b: key, j × 64 + X × 8 + (b − 1) -/
  chosen : List (Nat × Nat)
  /-- one-end results in a row, by ladder; R208 -/
  oneEnd : Tab Nat
  /-- failing continuity results in a row, by ladder; R208 -/
  contFail : Tab Nat
  /-- passing continuity results in a row, by ladder; R208 -/
  contPass : Tab Nat
  /-- scans completed since the last continuity test fell due; R206 -/
  scansDone : Nat
  /-- a tap was named, or a key down, in the running scan; R206 -/
  scanBusy : Bool
  /-- the same, of the last completed scan; R206 -/
  lastBusy : Bool
  /-- a continuity test fell due in an earlier tick; R206 -/
  contOld : Bool
  /-- the tick and the head codes of a continuity test not yet confirmed by the next key step; R206, R209 -/
  contRes : Option (Nat × List Nat)
  /-- last failing head code, by ladder; R209 -/
  contCode : Tab Nat
  /-- the key step of the KEY slot in progress has run; R203 -/
  stepRun : Bool
  /-- VALUE of the open CABLE_BREAK entries, by ladder; R209 -/
  breaks : Tab Nat
  /-- declarations of this tick: key, pressed; R204 -/
  decl : List (Nat × Bool)
deriving DecidableEq, Repr

/-- One entry as it is raised: its SEQ and bits 15 and 14 of FLAGS are the ring's to give (R214). -/
structure Entry where
  kind : Nat
  code : Nat
  flags : Nat
  value : Nat
  stamp : Nat
deriving DecidableEq, Repr

/-- A key held since its press (R223). -/
structure Held where
  key : Nat
  /-- stamp of the press -/
  t : Nat
  nd : Nat
  np : Nat
  rep : Bool
  rel : Bool
  ackKey : Bool
  /-- REPEAT entries written -/
  count : Nat
deriving DecidableEq, Repr

/-- A Cask ring beside its registers. -/
structure Ring where
  /-- the place the next entry is stored in; R213, log entry 7 -/
  place : Nat
  /-- the first entry stored next carries TAKEOVER; R225 -/
  takeover : Bool
deriving DecidableEq, Repr

/-- The channel's events (R211 to R225). -/
structure Cask where
  ring : Ring
  /-- boundary entries of the running tick; R216 -/
  batch : List Waiting
  /-- keys held; R223 -/
  held : List Held
  /-- the emulated SV-4410 queue: key byte, stamp, oldest first; R224 -/
  compat : List (Nat × Nat)
  /-- declarations of the tick that the queue takes with the batch: forerunner key, tick, pressed; R216, R224 -/
  compatNext : List (Nat × Nat × Bool)
  /-- at-once entries raised while the batch of the ended tick is still to be stored; none where it has been; R216 -/
  later : Option (List Entry)
deriving DecidableEq, Repr

/-- One encoder input (R226 to R229). -/
structure Encoder where
  /-- accepted A; R226 -/
  a : Bool
  /-- accepted B; R226 -/
  b : Bool
  /-- fine position; R226 -/
  x : Int
  /-- the x at which q first equalled REST; R227 -/
  anchor : Option Int
  /-- the last rest position reached; R227 -/
  rest : Int
  /-- time and direction of the last step, in µs; R228 -/
  last : Option (Nat × Bool)
  /-- raw and weighted sums of the tick; R229 -/
  raw : Int
  weighted : Int
  /-- ENC_ERR in the tick; R229 -/
  err : Bool
deriving DecidableEq, Repr

/-- One string lamp (R239 to R247). -/
structure Lamp where
  /-- 0 OK, 1 OPEN, 2 SHORT -/
  state : Nat
  /-- light debt e; R242 -/
  debt : Nat
  /-- due in this diagnostic period; R242 -/
  due : Bool
  /-- on-time out of this tick; R242 -/
  out : Nat
  /-- the pulse of this tick, with what it repays; R242 -/
  pulse : Option Nat
  /-- the switch opens for a retry in this tick; R247 -/
  retry : Bool
  /-- a retry of this period has run; R247 -/
  retried : Bool
  /-- failing measurements in a row; R240 -/
  fails : Nat
  /-- passing retries in a row; R247 -/
  passes : Nat
  /-- in RECHECK; R248 -/
  recheck : Bool
  /-- the switch was closed by hardware in this tick; R239 -/
  tripped : Bool
  /-- it was closed when the lamp window may already have begun; R240 -/
  inWindow : Bool
  /-- V_SW in mV, where measured; R240 -/
  vsw : Option Nat
  /-- lit in a tick of this period; R244 -/
  litSeen : Bool
  /-- an UNVERIFIED entry was written since the last measurement; R244 -/
  unverRep : Bool
  /-- the pump is ready; R251 -/
  pump : Bool
  /-- it has been ready throughout the running tick; R251 -/
  pumpAll : Bool
deriving DecidableEq, Repr

/-- The lamp string (R231 to R256). -/
structure LampStr where
  lamps : List Lamp
  /-- W of each function; R236 -/
  level : Tab Nat
  /-- functions held off: function, code of the failed member, and whether a LAMP_CLR has acted on it since; R245 -/
  heldOff : List (Nat × Nat × Bool)
  /-- UF-16 outputs failed: line × 256 + node × 16 + output; R264 -/
  ufFailed : List Nat
  /-- LAMP_CLR writes due: none for all, or the function; R248 -/
  clr : List (Option Nat)
  /-- duties d of the functions in the running tick; R236 -/
  duty : Tab Nat
  /-- the lamp window of the running tick has run; R238 -/
  winRan : Bool
  /-- stored tick estimates in µW, newest first; R249 -/
  est : List Nat
  prevAvg : Nat
  /-- P_tick of the ending tick, in µW, where it is acted on; R249 -/
  tickEst : Option Nat
  fastNow : Bool
  decide : Bool
  /-- the charge pumps have been started; R251, R393 -/
  pumpsOn : Bool
  /-- the open intervals of the switches as they stood when the records of an image were applied, up to the restart; R252 -/
  frozen : Option (List (List (Nat × Nat)))
deriving DecidableEq, Repr

/-- A Tap frame as it goes out: whether a BREAK precedes its bits, their number, the bits packed most significant first,
whether the line works in UF-16 mode, its nodes, whether POL inverts the line, and whether the bits are raw ones (R257, R258,
R269, R270). -/
structure TapFrame where
  brk : Bool
  bits : Nat
  bytes : List Byte
  uf : Bool
  nodes : Nat
  pol : Bool
  raw : Bool
deriving DecidableEq, Repr

/-- One Tap line. -/
structure Tap where
  /-- a frame was sent in this tick and its return has not been judged; R262 -/
  await : Bool
  /-- causes that the bad streams of this frame's window give its failure; R264 -/
  badCauses : List Nat
  /-- the frame that goes out until the restart boundary of an image activation; R252, R267 -/
  hold : Option TapFrame
  /-- cause of the last failing frame; R265 -/
  cause : Nat
  /-- M of the last orphan stream since the first failing frame; R265 -/
  orphan : Option Nat
  /-- statuses of a good return, that take effect at the next boundary; R264 -/
  pend : List Nat
  /-- FAULT seen in the last status of a page: node × 16 + output; R264 -/
  once : List Nat
  /-- nodes whose last status had CRC_ERR; R264 -/
  crcOnce : List Nat
  /-- this tick's frame has been built and not sent; R262 -/
  ready : Bool
  /-- outputs failed by FAULT or by a chain fault: node × 16 + output; R264, R265 -/
  bad : List Nat
  /-- nodes failed by CRC_ERR; R264 -/
  crcBad : List Nat
  /-- a chain fault was declared: its VALUE; R265 -/
  faultVal : Option Nat
deriving DecidableEq, Repr

/-- Where an engine stands in an instruction. -/
inductive PsqDoing where
  /-- between instructions -/
  | idle
  /-- in an AWAIT; the level of its pin in the last engine cycle -/
  | await (prev : Bool)
  /-- stalled in a TAKE or GIVE -/
  | stallWord
  /-- stalled in a GATHER or SPILL, with steps left; the step's hand-off is owed -/
  | stallShift (left : Nat) (owed : Bool)
deriving DecidableEq, Repr

/-- One pin engine beside its registers (R271 to R291). -/
structure Engine where
  tx : List Nat
  rx : List Nat
  /-- sequence number of the oldest RX word; R280 -/
  rxSeq : Nat
  spr : Nat
  srem : Nat
  gtr : Nat
  gheld : Nat
  ctr : Nat
  flags : Nat
  /-- direction latches; R271 -/
  dir : Nat
  /-- output latches; R271 -/
  out : Nat
  doing : PsqDoing
  /-- stands inside its window; R289 -/
  window : Bool
  /-- channel events pulsed since the last engine cycle of an AWAIT, or in the cycle in which the engine starts, as a mask;
  R276 -/
  events : Nat
deriving DecidableEq, Repr

/-- One display channel (R10). -/
structure Chan where
  seq : Seq
  kiln : Kiln
  led : Led
  integ : Integ
  mash : Mash
  blink : Blink
  grist : Grist
  cask : Cask
  enc : List Encoder
  lamp : LampStr
  tap : List Tap
  psq : List Engine
  /-- the channel runs its plan, or would but for a missing READY: from its restart boundary; R83 -/
  running : Bool
  /-- a restart waits for the next boundary; R69, R70, R96 -/
  restart : Option Restart
  /-- CTL_RST holds the channel; when, in 200 MHz cycles, is not counted; R398 -/
  inReset : Bool
  /-- sub-blocks held, by bit of CTL_RST.SUB; R399 -/
  subHeld : Nat
  /-- the channel belongs to the standby of a Laninen pair; R225, R356 -/
  standby : Bool
  /-- bank regions 0 to 7: START and SIZE in 64-byte units; R56, R57 -/
  regions : List (Nat × Nat)
  /-- CH_MW of the channel's image; R63 -/
  chMw : Nat
  /-- STRUCT_CRC of the channel's CH_STRUCT; R360 -/
  structCrc : Nat
  /-- the channel quiesces only to be held in reset; R398 -/
  resetAfter : Bool
  /-- sub-blocks released since the last boundary, whose image values are due; R399. Bit 0: the whole channel's are due
  (R17, R398); bit 1: its next restart follows an image activation (R17, safe start) -/
  rewrite : Nat
  /-- the channel's bank was lost in DEEP, and no whole image has activated since; R412 -/
  bankLost : Bool
deriving DecidableEq, Repr

/-- The tick lock (R43 to R47). -/
structure Lock where
  /-- tick period in force, in µs; R43 -/
  periodUs : Nat
  /-- a checked TICK_CFG word that waits for its boundary; R47 -/
  cfgPend : Option Nat
  /-- consecutive source events within 100 ns; R46 -/
  inRow : Nat
  /-- the last measured source cycle in ns; R46 -/
  measured : Nat
  /-- the count of boundaries at which a lock refused for its ratio is tried again; R43 -/
  retryAt : Option Nat
  /-- cycles by which the running tick is extended; R45 -/
  stretch : Nat
  /-- cycles of correction still to be given to boundaries; R44 -/
  corr : Int
  /-- cycles by which the end of the running tick is moved, outside HOLDOVER at most 20 either way; R44, R46 -/
  now : Int
  /-- LOCK_SRC as set, while the register reads FABRIC; R349 -/
  own : Nat
  /-- the root's tick count to be adopted at the next boundary; R349 -/
  adopt : Option Nat
  /-- the node has reached LOCKED since it joined; R349 -/
  everLocked : Bool
deriving DecidableEq, Repr

/-- A completed command's response (R299). -/
structure Resp where
  op : Nat
  tag : Nat
  status : Nat
  payload : List Byte
  abortLate : Bool
  noReply : Bool
deriving DecidableEq, Repr

/-- A command in flight (R298). -/
structure Flight where
  op : Nat
  tag : Nat
  /-- an ABORT came at its commit point or later (R305) -/
  late : Bool
deriving DecidableEq, Repr

/-- A port that carries one command at a time: the host port, a Tun engine's vendor records, the network-boot ROM. -/
structure Port where
  /-- the command in flight; R298 -/
  flight : Option Flight
  /-- the last response; R300 -/
  resp : Resp
  /-- a command has completed since the reset, so that there is a response; R300 -/
  answered : Bool
  /-- it has not been fetched; R300 -/
  fresh : Bool
  /-- its sequence number; R300 -/
  rseq : Nat
deriving DecidableEq, Repr

/-- A FABRIC_WRAP that waits for its response (R308). -/
structure WrapWait where
  /-- the port whose command it is -/
  who : Origin
  /-- TAG of the WRAP_REQ -/
  tag : Nat
  /-- ticks left -/
  left : Nat
deriving DecidableEq, Repr

/-- A frame that the host port's front end holds in IDLE (R411). -/
inductive HeldFrame where
  /-- a frame that passes R297: opcode, TAG, payload -/
  | good (op tag : Nat) (pl : List Byte)
  /-- one that does not -/
  | bad (why : BadFrame)
deriving DecidableEq, Repr

/-- The host port beside its registers (R293 to R314). -/
structure HostP where
  port : Port
  /-- the width still in use while a written WIDTH waits for the fetch of its own response; R295 -/
  widthPend : Option Nat
  /-- bytes clocked out by the last read transaction; R299, R310, R312 -/
  out : List Byte
  /-- emulated SV-6120 registers by address; R310 -/
  g2 : Tab Nat
  /-- emulated SV-4410 plane, 16 bytes; R313 -/
  g1 : List Byte
  /-- the G1 display is off; R313 -/
  g1Off : Bool
  /-- FABRIC_WRAPs that wait; R308 -/
  wraps : List WrapWait
  /-- TAG of the next WRAP_REQ; R353 -/
  wrapTag : Nat
  /-- a frame held in IDLE, judged at the exit; R411 -/
  held : Option HeldFrame
deriving DecidableEq, Repr

/-- One Tun engine beside its registers (R315 to R329). -/
structure TunEng where
  port : Port
  /-- output SETs as last received, by SET; R320 -/
  outSets : List (Nat × List Byte)
  /-- input SETs as the outbound bindings left them, by SET; R322 -/
  inSets : List (Nat × List Byte)
  /-- the TUN section in force: the engine is fitted; R315 -/
  code : List Byte
  /-- held in reset; R329, R396 -/
  held : Bool
  /-- the watchdog holds it while its code is checked; some true: the check passed; R329 -/
  wdog : Option Bool
  /-- PROFINET arrivals fitted, up to 64; R324 -/
  fitted : Nat
  /-- the parameters of its TUN section; R316, R319 -/
  params : TunParams
  /-- listener rules whose value is valid, with the ticks until it is too old; R320 -/
  ages : List (Nat × Nat)
deriving DecidableEq, Repr

/-- A frame or telegram that the last command sent: the model's own record (log entry 6). -/
structure Sent where
  /-- 0 fabric, 1 pair link, 2 Tun engine, 3 Ethernet, 4 Tap line, 5 PMBus, 6 an engine cycle on the pins of a pin engine -/
  via : Nat
  /-- port where the message names one (of the switch, 2 is the internal port), engine, channel × 2 + line, or channel × 4 +
  engine -/
  port : Nat
  /-- message kind, SET, register, EtherType, 256 for a vendor record's response, or of a GATHER or SPILL step 0 for cycle a and
  1 for b -/
  kind : Nat
  /-- logical address; of the switch, the queue (3 the highest), or 4 on the frame path of an exclusive protocol -/
  dest : Nat
  /-- what went out; of the fabric a whole frame as R334 lays it out -/
  bytes : List Byte
deriving DecidableEq, Repr

/-- A dim group beside SYS_DIM_LVL and SYS_DIM_VER: its pending update (R185). -/
structure DimPend where
  level : Nat
  tick : Nat
  addr : Nat
  /-- it came after the cut-off of a channel in the running tick: the next boundary is too early for it (R12, R14) -/
  cut : Bool
deriving DecidableEq, Repr

/-- What an activation has replaced, until its commit point (R68): the registers, the channels, the engines, what waits for a
boundary, and the bytes of the channel banks and Tun memories. -/
structure Undo where
  regs : Tab Nat
  ch : List Chan
  tun : List TunEng
  /-- a SYS_TICK_CFG word that waited; R47 -/
  cfgPend : Option Nat
  dim : List (Option DimPend)
  /-- counters whose new source waited; R434 -/
  counts : List Bool
  /-- the host port's width in force while a new one waited; R295 -/
  width : Option Nat
  bytes : List Host.Cell
deriving DecidableEq, Repr

/-- An image load session (R64 to R68). -/
structure Session where
  owner : Origin
  length : Nat
  scope : Nat
  channel : Nat
  /-- the STAMP, and from the end of its checks the future tick it names; R64, R70 -/
  stamp : Option Nat
  /-- the STAMP named the current tick or a past one when the checks passed; R14, R70 -/
  late : Bool
  store : Bool
  /-- staged bytes, in order -/
  staged : List Byte
  /-- time of the owner's last CFG command, µs; R66 -/
  lastUs : Nat
  /-- the table has passed steps 1 and 2; R60 -/
  tableOk : Bool
  /-- plaintext records by section index, once decrypted; R58 -/
  plain : List (Nat × List Byte)
  /-- quiescing for the activation has been asked for; R69, R70 -/
  asked : Bool
  /-- the channels quiesced for it -/
  quiesced : Nat
  /-- the records have been applied, and this is what they replaced; the restart is the activation boundary; R70 -/
  undo : Option Undo
  /-- TAG and port of CFG_END in flight -/
  endBy : Option Origin
deriving DecidableEq, Repr

/-- What a STORE sequence does next (R74). -/
inductive FlashOp where
  /-- copy the primary to the fallback -/
  | copyFallback
  /-- write the primary -/
  | writePrimary
deriving DecidableEq, Repr

/-- Images (R49 to R74). -/
structure Img where
  sess : Option Session
  /-- the whole image in force, and its plaintext sections; R69 -/
  whole : Option (List Byte × List (Nat × List Byte))
  /-- the partial image of each channel; R70 -/
  partials : List (Option (List Byte × List (Nat × List Byte)))
  /-- boot flash copies; R73, R74 -/
  primary : List Byte
  fallback : List Byte
  /-- the STORE sequence under way, and the image it stores; R74 -/
  store : Option (FlashOp × List Byte)
  /-- the NET registers as the image in force sets them; R396 -/
  net : Tab Nat
deriving DecidableEq, Repr

/-- A node that the root has discovered (R339). -/
structure Node where
  uid : Nat
  imgAddr : Nat
  periodUs : Nat
  boot : Bool
  /-- the address given; 0 none; R340 -/
  addr : Nat
  /-- UID of the node it was reached from, that node's port, and its own; R339 -/
  parent : Nat
  port : Nat
  inPort : Nat
  /-- delay of that link in ns; R333 -/
  delay : Nat
  /-- 0 not joined, 1 joined, 2 UNJOINED; R342 -/
  state : Nat
  /-- reason of UNJOINED; R355 -/
  reason : Nat
  /-- it shares the address of its pair's other device, which discovery visited first; R371 -/
  twin : Bool
deriving DecidableEq, Repr

/-- A node of the ring, in ring order: its UID, its ports toward the next and the previous position, and the delay of the
link to the next in ns (R339, R344). -/
structure RingNode where
  uid : Nat
  fwd : Nat
  back : Nat
  delay : Nat
deriving DecidableEq, Repr

/-- One fabric port beside its registers. -/
structure FabPort where
  /-- ticks a returned link must still stay up; R332 -/
  holdLeft : Option Nat
  /-- it has been up before; R332 -/
  seen : Bool
  /-- time stamp of the PDELAY exchange under way, ns; R333 -/
  t1 : Option Nat
  /-- the measured delay is in use, not the declared one; R333 -/
  mismatch : Bool
  /-- the ordered sets of the frame it last sent, and IDLE after them; none before its link was up; R331 -/
  line : List LinkSet
deriving DecidableEq, Repr

/-- A join handshake under way, with the ticks left for an answer (R342). -/
structure Shake where
  peer : Nat
  nr : List Byte
  nn : List Byte
  addr : Nat
  left : Nat
deriving DecidableEq, Repr

/-- A WRAP_REQ (R353). -/
structure WrapReq where
  src : Nat
  tag : Nat
  noWait : Bool
  /-- OPCODE, TAG and PAYLOAD of the inner command -/
  op : Nat
  itag : Nat
  pl : List Byte
deriving DecidableEq, Repr

/-- The fabric (R330 to R354). -/
structure Fab where
  ports : List FabPort
  /-- discovered nodes, root only; R339 -/
  nodes : List Node
  /-- the root's UID, as the last PROBE told it; R339 -/
  rootUid : Nat
  /-- the address of the root; R338 -/
  rootAddr : Nat
  /-- handshakes under way: of a root, one for each node it has challenged; R342 -/
  shakes : List Shake
  /-- last accepted SEQ and publisher, by SET_ID; R351 -/
  seqs : Tab (Nat × Nat)
  /-- SEQ of each published set, by slot; R351 -/
  pubSeq : Tab Nat
  /-- data of each published set as outbound bindings left it, by slot; R158 -/
  pubData : List (Nat × List Byte)
  /-- last data received, by SET_ID; R370 -/
  lastData : List (Nat × List Byte)
  wrapQ : List WrapReq
  wrapRun : Option WrapReq
  /-- the port that a wrapped command completes on; R353 -/
  port : Port
  /-- route words, and the ring with its broken links, to be adopted at the next boundary; R346 -/
  routes : Option (List Nat × Option RingInfo)
  /-- ring links known broken: q for the link from position q to the next; R345 -/
  broken : List Nat
  /-- what this node knows of its ring; R344 -/
  ring : Option RingInfo
  /-- the rings, each in order, root only; R339 -/
  rings : List (List RingNode)
  /-- links known broken in rings that the root is no node of: ring number and link, root only; R345 -/
  far : List (Nat × Nat)
  /-- this tick's publications have gone; R351 -/
  published : Bool
  /-- the fabric key has changed, so every member rejoins; R342 -/
  rekey : Bool
  /-- the port by which discovery reached the node; R339 -/
  upPort : Nat
deriving DecidableEq, Repr

/-- What a HELLO and the HEARTBEATs told of the partner (R358, R359). -/
structure Partner where
  uid : Nat
  mask : Nat
  serial : Nat
  /-- SYS_IMG_CHSER and STRUCT_CRC by channel; R360 -/
  chIds : Tab (Nat × Nat)
  drive : Nat
  ready : Nat
  lead : Bool
  /-- tick of its latest HEARTBEAT, low 16 bits; R359 -/
  tick : Nat
  /-- GRIST_KEYS words of its STATE frames, by channel × 16 + word; R365 -/
  keys : Tab Nat
deriving DecidableEq, Repr

/-- The handshake on the pair link (R422): not begun, under way, passed or failed. -/
inductive PairAuth where
  | idle
  | running (shake : Shake)
  | passed
  | failed
deriving DecidableEq, Repr

/-- The pair logic (R355 to R373). -/
structure Pair where
  partner : Partner
  /-- the handshake before HELLO; R422 -/
  auth : PairAuth
  /-- the partner's HEARTBEAT of this tick has been received or missed; R359 -/
  hbJudged : Bool
  /-- the partner's HEARTBEAT of this tick has been received; R97, R359 -/
  heard : Bool
  /-- channels that were STANDBY_READY at the last HEARTBEAT received, and whose copy has met no disagreement since: what is
  missing from a partner that has fallen silent does not end their readiness; R363, R368, R370 -/
  warm : Nat
  /-- consecutive missed HEARTBEATs; R359 -/
  missed : Nat
  /-- commits sent since the last CUT: channel, bytes; R358 -/
  sent : List (Nat × List Byte)
  /-- commits received since the last CUT: channel, change; R361 -/
  open_ : List (Nat × PairItem)
  /-- commits closed by a CUT, to be applied at the boundary; R361 -/
  closed : List (Nat × PairItem)
  /-- channels whose CUT has arrived in this tick; R363 -/
  cutGot : Nat
  /-- channels desynchronised; R363 -/
  desync : Nat
  /-- channels whose resync has completed; R360 -/
  synced : Nat
  /-- channels to release at the GUARD start; R367, R368 -/
  release : Nat
  /-- the same, from the GUARD start of the next tick; R368 -/
  releaseNext : Nat
  /-- channels to drive from the next boundary; R367, R368 -/
  takeover : Nat
  /-- HANDOVERs received: channels, whether LEAD passes, and the tick whose boundary they name; one of no channel marks the
  boundary at which this device itself gives LEAD away; R368 -/
  hand : List (Nat × Bool × Nat)
  /-- LEAD passes to the partner at the next boundary; R368 -/
  leadOut : Bool
  /-- channels among `takeover` that a HANDOVER hands to this device; R368 -/
  handed : Nat
  /-- standby channels whose STATE has arrived in this tick; R363 -/
  stateGot : Nat
  /-- standby channels whose resync has been asked for; R363 -/
  asked : Nat
  /-- NEXT at the last state delta sent, by channel; R362 -/
  sentNext : Tab Nat
  /-- a shadow mismatch since the last HEARTBEAT sent; R359 -/
  shadow : Bool
  /-- consecutive mismatches by channel × 128 + line; R364 -/
  shadowCnt : Tab Nat
  /-- next line of the shadow rotation, by channel; R364 -/
  shadowAt : Tab Nat
  /-- consecutive scans with a key disagreement, by channel × 512 + key; R365 -/
  keyCnt : Tab Nat
  /-- GRIST_STAT.SCAN at the last comparison of keys, plus 1, by channel; R365 -/
  scanAt : Tab Nat
deriving DecidableEq, Repr

/-- The memory system beside its registers (R374 to R389). -/
structure MemSys where
  /-- the count of boundaries at the first correction of the running 1,024 ticks, by bank; R375 -/
  corrRun : Tab Nat
  /-- corrected words that wait to be written back: address and word; R375 -/
  writeback : List (Nat × Nat)
  /-- the master served last, by bank; R379 -/
  rr : Tab Nat
  /-- CNT_CLR waits for its boundary; R380 -/
  cntClr : Bool
  /-- the borrowed window is dirty; R384. The window's words are served from its shadow and restored from it, so
  `State.mem` holds the shadow's words while the window is borrowed -/
  dirty : Bool
  /-- banks that Steep failed, whose last good contents are kept; R387 -/
  steepFailed : Nat
  /-- restarts of the running start; R386 -/
  restarts : Nat
  /-- the failing bit recorded, by word address; R387 -/
  hard : Tab Nat
  /-- time the running sweep began, µs; STEEP_SKIP -/
  sweepUs : Nat
  /-- time of the last window start by the reference, in 200 MHz cycles; R383 -/
  startCyc : Nat
  /-- the next window in sweep order, 512 windows to a bank; R383 -/
  nextWin : Nat
deriving DecidableEq, Repr

/-- One event counter (R432). -/
structure Counter where
  /-- MON_CFG in force -/
  cfg : Nat
  value : Nat
  ovf : Bool
  run : Bool
  /-- a MON_CFG write waits for its boundary; R434 -/
  pend : Bool
deriving DecidableEq, Repr

/-- A pending MON command (R434). -/
structure MonCmd where
  mask : Nat
  start : Bool
  stop : Bool
  clear : Bool
  snap : Bool
  stamp : Option Nat
  /-- the future tick its stamp names; none: the next boundary -/
  due : Option Nat
deriving DecidableEq, Repr

/-- The event counters (R432 to R436). -/
structure Mon where
  counters : List Counter
  /-- commands that wait, oldest first; R434 -/
  cmds : List MonCmd
  /-- the counters as the last boundary found them, until AUTO_SNAPSHOT has taken them; R434, R435 -/
  before : Option (List Counter)
  /-- nothing counts: from an entry commit point to the first boundary after the exit; R436 -/
  still : Bool
deriving DecidableEq, Repr

/-- What holds the device in reset, or that it has begun or finished the release order. -/
inductive Hold where
  /-- not in a reset: the release order runs or has run -/
  | none
  /-- a source is asserted, or its pulse has ended and step 1 has not begun; R390 -/
  | held
  /-- held with FAULT_N low until POWER_ON, POWER_ON_AON or PIN; R394, R395 -/
  | fault
deriving DecidableEq, Repr

/-- The reset and release controller beside its registers (R390 to R402). -/
structure Rst where
  hold : Hold
  /-- sources of this reset, as a mask by code; R391 -/
  src : Nat
  /-- its brown-out rails; RST_REC -/
  rail : Nat
  /-- its record has been written: a restart of step 1 merges into it; R391 -/
  merged : Bool
  /-- bad trim loads in a row; R394 -/
  trimBad : Nat
  /-- the LF clock and crystal must be started again in this release order; R390 -/
  crystal : Bool
  /-- channels still to be released in step 12, ascending; R393 -/
  chLeft : List Nat
  /-- boundaries since an image's channels were brought up end the BOOT mode; the mode to enter; R17, R69 -/
  enter : Option Nat
  /-- FAULT_N stands low; R400 -/
  faultN : Bool
  /-- the crystal does not run; R419 -/
  rcMode : Bool
  /-- VOUT_MODE of the regulator as read at release step 6; R416 -/
  voutMode : Nat
deriving DecidableEq, Repr

/-- A POWER command in flight (R405). -/
structure PowerCmd where
  origin : Origin
  state : Nat
  wakeMask : Nat
  retain : Nat
  timerMs : Nat
deriving DecidableEq, Repr

/-- What the Bung holds a channel line at (R413). -/
inductive Pad where
  /-- no role was assigned: the reset posture -/
  | posture
  /-- a display line at 0 V -/
  | low
  /-- LED drive: a sink or a COM pre-driver, off -/
  | off
  /-- a ladder end -/
  | highZ
  /-- a PSQ pin, at the level and direction it held -/
  | engine (drive : Option Bool)
  /-- a GPIO line, at the level and direction it held -/
  | gpio (drive : Option Bool)
deriving DecidableEq, Repr

/-- The power controller beside its registers (R404 to R419). -/
structure Pwr where
  cmd : Option PowerCmd
  /-- the entry commit point has been passed; R409 -/
  committed : Bool
  /-- the first wake source that fired: code, channel, port; R406 -/
  source : Option (Nat × Nat × Nat)
  /-- channels the any-key detector watches; R408 -/
  armed : Nat
  /-- masked ladder heads, by channel, as a mask of ladders; R408 -/
  masked : Tab Nat
  /-- low samples in a row, by channel × 8 + ladder; R408 -/
  lows : Tab Nat
  /-- keys debounced down when quiescing began: ladders, by channel; R408 -/
  downAt : Tab Nat
  /-- the PMBus change under way: target in mV, polls of this attempt; R416 -/
  pmb : Option (Nat × Nat)
  /-- waits in OFF for VCORE after OPERATION on; R418 -/
  offWait : Bool
  /-- channels quiesced for the entry; R410 -/
  quiesced : Nat
  /-- channels to be released at the next boundary; R414 -/
  release : Nat
  /-- AUTO_REL acts at the next boundary; R414 -/
  autoRel : Bool
  /-- channel banks and Tun banks lost in DEEP; R412 -/
  lost : Nat
  /-- the last Tap frames of the entry have been built; R409 -/
  tapDone : Bool
  /-- the exit's change of VCORE is over; R416 -/
  vcoreUp : Bool
  /-- what the Bung holds each line of each channel at, from the entry to DEEP or OFF on; R413 -/
  pads : List (List Pad)
deriving DecidableEq, Repr

/-- A step of erase-then-open (R428). -/
inductive Erase where
  | none
  /-- the step that runs, and whether it has been repeated; R429 -/
  | step (n : Nat) (again : Bool)
deriving DecidableEq, Repr

/-- The security block beside its registers (R420 to R431). -/
structure Sec where
  /-- the key store by ID: 32 bytes each; R420 -/
  keys : List (Nat × List Byte)
  /-- the count of boundaries at the nonce's request; R424 -/
  nonceTick : Nat
  erase : Erase
deriving DecidableEq, Repr

/-- The temperature monitor beside SYS_TEMP (R457, R458). -/
structure Temp where
  /-- consecutive ticks at 120 °C or above; R457 -/
  hot : Nat
  /-- consecutive ticks below 110 °C; R457 -/
  cool : Nat
  /-- consecutive ticks below 115 °C; R458 -/
  clear : Nat
  /-- channels held by OVER; R458 -/
  heldCh : Nat
  /-- a change of the budgets that waits for its boundary: some true halves them; R457 -/
  pend : Option Bool
deriving DecidableEq, Repr

/-- A MODE command in flight (R18). -/
structure ModeReq where
  origin : Origin
  target : Nat
  mask : Nat
  /-- channels it quiesces -/
  quiesce : Nat
  /-- a boundary has come since its admission -/
  ready : Bool
deriving DecidableEq, Repr

/-- Everything but the addressed memory and the queue. -/
structure Dev where
  /-- every register of the address map; R3, R23 -/
  regs : Tab Nat
  /-- 48-bit fabric tick count; R14, R348 -/
  tick : Nat
  /-- the count of the tick that ended last; R109, R126 -/
  ended : Nat
  /-- boundaries since reset, which no adopted tick count moves; R43, R375, R424 -/
  bounds : Nat
  /-- time since reset in cycles of 5 ns, counted at boundaries; R66, R228 -/
  nowCyc : Nat
  /-- read counter of the free values; the model's own field, DESIGN CHOICE (log entry 5) -/
  free : Nat
  ch : Vector Chan 8
  lock : Lock
  img : Img
  host : HostP
  tun : Vector TunEng 4
  /-- the network-boot ROM's command; R328 -/
  netBoot : Port
  fab : Fab
  pair : Pair
  memsys : MemSys
  mon : Mon
  rst : Rst
  pwr : Pwr
  sec : Sec
  temp : Temp
  /-- the device ring beside SYS_DRING registers; R213 -/
  dring : Ring
  /-- pending dim updates by group; R185 -/
  dim : List (Option DimPend)
  /-- the MODE command in flight; R18 -/
  modeReq : Option ModeReq
  /-- frames the last command sent; the model's own record (log entry 6) -/
  sent : List Sent
deriving DecidableEq, Repr

/-- Byte memory: addresses strictly rising, no entry 0 (log entry 2). -/
abbrev Memory := List Host.Cell

/-- The canonical form. -/
def Memory.wf (m : Memory) : Bool := tabRising m && m.all (fun c => c.2 != 0)

/-- The state of the block: the commands that wait, the addressed memory, and the device. -/
structure State where
  /-- commands waiting, first in, first out -/
  pending : List Instr
  /-- the memories of R23 that hold plain bytes -/
  mem : Memory
  dev : Dev
deriving DecidableEq, Repr

/-- Why the block would stop with a fault. No command of this model raises one. -/
inductive Fault where
  /-- declared for the interface; raised by no command. Safe: it would stop the machine. -/
  | unreachable
deriving DecidableEq, Repr

/-- Why a command is refused. -/
inductive Refusal where
  /-- raised by an arm of exec whose command has no meaning yet. Safe: the machine stops. -/
  | notModelled (mnemonic : String)
deriving DecidableEq, Repr

/-- A change of memory that a command makes. -/
inductive MemOp where
  /-- one byte written -/
  | byte (a : Nat) (b : Byte)
  /-- a range set to 0, its end excluded -/
  | wipe (lo hi : Nat)
deriving DecidableEq, Repr

/-- What a command works on: the device, memory as the command found it, and the changes it has made to memory,
latest first. -/
structure Work extends Dev where
  mem : Memory
  wr : List MemOp

/-! ### Reset values

What the spec gives no reset value for stands at zero, empty, false or none (log entry 1), but where a
docstring says otherwise. -/

/-- The reset field of a register on channel 0's rows. -/
def resetField (f : Fld) : Nat := bitsOf (resetWord (f.addr 0 0)) f.hi f.lo

/-- No plan: SEQ_CFG, BIAS, INV, DEAD, RISE, SETTLE_US, STEPS, LED_DARK_EN and LCD_EN at their reset fields, every line UNUSED. -/
def PlanSet.init : PlanSet where
  cfg := resetField R.SEQ_CFG
  slots := []
  roles := List.replicate 80 0
  bias := resetField F.KILN_CFG_BIAS
  inv := resetField F.KILN_CFG_INV == 1
  dead := resetField F.LED_CFG_DEAD
  rise := resetField F.LED_CFG_RISE
  settle := resetField F.GRIST_CFG_SETTLE_US
  steps := resetField F.GRIST_CFG_STEPS
  darkEn := resetField F.INTEG_CFG_LED_DARK_EN == 1
  lcdEn := resetField F.INTEG_CFG_LCD_EN == 1

/-- The sequencer at reset: stopped, no plan. -/
def Seq.init : Seq where
  act := PlanSet.init
  commit := none
  todo := []
  cur := none
  curStart := 0
  hold := 0
  started := 0
  guardOrd := none
  nDisp := 0
  diagPhase := 0
  statsClr := false
  corr := 0
  yielded := false
  lost := []
  halted := false

/-- The Kiln at reset: cold (R83). -/
def Kiln.init : Kiln where
  cold := true
  ramping := false
  target := 0
  temps := []
  tFilt := 25000
  onDie := false
  tHold := 0
  ntcBad := 0
  ntcGood := []
  unsettled := 0
  faulted := false
  faultDue := false
  acc := []
  accAt := []
  driven := []
  guardLen := 0
  away := false
  res := []
  book := []
  parked := []
  lastDev := []
  quiesce := .none
  proofFail := []
  proofRun := false
  maxClr := false

/-- The LED sinks at reset. -/
def Led.init : Led where
  volts := []
  est := []
  prevAvg := 0
  tickEst := none
  fastNow := false
  decide := false
  ocNow := false
  winOf := []

/-- The integrity engine at reset. -/
def Integ.init : Integ where
  fails := []
  failedBy := []
  darkNow := []
  darkSeen := []
  learn := []
  recheck := []
  diagLost := 0
  decl := []
  okNow := []
  clr := []
  inForce := []
  verified := []
  litAll := []
  unverRep := []

/-- The Mash at reset. -/
def Mash.init : Mash where
  changes := []
  queue := []
  waiting := []
  drawn := none
  older := []
  swapMask := 0

/-- Alerts and blinking at reset. -/
def Blink.init : Blink where
  lit := []
  digitsOff := []
  shownAt := 0

/-- The key scanner at reset. -/
def Grist.init : Grist where
  raw := []
  relay := []
  press := []
  release := []
  down := []
  frozen := []
  ghosts := []
  splits := []
  ambig := []
  chosen := []
  oneEnd := []
  contFail := []
  contPass := []
  scansDone := 0
  scanBusy := false
  lastBusy := false
  contOld := false
  contRes := none
  contCode := []
  stepRun := false
  breaks := []
  decl := []

/-- A ring at reset. -/
def Ring.init : Ring where
  place := 0
  takeover := false

/-- The channel's events at reset. -/
def Cask.init : Cask where
  ring := Ring.init
  batch := []
  held := []
  compat := []
  compatNext := []
  later := none

/-- An encoder input at reset: both accepted levels 0 (ENC_STAT.LEVELS). -/
def Encoder.init : Encoder where
  a := false
  b := false
  x := 0
  anchor := none
  rest := 0
  last := none
  raw := 0
  weighted := 0
  err := false

/-- A lamp at reset. -/
def Lamp.init : Lamp where
  state := 0
  debt := 0
  due := false
  out := 0
  pulse := none
  retry := false
  retried := false
  fails := 0
  passes := 0
  recheck := false
  tripped := false
  inWindow := false
  vsw := none
  litSeen := false
  unverRep := false
  pump := false
  pumpAll := false

/-- The lamp string at reset. -/
def LampStr.init : LampStr where
  lamps := List.replicate 12 Lamp.init
  level := []
  heldOff := []
  ufFailed := []
  clr := []
  duty := []
  winRan := false
  est := []
  prevAvg := 0
  tickEst := none
  fastNow := false
  decide := false
  pumpsOn := false
  frozen := none

/-- A Tap line at reset. -/
def Tap.init : Tap where
  await := false
  badCauses := []
  hold := none
  cause := 0
  orphan := none
  pend := []
  once := []
  crcOnce := []
  ready := false
  bad := []
  crcBad := []
  faultVal := none

/-- A pin engine at reset (R291). -/
def Engine.init : Engine where
  tx := []
  rx := []
  rxSeq := 0
  spr := 0
  srem := 0
  gtr := 0
  gheld := 0
  ctr := 0
  flags := 0
  dir := 0
  out := 0xFFFF
  doing := .idle
  window := false
  events := 0

/-- A channel at reset: reset posture, nothing running. -/
def Chan.init : Chan where
  seq := Seq.init
  kiln := Kiln.init
  led := Led.init
  integ := Integ.init
  mash := Mash.init
  blink := Blink.init
  grist := Grist.init
  cask := Cask.init
  enc := List.replicate 2 Encoder.init
  lamp := LampStr.init
  tap := List.replicate 2 Tap.init
  psq := List.replicate 4 Engine.init
  running := false
  restart := none
  inReset := false
  subHeld := 0
  standby := false
  regions := List.replicate 8 (0, 0)
  chMw := 0
  structCrc := 0
  resetAfter := false
  rewrite := 0
  bankLost := false

/-- The tick lock at reset: free-running at the default 1,000 µs (SYS_TICK_CFG). -/
def Lock.init : Lock where
  periodUs := resetField F.SYS_TICK_CFG_PERIOD_US
  cfgPend := none
  inRow := 0
  measured := 0
  retryAt := none
  stretch := 0
  corr := 0
  now := 0
  own := 0
  adopt := none
  everLocked := false

/-- No response. -/
def Resp.init : Resp where
  op := 0
  tag := 0
  status := 0
  payload := []
  abortLate := false
  noReply := false

/-- A port with nothing in flight. -/
def Port.init : Port where
  flight := none
  resp := Resp.init
  answered := false
  fresh := false
  rseq := 0

/-- The host port at reset. -/
def HostP.init : HostP where
  port := Port.init
  widthPend := none
  out := []
  g2 := []
  g1 := List.replicate 16 0
  g1Off := false
  wraps := []
  wrapTag := 0
  held := none

/-- A Tun engine at reset: no protocol image. -/
def TunEng.init : TunEng where
  port := Port.init
  outSets := []
  inSets := []
  code := []
  held := false
  wdog := none
  fitted := 0
  params := default
  ages := []

/-- No image. -/
def Img.init : Img where
  sess := none
  whole := none
  partials := List.replicate 8 none
  primary := []
  fallback := []
  store := none
  net := []

/-- A fabric port at reset. -/
def FabPort.init : FabPort where
  holdLeft := none
  seen := false
  t1 := none
  mismatch := false
  line := []

/-- The fabric at reset. -/
def Fab.init : Fab where
  ports := List.replicate 3 FabPort.init
  nodes := []
  rootUid := 0
  rootAddr := 0
  shakes := []
  seqs := []
  pubSeq := []
  pubData := []
  lastData := []
  wrapQ := []
  wrapRun := none
  port := Port.init
  routes := none
  broken := []
  ring := none
  rings := []
  far := []
  published := false
  rekey := false
  upPort := 0

/-- No partner is known. -/
def Partner.init : Partner where
  uid := 0
  mask := 0
  serial := 0
  chIds := []
  drive := 0
  ready := 0
  lead := false
  tick := 0
  keys := []

/-- The pair logic at reset: PAIR_OWN released, so it stands high (R400). -/
def Pair.init : Pair where
  partner := Partner.init
  auth := .idle
  hbJudged := false
  heard := false
  warm := 0
  missed := 0
  sent := []
  open_ := []
  closed := []
  cutGot := 0
  desync := 0
  synced := 0
  release := 0
  releaseNext := 0
  takeover := 0
  hand := []
  leadOut := false
  handed := 0
  stateGot := 0
  asked := 0
  sentNext := []
  shadow := false
  shadowCnt := []
  shadowAt := []
  keyCnt := []
  scanAt := []

/-- The memory system at reset. -/
def MemSys.init : MemSys where
  corrRun := []
  writeback := []
  rr := []
  cntClr := false
  dirty := false
  steepFailed := 0
  restarts := 0
  hard := []
  sweepUs := 0
  startCyc := 0
  nextWin := 0

/-- An event counter at reset. -/
def Counter.init : Counter where
  cfg := 0
  value := 0
  ovf := false
  run := false
  pend := false

/-- The event counters at reset. -/
def Mon.init : Mon where
  counters := List.replicate 32 Counter.init
  cmds := []
  before := none
  still := false

/-- The reset controller after a POWER_ON_AON reset: the release order has not begun (R390, R392). -/
def Rst.init : Rst where
  hold := .held
  src := 4
  rail := 0
  merged := false
  trimBad := 0
  crystal := true
  chLeft := []
  enter := none
  faultN := true
  rcMode := false
  voutMode := 0

/-- The power controller at reset: state RUN. -/
def Pwr.init : Pwr where
  cmd := none
  committed := false
  source := none
  armed := 0
  masked := []
  lows := []
  downAt := []
  pmb := none
  offWait := false
  quiesced := 0
  release := 0
  autoRel := false
  lost := 0
  tapDone := false
  vcoreUp := false
  pads := []

/-- The security block at reset: the key store is empty. -/
def Sec.init : Sec where
  keys := []
  nonceTick := 0
  erase := .none

/-- The temperature monitor at reset. -/
def Temp.init : Temp where
  hot := 0
  cool := 0
  clear := 0
  heldCh := 0
  pend := none

/-- The device after a POWER_ON_AON reset. -/
def Dev.init : Dev where
  regs := []
  tick := 0
  ended := 2 ^ 48 - 1
  bounds := 0
  nowCyc := 0
  free := 0
  ch := Vector.replicate 8 Chan.init
  lock := Lock.init
  img := Img.init
  host := HostP.init
  tun := Vector.replicate 4 TunEng.init
  netBoot := Port.init
  fab := Fab.init
  pair := Pair.init
  memsys := MemSys.init
  mon := Mon.init
  rst := Rst.init
  pwr := Pwr.init
  sec := Sec.init
  temp := Temp.init
  dring := Ring.init
  dim := List.replicate 16 none
  modeReq := none
  sent := []

/-- The block right after a POWER_ON_AON reset, the one that reaches all of it (R390, R403): every register at its
Reset column, no memory byte listed, no command waiting, and the release order of R392 about to begin. -/
def State.reset : State where
  pending := []
  mem := []
  dev := Dev.init

end Sys2Proof.Machine
end

