-- ==== Sys2Proof/Machine/Ops.lean ====
section
/-! DEFINITION. What a command works with: registers by name, channels, plain memory with its failed banks, the event
counters, the rings, and the ports that answer commands. -/

namespace Sys2Proof.Machine

/-! ### Running a command -/

/-- Whether an address lies in one of the memories of the device address map (R23). -/
def memMapped (a : Nat) : Bool :=
  a < 0x00200000 || (0x01000000 ≤ a && a < 0x01100000) || (0x02000000 ≤ a && a < 0x02100000) ||
    (0x03000000 ≤ a && a < 0x03002000)

/-- One change made to memory: a byte outside the memories of R23 is never stored. -/
def MemOp.apply (op : MemOp) (m : Memory) : Memory :=
  match op with
  | .byte a b => if memMapped a then tabPut m 0 a b else m
  | .wipe lo hi => m.filter (fun c => decide (c.1 < lo) || decide (hi ≤ c.1))

/-- All changes of a command, the latest at the head. -/
def commitMem : List MemOp → Memory → Memory
  | [], m => m
  | op :: ops, m => op.apply (commitMem ops m)

/-- What a command starts with: the state's device and memory, nothing changed and nothing sent. -/
def State.work (s : State) : Work := { s.dev with sent := [], mem := s.mem, wr := [] }

/-- The state with a command's changes. The queue is not the command's to change. -/
def State.run (s : State) (f : Work → Work) : State :=
  let w := f s.work
  { pending := s.pending, mem := commitMem w.wr s.mem, dev := w.toDev }

/-! ### Registers -/

/-- A register's word; one never written holds its reset value (R3). -/
def Work.reg (w : Work) (a : Nat) : Nat := tabGet w.regs (resetWord a) a

/-- A register's word set. -/
def Work.setReg (w : Work) (a v : Nat) : Work := { w with regs := tabPut w.regs (resetWord a) a v }

/-- A field of copy `k` of a register, on channel `n` (0 for a device register). -/
def Work.get (w : Work) (f : Fld) (n : Nat := 0) (k : Nat := 0) : Nat := bitsOf (w.reg (f.addr n k)) f.hi f.lo

/-- A field set, the register's other bits unchanged. -/
def Work.put (w : Work) (f : Fld) (v : Nat) (n : Nat := 0) (k : Nat := 0) : Work :=
  w.setReg (f.addr n k) (setBits (w.reg (f.addr n k)) f.hi f.lo v)

/-- A one-bit field. -/
def Work.flag (w : Work) (f : Fld) (n : Nat := 0) (k : Nat := 0) : Bool := w.get f n k == 1

/-- A one-bit field set or cleared. -/
def Work.putFlag (w : Work) (f : Fld) (b : Bool) (n : Nat := 0) (k : Nat := 0) : Work := w.put f b.toNat n k

/-- A one-bit field set (RS). -/
def Work.raise (w : Work) (f : Fld) (n : Nat := 0) (k : Nat := 0) : Work := w.put f 1 n k

/-- A count field raised, stopping at the field's highest value. -/
def Work.countUp (w : Work) (f : Fld) (n : Nat := 0) (k : Nat := 0) (by_ : Nat := 1) : Work :=
  w.put f (satAdd (2 ^ (f.hi - f.lo + 1) - 1) (w.get f n k) by_) n k

/-- A count field raised, wrapping. -/
def Work.countWrap (w : Work) (f : Fld) (n : Nat := 0) (k : Nat := 0) (by_ : Nat := 1) : Work :=
  w.put f ((w.get f n k + by_) % 2 ^ (f.hi - f.lo + 1)) n k

/-- The registers from `lo` up to `hi`, its end excluded, back at their reset values (R3). -/
def Work.resetRegs (w : Work) (lo hi : Nat) : Work :=
  { w with regs := w.regs.filter (fun p => decide (p.1 < lo) || decide (hi ≤ p.1)) }

/-! ### Channels -/

/-- Channel `n`. -/
def Work.chan (w : Work) (n : Nat) : Chan := w.ch[n]?.getD Chan.init

/-- Channel `n` replaced. -/
def Work.setChan (w : Work) (n : Nat) (c : Chan) : Work := { w with ch := w.ch.setIfInBounds n c }

/-- Channel `n` changed. -/
def Work.modChan (w : Work) (n : Nat) (f : Chan → Chan) : Work := w.setChan n (f (w.chan n))

/-- Something done for every channel, in ascending order. -/
def Work.eachChan (w : Work) (f : Work → Nat → Work) : Work := (List.range 8).foldl f w

/-- A list's item changed, where there is one. -/
def modAt {α : Type} (l : List α) (i : Nat) (f : α → α) : List α :=
  match l[i]? with
  | some x => l.set i (f x)
  | none => l

/-- The channel states of SYS_CH_STATE. -/
def Work.chState (w : Work) (n : Nat) : Nat := bitsOf (w.get F.SYS_CH_STATE_STATES) (4 * n + 3) (4 * n)

/-- A channel state set. -/
def Work.putChState (w : Work) (n v : Nat) : Work :=
  w.put F.SYS_CH_STATE_STATES (setBits (w.get F.SYS_CH_STATE_STATES) (4 * n + 3) (4 * n) v)

/-- The codes of SYS_CH_STATE: reset posture. -/
def stReset : Nat := 0
/-- QUIESCED. -/
def stQuiesced : Nat := 1
/-- RUNNING. -/
def stRunning : Nat := 2
/-- ISOLATED. -/
def stIsolated : Nat := 3
/-- TEST. -/
def stTest : Nat := 4
/-- STANDBY. -/
def stStandby : Nat := 5

/-- The codes of SYS_MODE (R17): BOOT. -/
def mdBoot : Nat := 0
/-- START-UP. -/
def mdStartUp : Nat := 1
/-- OPERATE. -/
def mdOperate : Nat := 2
/-- TEST. -/
def mdTest : Nat := 3
/-- RECOVERY. -/
def mdRecovery : Nat := 4

/-- The device mode. -/
def Work.mode (w : Work) : Nat := w.get F.SYS_MODE_MODE

/-- Whether TEST has been given channel `n`. -/
def Work.inTestMask (w : Work) (n : Nat) : Bool := bitOf (w.get F.SYS_MODE_TEST_MASK) n

/-- What a channel that has come to rest reads: TEST where it is given to TEST, else QUIESCED (R17). -/
def Work.restState (w : Work) (n : Nat) : Nat := if w.mode = mdTest ∧ w.inTestMask n then stTest else stQuiesced

/-- LCD drive, of the active plan (R29). -/
def Chan.isLcd (c : Chan) : Bool := c.seq.act.cfg % 2 == 0

/-- COMMONS of the active plan. -/
def Chan.commons (c : Chan) : Nat := bitsOf c.seq.act.cfg 4 1 + 1

/-- A sub-block of the channel is held in reset: by its own bit of CTL_RST, or with the whole channel (R398, R399). -/
def Chan.blockHeld (c : Chan) (b : Nat) : Bool := c.inReset || bitOf c.subHeld b

/-! ### Memory -/

/-- The bank of an address (R374). -/
def bankOf (a : Nat) : Option Nat :=
  if a < 0x00200000 then some (a / 0x20000)
  else if 0x01000000 ≤ a ∧ a < 0x01100000 then some (16 + (a - 0x01000000) / 0x20000)
  else if 0x02000000 ≤ a ∧ a < 0x02100000 then some (24 + (a - 0x02000000) / 0x20000)
  else if 0x03000000 ≤ a ∧ a < 0x03002000 then some 32
  else none

/-- A bank's first byte (R374). -/
def bankBase (b : Nat) : Nat :=
  if b < 16 then b * 0x20000
  else if b < 24 then 0x01000000 + (b - 16) * 0x20000
  else if b < 32 then 0x02000000 + (b - 24) * 0x20000
  else 0x03000000

/-- A bank's size in bytes (R374). -/
def bankSize (b : Nat) : Nat := if b < 32 then 0x20000 else 0x2000

/-- A bank is marked failed (R376). -/
def Work.bankFailed (w : Work) (b : Nat) : Bool :=
  if b < 32 then bitOf (w.get F.MEM_FAILED_FAILED) b else w.flag F.MEM_STAT_AON_FAILED

/-- A change of memory reaches an address. -/
def MemOp.hits (op : MemOp) (a : Nat) : Bool :=
  match op with
  | .byte a' _ => a' == a
  | .wipe lo hi => decide (lo ≤ a) && decide (a < hi)

/-- The byte that the cells of an address hold; a byte never written reads 0 (log entry 2). -/
def Work.cell (w : Work) (a : Nat) : Byte :=
  match w.wr.find? (fun op => op.hits a) with
  | some (.byte _ b) => b
  | some (.wipe _ _) => 0
  | none => tabGet w.mem 0 a

/-- A byte read: a failed bank reads 0 (R376). -/
def Work.peek (w : Work) (a : Nat) : Byte :=
  match bankOf a with
  | some b => if w.bankFailed b then 0 else w.cell a
  | none => 0

/-- The borrowed window of Steep includes an address (R383, R384). -/
def Work.borrowed (w : Work) (a : Nat) : Bool :=
  let base := bankBase (w.get F.STEEP_STAT_BANK) + 256 * w.get F.STEEP_STAT_WINDOW
  w.flag F.STEEP_STAT_BORROWED && decide (base ≤ a) && decide (a < base + 256)

/-- A byte written: a failed bank discards it (R376), and a borrowed window becomes dirty (R384). -/
def Work.poke (w : Work) (a : Nat) (b : Byte) : Work :=
  match bankOf a with
  | some k =>
    if w.bankFailed k then w
    else { w with wr := .byte a b :: w.wr, memsys := { w.memsys with dirty := w.memsys.dirty || w.borrowed a } }
  | none => w

/-- A range of memory set to 0, its end excluded: one within a failed bank stays as it is (R376), and a borrowed window that
it meets becomes dirty (R384). -/
def Work.wipe (w : Work) (lo hi : Nat) : Work :=
  let base := bankBase (w.get F.STEEP_STAT_BANK) + 256 * w.get F.STEEP_STAT_WINDOW
  let met := w.flag F.STEEP_STAT_BORROWED && decide (lo < base + 256) && decide (base < hi)
  if bankOf lo = bankOf (hi - 1) ∧ (bankOf lo).any w.bankFailed then w
  else { w with wr := .wipe lo hi :: w.wr, memsys := { w.memsys with dirty := w.memsys.dirty || met } }

/-- `k` bytes read from `a` up. -/
def Work.peeks (w : Work) (a k : Nat) : List Byte := (upFrom a k).map w.peek

/-- Bytes written from `a` up. -/
def Work.pokes (w : Work) : Nat → List Byte → Work
  | _, [] => w
  | a, b :: bs => (w.poke a b).pokes (a + 1) bs

/-- A little-endian value of `k` bytes in memory (R7). -/
def Work.peekLe (w : Work) (a k : Nat) : Nat := leVal (w.peeks a k)

/-- The first byte of region `r` of channel `n`'s bank, and its size in bytes (R56, R57). -/
def Work.region (w : Work) (n r : Nat) : Nat × Nat :=
  let p := (w.chan n).regions.getD r (0, 0)
  (0x01000000 + n * 0x20000 + 64 * p.1, 64 * p.2)

/-! ### Free values and time -/

/-- A value the spec leaves open, of `k` bits, and the counter moved on (log entry 5). -/
def Work.fresh (w : Work) (k : Nat) : Nat × Work :=
  ((Config.freeValue k w.free).toNat, { w with free := w.free + 1 })

/-- One of the numbers of a list, where the spec does not say which; of an empty list, a number of `k` bits that it does
not give (log entry 10). -/
def Work.pickOpen (w : Work) (l : List Nat) (k : Nat) : Nat × Work :=
  match l with
  | [] => w.fresh k
  | [x] => (x, w)
  | x :: _ => let (i, w) := w.fresh 16; (l.getD (i % l.length) x, w)

/-- A quotient shown in whole units where the spec gives no rounding: exact, or one of its two neighbours (log
entry 9). -/
def roundOpen (a : Int) (b : Nat) : Int :=
  if a % (b : Int) = 0 then a / b else a / b + ((Config.roundsUp a b).toNat : Int)

/-- The low 32 bits of the tick count (R14). -/
def Work.tick32 (w : Work) : Nat := w.tick % 2 ^ 32

/-- The tick period in force, in µs. -/
def Work.periodUs (w : Work) : Nat := w.lock.periodUs

/-- The length of the running tick in cycles, without the extension of a phase step (R44). -/
def Work.tickLen (w : Work) : Nat := ((w.periodUs * 200 : Nat) + w.lock.now : Int).toNat

/-- Time since reset in µs, as of the last boundary. -/
def Work.nowUs (w : Work) : Nat := w.nowCyc / 200

/-- A 16-bit and a 32-bit value that the spec does not give (log entry 5). -/
def Work.stampOpen (w : Work) : Nat × Nat × Work :=
  let c := (Config.freeValue 16 w.free).toNat
  let v := (Config.freeValue 32 (w.free + 1)).toNat
  (c, v, { w with free := w.free + 2 })

/-- R14: the tick a stamp names, if it is a future one; none for the current tick or a past one. -/
def Work.stampDue (w : Work) (stamp : Nat) : Option Nat :=
  let d := (stamp + 2 ^ 32 - w.tick32) % 2 ^ 32
  if 1 ≤ d ∧ d ≤ 2 ^ 31 - 1 then some (w.tick + d) else none

/-! ### Event counters (R432, R433) -/

/-- The counters that count instance `inst` of source `code`, raised by `k`. -/
def Counter.count (c : Counter) (code inst k : Nat) : Counter :=
  let ins := bitsOf c.cfg 12 8
  if c.run ∧ code = bitsOf c.cfg 6 0 ∧ (ins = inst ∨ ins = 0x1F) then
    { c with value := (c.value + k) % 2 ^ 48, ovf := c.ovf || decide (2 ^ 48 ≤ c.value + k) }
  else c

/-- An event of a counter source, `k` times. -/
def Work.ev (w : Work) (code : Nat) (inst : Nat := 0) (k : Nat := 1) : Work :=
  if code = 0 ∨ w.mon.still then w else { w with mon := { w.mon with counters := w.mon.counters.map (fun c => c.count code inst k) } }

/-! ### Rings (R211 to R217) -/

/-- The device ring, beside the channel rings 0 to 7. -/
def devRing : Nat := 8

/-- A ring's register field read. -/
def Work.ringGet (w : Work) (r : Nat) (cf df : Fld) : Nat := if r < 8 then w.get cf r else w.get df

/-- A ring's register field set. -/
def Work.ringPut (w : Work) (r : Nat) (cf df : Fld) (v : Nat) : Work := if r < 8 then w.put cf v r else w.put df v

/-- Unacknowledged entries. -/
def Work.ringCount (w : Work) (r : Nat) : Nat := w.ringGet r F.CASK_STAT_COUNT F.SYS_DRING_STAT_COUNT
/-- Sequence number of the oldest. -/
def Work.ringOldest (w : Work) (r : Nat) : Nat := w.ringGet r F.CASK_SEQ_OLDEST F.SYS_DRING_SEQ_OLDEST
/-- Sequence number of the next stored. -/
def Work.ringNext (w : Work) (r : Nat) : Nat := w.ringGet r F.CASK_SEQ_NEXT F.SYS_DRING_SEQ_NEXT
/-- Depth in force. -/
def Work.ringDepth (w : Work) (r : Nat) : Nat := w.ringGet r F.CASK_STAT_DEPTH F.SYS_DRING_STAT_DEPTH

/-- COUNT set. -/
def Work.setRingCount (w : Work) (r v : Nat) : Work := w.ringPut r F.CASK_STAT_COUNT F.SYS_DRING_STAT_COUNT v
/-- OLDEST set. -/
def Work.setRingOldest (w : Work) (r v : Nat) : Work := w.ringPut r F.CASK_SEQ_OLDEST F.SYS_DRING_SEQ_OLDEST v
/-- NEXT set. -/
def Work.setRingNext (w : Work) (r v : Nat) : Work := w.ringPut r F.CASK_SEQ_NEXT F.SYS_DRING_SEQ_NEXT v

/-- A ring's hidden part. -/
def Work.ring (w : Work) (r : Nat) : Ring := if r < 8 then (w.chan r).cask.ring else w.dring

/-- A ring's hidden part set. -/
def Work.setRing (w : Work) (r : Nat) (x : Ring) : Work :=
  if r < 8 then w.modChan r (fun c => { c with cask := { c.cask with ring := x } }) else { w with dring := x }

/-- The first byte of a ring's memory (R213). -/
def Work.ringBase (w : Work) (r : Nat) : Nat := if r < 8 then (w.region r 2).1 else 0x001FC000

/-- The address of the entry that stands `i` places after the oldest (log entry 7). -/
def Work.ringSlot (w : Work) (r i : Nat) : Nat :=
  let d := w.ringDepth r
  w.ringBase r + 16 * (if d = 0 then 0 else ((w.ring r).place + d - w.ringCount r % d + i) % d)

/-- The 16 bytes of an entry (R211). -/
def entryBytes (e : Entry) (seq source flags : Nat) : List Byte :=
  leBytes 4 e.stamp ++ leBytes 2 seq ++ leBytes 1 e.kind ++ leBytes 1 source ++ leBytes 2 e.code ++ leBytes 2 flags ++
    leBytes 4 e.value

/-- Attention of a ring (R222). -/
def Work.inAttention (w : Work) (r : Nat) : Bool :=
  let count := w.ringCount r
  let age := w.ringGet r F.CASK_CFG_ATT_AGE F.SYS_DRING_CFG_ATT_AGE
  decide (w.ringGet r F.CASK_CFG_WMARK F.SYS_DRING_CFG_WMARK ≤ count) ||
    (decide (age ≠ 0) && decide (0 < count) &&
      decide (age ≤ (w.tick32 + 2 ^ 32 - w.peekLe (w.ringSlot r 0) 4) % 2 ^ 32))

/-- ATTN and HOST_ATTN.ACTIVE of a ring taken anew (R222). -/
def Work.takeAttention (w : Work) (r : Nat) : Work :=
  let b := w.inAttention r
  let w := w.ringPut r F.CASK_STAT_ATTN F.SYS_DRING_STAT_ATTN b.toNat
  w.put F.HOST_ATTN_ACTIVE (setBit (w.get F.HOST_ATTN_ACTIVE) r b)

/-- An entry dropped (R215; under R399 a held CASK drops every entry). -/
def Work.dropEntry (w : Work) (r : Nat) : Work :=
  let w := if r < 8 then w.countUp F.CASK_DROPS_DROPS r else w.countUp F.SYS_DRING_DROPS_DROPS
  let w := w.ringPut r F.CASK_STAT_OVF F.SYS_DRING_STAT_OVF 1
  (w.ringPut r F.CASK_STAT_LOSS_PEND F.SYS_DRING_STAT_LOSS_PEND 1).ev 0x2E r

/-- An entry stored at NEXT (R214), with TAKEOVER (R225) and LOSS (R215) where they are due. -/
def Work.storeEntry (w : Work) (r : Nat) (e : Entry) : Work :=
  let loss := w.ringGet r F.CASK_STAT_LOSS_PEND F.SYS_DRING_STAT_LOSS_PEND
  let ring := w.ring r
  let flags := e.flags % 2 ^ 14 + 2 ^ 14 * ring.takeover.toNat + 2 ^ 15 * loss
  let next := w.ringNext r
  let source := if r < 8 then r else 0xF0
  let w := w.pokes (w.ringBase r + 16 * ring.place) (entryBytes e next source flags)
  let w := w.setRing r { place := (ring.place + 1) % Nat.max 1 (w.ringDepth r), takeover := false }
  let w := w.ringPut r F.CASK_STAT_LOSS_PEND F.SYS_DRING_STAT_LOSS_PEND 0
  let w := w.setRingCount r (w.ringCount r + 1)
  (w.setRingNext r ((next + 1) % 65536)).ev 0x2D r

/-- An entry that reaches its ring: stored, or dropped where the ring is full or its CASK is held; then attention is taken (R214,
R215, R222, R399). -/
def Work.ringEntry (w : Work) (r : Nat) (e : Entry) : Work :=
  if r < 8 ∧ (w.chan r).blockHeld 4 then w.dropEntry r
  else if w.ringDepth r ≤ w.ringCount r then w.dropEntry r
  else (w.storeEntry r e).takeAttention r

/-- An entry raised into a ring: it reaches it at once, or after the batch of the ended tick where that is still to be stored
(R216). A standby's ring takes none (R225). -/
def Work.raiseEntry (w : Work) (r : Nat) (e : Entry) : Work :=
  if r < 8 ∧ (w.chan r).standby then w
  else match (if r < 8 then (w.chan r).cask.later else none) with
    | some l => w.modChan r (fun c => { c with cask := { c.cask with later := some (l ++ [e]) } })
    | none => w.ringEntry r e

/-- An entry of an at-once kind, stamped with the running tick (R211, R212). -/
def Work.entryNow (w : Work) (r kind code flags value : Nat) : Work :=
  w.raiseEntry r ⟨kind, code, flags, value, w.tick32⟩

/-- A device-ring entry of a kind whose CODE and VALUE the spec does not give. -/
def Work.entryOpen (w : Work) (kind : Nat) : Work :=
  let (c, v, w) := w.stampOpen
  w.entryNow devRing kind c 0 v

/-- A boundary entry held for the batch at the end of the running tick (R216). -/
def Work.entryBatch (w : Work) (n : Nat) (e : Waiting) : Work :=
  w.modChan n (fun c => { c with cask := { c.cask with batch := c.cask.batch ++ [e] } })

/-- R217: a channel ring emptied, and the number of entries discarded, be it 0, recorded in the device ring by a CHANNEL entry
whose CODE is the channel (log entry 8). -/
def Work.emptyRing (w : Work) (n : Nat) : Work :=
  let lost := w.ringCount n
  let w := ((w.setRingCount n 0).setRingOldest n 0).setRingNext n 0
  let w := w.setRing n Ring.init
  let w : Work := { w with pair := { w.pair with sentNext := tabErase w.pair.sentNext n } }
  (w.takeAttention n).entryNow devRing 0x87 n 0 lost

/-! ### Ports and responses (R298 to R301) -/

/-- Status codes. -/
def stOk : Nat := 0
/-- BUSY. -/
def stBusy : Nat := 1
/-- ERR_CRC. -/
def stCrc : Nat := 2
/-- ERR_MODE. -/
def stMode : Nat := 3
/-- ERR_ARG. -/
def stArg : Nat := 4
/-- ERR_ISOLATED. -/
def stIsol : Nat := 5
/-- ABORTED. -/
def stAborted : Nat := 6
/-- ERR_AUTH. -/
def stAuth : Nat := 7
/-- ERR_STATE. -/
def stState : Nat := 8

/-- A Tun engine. -/
def Work.tunEng (w : Work) (e : Nat) : TunEng := w.tun[e]?.getD TunEng.init

/-- A Tun engine changed. -/
def Work.modTun (w : Work) (e : Nat) (f : TunEng → TunEng) : Work :=
  { w with tun := w.tun.setIfInBounds e (f (w.tunEng e)) }

/-- The port whose commands come from an origin. -/
def Work.port (w : Work) (o : Origin) : Port :=
  match o with
  | .host => w.host.port
  | .tun e => (w.tunEng e).port
  | .fabric _ => w.fab.port
  | .net _ => w.netBoot

/-- That port set. -/
def Work.setPort (w : Work) (o : Origin) (p : Port) : Work :=
  match o with
  | .host => { w with host := { w.host with port := p } }
  | .tun e => w.modTun e (fun t => { t with port := p })
  | .fabric _ => { w with fab := { w.fab with port := p } }
  | .net _ => { w with netBoot := p }

/-- A frame or telegram sent (log entry 6). -/
def Work.send (w : Work) (m : Sent) : Work := { w with sent := w.sent ++ [m] }

/-- Bytes 1 to 9 + LEN of a response frame (R299, R326, R353), without SYNC and CRC. -/
def respBytes (w : Work) (r : Resp) (rseq : Nat) (valid stale : Bool) : List Byte :=
  let attn := decide (w.get F.HOST_ATTN_MASK &&& w.get F.HOST_ATTN_ACTIVE ≠ 0)
  let rf := valid.toNat + 2 * stale.toNat + 4 * r.abortLate.toNat + 8 * attn.toNat + 16 * r.noReply.toNat
  leBytes 1 r.op ++ leBytes 1 r.tag ++ leBytes 1 r.status ++ leBytes 1 rf ++ leBytes 1 0 ++ leBytes 2 rseq ++
    leBytes 2 r.payload.length ++ r.payload

/-- The registers that report the host's response (HOST_STAT, HOST_RESP). -/
def Work.showHost (w : Work) : Work :=
  let p := w.host.port
  let w := w.putFlag F.HOST_STAT_IN_FLIGHT p.flight.isSome
  let w := w.putFlag F.HOST_STAT_RESP_READY p.fresh
  let w := w.put F.HOST_STAT_RSEQ p.rseq
  let w := w.put F.HOST_RESP_STATUS p.resp.status
  let w := w.putFlag F.HOST_RESP_VALID (p.flight.isNone && p.answered)
  let w := w.putFlag F.HOST_RESP_STALE (!p.fresh && p.flight.isNone && p.answered)
  let w := w.putFlag F.HOST_RESP_ABORT_LATE p.resp.abortLate
  w.put F.HOST_RESP_RSEQ p.rseq

/-- The registers that show a port's state (HOST_STAT and HOST_RESP; VR_BUSY of TUN_STAT). -/
def Work.showPort (w : Work) (o : Origin) : Work :=
  match o with
  | .host => w.showHost
  | .tun e => w.putFlag F.TUN_STAT_VR_BUSY (w.tunEng e).port.flight.isSome 0 e
  | _ => w

/-! ### The fabric's ports (R331 to R336, R433) -/

/-- The fabric ports run: released, not held, with the crystal, and not below IDLE (R392, R396, R409, R419). -/
def Work.fabRuns (w : Work) : Bool :=
  w.rst.hold == .none && decide (11 ≤ w.get F.SYS_REL_STEP) && !w.flag F.SYS_BLK_RST_FABRIC && !w.rst.rcMode &&
    decide (w.get F.PWR_STAT_STATE < 2)

/-- A port is enabled; a boot client links every port (R73, RHL_CFG). -/
def Work.portOn (w : Work) (p : Nat) : Bool :=
  w.fabRuns && (w.get F.RHL_STAT_STATE == 5 || bitOf (w.get F.RHL_CFG_PORT_EN) p)

/-- A port's link is up and in use. -/
def Work.linked (w : Work) (p : Nat) : Bool := w.portOn p && w.flag F.RHL_PORT_LINK 0 p

/-- A port carries fabric frames: it is not the pair link. -/
def Work.carries (w : Work) (p : Nat) : Bool := w.linked p && !(p == 2 && w.flag F.RHL_CFG_PAIR_P2)

/-- This device's logical address; 0 while it has none. -/
def Work.ownAddr (w : Work) : Nat := w.get F.RHL_STAT_ADDR_ACT

/-- This device is a joined member of a fabric, or its root. -/
def Work.joined (w : Work) : Bool := decide (w.get F.RHL_STAT_STATE = 3) || decide (w.get F.RHL_STAT_STATE = 6)

/-- The route entry of an address. -/
def Work.routeOf (w : Work) (a : Nat) : Nat :=
  let i := 2 * (a % 16)
  bitsOf (w.get F.RHL_ROUTE_PORTS 0 (a / 16)) (i + 1) i

/-- A port beside its registers changed. -/
def Work.modPort (w : Work) (p : Nat) (f : FabPort → FabPort) : Work :=
  { w with fab := { w.fab with ports := modAt w.fab.ports p f } }

/-- A port belongs to the ring. -/
def ringHas (r : RingInfo) (p : Nat) : Bool := p == r.fwd || p == r.back

/-- Intact links ahead, in a direction, from this node. -/
def ringReach (r : RingInfo) (broken : List Nat) (fwd : Bool) : Nat :=
  let links := (List.range (r.len - 1)).map (fun i =>
    if fwd then (r.pos + i) % Nat.max 1 r.len else (r.pos + 2 * r.len - 1 - i) % Nat.max 1 r.len)
  (links.takeWhile (fun q => !broken.contains q)).length

/-- The hops that a broadcast takes in the direction of a ring port, where it enters the ring (R347). -/
def ringHops (r : RingInfo) (broken : List Nat) (port : Nat) : Nat :=
  if !broken.isEmpty then ringReach r broken (port == r.fwd)
  else if port = 0 then (r.len - 1) / 2
  else (r.len - 1) - (r.len - 1) / 2

/-- A whole frame: header with its HCRC, payload, and CRC where it is good (R334). -/
def fabFrame (dest src kind flags hops blimit : Nat) (payload : List Byte) (good : Bool) : List Byte :=
  let h := leBytes 2 dest ++ leBytes 2 src ++ leBytes 1 kind ++ leBytes 1 flags ++ leBytes 1 hops ++ leBytes 1 blimit ++
    leBytes 2 payload.length
  let b := h ++ leBytes 2 (h.foldl (crcByteL 16 0x1021) 0xFFFF) ++ payload
  if good then b ++ leBytes 4 (crc32 b) else b

/-- The ordered sets around a frame on its way out, and IDLE after it (R331, R335, R336): an URGENT one that suspends another
stands between /P/ and /R/, and a frame known to be bad ends in /E/. -/
def lineSets (suspends good : Bool) : List LinkSet :=
  (if suspends then [.suspend] else []) ++ [.start, if good then .good else .bad] ++ (if suspends then [.resume] else []) ++ [.idle]

/-- The kinds of fabric frames that are always URGENT (R337). -/
def urgentKinds : List Nat := [0x08, 0x10, 0x11, 0x12, 0x21]

/-- CLASS of a kind whose class is fixed (R337). -/
def fabClass (kind : Nat) : Nat := if urgentKinds.contains kind then 0 else 1

/-- DIR of a frame that enters the ring here (R334): 0 toward P0. -/
def Work.ringDir (w : Work) (port : Nat) : Bool :=
  match w.fab.ring with | some r => ringHas r port && port != 0 | none => false

/-- A broadcast's ports, each with its BLIMIT, where it enters at this node (R347): on the ring in both directions, and by every
other port. -/
def Work.castPorts (w : Work) (ports : List Nat) : List (Nat × Nat) :=
  match w.fab.ring with
  | none => ports.map (fun q => (q, 0))
  | some r => ports.filterMap (fun q =>
      if !ringHas r q then some (q, 0)
      else let h := ringHops r w.fab.broken q; if h = 0 then none else some (q, h - 1))

/-- The ports that a frame of this node goes out by, each with its BLIMIT: the route of its address, the port to the root where the
node has not joined, and of a broadcast every port (R343, R344, R347). -/
def Work.portsTo (w : Work) (dest : Nat) : List (Nat × Nat) :=
  if dest = 511 then w.castPorts ((List.range 3).filter w.carries)
  else if !w.joined then [(w.fab.upPort, 0)]
  else if w.routeOf dest = 0 then []
  else [(w.routeOf dest - 1, 0)]

/-- The record of a frame of this node that goes out by a port with a BLIMIT (R334). -/
def Work.fabRecord (w : Work) (q : Nat × Nat) (kind dest cls : Nat) (payload : List Byte) : Sent :=
  ⟨0, q.1, kind, dest, fabFrame dest w.ownAddr kind (cls + 4 * (w.ringDir q.1).toNat) 255 q.2 payload true⟩

/-- The records of a frame of this node sent by the routes. -/
def Work.castSent (w : Work) (kind dest cls : Nat) (payload : List Byte) : List Sent :=
  (w.portsTo dest).map (fun q => w.fabRecord q kind dest cls payload)

/-- A frame of this node sent by a port (R331, R334, R347, R433). -/
def Work.fabOut (w : Work) (q : Nat × Nat) (kind dest cls : Nat) (payload : List Byte) : Work :=
  let w := w.send (w.fabRecord q kind dest cls payload)
  let w := w.modPort q.1 (fun x => { x with line := lineSets false true })
  if cls = 0 then w.ev 0x43 q.1 else w

/-- A frame of this node sent by the routes. -/
def Work.fabCast (w : Work) (kind dest cls : Nat) (payload : List Byte) : Work :=
  (w.portsTo dest).foldl (fun w q => w.fabOut q kind dest cls payload) w

/-! ### Responses -/

/-- What a port does with a response at once: the fabric sends WRAP_RSP unless the request wants none (R353), and the
network-boot ROM sends the response frame, whose CRC-16 is over its bytes 1 to 9 + LEN, to the source of the command (R299,
R328). On J1939 and NMEA
2000 an engine sends it to the requester (R326). -/
def Work.answer (w : Work) (o : Origin) : Work :=
  match o with
  | .fabric _ =>
    match w.fab.wrapRun with
    | some q =>
      let w := { w with fab := { w.fab with wrapRun := none } }
      if q.noWait then w
      else w.fabCast 0x31 q.src 1 (leBytes 2 q.tag ++ respBytes w w.fab.port.resp w.fab.port.rseq true false)
    | none => w
  | .tun e =>
    if [10, 12].contains (w.get F.TUN_STAT_PROTO 0 e) then
      w.send ⟨2, e, 256, 0, respBytes w (w.tunEng e).port.resp (w.tunEng e).port.rseq true false⟩
    else w
  | .net mac =>
    let b := respBytes w w.netBoot.resp w.netBoot.rseq true false
    w.send ⟨3, 0, 0x88B5, 0, beBytes 6 mac ++ beBytes 6 (Config.portMac 0) ++ beBytes 2 0x88B5 ++ [0xA5] ++ b ++ leBytes 2 (b.foldl (crcByteL 16 0x1021) 0xFFFF)⟩
  | _ => w

/-- A command completes: its response takes the next RSEQ and nothing is in flight on its port (R300). -/
def Work.complete (w : Work) (o : Origin) (op tag status : Nat) (payload : List Byte := [])
    (abortLate : Bool := false) (noReply : Bool := false) : Work :=
  let p := w.port o
  let w := w.setPort o { flight := none, answered := true, fresh := true, rseq := (p.rseq + 1) % 65536,
                         resp := ⟨op, tag, status, payload, abortLate, noReply⟩ }
  (w.showPort o).answer o

/-- The command in flight on a port completes. -/
def Work.finish (w : Work) (o : Origin) (status : Nat) (payload : List Byte := [])
    (abortLate : Bool := false) (noReply : Bool := false) : Work :=
  match (w.port o).flight with
  | some f => w.complete o f.op f.tag status payload (abortLate || f.late) noReply
  | none => w

/-! ### Streaming to a standby (R361) -/

/-- This device drives a paired channel. -/
def Work.pairActive (w : Work) (n : Nat) : Bool :=
  w.flag F.PAIR_CFG_EN && bitOf (w.get F.PAIR_CFG_PAIR_MASK) n && bitOf (w.get F.PAIR_STAT_ACTIVE) n

/-- A change of a channel this device drives is sent to the standby as a COMMIT, and counted for the next CUT. -/
def Work.pairCommit (w : Work) (n : Nat) (item : PairItem) : Work :=
  if w.pairActive n ∧ w.flag F.PAIR_STAT_LINK then
    let b := Config.pairItemBytes item
    let w := { w with pair := { w.pair with sent := w.pair.sent ++ [(n, b)] } }
    (w.send ⟨1, 2, 0x43, n, b⟩).ev 0x43 2
  else w

/-- A PAIR entry of the device ring (R373): the channel mask, the line or channel, and the key index. -/
def Work.pairEntry (w : Work) (code mask : Nat) (line : Nat := 0) (key : Nat := 0) : Work :=
  w.entryNow devRing 0x84 code 0 (mask % 256 + 2 ^ 8 * line + 2 ^ 16 * key)

/-- A disagreement with the active raises SHADOW, and the next HEARTBEAT tells of it (R364, R365). -/
def Work.raiseShadow (w : Work) (n line : Nat) : Work :=
  let w := { w with pair := { w.pair with shadow := true } }
  (((w.raise F.PAIR_ERR_SHADOW).ev 0x53)).pairEntry 7 (2 ^ n) line

/-- What executing a command comes to: an answer at once, or it stays in flight. -/
inductive Reply where
  | done (status : Nat) (payload : List Byte)
  | waits
deriving DecidableEq, Repr

/-- An answer with an empty payload, nothing changed by it. -/
def Work.reply (w : Work) (status : Nat) (payload : List Byte := []) : Work × Reply := (w, .done status payload)

end Sys2Proof.Machine
end

