-- ==== Sys2Proof/Machine/Operands.lean ====
section
/-! DEFINITION. How the operands of a command are read from its payload (R7, R296), and what its target must be. -/

namespace Sys2Proof.Machine

/-- Byte `i` of a payload. -/
def byteAt (pl : List Byte) (i : Nat) : Nat := leAt pl i 1

/-- The little-endian 16-bit field at byte `i`. -/
def halfAt (pl : List Byte) (i : Nat) : Nat := leAt pl i 2

/-- The little-endian 32-bit field at byte `i`. -/
def wordAt (pl : List Byte) (i : Nat) : Nat := leAt pl i 4

/-- The ring a RING byte names: 0 to 7 for a channel, 0xF0 for the device ring (R218). -/
def ringOf (b : Nat) : Option Nat := if b < 8 then some b else if b = 0xF0 then some devRing else none

/-- The bits set in a mask, of `k` bits, ascending. -/
def maskList (m k : Nat) : List Nat := (List.range k).filter (fun i => bitOf m i)

/-- The mask of a list of bit numbers. -/
def listMask (l : List Nat) : Nat := l.foldl (fun m i => setBit m i true) 0

/-- A channel is held in reset, so its wrapper answers for it (R10, R397). -/
def Work.isolated (w : Work) (n : Nat) : Bool := (w.chan n).inReset

/-- A request completed by a channel's wrapper, counted in CTL_STAT (R397). -/
def Work.countIso (w : Work) (n : Nat) : Work := w.countUp F.CTL_STAT_ISO_ERRS n

/-- A write for the display of a channel is answered by its wrapper: the channel, or its MASH, is held (R10, R399). -/
def Work.mashIsolated (w : Work) (n : Nat) : Bool := (w.chan n).blockHeld 9

end Sys2Proof.Machine
end

