-- ==== Sys2Proof/Machine/Changes.lean ====
section
/-! DEFINITION. Changes that wait for a boundary of their channel: the cut-off, stamps, and registers whose new value
comes into force at a boundary (R12 to R15). -/

namespace Sys2Proof.Machine

/-- The channel's GUARD slot of this tick has started: the apply cut-off has passed (R12). -/
def Chan.cutPassed (c : Chan) : Bool := c.seq.guardOrd.isSome

/-- What a stamp comes to: the future tick it names, and whether it names the current tick or a past one (R14). -/
def Work.judgeStamp (w : Work) (stamp : Option Nat) : Option Nat × Bool :=
  match stamp with
  | none => (none, false)
  | some s => match w.stampDue s with
    | some t => (some t, false)
    | none => (none, true)

/-- A place in a tick that no GUARD slot's start comes after: what stands there takes the boundary after the next. -/
def afterCut : Nat := 4096

/-- A commit at `ord` slots started comes before the cut-off: the next boundary applies it (R12). -/
def beforeCut (guardOrd ord : Option Nat) : Bool :=
  match ord with
  | none => true
  | some o => match guardOrd with
    | none => decide (o < afterCut)
    | some g => decide (o < g)

/-- The count of the tick that the next boundary begins (R14, R349). -/
def Work.nextTick (w : Work) : Nat := match w.lock.adopt with | some x => x % 2 ^ 48 | none => (w.tick + 1) % 2 ^ 48

/-- The place of channel `n` in its tick now (R12). -/
def Work.ordNow (w : Work) (n : Nat) : Option Nat := some (w.chan n).seq.started

/-- The boundary at which a change that committed at `ord` applies, as the tick that begins there (R12, R14). -/
def Work.appliesFrom (w : Work) (n : Nat) (ord : Option Nat) (due : Option Nat) : Nat :=
  let soonest := if beforeCut (w.chan n).seq.guardOrd ord then w.nextTick else w.nextTick + 1
  match due with
  | none => soonest
  | some t => Nat.max t soonest

/-- The boundary at which a change committed now applies. -/
def Work.appliesAt (w : Work) (n : Nat) (due : Option Nat) : Nat := w.appliesFrom n (w.ordNow n) due

/-- The pending stamped changes of a channel, a display command's among them from its acceptance on (R15, R160, R165). -/
def Mash.stamped (m : Mash) : Nat := (m.changes.filter (fun c => c.due.isSome)).length

/-- MASH_STAT shown from the queues. -/
def Work.showMash (w : Work) (n : Nat) : Work :=
  let m := (w.chan n).mash
  let w := w.put F.MASH_STAT_STAMPED (Nat.min 64 m.stamped) n
  let w := w.put F.MASH_STAT_QUEUE m.queue.length n
  w.putFlag F.MASH_STAT_SWAP_PENDING (m.changes.any (fun c => decide (c.what = .swap))) n

/-- The Mash engine changed, and its register shown. -/
def Work.modMash (w : Work) (n : Nat) (f : Mash → Mash) : Work :=
  (w.modChan n (fun c => { c with mash := f c.mash })).showMash n

/-- Changes committed together at `ord`, the last in the order of commits (R160). -/
def Mash.commit (m : Mash) (tick : Nat) (ord due : Option Nat) (late : Bool) (what : List Chg) : Mash :=
  { m with changes := m.changes ++ what.map (fun x => ⟨tick, ord, due, late, x⟩) }

/-- A change committed now. -/
def Work.addChange (w : Work) (n : Nat) (due : Option Nat) (late : Bool) (what : Chg) : Work :=
  w.modMash n (fun m => m.commit w.tick (w.ordNow n) due late [what])

/-- No room is left for another stamped change (R15). -/
def Work.stampedFull (w : Work) (n : Nat) (due : Option Nat) : Bool :=
  due.isSome && decide (64 ≤ (w.chan n).mash.stamped)

/-- How far the tick that a stamp named lies beyond tick `t`, modulo 2³² (R14). -/
def ticksTo (d t : Nat) : Nat := (d % 2 ^ 32 + 2 ^ 32 - t % 2 ^ 32) % 2 ^ 32

/-- Tick `t` is the one that a stamp named, or a later one (R14). -/
def stampReached (d t : Nat) : Bool := ticksTo d t == 0 || decide (2 ^ 31 ≤ ticksTo d t)

/-- A change falls due at the boundary that ends a tick and begins tick `t'`: it committed before the cut-off of the ended
tick, or in an earlier one, and its stamp has been reached (R12, R14). -/
def Change.isDue (c : Change) (guardOrd : Option Nat) (t' : Nat) : Bool :=
  beforeCut guardOrd c.ord && (match c.due with | none => true | some d => stampReached d t')

/-- A stamped change that committed at or after the cut-off of the tick that ends cannot meet the tick `t'` it names, and
is late; one that only R95 holds past its tick is not (R14). -/
def Change.judgeLate (c : Change) (guardOrd : Option Nat) (t' : Nat) : Change :=
  { c with late := c.late ||
      (!beforeCut guardOrd c.ord && (match c.due with | none => false | some d => stampReached d t')) }

/-- The changes of a channel judged at the end of their tick (R14). -/
def Mash.judgeLate (m : Mash) (guardOrd : Option Nat) (t' : Nat) : Mash :=
  { m with changes := m.changes.map (fun c => c.judgeLate guardOrd t') }

/-- The tick in which a change committed has ended. -/
def Change.age (c : Change) : Change := { c with ord := none }

/-- The tick in which a delivery arrived has ended. -/
def Delivery.age (d : Delivery) : Delivery := { d with ord := none }

/-- The tick has ended for all that the Mash of a channel holds (R12). -/
def Mash.age (m : Mash) : Mash :=
  { m with changes := m.changes.map Change.age, queue := m.queue.map Delivery.age, waiting := m.waiting.map Delivery.age
           drawn := m.drawn.map (fun x => { x with deliv := x.deliv.age }) }

/-- The sequencer changed. -/
def Work.modSeq (w : Work) (n : Nat) (f : Seq → Seq) : Work := w.modChan n (fun c => { c with seq := f c.seq })

/-! ### Registers that act at a boundary -/

/-- The registers of a channel whose new values come into force at a boundary (R12, R13): those of KILN, LED, INTEG,
GRIST, LAMP, TAP, BLINK and MASH. -/
def boundaryReg (a : Nat) : Bool :=
  let k := foldChannel a / 0x1000 % 16
  decide (0x40100000 ≤ a) && decide (a < 0x40180000) && [1, 2, 3, 4, 7, 8, 11, 12].contains k

/-- The value of a register that is in force. -/
def Work.curReg (w : Work) (n a : Nat) : Nat :=
  match tabFind (w.chan n).mash.older a with
  | some v => v
  | none => w.reg a

/-- A field as it is in force. -/
def Work.cur (w : Work) (f : Fld) (n : Nat) (k : Nat := 0) : Nat := bitsOf (w.curReg n (f.addr n k)) f.hi f.lo

/-- A one-bit field as it is in force. -/
def Work.curFlag (w : Work) (f : Fld) (n : Nat) (k : Nat := 0) : Bool := w.cur f n k == 1

/-- A setting register written: it reads its new value at once, which comes into force at its boundary. -/
def Work.setSetting (w : Work) (n a v : Nat) : Work :=
  let old := w.curReg n a
  let w := w.modChan n (fun c => { c with mash := { c.mash with older := tabInsert c.mash.older a old } })
  (w.setReg a v).addChange n none false (.reg a v)

/-- The values that a register of channel `n` has or will have: the one in force, and those that wait for their boundaries. -/
def Work.regValues (w : Work) (n a : Nat) : List Nat :=
  w.curReg n a :: (w.chan n).mash.changes.filterMap (fun c =>
    match c.what with
    | .reg a' v => if a' = a then some v else none
    | _ => none)

/-- A register's waiting value comes into force. -/
def Work.enforce (w : Work) (n a v : Nat) : Work :=
  w.modChan n (fun c =>
    let more := c.mash.changes.any (fun x => match x.what with | .reg a' _ => a' == a | _ => false)
    { c with mash := { c.mash with older := if more then tabInsert c.mash.older a v else tabErase c.mash.older a } })

end Sys2Proof.Machine
end

