-- ==== Sys2Proof/Machine/Cask.lean ====
section
/-! DEFINITION. Reading and acknowledging rings, the boundary batch, key delivery, the SV-4410 queue and the encoder
inputs (10_cask_encoders.md). -/

namespace Sys2Proof.Machine

/-! ### EVENT_READ and EVENT_ACK -/

/-- The ring header of R218. -/
def Work.ringHeader (w : Work) (r n : Nat) : List Byte :=
  let ovf := w.ringGet r F.CASK_STAT_OVF F.SYS_DRING_STAT_OVF
  let attn := w.ringGet r F.CASK_STAT_ATTN F.SYS_DRING_STAT_ATTN
  let copy := (decide (r < 8) && (w.chan r).standby).toNat
  let drops := if r < 8 then w.get F.CASK_DROPS_DROPS r else w.get F.SYS_DRING_DROPS_DROPS
  leBytes 2 (w.ringCount r) ++ leBytes 2 (w.ringOldest r) ++ leBytes 2 (w.ringNext r) ++ leBytes 1 n ++
    leBytes 1 (ovf + 2 * attn + 4 * copy) ++ leBytes 4 drops ++ leBytes 4 w.tick32

/-- The memory of a ring lies in a failed bank (R376). -/
def Work.ringFailed (w : Work) (r : Nat) : Bool := w.bankFailed (if r < 8 then 16 + r else 15)

/-- What a ring answers before its entries are looked at: the ring must exist, be open in the mode (R22), not be
isolated (R10), and its bank must be in service (R376). -/
def Work.ringCheck (w : Work) (pl : List Byte) : Except Nat Nat :=
  match ringOf (byteAt pl 0) with
  | none => .error stArg
  | some r =>
    if w.mode = mdRecovery ∧ r ≠ devRing then .error stMode
    else if r < 8 ∧ (w.chan r).blockHeld 4 then .error stIsol
    else if w.ringFailed r then .error stState
    else .ok r

/-- The wrapper of a channel counts the request it answers. -/
def Work.countRingIso (w : Work) (pl : List Byte) (st : Nat) : Work :=
  if st = stIsol then w.countIso (byteAt pl 0) else w

/-- EVENT_READ (R218). -/
def eventReadOp (w : Work) (pl : List Byte) : Work × Reply :=
  if pl.length ≠ 8 then w.reply stArg
  else match w.ringCheck pl with
  | .error st => (w.countRingIso pl st).reply st
  | .ok r =>
    let max := byteAt pl 1
    let first := if bitOf (halfAt pl 2) 0 then (halfAt pl 4 + 65536 - w.ringOldest r) % 65536 else 0
    if max < 1 ∨ 32 < max ∨ w.ringCount r < first then w.reply stArg
    else
      let n := Nat.min max (w.ringCount r - first)
      w.reply stOk (w.ringHeader r n ++ ((upFrom first n).map (fun i => w.peeks (w.ringSlot r i) 16)).flatten)

/-- OLDEST and COUNT, as EVENT_ACK answers them (R219). -/
def Work.ackPayload (w : Work) (r : Nat) : List Byte := leBytes 2 (w.ringOldest r) ++ leBytes 2 (w.ringCount r)

/-- EVENT_ACK (R219); a standby's copy takes no acknowledge (R225). -/
def eventAckOp (w : Work) (pl : List Byte) : Work × Reply :=
  if pl.length ≠ 4 then w.reply stArg
  else match w.ringCheck pl with
  | .error st => (w.countRingIso pl st).reply st
  | .ok r =>
    let d := (halfAt pl 2 + 65536 - w.ringOldest r) % 65536
    if r < 8 ∧ (w.chan r).standby then w.reply stState
    else if d < w.ringCount r then
      let w := w.setRingCount r (w.ringCount r - (d + 1))
      let w := (w.setRingOldest r ((halfAt pl 2 + 1) % 65536)).takeAttention r
      w.reply stOk (w.ackPayload r)
    else if 32768 ≤ d then w.reply stOk (w.ackPayload r)
    else w.reply stArg (w.ackPayload r)

/-! ### The boundary batch (R216) -/

/-- The place of a boundary entry in its batch: stamp, group, CODE, and for one key RELEASE, PRESS, REPEAT. An ALERT_ACK or a
ladder entry that R179 or R209 stamps with an earlier tick stands before the batch's own, so the stamps of one batch rise (log
entry 92). -/
def batchKey (e : Waiting) : Nat :=
  let rank := if e.kind = 3 then 0 else if e.kind = 1 then 1 else if e.kind = 2 then 2 else 0
  e.stamp * 2 ^ 40 + e.group * 2 ^ 20 + e.code * 4 + rank

/-- An entry put after those that stand before it or level with it. -/
def batchPut (e : Waiting) : List Waiting → List Waiting
  | [] => [e]
  | x :: xs => if batchKey x ≤ batchKey e then x :: batchPut e xs else e :: x :: xs

/-- The batch in its order. -/
def batchSort (es : List Waiting) : List Waiting := es.foldl (fun l e => batchPut e l) []

/-- A declaration appended to the emulated SV-4410 queue (R224). -/
def Work.compatAppend (w : Work) (n k t : Nat) (pressed : Bool) : Work :=
  let q := (w.chan n).cask.compat
  if 16 ≤ q.length then w.raise F.CASK_COMPAT_QOVF n
  else
    let e := (if pressed then k else 128 + k, t * w.periodUs / 1000 % 65536)
    let w := w.modChan n (fun c => { c with cask := { c.cask with compat := q ++ [e] } })
    w.put F.CASK_COMPAT_QCOUNT (q.length + 1) n

/-- Declarations in the order of R216: by key, and for one key its release first. -/
def compatPut (x : Nat × Nat × Bool) : List (Nat × Nat × Bool) → List (Nat × Nat × Bool)
  | [] => [x]
  | y :: ys => if 2 * y.1 + y.2.2.toNat ≤ 2 * x.1 + x.2.2.toNat then y :: compatPut x ys else x :: y :: ys

/-- The declarations of the ended tick appended to the emulated queue, in the order of R216 (R224). -/
def Work.compatBatch (w : Work) (n : Nat) : Work :=
  let q := (w.chan n).cask.compatNext
  let w' := w.modChan n (fun c => { c with cask := { c.cask with compatNext := q.filter (fun x => x.2.1 == w.tick) } })
  ((q.filter (fun x => x.2.1 != w.tick)).foldl (fun l x => compatPut x l) []).foldl
    (fun w x => w.compatAppend n x.1 x.2.1 x.2.2) w'

/-- The batch of the tick that ended stored, in order, and after it what was raised at once since (R216); entries of the
running tick stay. -/
def Work.storeBatch (w : Work) (n : Nat) : Work :=
  let es := (w.chan n).cask.batch
  let later := ((w.chan n).cask.later).getD []
  let now := w.tick32
  let w := w.modChan n (fun c =>
    { c with cask := { c.cask with batch := es.filter (fun e => e.stamp == now), later := none } })
  let w := (batchSort (es.filter (fun e => e.stamp != now))).foldl
    (fun w e => w.raiseEntry n ⟨e.kind, e.code, e.flags, e.value, e.stamp⟩) w
  later.foldl (fun w e => w.raiseEntry n e) (w.compatBatch n)

/-- A boundary opens the batch of the tick that it ends; one left open is stored first (R216). -/
def Work.openBatch (w : Work) (n : Nat) : Work :=
  let w := if (w.chan n).cask.later.isSome then w.storeBatch n else w
  w.modChan n (fun c => { c with cask := { c.cask with later := if c.inReset then none else some [] } })

/-! ### Keys (R223, R224) -/

/-- The class of a key (CASK_KMAP). -/
def Work.keyClass (w : Work) (n key : Nat) : Nat :=
  let p := 2 * (key % 16)
  bitsOf (w.get F.CASK_KMAP_CLASSES n (key / 16)) (p + 1) p

/-- The acknowledge groups that a local acknowledge key acknowledges, by the mask of each BLINK_ACK entry that names it with EN
set (R177). -/
def Work.ackMasks (w : Work) (n key : Nat) : List Nat :=
  if w.curFlag F.BLINK_CFG_ACK_LOCAL_EN n then
    ((List.range 8).filter (fun i => w.curFlag F.BLINK_ACK_EN n i && w.cur F.BLINK_ACK_KEY n i == key)).map
      (fun i => w.cur F.BLINK_ACK_GRP_MASK n i)
  else []

/-- A time of milliseconds in ticks, rounded half away from zero, at least 1 (R223). -/
def Work.msTicks (w : Work) (ms : Nat) : Nat := Nat.max 1 (divRound (ms * 1000) w.periodUs)

/-- Forerunner key number of a key: on ladder COMPAT_LADDER, in 8-tap mode (R224). -/
def Work.compatKey (w : Work) (n key : Nat) : Option Nat :=
  let l := w.get F.CASK_COMPAT_COMPAT_LADDER n
  if w.flag F.CASK_COMPAT_COMPAT_EN n ∧ key / 8 % 8 = l ∧ !bitOf (w.get F.GRIST_LADDER_WIDE n) l then
    some (key / 64 * 8 + key % 8)
  else none

/-- A declaration that the emulated SV-4410 queue takes with the batch of its tick (R224). -/
def Work.compatDeclare (w : Work) (n key t : Nat) (pressed : Bool) : Work :=
  match (if (w.chan n).standby then none else w.compatKey n key) with
  | none => w
  | some k => w.modChan n (fun c => { c with cask := { c.cask with compatNext := c.cask.compatNext ++ [(k, t, pressed)] } })

/-- A press declared with stamp `t` turned into its PRESS entry, the key held from then on (R223). -/
def Work.deliverPress (w : Work) (n key t : Nat) : Work :=
  let c := w.keyClass n key
  let ack := !(w.ackMasks n key).isEmpty
  let delay := w.get F.CASK_KCLASS_DELAY_MS n c
  let h : Held := { key := key, t := t, nd := w.msTicks delay, np := w.msTicks (w.get F.CASK_KCLASS_PERIOD_MS n c),
                    rep := w.flag F.CASK_KCLASS_REP_EN n c && decide (delay ≠ 0), rel := w.flag F.CASK_KCLASS_REL_EN n c,
                    ackKey := ack, count := 0 }
  let w := w.modChan n (fun ch =>
    { ch with cask := { ch.cask with held := ch.cask.held.filter (fun x => x.key != key) ++ [h] } })
  let w := w.entryBatch n ⟨4, 0x01, key, ack.toNat, 0, t % 2 ^ 32⟩
  w.compatDeclare n key t true

/-- A release declared with stamp `r`: its RELEASE entry, and no REPEAT with that stamp or a later one (R223). -/
def Work.deliverRelease (w : Work) (n key r : Nat) : Work :=
  let w := match (w.chan n).cask.held.find? (fun x => x.key == key) with
    | none => w
    | some h =>
      let w := w.modChan n (fun ch =>
        { ch with cask := { ch.cask with
            held := ch.cask.held.filter (fun x => x.key != key)
            batch := ch.cask.batch.filter (fun e => !(e.kind == 2 && e.code == key)) } })
      if h.rel then w.entryBatch n ⟨4, 0x03, key, h.ackKey.toNat, (r - h.t) % 2 ^ 32, r % 2 ^ 32⟩ else w
  w.compatDeclare n key r false

/-- The stamp of a held key's next REPEAT (R223). -/
def Held.nextRepeat (h : Held) : Nat := h.t + h.nd + h.count * h.np

/-- KEY_REPEAT: a held key whose repeat stamp is the running tick writes its REPEAT (R223). -/
def keyRepeat (w : Work) (n key : Nat) : Work :=
  match (w.chan n).cask.held.find? (fun x => x.key == key) with
  | none => w
  | some h =>
    if h.rep ∧ h.nextRepeat = w.tick then
      let hid := decide (key ∈ (w.chan n).grist.frozen)
      let w := w.modChan n (fun ch =>
        { ch with cask := { ch.cask with
            held := ch.cask.held.map (fun x => if x.key == key then { x with count := x.count + 1 } else x) } })
      w.entryBatch n ⟨4, 0x02, key, h.ackKey.toNat + 2 * hid.toNat, h.count + 1, w.tick32⟩
    else w

/-- KEY_REPEAT. -/
def execKeyRepeat (ch : Fin 8) (key : Fin 512) (s : State) : Host.Outcome State Fault Refusal :=
  .next (s.run (fun w => keyRepeat w ch key))

/-! ### Encoder inputs (R226 to R230) -/

/-- The quadrature state of a pair of levels (R226). -/
def quad (a b : Bool) : Nat :=
  match a, b with
  | false, false => 0
  | true, false => 1
  | true, true => 2
  | false, true => 3

/-- Transitions per detent (ENC_CFG.TPD). -/
def Work.encTpd (w : Work) (n j : Nat) : Nat := 2 ^ w.get F.ENC_CFG_TPD n j

/-- The anchor taken where the levels are the rest state for the first time (R227). -/
def Work.encAnchor (w : Work) (n j : Nat) (e : Encoder) : Encoder :=
  if e.anchor.isNone ∧ w.get F.ENC_CFG_REST n j = 2 * e.a.toNat + e.b.toNat then
    { e with anchor := some e.x, rest := e.x }
  else e

/-- The weight of a step taken at `us`, upward or not (R228). -/
def Work.encWeight (w : Work) (n j : Nat) (e : Encoder) (us : Nat) (up : Bool) : Nat :=
  if !w.flag F.ENC_CFG_ACCEL_EN n j then 1
  else match e.last with
  | none => 1
  | some (t, u) =>
    if u ≠ up then 1
    else if us - t < 1000 * w.get F.ENC_ACC_T1_MS n then w.get F.ENC_ACC_M1 n
    else if us - t < 1000 * w.get F.ENC_ACC_T2_MS n then w.get F.ENC_ACC_M2 n
    else 1

/-- The fine position moved by `d`, and the step issued where a new rest is reached (R226 to R228). -/
def Work.encMove (w : Work) (n j : Nat) (e : Encoder) (d : Int) (us : Nat) : Work × Encoder :=
  let e := { e with x := e.x + d }
  match e.anchor with
  | none => (w, e)
  | some a =>
    if (e.x - a) % (w.encTpd n j : Int) = 0 ∧ e.x ≠ e.rest then
      let up := decide (e.rest < e.x)
      let k := w.encWeight n j e us up
      let s : Int := if up then 1 else -1
      (w.ev 0x20 n, { e with rest := e.x, last := some (us, up), raw := e.raw + s, weighted := e.weighted + s * k })
    else (w, e)

/-- Encoder `j` of a channel. -/
def Work.encOf (w : Work) (n j : Nat) : Encoder := (w.chan n).enc.getD j Encoder.init

/-- ENC_STAT of an encoder shown from its state. -/
def Work.showEnc (w : Work) (n j : Nat) : Work :=
  let e := w.encOf n j
  let w := w.putFlag (if j = 0 then F.ENC_STAT_ANCHOR0 else F.ENC_STAT_ANCHOR1) e.anchor.isSome n
  let l := w.get F.ENC_STAT_LEVELS n
  w.put F.ENC_STAT_LEVELS (setBit (setBit l (3 - 2 * j) e.a) (2 - 2 * j) e.b) n

/-- Encoder `j` set. -/
def Work.setEnc (w : Work) (n j : Nat) (e : Encoder) : Work :=
  (w.modChan n (fun c => { c with enc := c.enc.set j e })).showEnc n j

/-- An accepted level change (R226, R227), `us` µs after the last boundary. -/
def encoderInput (w : Work) (n j : Nat) (a b : Bool) (us : Nat) : Work :=
  if !w.flag F.ENC_CFG_EN n j ∨ (w.chan n).blockHeld 3 then w
  else
    let e := w.encAnchor n j (w.encOf n j)
    let q := quad e.a e.b
    let q' := quad a b
    let e' := { e with a := a, b := b }
    let sign : Int := if w.flag F.ENC_CFG_DIR n j then -1 else 1
    let (w, e') :=
      if q' = (q + 1) % 4 then w.encMove n j e' sign (w.nowUs + us)
      else if q' = (q + 3) % 4 then w.encMove n j e' (-sign) (w.nowUs + us)
      else if q' = q then (w, e')
      else (w.raise (if j = 0 then F.ENC_STAT_ENC_ERR0 else F.ENC_STAT_ENC_ERR1) n, { e' with err := true })
    w.setEnc n j (w.encAnchor n j e')

/-- ENCODER_INPUT_CHANGE. -/
def execEncoderInputChange (ch : Fin 8) (j : Fin 2) (a b : Bool) (us : Nat) (s : State) :
    Host.Outcome State Fault Refusal :=
  .next (s.run (fun w => encoderInput w ch j a b us))

/-- ENC_STEP at a boundary (R229): the entry, POS and X, and the sums cleared, whether or not the encoder is still enabled. A
standby writes no entry (R230). -/
def Work.encStep (w : Work) (n j stamp : Nat) : Work :=
  if (w.chan n).blockHeld 3 then w
  else
    let e := if w.flag F.ENC_CFG_EN n j then w.encAnchor n j (w.encOf n j) else w.encOf n j
    let w := if e.weighted ≠ 0 ∧ !(w.chan n).standby then
        w.entryBatch n ⟨5, 0x08, j, e.err.toNat, unsigned 16 e.weighted + 2 ^ 16 * unsigned 16 e.raw, stamp % 2 ^ 32⟩
      else w
    let w := w.put F.ENC_POS_POS ((w.get F.ENC_POS_POS n j + unsigned 16 e.weighted) % 65536) n j
    let w := w.put F.ENC_POS_X (unsigned 16 e.x) n j
    w.setEnc n j { e with raw := 0, weighted := 0, err := false }

/-- An encoder starts afresh: x, POS and the anchor (R230, R399). -/
def Work.encAfresh (w : Work) (n j : Nat) : Work :=
  let e := w.encOf n j
  let w := w.put F.ENC_POS_POS 0 n j
  let w := w.put F.ENC_POS_X 0 n j
  let e := { e with x := 0, anchor := none, rest := 0, last := none, raw := 0, weighted := 0, err := false }
  w.setEnc n j (if w.flag F.ENC_CFG_EN n j ∧ !(w.chan n).blockHeld 3 then w.encAnchor n j e else e)

end Sys2Proof.Machine
end

