-- ==== Sys2Proof/Machine/Fields.lean ====
section
/-! DEFINITION. How a value becomes lit elements: glyph positions, fonts, the field table and formatting
(07_fields_mash.md, R143 to R153; R128 and the digit tables of 06_display_integrity.md). -/

namespace Sys2Proof.Machine

/-! ### Tables in the bank -/

/-- Byte `off` of region `r`; 0 past its end. -/
def Work.regByte (w : Work) (n r off : Nat) : Nat :=
  let p := w.region n r
  if off < p.2 then (w.peek (p.1 + off)).toNat else 0

/-- A little-endian value of `k` bytes in region `r`. -/
def Work.regLe (w : Work) (n r off k : Nat) : Nat :=
  (List.range k).foldr (fun i acc => w.regByte n r (off + i) + 256 * acc) 0

/-- A glyph position: its type, its font, and the element of each place, none where it is not fitted (R128, R143). -/
structure PosDef where
  type : Nat
  font : Nat
  elems : List (Option Nat)
deriving DecidableEq, Repr

/-- Glyph position `p` of the directory of region 5 (R143). -/
def Work.posDef (w : Work) (n p : Nat) : Option PosDef :=
  let d := w.regLe n 5 (4 * p) 4
  let off := bitsOf d 15 0
  if 256 ≤ p ∨ off = 0xFFFF ∨ (w.region n 5).2 ≤ off then none
  else
    let k := w.regByte n 5 (off + 1)
    some { type := w.regByte n 5 off, font := bitsOf d 19 16,
           elems := (List.range k).map (fun i =>
             let e := w.regLe n 5 (off + 2 + 2 * i) 2
             if e = 0xFFFF then none else some e) }

/-- A field record (R146). -/
structure FieldDef where
  format : Nat
  n : Nat
  bar : Bool
  rawExp : Int
  dp : Nat
  lzb : Bool
  sign : Nat
  ol : Bool
  staleFlash : Bool
  pos0 : Nat
  invalid : Nat
  init : Nat
  units : List Nat
  staleTo : Nat
  barFull : Nat
deriving DecidableEq, Repr

/-- Field `f` of region 3; none where its record defines no field (R146). -/
def Work.fieldDef (w : Work) (n f : Nat) : Option FieldDef :=
  let o := 16 * f
  let fmt := w.regByte n 3 o
  if 128 ≤ f ∨ (w.region n 3).2 < o + 16 ∨ 6 < fmt then none
  else
    let shape := w.regByte n 3 (o + 1)
    let style := w.regByte n 3 (o + 3)
    let modes := w.regByte n 3 (o + 5)
    let u0 := w.regLe n 3 (o + 6) 2
    let u1 := w.regLe n 3 (o + 8) 2
    some { format := fmt, n := bitsOf shape 4 0, bar := bitOf shape 5, rawExp := signed 8 (w.regByte n 3 (o + 2)),
           dp := bitsOf style 2 0, lzb := bitOf style 3, sign := bitsOf style 5 4, ol := bitOf style 6,
           staleFlash := bitOf style 7, pos0 := w.regByte n 3 (o + 4), invalid := bitsOf modes 1 0,
           init := bitsOf modes 3 2,
           units := (if bitOf u0 15 then [bitsOf u0 9 0] else []) ++ (if bitOf u1 15 then [bitsOf u1 9 0] else []),
           staleTo := w.regLe n 3 (o + 10) 2, barFull := w.regLe n 3 (o + 12) 4 }

/-- The positions of a field, left to right. -/
def Work.fieldPositions (w : Work) (n : Nat) (fd : FieldDef) : List PosDef :=
  (List.range fd.n).filterMap (fun i => w.posDef n (fd.pos0 + i))

/-- The elements of a field: those of its positions, and its units. -/
def Work.fieldElems (w : Work) (n : Nat) (fd : FieldDef) : List Nat :=
  ((w.fieldPositions n fd).map (fun p => p.elems.filterMap id)).flatten ++ fd.units

/-! ### Values (R147) -/

/-- A decoded value: bad, an infinity, or the exact quotient. -/
inductive FVal where
  | bad
  | inf (neg : Bool)
  | num (n : Int) (d : Nat)
deriving DecidableEq, Repr

/-- The exact value of an IEEE 754 single. -/
def f32Val (v : Nat) : FVal :=
  let s := bitOf v 31
  let e := bitsOf v 30 23
  let m := bitsOf v 22 0
  if e = 255 then (if m = 0 then .inf s else .bad)
  else
    let mant := if e = 0 then m else m + 2 ^ 23
    let ex := Nat.max e 1
    let sgn : Int := if s then -1 else 1
    if 150 ≤ ex then .num (sgn * (mant * 2 ^ (ex - 150) : Nat)) 1 else .num (sgn * mant) (2 ^ (150 - ex))

/-- VALUE decoded by FORMAT from its low bytes (R147). -/
def decodeValue (fmt v : Nat) : FVal :=
  match fmt with
  | 0 => .num (v % 2 ^ 8 : Nat) 1
  | 1 => .num (signed 8 v) 1
  | 2 => .num (v % 2 ^ 16 : Nat) 1
  | 3 => .num (signed 16 v) 1
  | 4 => .num (v % 2 ^ 32 : Nat) 1
  | 5 => .num (signed 32 v) 1
  | _ => f32Val v

/-- The VALUE a record holds: extended to 32 bits by FORMAT (R138). -/
def storedValue (fmt v : Nat) : Nat :=
  match fmt with
  | 0 => v % 2 ^ 8
  | 1 => unsigned 32 (signed 8 v)
  | 2 => v % 2 ^ 16
  | 3 => unsigned 32 (signed 16 v)
  | _ => v % 2 ^ 32

/-- v × 10^DP, v the value times 10^RAW_EXP, rounded half away from zero from the exact value (R148). -/
def scaleValue (n : Int) (d : Nat) (e : Int) : Int :=
  if 0 ≤ e then divRoundInt (n * (10 ^ e.toNat : Nat)) d else divRoundInt n (d * 10 ^ (-e).toNat)

/-- Decimal digits, the units digit first; at most 64 of them. -/
def decDigits : Nat → Nat → List Nat
  | 0, _ => []
  | k + 1, v => if v = 0 then [] else v % 10 :: decDigits k (v / 10)

/-! ### Codes by position (R149 to R151) -/

/-- The codes the formatter emits (R145). -/
def cMinus : Nat := 0x2D
/-- Blank. -/
def cBlank : Nat := 0x20
/-- The letter O. -/
def cO : Nat := 0x4F
/-- The letter L. -/
def cL : Nat := 0x4C
/-- Low bar. -/
def cLow : Nat := 0x5F
/-- The point of a 5×7 field. -/
def cPoint : Nat := 0x2E

/-- What a field shows: its codes by position, whether the decimal point is lit on the units position, and SHOWN
(0 VALUE, 1 INVALID, 2 OVERFLOW). -/
structure Shape where
  codes : List Nat
  point : Bool
  shown : Nat
deriving DecidableEq, Repr

/-- A 5×7 field with DP > 0 has a point position (R149). -/
def FieldDef.pointPos (fd : FieldDef) (dots : Bool) : Nat := if dots ∧ 0 < fd.dp then 1 else 0

/-- A minus sign in every position. -/
def FieldDef.dashes (fd : FieldDef) : List Nat := List.replicate fd.n cMinus

/-- The pattern of an overflow (R150). -/
def FieldDef.overflow (fd : FieldDef) (dots neg : Bool) : Shape :=
  let l := fd.n - fd.pointPos dots
  let room := 2 + (if fd.sign = 1 then 1 else 0)
  let need := if neg ∧ fd.sign = 2 then 3 else room
  if fd.ol ∧ need ≤ l then
    { codes := (List.range fd.n).map (fun i =>
        if i = l - 2 ∧ i < l then cO
        else if i = l - 1 then cL
        else if neg ∧ fd.sign = 1 ∧ i = 0 then cMinus
        else if neg ∧ fd.sign = 2 ∧ i + 3 = l then cMinus
        else cBlank),
      point := false, shown := 2 }
  else { codes := fd.dashes, point := false, shown := 2 }

/-- The digits of d in their positions (R149). -/
def FieldDef.digits (fd : FieldDef) (dots : Bool) (d : Int) : Shape :=
  let l := fd.n - fd.pointPos dots
  let neg := decide (d < 0)
  let c := if fd.sign = 1 then l - 1 else if fd.sign = 2 ∧ neg then l - 1 else l
  let ds := decDigits 64 d.natAbs
  let len := Nat.max (fd.dp + 1) ds.length
  if (neg ∧ fd.sign = 0) ∨ c < len then fd.overflow dots neg
  else
    -- the digit `k` places from the right, of `c` digits padded with zeros
    let blanked := fun k => fd.lzb && decide (fd.dp < k) && decide (ds.length ≤ k)
    let first := if fd.lzb then len else c
    { codes := (List.range fd.n).map (fun i =>
        if l ≤ i then cPoint
        else
          let k := l - 1 - i
          if c ≤ k ∧ fd.sign = 1 then (if neg then cMinus else cBlank)
          else if neg ∧ fd.sign = 2 ∧ k = first then cMinus
          else if c ≤ k ∨ blanked k then cBlank
          else 0x30 + ds.getD k 0),
      point := decide (0 < fd.dp), shown := 0 }

/-- The pattern of an invalid value (R151). -/
def FieldDef.invalidShape (fd : FieldDef) : Shape :=
  let c := if fd.invalid = 0 then cMinus else if fd.invalid = 1 then cBlank else cLow
  { codes := List.replicate fd.n c, point := false, shown := 1 }

/-- A NUMERIC value's shape (R147 to R151). -/
def FieldDef.numeric (fd : FieldDef) (dots : Bool) (v : Nat) (bad : Bool) : Shape :=
  if bad then fd.invalidShape
  else match decodeValue fd.format v with
  | .bad => fd.invalidShape
  | .inf neg => fd.overflow dots neg
  | .num n d => fd.digits dots (scaleValue n d (fd.rawExp + fd.dp))

/-- The number of elements a BAR value lights, of `e`; none: invalid (R152). -/
def FieldDef.barCount (fd : FieldDef) (e v : Nat) (bad : Bool) : Option Nat :=
  if bad then none
  else match decodeValue fd.format v, decodeValue fd.format fd.barFull with
  | .bad, _ => none
  | .inf neg, _ => some (if neg then 0 else e)
  | .num n d, .num fn fdn =>
    if n ≤ 0 ∨ fn ≤ 0 then some 0
    else some (Nat.min e (divRound (n.toNat * fdn * e) (d * fn.toNat)))
  | .num _ _, _ => some 0

/-! ### Fonts (R144, R145) -/

/-- The 7-segment shapes, element a in bit 0. -/
def seg7 (code : Nat) : Option Nat :=
  match code with
  | 0x30 => some 0x3F | 0x31 => some 0x06 | 0x32 => some 0x5B | 0x33 => some 0x4F | 0x34 => some 0x66
  | 0x35 => some 0x6D | 0x36 => some 0x7D | 0x37 => some 0x07 | 0x38 => some 0x7F | 0x39 => some 0x6F
  | 0x2D => some 0x40 | 0x20 => some 0x00 | 0x4F => some 0x3F | 0x4C => some 0x38 | 0x5F => some 0x08
  | _ => none

/-- The 14-segment shapes, in the order a to f, g1, g2, h, j, k, l, m, n. -/
def seg14 (code : Nat) : Option Nat :=
  match code with
  | 0x30 => some 0xC3F | 0x31 => some 0x06 | 0x32 => some 0xDB | 0x33 => some 0x8F | 0x34 => some 0xE6
  | 0x35 => some 0xED | 0x36 => some 0xFD | 0x37 => some 0x07 | 0x38 => some 0xFF | 0x39 => some 0xEF
  | 0x2D => some 0xC0 | 0x20 => some 0x00 | 0x4F => some 0x3F | 0x4C => some 0x38 | 0x5F => some 0x08
  | _ => none

/-- A 14-segment shape with a drawn as a1 a2 and d as d1 d2, in 16-segment order (R145). -/
def seg16Of14 (m : Nat) : Nat :=
  let b := fun i => (bitOf m i).toNat
  b 0 * 0x3 + b 1 * 0x4 + b 2 * 0x8 + b 3 * 0x30 + b 4 * 0x40 + b 5 * 0x80 + bitsOf m 13 6 * 0x100

/-- The columns of the built-in 5×7 glyphs, left to right (R145). -/
def cols57 (code : Nat) : Option (List Nat) :=
  match code with
  | 0x30 => some [0x3E, 0x41, 0x41, 0x41, 0x3E] | 0x31 => some [0x00, 0x42, 0x7F, 0x40, 0x00]
  | 0x32 => some [0x62, 0x51, 0x49, 0x49, 0x46] | 0x33 => some [0x22, 0x41, 0x49, 0x49, 0x36]
  | 0x34 => some [0x18, 0x14, 0x12, 0x7F, 0x10] | 0x35 => some [0x27, 0x45, 0x45, 0x45, 0x39]
  | 0x36 => some [0x3C, 0x4A, 0x49, 0x49, 0x30] | 0x37 => some [0x01, 0x71, 0x09, 0x05, 0x03]
  | 0x38 => some [0x36, 0x49, 0x49, 0x49, 0x36] | 0x39 => some [0x06, 0x49, 0x49, 0x29, 0x1E]
  | 0x2D => some [0x08, 0x08, 0x08, 0x08, 0x08] | 0x20 => some [0x00, 0x00, 0x00, 0x00, 0x00]
  | 0x4F => some [0x3E, 0x41, 0x41, 0x41, 0x3E] | 0x4C => some [0x7F, 0x40, 0x40, 0x40, 0x40]
  | 0x5F => some [0x40, 0x40, 0x40, 0x40, 0x40] | 0x2E => some [0x00, 0x60, 0x60, 0x00, 0x00]
  | _ => none

/-- Element 7c + r of a 5×7 glyph is column c, row r (R144). -/
def mask57 (cols : List Nat) : Nat := cols.foldr (fun c acc => c % 128 + 128 * acc) 0

/-- A code's shape in the built-in font of a glyph type. -/
def builtinMask (type code : Nat) : Option Nat :=
  match type with
  | 0 => seg7 code
  | 1 => seg14 code
  | 2 => (seg14 code).map seg16Of14
  | 3 => (cols57 code).map mask57
  | _ => none

/-- A code's shape in image font `k` of region 5 (R143, R144). -/
def Work.fontMask (w : Work) (n k code : Nat) : Option Nat :=
  let off := w.regLe n 5 (0x400 + 2 * k) 2
  if off = 0xFFFF then none
  else
    let count := w.regByte n 5 (off + 1)
    match (List.range count).find? (fun i => w.regByte n 5 (off + 4 + 12 * i) == code) with
    | some i => some (w.regLe n 5 (off + 8 + 12 * i) 8)
    | none => none

/-- A code's shape at a position: in its font; none where the font lacks the code (R144). -/
def Work.glyphMask (w : Work) (n : Nat) (p : PosDef) (code : Nat) : Option Nat :=
  if p.font = 0 then builtinMask p.type code else w.fontMask n p.font code

/-- The decimal-point element of a segmented glyph type (R144). -/
def dpIndex (type : Nat) : Option Nat :=
  match type with
  | 0 => some 7
  | 1 => some 14
  | 2 => some 16
  | _ => none

/-- The elements of a position at a shape. -/
def PosDef.draw (p : PosDef) (mask : Nat) : List (Nat × Bool) :=
  ((List.range p.elems.length).filterMap (fun i =>
    match p.elems.getD i none with
    | some e => some (e, bitOf mask i)
    | none => none))

/-! ### A field's pattern -/

/-- The masks of a NUMERIC shape by position, and whether a code was missing from a font. -/
def Work.shapeMasks (w : Work) (n : Nat) (fd : FieldDef) (ps : List PosDef) (sh : Shape) : List Nat × Bool :=
  let dots := (ps.head?.map (fun p => p.type == 3)).getD false
  let unit := fd.n - 1 - fd.pointPos dots - fd.dp
  let ms := (List.range ps.length).map (fun i =>
    match ps[i]? with
    | none => (0, false)
    | some p =>
      match w.glyphMask n p (sh.codes.getD i cBlank) with
      | none => (0, true)
      | some m =>
        match dpIndex p.type with
        | some k => if sh.point ∧ i = unit then (setBit m k true, false) else (m, false)
        | none => (m, false))
  (ms.map (·.1), ms.any (·.2))

/-- What a value makes a field show: its positions' masks, SHOWN, its unit elements lit, and a code missing (R148 to
R153). -/
def Work.fieldMasks (w : Work) (n : Nat) (fd : FieldDef) (v : Nat) (bad : Bool) : List Nat × Nat × Bool × Bool :=
  let ps := w.fieldPositions n fd
  if fd.bar then
    let e := (ps.head?.map (fun p => p.elems.length)).getD 0
    match fd.barCount e v bad with
    | some k => ([2 ^ k - 1], 0, true, false)
    | none => ([0], 1, false, false)
  else
    let dots := (ps.head?.map (fun p => p.type == 3)).getD false
    let sh := fd.numeric dots v bad
    let (ms, miss) := w.shapeMasks n fd ps sh
    let ol := decide (sh.shown = 2) && decide (sh.codes ≠ fd.dashes)
    (ms, sh.shown, decide (sh.shown = 0) || ol, miss)

/-- The elements of a field with the masks of its positions and its units. -/
def Work.fieldDraw (w : Work) (n : Nat) (fd : FieldDef) (ms : List Nat) (units : Bool) : List (Nat × Bool) :=
  let ps := w.fieldPositions n fd
  ((List.range ps.length).map (fun i =>
    match ps[i]? with
    | some p => p.draw (ms.getD i 0)
    | none => [])).flatten ++ fd.units.map (fun e => (e, units))

/-- One field of a delivery drawn: its element writes, its value record, and whether a code was missing (R159). -/
def Work.drawField (w : Work) (n f v : Nat) (bad : Bool) : List DispWrite × Bool :=
  match w.fieldDef n f with
  | none => ([], false)
  | some fd =>
    let (ms, _, units, miss) := w.fieldMasks n fd v bad
    ((w.fieldDraw n fd ms units).map (fun p => DispWrite.elem p.1 p.2) ++ [.value f (storedValue fd.format v) bad], miss)

/-- The dash pattern of a field: a minus sign in every position, point and units off (R154); a position whose font lacks the
minus shows blank (R144). -/
def Work.dashMasks (w : Work) (n : Nat) (fd : FieldDef) : List Nat :=
  (w.fieldPositions n fd).map (fun p => (w.glyphMask n p cMinus).getD 0)

/-- A font of the field's positions lacks the minus of its dash pattern (R144). -/
def Work.dashMissing (w : Work) (n : Nat) (fd : FieldDef) : Bool :=
  (w.fieldPositions n fd).any (fun p => (w.glyphMask n p cMinus).isNone)

end Sys2Proof.Machine
end

