-- ==== Sys2Proof/Machine/Blink.lean ====
section
/-! DEFINITION. Blink clocks and groups, the alert state machine, and dim groups (08_blink_alerts_dim.md). -/

namespace Sys2Proof.Machine

/-! ### Clocks and groups (R167 to R171) -/

/-- FAST_T in ticks (R167). -/
def Work.fastT (w : Work) : Nat := divRound 500000 w.periodUs

/-- FAST in tick `t` (R167). -/
def Work.fastOn (w : Work) (t : Nat) : Bool := decide (t % w.fastT < divCeil w.fastT 2)

/-- SLOW in tick `t` (R167). -/
def Work.slowOn (w : Work) (t : Nat) : Bool := decide (t % (4 * w.fastT) < 2 * w.fastT)

/-- SYS_BLINK for the running tick. -/
def Work.showBlink (w : Work) : Work :=
  let w := w.put F.SYS_BLINK_FAST_T w.fastT
  let w := w.putFlag F.SYS_BLINK_FAST (w.fastOn w.tick)
  w.putFlag F.SYS_BLINK_SLOW (w.slowOn w.tick)

/-- The tick that a channel's blink and alert presentation stands at: the running tick, or the last one before BLINK was
held in reset (R399). -/
def Work.blinkTick (w : Work) (n : Nat) : Nat :=
  if (w.chan n).blockHeld 10 then (w.chan n).blink.shownAt else w.tick

/-- Blink group `g` of a channel is on in the running tick (R169). -/
def Work.groupOn (w : Work) (n g : Nat) : Bool :=
  let t := w.blinkTick n
  match w.cur F.BLINK_GRP_C_SRC n g with
  | 0 =>
    let p := w.cur F.BLINK_GRP_T_PERIOD n g
    decide ((t + w.cur F.BLINK_GRP_C_PHASE n g) % p < w.cur F.BLINK_GRP_T_ON n g)
  | 1 => w.fastOn t
  | 2 => w.slowOn t
  | _ => true

/-- The blink entry of item `i` in a table of 4-bit entries: its group, where EN is set. -/
def Work.blinkEntry (w : Work) (f : Fld) (n i : Nat) : Option Nat :=
  let e := w.cur f n (i / 8) / 2 ^ (4 * (i % 8)) % 16
  if bitOf e 3 then some (e % 8) else none

/-! ### Alerts (R172 to R180) -/

/-- An alert record (R173). -/
structure AlertDef where
  icon : Bool
  lamp : Bool
  pos : Nat
  fn : Nat
  grp : Nat
  rect : Bool
  id : Nat
deriving DecidableEq, Repr

/-- ALERT_N (R172). -/
def Work.alertN (w : Work) (n : Nat) : Nat := Nat.min 256 (w.regLe n 6 0 2)

/-- Alert `a` of the table (R173). -/
def Work.alertDef (w : Work) (n a : Nat) : AlertDef :=
  let o := w.regLe n 6 2 2 + 8 * a
  let k := w.regByte n 6 o
  let fl := w.regByte n 6 (o + 3)
  { icon := bitOf k 0, lamp := bitOf k 1, pos := w.regByte n 6 (o + 1), fn := w.regByte n 6 (o + 2),
    grp := bitsOf fl 2 0, rect := bitOf fl 3, id := w.regLe n 6 (o + 4) 2 }

/-- A lamp function record, with its UF-16 member entries. -/
structure FnDef where
  policy : Nat
  dimEn : Bool
  grp : Nat
  bsrc : Nat
  dimGrp : Nat
  lamps : Nat
  level : Nat
  ufs : List Nat
  id : Nat
deriving DecidableEq, Repr

/-- LAMP_OFF: the lamp table's offset in region 6; 0 where the header names none. -/
def Work.lampOff (w : Work) (n : Nat) : Nat := w.regLe n 6 8 2

/-- FN_N. -/
def Work.fnN (w : Work) (n : Nat) : Nat := if w.lampOff n = 0 then 0 else Nat.min 32 (w.regByte n 6 (w.lampOff n))

/-- Function `f` of the table. -/
def Work.fnDef (w : Work) (n f : Nat) : FnDef :=
  let t := w.lampOff n
  let o := t + 4 + 16 * f
  let p := w.regByte n 6 o
  let b := w.regByte n 6 (o + 1)
  let uf := t + 4 + 16 * w.fnN n
  let first := w.regLe n 6 (o + 8) 2
  { policy := bitsOf p 1 0, dimEn := bitOf p 2, grp := bitsOf b 2 0, bsrc := bitsOf b 4 3,
    dimGrp := w.regByte n 6 (o + 2) % 16, lamps := w.regLe n 6 (o + 4) 2 % 4096, level := w.regLe n 6 (o + 6) 2,
    ufs := (List.range (Nat.min 256 (w.regLe n 6 (o + 10) 2))).map (fun i => w.regLe n 6 (uf + 2 * (first + i)) 2),
    id := w.regLe n 6 (o + 12) 2 }

/-- The functions of a channel. -/
def Work.fns (w : Work) (n : Nat) : List (Nat × FnDef) := (List.range (w.fnN n)).map (fun f => (f, w.fnDef n f))

/-- The function with an FN_ID. -/
def Work.fnById (w : Work) (n id : Nat) : Option Nat := ((w.fns n).find? (fun x => x.2.id == id)).map (·.1)

/-- The state code of an alert (R174): 0 NORMAL, 1 ACTIVE_UNACK, 2 ACTIVE_ACK, 3 RECTIFIED_UNACK. -/
def Work.alertState (w : Work) (n a : Nat) : Nat :=
  let p := 2 * (a % 16)
  bitsOf (w.get F.BLINK_ALST_STATES n (a / 16)) (p + 1) p

/-- An alert's state set. -/
def Work.setAlertState (w : Work) (n a st : Nat) : Work :=
  let p := 2 * (a % 16)
  w.put F.BLINK_ALST_STATES (setBits (w.get F.BLINK_ALST_STATES n (a / 16)) (p + 1) p st) n (a / 16)

/-- An alert's condition. -/
def Work.alertCond (w : Work) (n a : Nat) : Bool := bitOf (w.get F.BLINK_ALCOND_COND n (a / 32)) (a % 32)

/-- An alert's condition set. -/
def Work.setAlertCond (w : Work) (n a : Nat) (b : Bool) : Work :=
  w.put F.BLINK_ALCOND_COND (setBit (w.get F.BLINK_ALCOND_COND n (a / 32)) (a % 32) b) n (a / 32)

/-- The state an acknowledge leads to (R174). -/
def ackNext (st : Nat) : Nat := if st = 1 then 2 else if st = 3 then 0 else st

/-- The state a condition leads to (R174). -/
def condNext (rect cond : Bool) (st : Nat) : Nat :=
  if cond then (if st = 0 ∨ st = 3 then 1 else st)
  else if st = 1 then (if rect then 3 else 0)
  else if st = 2 then 0
  else st

/-- One acknowledge of an alert, taken in tick `t` (R174, R175, R179). A standby writes no entry (R180). -/
def Work.applyAck (w : Work) (n a origin t : Nat) : Work :=
  let st := w.alertState n a
  let st' := ackNext st
  if st' = st then w
  else
    let w := (w.setAlertState n a st').ev 0x30 n
    let w := w.ev 0x31 n
    if (w.chan n).standby then w
    else w.entryBatch n ⟨6, 0x18, a, 0, (w.alertDef n a).id + 2 ^ 16 * origin + 2 ^ 24 * st', t % 2 ^ 32⟩

/-- The condition of an alert applied as it stands (R175). -/
def Work.applyCond (w : Work) (n a : Nat) : Work :=
  let st := w.alertState n a
  let st' := condNext (w.alertDef n a).rect (w.alertCond n a) st
  if st' = st then w else (w.setAlertState n a st').ev 0x30 n

/-- BLINK_STAT of a channel. -/
def Work.showAlerts (w : Work) (n : Nat) : Work :=
  let sts := (List.range (w.alertN n)).map (fun a => w.alertState n a)
  let w := w.put F.BLINK_STAT_N_ACT_UNACK (sts.count 1) n
  let w := w.put F.BLINK_STAT_N_ACT_ACK (sts.count 2) n
  w.put F.BLINK_STAT_N_RECT_UNACK (sts.count 3) n

/-- The acknowledges among the due changes, in commit order, each alert by its index (R175). -/
def Work.dueAcks (w : Work) (n : Nat) (due : List Change) : List (Nat × Nat × Nat) :=
  (due.map (fun c =>
    match c.what with
    | .alertAck a o => [(a, o, c.tick)]
    | .alertAckGrp m o =>
      ((List.range (w.alertN n)).filter (fun a => bitOf m (w.alertDef n a).grp)).map (fun a => (a, o, c.tick))
    | _ => [])).flatten

/-- ALERT_UPDATE (R175): the due acknowledges, then the conditions. -/
def Work.alertUpdate (w : Work) (n : Nat) (due : List Change) : Work :=
  let w := (w.dueAcks n due).foldl (fun w p => w.applyAck n p.1 p.2.1 p.2.2) w
  let w := due.foldl (fun w c =>
    match c.what with
    | .alertCond a b => w.setAlertCond n a b
    | _ => w) w
  let w := (List.range (w.alertN n)).foldl (fun w a => w.applyCond n a) w
  w.showAlerts n

/-- Whether an alert is shown on in the running tick (R176). -/
def Work.alertOn (w : Work) (n a : Nat) : Bool :=
  match w.alertState n a with
  | 1 => w.fastOn (w.blinkTick n)
  | 2 => true
  | 3 => w.slowOn (w.blinkTick n)
  | _ => false

/-- The origin code of an acknowledge (R179). -/
def originCode (o : Origin) : Nat :=
  match o with
  | .host => 1
  | .tun _ => 2
  | .fabric _ => 3
  | .net _ => 1

/-- The standby told of an acknowledge of every alert of the groups in a mask (R180, R361). -/
def Work.pairAcks (w : Work) (n mask origin : Nat) (due : Option Nat) : Work :=
  ((List.range (w.alertN n)).filter (fun a => bitOf mask (w.alertDef n a).grp)).foldl
    (fun w a => w.pairCommit n ⟨.alertAck (w.alertDef n a).id origin, due⟩) w

/-- The channel of a display command judged (R10, R22, R372, R376). -/
def Work.displayCheck (w : Work) (n : Nat) : Option Nat :=
  if 8 ≤ n then some stArg
  else if w.mode = mdTest ∧ w.inTestMask n then some stMode
  else if w.mashIsolated n then some stIsol
  else if (w.chan n).standby then some stState
  else if w.bankFailed (16 + n) then some stState
  else none

/-- A display command refused for its channel; a wrapper counts what it answers (R397). -/
def Work.refuseDisplay (w : Work) (n st : Nat) : Work × Reply :=
  (if st = stIsol then w.countIso n else w).reply st

/-- ALERT (R178); a held BLINK is isolated (R397, R399). -/
def alertOp (w : Work) (o : Origin) (pl : List Byte) : Work × Reply :=
  let n := byteAt pl 0
  let op := byteAt pl 1
  let index := halfAt pl 8
  if pl.length ≠ 12 ∨ halfAt pl 2 / 2 ≠ 0 ∨ halfAt pl 10 ≠ 0 then w.reply stArg
  else match w.displayCheck n with
  | some st => w.refuseDisplay n st
  | none =>
    if (w.chan n).blockHeld 10 then w.refuseDisplay n stIsol
    else if 3 < op ∨ (op ≠ 3 ∧ w.alertN n ≤ index) then w.reply stArg
    else
      let stamp := if bitOf (halfAt pl 2) 0 then some (wordAt pl 4) else none
      let (due, late) := w.judgeStamp stamp
      if w.stampedFull n due then w.reply stBusy
      else
        let t := w.appliesAt n due
        let what := if op = 0 then Chg.alertCond index true
          else if op = 1 then .alertCond index false
          else if op = 2 then .alertAck index (originCode o)
          else .alertAckGrp (index % 256) (originCode o)
        let w := w.addChange n due late what
        let id := (w.alertDef n index).id
        let w := if op = 0 then w.pairCommit n ⟨.alertCond id true, due⟩
          else if op = 1 then w.pairCommit n ⟨.alertCond id false, due⟩
          else if op = 2 then w.pairCommit n ⟨.alertAck id (originCode o), due⟩
          else w.pairAcks n (index % 256) (originCode o) due
        w.reply stOk (leBytes 4 t)

/-! ### Dim groups (R181 to R189) -/

/-- The built-in curve (R182): P[0] = 0 and P[k] = round(65,535 × 2^((k − 32) / 2)). -/
def builtinCurve : List Nat :=
  [0, 1, 2, 3, 4, 6, 8, 11, 16, 23, 32, 45, 64, 91, 128, 181, 256, 362, 512, 724, 1024, 1448, 2048, 2896, 4096, 5793,
   8192, 11585, 16384, 23170, 32768, 46340, 65535]

/-- The curve of group `g` on a channel (R172, R182, R183). -/
def Work.dimCurve (w : Work) (n g : Nat) : List Nat :=
  let mask := w.regLe n 6 4 2
  if bitOf mask g then
    let o := w.regLe n 6 6 2 + 68 * ((List.range g).filter (fun i => bitOf mask i)).length
    (List.range 33).map (fun k => w.regLe n 6 (o + 2 * k) 2)
  else builtinCurve

/-- The dim output of a level through a curve (R182). -/
def dimOut (curve : List Nat) (level : Nat) : Nat :=
  let x := 32 * level
  let i := x / 65535
  let r := x - 65535 * i
  if 32 ≤ i then curve.getD 32 0
  else (curve.getD i 0 : Int) + divRoundInt (((curve.getD (i + 1) 0 : Int) - curve.getD i 0) * r) 65535 |>.toNat

/-- BLINK_DIMD of a group on a channel, from the level in force (R182). -/
def Work.showDim (w : Work) (n g : Nat) : Work :=
  let l := w.get F.SYS_DIM_LVL_LEVEL 0 g
  let w := w.put F.BLINK_DIMD_L l n g
  w.put F.BLINK_DIMD_D (dimOut (w.dimCurve n g) l) n g

/-- One version is newer than another (R181): apply tick, then issuing address. -/
def Work.newer (w : Work) (t a t' a' : Nat) : Bool :=
  let own := fun x => if x = 0 then w.ownAddr else x
  let d := (t + 2 ^ 32 - t' % 2 ^ 32) % 2 ^ 32
  (decide (1 ≤ d) && decide (d ≤ 2 ^ 31 - 1)) || (decide (d = 0) && decide (own a < own a'))

/-- The newest version held for a group: pending, or applied (R184). -/
def Work.heldDim (w : Work) (g : Nat) : DimPend :=
  match w.dim.getD g none with
  | some p => p
  | none => { level := w.get F.SYS_DIM_LVL_LEVEL 0 g, tick := w.get F.SYS_DIM_VER_APPLY_TICK 0 g,
              addr := w.get F.SYS_DIM_LVL_ORIGIN 0 g, cut := false }

/-- The cut-off of a channel has passed in the running tick: what changes every channel takes the boundary after the next
(R12, R14; log entry 76). -/
def Work.dimCut (w : Work) : Bool := (List.range 8).any (fun n => (w.chan n).cutPassed)

/-- A dim update adopted if its version is newer; answers whether it was (R185). `cut`: a cut-off has passed. -/
def Work.adoptDim (w : Work) (g level tick addr : Nat) (cut : Bool) : Work × Bool :=
  let h := w.heldDim g
  if w.newer tick addr h.tick h.addr then
    ({ w with dim := w.dim.set g (some ⟨level, tick % 2 ^ 32, addr, cut⟩) }.ev 0x32, true)
  else (w, false)

/-- DIM_UPDATE_ISSUE (R184): the update is adopted here, and broadcast where the group is shared. -/
def Work.issueDim (w : Work) (g level tick : Nat) (cut localOnly : Bool) : Work × Bool :=
  let share := bitOf (w.get F.SYS_DIM_CFG_FABRIC_MASK) g && w.joined && !localOnly
  let addr := if share then w.ownAddr else 0
  let (w, won) := w.adoptDim g level tick addr cut
  let w := (List.range 8).foldl (fun w n => w.pairCommit n ⟨.dim g level (tick % 2 ^ 32) addr, none⟩) w
  (if share then
    w.fabCast 0x21 511 0 (leBytes 2 g ++ leBytes 2 level ++ leBytes 4 tick ++ leBytes 2 addr ++ leBytes 2 0)
   else w, won)

/-- The apply tick of an update without a stamp (R184). -/
def Work.dimLead (w : Work) : Nat := (w.tick + w.get F.SYS_DIM_CFG_LEAD) % 2 ^ 32

/-- DIM (R187). A stamped one takes no place among a channel's 64 stamped changes (log entry 76). -/
def dimOp (w : Work) (pl : List Byte) : Work × Reply :=
  let mask := halfAt pl 0
  let flags := byteAt pl 2
  let level := halfAt pl 8
  if pl.length ≠ 12 ∨ mask = 0 ∨ flags / 4 ≠ 0 ∨ byteAt pl 3 ≠ 0 ∨ halfAt pl 10 ≠ 0 then w.reply stArg
  else
    let tick := if bitOf flags 0 then wordAt pl 4 else w.dimLead
    let (w, lost) := (maskList mask 16).foldl (fun (p : Work × Option Nat) g =>
      let (w, won) := p.1.issueDim g level tick w.dimCut (bitOf flags 1)
      (w, if won then p.2 else p.2.orElse (fun _ => some (w.heldDim g).tick))) (w, none)
    w.reply stOk (leBytes 4 (lost.getD tick))

/-- DIM_APPLY (R185): a group's pending update applies at the boundary that begins its tick, or late: one that came after
a cut-off waits for the boundary after it (R14), and a late one is a late stamp of every channel that shows it. The tick
count has been moved on. -/
def Work.applyDim (w : Work) (g : Nat) : Work :=
  match w.dim.getD g none with
  | none => w
  | some p =>
    let d := ticksTo p.tick w.tick
    if p.cut then { w with dim := w.dim.set g (some { p with cut := false }) }
    else if stampReached p.tick w.tick then
      let w := { w with dim := w.dim.set g none }
      let w := w.put F.SYS_DIM_LVL_LEVEL p.level 0 g
      let w := w.put F.SYS_DIM_LVL_ORIGIN p.addr 0 g
      let w := w.put F.SYS_DIM_VER_APPLY_TICK p.tick 0 g
      if d = 0 then w
      else (w.eachChan (fun w n =>
        if (w.chan n).blockHeld 10 then w else (w.raise F.BLINK_ERR_DIM_LATE n).ev 0x17 n)).ev 0x33
    else w

/-- ENCODER_DIM (R188): the step sum of an encoder bound to a group gives a new level. A standby issues none. -/
def Work.encoderDim (w : Work) (n j : Nat) : Work :=
  let s := (w.encOf n j).weighted
  if (w.chan n).standby ∨ s = 0 ∨ !w.curFlag F.BLINK_DIMENC_EN n j then w
  else
    let g := w.cur F.BLINK_DIMENC_GROUP n j
    let base : Int := (w.heldDim g).level
    let l := min 65535 (max (w.cur F.BLINK_DIMENC_MIN n j : Int) (base + s * (w.cur F.BLINK_DIMENC_STEP n j * 256 : Nat)))
    (w.issueDim g l.toNat w.dimLead false false).1

/-- DIM_UPDATE received: a node that has not joined applies none (R185, R343). -/
def execDimUpdate (group level applyTick addr : Nat) (s : State) : Host.Outcome State Fault Refusal :=
  .next (s.run (fun w => if 16 ≤ group ∨ !w.joined then w else (w.adoptDim group level applyTick addr w.dimCut).1))

/-- DIM_SYNC_SEND (R186): the root broadcasts each shared group at tick counts that are multiples of 1,024. -/
def dimSyncSend (w : Work) : Work :=
  if w.get F.RHL_STAT_STATE = 6 ∧ w.tick % 1024 = 0 then
    let mask := w.get F.SYS_DIM_CFG_FABRIC_MASK
    let b := (maskList mask 16).map (fun g =>
      leBytes 2 (w.get F.SYS_DIM_LVL_LEVEL 0 g) ++ leBytes 4 (w.get F.SYS_DIM_VER_APPLY_TICK 0 g) ++
        leBytes 2 (let a := w.get F.SYS_DIM_LVL_ORIGIN 0 g; if a = 0 then w.ownAddr else a))
    w.fabCast 0x22 511 1 (leBytes 2 mask ++ b.flatten)
  else w

/-- DIM_SYNC_SEND. -/
def execDimSyncSend (s : State) : Host.Outcome State Fault Refusal := .next (s.run dimSyncSend)

/-- DIM_SYNC received by a joined node (R186, R343): entries of group, level, apply tick and issuing address, each adopted where
newer. -/
def execDimSync (entries : List (Nat × Nat × Nat × Nat)) (s : State) : Host.Outcome State Fault Refusal :=
  .next (s.run (fun w => if !w.joined then w else entries.foldl (fun w e =>
    if 16 ≤ e.1 then w else (w.adoptDim e.1 e.2.1 e.2.2.1 e.2.2.2 w.dimCut).1) w))

end Sys2Proof.Machine
end

