-- ==== Sys2Proof/Machine/Mash.lean ====
section
/-! DEFINITION. The Mash: bindings, deliveries, the display images, the display commands and field ages
(07_fields_mash.md). -/

namespace Sys2Proof.Machine

/-! ### The display images (R138 to R142) -/

/-- The front image's first byte, and its region's size. -/
def Work.frontImage (w : Work) (n : Nat) : Nat × Nat := w.region n (w.get F.MASH_STAT_FRONT n)

/-- The back image's first byte, and its region's size. -/
def Work.backImage (w : Work) (n : Nat) : Nat × Nat := w.region n (1 - w.get F.MASH_STAT_FRONT n)

/-- One display write made in an image; `applied` is the boundary that applies it, once known (R138). -/
def Work.writeDisp (w : Work) (img : Nat × Nat) (applied : Option Nat) (d : DispWrite) : Work :=
  match d with
  | .elem e on =>
    let a := img.1 + e / 8
    if e < 1024 ∧ e / 8 < img.2 then w.poke a (BitVec.ofNat 8 (setBit (w.peek a).toNat (e % 8) on)) else w
  | .value f v bad =>
    let o := 0x100 + 16 * f
    if f < 128 ∧ o + 16 ≤ img.2 then
      let w := w.pokes (img.1 + o) (leBytes 4 v ++ [BitVec.ofNat 8 (bad.toNat + 2)])
      match applied with
      | some t => w.pokes (img.1 + o + 8) (leBytes 4 t)
      | none => w
    else w

/-- A range of memory made a copy of another: `k` bytes from `src` to `dst`. -/
def Work.copyRange (w : Work) (src dst k : Nat) : Work :=
  let bs := w.peeks src k
  match bankOf dst with
  | none => w
  | some b =>
    if w.bankFailed b then w
    else
      let w := w.wipe dst (dst + k)
      let w := { w with memsys := { w.memsys with
        dirty := w.memsys.dirty || (upFrom 0 k).any (fun i => w.borrowed (dst + i)) } }
      ((List.range k).zip bs).foldl (fun w p => if p.2 = 0 then w else w.poke (dst + p.1) p.2) w

/-- Element `e` of an image's SEG_PLANE. -/
def Work.planeBit (w : Work) (img : Nat × Nat) (e : Nat) : Bool :=
  decide (e / 8 < img.2) && bitOf (w.peek (img.1 + e / 8)).toNat (e % 8)

/-- Element ownership as MASH_OWN reports it (R142). -/
def Work.owned (w : Work) (n e : Nat) : Bool := bitOf (w.get F.MASH_OWN_OWNED n (e / 32)) (e % 32)

/-- SWAP_MODE reads HELD (R140). -/
def Work.held (w : Work) (n : Nat) : Bool := w.curFlag F.MASH_CFG_SWAP_MODE n

/-- An IMAGE_SWAP waits for its boundary (R164). -/
def Chan.swapPending (c : Chan) : Bool := c.mash.changes.any (fun x => decide (x.what = .swap))

/-- Every element and every field record of a delivery's writes. -/
def DispWrite.field? (d : DispWrite) : Option (Nat × Nat × Bool) :=
  match d with
  | .value f v bad => some (f, v, bad)
  | .elem _ _ => none

/-- A field's state after a write applied at a boundary: SHOWN by its value, not flashing, age 0 (R154). -/
def Work.fieldWritten (w : Work) (n f v : Nat) (bad : Bool) : Work :=
  match w.fieldDef n f with
  | none => w
  | some fd =>
    let w := w.put F.MASH_FSTAT_SHOWN (w.fieldMasks n fd v bad).2.1 n f
    let w := w.put F.MASH_FSTAT_FLASHING 0 n f
    w.put F.MASH_FSTAT_AGE 0 n f

/-- BUFFER_SWAP at the boundary that begins tick `t` (R139): the due writes stand in the back image, the images swap,
and the new back becomes a copy of the new front. -/
def Work.bufferSwap (w : Work) (n t : Nat) (ws : List DispWrite) : Work :=
  let w := ws.foldl (fun w d => w.writeDisp (w.backImage n) (some (t % 2 ^ 32)) d) w
  let w := w.put F.MASH_STAT_FRONT (1 - w.get F.MASH_STAT_FRONT n) n
  let w := w.countWrap F.MASH_SWAPS_SWAPS n
  let w := w.copyRange (w.frontImage n).1 (w.backImage n).1 (Nat.min 0x900 (w.backImage n).2)
  ws.foldl (fun w d =>
    match d.field? with
    | some (f, v, bad) => w.fieldWritten n f v bad
    | none => w) w

/-- FIELD_STALE: a field whose age has reached STALE_TO becomes stale (R154). -/
def fieldStale (w : Work) (n f : Nat) : Work :=
  match w.fieldDef n f with
  | none => w
  | some fd =>
    let shown := w.get F.MASH_FSTAT_SHOWN n f
    if fd.staleTo = 0 ∨ shown = 3 ∨ (shown = 4 ∧ fd.init ≠ 1) ∨ w.get F.MASH_FSTAT_AGE n f < fd.staleTo ∨
        (w.chan n).standby then w
    else
      let w := w.put F.MASH_FSTAT_SHOWN 3 n f
      w.putFlag F.MASH_FSTAT_FLASHING fd.staleFlash n f

/-- One more boundary in the age of every field that no write reached, and a field that reaches STALE_TO stale with it (R154);
a standby takes its ages from the state delta (R166). -/
def Work.ageFields (w : Work) (n : Nat) (written : List Nat) : Work :=
  if (w.chan n).standby then w
  else (List.range 128).foldl (fun w f =>
    if written.contains f then w
    else match w.fieldDef n f with
      | none => w
      | some fd =>
        let shown := w.get F.MASH_FSTAT_SHOWN n f
        if shown = 4 ∧ fd.init ≠ 1 then w else fieldStale (w.countUp F.MASH_FSTAT_AGE n f) n f) w

/-- WRITTEN of a field's value record in the front image: the field has been written since its start (R138). -/
def Work.fieldHasWritten (w : Work) (n f : Nat) : Bool := bitOf (w.peek ((w.frontImage n).1 + 0x104 + 16 * f)).toNat 1

/-- WRITTEN of a field cleared in one image. -/
def Work.clearWritten (w : Work) (img : Nat × Nat) (f : Nat) : Work :=
  let a := img.1 + 0x104 + 16 * f
  if 0x110 + 16 * f ≤ img.2 ∧ bitOf (w.peek a).toNat 1 then w.poke a (BitVec.ofNat 8 ((w.peek a).toNat % 2)) else w

/-- The start of a field after an image activation: not written since (R138, R156). -/
def Work.startField (w : Work) (n f : Nat) : Work :=
  let w := (w.clearWritten (w.frontImage n) f).clearWritten (w.backImage n) f
  let w := w.put F.MASH_FSTAT_SHOWN 4 n f
  let w := w.put F.MASH_FSTAT_FLASHING 0 n f
  w.put F.MASH_FSTAT_AGE 0 n f

/-! ### Bindings (R157, R158) -/

/-- A binding record (R157, R158). -/
structure Binding where
  kind : Nat
  engine : Nat
  set : Nat
  offset : Nat
  enc : Nat
  qual : Nat
  target : Nat
  index : Nat
  count : Nat
deriving DecidableEq, Repr

/-- Binding `i` of region 4. -/
def Work.binding (w : Work) (n i : Nat) : Binding :=
  let o := 16 * i
  { kind := w.regByte n 4 o, engine := w.regByte n 4 (o + 1), set := w.regLe n 4 (o + 2) 2,
    offset := w.regLe n 4 (o + 4) 2, enc := w.regByte n 4 (o + 6), qual := w.regByte n 4 (o + 7),
    target := w.regByte n 4 (o + 8), index := w.regLe n 4 (o + 10) 2, count := w.regLe n 4 (o + 12) 2 }

/-- The binding table: up to 512 whole records, ended by KIND 0. -/
def Work.bindings (w : Work) (n : Nat) : List Binding :=
  (((List.range (Nat.min 512 ((w.region n 4).2 / 16))).map (fun i => w.binding n i))).takeWhile (fun b => b.kind != 0)

/-- The bytes a binding's value takes: one for a bit, else 1, 2 or 4. -/
def Binding.bytes (b : Binding) : Nat := if b.enc % 4 ≤ 1 then 1 else if b.enc % 4 = 2 then 2 else 4

/-- The value a binding takes from delivered bytes, and whether its quality is bad; none where its source range runs
past them (R157). -/
def Binding.take (b : Binding) (data : List Byte) : Option (Nat × Bool) :=
  let qual := bitOf b.enc 6
  let qoff := b.offset + b.qual / 8
  if data.length < b.offset + b.bytes ∨ (qual ∧ data.length ≤ qoff) then none
  else
    let raw := takeAt data b.offset b.bytes
    let v := if b.enc % 4 = 0 then (bitOf (leVal raw) (bitsOf b.enc 5 3)).toNat
      else if bitOf b.enc 2 then beVal raw else leVal raw
    some (v, qual && !bitOf (byteAt data qoff) (b.qual % 8))

/-- The level a dim-group target takes from its value (R184). -/
def Binding.level (b : Binding) (v : Nat) : Nat :=
  match b.enc % 4 with
  | 0 => if v = 0 then 0 else 65535
  | 1 => 257 * v
  | 2 => v
  | _ => Nat.min v 65535

/-! ### Drawing a delivery (R159) -/

/-- What drawing a delivery has come to so far. -/
structure Draw where
  disp : List DispWrite
  alerts : List (Nat × Bool)
  dims : List (Nat × Nat)
  lamps : List (Nat × Nat)
deriving DecidableEq, Repr

/-- One target of an area's delivery (R157). -/
def Work.drawTarget (w : Work) (n : Nat) (d : Draw) (b : Binding) (data : List Byte) : Work × Draw :=
  match b.take data with
  | none => (w.raise F.MASH_ERR_SRC_RANGE n, d)
  | some (v, bad) =>
    match b.target with
    | 0 =>
      let (ws, miss) := w.drawField n b.index v bad
      (if miss then w.raise F.MASH_ERR_SRC_RANGE n else w, { d with disp := d.disp ++ ws })
    | 1 =>
      if bad then (w.raise F.MASH_ERR_BAD_SKIP n, d)
      else (w, { d with disp := d.disp ++ (List.range b.count).map (fun i => DispWrite.elem (b.index + i) (bitOf v i)) })
    | 2 =>
      if bad then (w.raise F.BLINK_ERR_COND_BAD n, d) else (w, { d with alerts := d.alerts ++ [(b.index, decide (v ≠ 0))] })
    | 3 =>
      if bad then (w.raise F.MASH_ERR_BAD_SKIP n, d) else (w, { d with dims := d.dims ++ [(b.index % 16, b.level v)] })
    | 4 =>
      if bad then (w.raise F.MASH_ERR_BAD_SKIP n, d) else (w, { d with lamps := d.lamps ++ [(b.index % 32, b.level v)] })
    | _ => (w, d)

/-- A binding takes from this arrival (R157). -/
def Binding.fits (b : Binding) (kind engine set : Nat) : Bool :=
  b.kind == kind && (kind != 1 || b.engine == engine) && (kind == 3 || b.set == set)

/-- A delivery drawn into staging (R159). -/
def Work.drawBody (w : Work) (n : Nat) (body : DelivBody) : Work × Draw :=
  match body with
  | .fields es =>
    es.foldl (fun p e =>
      let (ws, miss) := p.1.drawField n e.1 e.2.2 e.2.1
      (if miss then p.1.raise F.MASH_ERR_SRC_RANGE n else p.1, { p.2 with disp := p.2.disp ++ ws })) (w, ⟨[], [], [], []⟩)
  | .segs ps =>
    (w, { disp := (ps.map (fun p => ((List.range 32).filter (fun i => bitOf p.2.1 i)).map (fun i =>
            DispWrite.elem (32 * p.1 + i) (bitOf p.2.2 i)))).flatten, alerts := [], dims := [], lamps := [] })
  | .plane es =>
    let own := es.any (fun e => w.owned n e.1)
    (if own then w.raise F.MASH_ERR_OWNED n else w,
      ⟨(es.filter (fun e => !w.owned n e.1)).map (fun e => DispWrite.elem e.1 e.2), [], [], []⟩)
  | .area kind engine set data =>
    if !w.flag F.MASH_CFG_BIND_EN n ∨ (w.chan n).standby then (w, ⟨[], [], [], []⟩)
    else ((w.bindings n).filter (fun b => b.fits kind engine set)).foldl
      (fun p b => p.1.drawTarget n p.2 b data) (w, ⟨[], [], [], []⟩)

/-- A delivery is a display command's, or that of an emulated plane, which is applied as a SEG_WRITE (R163, R311, R313); any
other comes from a network, the fabric or the host area. -/
def Delivery.isCommand (d : Delivery) : Bool :=
  d.who.isSome || (match d.body with | .plane _ => true | _ => false)

/-- The delivery that the Mash draws next. While an IMAGE_SWAP waits, deliveries of networks wait in the queue; a display
command in it was accepted before the IMAGE_SWAP and goes with the swap (R164, R165; log entry 82). -/
def Mash.nextDraw (m : Mash) (swap : Bool) : Option Nat :=
  (List.range m.queue.length).find? (fun i => !swap || (m.queue[i]?.map (·.isCommand)).getD false)

/-- MASH_DELIVERY: a delivery of the input queue is drawn into staging, the oldest first. -/
def mashDelivery (w : Work) (n : Nat) : Work :=
  let m := (w.chan n).mash
  match m.drawn, m.nextDraw (w.chan n).swapPending with
  | none, some i =>
    match m.queue[i]? with
    | some d =>
      if w.mashIsolated n then w
      else
        let (w, x) := w.drawBody n d.body
        w.modMash n (fun m => { m with queue := m.queue.eraseIdx i, drawn := some ⟨d, x.disp, x.alerts, x.dims, x.lamps⟩ })
    | none => w
  | _, _ => w

/-- MASH_DELIVERY. -/
def execMashDelivery (ch : Fin 8) (s : State) : Host.Outcome State Fault Refusal :=
  .next (s.run (fun w => mashDelivery w ch))

/-- MASH_QUEUE_ENTER: the delivery that has waited longest enters the queue where there is room (R161). -/
def mashQueueEnter (w : Work) (n : Nat) : Work :=
  let m := (w.chan n).mash
  match m.waiting with
  | d :: rest => if m.queue.length < 256 then w.modMash n (fun m => { m with queue := m.queue ++ [d], waiting := rest }) else w
  | [] => w

/-- MASH_QUEUE_ENTER. -/
def execMashQueueEnter (ch : Fin 8) (s : State) : Host.Outcome State Fault Refusal :=
  .next (s.run (fun w => mashQueueEnter w ch))

/-- The display writes of a change streamed to the standby (R361). -/
def Work.pairDisp (w : Work) (n : Nat) (due : Option Nat) (ws : List DispWrite) : Work :=
  ws.foldl (fun w d =>
    match d with
    | .elem e on => w.pairCommit n ⟨.elem e on, due⟩
    | .value f v bad => w.pairCommit n ⟨.value f v bad, due⟩) w

/-- The changes that a drawn delivery makes. -/
def Draw.changes (x : Draw) : List Chg :=
  (if x.disp.isEmpty then [] else [Chg.disp x.disp]) ++ x.alerts.map (fun p => Chg.alertCond p.1 p.2) ++
    x.lamps.map (fun p => Chg.lamp p.1 p.2)

/-- The delivery committed when it was accepted: it carried a stamp, be it of the current tick or a past one (R160). -/
def Delivery.stamped (d : Delivery) : Bool := d.due.isSome || d.late

/-- MASH_BURST_COMMIT (R159): the staged results are written in one burst, which commits the delivery and completes
the command that carried it. A stamped delivery committed when it was accepted (R160). A network's display write that
would commit between an IMAGE_SWAP and its boundary goes back to the queue (R164). DELIVERIES counts a delivery that
BIND_EN or a standby let write nothing too (log entry 89). -/
def mashBurstCommit (w : Work) (n : Nat) : Work :=
  match (w.chan n).mash.drawn with
  | none => w
  | some x =>
    let d := x.deliv
    let held := w.held n
    if held ∧ (w.chan n).swapPending ∧ !d.isCommand ∧ !x.disp.isEmpty then
      w.modMash n (fun m => { m with drawn := none, queue := d :: m.queue })
    else
    let cut := (w.chan n).cutPassed
    let ord := if d.stamped then d.ord else w.ordNow n
    let applies := w.appliesFrom n ord d.due
    let late := d.ord.isNone || cut
    let draw : Draw := ⟨x.disp, x.alerts, x.dims, x.lamps⟩
    let w := w.modMash n (fun m =>
      let m := { m with drawn := none }
      if d.stamped then m else m.commit w.tick ord none false draw.changes)
    let w := if held ∨ (d.due.isNone ∧ beforeCut (w.chan n).seq.guardOrd ord) then
        x.disp.foldl (fun w y => w.writeDisp (w.backImage n) none y) w else w
    let w := if d.stamped then w else w.pairDisp n d.due x.disp
    let w := x.alerts.foldl (fun w p => w.pairCommit n ⟨.alertCond (w.alertDef n p.1).id p.2, d.due⟩) w
    let w := x.lamps.foldl (fun w p => w.pairCommit n ⟨.lamp (w.fnDef n p.1).id p.2, d.due⟩) w
    let w := x.dims.foldl (fun w p =>
      if (w.heldDim p.1).level = p.2 then w else (w.issueDim p.1 p.2 w.dimLead w.dimCut false).1) w
    let w := (w.countUp F.MASH_CNT_DELIVERIES n).ev 0x18 n
    let w := if late then ((w.countUp F.MASH_CNT_LATE_DELIV n).raise F.MASH_ERR_LATE n).ev 0x19 n else w
    match d.who with
    | some o => w.finish o stOk (leBytes 4 (if held then 0xFFFFFFFF else applies))
    | none => w

/-! ### Handing a delivery to the Mash (R161, R162 to R164) -/

/-- The source holds its delivery while the input queue is full (R161). -/
def Work.deliver (w : Work) (n : Nat) (d : Delivery) : Work :=
  let m := (w.chan n).mash
  if 256 ≤ m.queue.length ∨ !m.waiting.isEmpty then
    (w.raise F.MASH_ERR_QFULL n).modMash n (fun m => { m with waiting := m.waiting ++ [d] })
  else w.modMash n (fun m => { m with queue := m.queue ++ [d] })

/-- A delivery from a network, the fabric or an emulated register set, without a command to answer (R157, R159). A
binding whose channel is isolated writes nothing, and its wrapper counts the request (R10, R397). -/
def Work.deliverBody (w : Work) (n : Nat) (body : DelivBody) (src : Origin) : Work :=
  if w.mashIsolated n then w.countIso n
  else w.deliver n { body := body, src := src, who := none, ord := w.ordNow n, due := none, late := false }

/-- A display command's delivery accepted: it stays in flight until its burst. A stamped one commits here (R160, R162,
R165). -/
def Work.acceptDelivery (w : Work) (n : Nat) (o : Origin) (body : DelivBody) (stamp : Option Nat) : Work × Reply :=
  let (due, late) := if w.held n then (none, false) else w.judgeStamp stamp
  let m := (w.chan n).mash
  if (w.chan n).swapPending then (w.raise F.MASH_ERR_HELD_BUSY n).reply stBusy
  else if 256 ≤ m.queue.length then w.reply stBusy
  else if w.stampedFull n due then w.reply stBusy
  else
    let d : Delivery := { body := body, src := o, who := some o, ord := w.ordNow n, due := due, late := late }
    let x := (w.drawBody n body).2
    let w := w.modMash n (fun m => { m with queue := m.queue ++ [d] })
    if d.stamped then
      ((w.modMash n (fun m => m.commit w.tick (w.ordNow n) due late x.changes)).pairDisp n due x.disp, .waits)
    else (w, .waits)

/-- The entries of a FIELD_SET payload: field, bad quality, VALUE. -/
def fieldEntries (pl : List Byte) (k : Nat) : List (Nat × Bool × Nat) :=
  (List.range k).map (fun i => (byteAt pl (8 + 8 * i), bitOf (byteAt pl (9 + 8 * i)) 0, wordAt pl (12 + 8 * i)))

/-- FIELD_SET (R162). -/
def fieldSetOp (w : Work) (o : Origin) (pl : List Byte) : Work × Reply :=
  let n := byteAt pl 0
  let k := byteAt pl 1
  if k < 1 ∨ 32 < k ∨ pl.length ≠ 8 + 8 * k ∨ halfAt pl 2 / 2 ≠ 0 ∨
      (List.range k).any (fun i => byteAt pl (9 + 8 * i) / 2 != 0 || halfAt pl (10 + 8 * i) != 0) then w.reply stArg
  else match w.displayCheck n with
  | some st => w.refuseDisplay n st
  | none =>
    let es := fieldEntries pl k
    if es.any (fun e => (w.fieldDef n e.1).isNone) then w.reply stArg
    else w.acceptDelivery n o (.fields es) (if bitOf (halfAt pl 2) 0 then some (wordAt pl 4) else none)

/-- The pairs of a SEG_WRITE payload: word, MASK, VALUE. -/
def segPairs (pl : List Byte) : List (Nat × Nat × Nat) :=
  (List.range ((pl.length - 8) / 8)).map (fun i => (halfAt pl 2 + i, wordAt pl (8 + 8 * i), wordAt pl (12 + 8 * i)))

/-- SEG_WRITE (R163). -/
def segWriteOp (w : Work) (o : Origin) (pl : List Byte) : Work × Reply :=
  let n := byteAt pl 0
  let ps := segPairs pl
  if pl.length < 16 ∨ 8 + 8 * 32 < pl.length ∨ pl.length % 8 ≠ 0 ∨ byteAt pl 1 / 2 ≠ 0 then w.reply stArg
  else match w.displayCheck n with
  | some st => w.refuseDisplay n st
  | none =>
    if ps.any (fun p => decide (p.1 < 32) && decide (p.2.1 &&& w.get F.MASH_OWN_OWNED n p.1 ≠ 0)) then
      (w.raise F.MASH_ERR_OWNED n).reply stArg
    else if 31 < halfAt pl 2 ∨ ps.any (fun p => decide (31 < p.1)) then w.reply stArg
    else w.acceptDelivery n o (.segs ps) (if bitOf (byteAt pl 1) 0 then some (wordAt pl 4) else none)

/-- IMAGE_SWAP (R164): the named channels swap together; where the cut-off of one of them has passed, all of them take
the boundary after it (log entry 14), and the standby hears that boundary with the swap (R361). A mask of 0 swaps nothing
and answers OK (log entry 82). -/
def imageSwapOp (w : Work) (pl : List Byte) : Work × Reply :=
  let chs := maskList (byteAt pl 0) 8
  let (due, late) := w.judgeStamp (if bitOf (byteAt pl 1) 0 then some (wordAt pl 4) else none)
  if pl.length ≠ 8 ∨ byteAt pl 1 / 2 ≠ 0 ∨ halfAt pl 2 ≠ 0 then w.reply stArg
  else match chs.findSome? (fun n => (w.displayCheck n).map (fun st => (n, st))) with
  | some (n, st) => w.refuseDisplay n st
  | none =>
    if chs.any (fun n => !w.held n) then w.reply stState
    else if chs.any (fun n => (w.chan n).swapPending || w.stampedFull n due) then w.reply stBusy
    else
      let cut := chs.any (fun n => (w.chan n).cutPassed)
      let soonest := if cut then w.nextTick + 1 else w.nextTick
      let t := match due with | none => soonest | some d => Nat.max d soonest
      let w := chs.foldl (fun w n =>
        let w := w.modMash n (fun m =>
          { m.commit w.tick (if cut then some afterCut else w.ordNow n) due late [.swap] with swapMask := byteAt pl 0 })
        w.pairCommit n ⟨.swap, if cut then some (t % 2 ^ 32) else due⟩) w
      w.reply stOk (leBytes 4 t)

/-! ### Changes falling due (R13, R139, R140) -/

/-- The display writes that fall due: in AUTO, those of the due changes; in HELD, all that were committed, once an
IMAGE_SWAP falls due. -/
def dueDisp (held : Bool) (changes due : List Change) : Option (List DispWrite) :=
  let of := fun (cs : List Change) => (cs.map (fun c => match c.what with | .disp ws => ws | _ => [])).flatten
  if held then (if due.any (fun c => decide (c.what = .swap)) then some (of changes) else none)
  else if due.any (fun c => match c.what with | .disp _ => true | .swap => true | _ => false) then some (of due)
  else none

/-- The changes that stay pending after a boundary at which `due` took effect. -/
def keepChanges (held : Bool) (changes due : List Change) : List Change :=
  let swap := due.any (fun c => decide (c.what = .swap))
  changes.filter (fun c =>
    match c.what with
    | .disp _ => if held then !swap else !due.contains c
    | _ => !due.contains c)

/-- A swap of channel `n` committed too late for the boundary that begins tick `t'`, which its stamp lets it have. -/
def Work.swapMissed (w : Work) (n t' : Nat) : Bool :=
  (w.chan n).mash.changes.any (fun c => decide (c.what = .swap) && !beforeCut (w.chan n).seq.guardOrd c.ord &&
    (match c.due with | none => true | some d => stampReached d t'))

/-- The channels of one IMAGE_SWAP swap together (R164): where one of them has missed this boundary, whose cut-off a tick
without a GUARD slot only shows at its end (R41), the others wait with it. -/
def Work.alignSwaps (w : Work) (t' : Nat) : Work :=
  let missed := (List.range 8).filter (fun n => w.swapMissed n t')
  w.eachChan (fun w n =>
    if missed.any (fun k => bitOf (w.chan k).mash.swapMask n) then
      w.modMash n (fun m => { m with changes := m.changes.map (fun c => if c.what = .swap then { c with ord := some afterCut } else c) })
    else w)

/-- The display commands accepted before an IMAGE_SWAP that falls due go with it: those that have not had their burst have
it now (R159, R164, R165). -/
def Work.flushDisplay (w : Work) (n : Nat) : Work :=
  (List.range ((w.chan n).mash.queue.length + 1)).foldl (fun w _ =>
    mashDelivery (if (w.chan n).mash.drawn.any (fun x => x.deliv.isCommand) then mashBurstCommit w n else w) n) w

/-- CHANGE_APPLY and STAMPED_CHANGE_APPLY for a channel's registers, alerts, lamps and display (R13, R14): everything
due at the boundary that begins tick `t'`. A lamp function's written level shows in LAMP_DEM (R236). At a start after an image
activation, `start`, the ages of the fields begin at this boundary (R156). -/
def Work.applyChanges (w : Work) (n t' : Nat) (start : Bool) : Work :=
  let held := w.held n
  let isDue := fun (x : Change) => x.isDue (w.chan n).seq.guardOrd t'
  let w := if held ∧ (w.chan n).mash.changes.any (fun x => decide (x.what = .swap) && isDue x) then w.flushDisplay n else w
  let c := w.chan n
  let due := c.mash.changes.filter isDue
  let ws := dueDisp held c.mash.changes due
  let w := w.ev 0x17 n (due.filter (fun x => x.late)).length
  let w := w.modMash n (fun m => { m with changes := keepChanges held m.changes due })
  let w := due.foldl (fun w x =>
    match x.what with
    | .reg a v => w.enforce n a v
    | .lamp f l =>
      let w := if f < 32 then w.put F.LAMP_DEM_LEVEL l n f else w
      w.modChan n (fun c => { c with lamp := { c.lamp with level := tabInsert c.lamp.level f l } })
    | _ => w) w
  let w := if c.blockHeld 10 then w else w.alertUpdate n due
  let w := match ws with
    | some ws => w.bufferSwap n t' ws
    | none => w
  let written := ((ws.getD []).filterMap DispWrite.field?).map (·.1)
  (if start then w else w.ageFields n written).showMash n

end Sys2Proof.Machine
end

