-- ==== Sys2Proof/Machine/Plan.lean ====
section
/-! DEFINITION. Line roles, slot plans and their checks (02_lines_and_slots.md, R29 to R37 and the plan rules of the
other chapters), and the fit of Tap frames in the tick (R263). -/

namespace Sys2Proof.Machine

/-! ### Slot entries and roles -/

/-- Slot kind codes (SEQ_SLOT.KIND): DISPLAY. -/
def kDisplay : Nat := 0
/-- KEY. -/
def kKey : Nat := 1
/-- MIRROR. -/
def kMirror : Nat := 2
/-- DIAG. -/
def kDiag : Nat := 3
/-- QUIET. -/
def kQuiet : Nat := 4
/-- GUARD. -/
def kGuard : Nat := 5

/-- The kind of a slot entry. -/
def slotKind (x : Nat) : Nat := bitsOf x 2 0
/-- Its duration in channel-clock cycles. -/
def slotDur (x : Nat) : Nat := bitsOf x 23 4
/-- Its line groups g. -/
def slotG (x : Nat) : Nat := bitsOf x 26 24
/-- Its lamp windows L. -/
def slotL (x : Nat) : Nat := bitsOf x 27 27

/-- The role code of a role word (R29): 1 COM, 2 SEG, 3 KHEAD, 4 KFOOT, 5 PSQ, 6 GPIO. -/
def roleCode (x : Nat) : Nat := bitsOf x 2 0
/-- The index of a role word. -/
def roleIdx (x : Nat) : Nat := bitsOf x 13 8
/-- KDRIVE of a role word. -/
def roleKd (x : Nat) : Bool := bitOf x 3
/-- KDRIVE_IDX of a role word. -/
def roleKdIdx (x : Nat) : Nat := bitsOf x 6 4

/-- Lines with their role words. -/
def PlanSet.lines (p : PlanSet) : List (Nat × Nat) := (List.range 80).map (fun m => (m, p.roles.getD m 0))

/-- The lines of one role: line and index, by line. -/
def PlanSet.ofRole (p : PlanSet) (code : Nat) : List (Nat × Nat) :=
  (p.lines.filter (fun x => roleCode x.2 == code)).map (fun x => (x.1, roleIdx x.2))

/-- COM lines: line and COM index. -/
def PlanSet.coms (p : PlanSet) : List (Nat × Nat) := p.ofRole 1
/-- SEG lines: line and SEG index. -/
def PlanSet.segs (p : PlanSet) : List (Nat × Nat) := p.ofRole 2
/-- Ladders fitted: the indices of the KHEAD lines. -/
def PlanSet.ladders (p : PlanSet) : List Nat := (p.ofRole 3).map (·.2)
/-- Key drive lines: line and drive index. -/
def PlanSet.drives (p : PlanSet) : List (Nat × Nat) :=
  (p.lines.filter (fun x => roleKd x.2)).map (fun x => (x.1, roleKdIdx x.2))

/-- The line of an index in a list of lines. -/
def lineOf (l : List (Nat × Nat)) (i : Nat) : Option Nat := (l.find? (fun x => x.2 == i)).map (·.1)

/-- Drive is LCD. -/
def PlanSet.isLcd (p : PlanSet) : Bool := p.cfg % 2 == 0
/-- C: LCD commons, or LED digits. -/
def PlanSet.commons (p : PlanSet) : Nat := bitsOf p.cfg 4 1 + 1
/-- The bias denominator a; 1 for static drive (R75). -/
def PlanSet.a (p : PlanSet) : Nat := p.bias + 1
/-- The slots of one kind. -/
def PlanSet.kind (p : PlanSet) (k : Nat) : List Nat := p.slots.filter (fun x => slotKind x == k)
/-- DISPLAY slots a tick: D. -/
def PlanSet.d (p : PlanSet) : Nat := (p.kind kDisplay).length
/-- The planned duration of every DISPLAY slot (R34). -/
def PlanSet.dispDur (p : PlanSet) : Nat := slotDur ((p.kind kDisplay).headD 0)
/-- The DIAG slot. -/
def PlanSet.diag (p : PlanSet) : Option Nat := (p.kind kDiag).head?
/-- The line groups g of the DIAG slot (R34). -/
def PlanSet.diagG (p : PlanSet) : Nat := (p.diag.map slotG).getD 0
/-- The planned GUARD. -/
def PlanSet.guard (p : PlanSet) : Nat := slotDur ((p.kind kGuard).headD 0)
/-- The sum of the planned durations. -/
def PlanSet.total (p : PlanSet) : Nat := (p.slots.map slotDur).sum

/-- A list is 0 up to its length in some order, each once: unique and running from 0 (R30). -/
def runsFrom0 (l : List Nat) : Bool := (List.range l.length).all (fun i => l.contains i)

/-- No number stands twice in a list. -/
def noRepeat : List Nat → Bool
  | [] => true
  | x :: xs => !xs.contains x && noRepeat xs

/-- The role limits of R30, and of R271 for the pins of the engines. -/
def PlanSet.rolesOk (p : PlanSet) : Bool :=
  let coms := p.coms.map (·.2)
  let segs := p.segs.map (·.2)
  let heads := (p.ofRole 3).map (·.2)
  let feet := (p.ofRole 4).map (·.2)
  let kd := p.drives.map (·.2)
  let home := if p.isLcd then 1 else 2
  decide (coms.length ≤ 16) && runsFrom0 coms && decide (segs.length ≤ 64) && noRepeat segs &&
    decide (heads.length ≤ 8) && noRepeat heads && noRepeat feet && decide (heads.length = feet.length) &&
    heads.all (fun i => feet.contains i && decide (i < 8)) &&
    decide (kd.length ≤ 8) && runsFrom0 kd &&
    (p.lines.filter (fun x => roleKd x.2)).all (fun x => roleCode x.2 == home) &&
    (kd.isEmpty || !heads.isEmpty) && noRepeat ((p.ofRole 5).map (·.2))

/-! ### The plan fit -/

/-- The enables that a plan is checked against beside its own: GRIST EN, CONT_EN, LAMP EN (R34, R35), and the
ends of the windows of the channel's TICK_SYNC engines in µs (R289). -/
structure PlanEn where
  grist : Bool
  cont : Bool
  lamp : Bool
  winEnds : List Nat
deriving DecidableEq, Repr

/-- The duration and the groups of one slot entry (R34). -/
def PlanSet.slotOk (p : PlanSet) (x : Nat) : Bool :=
  match slotKind x with
  | 0 => decide (2000 ≤ slotDur x) && decide (slotDur x ≤ 400000) && decide (slotDur x = p.dispDur)
  | 1 => decide (slotDur x = 200 * (2 * p.settle + 10))
  | 2 => p.isLcd
  | 3 => decide (slotDur x = 520 + 920 * slotL x + 640 * slotG x) && decide (slotG x ≤ 5) &&
      decide (1 ≤ slotL x + slotG x)
  | 4 => decide (200 ≤ slotDur x) && decide (slotDur x ≤ 800000)
  | 5 => decide (400 ≤ slotDur x)
  | _ => false

/-- In LCD mode every KEY has its MIRROR directly after it, of its duration, and no other MIRROR stands (R34). -/
def mirrorsOk : List Nat → Bool
  | [] => true
  | [x] => slotKind x != kKey && slotKind x != kMirror
  | x :: y :: r =>
    if slotKind x = kKey then slotKind y == kMirror && slotDur x == slotDur y && mirrorsOk r
    else slotKind x != kMirror && mirrorsOk (y :: r)

/-- The slot directly before the DIAG slot is a MIRROR (R123). -/
def diagAfterMirror : List Nat → Bool
  | x :: y :: r => (slotKind x == kMirror && slotKind y == kDiag) || diagAfterMirror (y :: r)
  | _ => false

/-- The SEG lines under the dark check: those that are not lent (R33, R120). -/
def PlanSet.darkSegs (p : PlanSet) : List (Nat × Nat) := p.segs.filter (fun x => !p.drives.any (fun d => d.1 == x.1))

/-- The largest number of SEG lines that a pattern of R120 raises (R121). -/
def PlanSet.maxRaised (p : PlanSet) : Nat :=
  ((List.range 12).map (fun k =>
    (p.darkSegs.filter (fun x => bitOf x.2 (k % 6) == decide (k < 6))).length)).foldl Nat.max 0

/-- The planned start of the GUARD slot, in cycles. -/
def PlanSet.guardStart (p : PlanSet) : Nat := p.total - p.guard

/-- R34, R35, R75, R100, R121, R123, R207, R241, R289 and the register text of GRIST_CFG: whether a plan fits a tick
of `per` µs. -/
def PlanSet.fits (p : PlanSet) (per : Nat) (en : PlanEn) : Bool :=
  let len := bitsOf p.cfg 14 8
  let ladder := !p.ladders.isEmpty
  let keys := (p.kind kKey).length
  let diag := p.diag
  let g := p.diagG
  let l := (diag.map slotL).getD 0
  let cont := en.cont && ladder
  decide (len ≤ 64) && p.slots.all p.slotOk && decide (p.total ≤ per * 200) &&
    decide ((p.kind kGuard).length = 1) && (p.slots.getLast?.map slotKind == some kGuard) &&
    decide ((p.kind kDiag).length ≤ 1) &&
    (if ladder && en.grist then keys == p.steps + 1 else keys == 0 || keys == p.steps + 1) &&
    (if p.isLcd then
      mirrorsOk p.slots && decide (1 ≤ p.d) && (2 * p.commons % p.d == 0) &&
        decide (30 * 2 * p.commons * per ≤ 1000000 * p.d) && decide (1000000 * p.d ≤ 500 * 2 * p.commons * per) &&
        (decide (p.commons = 1) == decide (p.bias = 0)) && decide (p.bias ≤ 4) &&
        (!p.lcdEn || (diag.isSome && (diagAfterMirror p.slots || [0, 2, 4].contains p.bias)))
    else
      (p.d == p.commons) && decide (2 * p.dead + 2 * p.rise + 4096 ≤ p.dispDur) &&
        (!p.darkEn || (diag.isSome && decide ((p.maxRaised + 15) / 16 ≤ g)))) &&
    (!en.lamp || l == 1) &&
    (!cont || (diag.isSome && (if l = 1 then decide (3 ≤ g) else decide (5 ≤ g)))) &&
    en.winEnds.all (fun e => decide (e * 200 ≤ p.guardStart))

/-- NONDISP_FRAC of a plan at a tick of `per` µs (R37). -/
def PlanSet.frac (p : PlanSet) (per : Nat) : Nat :=
  let non := (p.slots.map (fun x => if slotKind x = kDisplay then 0 else slotDur x)).sum
  Nat.min 65535 (divRound (non * 65536) (per * 200))

/-- The shadow plan, the shadow roles, and the fields that a commit adopts with them (R31, R48, R75, R100, GRIST_CFG,
INTEG_CFG). -/
def Work.shadowPlan (w : Work) (n : Nat) : PlanSet where
  cfg := w.get R.SEQ_CFG n
  slots := (List.range (Nat.min 64 (w.get F.SEQ_CFG_PLAN_LEN n))).map (fun k => w.get R.SEQ_SLOT n k)
  roles := (List.range 80).map (fun m => w.get R.LINE_ROLE n m)
  bias := w.get F.KILN_CFG_BIAS n
  inv := w.flag F.KILN_CFG_INV n
  dead := w.get F.LED_CFG_DEAD n
  rise := w.get F.LED_CFG_RISE n
  settle := w.get F.GRIST_CFG_SETTLE_US n
  steps := w.get F.GRIST_CFG_STEPS n
  darkEn := w.flag F.INTEG_CFG_LED_DARK_EN n
  lcdEn := w.flag F.INTEG_CFG_LCD_EN n

/-- The enables a plan is checked against. -/
def Work.planEn (w : Work) (n : Nat) : PlanEn where
  grist := w.flag F.GRIST_CFG_EN n
  cont := w.flag F.GRIST_CFG_CONT_EN n
  lamp := w.flag F.LAMP_CFG_EN n
  winEnds := ((List.range 4).filter (fun e => w.flag F.PSQ_SHCFG_TICK_SYNC n e)).map (fun e => w.get F.PSQ_WIN_WIN_END n e)

/-- The tick period from the next boundary on. -/
def Work.nextPeriod (w : Work) : Nat := match w.lock.cfgPend with | some v => bitsOf v 11 0 | none => w.periodUs

/-- A plan passes its checks at the period of the boundary that would adopt it (R28, R30, R35, R47). -/
def Work.planOk (w : Work) (n : Nat) (p : PlanSet) : Bool := p.rolesOk && p.fits w.nextPeriod (w.planEn n)

/-- A plan adopted: it becomes the active plan, and SEQ_ACT, SEQ_FRAC and LINE_SUM show it (R48). -/
def Work.adoptPlan (w : Work) (n : Nat) (p : PlanSet) : Work :=
  let w := w.modChan n (fun c => { c with seq := { c.seq with act := p, commit := none } })
  let w := (List.range 64).foldl (fun w k => w.setReg (R.SEQ_ACT.addr n k) (p.slots.getD k 0)) w
  let w := w.put F.SEQ_FRAC_NONDISP_FRAC (p.frac w.periodUs) n
  let w := w.put F.LINE_SUM_N_COM p.coms.length n
  let w := w.put F.LINE_SUM_N_SEG p.segs.length n
  let w := w.put F.LINE_SUM_N_LADDER p.ladders.length n
  let w := w.put F.LINE_SUM_N_DRIVE p.drives.length n
  w.putFlag F.LINE_SUM_ROLES_OK p.rolesOk n

/-! ### Tap frames (R263) -/

/-- The frame time of a Tap line in cycles of 5 ns, from its TAP_CFG and TAP_GEN words (R263). -/
def tapFrameTime (cfg gen : Nat) : Nat :=
  let tb := bitsOf cfg 11 3
  let nodes := bitsOf cfg 15 12 + 1
  let latch := bitsOf cfg 23 16
  if bitOf cfg 1 then
    let bits := 8 + 4 * bitsOf gen 19 18
    (2 * bitsOf gen 25 25 + nodes * (bitsOf gen 23 20 + 1) * bits) * tb + 200 * latch
  else (2 + 225 * nodes + (latch - 17)) * tb + 200 * bitsOf cfg 27 24

/-- A line whose words are these fits a tick of `per` µs; a line that is not enabled always does (R263). -/
def tapFits (cfg gen per : Nat) : Bool :=
  !bitOf cfg 0 || decide (200 * 8 + tapFrameTime cfg gen + 200 ≤ 200 * per)

/-- Every Tap line of a channel fits a tick of `per` µs, with the words in force and with those that wait for their
boundaries, whichever of them come into force together (R28). -/
def Work.tapsFit (w : Work) (n per : Nat) : Bool :=
  (List.range 2).all (fun l =>
    (w.regValues n (R.TAP_CFG.addr n l)).all (fun cfg =>
      (w.regValues n (R.TAP_GEN.addr n l)).all (fun gen => tapFits cfg gen per)))

/-- The words `cfg` of a Tap line fit with every word of `gen`, at the period in force and at one that waits for its
boundary (R28, R263). -/
def Work.tapPairsFit (w : Work) (cfg gen : List Nat) : Bool :=
  cfg.all (fun c => gen.all (fun g => tapFits c g w.periodUs && tapFits c g w.nextPeriod))

end Sys2Proof.Machine
end

