-- ==== Sys2Proof/Machine/Kiln.lean ====
section
/-! DEFINITION. The Kiln, the DC ledger and quiescing (04_lcd_kiln_ledger.md). Voltages stand in 10 mV; accounts and
deviations in 1/7,680 of 10 mV times 5 ns. -/

namespace Sys2Proof.Machine

/-- 1 V·µs in the ledger's unit. -/
def vus : Nat := 153600000

/-- The Kiln engine changed. -/
def Work.modKiln (w : Work) (n : Nat) (f : Kiln → Kiln) : Work := w.modChan n (fun c => { c with kiln := f c.kiln })

/-- VLCD in force. -/
def Work.vlcd (w : Work) (n : Nat) : Nat := w.get F.KILN_STAT_VLCD_ACT n

/-- The ledger books on a channel: LCD drive, and READY (R83). -/
def Work.ledgerOn (w : Work) (n : Nat) : Bool := (w.chan n).seq.act.isLcd && w.flag F.KILN_STAT_READY n

/-! ### Levels (R75 to R78) -/

/-- The polarity of a waveform step: negative (R76). -/
def PlanSet.negative (p : PlanSet) (step : Nat) : Bool :=
  let c := p.commons
  if p.inv ∧ p.bias ≠ 0 then (step % c + step / c) % 2 == 1 else step / c % 2 == 1

/-- The waveform step of the first DISPLAY slot of tick `t` (R36). -/
def PlanSet.firstStep (p : PlanSet) (t : Nat) : Nat :=
  if p.d = 0 then 0 else t % (2 * p.commons / p.d) * p.d

/-- A waveform cycle begins at the boundary that begins tick `t` (R36). -/
def PlanSet.cycleStart (p : PlanSet) (t : Nat) : Bool := p.firstStep t == 0

/-- The level index of a COM line in a step (R77). -/
def PlanSet.comLevel (p : PlanSet) (step com : Nat) : Nat :=
  let neg := p.negative step
  if p.bias = 0 then (if neg then 0 else p.a)
  else if step % p.commons = com then (if neg then 0 else p.a)
  else if neg then p.a - 1 else 1

/-- The level index of a SEG line in a step (R77). -/
def PlanSet.segLevel (p : PlanSet) (step : Nat) (on : Bool) : Nat :=
  let neg := p.negative step
  if p.bias = 0 then (if on = neg then p.a else 0)
  else if on then (if neg then p.a else 0)
  else if neg then p.a - 2 else 2

/-- The deviation from VMID of level index `k` at VLCD `v`. -/
def levelDev (v a k : Nat) : Int := (v * (3840 / a) : Nat) * (2 * (k : Int) - a)

/-- The deviation from VMID of a captured code at VLCD `v`: the converter's range is 1.2 V over 4,096 codes. -/
def codeDev (v code : Nat) : Int := 225 * (code : Int) - (3840 * v : Nat)

/-- Every display line and the deviation of its planned level in a step (R77). -/
def Work.planned (w : Work) (n step : Nat) : List (Nat × Int) :=
  let c := w.chan n
  let p := c.seq.act
  let v := w.vlcd n
  p.coms.map (fun x => (x.1, levelDev v p.a (p.comLevel step x.2))) ++
    p.segs.map (fun x => (x.1, levelDev v p.a (p.segLevel step (c.blink.lit.contains (64 * (step % p.commons) + x.2)))))

/-- Every COM and SEG line. -/
def PlanSet.displayLines (p : PlanSet) : List Nat := p.coms.map (·.1) ++ p.segs.map (·.1)

/-! ### Accounts (R86 to R89) -/

/-- The account of a line. -/
def Kiln.accOf (k : Kiln) (m : Nat) : Int := tabGet k.acc 0 m
/-- The residual of a line. -/
def Kiln.resOf (k : Kiln) (m : Nat) : Int := tabGet k.res 0 m

/-- A_HALF in the ledger's unit (R89). -/
def Work.aHalf (w : Work) (n : Nat) : Nat :=
  let p := (w.chan n).seq.act
  w.vlcd n * 3840 * p.commons * p.dispDur

/-- MAX_ABS and MAX_LINE after an account has moved. -/
def Work.noteMax (w : Work) (n m : Nat) (a : Int) : Work :=
  let x := Nat.min (2 ^ 24 - 1) (roundOpen a.natAbs vus).toNat
  if w.get F.KILN_LEDGER_STAT_MAX_ABS n < x then
    (w.put F.KILN_LEDGER_STAT_MAX_ABS x n).put F.KILN_LEDGER_STAT_MAX_LINE m n
  else w

/-- Volt-seconds booked on a line (R86). -/
def Work.book (w : Work) (n m : Nat) (amount : Int) : Work :=
  let a := (w.chan n).kiln.accOf m + amount
  (w.modKiln n (fun k => { k with acc := tabPut k.acc 0 m a })).noteMax n m a

/-- The residual of a line moved by a trim (R88). -/
def Work.moveRes (w : Work) (n m : Nat) (amount : Int) : Work :=
  w.modKiln n (fun k => { k with res := tabPut k.res 0 m (k.resOf m + amount) })

/-- DEADBAND in the ledger's unit. -/
def Work.deadband (w : Work) (n : Nat) : Nat := w.cur F.KILN_LEDGER_CFG_DEADBAND n * vus

/-- The residual of some line exceeds 3,500 V·µs: HIGH is set (R89). -/
def Work.takeHigh (w : Work) (n : Nat) : Work :=
  if (w.chan n).kiln.res.any (fun p => decide (3500 * vus < p.2.natAbs)) then w.raise F.KILN_LEDGER_FLAGS_HIGH n else w

/-- The booking of one line in a DISPLAY slot of `dur` planned cycles: parked (R89), trimmed (R88), or plain. -/
def Work.lineBook (w : Work) (n m : Nat) (dev : Int) (dur : Nat) : LineBook × Bool :=
  let k := (w.chan n).kiln
  let a := k.accOf m
  let a' := a + dev * dur
  let r := k.resOf m
  if w.aHalf n < a'.natAbs ∧ a.natAbs < a'.natAbs then (⟨m, 0, 0⟩, true)
  else if w.deadband n < r.natAbs ∧ ((0 < dev ∧ 0 < r) ∨ (dev < 0 ∧ r < 0)) then
    let tm := w.cur F.KILN_LEDGER_CFG_TRIM_MAX n
    let lim := if 3500 * vus < r.natAbs then Nat.min 256 (4 * tm) else tm
    (⟨m, dev, Nat.min (lim * dur / 1024) (r.natAbs / dev.natAbs)⟩, false)
  else (⟨m, dev, 0⟩, false)

/-- LEDGER_TRIM and LEDGER_PARK at the start of a DISPLAY slot (R88, R89). -/
def Work.bookDisplay (w : Work) (n step dur : Nat) : Work :=
  if !w.ledgerOn n then
    w.modKiln n (fun k => { k with book := [], parked := [], lastDev := [] })
  else
    let bs := (w.planned n step).map (fun x => w.lineBook n x.1 x.2 dur)
    let parked := bs.filter (·.2)
    let w := w.takeHigh n
    let w := if parked.isEmpty then w else (w.raise F.KILN_LEDGER_FLAGS_SAT n).ev 0x16 n parked.length
    let w := if bs.any (fun b => decide (0 < b.1.trim)) then w.ev 0x15 n else w
    w.modKiln n (fun k => { k with
      book := bs.map (·.1)
      parked := parked.map (·.1.line)
      lastDev := bs.foldl (fun t b => tabPut t 0 b.1.line b.1.dev) [] })

/-- The bookings of a slot in which the named lines stand at one level throughout. -/
def Work.bookFlat (w : Work) (n : Nat) (lines : List Nat) (dev : Int) : Work :=
  if w.ledgerOn n then
    w.modKiln n (fun k => { k with
      book := lines.map (fun m => ⟨m, dev, 0⟩)
      lastDev := lines.foldl (fun t m => tabPut t 0 m dev) k.lastDev })
  else w.modKiln n (fun k => { k with book := [] })

/-- The lines a KEY slot drives, beside the floating drive lines: every display line but the drives not scanned (R32,
R87); every display line where the slot scans nothing or GRIST is held (R399, R461). -/
def Work.keyDriven (w : Work) (n scanned : Nat) (scans : Bool) : List Nat :=
  let p := (w.chan n).seq.act
  let float := if scans then (p.drives.filter (fun x => x.2 != scanned)).map (·.1) else []
  p.displayLines.filter (fun m => !float.contains m)

/-- The slot in progress booked: it ran `ran` cycles of the `full` it would have run; a trim stands at its start where a
DIAG slot follows, else at its end (R86 to R88). -/
def Work.bookSlot (w : Work) (n full ran : Nat) (first : Bool) : Work :=
  let bs := (w.chan n).kiln.book
  let w := bs.foldl (fun w b =>
    let trimmed := if first then Nat.min b.trim ran else ran - Nat.min ran (full - b.trim)
    let w := if b.dev = 0 ∨ ran = trimmed then w else w.book n b.line (b.dev * (ran - trimmed : Nat))
    if trimmed = 0 then w
    else
      -- a line trimmed at the end of its slot stands at VMID there
      let w := if first then w else w.modKiln n (fun k => { k with lastDev := tabErase k.lastDev b.line })
      w.moveRes n b.line (-(b.dev * (trimmed : Nat)))) w
  w.modKiln n (fun k => { k with book := [] })

/-- RESIDUAL_SET at a boundary at which a waveform cycle begins (R88). -/
def Work.residualSet (w : Work) (n : Nat) : Work := (w.modKiln n (fun k => { k with res := k.acc })).takeHigh n

/-- Accounts and residuals at 0: a restart (R88, R96), or a loss of the ledger (R92). -/
def Work.clearLedger (w : Work) (n : Nat) : Work :=
  w.modKiln n (fun k => { k with acc := [], res := [], book := [], parked := [], lastDev := [] })

/-- KILN_ACC and A_HALF sampled at a boundary (R86, R89). -/
def Work.showLedger (w : Work) (n : Nat) : Work :=
  let p := (w.chan n).seq.act
  let w := (List.range 80).foldl (fun w m =>
    let v := if p.displayLines.contains m then unsigned 24 (roundOpen ((w.chan n).kiln.accOf m) vus) else 0
    w.put F.KILN_ACC_ACC v n m) w
  let w := w.modKiln n (fun k => { k with accAt := k.acc })
  w.put F.KILN_AHALF_A_HALF (if p.isLcd then Nat.min (2 ^ 24 - 1) (roundOpen (w.aHalf n) vus).toNat else 0) n

/-! ### Temperature (R80) -/

/-- The mean of readings in thousandths of a degree (log entry 9: a fraction of a thousandth). -/
def meanOf (l : List Int) : Int := if l.isEmpty then 0 else roundOpen l.sum l.length

/-- A CHn_NTC reading within range (R80). -/
def ntcInRange (mv : Nat) : Bool := decide (50 ≤ mv) && decide (mv ≤ 1750)

/-- The mean taken into T, and TEMP shown. -/
def Work.takeTemp (w : Work) (n : Nat) : Work :=
  let w := w.modKiln n (fun k => { k with tFilt := meanOf k.temps })
  w.put F.KILN_STAT_TEMP (unsigned 8 (roundOpen (w.chan n).kiln.tFilt 1000)) n

/-- A reading of the source in use entered into the mean. -/
def Kiln.enter (k : Kiln) (x : Int) : Kiln := { k with temps := (x :: k.temps).take 64 }

/-- TEMP_SOURCE_READ (R80). While the die sensor stands in for the NTC, `ntcBad` stands at 4. -/
def Work.readTemp (w : Work) (n : Nat) (e : ChEnv) : Work :=
  let k := (w.chan n).kiln
  if w.cur F.KILN_CFG_TEMP_SRC n = 0 then
    let k := if k.onDie ∧ k.ntcBad = 0 then k else { k with onDie := true, temps := [], ntcBad := 0, ntcGood := [], tHold := 0 }
    (w.modKiln n (fun _ => k.enter e.die)).takeTemp n
  else if k.onDie ∧ k.ntcBad = 4 then
    let good := if ntcInRange e.ntcMv then (e.ntc :: k.ntcGood).take 64 else []
    let k : Kiln := { k.enter e.die with ntcGood := good }
    if 0 < k.tHold then w.modKiln n (fun _ => { k with tHold := k.tHold - 1 })
    else (w.modKiln n (fun _ => k)).takeTemp n
  else
    let k := if k.onDie then { k with onDie := false, temps := [], ntcBad := 0 } else k
    if ntcInRange e.ntcMv then (w.modKiln n (fun _ => { k.enter e.ntc with ntcBad := 0 })).takeTemp n
    else w.modKiln n (fun _ => { k with ntcBad := Nat.min 4 (k.ntcBad + 1) })

/-- NTC_FALLBACK (R80): after 4 readings out of range, the Kiln changes to the die sensor. -/
def ntcFallback (w : Work) (n : Nat) : Work :=
  let k := (w.chan n).kiln
  if k.ntcBad = 4 ∧ !k.onDie ∧ w.cur F.KILN_CFG_TEMP_SRC n = 1 then
    (w.modKiln n (fun k => { k with onDie := true, temps := [], ntcGood := [], tHold := 64 })).raise F.KILN_STAT_NTC_FAULT n
  else w

/-- NTC_FALLBACK. -/
def execNtcFallback (ch : Fin 8) (s : State) : Host.Outcome State Fault Refusal :=
  .next (s.run (fun w => ntcFallback w ch))

/-- NTC_RETURN (R80): after 64 readings in range, the Kiln returns to the NTC with the mean of those readings. -/
def ntcReturn (w : Work) (n : Nat) : Work :=
  let k := (w.chan n).kiln
  if k.onDie ∧ k.ntcBad = 4 ∧ k.ntcGood.length = 64 ∧ w.cur F.KILN_CFG_TEMP_SRC n = 1 then
    (w.modKiln n (fun k => { k with onDie := false, temps := k.ntcGood, ntcGood := [], ntcBad := 0, tHold := 0 })).takeTemp n
  else w

/-- NTC_RETURN. -/
def execNtcReturn (ch : Fin 8) (s : State) : Host.Outcome State Fault Refusal :=
  .next (s.run (fun w => ntcReturn w ch))

/-! ### The setpoint (R79, R83) -/

/-- The integer square root of a number below 2 ^ 64. -/
def isqrt (x : Nat) : Nat :=
  (List.range 32).foldr (fun b r => if (r + 2 ^ b) * (r + 2 ^ b) ≤ x then r + 2 ^ b else r) 0

/-- The setpoint ve of R79, steps 1 to 3, in 10 mV: T in thousandths of a degree, T_REF in degrees, `frac` as
NONDISP_FRAC, 0 where equalization is off. -/
def setpoint (vset tc : Nat) (t tRef : Int) (frac : Nat) : Nat :=
  let vt : Int := 20000 * (vset : Int) - tc * (t - 1000 * tRef)
  if vt ≤ 0 then 0
  else (isqrt (4 * vt.natAbs * vt.natAbs * 65536 / ((65536 - frac) * 20000 * 20000)) + 1) / 2

/-- The target ve of R79 for a channel, clamped, and whether the VHV clamp took effect. -/
def Work.target (w : Work) (n : Nat) (vhv : Nat) : Nat × Bool :=
  let frac := if w.curFlag F.KILN_CFG_EQ_EN n then w.get F.SEQ_FRAC_NONDISP_FRAC n else 0
  let ve := setpoint (w.cur F.KILN_VSET_VSET n) (w.cur F.KILN_TC_TC_COEF n) (w.chan n).kiln.tFilt
    (signed 8 (w.cur F.KILN_TC_T_REF n)) frac
  let ve := Nat.min 1600 (Nat.max 250 ve)
  (Nat.min ve (vhv - 150), decide (vhv - 150 < ve))

/-- VLCD set. -/
def Work.setVlcd (w : Work) (n v : Nat) : Work := w.put F.KILN_STAT_VLCD_ACT v n

/-- A value moved toward another by at most `k`. -/
def toward (v t k : Nat) : Nat := if v ≤ t then Nat.min t (v + k) else Nat.max t (v - k)

/-- The Kiln turned cold: VLCD off, READY 0, and the ledger at 0 (R83). -/
def Work.turnCold (w : Work) (n : Nat) : Work :=
  let w := (w.setVlcd n 0).putFlag F.KILN_STAT_READY false n
  (w.modKiln n (fun k => { k with cold := true, ramping := false, target := 0, unsettled := 0 })).clearLedger n

/-- VLCD lies within 1 % of the target. -/
def nearTarget (v t : Nat) : Bool := decide (100 * (v - t) ≤ t) && decide (100 * (t - v) ≤ t)

/-- The Kiln's ramp begins at the channel's release, between two boundaries (R83, R393): warm, with no target yet. While the
Bung holds the channel's pads it stays cold (R414). -/
def Work.rampFromRelease (w : Work) (n : Nat) : Work :=
  if (w.chan n).kiln.cold ∧ !(w.chan n).kiln.faulted ∧ !bitOf (w.get F.PWR_STAT_LATCHED) n then
    w.modKiln n (fun k => { k with cold := false, ramping := true, target := 0 })
  else w

/-- A ramp from cold that goes on in QUIESCED, as under safe start (R17, R83, R393). -/
def Work.rampsQuiesced (w : Work) (n : Nat) : Bool := (w.chan n).kiln.ramping && decide (w.chState n = stQuiesced)

/-- KILN_SETPOINT_UPDATE at a boundary of a running channel, or of a quiesced one whose ramp goes on (R79, R83): a cold Kiln
that is in use is brought up, one that was ramps at 10 V/ms until it is READY, and any other moves by 10 mV. How much of the
ramp of a released channel lies before its first boundary is open (log entry 13). At a restart a warm Kiln whose VLCD is more
than 1 % from its target loses READY (R96). -/
def Work.kilnUpdate (w : Work) (n : Nat) (e : ChEnv) (restart : Bool) : Work :=
  let c := w.chan n
  if !c.seq.act.isLcd ∨ !w.curFlag F.KILN_CFG_EN n ∨ c.kiln.faulted then (if c.kiln.cold then w else w.turnCold n)
  else
    let (t, clamped) := w.target n e.vhv
    let w := if clamped then w.raise F.KILN_STAT_HEADROOM n else w
    let v := w.vlcd n
    let w := w.modKiln n (fun k => { k with cold := false, ramping := k.ramping || k.cold, target := t })
    if c.kiln.cold then w
    else if c.kiln.ramping then
      if c.kiln.target = 0 then let (x, w) := w.fresh 12; w.setVlcd n (Nat.min t (x % (w.periodUs + 1)))
      else w.setVlcd n (toward v t w.periodUs)
    else
      let w := if restart ∧ !nearTarget v t then (w.putFlag F.KILN_STAT_READY false n).clearLedger n else w
      w.setVlcd n (toward v t 1)

/-- Where VLCD can stand in the tick that runs: a ramp moves 10 mV a µs, and one that began at the channel's release began
before the last boundary (R83, R393). -/
def Work.vlcdReach (w : Work) (n : Nat) : Nat :=
  let k := (w.chan n).kiln
  if k.ramping then toward (w.vlcd n) k.target (2 * w.periodUs) else w.vlcd n

/-- KILN_READY (R83): VLCD has been within 1 % of its target for 64 µs. A ramp has ended at the target. -/
def kilnReady (w : Work) (n : Nat) : Work :=
  let c := w.chan n
  let t := c.kiln.target
  if (c.running ∨ w.rampsQuiesced n) ∧ c.seq.act.isLcd ∧ !c.kiln.cold ∧ !w.flag F.KILN_STAT_READY n ∧ t ≠ 0 ∧
      nearTarget (w.vlcdReach n) t then
    let w := if c.kiln.ramping then (w.setVlcd n t).modKiln n (fun k => { k with ramping := false }) else w
    (w.putFlag F.KILN_STAT_READY true n).clearLedger n
  else w

/-- KILN_READY. -/
def execKilnReady (ch : Fin 8) (s : State) : Host.Outcome State Fault Refusal :=
  .next (s.run (fun w => kilnReady w ch))

/-! ### Stopping -/

/-- The plan stops on a channel at once. -/
def Work.stopPlan (w : Work) (n : Nat) : Work :=
  let w := w.modChan n (fun c =>
    { c with running := false, seq := { c.seq with todo := [], cur := none, hold := 0, corr := 0 },
             kiln := { c.kiln with book := [] } })
  (w.put F.SEQ_STAT_KIND kGuard n).putFlag F.SEQ_STAT_RUNNING false n

/-! ### Quiescing (R93, R94) -/

/-- The channel runs its plan: it is running and its quiescing has not begun (R83, R95). -/
def Chan.planRuns (c : Chan) : Bool :=
  c.running && (match c.kiln.quiesce with | .none | .pend => true | _ => false)

/-- Quiescing asked for: it starts at the next boundary. A channel that is not running needs none. -/
def Work.askQuiesce (w : Work) (n : Nat) : Work :=
  let c := w.chan n
  if c.running ∧ c.kiln.quiesce = .none then w.modKiln n (fun k => { k with quiesce := .pend }) else w

/-- What one settle tick can repay (R93). -/
def Work.settleCap (w : Work) (n : Nat) : Nat := w.vlcd n * 3840 * (w.periodUs * 200 - 400)

/-- S: the settle ticks needed (R93). -/
def Work.settleTicks (w : Work) (n : Nat) : Nat :=
  let cap := w.settleCap n
  let db := w.deadband n
  (w.chan n).kiln.acc.foldl (fun s p => Nat.max s (divCeil (p.2.natAbs - db) cap)) 1

/-- The repayment of a settle tick (R93): each account beyond DEADBAND is paid back in whole cycles. -/
def Work.settleTick (w : Work) (n : Nat) : Work :=
  let half := w.vlcd n * 3840
  let db := w.deadband n
  w.modKiln n (fun k => { k with acc := k.acc.foldl (fun t p =>
    if half = 0 ∨ p.2.natAbs ≤ db then t
    else
      let cycles := Nat.min (w.periodUs * 200 - 400) (p.2.natAbs / half)
      tabPut t 0 p.1 (if 0 < p.2 then p.2 - half * cycles else p.2 + half * cycles)) k.acc })

/-- The ladders of a channel that carry a key debounced down, as a mask (R408). -/
def Work.downLadders (w : Work) (n : Nat) : Nat :=
  listMask ((List.range 8).filter (fun l => (w.chan n).grist.down.any (fun k => k / 8 % 8 == l)))

/-- Which ladders carry a key debounced down when the channel begins to quiesce, for an any-key detector that arms later
(R408). -/
def Work.noteDown (w : Work) (n : Nat) : Work :=
  { w with pwr := { w.pwr with downAt := tabPut w.pwr.downAt 0 n (w.downLadders n) } }

/-- The boundary of a quiescing channel: a phase ends and the next begins (R93, R94). A discharge tick whose proof has
not been captured is repeated. -/
def Work.quiesceStep (w : Work) (n : Nat) : Work :=
  let k := (w.chan n).kiln
  match k.quiesce with
  | .none | .done => w
  | .pend =>
    let w := (w.noteDown n).stopPlan n
    let w := w.modChan n (fun c => { c with running := true })
    if (w.chan n).seq.act.isLcd then
      let s := w.settleTicks n
      let w := if 1 < s then w.raise F.KILN_LEDGER_FLAGS_LONG_SETTLE n else w
      w.modKiln n (fun k => { k with quiesce := .settle s })
    else w.modKiln n (fun k => { k with quiesce := .led 2 })
  | .settle left =>
    let w := w.settleTick n
    w.modKiln n (fun k => { k with
      quiesce := if left ≤ 1 then .discharge 0 else .settle (left - 1), proofRun := false, proofFail := [] })
  | .discharge rep =>
    if !k.proofRun then w
    else if k.proofFail ≠ [] ∧ rep < 4 then
      w.modKiln n (fun k => { k with quiesce := .discharge (rep + 1), proofRun := false })
    else w.modKiln n (fun k => { k with quiesce := .done, proofRun := false })
  | .led left => w.modKiln n (fun k => { k with quiesce := if left ≤ 1 then .done else .led (left - 1) })

/-- DISCHARGE_PROOF (R93): the voltages captured, by display line; a line at 50 mV or more fails. -/
def dischargeProof (w : Work) (n : Nat) (mv : List Nat) : Work :=
  match (w.chan n).kiln.quiesce with
  | .discharge _ =>
    let lines := (w.chan n).seq.act.displayLines
    w.modKiln n (fun k => { k with
      proofRun := true
      proofFail := ((lines.zip mv).filter (fun p => decide (50 ≤ p.2))).map (·.1) })
  | _ => w

/-- DISCHARGE_PROOF. -/
def execDischargeProof (ch : Fin 8) (mv : List Nat) (s : State) : Host.Outcome State Fault Refusal :=
  .next (s.run (fun w => dischargeProof w ch mv))

end Sys2Proof.Machine
end

