-- ==== Sys2Proof/Machine/Grist.lean ====
section
/-! DEFINITION. The key scanner: readings, ghosts, debouncing and the continuity test (09_grist_ladders.md). -/

namespace Sys2Proof.Machine

/-- The key scanner changed. -/
def Work.modGrist (w : Work) (n : Nat) (f : Grist → Grist) : Work := w.modChan n (fun c => { c with grist := f c.grist })

/-! ### Steps and windows (R193 to R197) -/

/-- KEY slots of a plan that stand before entry `idx` (R193). -/
def PlanSet.keyIndex (p : PlanSet) (idx : Nat) : Nat := ((p.slots.take idx).filter (fun x => slotKind x == kKey)).length

/-- N_DRIVE. -/
def PlanSet.nDrive (p : PlanSet) : Nat := p.drives.length

/-- The step number of the KEY slot at plan entry `idx` in tick `t` (R193). -/
def PlanSet.stepNo (p : PlanSet) (t idx : Nat) : Nat := t * (p.steps + 1) + p.keyIndex idx

/-- A KEY slot of the channel scans its matrix (R193, R461). -/
def Work.scans (w : Work) (n : Nat) : Bool :=
  let p := (w.chan n).seq.act
  !p.ladders.isEmpty && w.curFlag F.GRIST_CFG_EN n && decide (0 < p.nDrive)

/-- A KEY slot of the channel drives its key step: it scans, and GRIST is not held; a held one leaves lent lines and ladder
ends in their outside-use states (R399). -/
def Work.scansNow (w : Work) (n : Nat) : Bool := w.scans n && !(w.chan n).blockHeld 2

/-- Ladder `l` is in 4-tap mode (R190). -/
def Work.wide (w : Work) (n l : Nat) : Bool := bitOf (w.cur F.GRIST_LADDER_WIDE n) l

/-- Ladder `l` is in single-end mode (R208). -/
def Work.single (w : Work) (n l : Nat) : Bool := bitOf (w.get F.GRIST_LADDER_SINGLE n) l

/-- The class of a ladder end's code: 0 NONE, k window k, 9 OFF (R195). The lowest window stands where margins let two
match. -/
def Work.classOf (w : Work) (n l code : Nat) : Nat :=
  if w.cur F.GRIST_NONE_NONE_CODE n ≤ code then 0
  else
    let wide := w.wide n l
    let lo := if wide then w.cur F.GRIST_WIN_W4_LO n else w.cur F.GRIST_WIN_W_LO n
    let hi := if wide then w.cur F.GRIST_WIN_W4_HI n else w.cur F.GRIST_WIN_W_HI n
    let units := fun k => if wide then 2 * k else k
    match (List.range (if wide then 4 else 8)).find? (fun i =>
      decide ((100 * units (i + 1) - lo) * (4096 - code) ≤ 500 * code) &&
        decide (500 * code ≤ (100 * units (i + 1) + hi) * (4096 - code))) with
    | some i => i + 1
    | none => 9

/-- The tap that a foot window names (R196). -/
def footTap (wide : Bool) (k : Nat) : Nat := if wide then 5 - k else 9 - k

/-- What one ladder reads in a key step: codes, classes, and the taps the ends name, 0 for none. -/
structure LadderRead where
  ladder : Nat
  head : Nat
  foot : Nat
  hc : Nat
  fc : Nat
  p : Nat
  q : Nat
deriving DecidableEq, Repr

/-- A ladder read (R195, R196). -/
def Work.readLadder (w : Work) (n l head foot : Nat) : LadderRead :=
  let hc := w.classOf n l head
  let fc := w.classOf n l foot
  { ladder := l, head := head, foot := foot, hc := hc, fc := fc,
    p := if 1 ≤ hc ∧ hc ≤ 8 then hc else 0, q := if 1 ≤ fc ∧ fc ≤ 8 then footTap (w.wide n l) fc else 0 }

/-- A band: 0 GROUNDED, 1 RELAY, 2 OPEN (R197). -/
def Work.band (w : Work) (n code : Nat) : Nat :=
  if 1200 * code < 4096 * w.cur F.GRIST_RELAY_V_GND n then 0
  else if 1200 * code < 4096 * w.cur F.GRIST_RELAY_V_OPEN n then 1
  else 2

/-- A floating drive in a key step: its codes and its bands by phase (R197). -/
structure DriveRead where
  drive : Nat
  head : Nat
  foot : Nat
  hb : Nat
  fb : Nat
deriving DecidableEq, Repr

/-- The band of the step as a whole (R197). -/
def DriveRead.band (d : DriveRead) : Nat := if d.hb = 1 ∧ d.fb = 1 then 1 else if d.hb = 0 ∨ d.fb = 0 then 0 else 2

/-- The taps that the raw map names on ladder `l` for drive `d`, bit t − 1 for tap t (R196). -/
def Grist.rawOf (g : Grist) (d l : Nat) : Nat := tabGet g.raw 0 (8 * d + l)

/-- The raw map names tap `t` of ladder `l` for drive `d`. -/
def Grist.names (g : Grist) (d l t : Nat) : Bool := bitOf (g.rawOf d l) (t - 1)

/-- Drive `d` is joined to ladder `l`. -/
def Grist.joined (g : Grist) (d l : Nat) : Bool := g.rawOf d l != 0

/-! ### Entries (R209) -/

/-- A ladder entry in the batch of the running tick, stamped with the tick `t` of the step or DIAG slot that caused it. -/
def Work.gristEntryAt (w : Work) (n t kind code : Nat) (fin : Bool) (value : Nat) : Work :=
  w.entryBatch n ⟨3, kind, code, fin.toNat, value, t % 2 ^ 32⟩

/-- A ladder entry that a key step of the running tick causes. -/
def Work.gristEntry (w : Work) (n kind code : Nat) (fin : Bool) (value : Nat) : Work :=
  w.gristEntryAt n w.tick kind code fin value

/-- GRIST_STAT's activity bits. -/
def Work.showGrist (w : Work) (n : Nat) : Work :=
  let g := (w.chan n).grist
  let w := w.putFlag F.GRIST_STAT_SHIFT_ACT (!g.ghosts.isEmpty) n
  let w := w.putFlag F.GRIST_STAT_AMBIG_ACT (!g.ambig.isEmpty) n
  w.putFlag F.GRIST_STAT_SPLIT_ACT (!g.splits.isEmpty) n

/-! ### Shifted ghosts (R198) -/

/-- A reading of the step is a shifted ghost by its own two ends. -/
def LadderRead.shiftedByReading (r : LadderRead) : Bool :=
  r.hc == 9 || r.fc == 9 || (r.p != 0 && r.q != 0 && decide (r.q < r.p))

/-- The relay drives that mark ladder `l` as a shifted ghost: those joined to it, and those joined to no ladder. -/
def Grist.relaysOn (g : Grist) (relays : List Nat) (l : Nat) : List Nat :=
  relays.filter (fun j => g.joined j l || (List.range 8).all (fun x => !g.joined j x))

/-- GHOST_SHIFT: a ladder of drive `d` becomes, or ceases to be, a shifted ghost. Which relay drive an entry names where
several mark the ladder, or none does, the spec does not say. -/
def Work.ghostShift (w : Work) (n d : Nat) (r : LadderRead) (relays : List Nat) : Work :=
  let code := 64 * d + 8 * r.ladder
  let g := (w.chan n).grist
  let marks := g.relaysOn relays r.ladder
  let now := r.shiftedByReading || !marks.isEmpty
  let w := if now then w.raise F.GRIST_ERR_GHOST_SHIFT n else w
  match g.ghosts.find? (fun x => x.code == code) with
  | some x =>
    if now then w
    else (w.modGrist n (fun g => { g with ghosts := g.ghosts.filter (fun y => y.code != code) })).gristEntry n 0x10 code true x.value
  | none =>
    if now then
      let (j, w) := w.pickOpen marks 3
      let v := r.head + 2 ^ 12 * r.foot + 2 ^ 24 * j + 2 ^ 27 * (!marks.isEmpty).toNat
      let w := w.modGrist n (fun g => { g with ghosts := g.ghosts ++ [⟨code, v⟩] })
      let w := w.countUp F.GRIST_CNT_GHOSTS n
      (w.ev 0x1B n).gristEntry n 0x10 code false v
    else w

/-! ### Decoding (R199, R208) -/

/-- One key's observation. -/
inductive Obs where
  | up | down | frozen
deriving DecidableEq, Repr

/-- What tap `t` of a ladder is observed as by a reading that is no shifted ghost (R199; R208 in single-end mode). -/
def LadderRead.obs (r : LadderRead) (single : Bool) (t : Nat) : Obs :=
  if r.p = 0 ∧ r.q = 0 then .up
  else if single then
    if r.p = t ∨ r.q = t then .down
    else if (r.p ≠ 0 ∧ t < r.p) ∨ (r.q ≠ 0 ∧ r.q < t) then .up
    else .frozen
  else if r.p = 0 ∨ r.q = 0 then .frozen
  else if t = r.p ∨ t = r.q then .down
  else if r.p < t ∧ t < r.q then .frozen
  else .up

/-- The taps a reading names, as a mask. -/
def LadderRead.named (r : LadderRead) : Nat :=
  (if r.p = 0 then 0 else 2 ^ (r.p - 1)) ||| (if r.q = 0 then 0 else 2 ^ (r.q - 1))

/-- LADDER_SPLIT: the span of a decoded reading opens or closes (R199). -/
def Work.ladderSplit (w : Work) (n d : Nat) (r : LadderRead) : Work :=
  let code := 64 * d + 8 * r.ladder
  let now := r.p != 0 && r.q != 0 && decide (r.p + 1 < r.q) && !w.single n r.ladder
  let w := if now then w.raise F.GRIST_ERR_LADDER_SPLIT n else w
  match (w.chan n).grist.splits.find? (fun x => x.code == code) with
  | some x =>
    if now then w
    else (w.modGrist n (fun g => { g with splits := g.splits.filter (fun y => y.code != code) })).gristEntry n 0x12 code true x.value
  | none =>
    if now then
      let v := (r.p - 1) + 8 * (r.q - 1)
      let w := w.modGrist n (fun g => { g with splits := g.splits ++ [⟨code, v⟩] })
      (w.ev 0x1D n).gristEntry n 0x12 code false v
    else w

/-- CABLE_BREAK declared for a ladder by a result of tick `t`: single-end mode and its entry (R208, R209). -/
def Work.cableBreak (w : Work) (n t l cause code : Nat) : Work :=
  let v := cause + 2 ^ 12 * code
  let w := w.put F.GRIST_LADDER_SINGLE (setBit (w.get F.GRIST_LADDER_SINGLE n) l true) n
  let w := w.modGrist n (fun g => { g with
    breaks := tabInsert g.breaks l v, oneEnd := tabErase g.oneEnd l, contFail := tabErase g.contFail l,
    contPass := tabErase g.contPass l })
  (w.raise F.GRIST_ERR_CABLE_BREAK n).gristEntryAt n t 0x13 l false v

/-- The end of single-end mode by a result of tick `t` (R208, R209). -/
def Work.cableWhole (w : Work) (n t l : Nat) : Work :=
  let v := tabGet (w.chan n).grist.breaks 0 l
  let w := w.put F.GRIST_LADDER_SINGLE (setBit (w.get F.GRIST_LADDER_SINGLE n) l false) n
  let w := w.modGrist n (fun g => { g with breaks := tabErase g.breaks l, contPass := tabErase g.contPass l })
  w.gristEntryAt n t 0x13 l true v

/-- One-end results counted (R208): any other reading of the ladder that is decoded ends the row. The entry names the last
failing head code: that of a step whose head named no tap, or of a continuity test (R209). -/
def Work.oneEnds (w : Work) (n : Nat) (r : LadderRead) : Work :=
  if w.single n r.ladder then w
  else if (r.p = 0) = (r.q = 0) then w.modGrist n (fun g => { g with oneEnd := tabErase g.oneEnd r.ladder })
  else
    let w := if r.p = 0 then w.modGrist n (fun g => { g with contCode := tabInsert g.contCode r.ladder r.head }) else w
    if 1 ≤ tabGet (w.chan n).grist.oneEnd 0 r.ladder then
      w.cableBreak n w.tick r.ladder 1 (tabGet (w.chan n).grist.contCode 0 r.ladder)
    else w.modGrist n (fun g => { g with oneEnd := tabInsert g.oneEnd r.ladder 1 })

/-! ### Zero-shift candidates (R200, R201) -/

/-- The rectangle of key (d, l, k) through drive j and (x, b) stands in the raw map. -/
def Grist.rectangle (g : Grist) (d l k j x b : Nat) : Bool :=
  g.names d l k && g.names d x b && g.names j l k && g.names j x b

/-- The rectangles by which key (d, l, k) is a candidate in the step: j × 64 + x × 8 + (b − 1). `raw` already holds the
step's own names; a drive is grounded in a phase that named the key. -/
def Grist.candidates (g : Grist) (d : Nat) (r : LadderRead) (k : Nat) (ds : List DriveRead) : List Nat :=
  ((ds.filter (fun j => (r.p == k && j.hb == 0) || (r.q == k && j.fb == 0))).map (fun j =>
    ((List.range 64).filter (fun i => i / 8 != r.ladder && g.rectangle d r.ladder k j.drive (i / 8) (i % 8 + 1))).map
      (fun i => 64 * j.drive + i))).flatten

/-- A key ceases to be AMBIGUOUS once the rectangle has left the raw map. -/
def Work.endAmbig (w : Work) (n d : Nat) : Work :=
  let g := (w.chan n).grist
  let gone := g.ambig.filter (fun x => x.code / 64 == d &&
    !g.rectangle d (x.code / 8 % 8) (x.code % 8 + 1) (bitsOf x.value 2 0) (bitsOf x.value 5 3) (bitsOf x.value 8 6 + 1))
  let w := w.modGrist n (fun g => { g with
    ambig := g.ambig.filter (fun x => !gone.contains x)
    chosen := g.chosen.filter (fun x => x.1 / 64 != d ||
      g.rectangle d (x.1 / 8 % 8) (x.1 % 8 + 1) (x.2 / 64) (x.2 / 8 % 8) (x.2 % 8 + 1)) })
  gone.foldl (fun w x => w.gristEntry n 0x11 x.code true x.value) w

/-- A key becomes AMBIGUOUS through a rectangle, or still is; `other` says that R201 chose the other key. -/
def Work.startAmbig (w : Work) (n key rect : Nat) (other : Bool) : Work :=
  let w := w.raise F.GRIST_ERR_GHOST_AMBIG n
  if (w.chan n).grist.ambig.any (fun x => x.code == key) then w
  else
    let v := rect / 64 % 8 + 8 * (rect / 8 % 8) + 64 * (rect % 8) + 512 * other.toNat
    let w := w.modGrist n (fun g => { g with ambig := g.ambig ++ [⟨key, v⟩] })
    let w := w.countUp F.GRIST_CNT_GHOSTS n
    (w.ev 0x1C n).gristEntry n 0x11 key false v

/-- Ladder `l` carries a key of drive `d` that is debounced down. -/
def Grist.carriesDown (g : Grist) (d l : Nat) : Bool := g.down.any (fun k => k / 8 == 8 * d + l)

/-- The other key of a rectangle of drive `d`. -/
def otherKey (d rect : Nat) : Nat := 64 * d + rect % 64

/-- R201 chooses between key (d, r.ladder, k) and the other key of rectangle `rect`: each is observed DOWN and is the other's
candidate through the same drive, neither is debounced down, that drive was a relay drive in the previous step of `d`
(`before`), and one of the two ladders, not both, carries a key of `d` debounced down. -/
def Work.chooses (w : Work) (n d : Nat) (rs : List LadderRead) (ds : List DriveRead) (before : Nat) (r : LadderRead)
    (k rect : Nat) : Bool :=
  let g := (w.chan n).grist
  let x := rect / 8 % 8
  let b := rect % 8 + 1
  let back := 64 * (rect / 64) + 8 * r.ladder + (k - 1)
  rs.any (fun r' => r'.ladder == x && decide (r'.obs (w.single n x) b = .down) && (g.candidates d r' b ds).contains back) &&
    !g.down.contains (otherKey d rect) && !g.chosen.any (fun c => c.1 == otherKey d rect) && bitOf before (rect / 64) &&
    g.carriesDown d r.ladder != g.carriesDown d x

/-- A key is chosen through a rectangle: it ceases to be AMBIGUOUS, and the other key of the rectangle is (R201). -/
def Work.choose (w : Work) (n d key rect back : Nat) : Work :=
  let was := (w.chan n).grist.ambig.filter (fun x => x.code == key)
  let w := w.modGrist n (fun g => { g with
    chosen := g.chosen ++ [(key, rect)], ambig := g.ambig.filter (fun x => x.code != key) })
  let w := was.foldl (fun w x => w.gristEntry n 0x11 key true x.value) w
  w.startAmbig n (otherKey d rect) back true

/-- A candidate judged (R200, R201). Where a key is a candidate through several rectangles, the lowest by which R201 chooses
is taken, and where none is, the lowest (log entry 11). `rs` are the step's readings that are no shifted ghosts. -/
def Work.judgeCandidate (w : Work) (n d : Nat) (rs : List LadderRead) (ds : List DriveRead) (before : Nat)
    (r : LadderRead) (k : Nat) : Work :=
  let g := (w.chan n).grist
  let key := 64 * d + 8 * r.ladder + (k - 1)
  match g.candidates d r k ds with
  | [] => w
  | first :: more =>
    if g.down.contains key ∨ g.chosen.any (fun c => c.1 == key) then w
    else match (first :: more).find? (fun rect => w.chooses n d rs ds before r k rect) with
    | some rect =>
      let back := 64 * (rect / 64) + 8 * r.ladder + (k - 1)
      if g.carriesDown d r.ladder then w.choose n d (otherKey d rect) back rect else w.choose n d key rect back
    | none =>
      let back := 64 * (first / 64) + 8 * r.ladder + (k - 1)
      w.startAmbig n key first (g.chosen.any (fun c => c.1 == otherKey d first && c.2 == back))

/-! ### Debouncing (R203, R204) -/

/-- A press or release declared: it takes effect at the boundary that ends the tick (R204), an entry follows (R223),
and a local acknowledge key acknowledges its groups at that boundary, on a standby too (R177, R180). -/
def Work.declareKey (w : Work) (n key : Nat) (pressed : Bool) : Work :=
  let w := w.modGrist n (fun g => { g with
    down := if pressed then g.down ++ [key] else g.down.filter (fun k => k != key)
    press := tabErase g.press key, release := tabErase g.release key
    decl := g.decl ++ [(key, pressed)] })
  let w := w.ev 0x1F n
  if pressed then
    let w := w.deliverPress n key w.tick
    if (w.chan n).standby then w
    else (w.ackMasks n key).foldl (fun w mask =>
      (w.modMash n (fun m => m.commit w.tick none none false [.alertAckGrp mask 0])).pairAcks n mask 0 none) w
  else w.deliverRelease n key w.tick

/-- One observation of one key (R203). -/
def Work.observe (w : Work) (n key : Nat) (o : Obs) : Work :=
  let g := (w.chan n).grist
  let down := g.down.contains key
  let w := w.modGrist n (fun g => { g with
    frozen := if o = .frozen then (if g.frozen.contains key then g.frozen else g.frozen ++ [key])
      else g.frozen.filter (fun k => k != key) })
  let w := w.put F.GRIST_HIDDEN_FROZEN (setBit (w.get F.GRIST_HIDDEN_FROZEN n (key / 32)) (key % 32) (decide (o = .frozen))) n
    (key / 32)
  match down, o with
  | _, .frozen => w
  | false, .down =>
    if w.cur F.GRIST_DEB_PRESS_N n ≤ tabGet g.press 0 key + 1 then w.declareKey n key true
    else w.modGrist n (fun g => { g with press := tabInsert g.press key (tabGet g.press 0 key + 1) })
  | false, .up =>
    if tabGet g.press 0 key = 0 then w
    else ((w.modGrist n (fun g => { g with press := tabErase g.press key })).countUp F.GRIST_CNT_REJECTS n).ev 0x1A n
  | true, .up =>
    if w.cur F.GRIST_DEB_RELEASE_N n ≤ tabGet g.release 0 key + 1 then w.declareKey n key false
    else w.modGrist n (fun g => { g with release := tabInsert g.release key (tabGet g.release 0 key + 1) })
  | true, .down => w.modGrist n (fun g => { g with release := tabErase g.release key })

/-- The taps of a ladder. -/
def Work.taps (w : Work) (n l : Nat) : List Nat := upFrom 1 (if w.wide n l then 4 else 8)

/-- Every key of a drive's ladder observed FROZEN. -/
def Work.freezeLadder (w : Work) (n d l : Nat) : Work :=
  (w.taps n l).foldl (fun w t => w.observe n (64 * d + 8 * l + (t - 1)) .frozen) w

/-- A decoded reading's keys observed, candidates and choices included (R199 to R201, R203). -/
def Work.observeLadder (w : Work) (n d : Nat) (r : LadderRead) : Work :=
  let single := w.single n r.ladder
  (w.taps n r.ladder).foldl (fun w t =>
    let key := 64 * d + 8 * r.ladder + (t - 1)
    let g := (w.chan n).grist
    let o := if g.ambig.any (fun x => x.code == key) then Obs.frozen else r.obs single t
    w.observe n key o) w

/-! ### Scans and the continuity test (R193, R206) -/

/-- The step of drive `d` passes, run or lost: the last one completes the scan, and a continuity test may fall due. -/
def Work.passStep (w : Work) (n d : Nat) : Work :=
  let p := (w.chan n).seq.act
  let w := w.put F.GRIST_STAT_DRIVE d n
  if d + 1 = p.nDrive then
    let w := w.countWrap F.GRIST_STAT_SCAN n
    let g := (w.chan n).grist
    let due := w.curFlag F.GRIST_CFG_CONT_EN n && decide (w.cur F.GRIST_CONT_CONT_SCANS n ≤ g.scansDone + 1)
    let w := if due then w.putFlag F.GRIST_STAT_CONT_WAIT true n else w
    w.modGrist n (fun g => { g with
      lastBusy := g.scanBusy || !g.down.isEmpty, scanBusy := false, scansDone := if due then 0 else g.scansDone + 1 })
  else w

/-- The drive that the KEY slot at plan entry `idx` scans in the running tick. -/
def Work.driveAt (w : Work) (n idx : Nat) : Nat :=
  let p := (w.chan n).seq.act
  p.stepNo w.tick idx % p.nDrive

/-- Every key of the drive of a key step observed FROZEN (R203). -/
def Work.freezeStep (w : Work) (n idx : Nat) : Work :=
  if !w.scans n then w
  else (w.chan n).seq.act.ladders.foldl (fun w l => w.freezeLadder n (w.driveAt n idx) l) w

/-- A key step that did not run: counted, and its keys FROZEN (R203). -/
def Work.skipStep (w : Work) (n idx : Nat) : Work :=
  if !w.scans n then w
  else (((w.raise F.GRIST_ERR_STEP_LOST n).countUp F.GRIST_CNT_STEPS_LOST n).ev 0x1E n).freezeStep n idx

/-- A key step of a running channel that was dropped or missed (R193, R203). -/
def Work.loseStep (w : Work) (n idx : Nat) : Work :=
  if !w.scans n then w else (w.skipStep n idx).passStep n (w.driveAt n idx)

/-- The key steps of the running tick on a channel that is quiescing or QUIESCED: none runs (R203, R205). -/
def Work.stillSteps (w : Work) (n : Nat) : Work :=
  let p := (w.chan n).seq.act
  ((List.range p.slots.length).filter (fun i => slotKind (p.slots.getD i 0) == kKey)).foldl (fun w i =>
    if (w.chan n).blockHeld 2 then w.freezeStep n i else w.skipStep n i) w

/-- The results of a continuity test of tick `t`, confirmed by a key step that named no tap (R206, R208). -/
def Work.continuityResults (w : Work) (n t : Nat) (codes : List Nat) : Work :=
  (w.chan n).seq.act.ladders.foldl (fun w l =>
    let c := codes.getD l 4095
    let g := (w.chan n).grist
    if w.cur F.GRIST_CONT_BAND_CONT_LO n ≤ c ∧ c ≤ w.cur F.GRIST_CONT_BAND_CONT_HI n then
      if w.single n l ∧ 1 ≤ tabGet g.contPass 0 l then w.cableWhole n t l
      else w.modGrist n (fun g => { g with
        contFail := tabErase g.contFail l, contPass := if w.single n l then tabInsert g.contPass l 1 else g.contPass })
    else
      let w := w.modGrist n (fun g => { g with contCode := tabInsert g.contCode l c, contPass := tabErase g.contPass l })
      if !w.single n l ∧ 1 ≤ tabGet g.contFail 0 l then w.cableBreak n t l 0 c
      else w.modGrist n (fun g => { g with contFail := tabInsert g.contFail l 1 })) w

/-- The continuity test runs in the DIAG slot of the running tick, later than the one in which it fell due, of a channel that
has a ladder and the test enabled (R206). -/
def Work.contReady (w : Work) (n : Nat) : Bool :=
  let c := w.chan n
  w.flag F.GRIST_STAT_CONT_WAIT n && w.curFlag F.GRIST_CFG_CONT_EN n && !c.seq.act.ladders.isEmpty && c.grist.contOld && !c.grist.lastBusy && c.planRuns && !c.standby && !c.blockHeld 2 &&
    (c.seq.act.isLcd || decide (12 ≤ w.tick % 16))

/-- A tick has ended for a continuity test that waits (R206). -/
def Work.contAge (w : Work) (n : Nat) : Work :=
  let b := w.flag F.GRIST_STAT_CONT_WAIT n
  w.modGrist n (fun g => { g with contOld := b })

/-- CONTINUITY_TEST (R206): the head codes, by ladder, captured in the last line group of a DIAG slot that has one (R38). -/
def continuityTest (w : Work) (n : Nat) (heads : List Nat) : Work :=
  match (w.chan n).seq.cur with
  | some sl =>
    if sl.kind = kDiag ∧ w.contReady n ∧ 1 ≤ (w.chan n).seq.act.diagG ∧ (w.chan n).seq.diagPhase < 3 then
      ((w.modGrist n (fun g => { g with contRes := some (w.tick, heads) })).putFlag F.GRIST_STAT_CONT_WAIT false n).modSeq n
        (fun s => { s with diagPhase := 3 })
    else w
  | none => w

/-- CONTINUITY_TEST. -/
def execContinuityTest (ch : Fin 8) (heads : List Nat) (s : State) : Host.Outcome State Fault Refusal :=
  .next (s.run (fun w => continuityTest w ch heads))

/-! ### The key step (R194) -/

/-- What a floating drive's captures book in the ledger (R87): the parks at 0 V, the rest of each phase at the captured
level. Where no key step ran in a KEY slot there are no captures, and none of its floating lines is booked there (log
entry 55). -/
def Work.bookFloat (w : Work) (n : Nat) (d : DriveRead) : Work :=
  let p := (w.chan n).seq.act
  match lineOf p.drives d.drive with
  | some m =>
    if w.ledgerOn n then
      let v := w.vlcd n
      w.book n m ((codeDev v d.head + codeDev v d.foot) * (200 * (p.settle + 4) : Nat) - (3840 * v * 400 : Nat))
    else w
  | none => w

/-- The registers of a step's readings (GRIST_READ, GRIST_DRV). -/
def Work.showStep (w : Work) (n d : Nat) (rs : List LadderRead) (ds : List DriveRead) : Work :=
  let w := rs.foldl (fun w r =>
    w.setReg (R.GRIST_READ.addr n (8 * d + r.ladder)) (r.head + 2 ^ 12 * r.foot + 2 ^ 24 * r.hc + 2 ^ 28 * r.fc)) w
  ds.foldl (fun w x => w.setReg (R.GRIST_DRV.addr n x.drive) (x.head + 2 ^ 12 * x.foot + 2 ^ 24 * x.band)) w

/-- KEY_STEP on drive `d` (R194 to R204): the readings are classified, ghosts and candidates marked, and every key of
the drive observed. -/
def Work.runStep (w : Work) (n d : Nat) (rs : List LadderRead) (ds : List DriveRead) : Work :=
  let w := w.showStep n d rs ds
  let g := (w.chan n).grist
  let relays := (ds.filter (fun x => x.band == 1)).map (·.drive)
  let shifted := fun (r : LadderRead) => r.shiftedByReading || !(g.relaysOn relays r.ladder).isEmpty
  let good := rs.filter (fun r => !shifted r)
  let before := tabGet g.relay 0 d
  let w := rs.foldl (fun w r => w.ghostShift n d r relays) w
  let named := rs.any (fun r => r.p != 0 || r.q != 0)
  let w := w.modGrist n (fun g => { g with
    raw := rs.foldl (fun t r => tabPut t 0 (8 * d + r.ladder) (if shifted r then 0 else r.named)) g.raw
    relay := tabPut g.relay 0 d (listMask relays)
    scanBusy := g.scanBusy || named })
  let w := good.foldl (fun w r => w.ladderSplit n d r) w
  let w := w.endAmbig n d
  let w := good.foldl (fun w r =>
    (w.taps n r.ladder).foldl (fun w t =>
      if r.obs (w.single n r.ladder) t = .down then w.judgeCandidate n d good ds before r t else w) w) w
  let w := rs.foldl (fun w r => if shifted r then w.freezeLadder n d r.ladder else w.observeLadder n d r) w
  let w := good.foldl (fun w r => w.oneEnds n r) w
  let w := match (w.chan n).grist.contRes with
    | some (t, codes) =>
      let w := w.modGrist n (fun g => { g with contRes := none })
      if named then w else w.continuityResults n t codes
    | none => w
  (w.passStep n d).showGrist n

/-- KEY_STEP (R194): codes of the ladder ends by ladder, and of the floating drive lines by drive. -/
def keyStep (w : Work) (n : Nat) (heads feet drvHead drvFoot : List Nat) : Work :=
  let c := w.chan n
  match c.seq.cur with
  | some sl =>
    if sl.kind = kKey ∧ w.scans n ∧ !c.grist.stepRun ∧ !c.blockHeld 2 then
      let p := c.seq.act
      let d := p.stepNo w.tick sl.idx % p.nDrive
      let rs := p.ladders.map (fun l => w.readLadder n l (heads.getD l 4095) (feet.getD l 4095))
      let ds := ((List.range p.nDrive).filter (fun j => j != d)).map (fun j =>
        { drive := j, head := drvHead.getD j 4095, foot := drvFoot.getD j 4095,
          hb := w.band n (drvHead.getD j 4095), fb := w.band n (drvFoot.getD j 4095) : DriveRead })
      let w := ds.foldl (fun w x => w.bookFloat n x) w
      (w.modGrist n (fun g => { g with stepRun := true })).runStep n d rs ds
    else w
  | none => w

/-! ### At a boundary -/

/-- KEY_STATE_APPLY (R204): the tick's declarations take effect in GRIST_KEYS. -/
def Work.applyKeys (w : Work) (n : Nat) : Work :=
  let ds := (w.chan n).grist.decl
  let w := ds.foldl (fun w d =>
    w.put F.GRIST_KEYS_DOWN (setBit (w.get F.GRIST_KEYS_DOWN n (d.1 / 32)) (d.1 % 32) d.2) n (d.1 / 32)) w
  w.modGrist n (fun g => { g with decl := [] })

/-- A debounced key state as of the last boundary (R158, R204). -/
def Work.keyDown (w : Work) (n key : Nat) : Bool := bitOf (w.get F.GRIST_KEYS_DOWN n (key / 32)) (key % 32)

/-- Everything starts afresh: every key released, the raw map empty, its registers with it, no choice, no test due (R205). -/
def Work.gristAfresh (w : Work) (n : Nat) : Work :=
  let w := w.modGrist n (fun _ => Grist.init)
  let w := w.resetRegs (R.GRIST_DRV.addr n 0) (R.GRIST_READ.addr n 64)
  let w := (List.range 16).foldl (fun w k => (w.put F.GRIST_KEYS_DOWN 0 n k).put F.GRIST_HIDDEN_FROZEN 0 n k) w
  let w := w.put F.GRIST_LADDER_SINGLE 0 n
  let w := w.modChan n (fun c => { c with cask := { c.cask with held := [] } })
  (w.setReg (R.GRIST_STAT.addr n 0) 0)

end Sys2Proof.Machine
end

