-- ==== Sys2Proof/Machine/Led.lean ====
section
/-! DEFINITION. LED digit drive: on-times, the dissipation estimate and the sink governor (05_led_digits.md). -/

namespace Sys2Proof.Machine

/-- The LED engine changed. -/
def Work.modLed (w : Work) (n : Nat) (f : Led → Led) : Work := w.modChan n (fun c => { c with led := f c.led })

/-! ### On-times (R101 to R105) -/

/-- N: the planned PWM window in cycles (R101). -/
def PlanSet.window (p : PlanSet) : Nat := p.dispDur - 2 * p.dead - 2 * p.rise

/-- The brightness class of element `e` = 64 d + s in force (R104). -/
def Work.ledClass (w : Work) (n e : Nat) : Nat :=
  w.cur R.LED_CLASSMAP n (e / 8) / 2 ^ (4 * (e % 8)) % 16

/-- The effective brightness of a lit element (R104). -/
def Work.brightness (w : Work) (n e : Nat) : Nat :=
  let c := w.ledClass n e
  let d := if w.curFlag F.LED_CLASS_DIM_EN n c then w.get F.BLINK_DIMD_D n (w.cur F.LED_CLASS_DIM_GRP n c) else 65535
  divRound (w.cur F.LED_CLASS_VALUE n c * d * w.get F.LED_GOV_GAIN n) (65535 * 65536)

/-- The on-time in cycles of brightness `b` in tick `t`, for a window of `win` cycles (R105). -/
def onTime (dither : Bool) (b win t : Nat) : Nat :=
  if dither then
    let s := divRound (b * win) 4096
    let j := t % 16
    s * (j + 1) / 16 - s * j / 16
  else divRound (b * win) 65536

/-- The on-time of element `e` in the running tick, as fixed at the boundary: 0 where it is not lit (R104, R105). -/
def Work.onTimeOf (w : Work) (n e : Nat) : Nat :=
  let c := w.chan n
  if c.blink.lit.contains e then
    onTime (w.curFlag F.LED_CFG_DITHER_EN n) (w.brightness n e) c.seq.act.window w.tick
  else 0

/-- The pulse of element `e` as it runs: its on-time, clipped to the window left in its slot (R102). -/
def Work.pulseOf (w : Work) (n e : Nat) : Nat :=
  Nat.min (w.onTimeOf n e) (tabGet (w.chan n).led.winOf (w.chan n).seq.act.window (e / 64))

/-- The elements of digit `d` with a SEG line. -/
def PlanSet.digitElems (p : PlanSet) (d : Nat) : List Nat := p.segs.map (fun x => 64 * d + x.2)

/-- The window of the digit in its slot of this tick, shorter by `lost` cycles; W_CLIP where a pulse is longer (R102). -/
def Work.cutWindow (w : Work) (n d lost : Nat) : Work :=
  let win := (w.chan n).seq.act.window - lost
  let clip := ((w.chan n).seq.act.digitElems d).any (fun e => decide (win < w.onTimeOf n e))
  let w := w.modLed n (fun l => { l with winOf := tabInsert l.winOf d win })
  if clip then w.raise F.LED_STAT_W_CLIP n else w

/-! ### Captures and the estimate (R98, R106, R107) -/

/-- PREDRIVER_CURRENT_LIMIT (R98): the digit's pre-driver turns off for the rest of its slot. -/
def predriverCurrentLimit (w : Work) (n : Nat) : Work :=
  let c := w.chan n
  match c.seq.cur with
  | some sl =>
    if sl.kind = kDisplay ∧ !c.seq.act.isLcd then
      let w := w.modLed n (fun l => { l with ocNow := true })
      (w.raise F.LED_STAT_COM_OC n).put F.LED_STAT_COM_OC_DIG (c.seq.nDisp - 1) n
    else w
  | none => w

/-- PREDRIVER_CURRENT_LIMIT. -/
def execPredriverCurrentLimit (ch : Fin 8) (s : State) : Host.Outcome State Fault Refusal :=
  .next (s.run (fun w => predriverCurrentLimit w ch))

/-- The elements that a capture of the DISPLAY slot in progress measures, each with its voltage in mV: those of the
digit's group that are switched on at the capture instant (R106). -/
def Work.captured (w : Work) (n : Nat) (mv : List Nat) : List (Nat × Nat) :=
  let c := w.chan n
  match c.seq.cur with
  | some sl =>
    if sl.kind = kDisplay ∧ !c.seq.act.isLcd ∧ !c.standby ∧ !c.led.ocNow then
      let d := c.seq.nDisp - 1
      let groups := (c.seq.act.segs.length + 15) / 16
      let g := (w.tick + d) % groups
      ((List.range 16).zip mv).filterMap (fun x =>
        let e := 64 * d + 16 * g + x.1
        if (lineOf c.seq.act.segs (16 * g + x.1)).isSome ∧ 20 ≤ w.pulseOf n e then some (e, x.2) else none)
    else []
  | none => []

/-- The measured voltages kept (R106). -/
def Work.keepVolts (w : Work) (n : Nat) (vs : List (Nat × Nat)) : Work :=
  w.modLed n (fun l => { l with volts := vs.foldl (fun t x => tabInsert t x.1 x.2) l.volts })

/-- P_tick of the ending tick in µW (R107): volts in mV × CODE × cycles / (500 × period in µs). -/
def Work.tickPower (w : Work) (n : Nat) : Nat :=
  let c := w.chan n
  let es := ((List.range (Nat.min c.seq.nDisp c.seq.act.commons)).map c.seq.act.digitElems).flatten
  let sum := (es.map (fun e =>
    tabGet c.led.volts 3300 e * w.cur F.LED_ISEG_CODE n (e % 64) * w.pulseOf n e)).sum
  (roundOpen sum (500 * w.periodUs)).toNat

/-- The mean of the stored estimates in µW (R107, R112); of as many as there are, while a first run has stored fewer than the 16
of R107 (log entry 56). -/
def meanEst (est : List Nat) : Nat := if est.isEmpty then 0 else (roundOpen (est.sum : Nat) est.length).toNat

/-- A power in whole mW. The worked example of chapter 05 shows 541,440 µW as 541, so no remainder below one half rounds
up; from one half on, the rounding is open (log entry 9). -/
def mwOpen (uw : Nat) : Nat := if uw % 1000 < 500 then uw / 1000 else (roundOpen uw 1000).toNat

/-- A power in mW as a 12-bit field shows it. -/
def showMw (uw : Nat) : Nat := Nat.min 4095 (mwOpen uw)

/-- TICK_ESTIMATE (R107) at the end of a tick of a running LED channel that is not a standby. `act` says that the
estimate may be acted on; every 16 ticks P_avg is formed, and a decision falls due. `t'` is the tick that begins. -/
def Work.tickEstimate (w : Work) (n t' : Nat) (act : Bool) : Work :=
  let p := w.tickPower n
  let w := w.modLed n (fun l => { l with est := (p :: l.est).take 16, tickEst := if act then some p else none })
  let w := w.put F.LED_PWR_TICK_MW (showMw p) n
  if t' % 16 = 0 then
    let w := w.put F.LED_PWR_EST_MW (showMw (meanEst (w.chan n).led.est)) n
    w.modLed n (fun l => { l with decide := act })
  else w

/-! ### The sink governor (R108, R109) -/

/-- VALUE of a THERMAL entry: the estimate in mW, and the new gain (R109). -/
def thermalValue (uw gain : Nat) : Nat :=
  Nat.min 65535 (mwOpen uw) + 2 ^ 16 * Nat.min 32768 (gain / 2)

/-- A new G, and its state. -/
def Work.setGain (w : Work) (n g : Nat) : Work :=
  let w := if w.get F.LED_GOV_GAIN n = g then w else w.ev 0x2B n
  (w.put F.LED_GOV_GAIN g n).putFlag F.LED_GOV_STATE (decide (g < 65536)) n

/-- A THERMAL entry of the batch of the tick that ended (R109). -/
def Work.thermal (w : Work) (n code uw gain : Nat) : Work :=
  w.entryBatch n ⟨1, 0x22, code, 0, thermalValue uw gain, w.ended % 2 ^ 32⟩

/-- A governor's budget in units of 0.5 mW: half of it while the device is HOT (R457). -/
def Work.budget (w : Work) (mw : Nat) : Nat := if w.flag F.SYS_TEMP_HOT then mw else 2 * mw

/-- SINK_GOV_FAST_STEP (R108). The tick count has been moved on. -/
def Work.fastStep (w : Work) (n : Nat) : Work :=
  let w := w.modLed n (fun l => { l with fastNow := false })
  match (w.chan n).led.tickEst with
  | none => w
  | some p =>
    let w := w.modLed n (fun l => { l with tickEst := none })
    let cap := w.budget (w.cur F.LED_PWR_CFG_SINK_MW n)
    if w.curFlag F.LED_CFG_GOV_EN n ∧ 500 * cap < p then
      let g := w.get F.LED_GOV_GAIN n * 475 * cap / p
      let w := ((w.setGain n g).raise F.LED_STAT_FAST n).raise F.LED_STAT_GOV n
      let w := w.putFlag F.LED_GOV_STATE true n
      (w.thermal n 2 p g).modLed n (fun l => { l with fastNow := true })
    else w

/-- The batch of the ending tick stored, unless a governor decision of this boundary still has to add to it (R108,
R216, R249). -/
def Work.closeBatch (w : Work) (n : Nat) : Work :=
  let c := w.chan n
  if c.led.decide ∨ c.lamp.decide then w else w.storeBatch n

/-- SINK_GOV_DECISION (R108): a decision on the P_avg formed at this boundary. -/
def sinkGovDecision (w : Work) (n : Nat) : Work :=
  let l := (w.chan n).led
  if !l.decide then w
  else
    let p := meanEst l.est
    let cap := w.budget (w.cur F.LED_PWR_CFG_SINK_MW n)
    let gov := w.curFlag F.LED_CFG_GOV_EN n && !l.fastNow
    let g := w.get F.LED_GOV_GAIN n
    let limiting := w.flag F.LED_GOV_STATE n
    let w :=
      if gov ∧ 475 * cap < p then
        let g' := g * 475 * cap / p
        let w := ((w.setGain n g').putFlag F.LED_GOV_STATE true n).raise F.LED_STAT_GOV n
        w.thermal n 1 p g'
      else if gov ∧ limiting ∧ p < 425 * cap then
        let g' := Nat.min 65536 (g * 17 / 16)
        let w := w.setGain n g'
        if g' = 65536 then w.thermal n 3 p g' else w
      else w
    let w := if 450 * cap < p ∧ l.prevAvg ≤ 450 * cap then
        (w.raise F.LED_STAT_WARN n).thermal n 0 p (w.get F.LED_GOV_GAIN n)
      else w
    (w.modLed n (fun l => { l with decide := false, prevAvg := p })).closeBatch n

/-- SINK_GOV_DECISION. -/
def execSinkGovDecision (ch : Fin 8) (s : State) : Host.Outcome State Fault Refusal :=
  .next (s.run (fun w => sinkGovDecision w ch))

/-- GOV_EN = 0 in force: G returns to 65,536, FREE (R108). -/
def Work.govDisabled (w : Work) (n : Nat) : Work :=
  if w.curFlag F.LED_CFG_GOV_EN n then w else w.setGain n 65536

/-- The restart boundary of an image activation: G at 65,536, every pair never measured; the stored estimates stay (R112). -/
def Work.ledAfresh (w : Work) (n : Nat) : Work :=
  (w.modLed n (fun l => { l with volts := [], tickEst := none, decide := false })).setGain n 65536

end Sys2Proof.Machine
end

