-- ==== Sys2Proof/Machine/Integ.lean ====
section
/-! DEFINITION. The integrity engine: checks, declarations, confusable glyphs and policies (06_display_integrity.md),
and the elements lit in a tick (R132). -/

namespace Sys2Proof.Machine

/-- The integrity engine changed. -/
def Work.modInteg (w : Work) (n : Nat) (f : Integ → Integ) : Work := w.modChan n (fun c => { c with integ := f c.integ })

/-! ### Element and line states (R114, R125) -/

/-- An element's state: 0 OK, 1 DARK, 2 LIT, 3 UNKNOWN (INTEG_ELEM). -/
def Work.elemState (w : Work) (n e : Nat) : Nat :=
  bitsOf (w.get F.INTEG_ELEM_STATES n (e / 16)) (2 * (e % 16) + 1) (2 * (e % 16))

/-- An element's state set. -/
def Work.setElemState (w : Work) (n e st : Nat) : Work :=
  w.put F.INTEG_ELEM_STATES (setBits (w.get F.INTEG_ELEM_STATES n (e / 16)) (2 * (e % 16) + 1) (2 * (e % 16)) st) n (e / 16)

/-- What a declaration makes of a state: never toward OK, and DARK with LIT is UNKNOWN (R125). -/
def declared (old new : Nat) : Nat := if old = 0 ∨ old = new then new else 3

/-- The elements of a COM line. -/
def PlanSet.comElems (p : PlanSet) (c : Nat) : List Nat := p.segs.map (fun x => 64 * c + x.2)
/-- The elements of a SEG line. -/
def PlanSet.segElems (p : PlanSet) (s : Nat) : List Nat := p.coms.map (fun x => 64 * x.2 + s)
/-- The elements of a display line. -/
def PlanSet.lineElems (p : PlanSet) (m : Nat) : List Nat :=
  match p.coms.find? (fun x => x.1 == m), p.segs.find? (fun x => x.1 == m) with
  | some x, _ => p.comElems x.2
  | _, some x => p.segElems x.2
  | _, _ => []

/-- The field an element belongs to (R136). -/
def Work.fieldOfElem (w : Work) (n e : Nat) : Option Nat :=
  (List.range 128).find? (fun f => match w.fieldDef n f with
    | some fd => (w.fieldElems n fd).contains e
    | none => false)

/-- An INTEG_FAIL entry with a given stamp. -/
def Work.integEntry (w : Work) (n code flags value stamp : Nat) : Work :=
  w.entryBatch n ⟨2, 0x20, code, flags, value, stamp % 2 ^ 32⟩

/-! ### Results (R125, R127) -/

/-- Stands for any check, where it is not known which one declared an element. -/
def anyCheck : Nat := 5120

/-- The checks that have to pass before an element in RECHECK is OK: those that declared it. -/
def Integ.checksOf (g : Integ) (e : Nat) : List Nat :=
  match (g.failedBy.filter (fun x => x.1 == e)).map (·.2) with
  | [] => [anyCheck]
  | ks => ks

/-- A result of a check in an element's recheck: a failing one ends it, and once every check that declared the element has
two passing ones in a row, it becomes OK (R127). -/
def Integ.recheckOne (g : Integ) (key : Nat) (pass : Bool) (e : Nat) : Integ :=
  match tabFind g.recheck e with
  | none => g
  | some l =>
    match l.find? (fun x => x.1 == key || x.1 == anyCheck) with
    | none => g
    | some x =>
      if !pass then { g with recheck := tabErase g.recheck e }
      else
        let l := (x.1, Nat.min 2 (x.2 + 1)) :: l.filter (fun y => y.1 != x.1)
        if l.all (fun y => decide (2 ≤ y.2)) then { g with recheck := tabErase g.recheck e, okNow := g.okNow ++ [e] }
        else { g with recheck := tabInsert g.recheck e l }

/-- A result of a check for every element in RECHECK that it stands for. -/
def Work.recheckResult (w : Work) (n key : Nat) (pass : Bool) (elems : List Nat) : Work :=
  w.modInteg n (fun g => elems.foldl (fun g e => g.recheckOne key pass e) g)

/-- A declaration: it waits for the boundary, and ends the rechecks of its elements (R126, R127). -/
def Integ.declare (g : Integ) (key : Nat) (elems : List Nat) (state : Nat) (line : Option Nat) : Integ :=
  { g with
    decl := g.decl ++ [⟨elems, state, line⟩]
    failedBy := g.failedBy ++ (elems.map (fun e => (e, key))).filter (fun x => !g.failedBy.contains x)
    recheck := elems.foldl (fun t e => tabErase t e) g.recheck
    okNow := g.okNow.filter (fun e => !elems.contains e) }

/-- STATE of INTEG_LINE. -/
def Work.setLineState (w : Work) (n : Nat) (line : Option Nat) (st : Nat) : Work :=
  match line with
  | some m => w.put F.INTEG_LINE_STATE st n m
  | none => w

/-- One result of a check: `key` is check × 1,024 + index, `elems` the elements it stands for. The second failing result in a
row declares; so does a later one where an element has meanwhile returned to OK (R125). -/
def Work.result (w : Work) (n key : Nat) (pass : Bool) (elems : List Nat) (state : Nat) (line : Option Nat) : Work :=
  let w := w.ev 0x21 n
  let w := if pass then w else w.ev 0x22 n
  let w := w.recheckResult n key pass elems
  let k := tabGet (w.chan n).integ.fails 0 key
  let st := match line with | some m => w.get F.INTEG_LINE_STATE n m | none => 0
  if pass then
    (w.modInteg n (fun g => { g with fails := tabErase g.fails key })).setLineState n line (if st = 1 then 0 else st)
  else if k = 1 ∨ (1 < k ∧ elems.any (fun e => w.elemState n e == 0 && !(w.chan n).integ.failedBy.contains (e, key))) then
    let w := w.modInteg n (fun g => { g with fails := tabInsert g.fails key (k + 1) }.declare key elems state line)
    (w.ev 0x23 n).setLineState n line 2
  else
    (w.modInteg n (fun g => { g with fails := tabInsert g.fails key (k + 1) })).setLineState n line (if st = 0 then 1 else st)

/-- The integrity engine measures on a channel: it is not the standby's, and INTEG is not held (R137, R399). -/
def Chan.checks (c : Chan) : Bool := !c.standby && !c.blockHeld 8

/-! ### LED checks (R115 to R120) -/

/-- The digit of the LED DISPLAY slot in progress. -/
def Chan.digitNow (c : Chan) : Option Nat :=
  match c.seq.cur with
  | some sl => if sl.kind = kDisplay ∧ !c.seq.act.isLcd then some (c.seq.nDisp - 1) else none
  | none => none

/-- The compliance voltage of a sink in mV: 0.40 V above 10.0 mA, which is CODE 25, and 0.25 V at or below (R103). -/
def compliance (code : Nat) : Nat := if 25 < code then 400 else 250

/-- LIT_CHECK (R115): the line voltages by SEG index, in mV, at the end of the window, against the compliance voltage. -/
def litCheck (w : Work) (n : Nat) (mv : List Nat) : Work :=
  let c := w.chan n
  match c.digitNow with
  | some d =>
    if w.curFlag F.INTEG_CFG_LED_LIT_EN n ∧ !c.led.ocNow ∧ c.checks then
      c.seq.act.segs.foldl (fun w x =>
        let e := 64 * d + x.2
        match mv[x.2]? with
        | some v =>
          if 0 < w.pulseOf n e ∧ w.cur F.INTEG_CFG_LIT_MIN n ≤ w.pulseOf n e then
            (w.modInteg n (fun g => { g with unverRep := g.unverRep.filter (fun y => y != e) })).result n e
              (decide (compliance (w.cur F.LED_ISEG_CODE n x.2) ≤ v)) [e] 1 none
          else w
        | none => w) w
    else w
  | none => w

/-- LIT_CHECK. -/
def execLitCheck (ch : Fin 8) (mv : List Nat) (s : State) : Host.Outcome State Fault Refusal :=
  .next (s.run (fun w => litCheck w ch mv))

/-- DISSIPATION_CAPTURE (R106, R118): the voltages of the digit's group of sinks, by place in the group, in mV; with
CHAIN_EN each is a chain measurement. -/
def dissipationCapture (w : Work) (n : Nat) (mv : List Nat) : Work :=
  let vs := w.captured n mv
  let w := w.keepVolts n vs
  if w.curFlag F.INTEG_CFG_CHAIN_EN n ∧ (w.chan n).checks then
    vs.foldl (fun w x =>
      w.result n (1024 + x.1) (decide (x.2 ≤ 50 * w.cur F.INTEG_CHAIN_CHAIN_HI n)) [x.1] 1 none) w
  else w

/-- DISSIPATION_CAPTURE. -/
def execDissipationCapture (ch : Fin 8) (mv : List Nat) (s : State) : Host.Outcome State Fault Refusal :=
  .next (s.run (fun w => dissipationCapture w ch mv))

/-- The pre-driver of COM `i` is off in the slot of digit `d`: it is another digit's, it is in current limit, or a policy
holds it off (R98, R101, R134). -/
def Chan.preOff (c : Chan) (d i : Nat) : Bool := i != d || c.led.ocNow || c.blink.digitsOff.contains i

/-- COM_WATCH (R119): the voltages by COM index, in mV, at the end of the Rise phase; each line whose pre-driver is off is
compared with 1.0 V. -/
def comWatch (w : Work) (n : Nat) (mv : List Nat) : Work :=
  let c := w.chan n
  match c.digitNow with
  | some d =>
    if w.curFlag F.INTEG_CFG_LED_LIT_EN n ∧ c.checks then
      (c.seq.act.coms.filter (fun x => c.preOff d x.2)).foldl (fun w x =>
        match mv[x.2]? with
        | some v => w.result n (2048 + x.2) (decide (1000 ≤ v)) (c.seq.act.comElems x.2) 2 (some x.1)
        | none => w) w
    else w
  | none => w

/-- COM_WATCH. -/
def execComWatch (ch : Fin 8) (mv : List Nat) (s : State) : Host.Outcome State Fault Refusal :=
  .next (s.run (fun w => comWatch w ch mv))

/-- The SEG index is raised in pattern `k` (R120). -/
def raisedIn (k s : Nat) : Bool := bitOf s (k % 6) == decide (k < 6)

/-- The channel is in its DIAG slot. -/
def Chan.inDiag (c : Chan) : Bool := match c.seq.cur with | some sl => sl.kind == kDiag | none => false

/-- Where tick `t` stands in the dark-check periods of 16 ticks: every dropped DIAG slot has lengthened one by a tick (R42,
log entry 84). -/
def Chan.diagPos (c : Chan) (t : Nat) : Nat := (t + 63 * c.integ.diagLost) % 64

/-- The dark check runs in tick `t` of the channel's plan (R120). -/
def Chan.darkRuns (c : Chan) (t : Nat) : Bool :=
  c.inDiag && !c.seq.act.isLcd && c.seq.act.darkEn && decide (t % 16 < 12) && c.checks

/-- The SEG indices raised in tick `t`, in ascending order; the line groups capture 16 each (R120). -/
def PlanSet.raisedSegs (p : PlanSet) (t : Nat) : List Nat :=
  (List.range 64).filter (fun s => p.darkSegs.any (fun x => x.2 == s) && raisedIn (t % 16) s)

/-- A line group of the DIAG slot in progress has been converted: the lamp window is past, and no group before it comes again
(R38). -/
def Work.lineGroups (w : Work) (n : Nat) : Work := w.modSeq n (fun s => { s with diagPhase := 2 })

/-- DARK_CHECK (R120): the voltages of the raised lines in mV, in ascending order of their SEG indices; one below 2.0 V
fails. -/
def darkCheck (w : Work) (n : Nat) (mv : List Nat) : Work :=
  let c := w.chan n
  if c.darkRuns w.tick ∧ c.seq.diagPhase < 2 then
    let got := ((c.seq.act.raisedSegs w.tick).take (16 * c.seq.act.diagG)).zip mv
    let low := (got.filter (fun x => decide (x.2 < 2000))).map (·.1)
    (w.modInteg n (fun g => { g with
      darkSeen := g.darkSeen ++ (got.map (·.1)).filter (fun s => !g.darkSeen.contains s)
      darkNow := g.darkNow ++ low.filter (fun s => !g.darkNow.contains s) })).lineGroups n
  else w

/-- DARK_CHECK. -/
def execDarkCheck (ch : Fin 8) (mv : List Nat) (s : State) : Host.Outcome State Fault Refusal :=
  .next (s.run (fun w => darkCheck w ch mv))

/-- The results of a dark-check period, at the end of its last tick (R120, R125); a channel that measures nothing any more has
none (R137). -/
def Work.darkPeriod (w : Work) (n : Nat) : Work :=
  let c := w.chan n
  let w := c.seq.act.darkSegs.foldl (fun w x =>
    if c.checks ∧ c.integ.darkSeen.contains x.2 then
      w.result n (3072 + x.2) (!c.integ.darkNow.contains x.2) (c.seq.act.segElems x.2) 2 (some x.1)
    else w) w
  w.modInteg n (fun g => { g with darkSeen := [], darkNow := [] })

/-- Lit elements, and those with a pulse of at least LIT_MIN, of the running tick (R117). -/
def Work.litNow (w : Work) (n : Nat) : List Nat × List Nat :=
  let l := (w.chan n).blink.lit
  (l, l.filter (fun e => decide (w.cur F.INTEG_CFG_LIT_MIN n ≤ w.pulseOf n e)))

/-- The ending tick `t` taken into its dither period (R117). -/
def Work.trackLit (w : Work) (n t : Nat) : Work :=
  let (l, v) := w.litNow n
  w.modInteg n (fun g =>
    if t % 16 = 0 then { g with litAll := l, verified := v }
    else { g with litAll := g.litAll.filter (fun e => l.contains e),
                  verified := g.verified ++ v.filter (fun e => !g.verified.contains e) })

/-- LIT_UNVERIFIED (R117): in the GUARD slot of the last tick of a dither period, every element that was lit throughout
it with no checked pulse is unverified. -/
def litUnverified (w : Work) (n : Nat) : Work :=
  let c := w.chan n
  if w.tick % 16 = 15 ∧ c.cutPassed ∧ !c.seq.act.isLcd ∧ w.curFlag F.INTEG_CFG_LED_LIT_EN n ∧ c.checks then
    let (l, v) := w.litNow n
    let un := c.integ.litAll.filter (fun e => l.contains e && !c.integ.verified.contains e && !v.contains e)
    let w := un.foldl (fun w e =>
      let w := (w.raise F.INTEG_STAT_UNVERIFIED n).ev 0x24 n
      if (w.chan n).integ.unverRep.contains e then w
      else match w.fieldOfElem n e with
        | none => w
        | some f =>
          (w.modInteg n (fun g => { g with unverRep := g.unverRep ++ [e] })).integEntry n f 8
            (e + 2 ^ 24 * w.elemState n e) w.tick) w
    w.modInteg n (fun g => { g with litAll := [] })
  else w

/-- LIT_UNVERIFIED. -/
def execLitUnverified (ch : Fin 8) (s : State) : Host.Outcome State Fault Refusal :=
  .next (s.run (fun w => litUnverified w ch))

/-! ### The line-charge check (R122 to R124) -/

/-- The display lines in ascending order of line number. -/
def PlanSet.sortedLines (p : PlanSet) : List Nat := (List.range 80).filter (fun m => p.displayLines.contains m)

/-- A line's measurement, in 10 pF: reported, learned from, or checked (R124). A line that came to have C_BASE 0 other than at a
restart does not learn, and with BASE_LEARN = 1 as with 0 it is not checked and sets UNVERIFIED (DESIGN CHOICE, log entry
57). -/
def Work.lineMeasured (w : Work) (n m c : Nat) : Work :=
  let g := (w.chan n).integ
  let p := (w.chan n).seq.act
  let w := w.put F.INTEG_LINE_C_MEAS (Nat.min 65535 c) n m
  match tabFind g.learn m with
  | some (k, least) =>
    let least := Nat.min least c
    if k + 1 < 4 then (w.modInteg n (fun g => { g with learn := tabInsert g.learn m (k + 1, least) })).ev 0x21 n
    else
      let w := (w.modInteg n (fun g => { g with learn := tabErase g.learn m })).ev 0x21 n
      let w := (w.put F.INTEG_BASE_C_BASE (Nat.min 65535 least) n m).putFlag F.INTEG_BASE_LEARNED true n m
      let w := w.putFlag F.INTEG_STAT_LEARNING (!(w.chan n).integ.learn.isEmpty) n
      if least < 20 then
        let w := w.modInteg n (fun g => g.declare (4096 + m) (p.lineElems m) 3 (some m))
        (w.ev 0x23 n).setLineState n (some m) 2
      else w
  | none =>
    let base := w.curReg n (F.INTEG_BASE_C_BASE.addr n m) % 65536
    if base = 0 then w.raise F.INTEG_STAT_UNVERIFIED n
    else w.result n (4096 + m) (!decide (8 * c < (2 + w.cur F.INTEG_CFG_OPEN_FRAC n) * base)) (p.lineElems m) 3 (some m)

/-- The lines that the line-charge check selects in tick `t` (R122). -/
def Chan.chargeLines (c : Chan) (t : Nat) : List Nat := (c.seq.act.sortedLines.drop (16 * (t % 64))).take 16

/-- The line-charge check runs in the DIAG slot in progress: line group 1 converts its results, unless it is the last one and
the continuity test takes it (R122, R206). -/
def Work.chargeRuns (w : Work) (n : Nat) : Bool :=
  let c := w.chan n
  c.inDiag && w.ledgerOn n && c.seq.act.lcdEn && decide (1 ≤ c.seq.act.diagG) && c.checks &&
    !(decide (c.seq.act.diagG = 1) && w.contReady n)

/-- LINE_CHARGE_CHECK (R122): the charges of the selected lines, in 10 pC, in list order. A line that stood at VMID
gives no measurement (R123). -/
def lineChargeCheck (w : Work) (n : Nat) (charge : List Nat) : Work :=
  let c := w.chan n
  if w.chargeRuns n ∧ c.seq.diagPhase < 2 then
    (((c.chargeLines w.tick).zip charge).foldl (fun w x =>
      let dev := (tabGet c.kiln.lastDev 0 x.1).natAbs
      if dev = 0 then w else w.lineMeasured n x.1 (roundOpen (x.2 * 768000 : Nat) dev).toNat) w).lineGroups n
  else w

/-- LINE_CHARGE_CHECK. -/
def execLineChargeCheck (ch : Fin 8) (charge : List Nat) (s : State) : Host.Outcome State Fault Refusal :=
  .next (s.run (fun w => lineChargeCheck w ch charge))

/-- Learning starts at a restart for every display line without a baseline, whether or not LCD_EN has the check run yet (R124);
the check periods begin anew. -/
def Work.startLearning (w : Work) (n : Nat) : Work :=
  let p := (w.chan n).seq.act
  let lines := if p.isLcd ∧ w.curFlag F.INTEG_CFG_BASE_LEARN n then
      p.sortedLines.filter (fun m => decide (w.curReg n (F.INTEG_BASE_C_BASE.addr n m) % 65536 = 0))
    else []
  let w := w.modInteg n (fun g => { g with
    learn := lines.map (fun m => (m, (0, 65535))), litAll := [], verified := [], darkSeen := [], darkNow := [], diagLost := 0 })
  w.putFlag F.INTEG_STAT_LEARNING (!lines.isEmpty) n

/-! ### Patterns and confusability (R129, R130, R155) -/

/-- How a field's pattern stands over the front image: 0 as drawn, 1 dashes, 2 every element off (R154, R156). -/
def Work.overlay (w : Work) (n f : Nat) (fd : FieldDef) : Nat :=
  match w.get F.MASH_FSTAT_SHOWN n f with
  | 3 => if w.flag F.MASH_FSTAT_FLASHING n f then 0 else 1
  | 4 => if fd.init = 0 then 1 else if fd.init = 2 then 2 else 0
  | _ => 0

/-- The mask that a position shows from the front image. -/
def Work.planeMask (w : Work) (n : Nat) (p : PosDef) : Nat :=
  listMask ((List.range p.elems.length).filter (fun i =>
    match p.elems.getD i none with
    | some e => w.planeBit (w.frontImage n) e
    | none => false))

/-- The masks of a field's positions after formatting, stale and initial patterns included, and whether its units are
as drawn: they are off under every initial pattern, which flashes on where the field goes stale unwritten (R153). -/
def Work.shownMasks (w : Work) (n f : Nat) (fd : FieldDef) : List Nat × Bool :=
  match w.overlay n f fd with
  | 1 => (w.dashMasks n fd, false)
  | 2 => ((w.fieldPositions n fd).map (fun _ => 0), false)
  | _ =>
    let shown := w.get F.MASH_FSTAT_SHOWN n f
    ((w.fieldPositions n fd).map (fun p => w.planeMask n p), shown != 4 && (shown != 3 || w.fieldHasWritten n f))

/-- The glyph set of position `i` of a field (R155); a code that its font lacks shows blank (R144). -/
def Work.glyphSet (w : Work) (n : Nat) (fd : FieldDef) (p : PosDef) (i : Nat) : List Nat :=
  if p.type = 4 then (List.range (p.elems.length + 1)).map (fun k => 2 ^ k - 1)
  else if p.type = 5 then [0, 2 ^ p.elems.length - 1]
  else
    let minus := if fd.sign ≠ 0 ∨ !fd.ol ∨ fd.invalid = 0 ∨ fd.staleTo ≠ 0 then [cMinus] else []
    let low := if fd.invalid = 2 then [cLow] else []
    let point := p.type == 3 && decide (0 < fd.dp) && decide (i + 1 = fd.n)
    let codes := if point then [cBlank, cPoint] ++ minus ++ low
      else [cBlank] ++ upFrom 0x30 10 ++ minus ++ (if fd.ol then [cO, cL] else []) ++ low
    codes.map (fun c => (w.glyphMask n p c).getD 0)

/-- The bits of a position that take part in a glyph: fitted, and not the decimal point. -/
def PosDef.glyphBits (p : PosDef) : List Nat :=
  (List.range p.elems.length).filter (fun i => (p.elems.getD i none).isSome && dpIndex p.type != some i)

/-- The elements by which a glyph `m` of a position can be read as another glyph `g`: those in which they differ, if
every one of them may fail that way; none otherwise (R129). -/
def Work.confusedBy (w : Work) (n : Nat) (p : PosDef) (m g : Nat) : List Nat :=
  let diff := p.glyphBits.filter (fun i => bitOf m i != bitOf g i)
  let ok := diff.all (fun i =>
    let st := w.elemState n ((p.elems.getD i none).getD 0)
    if bitOf m i then st == 1 || st == 3 else st == 2 || st == 3)
  if ok then diff.filterMap (fun i => p.elems.getD i none) else []

/-- The decimal-point elements of a field, and which of them is placed (R130). -/
def Work.pointElems (w : Work) (n : Nat) (fd : FieldDef) : List Nat × List Nat :=
  let ps := w.fieldPositions n fd
  let dots := (ps.head?.map (fun p => p.type == 3)).getD false
  if dots then
    if fd.dp = 0 then ([], [])
    else match ps.getLast? with
      | some p =>
        let m := (w.glyphMask n p cPoint).getD 0
        ((p.glyphBits.filter (fun i => bitOf m i)).filterMap (fun i => p.elems.getD i none), [])
      | none => ([], [])
  else
    let dpOf := fun (p : PosDef) => (dpIndex p.type).bind (fun k => p.elems.getD k none)
    let unit := fd.n - 1 - fd.dp
    let all := (List.range ps.length).filterMap (fun i => (ps[i]?.bind dpOf).map (fun e => (i, e)))
    let placed := if 0 < fd.dp then (all.filter (fun x => x.1 == unit)).map (·.2) else []
    (placed, (all.map (·.2)).filter (fun e => !placed.contains e))

/-- The failed elements that make a field confusable; none where it is not confusable (R129, R130). -/
def Work.confusable (w : Work) (n f : Nat) : List Nat :=
  match w.fieldDef n f with
  | none => []
  | some fd =>
    let ps := w.fieldPositions n fd
    let ms := (w.shownMasks n f fd).1
    let glyphs := ((List.range ps.length).map (fun i =>
      match ps[i]? with
      | some p => ((w.glyphSet n fd p i).map (fun g => w.confusedBy n p (ms.getD i 0) g)).flatten
      | none => [])).flatten
    let points := if w.get F.MASH_FSTAT_SHOWN n f = 0 then
        let (placed, others) := w.pointElems n fd
        placed.filter (fun e => w.elemState n e != 0) ++
          others.filter (fun e => w.elemState n e == 2 || w.elemState n e == 3)
      else []
    glyphs ++ points

/-! ### Declarations and policies at a boundary (R126, R127, R131 to R136) -/

/-- The declarations of the ending tick `t` take effect (R125, R126): element states, and one entry each, LATENT where
the element's field is not confusable. The entry of a line declaration stands for elements of several fields or none, and sets
LINE alone (DESIGN CHOICE, log entry 57). -/
def Work.applyDeclarations (w : Work) (n t : Nat) : Work :=
  let ds := (w.chan n).integ.decl
  let w := ds.foldl (fun w d =>
    d.elems.foldl (fun w e => w.setElemState n e (declared (w.elemState n e) d.state)) w) w
  let w := w.modInteg n (fun g => { g with decl := [] })
  ds.foldl (fun w d =>
    match d.line with
    | some m =>
      let (e, w) := w.fresh 10
      w.integEntry n 0xFFFF 1 (e + 2 ^ 16 * m + 2 ^ 24 * d.state) t
    | none =>
      let e := d.elems.headD 0
      let v := e + 2 ^ 24 * w.elemState n e
      match w.fieldOfElem n e with
      | some f => w.integEntry n f (if (w.confusable n f).isEmpty then 64 else 0) v t
      | none => w.integEntry n 0xFFFF 0 v t) w

/-- Elements that became OK in the ending tick, with their CLEARED entries (R127, R136). -/
def Work.applyCleared (w : Work) (n t : Nat) : Work :=
  let es := (w.chan n).integ.okNow
  let w := es.foldl (fun w e => w.setElemState n e 0) w
  let w := w.modInteg n (fun g => { g with okNow := [], failedBy := g.failedBy.filter (fun x => !es.contains x.1) })
  es.foldl (fun w e => w.integEntry n ((w.fieldOfElem n e).getD 0xFFFF) 16 e t) w

/-- INTEG_CLR writes act (R127): the elements not OK enter RECHECK, one already in it keeps its passes. -/
def Work.applyRecheck (w : Work) (n : Nat) : Work :=
  let cs := (w.chan n).integ.clr
  let w := w.modInteg n (fun g => { g with clr := [] })
  cs.foldl (fun w c =>
    let es := match c with
      | none => List.range 1024
      | some f => match w.fieldDef n f with | some fd => w.fieldElems n fd | none => []
    (es.filter (fun e => w.elemState n e != 0)).foldl (fun w e =>
      if (tabFind (w.chan n).integ.recheck e).isSome then w
      else w.modInteg n (fun g => { g with recheck := tabInsert g.recheck e ((g.checksOf e).map (fun k => (k, 0))) })) w) w

/-- STATE of every display line's INTEG_LINE after a boundary: RECHECK while an element that the line's check failed is
in it, OK once none of them is failed. -/
def Work.showLines (w : Work) (n : Nat) : Work :=
  let g := (w.chan n).integ
  (w.chan n).seq.act.displayLines.foldl (fun w m =>
    if w.get F.INTEG_LINE_STATE n m < 2 then w
    else
      let es := ((w.chan n).seq.act.lineElems m).filter (fun e => g.failedBy.any (fun x => x.1 == e && decide (2048 ≤ x.2)))
      let st := if es.all (fun e => w.elemState n e == 0) then 0
        else if es.any (fun e => (tabFind g.recheck e).isSome) then 3 else 2
      w.put F.INTEG_LINE_STATE st n m) w

/-- POLICY of a field in force. -/
def Work.policyOf (w : Work) (n f : Nat) : Nat := w.cur F.INTEG_POL_POLICY n f

/-- The policy that acts on a field in force: MARK falls back to BLANK where its element is not OK (R133). -/
def Work.actingPolicy (w : Work) (n f : Nat) : Nat :=
  let p := w.policyOf n f
  if p = 3 ∧ w.elemState n (w.cur F.INTEG_POL_MARK_ELEM n f) ≠ 0 then 1 else p

/-- POLICY_CHANGE (R131, R135): a field's policy starts or ends, with its entry (R136). -/
def Work.policyStep (w : Work) (n f t : Nat) : Work :=
  match w.fieldDef n f with
  | none => w
  | some fd =>
    let on := (w.chan n).integ.inForce.contains f
    let conf := w.confusable n f
    let es := w.fieldElems n fd
    if !on then
      if conf.isEmpty then w
      else
        let e := conf.foldl Nat.min 1023
        let p := w.actingPolicy n f
        let stuck := es.any (fun e => decide (2 ≤ w.elemState n e))
        let unrem := !(w.chan n).seq.act.isLcd && (p == 1 || p == 2) && !w.curFlag F.INTEG_POL_DIGIT_OFF n f && stuck
        let w := w.modInteg n (fun g => { g with inForce := g.inForce ++ [f] })
        w.integEntry n f (2 + 32 * unrem.toNat) (e + 2 ^ 24 * w.elemState n e) t
    else
      let stop := if w.curFlag F.INTEG_POL_PERSIST n f then es.all (fun e => w.elemState n e == 0) else conf.isEmpty
      if stop then
        (w.modInteg n (fun g => { g with inForce := g.inForce.filter (fun x => x != f) })).integEntry n f 4 0 t
      else w

/-- MARK_FALLBACK set where a MARK policy in force has fallen back to BLANK (R133). -/
def Work.markFallback (w : Work) (n : Nat) : Work :=
  if (w.chan n).integ.inForce.any (fun f => w.policyOf n f == 3 && w.actingPolicy n f == 1) then
    w.raise F.INTEG_STAT_MARK_FALLBACK n
  else w

/-- INTEG_STAT and ACTIVE shown. -/
def Work.showInteg (w : Work) (n : Nat) : Work :=
  let g := (w.chan n).integ
  let failed := ((List.range 1024).filter (fun e => w.elemState n e != 0)).length
  let w := w.put F.INTEG_STAT_N_FAILED failed n
  let w := w.put F.INTEG_STAT_N_FIELDS g.inForce.length n
  let w := w.putFlag F.INTEG_STAT_RECHECK (!g.recheck.isEmpty) n
  (List.range 128).foldl (fun w f => w.putFlag F.INTEG_POL_ACTIVE (g.inForce.contains f) n f) w

/-- INTEG_CLR acts on a channel that measures nothing: a standby, or one whose plan does not run (R127, R137). -/
def Work.recheckStep (w : Work) (n : Nat) : Work :=
  if (w.chan n).integ.clr.isEmpty then w else (w.applyRecheck n).showInteg n

/-- The integrity engine at the boundary that ends tick `t`: what was declared and cleared takes effect, glyphs are
evaluated against the applied content, and policies start and end (R126). On a standby, which runs no checks, INTEG_CLR acts
(R127, R137). -/
def Work.integStep (w : Work) (n t : Nat) : Work :=
  if (w.chan n).blockHeld 8 then w
  else if (w.chan n).standby then w.recheckStep n
  else
    let w := w.applyDeclarations n t
    let w := w.applyCleared n t
    let w := w.applyRecheck n
    let w := (List.range 128).foldl (fun w f => w.policyStep n f t) w
    ((w.markFallback n).showLines n).showInteg n

/-- INTEG_FAIL for the lines that failed every discharge proof (R93). -/
def Work.proofFailures (w : Work) (n t : Nat) : Work :=
  let ms := (w.chan n).kiln.proofFail
  let w := w.modKiln n (fun k => { k with proofFail := [] })
  ms.foldl (fun w m =>
    let (e, w) := w.fresh 10
    let (st, w) := w.fresh 2
    w.integEntry n 0xFFFF 1 (e + 2 ^ 16 * m + 2 ^ 24 * st) t) w

/-- The integrity engine starts afresh: every element OK (R71, R114). -/
def Work.integAfresh (w : Work) (n : Nat) : Work :=
  let w := w.modInteg n (fun _ => Integ.init)
  let w := (List.range 64).foldl (fun w k => w.put F.INTEG_ELEM_STATES 0 n k) w
  let w := (List.range 80).foldl (fun w m => w.put F.INTEG_LINE_STATE 0 n m) w
  w.showInteg n

/-! ### The elements lit in a tick (R132, R134, R170, R171, R176) -/

/-- Whether a field shows its pattern in the running tick, or has all its elements off: the rhythm of its policy, of its
staleness, or of its blink group. -/
def Work.fieldOn (w : Work) (n f : Nat) (policy : Nat) : Bool :=
  if policy = 2 then (if w.curFlag F.INTEG_POL_FLASH_CLK n f then w.slowOn w.tick else w.fastOn w.tick)
  else if policy = 1 then true
  else if w.flag F.MASH_FSTAT_FLASHING n f then w.slowOn w.tick
  else match w.blinkEntry F.BLINK_FIELD_ENTRIES n f with
    | some g => w.groupOn n g
    | none => true

/-- The elements of a field, and whether each is lit (R132). -/
def Work.fieldLit (w : Work) (n f : Nat) (fd : FieldDef) : List (Nat × Bool) :=
  let policy := if (w.chan n).integ.inForce.contains f then w.actingPolicy n f else 0
  let on := w.fieldOn n f policy
  let es : List (Nat × Bool) :=
    if policy = 1 then
      if w.curFlag F.INTEG_POL_FAULT_DASH n f then w.fieldDraw n fd (w.dashMasks n fd) false
      else (w.fieldElems n fd).map (fun e => (e, false))
    else
      let (ms, drawn) := w.shownMasks n f fd
      (w.fieldDraw n fd ms false).map (fun x =>
        if fd.units.contains x.1 then (x.1, drawn && w.planeBit (w.frontImage n) x.1) else x)
  es.map (fun x => (x.1, x.2 && on))

/-- The digits whose pre-drivers a field's policy holds off (R134). -/
def Work.digitsHeldOff (w : Work) (n f : Nat) (fd : FieldDef) : List Nat :=
  if (w.chan n).seq.act.isLcd ∨ !(w.chan n).integ.inForce.contains f ∨ !w.curFlag F.INTEG_POL_DIGIT_OFF n f then []
  else
    let p := w.actingPolicy n f
    if p = 1 ∨ (p = 2 ∧ !w.fieldOn n f 2) then
      ((w.fieldElems n fd).filter (fun e => decide (2 ≤ w.elemState n e))).map (· / 64)
    else []

/-- A field shows its dash pattern: stale, at its start, or under BLANK with FAULT_DASH (R133, R154, R156). -/
def Work.dashed (w : Work) (n f : Nat) (fd : FieldDef) : Bool :=
  if (w.chan n).integ.inForce.contains f ∧ w.actingPolicy n f = 1 then w.curFlag F.INTEG_POL_FAULT_DASH n f
  else w.overlay n f fd == 1

/-- The elements lit in the running tick, in rising order (R132): raw elements by their blink groups, fields, marks and
alert icons; a digit that is held off is dark. -/
def Work.buildLit (w : Work) (n : Nat) : Work :=
  let img := w.frontImage n
  let fs := (List.range 128).filterMap (fun f => (w.fieldDef n f).map (fun fd => (f, fd)))
  let marks := (fs.filter (fun x => w.policyOf n x.1 == 3)).map (fun x =>
    (w.cur F.INTEG_POL_MARK_ELEM n x.1, (w.chan n).integ.inForce.contains x.1 && w.actingPolicy n x.1 == 3))
  let fields := (fs.map (fun x => w.fieldLit n x.1 x.2)).flatten
  let alerts := ((List.range (w.alertN n)).map (fun a =>
    let d := w.alertDef n a
    if d.icon then
      match w.posDef n d.pos with
      | some p => (p.elems.filterMap id).map (fun e => (e, w.alertOn n a))
      | none => []
    else [])).flatten
  let off := (fs.map (fun x => w.digitsHeldOff n x.1 x.2)).flatten
  let drawn := fields ++ alerts ++ marks
  let lit := (List.range 1024).filter (fun e =>
    let on := if drawn.any (fun x => x.1 == e) then drawn.any (fun x => x.1 == e && x.2)
      else w.planeBit img e && (w.owned n e || (match w.blinkEntry F.BLINK_ELEM_ENTRIES n e with
        | some g => w.groupOn n g
        | none => true))
    on && !off.contains (e / 64))
  let w := if fs.any (fun x => w.dashed n x.1 x.2 && w.dashMissing n x.2) then w.raise F.MASH_ERR_SRC_RANGE n else w
  w.modChan n (fun c => { c with blink := { c.blink with
    lit := lit, digitsOff := off, shownAt := w.blinkTick n } })

/-- FIELD_STALE. The field becomes stale at the boundary that begins the running tick: the pattern shown, the
evaluation of the field and its policy follow (R126, R132, R154). A channel whose plan does not run shows nothing. -/
def execFieldStale (ch : Fin 8) (f : Fin 128) (s : State) : Host.Outcome State Fault Refusal :=
  .next (s.run (fun w =>
    let idle := !(w.chan ch).planRuns
    let w := fieldStale w ch f
    if idle then w else
    let w := if (w.chan ch).standby ∨ (w.chan ch).blockHeld 8 then w else ((w.policyStep ch f w.ended).markFallback ch).showInteg ch
    (w.buildLit ch).closeBatch ch))

end Sys2Proof.Machine
end

