-- ==== Sys2Proof/Machine/Lamp.lean ====
section
/-! DEFINITION. The lamp string and lamp functions (11_lamp_strings.md). -/

namespace Sys2Proof.Machine

/-- The lamp string changed. -/
def Work.modStr (w : Work) (n : Nat) (f : LampStr → LampStr) : Work := w.modChan n (fun c => { c with lamp := f c.lamp })

/-- Lamp `k` of a channel. -/
def Work.lampOf (w : Work) (n k : Nat) : Lamp := (w.chan n).lamp.lamps.getD k Lamp.init

/-- Lamp `k` changed. -/
def Work.modLamp (w : Work) (n k : Nat) (f : Lamp → Lamp) : Work :=
  w.modStr n (fun s => { s with lamps := modAt s.lamps k f })

/-- Position `k` is fitted (R233). -/
def Work.fitted (w : Work) (n k : Nat) : Bool := bitOf (w.cur F.LAMP_CFG_FITTED n) k

/-- The fitted positions. -/
def Work.fittedLamps (w : Work) (n : Nat) : List Nat := (List.range 12).filter (fun k => w.fitted n k)

/-! ### Functions (R235, R236) -/

/-- The function of string lamp `k`; an unfitted position belongs to none (R233). -/
def Work.fnOfLamp (w : Work) (n k : Nat) : Option Nat :=
  if w.fitted n k then ((w.fns n).find? (fun x => bitOf x.2.lamps k)).map (·.1) else none

/-- A UF-16 output as line × 256 + node × 16 + output, the low bits of a member entry. -/
def ufKey (line node out : Nat) : Nat := 256 * line + 16 * node + out

/-- The function of a UF-16 output. -/
def Work.fnOfUf (w : Work) (n uf : Nat) : Option Nat :=
  ((w.fns n).find? (fun x => x.2.ufs.any (fun u => u % 512 == uf))).map (·.1)

/-- A function is held off (R245). -/
def Work.heldOff (w : Work) (n f : Nat) : Bool := (w.chan n).lamp.heldOff.any (fun x => x.1 == f)

/-- A member of a function is failed (R233, R245). -/
def Work.memberFailed (w : Work) (n : Nat) (d : FnDef) : Bool :=
  (w.fittedLamps n).any (fun k => bitOf d.lamps k && (w.lampOf n k).state != 0) ||
    d.ufs.any (fun u => (w.chan n).lamp.ufFailed.contains (u % 512))

/-- The demand M of a function (R236): its written level, or LEVEL while an alert that names it presents on. -/
def Work.demand (w : Work) (n f : Nat) (d : FnDef) : Nat :=
  let a := (List.range (w.alertN n)).any (fun a =>
    let r := w.alertDef n a
    r.lamp && r.fn == f && w.alertOn n a)
  Nat.max (tabGet (w.chan n).lamp.level 0 f) (if a then d.level else 0)

/-- The duty of a function in the running tick (R236). -/
def Work.fnDuty (w : Work) (n f : Nat) (d : FnDef) : Nat :=
  let m := w.demand n f d
  let x := if d.dimEn then divRound (m * w.get F.BLINK_DIMD_D n d.dimGrp) 65535 else m
  let on : Bool := match d.bsrc with
    | 1 => w.groupOn n d.grp
    | 2 => w.fastOn (w.blinkTick n)
    | 3 => w.slowOn (w.blinkTick n)
    | _ => true
  if on ∧ !w.heldOff n f then x else 0

/-! ### Registers -/

/-- LAMP_LST, LAMP_FNFAIL, LAMP_FNOFF and PUMP_READY shown. -/
def Work.showLamps (w : Work) (n : Nat) : Work :=
  let w := (List.range 12).foldl (fun w k =>
    let l := w.lampOf n k
    let w := w.put F.LAMP_LST_STATE (if w.fitted n k then l.state else 3) n k
    let w := w.putFlag F.LAMP_LST_RECHECK l.recheck n k
    w.putFlag F.LAMP_LST_DUE l.due n k) w
  let failed := (w.fns n).filter (fun x => w.heldOff n x.1 || w.memberFailed n x.2)
  let w := w.put F.LAMP_FNFAIL_FAILED (listMask (failed.map (·.1))) n
  let w := w.put F.LAMP_FNOFF_OFF (listMask ((w.chan n).lamp.heldOff.map (·.1))) n
  w.putFlag F.LAMP_STAT_PUMP_READY ((w.fittedLamps n).all (fun k => (w.lampOf n k).pump) && w.curFlag F.LAMP_CFG_EN n) n

/-! ### Open intervals (R237, R242, R247, R255) -/

/-- The running tick in cycles, with its lock correction and a phase step (R44, R45). -/
def Work.tickCycles (w : Work) : Nat := w.tickLen + w.lock.stretch

/-- T_W (R237): the planned end of the DIAG lamp window in cycles, or the boundary, `len` cycles into the tick, where the plan
has no such window. -/
def PlanSet.lampTw (p : PlanSet) (len : Nat) : Nat :=
  match (List.range p.slots.length).find? (fun i => slotKind (p.slots.getD i 0) == kDiag && slotL (p.slots.getD i 0) == 1) with
  | some i => ((p.slots.take i).map slotDur).sum + 600
  | none => len

/-- The intervals of a tick of `len` cycles in which the switch of a lamp with on-time `out` is open (R237): a lock correction
or a phase step moves only the one that ends at the boundary. -/
def openIntervals (tw len out : Nat) : List (Nat × Nat) :=
  if out ≤ tw then [(tw - out, tw)] else [(0, tw), (len - (out - tw), len)]

/-- The lamp window of the running tick has run, runs or is still to run: its DIAG slot has not been dropped (R41, R242). -/
def Chan.windowLives (c : Chan) : Bool :=
  let has := fun (x : SlotRun) => x.kind == kDiag && slotL (c.seq.act.slots.getD x.idx 0) == 1
  c.lamp.winRan || c.seq.todo.any has || (match c.seq.cur with | some x => has x | none => false)

/-- The switches stand open, the string dark: in the reset posture, on a standby, held by the Bung, with LAMP held, and with
the string not in use (R251, R253, R254, R399). -/
def Work.switchesOpen (w : Work) (n : Nat) : Bool :=
  [stReset, stIsolated].contains (w.chState n) || (w.chan n).standby || bitOf (w.get F.PWR_STAT_LATCHED) n ||
    (w.chan n).blockHeld 5 || !w.curFlag F.LAMP_CFG_EN n

/-- Switch `k` is forced, and how: open or closed (R255). -/
def Work.forced (w : Work) (n k : Nat) : Option Bool :=
  if w.curFlag F.LAMP_FORCE_FORCE_EN n then some (bitOf (w.cur F.LAMP_FORCE_OPEN n) k) else none

/-- The intervals of the running tick in which switch `k` is open, what hardware closes left aside. Up to the restart that an
image brings, the string stays as it stood (R252). A dark string's switches are open throughout, and so is one whose pump is
not ready; from then on it is closed until the source is on, and an unfitted one always (R233, R251). A pulse and a retry take
the lamp window alone, where it runs (R237, R242, R247, R255). -/
def Work.switchIntervals (w : Work) (n k : Nat) : List (Nat × Nat) :=
  let l := w.lampOf n k
  let len := w.tickCycles
  let tw := (w.chan n).seq.act.lampTw len
  let sen := w.flag F.LAMP_STAT_SEN n
  match (w.chan n).lamp.frozen with
  | some is => is.getD k []
  | none =>
    if w.switchesOpen n ∨ (!l.pump ∧ (w.fitted n k ∨ !sen)) then [(0, len)]
    else if !sen ∨ !w.fitted n k then []
    else match w.forced n k with
      | some b => if b then [(0, len)] else []
      | none =>
        if l.pulse.isSome ∨ l.retry then (if (w.chan n).windowLives then [(tw - 400, tw)] else [])
        else openIntervals tw len l.out

/-- Switch `k` opens at some time in the running tick. -/
def Work.opens (w : Work) (n k : Nat) : Bool := (w.switchIntervals n k).any (fun i => decide (i.1 < i.2))

/-- Hardware closes switch `k` (R239, R246): one that was open has tripped, and where the DIAG slot is in progress, or the
switch opens for the window alone, that may fall inside the lamp window. A pulse of the tick keeps its debt, which it takes as
its window runs (R242). -/
def Work.closeSwitch (w : Work) (n k : Nat) : Work :=
  let open_ := w.opens n k
  let diag := ((w.chan n).seq.cur.map (·.kind)) == some kDiag
  w.modLamp n k (fun l => { l with
    tripped := l.tripped || open_
    inWindow := l.inWindow || (open_ && !l.tripped && (diag || l.pulse.isSome || l.retry)), out := 0 })

/-! ### Declarations (R239, R240, R245, R246, R250) -/

/-- VALUE of a LAMP_FAIL entry. -/
def lampValue (f : Option Nat) (cause vLamp : Nat) : Nat := f.getD 0xFF + 256 * cause + 2 ^ 16 * vLamp

/-- A member's failure: a FUNCTION_OFF or FUNCTION_OFF_LATCHED function is held off, its switches close, and its entry
is written at once, stamped with tick `t` (R245, R246). -/
def Work.holdOff (w : Work) (n : Nat) (f : Option Nat) (code t : Nat) : Work :=
  match f with
  | none => w
  | some f =>
    let d := w.fnDef n f
    if (d.policy = 1 ∨ d.policy = 2) ∧ !w.heldOff n f then
      let w := w.modStr n (fun s => { s with heldOff := s.heldOff ++ [(f, code, false)] })
      let w := (maskList d.lamps 12).foldl (fun w k => w.closeSwitch n k) w
      w.raiseEntry n ⟨0x29, f, if d.policy = 2 then 2 else 0, d.id + 2 ^ 16 * code, t % 2 ^ 32⟩
    else w

/-- A string lamp declared OPEN (1) or SHORT (2), with its entry at once. -/
def Work.declareLamp (w : Work) (n k st vLamp : Nat) : Work :=
  let f := w.fnOfLamp n k
  let w := (w.closeSwitch n k).modLamp n k (fun l => { l with
    state := st, fails := 0, passes := 0, recheck := false, due := false, tripped := true })
  let w := (w.raise (if st = 1 then F.LAMP_STAT_OPEN else F.LAMP_STAT_SHORT) n).ev 0x27 n
  let w := w.entryNow n 0x28 k 0 (lampValue f (st - 1) vLamp)
  (w.holdOff n f k w.tick).showLamps n

/-- A failed lamp becomes OK, with its END entry (R247, R250). -/
def Work.lampOk (w : Work) (n k vLamp : Nat) : Work :=
  let st := (w.lampOf n k).state
  let w := w.modLamp n k (fun l => { l with state := 0, passes := 0, fails := 0, recheck := false })
  (w.entryNow n 0x28 k 1 (lampValue (w.fnOfLamp n k) (st - 1) vLamp)).showLamps n

/-- The switches are driven: the string runs, and LAMP is not held (R251, R399). -/
def Work.stringRuns (w : Work) (n : Nat) : Bool :=
  w.curFlag F.LAMP_CFG_EN n && !(w.chan n).blockHeld 5 && w.flag F.LAMP_STAT_SEN n && !(w.chan n).standby

/-- LAMP_OPEN_TRIP (R239): switch `k` is closed by hardware, and the lamp is declared OPEN, a SHORT one whose retry or force
trips too; a retry fails (R247). On a standby, whose switches are all open, it raises SHADOW (R254, R365). -/
def lampOpenTrip (w : Work) (n k : Nat) : Work :=
  let l := w.lampOf n k
  if (w.chan n).standby then (if w.fitted n k ∧ w.curFlag F.LAMP_CFG_EN n then w.raiseShadow n k else w)
  else if w.fitted n k ∧ w.stringRuns n ∧ w.opens n k ∧ !l.tripped then
    if l.state = 0 then w.declareLamp n k 1 0
    else if l.state = 2 then
      ((w.declareLamp n k 1 0).modLamp n k (fun x => { x with recheck := l.recheck, retried := true })).showLamps n
    else (w.closeSwitch n k).modLamp n k (fun l => { l with passes := 0, retried := true })
  else w

/-- LAMP_OPEN_TRIP. -/
def execLampOpenTrip (ch : Fin 8) (k : Fin 12) (s : State) : Host.Outcome State Fault Refusal :=
  .next (s.run (fun w => lampOpenTrip w ch k))

/-! ### The lamp window (R240, R242, R247) -/

/-- Switch `k` stands open through the whole lamp window. -/
def Work.windowOpen (w : Work) (n k : Nat) : Bool :=
  let tw := (w.chan n).seq.act.lampTw w.tickCycles
  !(w.lampOf n k).tripped && (w.switchIntervals n k).any (fun i => decide (i.1 ≤ tw - 400) && decide (tw ≤ i.2))

/-- Switch `k` stands closed through the whole lamp window: it never opens there, or hardware closed it before. -/
def Work.windowClosed (w : Work) (n k : Nat) : Bool :=
  let l := w.lampOf n k
  let tw := (w.chan n).seq.act.lampTw w.tickCycles
  if l.tripped then !l.inWindow
  else (w.switchIntervals n k).all (fun i => decide (i.2 ≤ tw - 400) || decide (tw ≤ i.1))

/-- The running DIAG slot has a lamp window, which comes before its line groups and is captured once (R38). -/
def Chan.lampWindow (c : Chan) : Bool :=
  match c.seq.cur with
  | some sl => sl.kind == kDiag && slotL (c.seq.act.slots.getD sl.idx 0) == 1 && c.seq.diagPhase == 0
  | none => false

/-- One lamp measured, at `v` mV (R240, R247). -/
def Work.measureLamp (w : Work) (n k v : Nat) : Work :=
  let v10 := (roundOpen v 10).toNat
  let w := w.ev 0x26 n
  let w := w.put F.LAMP_LST_V_LAMP v10 n k
  let w := w.modLamp n k (fun l => { l with due := false, unverRep := false })
  let l := w.lampOf n k
  if l.state = 0 then
    if 1000 ≤ v then w.modLamp n k (fun l => { l with fails := 0 })
    else if 1 ≤ l.fails then w.declareLamp n k 2 v10
    else w.modLamp n k (fun l => { l with fails := 1 })
  else if !l.retry then w
  else if v < 1000 then w.modLamp n k (fun l => { l with passes := 0 })
  else if 1 ≤ l.passes then w.lampOk n k v10
  else w.modLamp n k (fun l => { l with passes := 1 })

/-- LAMP_WINDOW_CAPTURE (R240): SN00 to SN12 in mV. The debts of pulses follow whether or not the results are discarded
(R242). The window of the period's retries has run: a lamp that fails later waits for the next period (R247). -/
def lampWindowCapture (w : Work) (n : Nat) (mv : List Nat) : Work :=
  if !(w.chan n).lampWindow ∨ !w.stringRuns n then w
  else
    let w := (w.modSeq n (fun s => { s with diagPhase := 1 })).modStr n (fun s => { s with winRan := true })
    let v := fun k => mv.getD k 0 - mv.getD (k + 1) 0
    let fit := w.fittedLamps n
    let op := fit.filter (fun k => w.windowOpen n k)
    let cl := fit.filter (fun k => w.windowClosed n k)
    let dead := (!op.isEmpty || !cl.isEmpty) && op.all (fun k => decide (v k < 1000)) && cl.all (fun k => decide (v k < 20))
    let w := (List.range 12).foldl (fun w k => w.putFlag F.LAMP_LST_WINDOW (op.contains k) n k) w
    let w := fit.foldl (fun w k =>
      let l := w.lampOf n k
      let w := w.modLamp n k (fun l => { l with
        retried := true, out := if (l.pulse.isSome || l.retry) && !l.tripped then 400 else l.out })
      match l.pulse with
      | some rest => (w.ev 0x25 n).modLamp n k (fun l => { l with debt := Nat.min 400 (l.debt + 400 - rest) })
      | none => w) w
    if dead then
      op.foldl (fun w k => w.modLamp n k (fun l => { l with due := false })) (w.raise F.LAMP_STAT_SRC_FAULT n)
    else
      let w := op.foldl (fun w k => w.measureLamp n k (v k)) w
      let w := cl.foldl (fun w k =>
        (w.put F.LAMP_LST_V_SW (Nat.min 4095 (v k)) n k).modLamp n k (fun l => { l with vsw := some (v k) })) w
      w.showLamps n

/-- LAMP_WINDOW_CAPTURE. -/
def execLampWindowCapture (ch : Fin 8) (mv : List Nat) (s : State) : Host.Outcome State Fault Refusal :=
  .next (s.run (fun w => lampWindowCapture w ch mv))

/-! ### A new tick (R237, R242, R247) -/

/-- A lamp has a diagnostic pulse in this tick (R242): `d` its duty, `rest` the on-time it would have. -/
def Work.pulseDue (w : Work) (n : Nat) (l : Lamp) (d rest : Nat) : Bool :=
  l.due && decide (0 < d) && decide (rest < 400) && w.curFlag F.LAMP_CFG_PULSE_EN n

/-- A failed lamp is retried in this tick (R247). -/
def Work.retryDue (w : Work) (n k : Nat) (l : Lamp) : Bool :=
  let policy := match w.fnOfLamp n k with | some f => (w.fnDef n f).policy | none => 0
  l.state != 0 && (l.recheck || (policy == 1 && !l.retried))

/-- One lamp's on-time, pulse and retry for the new tick. -/
def Work.lampTick (w : Work) (n k : Nat) : Work :=
  let l := w.lampOf n k
  let d := match w.fnOfLamp n k with
    | some f => if l.state = 0 then tabGet (w.chan n).lamp.duty 0 f else 0
    | none => 0
  let on := divRound (d * (w.periodUs * 200)) 65536
  let r := Nat.min on l.debt
  let rest := on - r
  let pulse := w.pulseDue n l d rest
  w.modLamp n k (fun l => { l with
    debt := l.debt - r, out := if pulse then 0 else rest, pulse := if pulse then some rest else none,
    retry := w.retryDue n k l, tripped := false, inWindow := false })

/-- LAMP_DUTY_UPDATE (R233, R236, R237, R242) for the tick that begins: duties, on-times and pulses; an unfitted position
has none, and its switch stays closed. -/
def Work.lampStep (w : Work) (n : Nat) : Work :=
  let duties := (w.fns n).map (fun x => (x.1, w.fnDuty n x.1 x.2))
  let w := w.modStr n (fun s => { s with duty := duties })
  let w := (List.range 12).foldl (fun w k =>
    if w.fitted n k then w.lampTick n k
    else w.modLamp n k (fun l => { Lamp.init with pump := l.pump, pumpAll := l.pumpAll })) w
  let code := divRound (w.cur F.LAMP_SRC_ISET n * w.get F.LAMP_GOV_GAIN n) 65536
  (w.put F.LAMP_GOV_SIREF_ACT code n).showLamps n

/-- The ending tick of a running channel: its lit lamps are noted (R244). -/
def Work.lampEnd (w : Work) (n : Nat) : Work :=
  (w.fittedLamps n).foldl (fun w k =>
    let d := match w.fnOfLamp n k with | some f => tabGet (w.chan n).lamp.duty 0 f | none => 0
    w.modLamp n k (fun l => { l with litSeen := l.litSeen || (decide (0 < d) && l.state == 0) })) w

/-- LAMP_DIAG_PERIOD (R242, R244): a period begins with the running tick. Lamps that were lit and are still due are
unverified; every fitted lamp that is not failed becomes due, and its pulse and a retry fall in this tick. What cause
an unverified lamp's entry carries, the spec does not say. -/
def lampDiagPeriod (w : Work) (n : Nat) : Work :=
  let p := w.cur F.LAMP_CFG_DIAG_P n
  if w.tick % p = 0 ∧ w.curFlag F.LAMP_CFG_EN n ∧ (w.chan n).planRuns ∧ !(w.chan n).blockHeld 5 then
    let w := (w.fittedLamps n).foldl (fun w k =>
      let l := w.lampOf n k
      let un := l.litSeen && l.due && l.state == 0 && !(w.chan n).standby
      let w := if un then w.raise F.LAMP_STAT_UNVERIFIED n else w
      let w := if un ∧ !l.unverRep then
          let (c, w) := w.fresh 2
          (w.entryNow n 0x28 k 2 (lampValue (w.fnOfLamp n k) c 0)).modLamp n k (fun l => { l with unverRep := true })
        else w
      let d := match w.fnOfLamp n k with | some f => tabGet (w.chan n).lamp.duty 0 f | none => 0
      w.modLamp n k (fun l =>
        let l := { l with litSeen := false, due := l.state == 0, retried := false }
        let pulse := w.pulseDue n l d l.out && l.pulse.isNone
        { l with out := if pulse then 0 else l.out, pulse := if pulse then some l.out else l.pulse,
                 retry := w.retryDue n k l })) w
    w.showLamps n
  else w

/-- LAMP_DIAG_PERIOD. -/
def execLampDiagPeriod (ch : Fin 8) (s : State) : Host.Outcome State Fault Refusal :=
  .next (s.run (fun w => lampDiagPeriod w ch))

/-! ### Boundary effects (R245, R248, R251) -/

/-- LAMP_CLR acts (R248): failed lamps enter RECHECK. One that names a function the table does not define clears nothing. -/
def Work.applyLampClr (w : Work) (n : Nat) : Work :=
  let cs := (w.chan n).lamp.clr
  let w := w.modStr n (fun s => { s with clr := [] })
  (cs.filter (fun c => match c with | none => true | some f => decide (f < w.fnN n))).foldl (fun w c =>
    let ks := match c with
      | none => List.range 12
      | some f => maskList (w.fnDef n f).lamps 12
    let w := ks.foldl (fun w k => w.modLamp n k (fun l => { l with recheck := l.recheck || l.state != 0 })) w
    w.modStr n (fun s => { s with heldOff := s.heldOff.map (fun x =>
      if c = none ∨ c = some x.1 then (x.1, x.2.1, true) else x) })) w

/-- Functions that return to service at the boundary that ends tick `t`: none of their members is failed any more, and
a latched one has been cleared (R245, R247). -/
def Work.returnFns (w : Work) (n t : Nat) : Work :=
  (w.chan n).lamp.heldOff.foldl (fun w x =>
    let d := w.fnDef n x.1
    if !w.memberFailed n d ∧ (d.policy ≠ 2 ∨ x.2.2) then
      let w := w.modStr n (fun s => { s with heldOff := s.heldOff.filter (fun y => y.1 != x.1) })
      w.raiseEntry n ⟨0x29, x.1, if d.policy = 2 then 3 else 1, d.id + 2 ^ 16 * x.2.1, t % 2 ^ 32⟩
    else w) w

/-- The string is in use: it is enabled, and LAMP is not held (R399). -/
def Work.stringOn (w : Work) (n : Nat) : Bool := w.curFlag F.LAMP_CFG_EN n && !(w.chan n).blockHeld 5

/-- SEN_ASSERT (R251): CHn_SEN_N falls at the first boundary at which every fitted pump was ready throughout the preceding
tick; a standby releases it (R254). -/
def Work.senStep (w : Work) (n : Nat) : Work :=
  let on := w.stringOn n
  let ready := (w.fittedLamps n).all (fun k => (w.lampOf n k).pumpAll)
  let w := if !on ∨ (w.chan n).standby then w.putFlag F.LAMP_STAT_SEN false n
    else if ready then w.putFlag F.LAMP_STAT_SEN true n else w
  (List.range 12).foldl (fun w k => w.modLamp n k (fun l => { l with pumpAll := l.pump && on })) w

/-- PUMP_READY (R251, R393): a charge pump that has been started becomes ready, and its switch closes; on a standby it stays
open (R254). -/
def pumpReady (w : Work) (n k : Nat) : Work :=
  if (w.chan n).lamp.pumpsOn ∧ w.stringOn n then
    (w.modLamp n k (fun l => { l with pump := true })).showLamps n
  else w

/-- PUMP_READY. -/
def execPumpReady (ch : Fin 8) (k : Fin 12) (s : State) : Host.Outcome State Fault Refusal :=
  .next (s.run (fun w => pumpReady w ch k))

/-- LAMP_LST.WINDOW at the boundary that ends a tick: no lamp was open through a window that did not run (R238). -/
def Work.endWindow (w : Work) (n : Nat) : Work :=
  let w := if (w.chan n).lamp.winRan then w
    else (List.range 12).foldl (fun w k => w.putFlag F.LAMP_LST_WINDOW false n k) w
  w.modStr n (fun s => { s with winRan := false })

/-- The boundary of a channel whose plan does not run: every lamp keeps the open intervals of its last tick, a pulse or a retry
the window that it had there, if it ran, but what hardware closed stays closed; failures and returns show (R245, R250, R252). -/
def Work.lampHold (w : Work) (n : Nat) : Work :=
  ((List.range 12).foldl (fun w k => w.modLamp n k (fun l =>
    { l with tripped := false, inWindow := false, out := if l.tripped then 0 else l.out, pulse := none, retry := false })) w).showLamps n

/-- The string goes dark: no lamp has an on-time, and CHn_SEN_N is released (R253, R254). -/
def Work.stringDark (w : Work) (n : Nat) : Work :=
  let w := (List.range 12).foldl (fun w k =>
    w.modLamp n k (fun l => { l with out := 0, pulse := none, retry := false })) w
  w.putFlag F.LAMP_STAT_SEN false n

/-- The string in its dark posture: switches open, CHn_SEN_N released, the pumps stopped (R251, R253). -/
def Work.stringOff (w : Work) (n : Nat) : Work :=
  let w := (List.range 12).foldl (fun w k => w.modLamp n k (fun l => { l with pump := false, pumpAll := false })) (w.stringDark n)
  (w.putFlag F.LAMP_STAT_PUMP_READY false n).modStr n (fun s => { s with pumpsOn := false, frozen := none })

/-! ### The switch governor (R249) -/

/-- The cycles for which switch `k` stood open in the ending tick: those of its intervals (R237, R242, R247, R251). When a trip
or a declaration closed it, or its pump became ready, the spec gives no time. -/
def Work.openCycles (w : Work) (n k : Nat) : Nat × Work :=
  let l := w.lampOf n k
  let len := w.tickCycles
  if (l.pump ∧ !l.pumpAll) ∨ l.tripped then
    let (x, w) := w.fresh 20
    (Nat.min x len, w)
  else (Nat.min ((w.switchIntervals n k).map (fun i => i.2 - i.1)).sum len, w)

/-- P_tick of the string in µW (R249). -/
def Work.switchPower (w : Work) (n : Nat) : Nat × Work :=
  let full := w.periodUs * 200
  let len := w.tickCycles
  let istr := w.cur F.LAMP_SRC_ISTR_MA n
  let code := w.get F.LAMP_GOV_SIREF_ACT n
  let (sum, w) := (List.range 12).foldl (fun (p : Nat × Work) k =>
    let (o, w) := p.2.openCycles n k
    let v := match (w.lampOf n k).vsw with
      | some mv => 10230 * mv
      | none => 6 * istr * code
    (p.1 + (len - o) * v, w)) (0, w)
  ((roundOpen (istr * code * sum : Nat) (1023 * full * 10230)).toNat, w)

/-- The switch estimate of the ending tick, and every 16 ticks the decision that falls due (R249). -/
def Work.switchEstimate (w : Work) (n t' : Nat) : Work :=
  let (p, w) := w.switchPower n
  let w := w.modStr n (fun s => { s with est := (p :: s.est).take 16, tickEst := some p })
  let w := w.put F.LAMP_PWR_TICK_MW (showMw p) n
  if t' % 16 = 0 then
    let w := w.put F.LAMP_PWR_EST_MW (showMw (meanEst (w.chan n).lamp.est)) n
    w.modStr n (fun s => { s with decide := true })
  else w

/-- A new G_S, its state, and the source code that follows it (R234). -/
def Work.setSwGain (w : Work) (n g : Nat) : Work :=
  let w := if w.get F.LAMP_GOV_GAIN n = g then w else w.ev 0x2C n
  let w := (w.put F.LAMP_GOV_GAIN g n).putFlag F.LAMP_GOV_STATE (decide (g < 65536)) n
  w.put F.LAMP_GOV_SIREF_ACT (divRound (w.cur F.LAMP_SRC_ISET n * g) 65536) n

/-- A reduction of G_S by estimate `p` against budget `cap`, with its entries (R249). -/
def Work.reduceSw (w : Work) (n code p cap : Nat) : Work :=
  let g := w.get F.LAMP_GOV_GAIN n
  let x := isqrt (g * g * 475 * cap / p)
  let g' := Nat.max 32768 x
  let w := ((w.setSwGain n g').putFlag F.LAMP_GOV_STATE true n).raise F.LAMP_STAT_GOV n
  let w := w.thermal n code p g'
  if x < 32768 then (w.raise F.LAMP_STAT_FLOOR n).thermal n 8 p g' else w

/-- SWITCH_GOV_FAST_STEP (R249). -/
def Work.switchFast (w : Work) (n : Nat) : Work :=
  let w := w.modStr n (fun s => { s with fastNow := false })
  match (w.chan n).lamp.tickEst with
  | none => w
  | some p =>
    let w := w.modStr n (fun s => { s with tickEst := none })
    let cap := w.budget (w.cur F.LAMP_GOV_CFG_SW_CAP_MW n)
    if w.curFlag F.LAMP_CFG_GOV_EN n ∧ 500 * cap < p then
      ((w.reduceSw n 6 p cap).raise F.LAMP_STAT_FAST n).modStr n (fun s => { s with fastNow := true })
    else w

/-- SWITCH_GOV_DECISION (R249): where the fast path acted at this boundary, the decision does nothing. -/
def switchGovDecision (w : Work) (n : Nat) : Work :=
  let s := (w.chan n).lamp
  if !s.decide then w
  else
    let p := meanEst s.est
    let cap := w.budget (w.cur F.LAMP_GOV_CFG_SW_CAP_MW n)
    let gov := w.curFlag F.LAMP_CFG_GOV_EN n && !s.fastNow
    let w :=
      if gov ∧ 475 * cap < p then w.reduceSw n 5 p cap
      else if gov ∧ w.flag F.LAMP_GOV_STATE n ∧ p < 425 * cap then
        let g := Nat.min 65536 (w.get F.LAMP_GOV_GAIN n * 33 / 32)
        let w := w.setSwGain n g
        if g = 65536 then w.thermal n 7 p g else w
      else w
    let w := if !s.fastNow ∧ 450 * cap < p ∧ s.prevAvg ≤ 450 * cap then
        (w.raise F.LAMP_STAT_WARN n).thermal n 4 p (w.get F.LAMP_GOV_GAIN n)
      else w
    (w.modStr n (fun s => { s with decide := false, prevAvg := p })).closeBatch n

/-- SWITCH_GOV_DECISION. -/
def execSwitchGovDecision (ch : Fin 8) (s : State) : Host.Outcome State Fault Refusal :=
  .next (s.run (fun w => switchGovDecision w ch))

/-- GOV_EN = 0 in force: G_S returns to 65,536, FREE (R249). -/
def Work.swGovDisabled (w : Work) (n : Nat) : Work :=
  if w.curFlag F.LAMP_CFG_GOV_EN n then w else w.setSwGain n 65536

end Sys2Proof.Machine
end

