-- ==== Sys2Proof/Machine/Psq.lean ====
section
/-! DEFINITION. The pin engines (13_pin_engines.md). An instruction's command executes the instruction that stands at the
engine's PC, where it is of that kind. -/

namespace Sys2Proof.Machine

/-- Engine `e` of a channel. -/
def Work.eng (w : Work) (n e : Nat) : Engine := (w.chan n).psq.getD e Engine.init

/-- WORD_BITS of an engine, 1 to 32. -/
def Work.wordBits (w : Work) (n e : Nat) : Nat :=
  let b := w.get F.PSQ_SHCFG_WORD_BITS n e
  if b = 0 then 32 else b

/-- The class of pin `p` (PSQ_PINCLS). -/
def Work.pinClass (w : Work) (n e p : Nat) : Nat := w.get R.PSQ_PINCLS n e / 4 ^ p % 4

/-- The pins of one class, ascending. -/
def Work.pinsOf (w : Work) (n e c : Nat) : List Nat := (List.range 16).filter (fun p => w.pinClass n e p == c)

/-- The pins of an engine that have a line, as a mask (R271). -/
def PlanSet.psqPins (p : PlanSet) (e : Nat) : Nat :=
  listMask (((p.ofRole 5).filter (fun x => x.2 / 16 == e)).map (fun x => x.2 % 16))

/-- Sampled pin levels: a pin with no line reads 0 (R271). -/
def Work.pinLevels (w : Work) (n e pins : Nat) : Nat := pins &&& (w.chan n).seq.act.psqPins e

/-- An engine's state shown in PSQ_STAT, PSQ_STATE, PSQ_GTR, PSQ_SPR, PSQ_CTR, PSQ_FSTAT. -/
def Work.showEng (w : Work) (n e : Nat) : Work :=
  let x := w.eng n e
  let stalled : Bool := match x.doing with | .stallWord | .stallShift _ _ => true | _ => false
  let left : Option Nat := match x.doing with | .stallShift k _ => some k | _ => none
  let w := w.put F.PSQ_STAT_STALLED (setBit (w.get F.PSQ_STAT_STALLED n) e stalled) n
  let run := bitOf (w.get F.PSQ_STAT_RUNNING n) e
  let w := w.put F.PSQ_STAT_FROZEN
    (setBit (w.get F.PSQ_STAT_FROZEN n) e (run && w.flag F.PSQ_SHCFG_TICK_SYNC n e && !x.window)) n
  let w := w.putFlag F.PSQ_STATE_PARTIAL left.isSome n e
  let w := w.put F.PSQ_STATE_STEPS_LEFT (left.getD 0) n e
  let w := w.put F.PSQ_STATE_FLAGS x.flags n e
  let w := w.put F.PSQ_STATE_GHELD x.gheld n e
  let w := w.put F.PSQ_STATE_SREM x.srem n e
  let w := ((w.put F.PSQ_GTR_GTR x.gtr n e).put F.PSQ_SPR_SPR x.spr n e).put F.PSQ_CTR_CTR x.ctr n e
  let w := w.put F.PSQ_FSTAT_TX_LEVEL x.tx.length n e
  let w := w.put F.PSQ_FSTAT_RX_LEVEL x.rx.length n e
  let w := w.put F.PSQ_FSTAT_RX_SEQ x.rxSeq n e
  w.put F.PSQ_RX_RX (x.rx.headD 0) n e

/-- An engine set, and shown. -/
def Work.setEng (w : Work) (n e : Nat) (x : Engine) : Work :=
  (w.modChan n (fun c => { c with psq := c.psq.set e x })).showEng n e

/-- An engine changed, and shown. -/
def Work.modEng (w : Work) (n e : Nat) (f : Engine → Engine) : Work := w.setEng n e (f (w.eng n e))

/-- The engine executes: it runs, stands inside its window, and is not held (R285, R289, R399). -/
def Work.engRuns (w : Work) (n e : Nat) : Bool :=
  bitOf (w.get F.PSQ_STAT_RUNNING n) e && !bitOf (w.get F.PSQ_STAT_FROZEN n) e && !(w.chan n).blockHeld 7

/-- The engine stands between instructions and may execute one. -/
def Work.engReady (w : Work) (n e : Nat) : Bool := w.engRuns n e && (w.eng n e).doing == .idle

/-- The PC of an engine. -/
def Work.pc (w : Work) (n e : Nat) : Nat := w.get F.PSQ_STATE_PC n e

/-- The instruction word at the PC. -/
def Work.instr (w : Work) (n e : Nat) : Nat := w.get F.PSQ_IMEM_INSTR n (64 * e + w.pc n e)

/-- The OP of an instruction word (R273). -/
def opOf (i : Nat) : Nat := bitsOf i 15 12

/-- A channel event pulsed to the engines that wait (R276); one that falls while an engine does other work is lost to it. -/
def Work.pulse (w : Work) (n idx : Nat) : Work :=
  (List.range 4).foldl (fun w e =>
    let x := w.eng n e
    match x.doing with
    | .await _ => if w.engRuns n e then w.setEng n e { x with events := setBit x.events idx true } else w
    | _ => w) w

/-- The loop pair adopted from its shadow (R288). -/
def Work.adoptLoop (w : Work) (n e : Nat) : Work :=
  let w := w.put F.PSQ_LOOP_HEAD_ACT (w.get F.PSQ_LOOP_LOOP_HEAD n e) n e
  let w := w.put F.PSQ_LOOP_TAIL_ACT (w.get F.PSQ_LOOP_LOOP_TAIL n e) n e
  w.put F.PSQ_STAT_LOOP_PEND (setBit (w.get F.PSQ_STAT_LOOP_PEND n) e false) n

/-- The cycle in which an engine started is over: a pulse that fell in it is past (R276). -/
def Work.pastStart (w : Work) (n e : Nat) : Work :=
  if (w.eng n e).events = 0 then w else w.modEng n e (fun x => { x with events := 0 })

/-- An instruction that is not a taken jump has ended: the PC advances, or wraps at the active LOOP_TAIL (R275, R288). -/
def Work.pcNext (w : Work) (n e : Nat) : Work :=
  let w := w.pastStart n e
  if w.pc n e = w.get F.PSQ_LOOP_TAIL_ACT n e then
    let w := if bitOf (w.get F.PSQ_STAT_LOOP_PEND n) e then w.adoptLoop n e else w
    (w.put F.PSQ_STATE_PC (w.get F.PSQ_LOOP_HEAD_ACT n e) n e).countWrap F.PSQ_PASSES_PASSES n e
  else w.put F.PSQ_STATE_PC ((w.pc n e + 1) % 64) n e

/-- A taken jump. -/
def Work.jump (w : Work) (n e a : Nat) : Work := (w.pastStart n e).put F.PSQ_STATE_PC (a % 64) n e

/-- An instruction of the named OP executed where it stands at the PC of an engine that is ready. -/
def Work.onOp (w : Work) (n e op : Nat) (f : Work → Nat → Work) : Work :=
  if w.engReady n e ∧ opOf (w.instr n e) = op then f w (w.instr n e) else w

/-- As `onOp`, with the CMD in bits 11 and 10 as well. -/
def Work.onCmd (w : Work) (n e op cmd : Nat) (f : Work → Nat → Work) : Work :=
  w.onOp n e op (fun w i => if bitsOf i 11 10 = cmd then f w i else w)

/-- A flag of an engine set or cleared. -/
def Work.setEngFlag (w : Work) (n e i : Nat) (b : Bool) : Work :=
  w.modEng n e (fun x => { x with flags := setBit x.flags i b })

/-! ### Instructions (R273 to R279, R283) -/

/-- NOP_INSTRUCTION. -/
def execNopInstruction (ch : Fin 8) (e : Fin 4) (s : State) : Host.Outcome State Fault Refusal :=
  .next (s.run (fun w => w.onOp ch e 0 (fun w _ => w.pcNext ch e)))

/-- AWAIT begins; `pins` are the levels the engine sampled in its last cycle (R276). Where the engine starts with it, a pulse in
that very cycle counts. -/
def execAwait (ch : Fin 8) (e : Fin 4) (pins : Nat) (s : State) : Host.Outcome State Fault Refusal :=
  .next (s.run (fun w => w.onOp ch e 1 (fun w i =>
    w.modEng ch e (fun x => { x with doing := .await (bitOf (w.pinLevels ch e pins) (bitsOf i 7 4)) }))))

/-- The condition of an AWAIT in a cycle with these levels (R276). -/
def awaitHolds (i levels : Nat) (prev : Bool) (x : Engine) : Bool :=
  let idx := bitsOf i 7 4
  let pol := bitOf i 8
  match bitsOf i 10 9 with
  | 0 => bitOf levels idx == pol
  | 1 => bitOf levels idx == pol && prev != pol
  | 2 => bitOf x.flags (idx % 4) == pol && decide (idx < 4)
  | _ => bitOf x.events idx && pol

/-- AWAIT_END: a cycle of the AWAIT, in which it ends if its condition holds or its count has run out (R276). -/
def awaitEnd (w : Work) (n e pins : Nat) : Work :=
  let x := w.eng n e
  match x.doing with
  | .await prev =>
    if !w.engRuns n e then w
    else
      let i := w.instr n e
      let levels := w.pinLevels n e pins
      let t := bitOf i 11
      if awaitHolds i levels prev x then
        (w.setEng n e { x with doing := .idle, events := 0, flags := if t then setBit x.flags 3 false else x.flags }).pcNext n e
      else if t ∧ x.ctr = 0 then
        (w.setEng n e { x with doing := .idle, events := 0, flags := setBit x.flags 3 true }).pcNext n e
      else w.setEng n e { x with doing := .await (bitOf levels (bitsOf i 7 4)), ctr := if t then x.ctr - 1 else x.ctr }
  | _ => w

/-- AWAIT_END. -/
def execAwaitEnd (ch : Fin 8) (e : Fin 4) (pins : Nat) (s : State) : Host.Outcome State Fault Refusal :=
  .next (s.run (fun w => awaitEnd w ch e pins))

/-- Bit `i` of a value to the i-th of a list of pins, in a 16-bit latch. -/
def latchPins (old v : Nat) (pins : List Nat) : Nat :=
  ((List.range pins.length).zip pins).foldl (fun m x => setBit m x.2 (bitOf v x.1)) old

/-- EMIT. -/
def execEmit (ch : Fin 8) (e : Fin 4) (s : State) : Host.Outcome State Fault Refusal :=
  .next (s.run (fun w => w.onOp ch e 2 (fun w i =>
    let pins := w.pinsOf ch e 3
    let v := bitsOf i 10 6
    (w.modEng ch e (fun x =>
      if bitOf i 11 then { x with dir := latchPins x.dir v pins } else { x with out := latchPins x.out v pins })).pcNext ch e)))

/-- Steps of a GATHER or SPILL: N, where 0 stands for 32. -/
def shiftSteps (i : Nat) : Nat := if bitsOf i 11 7 = 0 then 32 else bitsOf i 11 7

/-- CLK_PIN at its idle level in cycle a of a step with CLK, and again from the cycle after b on (R277). -/
def Work.clockIdle (w : Work) (n e i : Nat) (x : Engine) : Engine :=
  if bitOf i 6 then { x with out := setBit x.out (w.get F.PSQ_SHCFG_CLK_PIN n e) (w.flag F.PSQ_SHCFG_CLK_POL n e) } else x

/-- The engine cycles of a step that leaves the engine as `x`, each with the output levels it holds: a, and with CLK b, in which
CLK_PIN stands at its active level (R277). -/
def Work.stepCycles (w : Work) (n e i : Nat) (x : Engine) : Work :=
  let w := w.send ⟨6, 4 * n + e, 0, 0, leBytes 2 x.out⟩
  if bitOf i 6 then
    let out := setBit x.out (w.get F.PSQ_SHCFG_CLK_PIN n e) (!w.flag F.PSQ_SHCFG_CLK_POL n e)
    w.send ⟨6, 4 * n + e, 1, 0, leBytes 2 out⟩
  else w

/-- The i-th of a list of pins in bit `i` of a sample. -/
def samplePins (levels : Nat) (pins : List Nat) : Nat :=
  ((List.range pins.length).zip pins).foldl (fun m x => m + (bitOf levels x.2).toNat * 2 ^ x.1) 0

/-- GTR handed to RX. -/
def Engine.hand (x : Engine) : Engine := { x with rx := x.rx ++ [x.gtr], gtr := 0, gheld := 0 }

/-- One GATHER step on GTR (R277). -/
def Work.gatherStep (w : Work) (n e i levels : Nat) (x : Engine) : Engine :=
  let pins := w.pinsOf n e 1
  let k := pins.length
  let v := samplePins levels pins
  let g := if w.flag F.PSQ_SHCFG_GATHER_ORDER n e then x.gtr / 2 ^ k + v * 2 ^ (32 - k)
    else (x.gtr * 2 ^ k + v) % 2 ^ 32
  w.clockIdle n e i { x with gtr := g, gheld := Nat.min 32 (x.gheld + k) }

/-- The steps of a GATHER that are left, with a sample for each; a hand-off to a full RX FIFO stalls (R278). -/
def Work.gather (w : Work) (n e i : Nat) : Nat → List Nat → Work
  | 0, _ => (w.modEng n e (fun x => { x with doing := .idle })).pcNext n e
  | k + 1, pins =>
    let (p, w) := match pins with
      | [] => w.fresh 16
      | p :: _ => (p, w)
    let x := w.gatherStep n e i (w.pinLevels n e p) (w.eng n e)
    let w := w.stepCycles n e i x
    if w.flag F.PSQ_SHCFG_HAND_EN n e ∧ w.wordBits n e ≤ x.gheld then
      if x.rx.length < 8 then (w.setEng n e x.hand).gather n e i k pins.tail
      else w.setEng n e { x with doing := .stallShift k true }
    else (w.setEng n e x).gather n e i k pins.tail

/-- GATHER: the pin levels of its steps, in order. -/
def execGather (ch : Fin 8) (e : Fin 4) (pins : List Nat) (s : State) : Host.Outcome State Fault Refusal :=
  .next (s.run (fun w => w.onOp ch e 3 (fun w i => w.gather ch e i (shiftSteps i) pins)))

/-- One SPILL step (R277). -/
def Work.spillStep (w : Work) (n e i : Nat) (x : Engine) : Engine :=
  let pins := w.pinsOf n e 2
  let k := pins.length
  let down := w.flag F.PSQ_SHCFG_SPILL_ORDER n e
  let bit := fun j => decide (j < x.srem) && bitOf x.spr (if down then j else 31 - j)
  let out := ((List.range k).zip pins).foldl (fun m y => setBit m y.2 (bit y.1)) x.out
  w.clockIdle n e i { x with
    out := out, spr := if down then x.spr / 2 ^ k else x.spr * 2 ^ k % 2 ^ 32, srem := x.srem - k }

/-- A SPILL step of an engine that stands as `x`, with its cycles. -/
def Work.spillOne (w : Work) (n e i : Nat) (x : Engine) : Work :=
  let y := w.spillStep n e i x
  (w.stepCycles n e i y).setEng n e y

/-- The oldest TX word taken into SPR. -/
def Engine.refill (x : Engine) (bits : Nat) : Engine := { x with spr := x.tx.headD 0, srem := bits, tx := x.tx.tail }

/-- The steps of a SPILL that are left; a refill from an empty TX FIFO stalls (R278). -/
def Work.spill (w : Work) (n e i : Nat) : Nat → Work
  | 0 => (w.modEng n e (fun x => { x with doing := .idle })).pcNext n e
  | k + 1 =>
    let x := w.eng n e
    if w.flag F.PSQ_SHCFG_REFILL_EN n e ∧ x.srem = 0 then
      if x.tx.isEmpty then
        (w.raise F.PSQ_FSTAT_TX_STARVE n e).setEng n e { x with doing := .stallShift (k + 1) false }
      else (w.spillOne n e i (x.refill (w.wordBits n e))).spill n e i k
    else (w.spillOne n e i x).spill n e i k

/-- SPILL. -/
def execSpill (ch : Fin 8) (e : Fin 4) (s : State) : Host.Outcome State Fault Refusal :=
  .next (s.run (fun w => w.onOp ch e 4 (fun w i => w.spill ch e i (shiftSteps i))))

/-- TAKE as it can be served (R279). -/
def Work.take (w : Work) (n e i : Nat) : Work :=
  let x := w.eng n e
  let block := bitOf i 11
  if x.tx.isEmpty then
    let w := w.raise F.PSQ_FSTAT_TX_STARVE n e
    if block then w.setEng n e { x with doing := .stallWord }
    else (w.setEng n e { x with spr := 0, srem := 0, flags := setBit x.flags 3 true }).pcNext n e
  else
    let y := x.refill (w.wordBits n e)
    (w.setEng n e { y with doing := .idle, flags := if block then y.flags else setBit y.flags 3 false }).pcNext n e

/-- TAKE. -/
def execTake (ch : Fin 8) (e : Fin 4) (s : State) : Host.Outcome State Fault Refusal :=
  .next (s.run (fun w => w.onOp ch e 5 (fun w i => w.take ch e i)))

/-- GIVE as it can be served (R279). -/
def Work.give (w : Work) (n e i : Nat) : Work :=
  let x := w.eng n e
  let block := bitOf i 11
  if 8 ≤ x.rx.length then
    if block then w.setEng n e { x with doing := .stallWord }
    else
      ((w.raise F.PSQ_FSTAT_RX_OVR n e).setEng n e
        { x with gtr := 0, gheld := 0, flags := setBit x.flags 3 true }).pcNext n e
  else
    (w.setEng n e { x.hand with doing := .idle, flags := if block then x.flags else setBit x.flags 3 false }).pcNext n e

/-- GIVE. -/
def execGive (ch : Fin 8) (e : Fin 4) (s : State) : Host.Outcome State Fault Refusal :=
  .next (s.run (fun w => w.onOp ch e 6 (fun w i => w.give ch e i)))

/-- The stalled engine can be served (R278, R279). -/
def Work.canServe (w : Work) (n e : Nat) : Bool :=
  let x := w.eng n e
  match x.doing with
  | .stallWord => if opOf (w.instr n e) = 5 then !x.tx.isEmpty else decide (x.rx.length < 8)
  | .stallShift _ true => decide (x.rx.length < 8)
  | .stallShift _ false => !x.tx.isEmpty
  | _ => false

/-- PSQ_STALL_END: the FIFO serves, and the instruction goes on; `pins` are the levels of the steps still to run. How many
engine cycles the stall took, which counter source 0x2F counts, is time that the command does not carry. -/
def psqStallEnd (w : Work) (n e : Nat) (pins : List Nat) : Work :=
  if !w.engRuns n e ∨ !w.canServe n e then w
  else
    let i := w.instr n e
    let (k, w) := w.fresh 16
    let w := w.ev 0x2F n (k + 1)
    match (w.eng n e).doing with
    | .stallWord => if opOf i = 5 then w.take n e i else w.give n e i
    | .stallShift left true => (w.modEng n e Engine.hand).gather n e i left pins
    | .stallShift left false => w.spill n e i left
    | _ => w

/-- PSQ_STALL_END. -/
def execPsqStallEnd (ch : Fin 8) (e : Fin 4) (pins : List Nat) (s : State) : Host.Outcome State Fault Refusal :=
  .next (s.run (fun w => psqStallEnd w ch e pins))

/-- COUNT_LOAD. -/
def execCountLoad (ch : Fin 8) (e : Fin 4) (s : State) : Host.Outcome State Fault Refusal :=
  .next (s.run (fun w => w.onCmd ch e 7 0 (fun w i =>
    (w.modEng ch e (fun x => { x with ctr := bitsOf i 9 3 })).pcNext ch e)))

/-- COUNT_REPEAT: a non-zero CTR is decremented, and the jump is taken while CTR is not 0. -/
def execCountRepeat (ch : Fin 8) (e : Fin 4) (s : State) : Host.Outcome State Fault Refusal :=
  .next (s.run (fun w => w.onCmd ch e 7 1 (fun w i =>
    let c := (w.eng ch e).ctr - 1
    let w := w.modEng ch e (fun x => { x with ctr := c })
    if c = 0 then w.pcNext ch e else w.jump ch e (bitsOf i 9 4))))

/-- COUNT_INC. -/
def execCountInc (ch : Fin 8) (e : Fin 4) (s : State) : Host.Outcome State Fault Refusal :=
  .next (s.run (fun w => w.onCmd ch e 7 2 (fun w _ =>
    (w.modEng ch e (fun x => { x with ctr := (x.ctr + 1) % 2 ^ 32 })).pcNext ch e)))

/-- RAISE_SET. -/
def execRaiseSet (ch : Fin 8) (e : Fin 4) (s : State) : Host.Outcome State Fault Refusal :=
  .next (s.run (fun w => w.onCmd ch e 8 0 (fun w i => (w.setEngFlag ch e (bitsOf i 4 3) true).pcNext ch e)))

/-- RAISE_CLEAR. -/
def execRaiseClear (ch : Fin 8) (e : Fin 4) (s : State) : Host.Outcome State Fault Refusal :=
  .next (s.run (fun w => w.onCmd ch e 8 1 (fun w i => (w.setEngFlag ch e (bitsOf i 4 3) false).pcNext ch e)))

/-- RAISE_ENTRY: a PSQ_EVENT entry at once (R283); a standby's writes nothing (R290). -/
def execRaiseEntry (ch : Fin 8) (e : Fin 4) (s : State) : Host.Outcome State Fault Refusal :=
  .next (s.run (fun w => w.onCmd ch e 8 2 (fun w i =>
    let x := w.eng ch e
    (w.entryNow ch 0x30 (256 * e + bitsOf i 9 3) x.flags x.ctr).pcNext ch e)))

/-- RAISE_EVENT. -/
def execRaiseEvent (ch : Fin 8) (e : Fin 4) (s : State) : Host.Outcome State Fault Refusal :=
  .next (s.run (fun w => w.onCmd ch e 8 3 (fun w i => (w.pulse ch (bitsOf i 5 3)).pcNext ch e)))

/-- A GOTO's condition (R273). -/
def Work.gotoHolds (w : Work) (n e i levels : Nat) : Bool :=
  let x := w.eng n e
  match bitsOf i 11 9 with
  | 0 => true
  | 1 => x.ctr == 0
  | 2 => x.ctr != 0
  | 7 => bitOf levels (w.get F.PSQ_SHCFG_TEST_PIN n e)
  | c => bitOf x.flags (c - 3)

/-- GOTO. -/
def execGoto (ch : Fin 8) (e : Fin 4) (pins : Nat) (s : State) : Host.Outcome State Fault Refusal :=
  .next (s.run (fun w => w.onOp ch e 9 (fun w i =>
    if w.gotoHolds ch e i (w.pinLevels ch e pins) then w.jump ch e (bitsOf i 8 3) else w.pcNext ch e)))

/-- A MOVE's source. -/
def Work.moveSrc (w : Work) (n e i levels : Nat) : Nat :=
  let x := w.eng n e
  match bitsOf i 8 6 with
  | 0 => x.ctr
  | 1 => x.spr
  | 2 => x.gtr
  | 3 => levels
  | 4 => 0
  | 5 => x.flags
  | 6 => x.tx.length + 2 ^ 4 * x.rx.length + 2 ^ 8 * x.srem + 2 ^ 14 * x.gheld
  | _ => w.tick32

/-- A MOVE's operation on 32 bits. -/
def moveOpt (opt v : Nat) : Nat :=
  match opt with
  | 0 => v
  | 1 => 2 ^ 32 - 1 - v % 2 ^ 32
  | 2 => beVal (leBytes 4 v)
  | _ => v / 2 ^ 16 + v % 2 ^ 16 * 2 ^ 16

/-- MOVE. -/
def Work.move (w : Work) (n e i levels : Nat) : Work :=
  let v := moveOpt (bitsOf i 5 3) (w.moveSrc n e i levels)
  let sp := w.pinsOf n e 2
  match bitsOf i 11 9 with
  | 6 => w.jump n e v
  | 0 => (w.modEng n e (fun x => { x with ctr := v })).pcNext n e
  | 1 => (w.modEng n e (fun x => { x with spr := v, srem := w.wordBits n e })).pcNext n e
  | 2 => (w.modEng n e (fun x => { x with gtr := v, gheld := 0 })).pcNext n e
  | 3 => (w.modEng n e (fun x => { x with out := latchPins x.out v sp })).pcNext n e
  | 4 => (w.modEng n e (fun x => { x with dir := latchPins x.dir v sp })).pcNext n e
  | _ => (w.modEng n e (fun x => { x with flags := v % 16 })).pcNext n e

/-- MOVE. -/
def execMove (ch : Fin 8) (e : Fin 4) (pins : Nat) (s : State) : Host.Outcome State Fault Refusal :=
  .next (s.run (fun w => w.onOp ch e 0xA (fun w i => w.move ch e i (w.pinLevels ch e pins))))

/-! ### Windows, starts and stops (R285 to R291) -/

/-- An AWAIT that is interrupted begins afresh on resume (R285). -/
def Engine.pause (x : Engine) : Engine :=
  match x.doing with
  | .await _ => { x with doing := .idle, events := 0 }
  | _ => x

/-- An engine that stands between instructions starts or resumes in the boundary's channel-clock cycle, in which channel event 8
is pulsed (R276, R285, R289). -/
def Engine.atBoundary (x : Engine) : Engine := if x.doing = .idle then { x with events := 2 ^ 8 } else x

/-- PSQ_WINDOW_START (R289). A window whose WIN_START is 0 begins with the boundary's pulse (R276). -/
def execPsqWindowStart (ch : Fin 8) (e : Fin 4) (s : State) : Host.Outcome State Fault Refusal :=
  .next (s.run (fun w =>
    if w.flag F.PSQ_SHCFG_TICK_SYNC ch e ∧ (w.chan ch).running ∧ (w.chan ch).kiln.quiesce ∈ [.none, .pend] ∧
        !(w.chan ch).seq.guardOrd.isSome ∧ !(w.chan ch).blockHeld 7 then
      let first := decide (w.get F.PSQ_WIN_WIN_START ch e = 0) && bitOf (w.get F.PSQ_STAT_RUNNING ch) e
      w.modEng ch e (fun x => { (if first ∧ !x.window then x.atBoundary else x) with window := true })
    else w))

/-- An engine's window ends: it is frozen between engine cycles (R289). -/
def Work.closeWindow (w : Work) (n e : Nat) : Work :=
  if (w.eng n e).window then w.modEng n e (fun x => { x.pause with window := false }) else w

/-- PSQ_WINDOW_END. -/
def execPsqWindowEnd (ch : Fin 8) (e : Fin 4) (s : State) : Host.Outcome State Fault Refusal :=
  .next (s.run (fun w => w.closeWindow ch e))

/-- Every window of a channel ends: the GUARD slot starts (R289). -/
def Work.closeWindows (w : Work) (n : Nat) : Work := (List.range 4).foldl (fun w e => w.closeWindow n e) w

/-- An engine starts: CLK_PIN is an output at its idle level where CLK_EN is set (R285, PSQ_SHCFG). -/
def Work.startEng (w : Work) (n e : Nat) : Work :=
  let w := w.put F.PSQ_STAT_RUNNING (setBit (w.get F.PSQ_STAT_RUNNING n) e true) n
  let w := w.put F.PSQ_STAT_PENDING (setBit (w.get F.PSQ_STAT_PENDING n) e false) n
  let p := w.get F.PSQ_SHCFG_CLK_PIN n e
  w.modEng n e (fun x =>
    if w.flag F.PSQ_SHCFG_CLK_EN n e then
      { x with dir := setBit x.dir p true, out := setBit x.out p (w.flag F.PSQ_SHCFG_CLK_POL n e) }
    else x)

/-- An engine stops, and a pending start is cancelled (R285). A loop pair that waits is adopted at once (R288). -/
def Work.stopEng (w : Work) (n e : Nat) : Work :=
  let w := w.put F.PSQ_STAT_RUNNING (setBit (w.get F.PSQ_STAT_RUNNING n) e false) n
  let w := w.put F.PSQ_STAT_PENDING (setBit (w.get F.PSQ_STAT_PENDING n) e false) n
  let w := if bitOf (w.get F.PSQ_STAT_LOOP_PEND n) e then w.adoptLoop n e else w
  w.modEng n e Engine.pause

/-- An engine is stopped with no start pending (R286). -/
def Work.engStopped (w : Work) (n e : Nat) : Bool :=
  !bitOf (w.get F.PSQ_STAT_RUNNING n) e && !bitOf (w.get F.PSQ_STAT_PENDING n) e

/-- What a write to the instruction memory or the PC of a stopped engine does to an instruction it stands in: a held partial
shift is discarded (R287), and a stalled TAKE or GIVE is left, so that it starts at the PC it holds (R285). -/
def Work.dropShift (w : Work) (n e : Nat) : Work :=
  match (w.eng n e).doing with
  | .stallWord => w.modEng n e (fun x => { x with doing := .idle })
  | .stallShift _ _ =>
    (w.raise F.PSQ_FSTAT_SHIFT_LOST n e).modEng n e (fun x => { x with gtr := 0, gheld := 0, srem := 0, doing := .idle })
  | _ => w

/-- RESTART of a stopped engine (R287). RX words keep consecutive numbers (R280). -/
def Work.restartEng (w : Work) (n e : Nat) : Work :=
  let w := w.dropShift n e
  let w := w.modEng n e (fun x => { x with
    tx := [], rx := [], rxSeq := (x.rxSeq + x.rx.length) % 256, ctr := 0, flags := 0, doing := .idle, events := 0 })
  (w.put F.PSQ_PASSES_PASSES 0 n e).put F.PSQ_STATE_PC (w.get F.PSQ_LOOP_HEAD_ACT n e) n e

/-- RESTART of the engines of a mask that were stopped (R287). -/
def Work.psqRestart (w : Work) (n restart : Nat) : Work :=
  (maskList restart 4).foldl (fun w e =>
    if bitOf (w.get F.PSQ_STAT_RUNNING n) e then w else w.restartEng n e) w

/-- RUN and BOUNDARY written, or set by an image: starts and stops (R284, R285, R291). -/
def Work.psqRun (w : Work) (n run boundary : Nat) : Work :=
  (List.range 4).foldl (fun w e =>
    if !bitOf run e then w.stopEng n e
    else if bitOf (w.get F.PSQ_STAT_RUNNING n) e then w
    else if bitOf boundary e then w.put F.PSQ_STAT_PENDING (setBit (w.get F.PSQ_STAT_PENDING n) e true) n
    else w.startEng n e) w

/-- Starts that wait for a boundary (R285), and the windows of the tick that ended (R289). An engine that starts outside a
window begins in the cycle of the boundary's pulse (R276). -/
def Work.psqBoundary (w : Work) (n : Nat) : Work :=
  let w := w.closeWindows n
  (maskList (w.get F.PSQ_STAT_PENDING n) 4).foldl (fun w e =>
    (w.startEng n e).modEng n e (fun x => if w.flag F.PSQ_SHCFG_TICK_SYNC n e then x else x.atBoundary)) w

/-- The written loop pair of an engine (R288). -/
def Work.loopPair (w : Work) (n e : Nat) : Nat := w.get F.PSQ_LOOP_LOOP_HEAD n e + 64 * w.get F.PSQ_LOOP_LOOP_TAIL n e

/-- The loop pairs of stopped engines in force as an image or its reset values set them (R288, R291). -/
def Work.adoptLoops (w : Work) (n : Nat) : Work := (List.range 4).foldl (fun w e => w.adoptLoop n e) w

/-- A written loop pair taken into its shadow: adopted at once where the engine is stopped (R288). -/
def Work.loopWritten (w : Work) (n e : Nat) : Work :=
  let w := w.put F.PSQ_STAT_LOOP_PEND (setBit (w.get F.PSQ_STAT_LOOP_PEND n) e true) n
  if bitOf (w.get F.PSQ_STAT_RUNNING n) e then w else w.adoptLoop n e

/-- A word appended to a TX FIFO (R280). -/
def Work.txWrite (w : Work) (n e v : Nat) : Work :=
  let x := w.eng n e
  if 8 ≤ x.tx.length then w.raise F.PSQ_FSTAT_TX_OVR n e else w.setEng n e { x with tx := x.tx ++ [v] }

/-- What a read of PSQ_RX does beside answering the oldest word (R280). -/
def Work.rxRead (w : Work) (n e : Nat) : Work :=
  if (w.eng n e).rx.isEmpty then w.raise F.PSQ_FSTAT_RX_STARVE n e else w

/-- An RX acknowledge (R280). -/
def Work.rxAck (w : Work) (n e seq : Nat) : Work :=
  let x := w.eng n e
  if !x.rx.isEmpty ∧ seq % 256 = x.rxSeq then w.setEng n e { x with rx := x.rx.tail, rxSeq := (x.rxSeq + 1) % 256 } else w

/-- The TX FIFO of every engine filled from region 7 (R282). -/
def Work.preloadAll (w : Work) (n : Nat) : Work :=
  (List.range 4).foldl (fun w e =>
    w.modEng n e (fun x => { x with
      tx := (List.range (w.get F.PSQ_SHCFG_PRELOAD_N n e)).map (fun k => w.regLe n 7 (1024 + 32 * e + 4 * k) 4) })) w

/-- A class map and set-up that R271 refuses for a program. -/
def classMapOk (cls shcfg : Nat) (program : List Nat) : Bool :=
  let of := fun c => ((List.range 16).filter (fun p => cls / 4 ^ p % 4 == c)).length
  decide (of 1 ≤ 8) && decide (of 2 ≤ 8) && decide (of 3 ≤ 5) &&
    !(of 1 == 0 && program.any (fun i => opOf i == 3)) && !(of 2 == 0 && program.any (fun i => opOf i == 4)) &&
    !(bitOf shcfg 19 && cls / 4 ^ bitsOf shcfg 17 14 % 4 != 0)

/-- An instruction word is legal (R273). -/
def psqLegal (i : Nat) : Bool :=
  match opOf i with
  | 0 => bitsOf i 11 3 == 0
  | 1 => !bitOf i 3
  | 2 => bitsOf i 5 3 == 0
  | 3 | 4 => bitsOf i 5 3 == 0
  | 5 | 6 => bitsOf i 10 3 == 0
  | 7 => (match bitsOf i 11 10 with
    | 0 => true
    | 1 => !bitOf i 3
    | 2 => bitsOf i 9 3 == 0
    | _ => false)
  | 8 => (match bitsOf i 11 10 with
    | 0 | 1 => bitsOf i 9 5 == 0
    | 2 => true
    | _ => bitsOf i 9 6 == 0)
  | 9 => true
  | 10 => bitsOf i 11 9 != 7 && decide (bitsOf i 5 3 < 4)
  | _ => false

/-- Every engine and every pin of a channel back at the reset values (R291). -/
def Work.psqAfresh (w : Work) (n : Nat) : Work :=
  let w := w.modChan n (fun c => { c with psq := List.replicate 4 Engine.init })
  let w := w.resetRegs (0x40109000 + 0x10000 * n) (0x4010A000 + 0x10000 * n)
  (List.range 4).foldl (fun w e => w.showEng n e) w

end Sys2Proof.Machine
end

