-- ==== Sys2Proof/Machine/Tap.lean ====
section
/-! DEFINITION. The Tap lines: frames, returns, chain faults (12_tap_line.md). -/

namespace Sys2Proof.Machine

/-- Tap line `l` of a channel. -/
def Work.tapOf (w : Work) (n l : Nat) : Tap := (w.chan n).tap.getD l Tap.init

/-- Tap line `l` changed. -/
def Work.modTap (w : Work) (n l : Nat) (f : Tap → Tap) : Work :=
  w.modChan n (fun c => { c with tap := modAt c.tap l f })

/-- Nodes on a line, by the set-up its frames have now (R267). -/
def Work.tapNodes (w : Work) (n l : Nat) : Nat :=
  match (w.tapOf n l).hold with | some f => f.nodes | none => w.cur F.TAP_CFG_N_M1 n l + 1

/-- A line works in UF-16 mode, by the set-up its frames have now (R267). -/
def Work.tapUf (w : Work) (n l : Nat) : Bool :=
  match (w.tapOf n l).hold with | some f => f.uf | none => w.cur F.TAP_CFG_MODE n l == 0

/-- A line sends frames: it is enabled, or holds its last frame until a restart, its channel has started, TAP is not held, and the device drives the channel
(R252, R262, R268, R399). -/
def Work.tapRuns (w : Work) (n l : Nat) : Bool :=
  let st := w.chState n
  (w.curFlag F.TAP_CFG_EN n l || (w.tapOf n l).hold.isSome) && (st == stRunning || st == stQuiesced || st == stTest) && !(w.chan n).blockHeld 6 &&
    !(w.chan n).standby

/-! ### Frames (R258, R269, R270) -/

/-- The `k` low bits of a value, most significant first. -/
def msbBits (k v : Nat) : List Bool := (List.range k).map (fun i => bitOf v (k - 1 - i))

/-- Bits packed into bytes, most significant first, the last byte filled with zeros. -/
def packBits (bits : List Bool) : List Byte :=
  (List.range ((bits.length + 7) / 8)).map (fun i =>
    BitVec.ofNat 8 ((List.range 8).foldl (fun v j => 2 * v + (bits.getD (8 * i + j) false).toNat) 0))

/-- The CRC-8 of a share (R258). -/
def crc8 (bs : List Byte) : Nat := bs.foldl (crcByteL 8 0x07) 0xFF

/-- One UF-16 share of 26 bytes (R258). -/
def tapShare (mode hold : Nat) (values : List Nat) : List Byte :=
  let body := BitVec.ofNat 8 (0x80 + 16 * mode + hold) :: packBits ((values.map (msbBits 12)).flatten)
  body ++ leBytes 1 (crc8 body)

/-- The duty of a UF-16 output in the running tick: 0 where it belongs to no function or is failed (R236, R245, R258). -/
def Work.ufDuty (w : Work) (n l node out : Nat) : Nat :=
  let key := ufKey l node out
  match w.fnOfUf n key with
  | none => 0
  | some f =>
    if (w.chan n).lamp.ufFailed.contains key ∨ w.heldOff n f then 0 else tabGet (w.chan n).lamp.duty 0 f

/-- A line's built frame: its bits after the BREAK, packed; `mode` is MODE of its shares (R258, R269). -/
def Work.tapFrame (w : Work) (n l mode : Nat) : List Byte :=
  let k := w.tapNodes n l
  if w.tapUf n l then
    ((List.range k).map (fun j =>
      tapShare mode (k - 1 - j) ((List.range 16).map (fun o => divRound (w.ufDuty n l j o * 4095) 65535)))).flatten
  else
    let bits := 8 + 4 * w.cur F.TAP_GEN_BITS n l
    packBits (((List.range k).map (fun j =>
      ((List.range (w.cur F.TAP_GEN_OUTS_M1 n l + 1)).map (fun o =>
        msbBits bits (divRound (w.ufDuty n l j o * (2 ^ bits - 1)) 65535))).flatten)).flatten)

/-- The number of bits of a built frame after its BREAK. -/
def Work.tapFrameBits (w : Work) (n l : Nat) : Nat :=
  if w.tapUf n l then 208 * w.tapNodes n l
  else w.tapNodes n l * (w.cur F.TAP_GEN_OUTS_M1 n l + 1) * (8 + 4 * w.cur F.TAP_GEN_BITS n l)

/-- A line's frame built in region 7 (R262). -/
def Work.buildTap (w : Work) (n l mode : Nat) : Work :=
  let r := w.region n 7
  w.pokes (r.1 + 512 * l) ((w.tapFrame n l mode).take (r.2 - 512 * l))

/-- A run of bytes of region 7, from byte `off`; what lies past the region the spec does not say. -/
def Work.rawBytes (w : Work) (n off k : Nat) : List Byte × Work :=
  let r := w.region n 7
  (List.range k).foldl (fun (p : List Byte × Work) i =>
    if off + i < r.2 then (p.1 ++ [p.2.peek (r.1 + off + i)], p.2)
    else
      let (x, w) := p.2.fresh 8
      (p.1 ++ [BitVec.ofNat 8 x], w)) ([], w)

/-- A line is inverted in generic mode, by the set-up its frames have now (R267, R269). -/
def Work.tapPol (w : Work) (n l : Nat) : Bool :=
  match (w.tapOf n l).hold with | some f => f.pol | none => w.curFlag F.TAP_GEN_POL n l

/-- The frame that a line sends in the running tick: the one built in region 7, or the raw bits of R270 in place of it. R16
leaves the cut of a frame that outlasts its tick to the chapter of the Tap line, which gives none, and only raw bits can be so
many: they are sent whole, as one frame of the tick they start in (DESIGN CHOICE, log entry 90). -/
def Work.tapFrameNow (w : Work) (n l : Nat) : TapFrame × Work :=
  let uf := w.tapUf n l
  let raw := w.curFlag F.TAP_RAW_RAW_EN n l
  let bits := if raw then w.cur F.TAP_RAW_RAW_LEN n l else w.tapFrameBits n l
  let (bs, w) := w.rawBytes n (if raw then 4 * w.cur F.TAP_RAW_RAW_OFF n l else 512 * l) ((bits + 7) / 8)
  (⟨uf || w.curFlag F.TAP_GEN_BRK_EN n l && !raw, bits, bs, uf, w.tapNodes n l, w.tapPol n l, raw⟩, w)

/-- The boundary begins a tick for a channel's Tap lines (R262, R267). The frame is built from the duties of the new tick, or,
where the channel quiesces or is quiesced, from those of its last one, so that a function held off since goes dark; raw
bits stand as they are, and so does what an image activation holds until the restart. -/
def Work.tapBegin (w : Work) (n : Nat) : Work :=
  (List.range 2).foldl (fun w l =>
    let w := if (w.chan n).planRuns then w.modTap n l (fun t => { t with hold := none }) else w
    let on := w.tapRuns n l
    let w := w.putFlag F.TAP_STAT_RUNNING on n l
    let w := if on ∧ (w.tapOf n l).hold.isNone ∧ !w.curFlag F.TAP_RAW_RAW_EN n l then w.buildTap n l 0 else w
    w.modTap n l (fun t => { t with ready := on })) w

/-- An image is about to be applied to a channel: its running lines go on with the frame they have (R252, R267). -/
def Work.holdFrames (w : Work) (n : Nat) : Work :=
  (List.range 2).foldl (fun w l =>
    if w.flag F.TAP_STAT_RUNNING n l ∧ (w.tapOf n l).hold.isNone then
      let (f, w) := w.tapFrameNow n l
      w.modTap n l (fun t => { t with hold := some f })
    else w) w

/-- TAP_FRAME_SEND: 8 µs after the boundary a line sends its frame. The record of the frame carries its bits, their number,
and whether a BREAK precedes them. -/
def tapFrameSend (w : Work) (n l : Nat) : Work :=
  let t := w.tapOf n l
  if !t.ready then w
  else
    let (f, w) := match t.hold with
      | some f => (f, w)
      | none => w.tapFrameNow n l
    let w := (w.countWrap F.TAP_CNT_FRAMES n l).ev 0x28 (2 * n + l)
    let w := w.modTap n l (fun t => { t with ready := false, await := f.uf, badCauses := [] })
    let w := if f.brk ∧ (w.chan n).planRuns then w.pulse n (13 + l) else w
    w.send ⟨4, 2 * n + l, f.brk.toNat, f.bits, f.bytes⟩

/-- TAP_FRAME_SEND. -/
def execTapFrameSend (ch : Fin 8) (l : Fin 2) (s : State) : Host.Outcome State Fault Refusal :=
  .next (s.run (fun w => tapFrameSend w ch l))

/-! ### Returns (R261, R264) -/

/-- A status has its CHECK (R261). -/
def tapCheck (s : Nat) : Bool := bitsOf s 15 12 == (bitsOf s 3 0 ^^^ bitsOf s 7 4 ^^^ bitsOf s 11 8 ^^^ 0xA)

/-- Why a return fails its frame, as the causes it may carry in TAP_FAULT; none where it is good (R264). The spec names
no cause for a stream that comes but is incomplete, overlong or not followed by idle. -/
def tapRetFault (r : TapRet) (k : Nat) : Option (List Nat) :=
  if !r.began then some [0]
  else if r.statuses.any (fun s => !tapCheck s) then some [2]
  else if r.statuses.length = k ∧ r.statuses.all (fun s => !bitOf s 11) ∧ r.idle then none
  else some [0, 2]

/-- The window of a frame has ended without a good return (R264, R265): no stream came, or each that came was bad. -/
def Work.frameFails (w : Work) (n l : Nat) : Work :=
  let bad := (w.tapOf n l).badCauses
  let (c, w) := w.pickOpen (if bad.isEmpty then [0] else bad) 4
  let w := ((w.countUp F.TAP_STAT_FAILS n l).countUp F.TAP_CNT_BAD n l).ev 0x2A (2 * n + l)
  w.modTap n l (fun t => { t with await := false, cause := c, badCauses := [] })

/-- The statuses of a good return stored, and their flags (R264). -/
def Work.storeStatuses (w : Work) (n l : Nat) (ss : List Nat) : Work :=
  ((List.range ss.length).zip ss).foldl (fun w x =>
    let w := w.put F.TAP_NODE_STATUS x.2 n (16 * l + x.1)
    let w := if bitOf x.2 9 then (w.raise F.TAP_STAT_CRC_ERR n l).ev 0x29 (2 * n + l) else w
    if bitOf x.2 10 then w.raise F.TAP_STAT_POR n l else w) w

/-- TAP_RETURN_RECEIVE: a stream in the window of the frame sent in this tick judged; one that is bad leaves the window open
for another (R264). A standby only decodes it into TAP_NODE (R268). -/
def tapReturnReceive (w : Work) (n l : Nat) (r : TapRet) : Work :=
  let t := w.tapOf n l
  let standby := (w.chan n).standby && w.curFlag F.TAP_CFG_EN n l && w.tapUf n l && !(w.chan n).blockHeld 6
  if !t.await ∧ !standby then w
  else
    let w := if r.began then w.put F.TAP_STAT_M (Nat.min 31 r.statuses.length) n l else w
    let w := if r.statuses.any (fun s => !tapCheck s) then w.raise F.TAP_STAT_CHECK_ERR n l else w
    match tapRetFault r (w.tapNodes n l) with
    | none =>
      let w := w.storeStatuses n l r.statuses
      if standby then w
      else
        let w := w.put F.TAP_STAT_FAILS 0 n l
        w.modTap n l (fun t => { t with await := false, badCauses := [], orphan := none, pend := r.statuses })
    | some cs => if standby then w else w.modTap n l (fun t => { t with badCauses := t.badCauses ++ cs })

/-- TAP_RETURN_RECEIVE. -/
def execTapReturnReceive (ch : Fin 8) (l : Fin 2) (ret : TapRet) (s : State) : Host.Outcome State Fault Refusal :=
  .next (s.run (fun w => tapReturnReceive w ch l ret))

/-- ORPHAN_STREAM_RECEIVE (R265): the number of statuses gives the place of the break. It counts from the first failing frame
on: while a frame's window is open, or frames have failed. -/
def orphanStreamReceive (w : Work) (n l : Nat) (ss : List Nat) : Work :=
  if !w.curFlag F.TAP_CFG_EN n l ∨ !w.tapUf n l ∨ (w.chan n).blockHeld 6 then w
  else
    let w := w.put F.TAP_STAT_M (Nat.min 31 ss.length) n l
    if ss.any (fun s => !tapCheck s) then w.raise F.TAP_STAT_CHECK_ERR n l
    else if !(w.tapOf n l).await ∧ w.get F.TAP_STAT_FAILS n l = 0 then w
    else if ss = [] ∨ w.tapNodes n l < ss.length ∨ !bitOf (ss.headD 0) 11 then w
    else w.modTap n l (fun t => { t with orphan := some ss.length })

/-- ORPHAN_STREAM_RECEIVE. -/
def execOrphanStreamReceive (ch : Fin 8) (l : Fin 2) (statuses : List Nat) (s : State) :
    Host.Outcome State Fault Refusal :=
  .next (s.run (fun w => orphanStreamReceive w ch l statuses))

/-! ### At a boundary (R264 to R266) -/

/-- A TAP_FAULT entry, stamped with the ending tick `t`. -/
def Work.tapEntry (w : Work) (n l flags value t : Nat) : Work := w.raiseEntry n ⟨0x2A, l, flags, value, t % 2 ^ 32⟩

/-- The failed outputs of a line, as the statuses and chain faults have left them. -/
def Tap.failed (t : Tap) (nodes : Nat) : List Nat :=
  (List.range (16 * nodes)).filter (fun x => t.bad.contains x || t.crcBad.contains (x / 16))

/-- An output's failure starts or ends at the boundary that ends tick `t`: TAP_NODE, and for a member its LAMP_FAIL entry
and its function's policy (R245, R250, R264). -/
def Work.setUfFailed (w : Work) (n l x : Nat) (b : Bool) (t : Nat) : Work :=
  let key := 256 * l + x
  let k := 16 * l + x / 16
  let w := w.put F.TAP_NODE_FAILED (setBit (w.get F.TAP_NODE_FAILED n k) (x % 16) b) n k
  let w := w.modStr n (fun s => { s with
    ufFailed := if b then s.ufFailed ++ [key] else s.ufFailed.filter (fun y => y != key) })
  match w.fnOfUf n key with
  | none => w
  | some f =>
    let w := w.raiseEntry n ⟨0x28, 0x8000 + key, (!b).toNat, lampValue (some f) 2 0, t % 2 ^ 32⟩
    if b then w.holdOff n (some f) (0x8000 + key) t else w

/-- Failures shown and reported as they have changed. -/
def Work.showUf (w : Work) (n l t : Nat) : Work :=
  let now := (w.tapOf n l).failed (w.tapNodes n l)
  let was := ((w.chan n).lamp.ufFailed.filter (fun x => x / 256 == l)).map (· % 256)
  let w := (was.filter (fun x => !now.contains x)).foldl (fun w x => w.setUfFailed n l x false t) w
  (now.filter (fun x => !was.contains x)).foldl (fun w x => w.setUfFailed n l x true t) w

/-- One node's status takes effect (R264). -/
def Tap.takeStatus (t : Tap) (k s : Nat) : Tap :=
  let outs := (List.range 8).map (fun i => (16 * k + 8 * bitsOf s 8 8 + i, bitOf s i))
  let set := (outs.filter (·.2)).map (·.1)
  let clear := (outs.filter (fun x => !x.2)).map (·.1)
  let again := set.filter (fun x => t.once.contains x && !t.bad.contains x)
  let crc := bitOf s 9
  { t with
    once := t.once.filter (fun x => !clear.contains x) ++ set.filter (fun x => !t.once.contains x)
    bad := t.bad.filter (fun x => !clear.contains x) ++ again
    crcOnce := if crc then t.crcOnce.filter (fun x => x != k) ++ [k] else t.crcOnce.filter (fun x => x != k)
    crcBad := if crc ∧ t.crcOnce.contains k then t.crcBad.filter (fun x => x != k) ++ [k]
      else if crc then t.crcBad else t.crcBad.filter (fun x => x != k) }

/-- A good return takes effect: the chain fault ends, node resets are reported, and each status decides (R264, R265). A
node reset has no break position; its M is the number of statuses. -/
def Work.takeReturn (w : Work) (n l t : Nat) (ss : List Nat) : Work :=
  let w := match (w.tapOf n l).faultVal with
    | none => w
    | some v =>
      let w := w.modTap n l (fun x => { x with faultVal := none })
      let w := (w.putFlag F.TAP_STAT_FAULT false n l).put F.TAP_STAT_P 31 n l
      w.tapEntry n l 1 v t
  let w := ((List.range ss.length).zip ss).foldl (fun w x =>
    let w := w.modTap n l (fun y => y.takeStatus x.1 x.2)
    if bitOf x.2 10 then w.tapEntry n l 0 (3 + 2 ^ 8 * 31 + 2 ^ 16 * ss.length) t else w) w
  w.modTap n l (fun x => { x with pend := [] })

/-- A chain fault declared (R265, R266). -/
def Work.declareChain (w : Work) (n l t cause p m : Nat) : Work :=
  let v := cause + 2 ^ 8 * p + 2 ^ 16 * m
  let k := w.tapNodes n l
  let first := if p = 31 then 0 else p
  let outs := upFrom (16 * first) (16 * (k - first))
  let w := w.modTap n l (fun x => { x with
    faultVal := some v, bad := x.bad ++ outs.filter (fun o => !x.bad.contains o) })
  let w := (w.putFlag F.TAP_STAT_FAULT true n l).put F.TAP_STAT_P p n l
  w.tapEntry n l (if 0 < p ∧ p < 31 then 2 else 0) v t

/-- The boundary that ends tick `t` for one Tap line: a frame without a return has failed, statuses take effect, and a
chain fault is declared (R262, R264, R265). -/
def Work.tapLineStep (w : Work) (n l t : Nat) : Work :=
  if (w.chan n).standby ∨ (w.chan n).blockHeld 6 then w
  else
    let w := if (w.tapOf n l).await then w.frameFails n l else w
    let x := w.tapOf n l
    let fails := w.get F.TAP_STAT_FAILS n l
    let w := if x.pend.isEmpty then w else w.takeReturn n l t x.pend
    let w :=
      if x.faultVal.isSome ∨ fails < 2 then w
      else match x.orphan with
        | some m => w.declareChain n l t 1 (w.tapNodes n l - m) m
        | none =>
          if fails < 8 then w
          else
            let (m, w) := w.fresh 5
            w.declareChain n l t x.cause 31 m
    w.showUf n l t

/-- The boundary that ends tick `t` for a channel's Tap lines. -/
def Work.tapStep (w : Work) (n t : Nat) : Work := (List.range 2).foldl (fun w l => w.tapLineStep n l t) w

/-- The Tap lines start afresh: every failure forgotten, no line running (R71, R399). -/
def Work.tapAfresh (w : Work) (n : Nat) : Work :=
  let w := w.modChan n (fun c => { c with tap := List.replicate 2 Tap.init, lamp := { c.lamp with ufFailed := [] } })
  let w := (List.range 2).foldl (fun w l => w.setReg (R.TAP_STAT.addr n l) (resetWord (R.TAP_STAT.addr n l))) w
  (List.range 32).foldl (fun w k => w.setReg (R.TAP_NODE.addr n k) 0) w

end Sys2Proof.Machine
end

