-- ==== Sys2Proof/Machine/Pair.lean ====
section
/-! DEFINITION. The pair link, the standby's copy, watching the active, and who drives (17_laninen_pair.md). -/

namespace Sys2Proof.Machine

/-- The pair logic changed. -/
def Work.modPair (w : Work) (f : Pair → Pair) : Work := { w with pair := f w.pair }

/-- PAIR_MASK while pairing is in use. -/
def Work.pairMask (w : Work) : Nat := if w.flag F.PAIR_CFG_EN then w.get F.PAIR_CFG_PAIR_MASK else 0

/-- Channel `n` is paired. -/
def Work.paired (w : Work) (n : Nat) : Bool := bitOf w.pairMask n

/-- The pair block works: pairing is in use, the device has a role, and the block is not held (R356, R396). -/
def Work.pairOn (w : Work) : Bool :=
  w.flag F.PAIR_CFG_EN && decide (w.get F.PAIR_CFG_ROLE ≠ 0) && !w.flag F.SYS_BLK_RST_PAIR

/-- The pair link is up. -/
def Work.pairUp (w : Work) : Bool := w.pairOn && w.flag F.PAIR_STAT_LINK

/-- This device is the lead. -/
def Work.lead (w : Work) : Bool := w.flag F.PAIR_STAT_LEAD

/-- The channels this device drives. -/
def Work.activeMask (w : Work) : Nat := w.get F.PAIR_STAT_ACTIVE

/-- The channels of one mask that are not in another. -/
def without (a b : Nat) : Nat := listMask ((maskList a 8).filter (fun n => !bitOf b n))

/-- Two masks joined. -/
def union (a b : Nat) : Nat := a ||| b

/-- Bytes in pieces of at most 64, in order; `fuel` is at least their number. -/
def pieces : Nat → List Byte → List (List Byte)
  | 0, bs => [bs]
  | fuel + 1, bs => if bs.length ≤ 64 then [bs] else bs.take 64 :: pieces fuel (bs.drop 64)

/-- An URGENT frame on the pair link with its payload (R358). -/
def Work.pairFrame (w : Work) (kind dest : Nat) (payload : List Byte) : Work :=
  (w.send ⟨1, 2, kind, dest, payload⟩).ev 0x43 2

/-- The records of the contents of a kind sent on the pair link. -/
def pairRecords (kind dest : Nat) (contents : List Nat) : List Sent :=
  let bs := Config.pairBytes kind contents
  (pieces bs.length bs).map (fun p => ⟨1, 2, kind, dest, p⟩)

/-- The contents of a kind sent on the pair link, in frames of at most 64 bytes (R358, log entry 6). -/
def Work.pairSend (w : Work) (kind dest : Nat) (contents : List Nat) : Work :=
  let bs := Config.pairBytes kind contents
  (pieces bs.length bs).foldl (fun w p => w.pairFrame kind dest p) w

/-! ### The handshake before HELLO (R422) -/

/-- The message that both sides of a handshake authenticate (R342, R422); the address in 2 bytes, little-endian (log entry
17). -/
def joinText (tag : List Byte) (node root : Nat) (nr nn : List Byte) (addr : Nat) : List Byte :=
  tag ++ leBytes 8 node ++ leBytes 8 root ++ nr ++ nn ++ leBytes 2 addr

/-- "RP1", of role B. -/
def rp1 : List Byte := [0x52, 0x50, 0x31]
/-- "RP2", of role A. -/
def rp2 : List Byte := [0x52, 0x50, 0x32]

/-- The device's unique ID. -/
def ownUid : Nat := Config.uidLo.toNat + 2 ^ 32 * Config.uidHi.toNat

/-- PARTNER_UID. -/
def Work.partnerUid (w : Work) : Nat :=
  w.get F.PAIR_PARTNER_LO_PARTNER_UID + 2 ^ 32 * w.get F.PAIR_PARTNER_HI_PARTNER_UID

/-- The MAC of a text under the pair key; none where the key store holds none (R422). -/
def Work.pairMac (w : Work) (text : List Byte) : Option (List Byte) :=
  (w.sec.keys.find? (fun k => k.1 == 3)).map (fun k => Config.hmacSha256 k.2 text)

/-- The handshake on the pair link stands at `a`. -/
def Work.setAuth (w : Work) (a : PairAuth) : Work := w.modPair (fun p => { p with auth := a })

/-- The handshake begins: role A takes the part of the root and sends JOIN_CHAL with a random Nr. Without a pair key there is
none (R422). -/
def Work.pairChallenge (w : Work) : Work :=
  if w.pairOn ∧ w.get F.PAIR_CFG_ROLE = 1 ∧ w.pair.auth = .idle ∧ (w.pairMac []).isSome then
    let (x, w) := w.fresh 128
    let nr := leBytes 16 x
    (w.setAuth (.running ⟨w.partnerUid, nr, [], 0, 64⟩)).send ⟨1, 2, 0x03, 0, nr⟩
  else w

/-- JOIN_CHAL on the pair link: role B answers with its random `nn` and its MAC. -/
def pairChal (w : Work) (nr nn : List Byte) : Work :=
  if !w.pairOn ∨ w.get F.PAIR_CFG_ROLE ≠ 2 then w
  else match w.pairMac (joinText rp1 ownUid w.partnerUid nr nn 0) with
    | none => w.setAuth .failed
    | some mac => (w.setAuth (.running ⟨w.partnerUid, nr, nn, 0, 64⟩)).send ⟨1, 2, 0x04, 0, nn ++ mac⟩

/-- JOIN_RSP on the pair link: role A accepts a valid MAC. -/
def pairRsp (w : Work) (nn mac : List Byte) : Work :=
  if !w.pairOn ∨ w.get F.PAIR_CFG_ROLE ≠ 1 then w
  else match w.pair.auth with
    | .running k =>
      if w.pairMac (joinText rp1 w.partnerUid ownUid k.nr nn 0) = some mac then
        let m := (w.pairMac (joinText rp2 w.partnerUid ownUid k.nr nn 0)).getD []
        (w.setAuth .passed).send ⟨1, 2, 0x05, 0, m⟩
      else w.setAuth .failed
    | _ => w

/-- JOIN_ACCEPT on the pair link: role B finds role A's MAC valid. -/
def pairAccept (w : Work) (mac : List Byte) : Work :=
  if !w.pairOn ∨ w.get F.PAIR_CFG_ROLE ≠ 2 then w
  else match w.pair.auth with
    | .running k =>
      w.setAuth (if w.pairMac (joinText rp2 ownUid w.partnerUid k.nr k.nn 0) = some mac then .passed else .failed)
    | _ => w

/-- The handshake's ticks without an answer (R342). -/
def PairAuth.age : PairAuth → PairAuth
  | .running k => .running { k with left := k.left - 1 }
  | a => a

/-- 64 ticks without an answer end the handshake (R342, R422). -/
def Work.pairTimeout (w : Work) : Work :=
  match w.pair.auth with
  | .running k => if k.left = 0 then w.setAuth .failed else w
  | _ => w

/-! ### Readiness and desynchronisation (R360, R363) -/

/-- The READY conditions of R360 for channel `n`. -/
def Work.readyNow (w : Work) (n : Nat) : Bool :=
  let p := w.pair.partner
  w.pairUp && w.paired n && (w.chan n).standby && p.mask == w.pairMask && p.serial == w.get F.SYS_IMG_SERIAL_SERIAL &&
    (match tabFind p.chIds n with | some x => x.2 == (w.chan n).structCrc | none => false) &&
    bitOf w.pair.synced n && !bitOf w.pair.desync n

/-- READY dropped at once where its conditions no longer hold. -/
def Work.dropReady (w : Work) : Work :=
  w.put F.PAIR_STAT_READY (listMask ((maskList (w.get F.PAIR_STAT_READY) 8).filter w.readyNow))

/-- READY at a boundary: a channel that meets the conditions becomes STANDBY_READY, with its entry (R360, R368). -/
def Work.takeReady (w : Work) : Work :=
  (List.range 8).foldl (fun w n =>
    if w.readyNow n ∧ !bitOf (w.get F.PAIR_STAT_READY) n then
      (w.put F.PAIR_STAT_READY (setBit (w.get F.PAIR_STAT_READY) n true)).pairEntry 5 (2 ^ n) n
    else w) w.dropReady

/-- A channel's standby copy is desynchronised (R363). -/
def Work.desyncCh (w : Work) (n : Nat) : Work :=
  let w := w.modPair (fun p => { p with
    warm := setBit p.warm n false, desync := setBit p.desync n true, synced := setBit p.synced n false, asked := setBit p.asked n true })
  let w := ((w.raise F.PAIR_ERR_DESYNC).ev 0x52).dropReady
  (w.pairEntry 6 (2 ^ n) n).pairSend 0x46 0 [2 ^ n]

/-- A standby channel whose active's frames are followed: the link is up and the channel is paired. -/
def Work.follows (w : Work) (n : Nat) : Bool := w.pairUp && w.paired n && (w.chan n).standby

/-! ### Identity (R358, R360) -/

/-- HELLO_SEND: HELLO and one CH_ID for each paired channel, at link-up and every 1,024 ticks; before them the handshake of
R422, without which none is sent. -/
def helloSend (w : Work) : Work :=
  if w.pairOn ∧ (w.tick % 1024 = 0 ∨ !w.pairUp) then
    if w.pair.auth ≠ .passed then w.pairChallenge
    else
      let w := w.pairSend 0x40 0 [ownUid, w.get F.PAIR_CFG_ROLE, w.pairMask, w.get F.SYS_IMG_SERIAL_SERIAL]
      (maskList w.pairMask 8).foldl (fun w n =>
        w.pairSend 0x41 n [n, w.get F.SYS_IMG_CHSER_SERIAL 0 n, (w.chan n).structCrc]) w
  else w

/-- HELLO_SEND. -/
def execHelloSend (s : State) : Host.Outcome State Fault Refusal := .next (s.run helloSend)

/-- HELLO received from the partner the image names, the handshake passed: the link is up, and identities are compared (R359,
R360, R422). -/
def hello (w : Work) (uid mask serial : Nat) : Work :=
  if !w.pairOn ∨ uid ≠ w.partnerUid ∨ w.pair.auth ≠ .passed then w
  else
    let was := w.flag F.PAIR_STAT_LINK
    let w := w.modPair (fun p => { p with
      missed := if was then p.missed else 0
      partner := { p.partner with uid := uid, mask := mask, serial := serial } })
    let w := w.putFlag F.PAIR_STAT_LINK true
    let w := if was then w else w.pairEntry 1 w.pairMask
    let w := if mask ≠ w.pairMask ∨ serial ≠ w.get F.SYS_IMG_SERIAL_SERIAL then
        (w.raise F.PAIR_ERR_MISMATCH).pairEntry 9 w.pairMask
      else w
    w.dropReady

/-- HELLO. -/
def execHello (uid role mask serial : Nat) (s : State) : Host.Outcome State Fault Refusal :=
  .next (s.run (fun w => if role = 0 then w else hello w uid mask serial))

/-- CH_ID received (R360). -/
def chId (w : Work) (n chSer crc : Nat) : Work :=
  if !w.pairUp ∨ !w.paired n then w
  else
    let w := w.modPair (fun p => { p with partner := { p.partner with chIds := tabInsert p.partner.chIds n (chSer, crc) } })
    let w := if crc = (w.chan n).structCrc then w else (w.raise F.PAIR_ERR_MISMATCH).pairEntry 9 (2 ^ n) n
    w.dropReady

/-- CH_ID. -/
def execChId (ch : Fin 8) (chSer structCrc : Nat) (s : State) : Host.Outcome State Fault Refusal :=
  .next (s.run (fun w => chId w ch chSer structCrc))

/-! ### Heartbeats (R359, R366, R367) -/

/-- HEARTBEAT_SEND. -/
def heartbeatSend (w : Work) : Work :=
  if w.pairOn then
    (w.pairSend 0x42 0 [w.tick % 65536, w.pair.partner.tick, w.activeMask, w.get F.PAIR_STAT_READY, w.lead.toNat,
      w.pair.shadow.toNat]).modPair (fun p => { p with shadow := false })
  else w

/-- HEARTBEAT_SEND. -/
def execHeartbeatSend (s : State) : Host.Outcome State Fault Refusal := .next (s.run heartbeatSend)

/-- The channels this device is to release at their GUARD starts (R367). -/
def Work.releaseAll (w : Work) : Work := w.modPair (fun p => { p with release := union p.release w.activeMask })

/-- Channels this device is to take over at the next boundary (R366, R367). -/
def Work.takeNext (w : Work) (mask : Nat) : Work :=
  w.modPair (fun p => { p with takeover := union p.takeover (without mask w.activeMask) })

/-- HEARTBEAT received before its deadline (R359): the non-lead releases what it drives where its own last HEARTBEAT is
not echoed, and the lead takes over what neither device drives (R367). A SHADOW it carries is reported (R364); the spec
does not say which channels that entry names. -/
def heartbeat (w : Work) (tick echo drive ready : Nat) (lead shadow : Bool) : Work :=
  if !w.pairUp ∨ w.pair.hbJudged ∨ tick % 65536 ≠ w.tick % 65536 then w
  else
    let w := w.modPair (fun p => { p with
      hbJudged := true, heard := true, missed := 0, warm := w.get F.PAIR_STAT_READY
      partner := { p.partner with drive := drive, ready := ready, lead := lead, tick := tick % 65536 } })
    let w := if shadow then
        let (m, w) := w.fresh 8
        w.pairEntry 7 m
      else w
    let echoed := echo % 65536 == (w.tick + 65535) % 65536
    let w := if !w.lead ∧ !echoed then w.releaseAll else w
    if w.lead then w.takeNext (without (without w.pairMask drive) w.pair.releaseNext) else w

/-- HEARTBEAT. -/
def execHeartbeat (tick echo drive ready : Nat) (lead shadow : Bool) (s : State) : Host.Outcome State Fault Refusal :=
  .next (s.run (fun w => heartbeat w tick echo drive ready lead shadow))

/-- The link is lost (R359, R367): a non-lead drives nothing from then on, so that a HANDOVER it received is void. -/
def Work.linkLost (w : Work) : Work :=
  let w := (w.putFlag F.PAIR_STAT_LINK false).raise F.PAIR_ERR_LINK_LOST
  let w := w.modPair (fun p => { p with synced := 0, asked := 0, desync := 0, open_ := [], closed := [], missed := 0, hand := if w.lead then p.hand else [] })
  let w := (w.pairEntry 2 w.pairMask).dropReady
  if w.lead then w.takeNext w.pairMask else w.releaseAll

/-- HEARTBEAT_MISSED at HB_DL: the non-lead releases what it drives, and the second miss in a row loses the link. -/
def heartbeatMissed (w : Work) : Work :=
  if !w.pairUp ∨ w.pair.hbJudged then w
  else
    let k := w.pair.missed + 1
    let w := w.modPair (fun p => { p with hbJudged := true, missed := k })
    let w := ((w.raise F.PAIR_ERR_HB_MISS).countUp F.PAIR_CNT_HB_MISSED).ev 0x50
    let w := if w.lead then w else w.releaseAll
    if 2 ≤ k then w.linkLost else w

/-- HEARTBEAT_MISSED. -/
def execHeartbeatMissed (s : State) : Host.Outcome State Fault Refusal := .next (s.run heartbeatMissed)

/-- PAIR_OWN_CLAIM: the line has stood high for CLAIM; this device pulls it low and leads (R366). At the next boundary it
becomes active for every paired channel that no HEARTBEAT reports driven, and, with the link lost, for every one. -/
def pairOwnClaim (w : Work) : Work :=
  if !w.pairOn ∨ w.lead then w
  else
    let w := (w.putFlag F.PAIR_STAT_LEAD true).pairEntry 10 w.pairMask
    let w := w.modPair (fun p => { p with leadOut := false })
    w.takeNext (if w.pairUp then without w.pairMask w.pair.partner.drive else w.pairMask)

/-- PAIR_OWN_CLAIM. -/
def execPairOwnClaim (s : State) : Host.Outcome State Fault Refusal := .next (s.run pairOwnClaim)

/-! ### Commits and cuts (R358, R361) -/

/-- COMMIT received for a channel that this device follows. -/
def execCommit (ch : Fin 8) (item : PairItem) (s : State) : Host.Outcome State Fault Refusal :=
  .next (s.run (fun w =>
    if w.follows ch then w.modPair (fun p => { p with open_ := p.open_ ++ [(ch.val, item)] }) else w))

/-- CUT received: the commits since the last one are closed, if their count and their CRC agree (R361, R363). -/
def cut (w : Work) (n count crc : Nat) : Work :=
  if !w.follows n then w
  else
    let mine := w.pair.open_.filter (fun x => x.1 == n)
    let ok := mine.length == count && crc32 ((mine.map (fun x => Config.pairItemBytes x.2)).flatten) == crc
    let w := w.modPair (fun p => { p with
      open_ := p.open_.filter (fun x => x.1 != n), cutGot := setBit p.cutGot n true
      closed := if ok then p.closed ++ mine else p.closed })
    if ok then w else w.desyncCh n

/-- CUT. -/
def execCut (ch : Fin 8) (count crc : Nat) (s : State) : Host.Outcome State Fault Refusal :=
  .next (s.run (fun w => cut w ch count crc))

/-- The CUT of a channel this device drives, at the actual start of its GUARD slot (R358). -/
def Work.cutSend (w : Work) (n : Nat) : Work :=
  if w.pairActive n ∧ w.pairUp then
    let mine := w.pair.sent.filter (fun x => x.1 == n)
    let w := w.modPair (fun p => { p with sent := p.sent.filter (fun x => x.1 != n) })
    w.pairSend 0x44 n [n, mine.length, crc32 ((mine.map (·.2)).flatten)]
  else w

/-- What checks and frames of this device's own have left to the next boundary is dropped: another device judges the channel,
or its states are another's (R137, R268). -/
def Work.dropPending (w : Work) (n : Nat) : Work :=
  (w.modInteg n (fun g => { g with decl := [], okNow := [] })).modChan n (fun c => { c with
    tap := c.tap.map (fun t => { t with await := false, badCauses := [], orphan := none, pend := [] }) })

/-- The lines of a channel that is to be released go high-impedance at the start of its GUARD slot (R367, R368). -/
def Work.pairRelease (w : Work) (n : Nat) : Work :=
  if !bitOf w.pair.release n then w
  else
    let w := w.modPair (fun p => { p with release := setBit p.release n false })
    if !bitOf w.activeMask n then w
    else
      let w := w.put F.PAIR_STAT_ACTIVE (setBit w.activeMask n false)
      let w := (w.dropPending n).modChan n (fun c => { c with standby := true })
      let w := w.modPair (fun p => { p with
        warm := setBit p.warm n false
        synced := setBit p.synced n false, desync := setBit p.desync n false, asked := setBit p.asked n false })
      let w := if w.chState n = stRunning then w.putChState n stStandby else w
      w.stringDark n

/-- The partner of a handover pulls PAIR_OWN low at the GUARD start before the boundary it takes over at (R368). -/
def Work.leadIn (w : Work) : Work :=
  if !w.lead ∧ w.pair.hand.any (fun h => h.2.1 && decide ((w.tick + 1) % 2 ^ 32 = h.2.2 % 2 ^ 32)) then
    (w.putFlag F.PAIR_STAT_LEAD true).pairEntry 10 w.pairMask
  else w

/-- What the start of a channel's GUARD slot does to the pair: CUT, release, and LEAD passing (R358, R367, R368). -/
def Work.pairGuard (w : Work) (n : Nat) : Work := ((w.cutSend n).pairRelease n).leadIn

/-- The index of an ALERT_ID in a channel's table. -/
def Work.alertById (w : Work) (n id : Nat) : Option Nat :=
  (List.range (w.alertN n)).find? (fun a => (w.alertDef n a).id == id)

/-- Both devices run channel `n` from the same channel image, so far as this one knows; else only what both images define is
followed: fields by index, alerts by ALERT_ID, lamp functions by FN_ID (R360). -/
def Work.sameImage (w : Work) (n : Nat) : Bool :=
  match tabFind w.pair.partner.chIds n with
  | some x => x.1 == w.get F.SYS_IMG_CHSER_SERIAL 0 n
  | none => true

/-- A closed commit of the active becomes a change of the standby, due as at the active (R361). Where the images differ, a
field's value is drawn by this device's own tables, and elements and registers are not followed (R360). -/
def Work.followItem (w : Work) (n t : Nat) (item : PairItem) : Work :=
  let add := fun (w : Work) (c : Chg) =>
    w.modMash n (fun m => m.commit t none item.due false [c])
  match item.what with
  | .elem e on => if w.sameImage n then add w (.disp [.elem e on]) else w
  | .value f v bad => add w (.disp (if w.sameImage n then [.value f v bad] else (w.drawField n f v bad).1))
  | .swap => add w .swap
  | .alertCond id on => match w.alertById n id with | some a => add w (.alertCond a on) | none => w
  | .alertAck id o => match w.alertById n id with | some a => add w (.alertAck a o) | none => w
  | .reg a v =>
    if !w.sameImage n then w
    else
      let old := w.curReg n a
      let w := w.modChan n (fun c => { c with mash := { c.mash with older := tabInsert c.mash.older a old } })
      add (w.setReg a v) (.reg a v)
  | .dim g l tk a => if 16 ≤ g then w else (w.adoptDim g l tk a false).1
  | .lamp id l => match w.fnById n id with | some f => add w (.lamp f l) | none => w

/-! ### State deltas and resync (R362, R363) -/

/-- A register field's words over a run of copies, with their numbers. -/
def Work.words (w : Work) (f : Fld) (n k : Nat) : List Nat := (List.range k).map (fun i => w.get f n i)

/-- The channel's presented state, in the order of the model (R362). -/
def Work.presented (w : Work) (n : Nat) : List Nat :=
  (w.chan n).blink.lit ++ (w.chan n).blink.digitsOff

/-- The contents of a channel's STATE or RESYNC frames (R362). -/
def Work.stateContents (w : Work) (n : Nat) : List Nat :=
  let c := w.chan n
  [n] ++ w.words R.MASH_FSTAT n 128 ++ (List.range (w.alertN n)).map (fun a => w.alertState n a) ++
    w.words R.KILN_ACC n 80 ++ [w.get R.LED_GOV n] ++ c.led.est ++ [c.led.prevAvg] ++ (c.led.volts.map (fun x => [x.1, x.2])).flatten ++
    w.words R.INTEG_ELEM n 64 ++ (c.integ.failedBy.map (fun x => [x.1, x.2])).flatten ++
    (c.integ.recheck.map (fun x => x.1 :: (x.2.map (fun y => [y.1, y.2])).flatten)).flatten ++ c.integ.inForce ++
    w.words R.LAMP_LST n 12 ++ c.lamp.lamps.map (·.debt) ++ c.lamp.lamps.map (·.passes) ++
    (c.lamp.heldOff.map (fun x => [(w.fnDef n x.1).id, x.2.1, x.2.2.toNat])).flatten ++ [w.get R.LAMP_GOV n] ++ c.lamp.est ++
    w.words R.TAP_STAT n 2 ++ c.lamp.ufFailed ++ (c.tap.map (fun t => t.crcBad ++ [t.faultVal.getD 0])).flatten ++
    w.words R.GRIST_KEYS n 16 ++ [w.ringOldest n, w.ringNext n]

/-- The bytes of the last `k` entries of a channel's ring, oldest first. -/
def Work.lastEntries (w : Work) (n k : Nat) : List Byte :=
  let d := Nat.max 1 (w.ringDepth n)
  let k := Nat.min k d
  ((List.range k).map (fun i => w.peeks (w.ringBase n + 16 * (((w.ring n).place + d - k + i) % d)) 16)).flatten

/-- The bytes of the ring entries that were stored since the last state delta. -/
def Work.newEntries (w : Work) (n : Nat) : List Byte :=
  w.lastEntries n ((w.ringNext n + 65536 - tabGet w.pair.sentNext 0 n) % 65536)

/-- STATE_SEND: the state delta of every channel this device drives (R362). -/
def stateSend (w : Work) : Work :=
  if !w.pairUp then w
  else (maskList w.pairMask 8).foldl (fun w n =>
    if w.pairActive n then
      let c := w.stateContents n ++ (w.newEntries n).map (·.toNat) ++ [Config.presentedDigest (w.presented n)]
      (w.pairSend 0x45 n c).modPair (fun p => { p with sentNext := tabInsert p.sentNext n (w.ringNext n) })
    else w) w

/-- STATE_SEND. -/
def execStateSend (s : State) : Host.Outcome State Fault Refusal := .next (s.run stateSend)

/-- The ring entries of a delta taken into the standby's copy, with the active's OLDEST and NEXT (R214, R225). -/
def Work.copyEntries (w : Work) (n : Nat) (es : List (List Byte)) (oldest next : Nat) : Work :=
  let w := es.foldl (fun w e =>
    let r := w.ring n
    let w := w.pokes (w.ringBase n + 16 * r.place) (e.take 16)
    w.setRing n { r with place := (r.place + 1) % Nat.max 1 (w.ringDepth n) }) w
  let count := Nat.min (w.ringDepth n) ((next % 65536 + 65536 - oldest % 65536) % 65536)
  let w := (w.setRingOldest n (oldest % 65536)).setRingNext n ((oldest + count) % 65536)
  (w.setRingCount n count).takeAttention n

/-- The functions held off of a delta, by FN_ID (R254, R360). -/
def Work.copyFns (w : Work) (n : Nat) (d : PairDelta) : Work :=
  w.modStr n (fun s => { s with heldOff := d.fnOff.filterMap (fun x => (w.fnById n x.1).map (fun f => (f, x.2))) })

/-- The lamps of a delta adopted: their states, rechecks and debts, the functions held off, by FN_ID, and the switch governor
(R254). -/
def Work.copyLamps (w : Work) (n : Nat) (d : PairDelta) : Work :=
  let w := ((List.range 12).zip d.lamps).foldl (fun w x =>
    w.modLamp n x.1 (fun l => { l with
      state := if bitsOf x.2.1 1 0 = 3 then 0 else bitsOf x.2.1 1 0, recheck := (tabFind d.lampRe x.1).isSome
      passes := tabGet d.lampRe 0 x.1, debt := x.2.2 })) w
  let w := (w.copyFns n d).modStr n (fun s => { s with ufFailed := d.tapFailed, est := d.swGov.2 })
  (w.setReg (R.LAMP_GOV.addr n 0) d.swGov.1).showLamps n

/-- The Tap states of a delta adopted: failed outputs, nodes failed by CRC_ERR, and chain faults (R268). -/
def Work.copyTap (w : Work) (n : Nat) (d : PairDelta) : Work :=
  let w := ((List.range 2).zip d.tapStat).foldl (fun w x => w.setReg (R.TAP_STAT.addr n x.1) x.2) w
  (List.range 2).foldl (fun w l =>
    let all := (d.tapFailed.filter (fun x => x / 256 == l)).map (· % 256)
    let crc := (d.tapCrc.filter (fun x => x / 16 == l)).map (· % 16)
    let fault := tabFind d.tapFault l
    let w := w.modTap n l (fun t => { t with
      bad := all.filter (fun x => fault.isSome || !crc.contains (x / 16)), crcBad := crc, faultVal := fault })
    (List.range 16).foldl (fun w k =>
      w.put F.TAP_NODE_FAILED (listMask ((all.filter (fun x => x / 16 == k)).map (· % 16))) n (16 * l + k)) w) w

/-- One account received: with the booking since the boundary added (R97). -/
def Kiln.takeAccount (k : Kiln) (m : Nat) (v : Int) : Kiln :=
  { k with acc := tabPut k.acc 0 m (v + k.accOf m - tabGet k.accAt 0 m), accAt := tabPut k.accAt 0 m v }

/-- A delta's state adopted by the standby (R97, R111, R137, R166, R254, R268); where the images differ, what both define
(R360). -/
def Work.copyDelta (w : Work) (n : Nat) (d : PairDelta) : Work :=
  let w := d.fields.foldl (fun w x =>
    if w.sameImage n ∨ (w.fieldDef n x.1).isSome then w.setReg (R.MASH_FSTAT.addr n x.1) x.2 else w) w
  let w := d.alerts.foldl (fun w x =>
    match w.alertById n x.1 with
    | some a => w.setAlertState n a x.2
    | none => w) w
  if !w.sameImage n then (((w.copyFns n d).showLamps n).copyEntries n d.entries d.oldest d.next).showAlerts n
  else
  let w := (w.dropPending n).modKiln n (fun k => d.accounts.foldl (fun k x => k.takeAccount x.1 (signed 24 x.2 * vus)) k)
  let w := (w.setReg (R.LED_GOV.addr n 0) d.gov.1).modLed n (fun l => { l with
    est := d.gov.2, prevAvg := d.govAvg, volts := d.volts.foldl (fun t x => tabInsert t x.1 x.2) l.volts })
  let w := d.elems.foldl (fun w x => w.setReg (R.INTEG_ELEM.addr n x.1) x.2) w
  let w := w.modInteg n (fun g => { g with
    failedBy := d.failedBy, recheck := d.recheck.foldl (fun t x => tabInsert t x.1 x.2) [], inForce := d.policies })
  ((((w.copyLamps n d).copyTap n d).copyEntries n d.entries d.oldest d.next).showAlerts n).showInteg n

/-- Key states compared with the active's, once a scan (R365). -/
def Work.compareKeys (w : Work) (n : Nat) (keys : List Nat) : Work :=
  let w := w.modPair (fun p => { p with partner := { p.partner with
    keys := ((List.range 16).zip keys).foldl (fun t x => tabInsert t (16 * n + x.1) x.2) p.partner.keys } })
  let scan := w.get F.GRIST_STAT_SCAN n + 1
  if tabGet w.pair.scanAt 0 n = scan then w
  else
    let w := w.modPair (fun p => { p with scanAt := tabInsert p.scanAt n scan })
    (List.range 512).foldl (fun w k =>
      let id := 512 * n + k
      let c := tabGet w.pair.keyCnt 0 id
      if (w.chan n).grist.down.contains k = bitOf (keys.getD (k / 32) 0) (k % 32) then
        w.modPair (fun p => { p with keyCnt := tabPut p.keyCnt 0 id 0 })
      else
        let w := w.modPair (fun p => { p with keyCnt := tabPut p.keyCnt 0 id (Nat.min 2 (c + 1)) })
        if c = 1 then
          ((w.modPair (fun p => { p with shadow := true })).raise F.PAIR_ERR_KEY_DISAGREE).pairEntry 8 (2 ^ n) n k
        else w) w

/-- STATE received: adopted, and its digest and alert states checked (R362, R363); what two images that differ present is not
compared (R360, log entry 51). -/
def stateRecv (w : Work) (n : Nat) (d : PairDelta) (digest : Nat) : Work :=
  if !w.follows n then w
  else
    let own := Config.presentedDigest (w.presented n)
    let alertsOk := d.alerts.all (fun x => match w.alertById n x.1 with | some a => w.alertState n a == x.2 | none => true)
    let w := w.modPair (fun p => { p with stateGot := setBit p.stateGot n true })
    let w := (w.copyDelta n d).compareKeys n d.keys
    if ((digest = own ∨ !w.sameImage n) ∧ alertsOk) ∨ !bitOf w.pair.synced n then w else w.desyncCh n

/-- STATE. -/
def execState (ch : Fin 8) (delta : PairDelta) (digest : Nat) (s : State) : Host.Outcome State Fault Refusal :=
  .next (s.run (fun w => stateRecv w ch delta digest))

/-- A change that waits at the active, as the items that would have streamed it (R361). -/
def Work.changeItems (w : Work) (n : Nat) (c : Change) : List PairItem :=
  match c.what with
  | .disp ws => ws.map (fun d => match d with
    | .elem e on => ⟨.elem e on, c.due⟩
    | .value f v bad => ⟨.value f v bad, c.due⟩)
  | .swap => [⟨.swap, c.due⟩]
  | .alertCond a on => [⟨.alertCond (w.alertDef n a).id on, c.due⟩]
  | .alertAck a o => [⟨.alertAck (w.alertDef n a).id o, c.due⟩]
  | .alertAckGrp mask o =>
    ((List.range (w.alertN n)).filter (fun a => bitOf mask (w.alertDef n a).grp)).map
      (fun a => ⟨.alertAck (w.alertDef n a).id o, c.due⟩)
  | .reg a v => [⟨.reg a v, c.due⟩]
  | .lamp f l => [⟨.lamp (w.fnDef n f).id l, c.due⟩]

/-- The settings of a channel that its standby follows: classes, blink groups and their assignment (R362). -/
def Work.settingItems (w : Work) (n : Nat) : List PairItem :=
  [(R.LED_CLASS, 16), (R.LED_CLASSMAP, 128), (R.BLINK_GRP_T, 8), (R.BLINK_GRP_C, 8), (R.BLINK_DIMENC, 2), (R.BLINK_FIELD, 16),
    (R.BLINK_ELEM, 128)].flatMap (fun x => (List.range x.2).map (fun k => ⟨.reg (x.1.addr n k) (w.get x.1 n k), none⟩))

/-- What a resync carries beside the state delta, the images and the alert conditions: the settings and the dim levels, and
every change that still waits for its boundary (R363). -/
def Work.fullItems (w : Work) (n : Nat) : List PairItem :=
  w.settingItems n ++
    (List.range 16).map (fun g => ⟨.dim g (w.heldDim g).level (w.heldDim g).tick (w.heldDim g).addr, none⟩) ++
    (w.chan n).mash.changes.flatMap (fun c => w.changeItems n c)

/-- RESYNC_REQ received: the active answers with the full state of the channels it drives (R363), the entries of the whole ring
among it. -/
def resyncReq (w : Work) (mask : Nat) : Work :=
  if !w.pairUp then w
  else (maskList mask 8).foldl (fun w n =>
    if w.pairActive n then
      (w.pairSend 0x47 n (w.stateContents n ++ (w.lastEntries n (w.ringCount n)).map (·.toNat) ++
        (w.peeks (w.frontImage n).1 (w.frontImage n).2).map (·.toNat) ++
        (if w.held n then (w.peeks (w.backImage n).1 (w.backImage n).2).map (·.toNat) else []) ++
        ((w.fullItems n).flatMap Config.pairItemBytes).map (·.toNat) ++
        w.words R.BLINK_ALCOND n 8 ++ (w.chan n).lamp.level.map (·.2))).modPair
          (fun p => { p with sentNext := tabInsert p.sentNext n (w.ringNext n) })
    else w) w

/-- RESYNC_REQ. -/
def execResyncReq (mask : Nat) (s : State) : Host.Outcome State Fault Refusal := .next (s.run (fun w => resyncReq w mask))

/-- Bytes at offsets of an image written; where the images of the pair differ, those of the value records alone (R360). -/
def Work.copyImage (w : Work) (n : Nat) (img : Nat × Nat) (bs : List (Nat × Byte)) : Work :=
  bs.foldl (fun w x =>
    if x.1 < img.2 ∧ (w.sameImage n ∨ (0x100 ≤ x.1 ∧ x.1 < 0x900)) then w.poke (img.1 + x.1) x.2 else w) w

/-- Every field that has been written drawn into an image from its value record, by this device's own tables (R360). -/
def Work.redrawFields (w : Work) (n : Nat) (img : Nat × Nat) : Work :=
  (List.range 128).foldl (fun w f =>
    let a := img.1 + 0x100 + 16 * f
    let st := (w.peek (a + 4)).toNat
    if bitOf st 1 then
      ((w.drawField n f (leVal (w.peeks a 4)) (bitOf st 0)).1.filter (fun d => d.field?.isNone)).foldl (fun w d => w.writeDisp img none d) w
    else w) w

/-- RESYNC received: a piece of the channel's full state; after the last one the copy is whole (R363). -/
def resync (w : Work) (n : Nat) (p : PairPiece) (last : Bool) : Work :=
  if !w.follows n then w
  else
    let w := w.copyDelta n p.delta
    let img := w.frontImage n
    let w := w.copyImage n img p.image
    let w := if w.held n then w.copyImage n (w.backImage n) p.back else w
    let w := p.items.foldl (fun w i => w.followItem n w.ended i) w
    let w := p.conds.foldl (fun w x =>
      match w.alertById n x.1 with | some a => w.setAlertCond n a x.2 | none => w) w
    let w := w.modStr n (fun s => { s with level := p.levels.foldl (fun t x =>
      match w.fnById n x.1 with | some f => tabInsert t f x.2 | none => t) s.level })
    if last then
      let w := if w.sameImage n then w else w.redrawFields n img
      let w := if w.held n then w else w.copyRange img.1 (w.backImage n).1 (Nat.min 0x900 (w.backImage n).2)
      w.modPair (fun q => { q with
        synced := setBit q.synced n true, desync := setBit q.desync n false, asked := setBit q.asked n false })
    else w

/-- RESYNC. -/
def execResync (ch : Fin 8) (piece : PairPiece) (last : Bool) (s : State) : Host.Outcome State Fault Refusal :=
  .next (s.run (fun w => resync w ch piece last))

/-! ### Handovers (R368) -/

/-- HANDOVER received: this device drives the named channels from the boundary it names. -/
def handover (w : Work) (mask : Nat) (lead : Bool) (boundary : Nat) : Work :=
  if !w.pairUp then w
  else (w.modPair (fun p => { p with hand := p.hand ++ [(mask, lead, boundary)] })).pairEntry 4 mask

/-- HANDOVER. -/
def execHandover (mask : Nat) (lead : Bool) (boundary : Nat) (s : State) : Host.Outcome State Fault Refusal :=
  .next (s.run (fun w => handover w mask lead boundary))

/-- A write of PAIR_HAND can be accepted: the link is up, this device drives every channel named, and the partner reports
it READY (R368). -/
def Work.handOk (w : Work) (mask : Nat) : Bool :=
  w.pairUp && (maskList mask 8).all (fun n => bitOf w.activeMask n && bitOf w.pair.partner.ready n)

/-- An accepted handover (R368). -/
def Work.handOver (w : Work) (mask : Nat) : Work :=
  if maskList mask 8 = [] then w
  else
    let late := (maskList mask 8).any (fun n => (w.chan n).cutPassed)
    let left := without w.activeMask mask
    let lead := w.lead && decide (left &&& w.pairMask = 0)
    let b := (w.tick + if late then 2 else 1) % 2 ^ 32
    let w := w.modPair (fun p =>
      if late then { p with releaseNext := union p.releaseNext mask } else { p with release := union p.release mask })
    let w := w.modPair (fun p => { p with leadOut := p.leadOut || lead, hand := if lead then p.hand ++ [(0, false, b)] else p.hand })
    (w.pairEntry 4 mask).pairSend 0x48 0 [mask, lead.toNat, b]

/-! ### Shadow monitoring (R364) -/

/-- The level of a line at the end of the DISPLAY slot in progress, in 1/768 mV: 0 V before READY, VMID where it is trimmed
there, else its planned level (R83, R88). -/
def Work.slotEndLevel (w : Work) (n m : Nat) : Int :=
  let c := w.chan n
  let first := (c.seq.todo.head?.map (·.kind)) == some kDiag
  let trimmed := !first && c.kiln.book.any (fun b => b.line == m && b.trim != 0)
  if !w.ledgerOn n then 0
  else (if trimmed then 0 else tabGet c.kiln.lastDev 0 m) + (3840 * w.vlcd n : Nat)

/-- A captured line agrees with the standby's own waveform: `mv` in mV. -/
def Work.shadowOk (w : Work) (n m mv : Nat) : Bool :=
  let c := w.chan n
  if c.seq.act.isLcd then
    let v := w.vlcd n
    let expect : Int := w.slotEndLevel n m
    decide (((mv * 768 : Nat) - expect : Int).natAbs ≤ 768 * Nat.max 300 v)
  else match c.seq.act.coms.find? (fun x => x.1 == m) with
    | some (_, com) =>
      let on := com + 1 == c.seq.nDisp && !c.blink.digitsOff.contains com && !c.led.ocNow
      decide (mv < 1000) == on
    | none => true

/-- The lines a shadow capture takes: up to 16 of the channel's COM and SEG lines, ascending, going round. -/
def Work.shadowLines (w : Work) (n : Nat) : List Nat :=
  let ls := (w.chan n).seq.act.sortedLines
  let at_ := if ls.length = 0 then 0 else tabGet w.pair.shadowAt 0 n % ls.length
  ((ls.drop at_) ++ (ls.take at_)).take 16

/-- SHADOW_CAPTURE: the captured codes of the lines in turn, each with its voltage in mV (R364). -/
def shadowCapture (w : Work) (n : Nat) (mv : List (Nat × Nat)) : Work :=
  let c := w.chan n
  match c.seq.cur with
  | some sl =>
    if sl.kind = kDisplay ∧ w.paired n ∧ c.standby ∧ w.pairOn then
      let w' := ((w.shadowLines n).zip mv).foldl (fun w x =>
        let id := 128 * n + x.1
        let k := tabGet w.pair.shadowCnt 0 id
        if w.shadowOk n x.1 x.2.2 then w.modPair (fun p => { p with shadowCnt := tabPut p.shadowCnt 0 id 0 })
        else
          let w := w.modPair (fun p => { p with shadowCnt := tabPut p.shadowCnt 0 id (Nat.min 2 (k + 1)) })
          if k = 1 then
            (w.setReg (R.PAIR_SHADOW.addr 0 0) (x.2.1 % 4096 + 2 ^ 12 * x.1 + 2 ^ 19 * n)).raiseShadow n x.1
          else w) w
      w'.modPair (fun p => { p with shadowAt := tabInsert p.shadowAt n (tabGet p.shadowAt 0 n + 16) })
    else w
  | none => w

/-- SHADOW_CAPTURE. -/
def execShadowCapture (ch : Fin 8) (mv : List (Nat × Nat)) (s : State) : Host.Outcome State Fault Refusal :=
  .next (s.run (fun w => shadowCapture w ch mv))

/-! ### The boundary (R360 to R368) -/

/-- The pair logic at the boundary that ends tick `t`, before the tick count moves on: releases that met no GUARD start,
desyncs of channels whose CUT or STATE did not come, though a takeover from a partner that has fallen silent still
continues them (R370), the closed commits handed to their channels, and the tick's marks
cleared. -/
def Work.pairEnd (w : Work) (t : Nat) : Work :=
  if !w.pairOn then w
  else
    let w := (maskList w.pair.release 8).foldl (fun w n => w.pairRelease n) w
    let warm := w.pair.warm
    let w := (maskList w.pair.synced 8).foldl (fun w n =>
      if w.follows n ∧ (!bitOf w.pair.cutGot n ∨ !bitOf w.pair.stateGot n) then w.desyncCh n else w) w
    let closed := w.pair.closed
    let w := w.modPair (fun p => { p with
      warm := warm, heard := false, closed := [], cutGot := 0, stateGot := 0, hbJudged := false, release := p.releaseNext, releaseNext := 0 })
    closed.foldl (fun w x => w.followItem x.1 t x.2) w

/-- The tick `t'` begins: LEAD that passes, channels that a HANDOVER names, READY, and the first request for a resync of a
channel that agrees with its partner (log entry 51). -/
def Work.pairBegin (w : Work) (t' : Nat) : Work :=
  if !w.pairOn then w
  else
    let w := (w.pair.hand.filter (fun h => decide (t' % 2 ^ 32 = h.2.2 % 2 ^ 32))).foldl (fun w h =>
      if h.1 = 0 then
        (if w.pair.leadOut then (w.putFlag F.PAIR_STAT_LEAD false).pairEntry 10 w.pairMask else w).modPair
          (fun p => { p with leadOut := false })
      else
        let m := without h.1 w.activeMask
        w.modPair (fun p => { p with handed := union p.handed m, takeover := union p.takeover m })) w
    let w := w.modPair (fun p => { p with hand := p.hand.filter (fun h => !decide (t' % 2 ^ 32 = h.2.2 % 2 ^ 32)) })
    let w := w.takeReady
    (maskList w.pairMask 8).foldl (fun w n =>
      if w.follows n ∧ !bitOf w.pair.synced n ∧ !bitOf w.pair.asked n ∧ w.pair.partner.mask = w.pairMask then
        (w.modPair (fun p => { p with asked := setBit p.asked n true })).pairSend 0x46 0 [2 ^ n]
      else w) w

end Sys2Proof.Machine
end

