-- ==== Sys2Proof/Machine/Lock.lean ====
section
/-! DEFINITION. The tick period and its lock (R43 to R47, R324, R325, R349, R350). -/

namespace Sys2Proof.Machine

/-- The lock changed. -/
def Work.modLock (w : Work) (f : Lock → Lock) : Work := { w with lock := f w.lock }

/-- Lock states (SYS_TICK_STAT): FREE. -/
def lkFree : Nat := 0
/-- ACQUIRE. -/
def lkAcquire : Nat := 1
/-- LOCKED. -/
def lkLocked : Nat := 2
/-- HOLDOVER. -/
def lkHoldover : Nat := 3

/-- LOCK_STATE. -/
def Work.lockState (w : Work) : Nat := w.get F.SYS_TICK_STAT_LOCK_STATE

/-- LOCK_STATE set; a new acquisition counts its source events afresh. -/
def Work.setLock (w : Work) (st : Nat) : Work :=
  (w.put F.SYS_TICK_STAT_LOCK_STATE st).modLock (fun l => { l with inRow := 0 })

/-- The TICK_LOCK entry of a lock transition. The spec gives its CODE and VALUE no content. -/
def Work.lockEntry (w : Work) : Work := w.entryOpen 0x81

/-- The tick, in ns, that a source cycle stands for under RATIO and RATIO_DIR (R43). -/
def Work.sourceTick (w : Work) (cycleNs : Nat) : Int :=
  let r := w.get F.SYS_TICK_CFG_RATIO
  if w.flag F.SYS_TICK_CFG_RATIO_DIR then (cycleNs * r : Nat) else roundOpen cycleNs r

/-- A source cycle lies within 0.1 % of its ratio to the tick (R43). -/
def Work.ratioOk (w : Work) (cycleNs : Nat) : Bool :=
  let r := w.get F.SYS_TICK_CFG_RATIO
  let (a, b) := if w.flag F.SYS_TICK_CFG_RATIO_DIR then (cycleNs * r, w.periodUs * 1000) else (cycleNs, r * w.periodUs * 1000)
  decide (1000 * (a - b) ≤ b) && decide (1000 * (b - a) ≤ b)

/-- PHASE_STEP (R45): the running tick is extended up to the next source-aligned boundary. SEQ_STAT reads GUARD through the
extension (log entry 79). -/
def Work.phaseStep (w : Work) (errNs : Int) : Work :=
  let per : Int := w.periodUs * 1000
  let ext := (roundOpen (errNs % per) 5).toNat
  let w := w.modLock (fun l => { l with stretch := ext, corr := 0, inRow := 0 })
  let w := (w.countWrap F.SYS_TICK_STAT_STEPS).ev 0x5E
  w.eachChan (fun w n => w.raise F.SEQ_ERR_STRETCH n)

/-- A source event judged in ACQUIRE (R46): `errNs` is positive where the device's boundary falls before the source's. -/
def Work.acquireEvent (w : Work) (cycleNs : Nat) (errNs : Int) : Work :=
  if !w.ratioOk cycleNs then
    ((w.raise F.SYS_TICK_STAT_LOCK_MISMATCH).setLock lkFree).modLock (fun l => { l with retryAt := some (w.bounds + 1024), corr := 0 })
  else if 2000 < errNs.natAbs then w.phaseStep errNs
  else
    let w := w.modLock (fun l => { l with
      corr := roundOpen errNs 5, inRow := if errNs.natAbs ≤ 100 then l.inRow + 1 else 0 })
    if 16 ≤ w.lock.inRow then
      ((w.setLock lkLocked).lockEntry).modLock (fun l => { l with everLocked := true })
    else w

/-- A source event (R46). The event that leads to ACQUIRE is judged there and may be the first of the 16, and in LOCKED a
cycle off its ratio changes nothing (log entry 79). -/
def Work.lockEvent (w : Work) (cycleNs : Nat) (errNs : Int) : Work :=
  let st := w.lockState
  let w := w.put F.SYS_TICK_STAT_PHASE_ERR_NS (unsigned 16 (max (-32767) (min 32767 errNs)))
  let w := w.modLock (fun l => { l with measured := cycleNs })
  if st = lkFree then
    match w.lock.retryAt with
    | some _ => w
    | none => (w.setLock lkAcquire).acquireEvent cycleNs errNs
  else if st = lkAcquire then w.acquireEvent cycleNs errNs
  else if st = lkLocked then
    if 2000 < errNs.natAbs then (w.setLock lkAcquire).lockEntry
    else w.modLock (fun l => { l with corr := roundOpen errNs 5 })
  else w.setLock lkAcquire

/-- The source that LOCK_SRC names gives events (R324): PTP while its state is SLAVE; an engine while it runs the matching
image, PROFINET once 64 arrivals are fitted. FABRIC events come with TIME frames (R348). -/
def Work.sourceGives (w : Work) : Bool :=
  let e := w.get F.TUN_CTL_LOCK_ENG
  let runs := fun (p : Nat) => w.get F.TUN_STAT_PROTO 0 e == p && bitOf (w.get F.TUN_CTL_RUNNING) e && !(w.tunEng e).held
  match w.get F.SYS_TICK_CFG_LOCK_SRC with
  | 2 => w.get F.NET_PTP_STAT_STATE == 3
  | 3 => runs 2
  | 4 => runs 1 && decide (64 ≤ (w.tunEng e).fitted)
  | 5 => runs 6
  | 6 => true
  | _ => false

/-- Outside a fabric, the device of a pair that is not the lead locks to the lead's TIME frames, whatever its LOCK_SRC says
(R349, R356). -/
def Work.pairTime (w : Work) : Bool := w.pairUp && !w.lead && !w.joined && !w.rst.rcMode

/-- LOCK_SOURCE_EVENT. On the internal RC the tick runs unsynchronised (R419). -/
def execLockSourceEvent (cycleNs : Nat) (errNs : Int) (s : State) : Host.Outcome State Fault Refusal :=
  .next (s.run (fun w => if w.sourceGives ∧ !w.pairTime ∧ !w.rst.rcMode then w.lockEvent cycleNs errNs else w))

/-- LOCK_RETRY (R43): 1,024 ticks after a refused ratio the lock is tried again, at the next source event. -/
def lockRetry (w : Work) : Work :=
  match w.lock.retryAt with
  | some t =>
    if t ≤ w.bounds ∧ w.lockState = lkFree then (w.ev 0x5F).modLock (fun l => { l with retryAt := none }) else w
  | none => w

/-- LOCK_RETRY. -/
def execLockRetry (s : State) : Host.Outcome State Fault Refusal := .next (s.run lockRetry)

/-- LOCK_HOLDOVER (R46): the 4th expected source event in a row is missing. A joined member that misses the root's TIME
frames has lost the root, and says so (R338, R355). -/
def lockHoldover (w : Work) : Work :=
  if w.lockState = lkAcquire ∨ w.lockState = lkLocked then
    let w := (w.setLock lkHoldover).lockEntry
    if w.get F.RHL_STAT_STATE = 3 then w.entryNow devRing 0x83 6 0 w.fab.rootAddr else w
  else w

/-- LOCK_HOLDOVER. -/
def execLockHoldover (s : State) : Host.Outcome State Fault Refusal := .next (s.run lockHoldover)

/-- A joined member other than the root (R349). -/
def Work.member (w : Work) : Bool := w.get F.RHL_STAT_STATE == 3

/-- The engine that LOCK_ENG names runs the image that LOCK_SRC asks for, or will when its reset ends (R324). -/
def Work.lockSrcRuns (w : Work) (src : Nat) : Bool :=
  let e := w.get F.TUN_CTL_LOCK_ENG
  let runs := fun (p : Nat) => w.get F.TUN_STAT_PROTO 0 e == p && (bitOf (w.get F.TUN_CTL_RUNNING) e || (w.tunEng e).held)
  decide (src ≤ 6) && (src != 3 || runs 2) && (src != 4 || runs 1) && (src != 5 || runs 6)

/-- A LOCK_SRC that a write may set: a joined node other than the root has FREE and FABRIC alone (R324, R325). -/
def Work.lockSrcOk (w : Work) (src : Nat) : Bool := w.lockSrcRuns src && (!w.member || decide (src ≤ 1))

/-- The plan of a channel that is active from the next boundary on. -/
def Chan.nextPlan (c : Chan) : PlanSet := c.seq.commit.getD c.seq.act

/-- A SYS_TICK_CFG word fits every channel's plan, one that waits for its boundary among them, and every coupling (R28, R47,
R263, R350). -/
def Work.tickCfgOk (w : Work) (v : Nat) : Bool :=
  let per := bitsOf v 11 0
  w.lockSrcOk (bitsOf v 14 12) &&
    (List.range 8).all (fun n =>
      let p := (w.chan n).nextPlan
      (p.slots.isEmpty || p.fits per (w.planEn n)) && w.tapsFit n per) &&
    (w.get F.RHL_STAT_STATE != 6 || decide (4 * w.get F.RHL_WORST_WORST_NS ≤ per * 1000))

/-- A checked SYS_TICK_CFG word comes into force at a boundary (R46, R47, R349). -/
def Work.adoptTickCfg (w : Work) : Work :=
  match w.lock.cfgPend with
  | none => w
  | some v =>
    let old := w.reg (R.SYS_TICK_CFG.addr 0 0)
    let own := bitsOf v 14 12
    let v := if w.member then setBits v 14 12 1 else v
    let w := w.setReg (R.SYS_TICK_CFG.addr 0 0) v
    let w := w.modLock (fun l => { l with cfgPend := none, periodUs := bitsOf v 11 0, own := own })
    let st := w.lockState
    if bitsOf v 14 12 = 0 ∧ !w.pairTime then (w.setLock lkFree).modLock (fun l => { l with retryAt := none, corr := 0 })
    else if st ≠ lkFree ∧ (bitsOf v 14 0 ≠ bitsOf old 14 0 ∨ bitsOf v 24 16 ≠ bitsOf old 24 16) then
      (w.setLock lkAcquire).modLock (fun l => { l with corr := 0 })
    else w

/-- A number held within 20 either way (R44). -/
def within20 (c : Int) : Int := max (-20) (min 20 c)

/-- The correction of the tick that begins (R44); in HOLDOVER the tick runs at the last measured period, without that limit
(R46). -/
def Work.lockTick (w : Work) : Work :=
  let st := w.lockState
  let c := if st = lkHoldover then roundOpen (w.sourceTick w.lock.measured - w.periodUs * 1000) 5
    else if st = lkFree then 0
    else within20 w.lock.corr
  w.modLock (fun l => { l with
    now := c, corr := if st = lkAcquire ∨ st = lkLocked then l.corr - c else 0, stretch := 0 })

end Sys2Proof.Machine
end

