-- ==== Sys2Proof/Machine/Seq.lean ====
section
/-! DEFINITION. The channel sequencer: slots, yielding, cuts, commits, runs and restarts (02_lines_and_slots.md; R82, R88,
R96, R102). -/

namespace Sys2Proof.Machine

/-! ### Yielding (R41) -/

/-- The slots still to run, in cycles. -/
def durSum (l : List SlotRun) : Nat := (l.map (·.dur)).sum

/-- The index in the list of the latest KEY slot. -/
def lastKey (l : List SlotRun) : Option Nat :=
  ((List.range l.length).filter (fun i => (l[i]?.map (·.kind)) == some kKey)).getLast?

/-- A list without its items `i` and, if it is a MIRROR, `i + 1`. -/
def dropPair (l : List SlotRun) (i : Nat) : List SlotRun :=
  let mirror := (l[i + 1]?.map (·.kind)) == some kMirror
  l.take i ++ l.drop (i + (if mirror then 2 else 1))

/-- A DIAG slot dropped and counted; the check periods of the channel grow by a tick (R41, R42). -/
def Work.dropDiag (w : Work) (n : Nat) : Work :=
  let w := w.modInteg n (fun g => { g with diagLost := g.diagLost + 1 })
  ((w.countUp F.SEQ_DROPS_DIAG_DROPS n).raise F.SEQ_ERR_DIAG_DROP n).ev 0x12 n

/-- The key step of KEY slot `idx` does not run, and Grist counts it (R203); a held GRIST runs none, and its observations are
FROZEN (R399). -/
def Work.missStep (w : Work) (n idx : Nat) : Work :=
  if (w.chan n).blockHeld 2 then w.freezeStep n idx else w.loseStep n idx

/-- A KEY and MIRROR pair dropped and counted; its key step is lost in its turn. -/
def Work.dropKey (w : Work) (n idx : Nat) : Work :=
  (((w.countUp F.SEQ_DROPS_KEY_DROPS n).raise F.SEQ_ERR_KEY_DROP n).ev 0x13 n).modSeq n (fun s => { s with lost := idx :: s.lost })

/-- The lost key steps of the ending tick pass, in plan order (R193, R203). -/
def Work.passLost (w : Work) (n : Nat) : Work :=
  let l := (w.chan n).seq.lost
  ((List.range (w.chan n).seq.act.slots.length).filter (fun i => l.contains i)).foldl (fun w i => w.missStep n i)
    (w.modSeq n (fun s => { s with lost := [] }))

/-- The first yield of a tick is counted (R433). -/
def Work.noteYield (w : Work) (n : Nat) : Work :=
  if (w.chan n).seq.yielded then w else (w.ev 0x11 n).modSeq n (fun s => { s with yielded := true })

/-- Remaining KEY pairs dropped from the last one on, until the need fits; at most `fuel` of them. -/
def Work.yieldKeys (w : Work) (n left : Nat) (corr : Int) : Nat → List SlotRun → Work × List SlotRun
  | 0, l => (w, l)
  | fuel + 1, l =>
    if (durSum l : Int) + corr ≤ left then (w, l)
    else match lastKey l with
      | none => (w, l)
      | some i =>
        let idx := (l[i]?.map (·.idx)).getD 0
        ((w.noteYield n).dropKey n idx).yieldKeys n left corr fuel (dropPair l i)

/-- The shortfall shared among the remaining DISPLAY slots. -/
def Work.yieldDisplay (w : Work) (n left : Nat) (corr : Int) (l : List SlotRun) : Work × List SlotRun :=
  let k := (l.filter (fun s => s.kind == kDisplay)).length
  let s := ((durSum l : Int) + corr - left).toNat
  if s = 0 ∨ k = 0 then (w, l)
  else
    ((w.noteYield n).raise F.SEQ_ERR_DISP_SHORT n,
      l.map (fun x => if x.kind = kDisplay then { x with dur := x.dur - Nat.min x.dur (divCeil s k), short := true } else x))

/-- The yields of a slot start (R41): `left` is the time to the next boundary. -/
def Work.yield (w : Work) (n left : Nat) (corr : Int) (l : List SlotRun) : Work × List SlotRun :=
  let (w, l) := if (durSum l : Int) + corr ≤ left then (w, l)
    else if l.any (fun x => x.kind == kDiag) then
      ((w.noteYield n).dropDiag n, l.filter (fun x => x.kind != kDiag))
    else (w, l)
  let (w, l) := w.yieldKeys n left corr 64 l
  w.yieldDisplay n left corr l

/-! ### Holds and Kiln faults (R82, R84) -/

/-- The plan of a channel ends within the running tick: of the key steps it still owed, those dropped pass as lost, and those
of the slots that have not started do not run (R84, R203). -/
def Work.haltSteps (w : Work) (n : Nat) : Work :=
  if !(w.chan n).planRuns then w
  else
    let w := w.passLost n
    let left := ((w.chan n).seq.todo.filter (fun x => x.kind == kKey)).map (·.idx)
    let w := left.foldl (fun w i => if (w.chan n).blockHeld 2 then w.freezeStep n i else w.skipStep n i) w
    w.modSeq n (fun s => { s with halted := true })

/-- What a Kiln fault does at the next slot start: every line at 0 V, the Kiln cold, and QUIESCED without settlement; no
window of a pin engine stays open, and no restart that was asked for before stands (R84, R289). -/
def Work.kilnStop (w : Work) (n : Nat) : Work :=
  let w := (((w.haltSteps n).closeWindows n).turnCold n).stopPlan n
  let w := w.modChan n (fun c => { c with
    restart := none, kiln := { c.kiln with faulted := true, faultDue := false, quiesce := .none } })
  (w.noteDown n).putChState n (w.restState n)

/-- A Kiln fault detected: its entry at once, and BUF_FAULT. The next slot start acts on it; where no slot runs, it acts at
once (R84; log entry 54). -/
def Work.kilnFault (w : Work) (n code src : Nat) : Work :=
  if (w.chan n).kiln.faultDue then w
  else
    let w := w.raise F.KILN_STAT_BUF_FAULT n
    let w := w.entryNow n 0x21 code 0 (src % 8 + 256 * w.vlcd n)
    if (w.chan n).planRuns then w.modKiln n (fun k => { k with faultDue := true }) else w.kilnStop n

/-- KILN_OVERCURRENT (R84): `src` 0 the VLCD regulator, k buffer VBk, 5 the VMID buffer. -/
def kilnOvercurrent (w : Work) (n src : Nat) : Work :=
  let c := w.chan n
  if c.inReset ∨ c.kiln.cold ∨ !c.seq.act.isLcd then w else w.kilnFault n 0 src

/-- KILN_OVERCURRENT. -/
def execKilnOvercurrent (ch : Fin 8) (src : Nat) (s : State) : Host.Outcome State Fault Refusal :=
  .next (s.run (fun w => kilnOvercurrent w ch src))

/-- The hold of a DISPLAY slot that settles `ts` cycles after its start, or does not settle (R40, R82): what BOOST_T does not
cover, up to 4 µs; and whether the levels have settled by its end. -/
def Work.holdOf (w : Work) (n ts : Nat) (settles : Bool) : Nat × Bool :=
  let beyond := ts - 20 * w.cur F.KILN_BOOST_BOOST_T n
  if settles then (Nat.min 800 beyond, decide (beyond ≤ 800)) else (800, false)

/-- KILN_HOLD_END (R82): the DISPLAY slot in progress is lengthened by its hold, `ts` its settling time in cycles where it
settles at all; the 64th in a row that is still unsettled when the 4 µs are spent is a Kiln fault of buffer `buf`. -/
def kilnHoldEnd (w : Work) (n ts : Nat) (settles : Bool) (buf : Nat) : Work :=
  let c := w.chan n
  match c.seq.cur with
  | some sl =>
    if sl.kind = kDisplay ∧ w.ledgerOn n ∧ w.curFlag F.KILN_CFG_HOLD_EN n ∧ c.seq.hold = 0 then
      let (h, settled) := w.holdOf n ts settles
      let w := w.modChan n (fun c =>
        { c with seq := { c.seq with hold := h },
                 kiln := { c.kiln with unsettled := if settled then 0 else c.kiln.unsettled + 1 } })
      let w := if h = 0 then w
        else
          let w := (w.countUp F.KILN_HOLDS_HOLDS n).ev 0x14 n
          w.put F.KILN_HOLDS_MAX_HOLD (Nat.max h (w.get F.KILN_HOLDS_MAX_HOLD n)) n
      if !settled ∧ 64 ≤ c.kiln.unsettled + 1 then w.kilnFault n 1 buf else w
    else w
  | none => w

/-- KILN_HOLD_END. -/
def execKilnHoldEnd (ch : Fin 8) (ts : Nat) (settles : Bool) (buf : Nat) (s : State) : Host.Outcome State Fault Refusal :=
  .next (s.run (fun w => kilnHoldEnd w ch ts settles buf))

/-! ### Slots -/

/-- The slot in progress ends after `ran` cycles (R41, R82, R86, R203). -/
def Work.finishSlot (w : Work) (n ran : Nat) : Work :=
  let s := (w.chan n).seq
  match s.cur with
  | none => w
  | some x =>
    let first := (s.todo.head?.map (·.kind)) == some kDiag
    let w := w.bookSlot n (x.dur + s.hold) (Nat.min ran (x.dur + s.hold)) first
    let w := if x.kind = kDisplay ∧ s.hold = 0 then w.modKiln n (fun k => { k with unsettled := 0 }) else w
    let w := if x.kind = kKey ∧ w.scans n ∧ !(w.chan n).grist.stepRun then w.missStep n x.idx else w
    -- in these slots the lines have come to stand at VMID (R32)
    let w := if x.kind = kDiag ∨ x.kind = kQuiet then w.modKiln n (fun k => { k with lastDev := [] }) else w
    w.modSeq n (fun s => { s with cur := none })

/-- A DISPLAY slot starts, with its share of the lock correction: LCD levels are booked (R77, R88, R89), and an LED digit
loses from its window what its Dead phase cannot give (R102). -/
def Work.startDisplay (w : Work) (n : Nat) (x : SlotRun) (share : Int) : Work :=
  let c := w.chan n
  let p := c.seq.act
  let step := p.firstStep w.tick + c.seq.nDisp
  let w := w.modSeq n (fun s => { s with nDisp := s.nDisp + 1 })
  let w := w.modLed n (fun l => { l with ocNow := false })
  let w := if p.isLcd then (w.put F.SEQ_STAT_STEP step n).bookDisplay n step p.dispDur
    else
      let room := 2 * p.dead - 20
      let lost := (p.dispDur - x.dur) + (-share).toNat - Nat.min (-share).toNat room
      if lost = 0 then w else w.cutWindow n c.seq.nDisp lost
  w.pulse n 9

/-- What the start of a slot does, by its kind (R34, R38, R42, R87, R358, R367). -/
def Work.enterSlot (w : Work) (n : Nat) (x : SlotRun) (share : Int) : Work :=
  let p := (w.chan n).seq.act
  let half : Int := (3840 * w.vlcd n : Nat)
  if x.kind = kDisplay then w.startDisplay n x share
  else if x.kind = kKey then
    let w := w.modGrist n (fun g => { g with stepRun := false })
    let d := if p.nDrive = 0 then 0 else p.stepNo w.tick x.idx % p.nDrive
    (w.bookFlat n (w.keyDriven n d (w.scansNow n)) (-half)).pulse n 10
  else if x.kind = kMirror then w.bookFlat n p.displayLines half
  else if x.kind = kDiag then
    ((w.modSeq n (fun s => { s with diagPhase := 0 })).modKiln n (fun k => { k with book := [] })).pulse n 11
  else if x.kind = kGuard then
    let w := w.modKiln n (fun k => { k with book := [] })
    let w := w.modSeq n (fun s => { s with guardOrd := some s.started })
    ((w.pulse n 12).closeWindows n).pairGuard n
  else w.modKiln n (fun k => { k with book := [] })

/-- SLOT_START: the slot in progress ends, the sequencer yields what does not fit, and the next slot starts (R41). -/
def slotStart (w : Work) (n : Nat) : Work :=
  let c := w.chan n
  if !c.planRuns ∨ c.inReset ∨ c.seq.todo.isEmpty then w
  else
    let s := c.seq
    let start := match s.cur with | some x => s.curStart + x.dur + s.hold | none => s.curStart
    let w := w.finishSlot n (start - s.curStart)
    if c.kiln.faultDue then w.kilnStop n
    else
    let (w, l) := w.yield n (w.tickLen - start) s.corr s.todo
    match l with
    | [] => w
    | x :: rest =>
      let k := (l.filter (fun y => y.kind == kDisplay)).length
      let share : Int := if x.kind = kDisplay then roundOpen s.corr k else 0
      let y := { x with dur := ((x.dur : Int) + share).toNat }
      let w := w.modSeq n (fun s => { s with
        todo := rest, cur := some y, curStart := start, hold := 0, started := s.started + 1, corr := s.corr - share })
      let w := (w.put F.SEQ_STAT_SLOT x.idx n).put F.SEQ_STAT_KIND x.kind n
      w.enterSlot n x share

/-- SLOT_START. -/
def execSlotStart (ch : Fin 8) (s : State) : Host.Outcome State Fault Refusal :=
  .next (s.run (fun w => slotStart w ch))

/-! ### The end and the beginning of a tick (R11, R16, R41, R42) -/

/-- The ending tick of a running channel: its GUARD is measured, or the slot in progress is cut and what had not started
is dropped (R41). -/
def Work.endTick (w : Work) (n : Nat) : Work :=
  let c := w.chan n
  if !c.planRuns ∨ c.inReset ∨ c.seq.act.slots.isEmpty then w
  else if c.seq.guardOrd.isSome then
    let g := w.tickLen - c.seq.curStart
    let w := w.passLost n
    if g < w.get F.SEQ_MARGIN_MIN_GUARD n then w.put F.SEQ_MARGIN_MIN_GUARD g n else w
  else
    let left := c.seq.todo
    let w := w.finishSlot n (w.tickLen - c.seq.curStart)
    let w := left.foldl (fun w x =>
      if x.kind = kDiag then w.dropDiag n else if x.kind = kKey then w.dropKey n x.idx else w) w
    let w := (w.raise F.SEQ_ERR_CUT n).put F.SEQ_MARGIN_MIN_GUARD 0 n
    (w.passLost n).modSeq n (fun s => { s with todo := [], guardOrd := if s.started = 0 then none else some s.started })

/-- The slots of a plan, as they are due in a tick. -/
def PlanSet.slotRuns (p : PlanSet) : List SlotRun :=
  ((List.range p.slots.length).zip p.slots).map (fun x => ⟨x.1, slotKind x.2, slotDur x.2, false⟩)

/-- The tick begins on a channel: the plan's slots are due, and the tick's marks are cleared. -/
def Work.beginTick (w : Work) (n : Nat) : Work :=
  let run := (w.chan n).planRuns && !(w.chan n).inReset
  let w := w.modSeq n (fun s => { s with
    todo := if run then s.act.slotRuns else [], cur := none, curStart := 0, hold := 0, started := 0, guardOrd := none
    nDisp := 0, corr := w.lock.now, yielded := false, lost := [], halted := false })
  w.modLed n (fun l => { l with winOf := [] })

/-- A channel's statistics cleared: drops, holds, deliveries, keys, ring drops and Tap frames at 0, MIN_GUARD as at reset. -/
def Work.wipeStats (w : Work) (n : Nat) : Work :=
  let w := [R.SEQ_DROPS.addr n 0, R.KILN_HOLDS.addr n 0, R.MASH_CNT.addr n 0, R.GRIST_CNT.addr n 0, R.CASK_DROPS.addr n 0,
    R.TAP_CNT.addr n 0, R.TAP_CNT.addr n 1].foldl (fun w a => w.setReg a 0) w
  w.put F.SEQ_MARGIN_MIN_GUARD 0xFFFFF n

/-- STATS_CLR acts at the boundary (SEQ_CTL, and the registers that name it). -/
def Work.clearStats (w : Work) (n : Nat) : Work :=
  if (w.chan n).seq.statsClr then (w.modSeq n (fun s => { s with statsClr := false })).wipeStats n else w

/-! ### Commits and runs (R31, R48) -/

/-- The status a commit request completes with (R31, R48): none where it is accepted. Any change of a LINE_ROLE word is a
change of role, and R31's refusal comes before that of the checks (log entry 78). -/
def Work.commitStatus (w : Work) (n : Nat) : Option Nat :=
  let p := w.shadowPlan n
  let st := w.chState n
  if (w.chan n).seq.commit.isSome then some stBusy
  else if p.roles ≠ (w.chan n).seq.act.roles ∧ st ≠ stReset ∧ st ≠ stQuiesced then some stState
  else if !w.planOk n p then some stArg
  else none

/-- A write of SEQ_CTL takes effect (R48, R84, R93): a commit request, RUN, STATS_CLR. Answers the status of a refusal. -/
def Work.seqCtl (w : Work) (n v : Nat) : Work × Option Nat :=
  let commit := bitOf v 0
  let run := bitOf v 1
  let was := w.flag F.SEQ_CTL_RUN n
  match (if commit then w.commitStatus n else none) with
  | some st => (if st = stBusy then w else w.raise F.SEQ_ERR_PLAN_REFUSED n, some st)
  | none =>
    let w := if commit then
        (w.modSeq n (fun s => { s with commit := some (w.shadowPlan n) })).putFlag F.SEQ_CTL_COMMIT true n
      else w
    let w := if bitOf v 31 then w.modSeq n (fun s => { s with statsClr := true }) else w
    let w := w.putFlag F.SEQ_CTL_RUN run n
    let w :=
      if !run then (if was then w.askQuiesce n else w)
      else if (w.chan n).kiln.faulted ∧ !commit then w
      else if !was ∨ commit then
        w.modChan n (fun c =>
          { c with restart := if c.running ∧ c.kiln.quiesce = .none then c.restart else some (c.restart.getD .plain)
                   kiln := { c.kiln with faulted := if commit then false else c.kiln.faulted } })
      else w
    (w, none)

/-- PLAN_ADOPT at a boundary (R48). -/
def Work.planBoundary (w : Work) (n : Nat) : Work :=
  match (w.chan n).seq.commit with
  | none => w
  | some p => (w.adoptPlan n p).putFlag F.SEQ_CTL_COMMIT false n

/-- The state a running channel shows: RUNNING, or STANDBY where its partner drives it (SYS_CH_STATE, R356). -/
def Work.runState (w : Work) (n : Nat) : Nat :=
  if w.paired n ∧ !bitOf w.activeMask n then stStandby
  else if w.mode = mdTest ∧ w.inTestMask n then stTest
  else stRunning

/-- A restart is due at this boundary: the channel is quiesced or in its reset posture, and has a plan. One that a Kiln fault
stopped waits for an image or for a plan commit with RUN = 1, which ends the fault's hold when it is accepted (R84); one
whose bank was lost in DEEP waits for a whole image (R412). -/
def Work.restartDue (w : Work) (n : Nat) : Bool :=
  let c := w.chan n
  let st := w.chState n
  c.restart.isSome && !c.inReset && (st == stQuiesced || st == stReset || (st == stTest && !c.running)) && c.kiln.quiesce == .none &&
    (!c.kiln.faulted || decide (c.restart = some .image)) && !c.bankLost && !c.seq.act.slots.isEmpty && !bitOf w.temp.heldCh n && !bitOf (w.get F.PWR_STAT_LATCHED) n

/-- CHANNEL_RESTART (R96, R112, R124, R205, R251; GRIST_STAT.SCAN counts from it) of a channel that keeps its content. -/
def Work.restartPlain (w : Work) (n : Nat) : Work :=
  let w := w.modChan n (fun c => { c with
    running := true, restart := none, lamp := { c.lamp with pumpsOn := true, frozen := none }, standby := w.paired n && !bitOf w.activeMask n, kiln := { c.kiln with faulted := false, faultDue := false } })
  let w := (w.clearLedger n).put F.GRIST_STAT_SCAN 0 n
  let w := w.putChState n (w.runState n)
  let w := (w.putFlag F.SEQ_STAT_RUNNING true n).putFlag F.CTL_STAT_QUIESCING false n
  w.startLearning n

end Sys2Proof.Machine
end

