-- ==== Sys2Proof/Machine/Reset.lean ====
section
/-! DEFINITION. Resets, their record, the release order, and what holding and releasing a block, a channel or a sub-block
does (R390 to R403). -/

namespace Sys2Proof.Machine

/-- The reset controller changed. -/
def Work.modRst (w : Work) (f : Rst → Rst) : Work := { w with rst := f w.rst }

/-- The last completed step of the release order. -/
def Work.relStep (w : Work) : Nat := w.get F.SYS_REL_STEP

/-! ### Rolling back what waits (R68, R305, R307, R410) -/

/-- A channel quiesced for something that is called off: it goes on, or restarts with its running configuration; one that a
Kiln fault stopped meanwhile does not (R84). -/
def Work.resume (w : Work) (n : Nat) : Work :=
  if (w.chan n).kiln.quiesce = .pend then w.modKiln n (fun k => { k with quiesce := .none })
  else if (w.chan n).kiln.faulted then w
  else w.modChan n (fun c => { c with restart := some (c.restart.getD .plain) })

/-- The session's register in IDLE. -/
def Work.idleSess (w : Work) : Work := { w.setReg (R.SYS_CFG_SESS.addr 0 0) 0 with img := { w.img with sess := none } }

/-- Registers that the activation of a whole image sets, beside those of the channels (R54, R69). -/
def imageArea (a : Nat) : Bool :=
  a == R.SYS_TICK_CFG.base || a == R.SYS_WDT.base || (decide (R.SYS_IMG_STAT.base ≤ a) && decide (a < 0x400000C0)) ||
    (decide (R.SYS_DIM_CFG.base ≤ a) && decide (a < 0x40000200)) ||
    (decide (0x40008000 ≤ a) && decide (a < 0x40020000)) || a == R.STEEP_CFG.base || a == R.STEEP_MASK.base ||
    (decide (0x40040000 ≤ a) && decide (a < 0x40090000))

/-- A word with the fields that `p` picks taken from another. -/
def mergeAcc (p : Access → Bool) (r : RegRow) (old new : Nat) : Nat :=
  r.fields.foldl (fun acc f => acc + placeField f (bitsOf (if p f.acc then new else old) f.hi f.lo)) 0

/-- A field that holds a setting. -/
def setAcc (x : Access) : Bool := x == .rw || x == .rwx

/-- The settings of the registers that `hit` picks, as `regs` holds them. -/
def Work.takeSets (w : Work) (regs : Tab Nat) (hit : Nat → Bool) : Work :=
  (((w.regs ++ regs).map (·.1)).filter hit).foldl (fun w a =>
    match rowAt a with
    | some (r, _) => w.setReg a (mergeAcc setAcc r (w.reg a) (tabGet regs (resetWord a) a))
    | none => w) w

/-- What the activation of a whole image replaced outside the channels (R68): the settings, and what it set beside them. What
has been counted and reported since then stands. -/
def Work.undoDevice (w : Work) (u : Undo) : Work :=
  let old := fun (a : Nat) => tabGet u.regs (resetWord a) a
  let w := w.takeSets u.regs (fun a => imageArea a && a != R.SYS_TICK_CFG.base)
  let w := (List.range 16).foldl (fun w g =>
    (w.setReg (R.SYS_DIM_LVL.addr 0 g) (old (R.SYS_DIM_LVL.addr 0 g))).setReg (R.SYS_DIM_VER.addr 0 g) (old (R.SYS_DIM_VER.addr 0 g))) w
  let w := w.wipe 0x02000000 0x02100000
  let w := (List.range 4).foldl (fun w e =>
    let now := w.tunEng e
    let run := bitOf (bitsOf (old F.TUN_CTL_RUNNING.base) F.TUN_CTL_RUNNING.hi F.TUN_CTL_RUNNING.lo) e && !now.held
    let w := w.modTun e (fun _ => { u.tun.getD e TunEng.init with held := now.held, port := now.port })
    let w := w.put F.TUN_CTL_RUNNING (setBit (w.get F.TUN_CTL_RUNNING) e run)
    w.setReg (R.TUN_STAT.addr 0 e) (old (R.TUN_STAT.addr 0 e))) w
  { w with
    dim := u.dim, lock := { w.lock with cfgPend := u.cfgPend }, host := { w.host with widthPend := u.width }
    mon := { w.mon with counters := (w.mon.counters.zip u.counts).map (fun p => { p.1 with pend := p.2 }) } }

/-- What an activation replaced is put back for the channels of a mask, and, of a whole image, for the device (R68). The
wrappers' registers are not the image's. -/
def Work.undo (w : Work) (u : Undo) (mask : Nat) (whole : Bool) : Work :=
  let hit := fun (a : Nat) =>
    decide (0x40100000 ≤ a) && decide (a < 0x40180000) && bitOf mask (channelOf a) && decide (a % 0x10000 < 0xF000)
  let back := fun (a : Nat) =>
    if 0x01000000 ≤ a ∧ a < 0x01100000 then bitOf mask ((a - 0x01000000) / 0x20000) else whole
  let states := bitsOf (tabGet u.regs (resetWord R.SYS_CH_STATE.base) R.SYS_CH_STATE.base)
  let w : Work := { w with regs :=
    (u.regs.filter (fun p => hit p.1)).foldl (fun t p => tabInsert t p.1 p.2) (w.regs.filter (fun p => !hit p.1)) }
  let w := (maskList mask 8).foldl (fun w n =>
    ((w.wipe (0x01000000 + 0x20000 * n) (0x01020000 + 0x20000 * n)).setChan n (u.ch.getD n Chan.init)).putChState n
      (states (4 * n + 3) (4 * n))) w
  let w := if whole then w.undoDevice u else w
  let w := (u.bytes.filter (fun c => back c.1)).foldl (fun w c => w.poke c.1 c.2) w
  (maskList mask 8 ++ (if whole then [devRing] else [])).foldl (fun w r => w.takeAttention r) w

/-- The open session ends: what its records replaced is put back, the staging is discarded, and channels quiesced for it
restart with the configuration they had (R66, R68). -/
def Work.endSession (w : Work) : Work :=
  match w.img.sess with
  | none => w
  | some x =>
    let w := match x.undo with
      | some u => (w.undo u (if x.scope = 1 then 2 ^ x.channel else 0xFF) (x.scope != 1)).modRst (fun r => { r with enter := none })
      | none => w
    let w := w.idleSess
    if x.asked then (maskList x.quiesced 8).foldl (fun w n => w.resume n) w else w

/-- The MODE command in flight is dropped: the mode stays, and channels quiesced for it restart. -/
def Work.dropMode (w : Work) : Work :=
  match w.modeReq with
  | none => w
  | some r =>
    let w := { w with modeReq := none }
    let w := w.putFlag F.SYS_MODE_PENDING false
    (maskList r.quiesce 8).foldl (fun w n => w.resume n) w

/-- The POWER entry in progress is called off: the device stays in RUN. -/
def Work.dropEntryToSleep (w : Work) : Work :=
  let w := (maskList w.pwr.quiesced 8).foldl (fun w n => w.resume n) w
  let w := w.putFlag F.PWR_STAT_ENTERING false
  { w with pwr := { w.pwr with cmd := none, quiesced := 0, armed := 0, masked := [], lows := [], tapDone := false } }

/-- Two origins use one port: every requester on the fabric shares the fabric's, and every source the boot ROM's. -/
def samePort (a b : Origin) : Bool :=
  match a, b with
  | .fabric _, .fabric _ | .net _, .net _ => true
  | a, b => a == b

/-- What an origin has in flight before its commit point is rolled back, and the session it owns ends (R66, R307). -/
def Work.rollBack (w : Work) (o : Origin) : Work :=
  let w := match w.img.sess with | some x => if samePort x.owner o then w.endSession else w | none => w
  let w := match w.modeReq with | some r => if samePort r.origin o then w.dropMode else w | none => w
  match w.pwr.cmd with
  | some c => if samePort c.origin o ∧ !w.pwr.committed then w.dropEntryToSleep else w
  | none => w

/-- A delivery that goes on without the port whose command it carried. -/
def Delivery.orphan (d : Delivery) (o : Origin) : Delivery :=
  { d with who := d.who.filter (fun p => !samePort p o) }

/-- What has passed its commit point goes on, and its result is lost (R307). -/
def Work.orphans (w : Work) (o : Origin) : Work :=
  let w := w.eachChan (fun w n => w.modMash n (fun m => { m with
    queue := m.queue.map (·.orphan o), waiting := m.waiting.map (·.orphan o)
    drawn := m.drawn.map (fun x => { x with deliv := x.deliv.orphan o }) }))
  { w with host := { w.host with wraps := w.host.wraps.filter (fun x => !samePort x.who o) } }

/-- A port reset: the command in flight and its response are gone, and RSEQ starts again (R300, R307). -/
def Work.portReset (w : Work) (o : Origin) : Work := (((w.rollBack o).orphans o).setPort o Port.init).showPort o

/-! ### Device resets (R390, R391) -/

/-- Registers that a reset sparing AON leaves: the backup range (R403), and the Bung's latches (R413). -/
def aonReg (a : Nat) : Bool := decide (0x03002000 ≤ a) && decide (a < 0x03002100)

/-- Everything in a reset's reach at its reset value. Retained memory and the backup range, the key store, the pads the
Bung holds and the failed mark of the AON bank are in AON; an open debug port stays open unless `closes` (R403, R413,
R420, R430). The boot flash stands outside; a reset in the middle of a STORE leaves both copies as its last completed step
did (R74; log entry 32). -/
def Work.clearDevice (w : Work) (aon closes : Bool) : Work :=
  let d : Dev := { Dev.init with
    regs := if aon then [] else w.regs.filter (fun p => aonReg p.1)
    free := w.free, sent := w.sent
    img := { Img.init with primary := w.img.primary, fallback := w.img.fallback }
    sec := if aon then Sec.init else
      { Sec.init with keys := w.sec.keys, erase := match w.sec.erase with | .none => .none | _ => .step 1 false }
    pwr := if aon then Pwr.init else { Pwr.init with source := w.pwr.source, pads := w.pwr.pads } }
  let latched := w.get F.PWR_STAT_LATCHED
  let failed := w.get F.MEM_STAT_AON_FAILED
  let open_ := w.flag F.SEC_STAT_DEBUG_OPEN
  let w : Work := { d with mem := w.mem, wr := w.wr }
  if aon then w.wipe 0x03000000 0x03002000
  else
    let w := (w.put F.PWR_STAT_LATCHED latched).put F.MEM_STAT_AON_FAILED failed
    let w := if closes then w else w.putFlag F.SEC_STAT_DEBUG_OPEN open_
    w.put F.SEC_STAT_KEYS (listMask (w.sec.keys.map (fun k => k.1 - 1)))

/-- A device reset by the source with `code`: before step 6 begins, which it does when step 5 has completed (log entry 91), it
joins the running release order, which starts again at step 1; otherwise it is a new one (R391). A hold ends only by POWER_ON, POWER_ON_AON or PIN (R394). -/
def Work.deviceReset (w : Work) (code : Nat) (rail : Nat := 0) : Work :=
  let power := decide (code = 1) || decide (code = 2)
  let ends := power || decide (code = 4)
  if w.rst.hold = .fault ∧ !ends then w
  else
    let joins := decide (w.relStep < 5)
    let r := w.rst
    let w := w.clearDevice (decide (code = 2)) ends
    w.modRst (fun x => { x with
      hold := .held
      src := if joins then setBit r.src code true else 2 ^ code
      rail := if joins then r.rail ||| rail else rail
      merged := joins && r.merged && decide (code ≠ 2)
      trimBad := if ends then 0 else if joins then r.trimBad else 0
      crystal := [1, 2, 3, 8].contains code || (joins && r.crystal)
      faultN := true })

/-- POWER_ON_AON. -/
def execPowerOnAonReset (s : State) : Host.Outcome State Fault Refusal := .next (s.run (fun w => w.deviceReset 2))

/-- POWER_ON. -/
def execPowerOnReset (s : State) : Host.Outcome State Fault Refusal := .next (s.run (fun w => w.deviceReset 1))

/-- LATCH_LOST (R413): the pads take the reset posture. -/
def latchLost (w : Work) : Work :=
  let held := w.get F.PWR_STAT_LATCHED
  if held = 0 then w
  else
    let w := (w.put F.PWR_STAT_LATCHED 0).raise F.PWR_STAT_LATCH_LOST
    (maskList held 8).foldl (fun w n => if (w.chan n).inReset then w else w.putChState n stReset) w

/-- BROWN_OUT: the rails below their thresholds, VCORE in bit 0, VIO in bit 3. In OFF, VCORE is not watched (R418), and the
Bung's latches fall with VIO (R413). -/
def brownOut (w : Work) (rail : Nat) : Work :=
  let rail := if w.get F.PWR_STAT_STATE = 4 then rail % 16 / 2 * 2 else rail % 16
  if rail = 0 then w
  else
    let w := w.deviceReset 3 rail
    if bitOf rail 3 then latchLost w else w

/-- BROWN_OUT. -/
def execBrownOutReset (rail : Nat) (s : State) : Host.Outcome State Fault Refusal := .next (s.run (fun w => brownOut w rail))

/-- PIN. -/
def execPinReset (s : State) : Host.Outcome State Fault Refusal := .next (s.run (fun w => w.deviceReset 4))

/-- CLOCK: watched once step 3 has completed. -/
def execClockReset (s : State) : Host.Outcome State Fault Refusal :=
  .next (s.run (fun w => if 3 ≤ w.relStep then w.deviceReset 8 else w))

/-- MEM_FAIL: a system SRAM bank is failed. -/
def execMemFailReset (s : State) : Host.Outcome State Fault Refusal :=
  .next (s.run (fun w => if w.get F.MEM_FAILED_FAILED % 65536 ≠ 0 then w.deviceReset 10 else w))

/-- LOCKUP: the supervisor has been released. -/
def execLockupReset (s : State) : Host.Outcome State Fault Refusal :=
  .next (s.run (fun w => if 5 ≤ w.relStep then w.deviceReset 9 else w))

/-- WATCHDOG. -/
def execWatchdogReset (s : State) : Host.Outcome State Fault Refusal :=
  .next (s.run (fun w => if 6 ≤ w.relStep then w.deviceReset 5 else w))

/-- DEBUG: only through an open port. -/
def execDebugReset (s : State) : Host.Outcome State Fault Refusal :=
  .next (s.run (fun w => if w.flag F.SEC_STAT_DEBUG_OPEN then w.deviceReset 7 else w))

/-! ### The release order (R392 to R395) -/

/-- RELEASE_ORDER_START: the hold of the reset ends and step 1 begins (R390). -/
def execReleaseOrderStart (s : State) : Host.Outcome State Fault Refusal :=
  .next (s.run (fun w => if w.rst.hold = .held then w.modRst (fun r => { r with hold := .none }) else w))

/-- The sources in order of priority (R391). -/
def causeOrder : List Nat := [2, 1, 3, 4, 8, 10, 9, 5, 7, 6]

/-- Lower band edges of bands 0 to 15, in 0.1 mV (R402). -/
def bandEdges : List Nat :=
  [0, 818, 1992, 2797, 3700, 4602, 5565, 6683, 7931, 9197, 10448, 11726, 12938, 14171, 15443, 17022]

/-- The band of a sum of 8 readings (R402). -/
def bandOf (sum : Nat) : Nat := (bandEdges.filter (fun e => decide (e * 1023 * 8 ≤ 18000 * sum))).length - 1

/-- The mean lies within 10 mV of a band edge, the 0 V at which band 0 begins among them (R402; log entry 91). -/
def bandNear (sum : Nat) : Bool :=
  bandEdges.any (fun e => decide (((18000 * sum : Nat) - (e * 8184 : Nat) : Int).natAbs ≤ 100 * 8184))

/-- The image source of a band: 0 host port, 1 boot flash, 2 network, 3 fabric (R402). -/
def bandSrc (b : Nat) : Nat := [0, 1, 0, 0, 0, 2, 3, 3, 3, 1, 1, 1, 2, 2, 2, 1].getD b 0
/-- The pair role of a band: 0 none, 1 A, 2 B. -/
def bandPair (b : Nat) : Nat := [0, 0, 0, 1, 2, 0, 0, 1, 2, 1, 2, 0, 0, 1, 2, 0].getD b 0
/-- The band's host generation is G1. -/
def bandG1 (b : Nat) : Bool := b == 11 || b == 12
/-- Safe start. -/
def bandSafe (b : Nat) : Bool := decide (b < 2)

/-- The reset record written at step 1 (R391, R403): a restart of the release order merges into the record it has. -/
def Work.writeRecord (w : Work) : Work :=
  let r := w.rst
  let rec0 := R.RST_REC.addr 0 0
  let w := if r.merged then w
    else
      let w := w.setReg (R.RST_PREV.addr 0 0) (w.reg rec0)
      let w := w.setReg rec0 0
      if r.src = 4 then w else w.countWrap F.RST_COUNT_COUNT
  let w := w.put F.RST_REC_CAUSE ((causeOrder.find? (fun c => bitOf r.src c)).getD 0)
  let w := w.put F.RST_REC_RAIL r.rail
  let w := w.put F.RST_REC_SOURCES (r.src / 2)
  let w := w.put F.RST_REC_TRIM_BAD r.trimBad
  let w := w.put F.RST_REC_BAND (w.get F.SYS_BOOTSEL_BAND)
  let w := w.put F.RST_REC_EDGE (w.get F.SYS_BOOTSEL_EDGE)
  w.modRst (fun r => { r with merged := true })

/-- BOOTSEL read: the sum of its 8 conversions (R402). -/
def Work.readBootsel (w : Work) (sum : Nat) : Work :=
  let b := bandOf sum
  let w := w.put F.SYS_BOOTSEL_BAND b
  let w := w.putFlag F.SYS_BOOTSEL_GEN (bandG1 b)
  let w := w.put F.SYS_BOOTSEL_SRC (bandSrc b)
  let w := w.put F.SYS_BOOTSEL_PAIR (bandPair b)
  let w := w.putFlag F.SYS_BOOTSEL_SAFE (bandSafe b)
  let w := w.putFlag F.SYS_BOOTSEL_EDGE (bandNear sum)
  let w := w.put F.SYS_BOOTSEL_CODE (divRound sum 8)
  let w := w.putFlag F.HOST_CFG_GEN (bandG1 b)
  let w := w.put F.PAIR_CFG_ROLE (bandPair b)
  w.putFlag F.SYS_MODE_SAFE_START (bandSafe b)

/-- The device is held with FAULT_N low (R394, R395). -/
def Work.holdDevice (w : Work) : Work := w.modRst (fun r => { r with hold := .fault, faultN := true })

/-- Step 2 (R394). -/
def Work.trimStep (w : Work) (good : Bool) : Work :=
  if good then (w.put F.SYS_REL_STEP 2).modRst (fun r => { r with faultN := false, trimBad := 0 })
  else
    let k := w.rst.trimBad + 1
    let w := (w.modRst (fun r => { r with trimBad := k })).put F.RST_REC_TRIM_BAD k
    if k < 3 then w else (w.raise F.RST_REC_HOLD).holdDevice

/-- A bank marked failed, with its MEMORY entry; `addr` the word's address (R376, R377). -/
def Work.markFailed (w : Work) (b addr : Nat) (steep : Bool) : Work :=
  let w := if b < 32 then w.put F.MEM_FAILED_FAILED (setBit (w.get F.MEM_FAILED_FAILED) b true)
    else w.raise F.MEM_STAT_AON_FAILED
  w.entryNow devRing 0x85 b (0x200 + steep.toNat) addr

/-- Step 4: the scrub of banks 0 to 31; `bad` the banks whose read-back fails (R395). -/
def Work.scrubStep (w : Work) (bad : Nat) : Work :=
  let w := (w.wipe 0 0x00200000).wipe 0x01000000 0x01100000
  let w := w.wipe 0x02000000 0x02100000
  if bad % 65536 ≠ 0 then
    if bitOf w.rst.src 10 then (w.raise F.RST_REC_MEMHOLD).holdDevice
    else (w.put F.SYS_REL_STEP 0).modRst (fun r => { r with src := setBit r.src 10 true, faultN := true })
  else
    let w := (maskList (bad / 65536) 16).foldl (fun w i =>
      let (x, w) := w.fresh 15
      w.markFailed (16 + i) (bankBase (16 + i) + 4 * x) false) w
    w.put F.SYS_REL_STEP 4

/-- The KEYS bits of SEC_STAT. -/
def Work.showKeys (w : Work) : Work := w.put F.SEC_STAT_KEYS (listMask (w.sec.keys.map (fun k => k.1 - 1)))

/-- A SECURITY entry (R431). -/
def Work.secEntry (w : Work) (code value : Nat) : Work := w.entryNow devRing 0x86 code 0 (value % 256)

/-- KEY_STORE_CHECK (R422): keys whose check fails are erased, each with its entry; `bad` by bit ID − 1. -/
def Work.keyCheck (w : Work) (bad : Nat) : Work :=
  let lost := (maskList bad 4).filter (fun i => w.sec.keys.any (fun k => k.1 == i + 1))
  let w := { w with sec := { w.sec with keys := w.sec.keys.filter (fun k => !bitOf bad (k.1 - 1)) } }
  lost.foldl (fun w i => w.secEntry 1 (i + 1)) w.showKeys

/-- RELEASE_STEP: the next step of 1 to 11 completes (R392). `good`: its check passes. `measured`: at step 1 the sum of
the BOOTSEL conversions, at step 4 the banks that fail, at step 6 the byte of VOUT_MODE, at step 8 the keys that fail. A
step other than 2 whose check fails has not completed. -/
def releaseStep (w : Work) (good : Bool) (measured : Nat) : Work :=
  let k := w.relStep + 1
  if w.rst.hold ≠ .none ∨ 11 < k then w
  else if k = 2 then w.trimStep good
  else if !good then w
  else
    match k with
    | 1 => ((w.readBootsel measured).writeRecord).put F.SYS_REL_STEP 1
    | 3 => (w.put F.SYS_REL_STEP 3).putFlag F.SYS_REL_RC_FALLBACK w.rst.rcMode
    | 4 => w.scrubStep measured
    | 6 =>
      let w := if measured / 32 % 8 = 0 then w else (w.raise F.PWR_PMB_STAT_MODE_BAD).putFlag F.PWR_CFG_PMB_EN false
      (w.put F.SYS_REL_STEP 6).modRst (fun r => { r with voutMode := measured % 256 })
    | 8 =>
      let w := (w.keyCheck measured).put F.SYS_REL_STEP 8
      if w.sec.erase = .none then w else w.putFlag F.SEC_STAT_ERASING true
    | 11 =>
      let w := w.put F.SYS_REL_STEP 11
      if w.get F.SYS_BOOTSEL_SRC = 3 ∧ !w.rst.rcMode then w.put F.RHL_STAT_STATE 5 else w
    | k => w.put F.SYS_REL_STEP k

/-- RELEASE_STEP. -/
def execReleaseStep (good : Bool) (measured : Nat) (s : State) : Host.Outcome State Fault Refusal :=
  .next (s.run (fun w => releaseStep w good measured))

/-- CHANNEL_RELEASE (R393): step 12 releases the next channel of CH_EN, whose Kiln and charge pumps start; under safe start it is
left quiesced (R17). -/
def channelRelease (w : Work) : Work :=
  match w.rst.chLeft with
  | [] => w
  | n :: rest =>
    let w := w.modRst (fun r => { r with chLeft := rest })
    let w := w.put F.SYS_REL_CH_REL (setBit (w.get F.SYS_REL_CH_REL) n true)
    let safe := w.flag F.SYS_MODE_SAFE_START
    let w := if safe then w.putChState n stQuiesced else w
    let w := w.modChan n (fun c => { c with
      restart := if safe then none else some .image, rewrite := if safe then 2 else 0, lamp := { c.lamp with pumpsOn := true, frozen := none } })
    let w := w.rampFromRelease n
    if rest.isEmpty then w.put F.SYS_REL_STEP 12 else w

/-- CHANNEL_RELEASE. -/
def execChannelRelease (s : State) : Host.Outcome State Fault Refusal := .next (s.run channelRelease)

/-! ### Blocks of the shared side (R396) -/

/-- What the setting of a bit of SYS_BLK_RST does. -/
def Work.holdBlock (w : Work) (bit : Nat) : Work :=
  if bit < 4 then
    let w := w.portReset (.tun bit)
    let w := w.modTun bit (fun t => { t with held := true, wdog := none, fitted := 0 })
    let w := w.put F.TUN_CTL_RUNNING (setBit (w.get F.TUN_CTL_RUNNING) bit false)
    w.put F.TUN_STAT_STATE 0 0 bit
  else
    match bit with
    | 4 => { w.portReset .host with host := { (w.portReset .host).host with widthPend := none, out := [], held := none } }
    | 5 =>
      let w := match w.img.sess with
        | some x => (match x.owner with | .fabric _ => w.endSession | _ => w)
        | none => w
      let w := w.portReset (.fabric 0)
      let ports := [0, 1, 2]
      let w := ports.foldl (fun w p => (w.putFlag F.RHL_PORT_LINK false 0 p).putFlag F.RHL_PORT_HOLD false 0 p) w
      let w : Work := { w with fab := { w.fab with
        ports := List.replicate 3 FabPort.init, shakes := [], wrapQ := [], wrapRun := none, routes := none } }
      let w := w.put F.RHL_STAT_STATE 0
      if w.get F.SYS_TICK_CFG_LOCK_SRC = 1 ∧ (w.lockState = lkAcquire ∨ w.lockState = lkLocked) then
        (w.setLock lkHoldover).lockEntry
      else w
    | 6 => (w.releaseAll).modPair (fun p => { p with leadOut := true, hand := [] })
    | 7 =>
      let w := (List.range 2).foldl (fun w p => w.putFlag F.NET_PORT_LINK false 0 p) w
      let w := w.put F.NET_PTP_STAT_STATE 0
      if w.get F.SYS_TICK_CFG_LOCK_SRC = 2 ∧ (w.lockState = lkAcquire ∨ w.lockState = lkLocked) then
        (w.setLock lkHoldover).lockEntry
      else w
    | _ => (w.putFlag F.STEEP_STAT_BORROWED false).put F.STEEP_STAT_PHASE 0

/-- The code part of engine `e` in its local memory agrees with the CRC of its TUN section (R329). -/
def Work.codeGood (w : Work) (e : Nat) : Bool :=
  let code := (w.tunEng e).code
  crc32 (w.peeks (0x02000000 + 0x40000 * e) code.length) == crc32 code

/-- An engine after its watchdog or its reset bit: its data memory is cleared, both areas with it, and its code part checked; a bad one leaves
it stopped with CODE_BAD set (R329). -/
def Work.checkEngine (w : Work) (e : Nat) (good : Bool) : Work :=
  let base := 0x02000000 + 0x40000 * e
  let w := w.wipe (base + (w.tunEng e).code.length) (base + 0x40000)
  let w := w.modTun e (fun t => { t with
    outSets := [], inSets := t.inSets.map (fun s => (s.1, List.replicate s.2.length 0)), wdog := some good, fitted := 0, ages := [] })
  let w := w.put F.TUN_CTL_RUNNING (setBit (w.get F.TUN_CTL_RUNNING) e false)
  let w := w.put F.TUN_STAT_STATE 0 0 e
  if good then w else w.raise F.TUN_ERR_CODE_BAD 0 e

/-- What the clearing of a bit of SYS_BLK_RST does: an engine with a failed bank stays stopped (R376), and the ports and PTP
go back to the settings of the image in force (R396). -/
def Work.releaseBlock (w : Work) (bit : Nat) : Work :=
  if bit < 4 then
    let w := w.modTun bit (fun t => { t with held := false })
    if (w.tunEng bit).code.isEmpty ∨ w.bankFailed (24 + 2 * bit) ∨ w.bankFailed (25 + 2 * bit) then w else w.checkEngine bit (w.codeGood bit)
  else
    match bit with
    | 4 => w.showHost
    | 5 => if w.get F.SYS_BOOTSEL_SRC = 3 ∧ w.mode = mdBoot then w.put F.RHL_STAT_STATE 5 else w
    | 6 =>
      (w.putFlag F.PAIR_STAT_LINK false).modPair (fun _ => Pair.init)
    | 7 =>
      if w.img.whole.isSome then w.takeSets w.img.net (fun a => decide (0x40070000 ≤ a) && decide (a < 0x40080000)) else w
    | _ => w

/-! ### Channels (R398) -/

/-- A delivery that will not commit: the command it carries completes with ERR_ISOLATED (R397). -/
def Work.refuseDelivery (w : Work) (n : Nat) (d : Delivery) : Work :=
  match d.who with
  | some o => (w.countIso n).finish o stIsol
  | none => w

/-- Every delivery waiting at a channel's Mash is dropped. -/
def Work.dropDeliveries (w : Work) (n : Nat) : Work :=
  let m := (w.chan n).mash
  let ds := (match m.drawn with | some x => [x.deliv] | none => []) ++ m.queue ++ m.waiting
  let w := ds.foldl (fun w d => w.refuseDelivery n d) w
  w.modMash n (fun m => { m with queue := [], waiting := [], drawn := none })

/-- A channel at its reset values, but for what R71 lets it keep: the ring, and the alerts with their conditions. Every
lamp and function state is lost (R252). Its wrapper's registers are not the channel's. -/
def Work.clearChannel (w : Work) (n : Nat) : Work :=
  let base := 0x40100000 + 0x10000 * n
  let keep := fun (a : Nat) =>
    (decide (base + 0x6004 ≤ a) && decide (a < base + 0x6010)) || (decide (base + 0xB400 ≤ a) && decide (a < base + 0xB480)) ||
      (decide (base + 0xF000 ≤ a) && decide (a < base + 0x10000))
  let w : Work := { w with regs := w.regs.filter (fun p => decide (p.1 < base) || decide (base + 0x10000 ≤ p.1) || keep p.1) }
  w.modChan n (fun c => { Chan.init with
    cask := { Cask.init with ring := c.cask.ring }, bankLost := c.bankLost
    inReset := c.inReset, subHeld := c.subHeld, standby := c.standby, restart := c.restart
    regions := c.regions, chMw := c.chMw, structCrc := c.structCrc, rewrite := c.rewrite })

/-- The whole channel is held (R10, R217, R397, R398): its ring is emptied, everything waiting at it ends, and its partner takes it over. -/
def Work.holdChannel (w : Work) (n : Nat) : Work :=
  let w := (w.dropDeliveries n).emptyRing n
  let w := (w.turnCold n).clearChannel n
  let w := w.modChan n (fun c => { c with inReset := true, restart := none })
  let w := if bitOf w.activeMask n then w.put F.PAIR_STAT_ACTIVE (setBit w.activeMask n false) else w
  let w := w.modPair (fun p => { p with warm := setBit p.warm n false, synced := setBit p.synced n false, asked := setBit p.asked n false })
  let w := (w.putFlag F.CTL_STAT_IN_RESET true n).putFlag F.CTL_STAT_QUIESCING false n
  w.putChState n stIsolated

/-- CH = 1 with QUIESCE: the channel quiesces first; one that is quiesced already is held at once (R398). -/
def Work.quiesceHold (w : Work) (n : Nat) : Work :=
  if (w.chan n).running then
    let w := (w.askQuiesce n).modChan n (fun c => { c with resetAfter := true })
    w.putFlag F.CTL_STAT_QUIESCING true n
  else w.holdChannel n

/-- CH = 0: the channel is released, ramps, and restarts at the next boundary from the image held, if that brings it up
(R398). -/
def Work.releaseChannel (w : Work) (n : Nat) : Work :=
  if (w.chan n).inReset then
    let w := w.modChan n (fun c => { c with
      inReset := false, restart := some .image, rewrite := 1, lamp := { c.lamp with pumpsOn := true, frozen := none } })
    ((w.rampFromRelease n).putFlag F.CTL_STAT_IN_RESET false n).putChState n stReset
  else
    let w := w.modChan n (fun c => { c with resetAfter := false })
    w.putFlag F.CTL_STAT_QUIESCING false n

/-- A channel stands still: quiesced, in reset posture, or held. -/
def Work.atRest (w : Work) (n : Nat) : Bool :=
  [stReset, stQuiesced, stIsolated].contains (w.chState n) || (w.chState n == stTest && !(w.chan n).running)

/-- The shares of a UF-16 frame of `k` nodes with MODE 2 in each, the values as they were (R258). -/
def darkShares (k : Nat) (bs : List Byte) : List Byte :=
  ((List.range k).map (fun j =>
    let body := BitVec.ofNat 8 (0xA0 + (k - 1 - j)) :: takeAt bs (26 * j + 1) 24
    body ++ leBytes 1 (crc8 body))).flatten

/-- The last frame of a line before an entry to SLEEP, DEEP or OFF: MODE 2 in every share of a UF-16 line (R267). Raw bits stand
in place of its shares (R270). -/
def Work.lastTapFrame (w : Work) (n l : Nat) : Work :=
  let raw := match (w.tapOf n l).hold with | some f => f.raw | none => w.curFlag F.TAP_RAW_RAW_EN n l
  if !w.tapUf n l || raw then w
  else
    let k := w.tapNodes n l
    match (w.tapOf n l).hold with
    | some _ => w.modTap n l (fun t => { t with hold := t.hold.map (fun f => { f with bytes := darkShares k f.bytes }) })
    | none =>
      let a := (w.region n 7).1 + 512 * l
      w.pokes a (darkShares k (w.peeks a (26 * k)))

/-- The boundary B of an entry to SLEEP, DEEP or OFF (R253, R267, R409): no channel runs any more, so the strings go dark
and the last Tap frames are due. -/
def Work.entryFrames (w : Work) : Work :=
  match w.pwr.cmd with
  | none => w
  | some c =>
    if c.state < 2 ∨ w.pwr.committed ∨ w.pwr.tapDone ∨ !(List.range 8).all w.atRest then w
    else
      let w := w.eachChan (fun w n => (List.range 2).foldl (fun w l =>
        if w.tapRuns n l then (w.lastTapFrame n l).modTap n l (fun t => { t with ready := true }) else w) (w.stringOff n))
      { w with pwr := { w.pwr with tapDone := true } }

/-- QUIESCE_DONE (R93, R94, R398): the channel reads QUIESCED, or enters the reset it quiesced for. The last one of an entry
to a power state below IDLE ends its quiescing (R409). -/
def quiesceDone (w : Work) (n : Nat) : Work :=
  let c := w.chan n
  if c.kiln.quiesce = .done then
    let w := (w.stopPlan n).modKiln n (fun k => { k with quiesce := .none })
    let w := (w.putFlag F.SEQ_STAT_RUNNING false n).putChState n (w.restState n)
    (if c.resetAfter then w.holdChannel n else w).entryFrames
  else w

/-- QUIESCE_DONE. -/
def execQuiesceDone (ch : Fin 8) (s : State) : Host.Outcome State Fault Refusal := .next (s.run (fun w => quiesceDone w ch))

/-! ### Sub-blocks (R399) -/

/-- The sub-block's number in the channel's register range (R24), by its bit of CTL_RST. -/
def subBlock (bit : Nat) : Nat :=
  match bit with
  | 2 => 4 | 3 => 5 | 4 => 6 | 5 => 7 | 6 => 8 | 7 => 9 | 8 => 3 | 9 => 12 | _ => 11

/-- What the setting of a sub-block bit does. -/
def Work.holdSub (w : Work) (n bit : Nat) : Work :=
  let w := w.modChan n (fun c => { c with subHeld := setBit c.subHeld bit true })
  match bit with
  | 4 => (w.emptyRing n).modChan n (fun c => { c with cask := { c.cask with batch := [], compat := [], compatNext := [] } })
  | 5 => w.stringOff n
  | 6 => w.modChan n (fun c => { c with tap := c.tap.map (fun t => { t with await := false, ready := false }) })
  | 7 => w.psqAfresh n
  | 8 =>
    let w := w.modInteg n (fun i => { i with inForce := [], decl := [], okNow := [] })
    (List.range 128).foldl (fun w f => w.putFlag F.INTEG_POL_ACTIVE false n f) w
  | 9 => w.dropDeliveries n
  | _ => w

/-- The registers of a sub-block back at their reset values, but for those `keep` names; none of its waiting values is
left to come into force. -/
def Work.resetSub (w : Work) (n bit : Nat) (keep : Nat → Bool) : Work :=
  let lo := 0x40100000 + 0x10000 * n + 0x1000 * subBlock bit
  let hit := fun (a : Nat) => decide (lo ≤ a) && decide (a < lo + 0x1000)
  let w : Work := { w with regs := w.regs.filter (fun p => !hit p.1 || keep (p.1 - lo)) }
  w.modMash n (fun m => { m with
    older := m.older.filter (fun p => !hit p.1)
    changes := m.changes.filter (fun c => match c.what with | .reg a _ => !hit a | _ => true) })

/-- What the clearing of a sub-block bit does: its registers return to their reset values, and the image values are due
before the next boundary. -/
def Work.releaseSub (w : Work) (n bit : Nat) : Work :=
  if !bitOf (w.chan n).subHeld bit then w
  else
    let w := w.modChan n (fun c => { c with subHeld := setBit c.subHeld bit false, rewrite := setBit c.rewrite bit true })
    match bit with
    | 2 => w.resetSub n bit (fun off => decide (0x100 ≤ off) && decide (off < 0x180))
    | 3 => (w.resetSub n bit (fun _ => false)).encAfresh n 0 |>.encAfresh n 1
    | 4 =>
      let depth := w.get F.CASK_STAT_DEPTH n
      let w := w.resetSub n bit (fun _ => false)
      let w := (w.put F.CASK_STAT_DEPTH depth n).raise F.CASK_STAT_LOSS_PEND n
      (w.modChan n (fun c => { c with cask := Cask.init })).takeAttention n
    | 5 =>
      let uf := (w.chan n).lamp.ufFailed
      ((w.resetSub n bit (fun _ => false)).modStr n (fun _ => { LampStr.init with ufFailed := uf, pumpsOn := (w.chan n).running })).showLamps n
    | 6 => (w.resetSub n bit (fun _ => false)).tapAfresh n
    | 7 => w.psqAfresh n
    | 8 => (w.resetSub n bit (fun _ => false)).integAfresh n
    | 9 =>
      let front := w.get F.MASH_STAT_FRONT n
      let w := w.resetSub n bit (fun off => decide (0x100 ≤ off))
      let w := (w.put F.MASH_STAT_FRONT front n).showMash n
      (List.range 128).foldl (fun w f => w.put F.MASH_FSTAT_AGE 0 n f) w
    | _ => (w.resetSub n bit (fun _ => false)).showAlerts n

end Sys2Proof.Machine
end

