-- ==== Sys2Proof/Machine/Sec.lean ====
section
/-! DEFINITION. Nonces, lockout, and the opening of the debug port (R420 to R431). -/

namespace Sys2Proof.Machine

/-- SECURITY entry codes: LOCKOUT, DEBUG_REFUSED, OPENED, CLOSED (R431). -/
def seLockout : Nat := 2
/-- DEBUG_REFUSED. -/
def seRefused : Nat := 3
/-- OPENED. -/
def seOpened : Nat := 4
/-- CLOSED. -/
def seClosed : Nat := 5

/-- FAILS. -/
def Work.fails (w : Work) : Nat := w.get F.SEC_STAT_FAILS

/-- The nonce in its words, 0 while none is outstanding. -/
def Work.putNonce (w : Work) (words : List Nat) (valid : Bool) : Work :=
  let w := (List.range 4).foldl (fun w k => w.setReg (R.SEC_NONCE.addr 0 k) (words.getD k 0)) w
  w.putFlag F.SEC_STAT_NONCE_VALID valid

/-- A nonce consumed, expired or replaced. -/
def Work.dropNonce (w : Work) : Work := w.putNonce [] false

/-- 16 fresh random bytes: values that the spec leaves open (R423). -/
def Work.freshNonce (w : Work) : Work :=
  let (a, w) := w.fresh 32
  let (b, w) := w.fresh 32
  let (c, w) := w.fresh 32
  let (d, w) := w.fresh 32
  let w := w.putNonce [a, b, c, d] true
  { w with sec := { w.sec with nonceTick := w.bounds } }

/-- NONCE_EXPIRE: 1,024 ticks after the request (R424). -/
def nonceExpire (w : Work) : Work :=
  if w.flag F.SEC_STAT_NONCE_VALID ∧ w.sec.nonceTick + 1024 ≤ w.bounds then w.dropNonce else w

/-- NONCE_EXPIRE. -/
def execNonceExpire (s : State) : Host.Outcome State Fault Refusal := .next (s.run nonceExpire)

/-- LOCKOUT_END: 60 s after the lockout began (R425). When that is, the command itself tells. -/
def lockoutEnd (w : Work) : Work :=
  if w.flag F.SEC_STAT_LOCKOUT then (w.putFlag F.SEC_STAT_LOCKOUT false).put F.SEC_STAT_FAILS 0 else w

/-- LOCKOUT_END. -/
def execLockoutEnd (s : State) : Host.Outcome State Fault Refusal := .next (s.run lockoutEnd)

/-- A failed check: FAILS rises, the nonce is consumed, and the fourth failure locks challenges out (R424, R425). -/
def Work.failCheck (w : Work) : Work :=
  let w := (w.dropNonce).put F.SEC_STAT_FAILS (Nat.min 4 (w.fails + 1))
  if w.fails = 4 then (w.putFlag F.SEC_STAT_LOCKOUT true).secEntry seLockout w.fails else w

/-- The message that the service response is computed over (R423). -/
def Work.challenge (w : Work) (target mask : Nat) : List Byte :=
  [0x53, 0x56, 0x43, 0x31] ++ leBytes 4 (w.reg (R.RHL_UID_LO.addr 0 0)) ++ leBytes 4 (w.reg (R.RHL_UID_HI.addr 0 0)) ++
    ((List.range 4).map (fun k => leBytes 4 (w.reg (R.SEC_NONCE.addr 0 k)))).flatten ++
    leBytes 1 target ++ leBytes 1 mask ++ leBytes 1 (w.get F.SYS_MODE_MODE_SEQ)

/-- The key with an ID. -/
def Work.key (w : Work) (id : Nat) : Option (List Byte) := (w.sec.keys.find? (fun k => k.1 == id)).map (·.2)

/-- CHALLENGE_CHECK (R424, R425): whether the response passes. While challenges are locked out it is not checked. -/
def Work.checkChallenge (w : Work) (target mask : Nat) (resp : List Byte) : Work × Bool :=
  if w.flag F.SEC_STAT_LOCKOUT then (w, false)
  else
    match w.key 4 with
    | some k =>
      if w.flag F.SEC_STAT_NONCE_VALID ∧ resp = Config.hmacSha256 k (w.challenge target mask) then
        ((w.dropNonce).put F.SEC_STAT_FAILS 0, true)
      else (w.failCheck, false)
    | none => (w.failCheck, false)

/-! ### Erase, then open (R427 to R430) -/

/-- Step 0 begins: every running channel quiesces as for entry to RECOVERY, and paired channels are released at the GUARD
start (R428). -/
def Work.startErase (w : Work) : Work :=
  let w := w.putFlag F.SEC_STAT_ERASING true
  let w : Work := { w with sec := { w.sec with erase := .step 0 false } }
  let w := w.eachChan (fun w n => if (w.chan n).running then w.askQuiesce n else w)
  w.releaseAll

/-- A request to open the port (R427): refused where NO_DEBUG is fused; a sequence that runs goes on. -/
def Work.askOpen (w : Work) : Work :=
  if w.flag F.SEC_STAT_NO_DEBUG then w.secEntry seRefused w.fails
  else if w.sec.erase ≠ .none ∨ w.flag F.SEC_STAT_DEBUG_OPEN then w
  else w.startErase

/-- OPEN_REQ: the JTAG instruction (R427). -/
def execOpenReq (s : State) : Host.Outcome State Fault Refusal := .next (s.run Work.askOpen)

/-- The port closes (R430, R431). -/
def Work.closePort (w : Work) : Work :=
  if w.flag F.SEC_STAT_DEBUG_OPEN then (w.putFlag F.SEC_STAT_DEBUG_OPEN false).secEntry seClosed w.fails else w

end Sys2Proof.Machine
end

