-- ==== Sys2Proof/Machine/RegWrite.lean ====
section
/-! DEFINITION. Register writes: how one is judged, what it leaves in the register, and what it sets off (R3 to R6, R19, R25,
R27, R397, and the register texts of every chapter). -/

namespace Sys2Proof.Machine

/-! ### Where an address lies -/

/-- An address of the register ranges of R23 and R24. -/
def regMapped (a : Nat) : Bool :=
  (decide (0x40000000 ≤ a) && decide (a < 0x40090000)) ||
    (decide (0x40100000 ≤ a) && decide (a < 0x40180000) && a % 0x10000 / 0x1000 != 14) ||
    (decide (0x03002000 ≤ a) && decide (a < 0x03002100))

/-- An address in a channel's register range. -/
def isChanReg (a : Nat) : Bool := decide (0x40100000 ≤ a) && decide (a < 0x40180000)

/-- The bit of CTL_RST that holds the sub-block a channel register stands in (R24, R399). -/
def subBitOf (a : Nat) : Option Nat :=
  match a % 0x10000 / 0x1000 with
  | 3 => some 8 | 4 => some 2 | 5 => some 3 | 6 => some 4 | 7 => some 5 | 8 => some 6 | 9 => some 7
  | 11 => some 10 | 12 => some 9
  | _ => none

/-- The register stands in a block that is held, so its wrapper answers (R10, R397). The channel's own resets are outside
its wrapper. -/
def Work.regHeld (w : Work) (a : Nat) : Bool :=
  if isChanReg a then
    let c := w.chan (channelOf a)
    a % 0x10000 / 0x1000 != 15 && (c.inReset || match subBitOf a with | some b => bitOf c.subHeld b | none => false)
  else
    let held := w.get R.SYS_BLK_RST
    if 0x40010000 ≤ a ∧ a < 0x40020000 then bitOf held 4
    else if 0x40030400 ≤ a ∧ a < 0x40030420 then bitOf held 8
    else if 0x40050000 ≤ a ∧ a < 0x40060000 then bitOf held 5
    else if 0x40060000 ≤ a ∧ a < 0x40070000 then bitOf held 6
    else if 0x40070000 ≤ a ∧ a < 0x40080000 then bitOf held 7
    else if 0x40080010 ≤ a ∧ a < 0x40080040 then bitOf held (a % 16 / 4)
    else false

/-- A refusal by a channel's wrapper is counted there (R397). -/
def Work.countIsoAt (w : Work) (a : Nat) : Work := if isChanReg a then w.countIso (channelOf a) else w

/-! ### One word judged and merged (R4 to R6, R19) -/

/-- What a write leaves in a field (R4). -/
def writtenField (f : FieldRow) (old v : Nat) : Nat :=
  let o := bitsOf old f.hi f.lo
  let x := bitsOf v f.hi f.lo
  match f.acc with
  | .rw | .rwx => x
  | .w1c | .rs => o ^^^ (o &&& x)
  | .ro => o
  | .wo => 0

/-- What a write leaves in a register; reserved bits stay 0. -/
def mergeWord (r : RegRow) (old v : Nat) : Nat := r.fields.foldl (fun acc f => acc + placeField f (writtenField f old v)) 0

/-- The write carries every RWX field at its current value (R19). -/
def sameRwx (r : RegRow) (old v : Nat) : Bool :=
  r.fields.all (fun f => f.acc != .rwx || bitsOf old f.hi f.lo == bitsOf v f.hi f.lo)

/-- Every field that is set lies in its stated range, or at its reset value, which means unset where it lies outside (R6). -/
def fieldsInRange (r : RegRow) (v : Nat) : Bool :=
  r.fields.all (fun f => !(f.acc == .rw || f.acc == .rwx) ||
    (decide (f.min ≤ bitsOf v f.hi f.lo) && decide (bitsOf v f.hi f.lo ≤ f.max)) || bitsOf v f.hi f.lo == f.reset)

/-- RWX fields of the register can be changed in the present mode (R4, R19). -/
def Work.expertOpen (w : Work) (a : Nat) : Bool :=
  let m := w.mode
  m == mdStartUp || m == mdRecovery || (m == mdTest && (!isChanReg a || w.inTestMask (channelOf a)))

/-- The registers whose basic-level writes are not open in BOOT: block and channel resets (R396, R398), clears of the integrity
engine and of the lamp string (R127, R248), the words of the pin engines (R280), and PAIR_HAND (R368). -/
def bootBarred : List Nat :=
  [R.SYS_BLK_RST.base, R.CTL_RST.base, R.INTEG_CLR.base, R.LAMP_CLR.base, R.PSQ_TX.base, R.PSQ_RXACK.base, R.PAIR_HAND.base]

/-- The status of a write that mode refuses (R4, R19), and of the basic-level writes that a mode does not open: in BOOT those
of `bootBarred`, in RECOVERY PAIR_HAND (R368), and outside RECOVERY an opening of the debug port (R427). -/
def Work.modeRefuses (w : Work) (a v : Nat) : Bool :=
  match rowAt a with
  | none => false
  | some (r, _) =>
    let m := w.mode
    (!sameRwx r (w.reg a) v && !w.expertOpen a) ||
      (bootBarred.contains r.base && m == mdBoot) || (r.base == R.PAIR_HAND.base && m == mdRecovery) ||
      (r.base == R.SEC_DBG_CTL.base && bitOf v 0 && m != mdRecovery)

/-- A register write taken apart: its row's address, channel, copy, address, the written word, the register's word before,
and the word the access codes leave. -/
structure RegW where
  b : Nat
  n : Nat
  k : Nat
  a : Nat
  v : Nat
  old : Nat
  new : Nat
deriving DecidableEq, Repr

/-! ### Ranges stated against other settings, and what a block refuses (R6) -/

/-- Elements of the alerts' icon positions (R173). -/
def Work.alertElems (w : Work) (n : Nat) : List Nat :=
  ((List.range (w.alertN n)).map (fun a =>
    let d := w.alertDef n a
    if d.icon then (match w.posDef n d.pos with | some p => p.elems.filterMap id | none => []) else [])).flatten

/-- A word of CH[n].INTEG_POL names a MARK_ELEM that R146 lets it. -/
def Work.markOk (w : Work) (n v : Nat) : Bool :=
  bitsOf v 1 0 != 3 || ((w.fieldOfElem n (bitsOf v 15 6)).isNone && !(w.alertElems n).contains (bitsOf v 15 6))

/-- The codes of R433's table of counter sources. -/
def monCodeOk (c : Nat) : Bool :=
  decide (c ≤ 0x33) || (decide (0x40 ≤ c) && decide (c ≤ 0x47)) || (decide (0x50 ≤ c) && decide (c ≤ 0x53)) ||
    (decide (0x58 ≤ c) && decide (c ≤ 0x62)) || (decide (0x68 ≤ c) && decide (c ≤ 0x6B)) || c == 0x70 || c == 0x71

/-- Period, on-time, phase and source of a blink group stand together (R169). -/
def blinkGrpOk (t c : Nat) : Bool :=
  let per := bitsOf t 15 0
  let on := bitsOf t 31 16
  bitsOf c 17 16 != 0 || (decide (2 ≤ per) && decide (1 ≤ on) && decide (on < per) && decide (bitsOf c 15 0 < per))

/-- The bit times of TAP_GEN and LATCH of TAP_CFG lie in the ranges that MODE and RATE give them (TAP_CFG, R269). -/
def tapPairOk (cfg gen : Nat) : Bool :=
  let tb := bitsOf cfg 11 3
  let t0 := bitsOf gen 8 0
  let t1 := bitsOf gen 17 9
  if bitOf cfg 1 then decide (10 ≤ t0) && decide (t0 < t1) && decide (t1 + 10 ≤ tb) else decide (8 ≤ bitsOf cfg 23 16)

/-- A line role's index lies in its role's range (R29). -/
def roleIdxOk (v : Nat) : Bool :=
  match roleCode v with
  | 1 => decide (roleIdx v ≤ 15)
  | 3 | 4 => decide (roleIdx v ≤ 7)
  | _ => true

/-- An exclusive Ethernet image runs (R316, R318). -/
def Work.exclusiveNet (w : Work) : Bool :=
  (List.range 4).any (fun e => w.get F.TUN_STAT_PROTO 0 e == 2 || w.get F.TUN_STAT_PROTO 0 e == 6)

/-- The window of an engine that has TICK_SYNC (R289). -/
def Work.windowOk (w : Work) (n shcfg win : Nat) : Bool :=
  !bitOf shcfg 20 ||
    (decide (bitsOf win 11 0 < bitsOf win 27 16) &&
      ((w.chan n).seq.act.slots.isEmpty || decide (bitsOf win 27 16 * 200 ≤ (w.chan n).seq.act.guardStart)))

/-- The refusals of a pin-engine register (R273, R271, R286, R289, PSQ register texts). -/
def Work.psqRefuses (w : Work) (x : RegW) : Option Nat :=
  let prog := fun (e : Nat) => (List.range 64).map (fun i => w.get F.PSQ_IMEM_INSTR x.n (64 * e + i))
  if x.b = R.PSQ_IMEM.base then
    if !w.engStopped x.n (x.k / 64) then some stState else if psqLegal (x.v % 65536) then none else some stArg
  else if x.b = R.PSQ_STATE.base then
    if w.engStopped x.n x.k then none else some stState
  else if x.b = R.PSQ_CLKDIV.base then if w.engStopped x.n x.k then none else some stState
  else if x.b = R.PSQ_PINCLS.base then
    if !w.engStopped x.n x.k then some stState
    else if classMapOk x.new (w.get R.PSQ_SHCFG x.n x.k) (prog x.k) then none else some stArg
  else if x.b = R.PSQ_SHCFG.base then
    if !w.engStopped x.n x.k then some stState
    else if classMapOk (w.get R.PSQ_PINCLS x.n x.k) x.new (prog x.k) ∧ w.windowOk x.n x.new (w.get R.PSQ_WIN x.n x.k) then none
    else some stArg
  else if x.b = R.PSQ_LOOP.base then if bitsOf x.v 5 0 ≤ bitsOf x.v 13 8 then none else some stArg
  else if x.b = R.PSQ_WIN.base then if w.windowOk x.n (w.get R.PSQ_SHCFG x.n x.k) x.new then none else some stArg
  else none

/-- The refusals of a channel register that are not its fields' own ranges. A range stated against another register is
judged by that register as it is in force (R6). -/
def Work.chanRefuses (w : Work) (x : RegW) : Option Nat :=
  let arg := fun (ok : Bool) => if ok then none else some stArg
  let n := x.n
  if x.b = R.LINE_ROLE.base then arg (roleIdxOk x.v)
  else if x.b = R.INTEG_CFG.base then arg (!bitOf x.v 2 || w.get F.INTEG_CHAIN_CHAIN_HI n != 0)
  else if x.b = R.INTEG_CHAIN.base then arg (bitsOf x.v 8 0 != 0 || !w.flag F.INTEG_CFG_CHAIN_EN n)
  else if x.b = R.INTEG_POL.base then arg (w.markOk n x.v)
  else if x.b = R.BLINK_GRP_T.base then arg (blinkGrpOk x.v (w.cur R.BLINK_GRP_C n x.k))
  else if x.b = R.BLINK_GRP_C.base then arg (blinkGrpOk (w.cur R.BLINK_GRP_T n x.k) x.v)
  else if x.b = R.CASK_CFG.base then
    let m := bitsOf x.v 12 0
    arg (m == 16 || (decide (1 ≤ m) && decide (m ≤ w.ringDepth n)))
  else if x.b = R.ENC_ACC.base then arg (decide (bitsOf x.v 7 0 ≤ bitsOf x.v 23 16))
  else if x.b = R.TAP_CFG.base then 
    arg (tapPairOk x.v (w.cur R.TAP_GEN n x.k) && w.tapPairsFit [x.v] (w.regValues n (R.TAP_GEN.addr n x.k)))
  else if x.b = R.TAP_GEN.base then 
    arg (tapPairOk (w.cur R.TAP_CFG n x.k) x.v && w.tapPairsFit (w.regValues n (R.TAP_CFG.addr n x.k)) [x.v])
  else if x.b = R.TAP_RAW.base then arg (!bitOf x.v 0 || bitsOf x.v 12 1 != 0)
  else if foldChannel x.a / 0x1000 = 0x40109 then w.psqRefuses x
  else none

/-- The refusals of a device register that are not its fields' own ranges. PERIOD_US of NET_PTP_CYC has only its own range:
a period at or below OFFSET_NS is written (log entry 75). -/
def Work.devRefuses (w : Work) (x : RegW) : Option Nat :=
  let arg := fun (ok : Bool) => if ok then none else some stArg
  if x.b = R.SYS_TICK_CFG.base then arg (w.tickCfgOk x.new)
  else if x.b = R.SYS_DRING_CFG.base then
    let m := bitsOf x.v 12 0
    arg (decide (1 ≤ m) && decide (m ≤ w.ringDepth devRing))
  else if x.b = R.SYS_RST_CTL.base then arg (bitsOf x.v 31 16 == 0xA5C3)
  else if x.b = R.TUN_CTL.base then
    arg ((w.put F.TUN_CTL_LOCK_ENG (bitsOf x.v 5 4)).lockSrcOk (w.get F.SYS_TICK_CFG_LOCK_SRC))
  else if x.b = R.NET_PTP_CFG.base then arg (!bitOf x.v 0 || !w.exclusiveNet)
  else if x.b = R.NET_PTP_OFS.base then arg (decide (bitsOf x.v 29 0 < 1000 * w.get F.NET_PTP_CYC_PERIOD_US))
  else if x.b = R.RHL_PUB_A.base then
    let len := bitsOf x.v 25 16
    arg (!bitOf x.v 13 || (decide (1 ≤ len) && decide (len ≤ if bitOf x.v 12 then 60 else 1020)))
  else if x.b = R.PAIR_HAND.base then if w.handOk (x.v % 256) then none else some stState
  else if x.b = R.SEC_CHAL.base then if bitOf x.v 0 ∧ w.flag F.SEC_STAT_LOCKOUT then some stState else none
  else if x.b = R.SEC_DBG_CTL.base then arg (!bitOf x.v 0 || bitsOf x.v 31 16 == 0x5E1D)
  else if x.b = R.MON_CFG.base then arg (monCodeOk (bitsOf x.v 6 0))
  else if x.b = R.MON_CMD.base then
    if bitOf x.v 4 ∧ w.mon.cmds.any (fun c => c.stamp.isSome) then some stState else none
  else none

/-! ### What a write sets off -/

/-- A register of SYS, written. -/
def Work.putSys (w : Work) (x : RegW) : Work :=
  if x.b = R.SYS_TICK_CFG.base then w.modLock (fun l => { l with cfgPend := some x.new })
  else if x.b = R.SYS_DRING_CFG.base then (w.setReg x.a x.new).takeAttention devRing
  else if x.b = R.SYS_RST_CTL.base then if bitOf x.v 0 then w.deviceReset 6 else w
  else if x.b = R.SYS_BLK_RST.base then
    let w := w.setReg x.a x.new
    (List.range 9).foldl (fun w i =>
      if bitOf x.new i ∧ !bitOf x.old i then w.holdBlock i
      else if bitOf x.old i ∧ !bitOf x.new i then w.releaseBlock i
      else w) w
  else w.setReg x.a x.new

/-- A nonce requested; a new one replaces it (R423, R424). -/
def Work.putSec (w : Work) (x : RegW) : Work :=
  if x.b = R.SEC_CHAL.base then if bitOf x.v 0 then w.freshNonce else w
  else if x.b = R.SEC_DBG_CTL.base then
    let w := if bitOf x.v 0 then w.askOpen else w
    if bitOf x.v 1 then w.closePort else w
  else w.setReg x.a x.new

/-- A command for the counters set up (R434): the mask it acts on is the one of its write. -/
def Work.putMon (w : Work) (x : RegW) : Work :=
  if x.b = R.MON_CMD.base then
    let stamped := bitOf x.v 4
    let c : MonCmd :=
      { mask := w.reg (R.MON_MASK.addr 0 0), start := bitOf x.v 0, stop := bitOf x.v 1, clear := bitOf x.v 2,
        snap := bitOf x.v 3, stamp := if stamped then some (w.reg (R.MON_STAMP.addr 0 0)) else none,
        due := if stamped then w.stampDue (w.reg (R.MON_STAMP.addr 0 0)) else none }
    let w : Work := { w with mon := { w.mon with cmds := w.mon.cmds ++ [c] } }
    (w.putFlag F.MON_STAT_PENDING (w.mon.cmds.any (fun c => c.stamp.isNone))).putFlag F.MON_STAT_STAMP_PEND (w.mon.cmds.any (fun c => c.stamp.isSome))
  else if x.b = R.MON_CFG.base then
    let w := w.setReg x.a x.new
    { w with mon := { w.mon with counters := modAt w.mon.counters x.k (fun c => { c with pend := true }) } }
  else w.setReg x.a x.new

/-- A device register outside SYS, SEC and MON, written. -/
def Work.putDev (w : Work) (x : RegW) : Work :=
  if x.b = R.HOST_CFG.base then
    let w := w.setReg x.a x.new
    if bitsOf x.new 2 1 = bitsOf x.old 2 1 then w
    else { w with host := { w.host with widthPend := some (w.host.widthPend.getD (bitsOf x.old 2 1)) } }
  else if x.b = R.PAIR_HAND.base then w.handOver (x.v % 256)
  else if x.b = R.MEM_CTL.base then if bitOf x.v 0 then { w with memsys := { w.memsys with cntClr := true } } else w
  else if x.b = R.MEM_COLLIDE.base then
    let w := w.setReg x.a x.new
    if bitOf x.v 31 then w.putFlag F.MEM_COLLIDE_MORE false else w
  else w.setReg x.a x.new

/-- A setting register of a channel, written: it comes into force at its boundary, and a standby is told (R12, R361). -/
def Work.putSetting (w : Work) (x : RegW) : Work :=
  if x.new = x.old then w else (w.setSetting x.n x.a x.new).pairCommit x.n ⟨.reg x.a x.new, none⟩

/-- The lines that an active role makes GPIO, of the 32 that bank `j` of the GPIO registers serves (LINE_GPIO_OUT). -/
def Work.gpioMask (w : Work) (n j : Nat) : Nat :=
  listMask ((List.range 32).filter (fun i => roleCode ((w.chan n).seq.act.roles.getD (32 * j + i) 0) == 6))

/-- A channel's resets, written (R398, R399). A channel that is to quiesce first enters the reset by itself. -/
def Work.putCtlRst (w : Work) (x : RegW) : Work :=
  let w := w.setReg x.a x.new
  let w := if bitOf x.new 0 ∧ !bitOf x.old 0 then (if bitOf x.new 1 then w.quiesceHold x.n else w.holdChannel x.n)
    else if bitOf x.old 0 ∧ !bitOf x.new 0 then w.releaseChannel x.n
    else w
  (upFrom 2 9).foldl (fun w i =>
    if bitOf x.new i ∧ !bitOf x.old i then w.holdSub x.n i
    else if bitOf x.old i ∧ !bitOf x.new i then w.releaseSub x.n i
    else w) w

/-- A pin-engine register, written (R280, R284 to R288). In OPERATE a write of PSQ_CTL acts on RESTART alone,
and one that carries the PC or an instruction as it stands discards nothing (R286). -/
def Work.putPsq (w : Work) (x : RegW) : Work :=
  let n := x.n
  if x.b = R.PSQ_CTL.base then
    let w := (w.setReg x.a x.new).psqRestart n (bitsOf x.v 11 8)
    if w.expertOpen x.a then w.psqRun n (bitsOf x.v 3 0) (bitsOf x.v 7 4) else w
  else if x.b = R.PSQ_LOOP.base then (w.setReg x.a x.new).loopWritten n x.k
  else if x.b = R.PSQ_TX.base then w.txWrite n x.k x.v
  else if x.b = R.PSQ_RXACK.base then w.rxAck n x.k (x.v % 256)
  else if x.b = R.PSQ_IMEM.base then (if w.expertOpen x.a then w.dropShift n (x.k / 64) else w).setReg x.a x.new
  else if x.b = R.PSQ_STATE.base then
    (if w.expertOpen x.a then w.dropShift n x.k else w).put F.PSQ_STATE_PC (bitsOf x.v 5 0) n x.k
  else w.setReg x.a x.new

/-- A register that holds settings: some field of it can be set. -/
def isSetting (a : Nat) : Bool :=
  match rowAt a with
  | some (r, _) => r.fields.any (fun f => f.acc == .rw || f.acc == .rwx)
  | none => false

/-- A channel register, written. -/
def Work.putChan (w : Work) (x : RegW) : Work :=
  let n := x.n
  if x.b = R.CTL_RST.base then w.putCtlRst x
  else if x.b = R.LINE_GPIO_OUT.base ∨ x.b = R.LINE_GPIO_OE.base then w.setReg x.a (x.new &&& w.gpioMask n x.k)
  else if x.b = R.KILN_LEDGER_CTL.base then
    if bitOf x.v 0 then w.modKiln n (fun k => { k with maxClr := true }) else w
  else if x.b = R.INTEG_CLR.base then
    let w := if bitOf x.v 0 then w.modInteg n (fun i => { i with clr := i.clr ++ [none] }) else w
    if bitOf x.v 1 then w.modInteg n (fun i => { i with clr := i.clr ++ [some (bitsOf x.v 14 8)] }) else w
  else if x.b = R.LAMP_CLR.base then
    let w := if bitOf x.v 0 then w.modStr n (fun s => { s with clr := s.clr ++ [none] }) else w
    if bitOf x.v 1 then w.modStr n (fun s => { s with clr := s.clr ++ [some (bitsOf x.v 12 8)] }) else w
  else if x.b = R.LAMP_DEM.base then
    let w := (w.setReg x.a x.new).addChange n none false (.lamp x.k (x.new % 65536))
    if x.k < w.fnN n then w.pairCommit n ⟨.lamp (w.fnDef n x.k).id (x.new % 65536), none⟩ else w
  else if x.b = R.INTEG_BASE.base then
    -- a baseline that is written is no learned one (R124)
    (w.putSetting x).putFlag F.INTEG_BASE_LEARNED false n x.k
  else if x.b = R.CASK_CFG.base then (w.setReg x.a x.new).takeAttention n
  else if x.b = R.ENC_CFG.base then
    let w := w.setReg x.a x.new
    if bitsOf x.new 5 0 = bitsOf x.old 5 0 then w
    else if !bitOf x.old 0 ∧ bitOf x.new 0 then
      -- the steps of the running tick are still to be summed (R229)
      let e := w.encOf n x.k
      let w := w.encAfresh n x.k
      w.setEnc n x.k { w.encOf n x.k with raw := e.raw, weighted := e.weighted, err := e.err }
    else w.setEnc n x.k { w.encOf n x.k with anchor := none }
  else if foldChannel x.a / 0x1000 = 0x40109 then w.putPsq x
  else if boundaryReg x.a && isSetting x.a then w.putSetting x
  else w.setReg x.a x.new

/-! ### A word written -/

/-- The refusal of a write for other grounds than mode (R6, R25, R27, R397). -/
def Work.refuses (w : Work) (x : RegW) (r : RegRow) : Option Nat :=
  if !fieldsInRange r x.v then some stArg else if isChanReg x.a then w.chanRefuses x else w.devRefuses x

/-- A write that passed: it takes effect. SEQ_CTL answers a status of its own (R48). -/
def Work.putWord (w : Work) (x : RegW) : Work × Option Nat :=
  if x.b = R.SEQ_CTL.base then w.seqCtl x.n x.v
  else if isChanReg x.a then (w.putChan x, none)
  else if x.a < 0x40008000 ∧ 0x40000000 ≤ x.a then (w.putSys x, none)
  else if 0x40020000 ≤ x.a ∧ x.a < 0x40030000 then (w.putSec x, none)
  else if 0x40040000 ≤ x.a ∧ x.a < 0x40050000 then (w.putMon x, none)
  else (w.putDev x, none)

/-- The word at an address as a write takes it apart. -/
def Work.regW (w : Work) (r : RegRow) (k a v : Nat) : RegW :=
  { b := r.base, n := channelOf a, k := k, a := a, v := v, old := w.reg a, new := mergeWord r (w.reg a) v }

/-- A register word written (R3 to R6, R19): the status of a refusal, or none. A word of a register range that holds no
register ignores the write. -/
def Work.writeReg (w : Work) (a v : Nat) : Work × Option Nat :=
  if !regMapped a ∨ a % 4 ≠ 0 then (w, some stArg)
  else if w.regHeld a then (w.countIsoAt a, some stIsol)
  else if w.modeRefuses a v then (w, some stMode)
  else match rowAt a with
    | none => (w, none)
    | some (r, k) =>
      let x := w.regW r k a v
      match w.refuses x r with
      | some st => (w, some st)
      | none => w.putWord x

/-- A register write as a command of its own: a refused one changes nothing but what the refusal itself counts. -/
def Work.regWrite (w : Work) (a : Nat) (v : Word) : Work := (w.writeReg a v.toNat).1

/-- REGISTER_WRITE. -/
def execRegisterWrite (_o : Origin) (addr : Nat) (v : Word) (s : State) : Host.Outcome State Fault Refusal :=
  .next (s.run (fun w => w.regWrite addr v))

end Sys2Proof.Machine
end

