-- ==== Sys2Proof/Machine/RegCmds.lean ====
section
/-! DEFINITION. The commands that are writes of one register, each the write of the word it carries (R3 to R6, R19). A reset
command sets or clears its bit and carries the register's other bits as they stand. -/

namespace Sys2Proof.Machine

/-- A register's word with one bit set or cleared, written back. -/
def Work.bitWrite (w : Work) (a bit : Nat) (b : Bool) : Work := (w.writeReg a (setBit (w.reg a) bit b)).1

/-! ### The sequencer, the Kiln, the governors and the lamps -/

/-- SEQ_COMMIT: SEQ_CTL written with COMMIT (R48). -/
def execSeqCommit (_o : Origin) (ch : Fin 8) (v : Word) (s : State) : Host.Outcome State Fault Refusal :=
  .next (s.run (fun w => w.regWrite (R.SEQ_CTL.addr ch 0) v))

/-- SEQ_RUN: SEQ_CTL written with RUN (R84, R96). -/
def execSeqRun (_o : Origin) (ch : Fin 8) (v : Word) (s : State) : Host.Outcome State Fault Refusal :=
  .next (s.run (fun w => w.regWrite (R.SEQ_CTL.addr ch 0) v))

/-- SEQ_STOP: SEQ_CTL written without RUN (R93, R94). -/
def execSeqStop (_o : Origin) (ch : Fin 8) (v : Word) (s : State) : Host.Outcome State Fault Refusal :=
  .next (s.run (fun w => w.regWrite (R.SEQ_CTL.addr ch 0) v))

/-- STATS_CLR: SEQ_CTL written with STATS_CLR (R48). -/
def execStatsClr (_o : Origin) (ch : Fin 8) (v : Word) (s : State) : Host.Outcome State Fault Refusal :=
  .next (s.run (fun w => w.regWrite (R.SEQ_CTL.addr ch 0) v))

/-- TICK_CFG_WRITE (R47). -/
def execTickCfgWrite (_o : Origin) (v : Word) (s : State) : Host.Outcome State Fault Refusal :=
  .next (s.run (fun w => w.regWrite (R.SYS_TICK_CFG.addr 0 0) v))

/-- MAX_CLR: KILN_LEDGER_CTL written (R86). -/
def execMaxClr (_o : Origin) (ch : Fin 8) (v : Word) (s : State) : Host.Outcome State Fault Refusal :=
  .next (s.run (fun w => w.regWrite (R.KILN_LEDGER_CTL.addr ch 0) v))

/-- INTEG_CLR_ALL (R127). -/
def execIntegClrAll (_o : Origin) (ch : Fin 8) (v : Word) (s : State) : Host.Outcome State Fault Refusal :=
  .next (s.run (fun w => w.regWrite (R.INTEG_CLR.addr ch 0) v))

/-- INTEG_CLR_FIELD (R127). -/
def execIntegClrField (_o : Origin) (ch : Fin 8) (v : Word) (s : State) : Host.Outcome State Fault Refusal :=
  .next (s.run (fun w => w.regWrite (R.INTEG_CLR.addr ch 0) v))

/-- LED_GOV_DISABLE: LED_CFG written with GOV_EN = 0 (R108). -/
def execLedGovDisable (_o : Origin) (ch : Fin 8) (v : Word) (s : State) : Host.Outcome State Fault Refusal :=
  .next (s.run (fun w => w.regWrite (R.LED_CFG.addr ch 0) v))

/-- LAMP_GOV_DISABLE: LAMP_CFG written with GOV_EN = 0 (R249). -/
def execLampGovDisable (_o : Origin) (ch : Fin 8) (v : Word) (s : State) : Host.Outcome State Fault Refusal :=
  .next (s.run (fun w => w.regWrite (R.LAMP_CFG.addr ch 0) v))

/-- LAMP_CLR_ALL (R248). -/
def execLampClrAll (_o : Origin) (ch : Fin 8) (v : Word) (s : State) : Host.Outcome State Fault Refusal :=
  .next (s.run (fun w => w.regWrite (R.LAMP_CLR.addr ch 0) v))

/-- LAMP_CLR_FN (R248). -/
def execLampClrFn (_o : Origin) (ch : Fin 8) (v : Word) (s : State) : Host.Outcome State Fault Refusal :=
  .next (s.run (fun w => w.regWrite (R.LAMP_CLR.addr ch 0) v))

/-- LAMP_DEM_WRITE (R236). -/
def execLampDemWrite (_o : Origin) (ch : Fin 8) (f : Fin 32) (v : Word) (s : State) : Host.Outcome State Fault Refusal :=
  .next (s.run (fun w => w.regWrite (R.LAMP_DEM.addr ch f) v))

/-- LAMP_FORCE_WRITE (R255). -/
def execLampForceWrite (_o : Origin) (ch : Fin 8) (v : Word) (s : State) : Host.Outcome State Fault Refusal :=
  .next (s.run (fun w => w.regWrite (R.LAMP_FORCE.addr ch 0) v))

/-! ### Pin engines -/

/-- PSQ_RUN: PSQ_CTL written (R285). -/
def execPsqRun (_o : Origin) (ch : Fin 8) (v : Word) (s : State) : Host.Outcome State Fault Refusal :=
  .next (s.run (fun w => w.regWrite (R.PSQ_CTL.addr ch 0) v))

/-- PSQ_STOP: PSQ_CTL written (R285). -/
def execPsqStop (_o : Origin) (ch : Fin 8) (v : Word) (s : State) : Host.Outcome State Fault Refusal :=
  .next (s.run (fun w => w.regWrite (R.PSQ_CTL.addr ch 0) v))

/-- PSQ_RESTART: PSQ_CTL written with RESTART (R287). -/
def execPsqRestart (_o : Origin) (ch : Fin 8) (v : Word) (s : State) : Host.Outcome State Fault Refusal :=
  .next (s.run (fun w => w.regWrite (R.PSQ_CTL.addr ch 0) v))

/-- PSQ_TX_WRITE (R280). -/
def execPsqTxWrite (_o : Origin) (ch : Fin 8) (e : Fin 4) (v : Word) (s : State) : Host.Outcome State Fault Refusal :=
  .next (s.run (fun w => w.regWrite (R.PSQ_TX.addr ch e) v))

/-- PSQ_RX_READ: PSQ_RX read (R280); a held channel or PSQ answers by its wrapper (R397). -/
def execPsqRxRead (_o : Origin) (ch : Fin 8) (e : Fin 4) (s : State) : Host.Outcome State Fault Refusal :=
  .next (s.run (fun w => if w.regHeld (R.PSQ_RX.addr ch e) then w.countIso ch
    else if w.mode = mdBoot then w else w.rxRead ch e))

/-- PSQ_RXACK_WRITE (R280). -/
def execPsqRxackWrite (_o : Origin) (ch : Fin 8) (e : Fin 4) (v : Word) (s : State) : Host.Outcome State Fault Refusal :=
  .next (s.run (fun w => w.regWrite (R.PSQ_RXACK.addr ch e) v))

/-- PSQ_LOOP_WRITE (R288). -/
def execPsqLoopWrite (_o : Origin) (ch : Fin 8) (e : Fin 4) (v : Word) (s : State) : Host.Outcome State Fault Refusal :=
  .next (s.run (fun w => w.regWrite (R.PSQ_LOOP.addr ch e) v))

/-- PSQ_PROGRAM_WRITE: a word of the PSQ sub-block, at `off` in it (R286). -/
def execPsqProgramWrite (_o : Origin) (ch : Fin 8) (off : Nat) (v : Word) (s : State) : Host.Outcome State Fault Refusal :=
  .next (s.run (fun w => w.regWrite (0x40109000 + 0x10000 * ch + off % 0x1000) v))

/-! ### The pair, memory, secrets and the counters -/

/-- PAIR_HAND (R368). -/
def execPairHand (_o : Origin) (v : Word) (s : State) : Host.Outcome State Fault Refusal :=
  .next (s.run (fun w => w.regWrite (R.PAIR_HAND.addr 0 0) v))

/-- MEM_CNT_CLR (R380). -/
def execMemCntClr (_o : Origin) (v : Word) (s : State) : Host.Outcome State Fault Refusal :=
  .next (s.run (fun w => w.regWrite (R.MEM_CTL.addr 0 0) v))

/-- NONCE_REQUEST: SEC_CHAL written (R423). -/
def execNonceRequest (_o : Origin) (v : Word) (s : State) : Host.Outcome State Fault Refusal :=
  .next (s.run (fun w => w.regWrite (R.SEC_CHAL.addr 0 0) v))

/-- DEBUG_OPEN_WRITE: SEC_DBG_CTL written (R427). -/
def execDebugOpenWrite (_o : Origin) (v : Word) (s : State) : Host.Outcome State Fault Refusal :=
  .next (s.run (fun w => w.regWrite (R.SEC_DBG_CTL.addr 0 0) v))

/-- DEBUG_CLOSE: SEC_DBG_CTL written (R430). -/
def execDebugClose (_o : Origin) (v : Word) (s : State) : Host.Outcome State Fault Refusal :=
  .next (s.run (fun w => w.regWrite (R.SEC_DBG_CTL.addr 0 0) v))

/-- MON_START: MON_CMD written (R434). -/
def execMonStart (_o : Origin) (v : Word) (s : State) : Host.Outcome State Fault Refusal :=
  .next (s.run (fun w => w.regWrite (R.MON_CMD.addr 0 0) v))

/-- MON_STOP: MON_CMD written (R434). -/
def execMonStop (_o : Origin) (v : Word) (s : State) : Host.Outcome State Fault Refusal :=
  .next (s.run (fun w => w.regWrite (R.MON_CMD.addr 0 0) v))

/-- MON_CLEAR: MON_CMD written (R434). -/
def execMonClear (_o : Origin) (v : Word) (s : State) : Host.Outcome State Fault Refusal :=
  .next (s.run (fun w => w.regWrite (R.MON_CMD.addr 0 0) v))

/-- MON_SNAP: MON_CMD written (R434). -/
def execMonSnap (_o : Origin) (v : Word) (s : State) : Host.Outcome State Fault Refusal :=
  .next (s.run (fun w => w.regWrite (R.MON_CMD.addr 0 0) v))

/-! ### Resets -/

/-- SOFTWARE_RESET: SYS_RST_CTL written (R390). -/
def execSoftwareReset (_o : Origin) (v : Word) (s : State) : Host.Outcome State Fault Refusal :=
  .next (s.run (fun w => w.regWrite (R.SYS_RST_CTL.addr 0 0) v))

/-- TUN_BLOCK_RESET (R396). -/
def execTunBlockReset (_o : Origin) (e : Fin 4) (s : State) : Host.Outcome State Fault Refusal :=
  .next (s.run (fun w => w.bitWrite (R.SYS_BLK_RST.addr 0 0) e true))

/-- HOST_BLOCK_RESET (R396). -/
def execHostBlockReset (_o : Origin) (s : State) : Host.Outcome State Fault Refusal :=
  .next (s.run (fun w => w.bitWrite (R.SYS_BLK_RST.addr 0 0) 4 true))

/-- FABRIC_BLOCK_RESET (R396). -/
def execFabricBlockReset (_o : Origin) (s : State) : Host.Outcome State Fault Refusal :=
  .next (s.run (fun w => w.bitWrite (R.SYS_BLK_RST.addr 0 0) 5 true))

/-- PAIR_BLOCK_RESET (R396). -/
def execPairBlockReset (_o : Origin) (s : State) : Host.Outcome State Fault Refusal :=
  .next (s.run (fun w => w.bitWrite (R.SYS_BLK_RST.addr 0 0) 6 true))

/-- NET_BLOCK_RESET (R396). -/
def execNetBlockReset (_o : Origin) (s : State) : Host.Outcome State Fault Refusal :=
  .next (s.run (fun w => w.bitWrite (R.SYS_BLK_RST.addr 0 0) 7 true))

/-- STEEP_BLOCK_RESET (R396). -/
def execSteepBlockReset (_o : Origin) (s : State) : Host.Outcome State Fault Refusal :=
  .next (s.run (fun w => w.bitWrite (R.SYS_BLK_RST.addr 0 0) 8 true))

/-- BLOCK_RESET_RELEASE (R396). -/
def execBlockResetRelease (_o : Origin) (bit : Fin 9) (s : State) : Host.Outcome State Fault Refusal :=
  .next (s.run (fun w => w.bitWrite (R.SYS_BLK_RST.addr 0 0) bit false))

/-- CHANNEL_RESET: CH set without QUIESCE (R398). -/
def execChannelReset (_o : Origin) (ch : Fin 8) (s : State) : Host.Outcome State Fault Refusal :=
  .next (s.run (fun w => (w.writeReg (R.CTL_RST.addr ch 0) (setBits (w.reg (R.CTL_RST.addr ch 0)) 1 0 1)).1))

/-- CHANNEL_QUIESCE_RESET: CH set with QUIESCE (R398). -/
def execChannelQuiesceReset (_o : Origin) (ch : Fin 8) (s : State) : Host.Outcome State Fault Refusal :=
  .next (s.run (fun w => (w.writeReg (R.CTL_RST.addr ch 0) (setBits (w.reg (R.CTL_RST.addr ch 0)) 1 0 3)).1))

/-- CHANNEL_RESET_RELEASE: CH and QUIESCE cleared (R398). -/
def execChannelResetRelease (_o : Origin) (ch : Fin 8) (s : State) : Host.Outcome State Fault Refusal :=
  .next (s.run (fun w => (w.writeReg (R.CTL_RST.addr ch 0) (setBits (w.reg (R.CTL_RST.addr ch 0)) 1 0 0)).1))

/-- GRIST_RESET (R399). -/
def execGristReset (_o : Origin) (ch : Fin 8) (s : State) : Host.Outcome State Fault Refusal :=
  .next (s.run (fun w => w.bitWrite (R.CTL_RST.addr ch 0) 2 true))

/-- ENC_RESET (R399). -/
def execEncReset (_o : Origin) (ch : Fin 8) (s : State) : Host.Outcome State Fault Refusal :=
  .next (s.run (fun w => w.bitWrite (R.CTL_RST.addr ch 0) 3 true))

/-- CASK_RESET (R399). -/
def execCaskReset (_o : Origin) (ch : Fin 8) (s : State) : Host.Outcome State Fault Refusal :=
  .next (s.run (fun w => w.bitWrite (R.CTL_RST.addr ch 0) 4 true))

/-- LAMP_RESET (R399). -/
def execLampReset (_o : Origin) (ch : Fin 8) (s : State) : Host.Outcome State Fault Refusal :=
  .next (s.run (fun w => w.bitWrite (R.CTL_RST.addr ch 0) 5 true))

/-- TAP_RESET (R399). -/
def execTapReset (_o : Origin) (ch : Fin 8) (s : State) : Host.Outcome State Fault Refusal :=
  .next (s.run (fun w => w.bitWrite (R.CTL_RST.addr ch 0) 6 true))

/-- PSQ_RESET (R399). -/
def execPsqReset (_o : Origin) (ch : Fin 8) (s : State) : Host.Outcome State Fault Refusal :=
  .next (s.run (fun w => w.bitWrite (R.CTL_RST.addr ch 0) 7 true))

/-- INTEG_RESET (R399). -/
def execIntegReset (_o : Origin) (ch : Fin 8) (s : State) : Host.Outcome State Fault Refusal :=
  .next (s.run (fun w => w.bitWrite (R.CTL_RST.addr ch 0) 8 true))

/-- MASH_RESET (R399). -/
def execMashReset (_o : Origin) (ch : Fin 8) (s : State) : Host.Outcome State Fault Refusal :=
  .next (s.run (fun w => w.bitWrite (R.CTL_RST.addr ch 0) 9 true))

/-- BLINK_RESET (R399). -/
def execBlinkReset (_o : Origin) (ch : Fin 8) (s : State) : Host.Outcome State Fault Refusal :=
  .next (s.run (fun w => w.bitWrite (R.CTL_RST.addr ch 0) 10 true))

/-- SUBBLOCK_RESET_RELEASE: the sub-block's bit, `bit` from 0 for bit 2 (R399). -/
def execSubblockResetRelease (_o : Origin) (ch : Fin 8) (bit : Fin 9) (s : State) : Host.Outcome State Fault Refusal :=
  .next (s.run (fun w => w.bitWrite (R.CTL_RST.addr ch 0) (bit + 2) false))

end Sys2Proof.Machine
end

