-- ==== Sys2Proof/Machine/MemSys.lean ====
section
/-! DEFINITION. The memory banks: errors, failed banks, conflicts and collisions, and Steep (18_memory_steep.md). -/

namespace Sys2Proof.Machine

/-- The memory system changed. -/
def Work.modMem (w : Work) (f : MemSys → MemSys) : Work := { w with memsys := f w.memsys }

/-- A MEMORY entry: bank, event code of R377, whether Steep found the fault, and the word's address. -/
def Work.memEntry (w : Work) (b code : Nat) (steep : Bool) (addr : Nat) : Work :=
  w.entryNow devRing 0x85 b (256 * code + steep.toNat) addr

/-! ### Errors and failed banks (R375 to R377) -/

/-- A Tun engine reset alone that stays stopped until a TUN section is activated for it (R376). -/
def Work.failEngine (w : Work) (e : Nat) : Work :=
  let w := w.portReset (.tun e)
  let w := w.modTun e (fun t => { t with wdog := some false, fitted := 0 })
  let w := w.put F.TUN_CTL_RUNNING (setBit (w.get F.TUN_CTL_RUNNING) e false)
  w.put F.TUN_STAT_STATE 0 0 e

/-- What the rest of the device does when a bank fails (R376). A system bank's reset is MEM_FAIL_RESET. -/
def Work.bankReaction (w : Work) (b : Nat) : Work :=
  if 16 ≤ b ∧ b < 24 then
    let n := b - 16
    let w := if (w.chan n).running then w.askQuiesce n else w
    if bitOf w.activeMask n then w.modPair (fun p => { p with release := setBit p.release n true }) else w
  else if 24 ≤ b ∧ b < 32 then w.failEngine ((b - 24) / 2)
  else w

/-- A bank fails by an uncorrectable error at a word (R376, R387). -/
def Work.failBank (w : Work) (b addr : Nat) (steep : Bool) : Work :=
  if w.bankFailed b then w
  else
    let w := (w.countUp F.MEM_ECC_UNCORR 0 b).raise F.MEM_STAT_ECC_UNCORR
    (w.markFailed b addr steep).bankReaction b

/-- A read that finds a single-bit error, Steep's own among them (R375, R377). -/
def Work.correctWord (w : Work) (b addr : Nat) (steep : Bool) : Work :=
  let w := ((w.countUp F.MEM_ECC_CORR 0 b).raise F.MEM_STAT_ECC_CORR).ev 0x68
  let first := match tabFind w.memsys.corrRun b with
    | some t => decide (t + 1024 ≤ w.bounds)
    | none => true
  let w := w.modMem (fun m => { m with writeback := m.writeback ++ [(addr, 0)] })
  if first then (w.modMem (fun m => { m with corrRun := tabInsert m.corrRun b w.bounds })).memEntry b 1 steep addr else w

/-- The masters that reach a bank (R374): 0 the supervisor, 1 to 4 the Tun engines, 5 the host port, 6 the fabric, 7 Steep,
8 to 15 the channel sequencers. -/
def masterMay (b m : Nat) : Bool :=
  decide (m < 16) &&
    (if b < 16 ∨ b = 32 then decide (m < 8)
    else if b < 24 then decide (m < 8) || m == b - 8
    else m == 0 || m == (b - 24) / 2 + 1 || m == 5 || m == 6 || m == 7)

/-- BANK_ACCESS (R375, R376, R379 to R382, R384): one access of a master to a word of a bank. `wait` are the cycles it
waited for other masters; `flips` the bits its read found wrong, 0 to 2; `collides` tells a write on port A that met port
B's write of the same word. The words the access reads or writes are the effect of the command that made it (log entry 91).
A failed bank is waited for like any other; it holds no word that could be found wrong or collide. -/
def bankAccess (w : Work) (b m addr wait flips : Nat) (collides : Bool) : Work :=
  let word := addr / 4 * 4
  if !masterMay b m ∨ bankOf word ≠ some b then w
  else
    let good := !w.bankFailed b
    let met := good && collides && decide (16 ≤ b) && decide (b < 24) && decide (m < 8)
    let cycles := wait + (w.borrowed word).toNat + met.toNat
    let w := w.countUp F.MEM_CNT_CYCLES 0 m cycles
    let w := if cycles = 0 then w else w.ev (1 + m) 0 cycles
    let w := w.modMem (fun x => { x with rr := tabInsert x.rr b m })
    let w := if !met then w
      else if w.flag F.MEM_COLLIDE_COLLIDE then w.putFlag F.MEM_COLLIDE_MORE true
      else (w.raise F.MEM_COLLIDE_COLLIDE).put F.MEM_COLLIDE_OFFSET (word - 0x01000000)
    if flips = 0 ∨ !good then w
    else if flips = 1 then w.correctWord b word (m == 7)
    else w.failBank b word (m == 7)

/-- BANK_ACCESS. -/
def execBankAccess (bank master addr wait flips : Nat) (collides : Bool) (s : State) : Host.Outcome State Fault Refusal :=
  .next (s.run (fun w => bankAccess w bank master addr wait flips collides))

/-- ECC_WRITEBACK (R375): the oldest corrected word of a bank is written back. The cells then hold what reads already
return. -/
def eccWriteback (w : Work) (b : Nat) : Work :=
  match w.memsys.writeback.find? (fun x => bankOf x.1 == some b) with
  | some x => w.modMem (fun m => { m with writeback := m.writeback.erase x })
  | none => w

/-- ECC_WRITEBACK. -/
def execEccWriteback (bank : Nat) (s : State) : Host.Outcome State Fault Refusal :=
  .next (s.run (fun w => eccWriteback w bank))

/-! ### Steep (R383 to R389) -/

/-- The windows of a sweep end here, in the numbering of `MemSys.nextWin`. -/
def sweepEnd : Nat := 32 * 512 + 32

/-- A bank whose windows Steep tests (R383, STEEP_CFG, STEEP_MASK). -/
def Work.steepTests (w : Work) (b : Nat) : Bool :=
  !w.bankFailed b && (if b < 32 then bitOf (w.get F.STEEP_MASK_MASK) b else w.flag F.STEEP_CFG_AON_EN)

/-- The first window from `i` on whose bank is tested. -/
def Work.steepFrom (w : Work) (i : Nat) : Option Nat :=
  if sweepEnd ≤ i then none
  else if w.steepTests (i / 512) then some i
  else ((upFrom (i / 512 + 1) 32).find? (fun b => decide (b ≤ 32) && w.steepTests b)).map (512 * ·)

/-- The first byte of the window that STEEP_STAT names. -/
def Work.windowBase (w : Work) : Nat := bankBase (w.get F.STEEP_STAT_BANK) + 256 * w.get F.STEEP_STAT_WINDOW

/-- Steep runs: enabled, not held, in RUN or IDLE (R389). -/
def Work.steepRuns (w : Work) : Bool :=
  w.flag F.STEEP_CFG_EN && !w.flag F.SYS_BLK_RST_STEEP && decide (w.get F.PWR_STAT_STATE ≤ 1) && decide (4 ≤ w.relStep)

/-- The instant at which Steep starts its next window lies in the running tick: PACE_US after the last start (R383). -/
def Work.paceDue (w : Work) : Bool :=
  decide (w.memsys.startCyc + 200 * w.get F.STEEP_CFG_PACE_US < w.nowCyc + w.tickLen + w.lock.stretch)

/-- STEEP_WINDOW_START: the next window is copied to the shadow and its March begins (R383). The 40 ns of Copy, and those of
Restore, pass within a command: PHASE reads MARCH while a window is borrowed (log entry 91). -/
def steepWindowStart (w : Work) : Work :=
  if !w.steepRuns ∨ w.flag F.STEEP_STAT_BORROWED ∨ !w.paceDue then w
  else
    let at_ := match w.steepFrom w.memsys.nextWin with
      | some i => some (i, false)
      | none => (w.steepFrom 0).map (fun i => (i, true))
    match at_ with
    | none => w
    | some (i, wrapped) =>
      let fresh := wrapped || w.memsys.nextWin == 0
      let us := w.nowUs
      let w := w.modMem (fun m => { m with
        nextWin := i + 1, dirty := false, restarts := 0
        startCyc := Nat.max (m.startCyc + 200 * w.get F.STEEP_CFG_PACE_US) w.nowCyc, sweepUs := if fresh then us else m.sweepUs })
      let w := (w.put F.STEEP_STAT_BANK (i / 512)).put F.STEEP_STAT_WINDOW (i % 512)
      (w.put F.STEEP_STAT_PHASE 2).putFlag F.STEEP_STAT_BORROWED true

/-- STEEP_WINDOW_START. -/
def execSteepWindowStart (s : State) : Host.Outcome State Fault Refusal := .next (s.run steepWindowStart)

/-- The window returns; after the last one the sweep is complete (R383, STEEP_CNT, STEEP_SKIP). -/
def Work.windowReturn (w : Work) : Work :=
  let w := (w.putFlag F.STEEP_STAT_BORROWED false).put F.STEEP_STAT_PHASE 0
  match w.steepFrom w.memsys.nextWin with
  | some _ => w
  | none =>
    let w := (w.countUp F.STEEP_CNT_SWEEPS).put F.STEEP_SKIP_SWEEP_S
      (Nat.min 65535 (roundOpen ((w.nowUs : Int) - w.memsys.sweepUs) 1000000).toNat)
    w.modMem (fun m => { m with nextWin := 0 })

/-- What the March found in one word: `bits` the mask of its failing bits of 39 (R387). -/
def Work.judgeWord (w : Work) (addr bits : Nat) : Work :=
  let failing := (List.range 39).filter (fun i => bitOf bits i)
  let b := w.get F.STEEP_STAT_BANK
  match failing with
  | [] => w
  | [i] =>
    let w := w.setReg (R.STEEP_FAULT.addr 0 0) addr
    match tabFind w.memsys.hard addr with
    | some j =>
      if i = j then (w.raise F.STEEP_ERR_HARD_BIT).memEntry b 3 true addr
      else ((w.modMem (fun m => { m with steepFailed := setBit m.steepFailed b true })).raise F.STEEP_ERR_FAIL).failBank b addr true
    | none =>
      let w := w.modMem (fun m => { m with hard := tabInsert m.hard addr i })
      (w.raise F.STEEP_ERR_HARD_BIT).memEntry b 3 true addr
  | _ =>
    let w := w.setReg (R.STEEP_FAULT.addr 0 0) addr
    ((w.modMem (fun m => { m with steepFailed := setBit m.steepFailed b true })).raise F.STEEP_ERR_FAIL).failBank b addr true

/-- STEEP_MARCH_END: the March is through, the window restored, and its words judged: `bad` lists a word's number in the
window and its failing bits (R383, R387). -/
def steepMarchEnd (w : Work) (bad : List (Nat × Nat)) : Work :=
  if !w.flag F.STEEP_STAT_BORROWED ∨ w.memsys.dirty then w
  else
    let base := w.windowBase
    let w := (w.putFlag F.STEEP_STAT_BORROWED false).ev 0x69
    let w := bad.foldl (fun w x => w.judgeWord (base + 4 * (x.1 % 64)) x.2) w
    w.windowReturn

/-- STEEP_MARCH_END. -/
def execSteepMarchEnd (bad : List (Nat × Nat)) (s : State) : Host.Outcome State Fault Refusal :=
  .next (s.run (fun w => steepMarchEnd w bad))

/-- STEEP_RESTART: the dirty window's March is abandoned and it starts again; the fourth restart skips it (R385, R386). -/
def steepRestart (w : Work) : Work :=
  if !w.flag F.STEEP_STAT_BORROWED ∨ !w.memsys.dirty then w
  else
    let w := (w.countUp F.STEEP_CNT_RESTARTS).ev 0x6A
    let w := w.modMem (fun m => { m with dirty := false, restarts := m.restarts + 1 })
    if w.memsys.restarts < 4 then w
    else
      let w := ((w.countUp F.STEEP_SKIP_SKIPS).raise F.STEEP_ERR_SKIP).ev 0x6B
      (w.memEntry (w.get F.STEEP_STAT_BANK) 5 false w.windowBase).windowReturn

/-- STEEP_RESTART. -/
def execSteepRestart (s : State) : Host.Outcome State Fault Refusal := .next (s.run steepRestart)

/-- Any March is abandoned and its window restored (R389). -/
def Work.steepAbandon (w : Work) : Work := (w.putFlag F.STEEP_STAT_BORROWED false).put F.STEEP_STAT_PHASE 0

/-- The march over a whole failed bank at an activation (R376): one that passes returns to service, its cells 0. -/
def Work.restoreBank (w : Work) (b : Nat) : Work :=
  let w := w.put F.MEM_FAILED_FAILED (setBit (w.get F.MEM_FAILED_FAILED) b false)
  let w := w.modMem (fun m => { m with steepFailed := setBit m.steepFailed b false })
  (w.wipe (bankBase b) (bankBase b + bankSize b)).memEntry b 4 false 0

/-- MEM_CNT cleared at a boundary where CNT_CLR was written (R380). -/
def Work.clearMemCnt (w : Work) : Work :=
  if w.memsys.cntClr then
    let w := (List.range 16).foldl (fun w m => w.setReg (R.MEM_CNT.addr 0 m) 0) w
    w.modMem (fun m => { m with cntClr := false })
  else w

end Sys2Proof.Machine
end

