-- ==== Sys2Proof/Machine/MemOps.lean ====
section
/-! DEFINITION. MEM_READ and MEM_WRITE (R20, R23 to R27, R141, R213, R303, R309, R315). -/

namespace Sys2Proof.Machine

/-- The range of the device address map, or of the channel sub-block offsets, that an address lies in: first byte and end
(R23, R24). -/
def areaOf (a : Nat) : Option (Nat × Nat) :=
  if a < 0x00200000 then some (0, 0x00200000)
  else if 0x01000000 ≤ a ∧ a < 0x01100000 then some (a / 0x20000 * 0x20000, a / 0x20000 * 0x20000 + 0x20000)
  else if 0x02000000 ≤ a ∧ a < 0x02100000 then some (a / 0x40000 * 0x40000, a / 0x40000 * 0x40000 + 0x40000)
  else if 0x03000000 ≤ a ∧ a < 0x03002000 then some (0x03000000, 0x03002000)
  else if 0x03002000 ≤ a ∧ a < 0x03002100 then some (0x03002000, 0x03002100)
  else if 0x40000000 ≤ a ∧ a < 0x40008000 then some (0x40000000, 0x40008000)
  else if 0x40008000 ≤ a ∧ a < 0x40010000 then some (0x40008000, 0x40010000)
  else if 0x40010000 ≤ a ∧ a < 0x40090000 then some (a / 0x10000 * 0x10000, a / 0x10000 * 0x10000 + 0x10000)
  else if regMapped a then some (a / 0x1000 * 0x1000, a / 0x1000 * 0x1000 + 0x1000)
  else none

/-- The status of an access to `k` bytes at `a` that reaches outside its range, or a register range out of alignment
(R25, R27). -/
def accessOk (a k : Nat) : Bool :=
  match areaOf a with
  | none => false
  | some (_, hi) => decide (a + k ≤ hi) && (!regMapped a || (a % 4 == 0 && k % 4 == 0))

/-- The banks that `k` bytes from `a` reach. -/
def banksOf (a k : Nat) : List Nat := [bankOf a, bankOf (a + k - 1)].filterMap id

/-- An engine whose block is held, or under the check of its code after a watchdog expiry (R329, R396). -/
def Work.engineHeld (w : Work) (e : Nat) : Bool := (w.tunEng e).held || (w.tunEng e).wdog == some true

/-- A memory address behind the wrapper of a held channel or engine (R10, R397). -/
def Work.memHeld (w : Work) (a : Nat) : Bool :=
  if 0x01000000 ≤ a ∧ a < 0x01100000 then w.isolated ((a - 0x01000000) / 0x20000)
  else if 0x02000000 ≤ a ∧ a < 0x02100000 then w.engineHeld ((a - 0x02000000) / 0x40000)
  else false

/-- A channel's wrapper counts the request it answers (R397). -/
def Work.countMemIso (w : Work) (a : Nat) : Work :=
  if 0x01000000 ≤ a ∧ a < 0x01100000 then w.countIso ((a - 0x01000000) / 0x20000) else w.countIsoAt a

/-! ### Tun local memory (R315) -/

/-- No TUN section is in force for the engine: it stays stopped and its memory reads 0 (R315). -/
def Work.unfitted (w : Work) (e : Nat) : Bool := w.get F.TUN_STAT_PROTO 0 e == 0

/-- The offset in local memory where a SET stands: above the code. -/
def TunEng.place (t : TunEng) (input : Bool) (set : Nat) : Nat :=
  t.code.length + Config.tunPlace t.code input set % (0x40000 - t.code.length)

/-- The SET and the byte of it that stand at an offset of local memory. -/
def TunEng.spot (t : TunEng) (off : Nat) : Option (Bool × Nat × Nat) :=
  ((t.outSets.map (fun s => (false, s.1, s.2.length)) ++ t.inSets.map (fun s => (true, s.1, s.2.length))).find? (fun x =>
    decide (t.place x.1 x.2.1 ≤ off) && decide (off < t.place x.1 x.2.1 + x.2.2))).map (fun x =>
      (x.1, x.2.1, off - t.place x.1 x.2.1))

/-- One byte of a SET replaced. -/
def pokeSet (sets : List (Nat × List Byte)) (set i : Nat) (b : Byte) : List (Nat × List Byte) :=
  sets.map (fun s => if s.1 = set then (s.1, s.2.set i b) else s)

/-- The byte of a SET at an index. -/
def peekSet (sets : List (Nat × List Byte)) (set i : Nat) : Byte :=
  (((sets.find? (fun s => s.1 == set)).map (·.2)).getD []).getD i 0

/-- A byte of engine `e`'s local memory read: 0 where no image runs, the code, a process-data area; what the engine keeps in its
data the spec leaves open. -/
def Work.tunByte (w : Work) (e a : Nat) : Work × Byte :=
  let t := w.tunEng e
  let off := a - (0x02000000 + 0x40000 * e)
  if w.unfitted e then (w, 0)
  else if off < t.code.length then (w, w.cell a)
  else match t.spot off with
    | some (false, set, i) => (w, peekSet t.outSets set i)
    | some (true, set, i) => (w, peekSet t.inSets set i)
    | none =>
      let (x, w) := w.fresh 8
      (w, BitVec.ofNat 8 x)

/-- `k` bytes of engine `e`'s local memory from `a` up. -/
def Work.tunBytes (w : Work) (e a : Nat) : Nat → Work × List Byte
  | 0 => (w, [])
  | k + 1 =>
    let (w, b) := w.tunByte e a
    let (w, bs) := w.tunBytes e (a + 1) k
    (w, b :: bs)

/-- A byte written to engine `e`'s data part; the memory of an engine with no image stays 0. -/
def Work.tunPoke (w : Work) (e a : Nat) (b : Byte) : Work :=
  if w.unfitted e then w
  else match (w.tunEng e).spot (a - (0x02000000 + 0x40000 * e)) with
    | some (false, set, i) => w.modTun e (fun t => { t with outSets := pokeSet t.outSets set i b })
    | some (true, set, i) => w.modTun e (fun t => { t with inSets := pokeSet t.inSets set i b })
    | none => w.poke a b

/-- MEM_WRITE into engine `e`'s local memory: nothing of it where it reaches the code part. -/
def Work.writeTun (w : Work) (e a : Nat) (bs : List Byte) : Work × Reply :=
  if a < 0x02000000 + 0x40000 * e + (w.tunEng e).code.length then w.reply stArg
  else (((List.range bs.length).zip bs).foldl (fun w p => w.tunPoke e (a + p.1) p.2) w).reply stOk

/-! ### MEM_READ -/

/-- A register word read: GPIO bits of the lines that are GPIO, with the level of an input pin left open, the time since
the boundary left open, and a read of an empty RX FIFO noted. -/
def Work.readReg (w : Work) (a : Nat) : Work × Nat :=
  let n := channelOf a
  let b := foldChannel a
  if R.LINE_GPIO_OUT.base ≤ b ∧ b < R.LINE_GPIO_OUT.base + 12 ∨ R.LINE_GPIO_OE.base ≤ b ∧ b < R.LINE_GPIO_OE.base + 12 then
    (w, w.reg a &&& w.gpioMask n (b % 16 / 4))
  else if R.LINE_GPIO_IN.base ≤ b ∧ b < R.LINE_GPIO_IN.base + 12 then
    let j := b % 16 / 4
    let (x, w) := w.fresh 32
    let oe := w.get R.LINE_GPIO_OE n j
    (w, ((w.get R.LINE_GPIO_OUT n j &&& oe) ||| (x &&& (0xFFFFFFFF ^^^ oe))) &&& w.gpioMask n j)
  else if a = R.RHL_SUBTICK.base then
    let (x, w) := w.fresh 22
    (w, x % Nat.max 1 (1000 * w.periodUs))
  else if R.PSQ_RX.base ≤ b ∧ b ≤ R.PSQ_RX.base + 192 ∧ b % 64 = R.PSQ_RX.base % 64 then
    (w.rxRead n ((b - R.PSQ_RX.base) / 64), w.reg a)
  else (w, w.reg a)

/-- `k` register words from `a` up. -/
def Work.readRegs (w : Work) (a : Nat) : Nat → Work × List Byte
  | 0 => (w, [])
  | k + 1 =>
    let (w, v) := w.readReg a
    let (w, bs) := w.readRegs (a + 4) k
    (w, leBytes 4 v ++ bs)

/-- A bank that Steep failed keeps its last good contents for diagnosis in TEST and RECOVERY (R387). -/
def Work.diagnosed (w : Work) (b : Nat) : Bool :=
  bitOf w.memsys.steepFailed b && (w.mode == mdTest || w.mode == mdRecovery)

/-- The word at an address is CH[n].PSQ_RX[e], which BOOT does not open to reads (R280). -/
def Work.readBarred (w : Work) (a : Nat) : Bool :=
  w.mode == mdBoot && (match rowAt a with | some (r, _) => r.base == R.PSQ_RX.base | none => false)

/-- MEM_READ (R303): one snapshot. A failed bank answers ERR_STATE (R376); outside the ranges of the map a read returns 0
with ERR_ARG (R25). -/
def memReadOp (w : Work) (pl : List Byte) : Work × Reply :=
  let a := wordAt pl 0
  let k := halfAt pl 4
  if pl.length ≠ 6 ∨ k < 1 ∨ 4096 < k then w.reply stArg
  else if !accessOk a k then w.reply stArg (if (areaOf a).isNone then List.replicate k 0 else [])
  else if regMapped a then
    if (List.range (k / 4)).any (fun i => w.regHeld (a + 4 * i)) then (w.countIsoAt a).reply stIsol
    else if (List.range (k / 4)).any (fun i => w.readBarred (a + 4 * i)) then w.reply stMode
    else
      let (w, bs) := w.readRegs a (k / 4)
      w.reply stOk bs
  else if w.memHeld a then (w.countMemIso a).reply stIsol
  else if (banksOf a k).any (fun b => w.bankFailed b && !w.diagnosed b) then w.reply stState
  else if 0x02000000 ≤ a ∧ a < 0x02100000 then
    let (w, bs) := w.tunBytes ((a - 0x02000000) / 0x40000) a k
    w.reply stOk bs
  else w.reply stOk ((upFrom a k).map (fun x => w.cell x))

/-! ### MEM_WRITE -/

/-- Register words written in rising order; the first refusal ends it. -/
def Work.writeRegs (w : Work) (a : Nat) : List Byte → Nat → Work × Option Nat
  | _, 0 => (w, none)
  | bs, k + 1 =>
    match w.writeReg a (leAt bs 0 4) with
    | (w, none) => w.writeRegs (a + 4) (bs.drop 4) k
    | (w, some st) => (w, some st)

/-- PLAN_REFUSED of a write whose other effects are undone (R48). -/
def Work.keepRefused (w w' : Work) : Work :=
  w.eachChan (fun w n => if w'.flag F.SEQ_ERR_PLAN_REFUSED n then w.raise F.SEQ_ERR_PLAN_REFUSED n else w)

/-- MEM_WRITE into a register range: mode is checked for every word first, and a refused word leaves the whole range as it
was (R6, R20), but for what SEQ_CTL's own refusal raises (R48). -/
def Work.writeRegRange (w : Work) (a : Nat) (bs : List Byte) : Work × Reply :=
  let k := bs.length / 4
  if (List.range k).any (fun i => w.regHeld (a + 4 * i)) then (w.countIsoAt a).reply stIsol
  else if (List.range k).any (fun i => w.modeRefuses (a + 4 * i) (leAt bs (4 * i) 4)) then w.reply stMode
  else
    match w.writeRegs a bs k with
    | (w', none) => (w', .done stOk [])
    | (w', some st) => (w.keepRefused w').reply st

/-- The range reaches the region of `n`'s bank. -/
def Work.reaches (w : Work) (n r a k : Nat) : Bool :=
  let g := w.region n r
  decide (g.2 ≠ 0) && decide (a < g.1 + g.2) && decide (g.1 < a + k)

/-- What a MEM_WRITE writes that reaches the back image (R138, R141): the raw elements, as changes of the display, and the bytes
outside the image; the image's unused bytes stay 0. -/
def Work.writeBack (w : Work) (n a : Nat) (bs : List Byte) : Work :=
  let img := (w.backImage n).1
  let top := img + (w.backImage n).2
  let at_ := (List.range bs.length).zip bs
  let elems := (at_.map (fun p =>
    if img ≤ a + p.1 ∧ a + p.1 < img + 128 then
      (List.range 8).map (fun i => (8 * (a + p.1 - img) + i, bitOf p.2.toNat i)) else [])).flatten
  let ws := (elems.filter (fun e => !w.owned n e.1)).map (fun e => DispWrite.elem e.1 e.2)
  let own := elems.any (fun e => w.owned n e.1) ||
    at_.any (fun p => decide (img + 0x100 ≤ a + p.1) && decide (a + p.1 < img + 0x900))
  let w := if own then w.raise F.MASH_ERR_OWNED n else w
  let w := at_.foldl (fun w p => if a + p.1 < img ∨ top ≤ a + p.1 then w.poke (a + p.1) p.2 else w) w
  let w := ws.foldl (fun w d => w.writeDisp (w.backImage n) none d) w
  if ws.isEmpty then w else (w.addChange n none false (.disp ws)).pairDisp n none ws

/-- MEM_WRITE into a channel bank (R141, R164, R213); the display images of a channel whose MASH is held are isolated (R399). -/
def Work.writeBank (w : Work) (n a : Nat) (bs : List Byte) : Work × Reply :=
  let k := bs.length
  let front := w.get F.MASH_STAT_FRONT n
  let images := w.reaches n 0 a k || w.reaches n 1 a k
  if w.reaches n 2 a k then w.reply stArg
  else if images ∧ (w.chan n).blockHeld 9 then (w.countIso n).reply stIsol
  else if images ∧ (w.reaches n front a k ∨ !w.held n) then w.reply stState
  else if images ∧ (w.chan n).swapPending then (w.raise F.MASH_ERR_HELD_BUSY n).reply stBusy
  else if images then (w.writeBack n a bs).reply stOk
  else (w.pokes a bs).reply stOk

/-- A delivery of area bytes to every channel that binds them; a held channel's wrapper answers for it (R10, R159). -/
def Work.deliverArea (w : Work) (kind engine set : Nat) (data : List Byte) (src : Origin) : Work :=
  w.eachChan (fun w n =>
    if (w.bindings n).any (fun b => b.fits kind engine set) then w.deliverBody n (.area kind engine set data) src else w)

/-- The host process-data area's input part. -/
def hostIn : Nat := 0x001FB000
/-- Its output part. -/
def hostOut : Nat := 0x001FB400

/-- Two ranges of bytes meet. -/
def meets (a k b l : Nat) : Bool := decide (a < b + l) && decide (b < a + k)

/-- MEM_WRITE into system SRAM (R161, R213, R309). A write to the host area hands a
delivery to every channel, so it is BUSY while the queue of any channel is full, one without a binding of it too (DESIGN
CHOICE, log entry 90). -/
def Work.writeSram (w : Work) (a : Nat) (bs : List Byte) (o : Origin) : Work × Reply :=
  let k := bs.length
  if meets a k hostOut 1024 ∨ meets a k 0x001FC000 0x4000 then w.reply stArg
  else if meets a k hostIn 1024 then
    if (List.range 8).any (fun n => decide (256 ≤ (w.chan n).mash.queue.length)) then w.reply stBusy
    else
      let w := w.pokes a bs
      (w.deliverArea 3 0 0 (w.peeks hostIn 1024) o).reply stOk
  else (w.pokes a bs).reply stOk

/-- MEM_WRITE (R20, R303). -/
def memWriteOp (w : Work) (o : Origin) (pl : List Byte) : Work × Reply :=
  let a := wordAt pl 0
  let bs := pl.drop 4
  let k := bs.length
  if pl.length < 5 ∨ 4100 < pl.length then w.reply stArg
  else if !accessOk a k then w.reply stArg
  else if regMapped a then w.writeRegRange a bs
  else if w.memHeld a then (w.countMemIso a).reply stIsol
  else
    let failed := (banksOf a k).any (fun b => w.bankFailed b)
    let (w, r) :=
      if a < 0x00200000 then w.writeSram a bs o
      else if a < 0x02000000 then w.writeBank ((a - 0x01000000) / 0x20000) a bs
      else if a < 0x03000000 then w.writeTun ((a - 0x02000000) / 0x40000) a bs
      else (w.pokes a bs).reply stOk
    match r with
    | .done 0 _ => if failed then (w, .done stState []) else (w, r)
    | _ => (w, r)

end Sys2Proof.Machine
end

