-- ==== Sys2Proof/Machine/Kazral.lean ====
section
/-! DEFINITION. The Kazral image as bytes: header, section table and records, and how its records are applied
(03_kazral_image.md, R49 to R58). -/

namespace Sys2Proof.Machine

/-! ### Refusal codes (R61) -/

/-- FORMAT. -/
def rcFormat : Nat := 0x01
/-- LENGTH. -/
def rcLength : Nat := 0x02
/-- PART. -/
def rcPart : Nat := 0x03
/-- HDR_CRC. -/
def rcHdrCrc : Nat := 0x04
/-- SECTION_CRC. -/
def rcSectionCrc : Nat := 0x05
/-- KEY_HASH. -/
def rcKeyHash : Nat := 0x06
/-- SIGNATURE. -/
def rcSignature : Nat := 0x07
/-- UNWRAP. -/
def rcUnwrap : Nat := 0x08
/-- DECRYPT. -/
def rcDecrypt : Nat := 0x09
/-- TUN_SIG. -/
def rcTunSig : Nat := 0x0A
/-- RECORD. -/
def rcRecord : Nat := 0x0B
/-- ROLES. -/
def rcRoles : Nat := 0x0C
/-- PLAN. -/
def rcPlan : Nat := 0x0D
/-- BANK. -/
def rcBank : Nat := 0x0E
/-- TAP_FIT. -/
def rcTapFit : Nat := 0x0F
/-- THERMAL. -/
def rcThermal : Nat := 0x10
/-- LOCK. -/
def rcLock : Nat := 0x11
/-- REFERENCE. -/
def rcReference : Nat := 0x12
/-- PSQ. -/
def rcPsq : Nat := 0x13
/-- BASE. -/
def rcBase : Nat := 0x14
/-- SCOPE. -/
def rcScope : Nat := 0x15

/-- The status that a refusal code gives (R61). -/
def refusalStatus (code : Nat) : Nat :=
  if code = rcHdrCrc ∨ code = rcSectionCrc then stCrc
  else if rcKeyHash ≤ code ∧ code ≤ rcTunSig then stAuth
  else if code = rcBase ∨ code = rcScope then stState
  else stArg

/-! ### Header and table (R50 to R52) -/

/-- IMAGE_LEN. -/
def imgLen (b : List Byte) : Nat := leAt b 0x08 4
/-- PARTIAL. -/
def imgPartial (b : List Byte) : Bool := bitOf (leAt b 0x0F 1) 0
/-- START_UP. -/
def imgStartUp (b : List Byte) : Bool := bitOf (leAt b 0x0F 1) 1
/-- ENCRYPTED. -/
def imgEncrypted (b : List Byte) : Bool := bitOf (leAt b 0x0F 1) 2
/-- SECTION_COUNT. -/
def imgCount (b : List Byte) : Nat := leAt b 0x10 2
/-- CH_MASK. -/
def imgMask (b : List Byte) : Nat := leAt b 0x12 1
/-- SERIAL. -/
def imgSerial (b : List Byte) : Nat := leAt b 0x14 4
/-- BASE_SERIAL. -/
def imgBase (b : List Byte) : Nat := leAt b 0x18 4

/-- The channel of a partial image. -/
def imgChannel (b : List Byte) : Nat := ((maskList (imgMask b) 8).head?).getD 0

/-- One entry of the section table (R51). -/
structure ImgSec where
  typ : Nat
  inst : Nat
  flags : Nat
  zero : Nat
  off : Nat
  len : Nat
  crc : Nat
  /-- the 16 bytes of the entry -/
  raw : List Byte
deriving DecidableEq, Repr

/-- Entry `i` of the section table. -/
def imgSec (b : List Byte) (i : Nat) : ImgSec :=
  let e := takeAt b (64 + 16 * i) 16
  { typ := leAt e 0 1, inst := leAt e 1 1, flags := leAt e 2 1, zero := leAt e 3 1, off := leAt e 4 4, len := leAt e 8 4
    crc := leAt e 12 4, raw := e }

/-- The section table. -/
def imgSecs (b : List Byte) : List ImgSec := (List.range (imgCount b)).map (imgSec b)

/-- The stored bytes of a section. -/
def secBytes (b : List Byte) (s : ImgSec) : List Byte := takeAt b s.off s.len

/-- A channel section's type. -/
def isChSec (t : Nat) : Bool := decide (0x10 ≤ t) && decide (t ≤ 0x16)

/-- INSTANCE agrees with TYPE and with the image's channels (R51, R52, R54). A type that is not in the table is refused
with its records. -/
def secInstOk (part : Bool) (mask : Nat) (s : ImgSec) : Bool :=
  if isChSec s.typ then decide (s.inst < 8) && bitOf mask s.inst
  else !part && (if s.typ = 0x08 then decide (s.inst < 4) else !(decide (1 ≤ s.typ) && decide (s.typ ≤ 6)) || s.inst == 0xFF)

/-- The section table's rules, entry by entry: `last` the (TYPE, INSTANCE) before as one number, `end_` where the next
section may begin (R52). -/
def secsOk (part : Bool) (mask stop : Nat) : Option Nat → Nat → List ImgSec → Bool
  | _, _, [] => true
  | last, end_, s :: rest =>
    (match last with | none => true | some k => decide (k < 256 * s.typ + s.inst)) &&
      s.zero == 0 && decide (s.flags < 2) && s.off % 16 == 0 && s.len % 4 == 0 &&
      decide (end_ ≤ s.off) && decide (s.off + s.len ≤ stop) && !(s.typ == 1 && s.flags == 1) && secInstOk part mask s &&
      secsOk part mask stop (some (256 * s.typ + s.inst)) (s.off + s.len) rest

/-- The rules of R52. -/
def tableOk (b : List Byte) : Bool :=
  let ss := imgSecs b
  secsOk (imgPartial b) (imgMask b) (imgLen b - 128) none (64 + 16 * ss.length) ss &&
    (maskList (imgMask b) 8).all (fun n => ss.any (fun s => s.typ == 0x10 && s.inst == n)) &&
    (imgPartial b || ss.any (fun s => s.typ == 2))

/-- Step 1 of R60, of a header that has arrived: the refusal code, 0 where it passes. -/
def headerCode (dieRev : Nat) (b : List Byte) : Nat :=
  if takeAt b 0 4 ≠ [0x4B, 0x5A, 0x52, 0x4C] ∨ leAt b 4 2 ≠ 1 ∨ leAt b 6 2 ≠ 64 then rcFormat
  else if leAt b 0x0C 2 ≠ 0x9280 ∨ dieRev < leAt b 0x0E 1 then rcPart
  else if 8 ≤ leAt b 0x0F 1 ∨ leAt b 0x13 1 ≠ 0 ∨ imgSerial b = 0 ∨ (!imgPartial b ∧ imgBase b ≠ 0) ∨
      imgCount b = 0 ∨ 128 < imgCount b ∨ (imgPartial b ∧ (maskList (imgMask b) 8).length ≠ 1) then rcFormat
  else 0

/-- Step 2 of R60, of a table that has arrived; `declared` the LENGTH of CFG_BEGIN. -/
def tableCode (declared : Option Nat) (b : List Byte) : Nat :=
  if imgLen b % 16 ≠ 0 ∨ imgLen b < 224 ∨ 1572864 < imgLen b ∨ (declared.isSome ∧ declared ≠ some (imgLen b)) then rcLength
  else if !tableOk b then rcFormat
  else if crc32 (takeAt b 0 0x3C ++ takeAt b 64 (16 * imgCount b)) ≠ leAt b 0x3C 4 then rcHdrCrc
  else 0

/-- Steps 1 and 2 as far as the bytes that have arrived allow: the refusal code, and whether both have passed. -/
def earlyCode (dieRev : Nat) (declared : Option Nat) (b : List Byte) : Nat × Bool :=
  if b.length < 64 then (0, false)
  else
    let c := headerCode dieRev b
    if c ≠ 0 then (c, false)
    else if b.length < 64 + 16 * imgCount b then (0, false)
    else
      let c := tableCode declared b
      (c, c == 0)

/-! ### Records (R53 to R56) -/

/-- Bytes as 32-bit words. -/
def wordsOf (b : List Byte) : List Nat := (List.range (b.length / 4)).map (fun i => leAt b (4 * i) 4)

/-- The record sequence of a section, its END left out; none where a header or the end is malformed (R53). -/
def recordsOf : Nat → List Nat → Option (List (Nat × List Nat))
  | 0, _ => none
  | _ + 1, [] => none
  | fuel + 1, h :: ws =>
    let kind := h % 256
    let len := h / 65536
    if bitsOf h 15 8 ≠ 0 ∨ 3 < kind ∨ ws.length < len then none
    else if kind = 0 then (if len = 0 ∧ ws.all (fun w => w == 0) then some [] else none)
    else (recordsOf fuel (ws.drop len)).map (fun r => (kind, ws.take len) :: r)

/-- FIXED stands first where a type has one, and nowhere else. -/
def fixedPlaced (typ : Nat) (rs : List (Nat × List Nat)) : Bool :=
  if typ = 2 ∨ typ = 0x10 then (rs.head?.map (·.1)) == some 1 && (rs.drop 1).all (fun r => r.1 != 1)
  else rs.all (fun r => r.1 != 1)

/-- The records of a plain section. -/
def secRecords (typ : Nat) (plain : List Byte) : Option (List (Nat × List Nat)) :=
  match recordsOf (plain.length / 4 + 1) (wordsOf plain) with
  | some rs => if fixedPlaced typ rs then some rs else none
  | none => none

/-- The registers that a section type may write by REG records; a channel's as on channel 0 (R54). -/
def mayWrite (typ a : Nat) : Bool :=
  let within := fun (lo hi : Nat) => decide (lo ≤ a) && decide (a < hi)
  let sub := fun (ks : List Nat) => within 0x40100000 0x40110000 && ks.contains (a % 0x10000 / 0x1000)
  match typ with
  | 0x02 => a == R.SYS_TICK_CFG.base || a == R.SYS_WDT.base || a == R.SYS_DIM_CFG.base ||
      within R.SYS_DIM_INIT.base (R.SYS_DIM_INIT.base + 64) || within 0x40008000 0x40010000 ||
      within 0x40040000 0x40050000 || a == R.STEEP_CFG.base || a == R.STEEP_MASK.base || a == R.TUN_CTL.base
  | 0x03 => within 0x40050000 0x40060000
  | 0x04 => within 0x40060000 0x40070000
  | 0x05 => within 0x40070000 0x40080000
  | 0x06 => within 0x40010000 0x40020000
  | 0x10 => sub [0, 1, 2, 10, 15]
  | 0x11 => sub [4, 5, 6]
  | 0x12 => sub [3]
  | 0x13 => sub [12]
  | 0x14 => sub [11]
  | 0x15 => sub [7, 8]
  | 0x16 => sub [9]
  | _ => false

/-- The bank regions that a section type may write by MEM records (R54). -/
def mayFill (typ : Nat) : List Nat :=
  match typ with
  | 0x12 => [0, 1, 3, 5]
  | 0x13 => [4]
  | 0x14 => [6]
  | 0x15 => [6, 7]
  | _ => []

/-- RO fields and reserved bits of an image word are 0 (R53). -/
def zeroBits (r : RegRow) (v : Nat) : Bool :=
  v == (r.fields.filter (fun f => f.acc != .ro)).foldl (fun acc f => acc + placeField f (bitsOf v f.hi f.lo)) 0

/-- A word written with image authority (R53): settings take their new value at once, PSQ starts wait for the restart
(R291), the tick for its boundary, and any other field acts as a write of it would. -/
def Work.imagePut (w : Work) (x : RegW) : Work :=
  if isChanReg x.a then
    if x.b = R.SEQ_CTL.base then (w.seqCtl x.n x.v).1
    else if x.b = R.PSQ_CTL.base then w.setReg x.a x.new
    else if x.b = R.LAMP_DEM.base then
      (w.setReg x.a x.new).modChan x.n (fun c =>
        { c with lamp := { c.lamp with level := tabInsert c.lamp.level x.k (x.new % 65536) } })
    else if boundaryReg x.a && isSetting x.a then w.setReg x.a x.new
    else w.putChan x
  else (w.putWord x).1

/-- One word of a REG or FIXED record (R53, R6). A word where no register stands must be 0. -/
def Work.imageWord (w : Work) (a v : Nat) : Except Nat Work :=
  match rowAt a with
  | none => if v = 0 then .ok w else .error rcRecord
  | some (r, k) =>
    if zeroBits r v && fieldsInRange r v && (r.base != R.LINE_ROLE.base || roleIdxOk v) then .ok (w.imagePut (w.regW r k a v))
    else .error rcRecord

/-- Consecutive words from `a` up. -/
def Work.imageWords (w : Work) : Nat → List Nat → Except Nat Work
  | _, [] => .ok w
  | a, v :: vs =>
    match w.imageWord a v with
    | .ok w => w.imageWords (a + 4) vs
    | .error c => .error c

/-- A REG record; `base` is 0, or the channel's register base (R53). -/
def Work.regRecord (w : Work) (typ base : Nat) (body : List Nat) : Except Nat Work :=
  match body with
  | [] => .error rcRecord
  | a :: vs =>
    let top := a + 4 * vs.length
    if a % 4 ≠ 0 ∨ (base ≠ 0 ∧ 0x10000 < top) ∨
        !(List.range vs.length).all (fun i => mayWrite typ ((if base = 0 then 0 else 0x40100000) + a + 4 * i)) then .error rcRecord
    else w.imageWords (base + a) vs

/-- A MEM record of a channel section (R53): bytes into the bank. Whether its section type may write there is judged with the
bank's regions (R57). -/
def Work.memRecord (w : Work) (n : Nat) (body : List Nat) : Except Nat Work :=
  match body with
  | [] => .error rcRecord
  | off :: vs =>
    if off % 4 ≠ 0 ∨ 0x20000 < off + 4 * vs.length then .error rcRecord
    else .ok (w.pokes (0x01000000 + 0x20000 * n + off) (vs.map (leBytes 4)).flatten)

/-- The plan that an image receives which names none, for LCD or LED drive (R37; log entry 81): SEQ_SLOT words. -/
def defaultPlan (lcd : Bool) : List Nat :=
  let slot := fun (kind dur : Nat) => kind + 16 * dur
  let diag := 3 + 16 * 4000 + 2 ^ 24 * 4 + 2 ^ 27
  if lcd then List.replicate 8 (slot 0 23150) ++ [slot 1 5200, slot 2 5200, diag, slot 5 400]
  else List.replicate 16 (slot 0 11575) ++ [slot 1 5200, diag, slot 5 5600]

/-- The FIXED record of CH_STRUCT (R56). Where PLAN_LEN is 0, the channel receives its default plan (R37). -/
def Work.structFixed (w : Work) (n : Nat) (body : List Nat) : Except Nat Work :=
  let base := 0x40100000 + 0x10000 * n
  let cfg := body.headD 0
  let regions := (body.drop 2).take 8
  if body.length < 90 ∨ body.length ≠ 90 + bitsOf cfg 14 8 ∨ 65536 ≤ body.getD 1 0 ∨
      regions.any (fun r => bitsOf r 15 11 != 0 || bitsOf r 31 28 != 0) then .error rcRecord
  else
    let crc := crc32 (((cfg :: body.drop 10).map (leBytes 4)).flatten)
    let w := w.modChan n (fun c => { c with
      regions := regions.map (fun r => (bitsOf r 10 0, bitsOf r 27 16)), chMw := body.getD 1 0, structCrc := crc })
    let plan := if bitsOf cfg 14 8 = 0 then defaultPlan (cfg % 2 == 0) else body.drop 90
    match w.imageWords (base + 4) [setBits cfg 14 8 plan.length] with
    | .ok w =>
      match w.imageWords (base + 0xD000) ((body.drop 10).take 80) with
      | .ok w => w.imageWords (base + 0x100) plan
      | e => e
    | e => e

/-- The FIXED record of DEVICE (R55). THERMAL_MW above its range is the thermal check's to refuse (R63). -/
def Work.deviceFixed (w : Work) (body : List Nat) : Except Nat Work :=
  let t := body.getD 0 0
  let p := body.getD 1 0
  if body.length ≠ 4 ∨ 2 ^ 25 ≤ t ∨ 2 ^ 28 ≤ p ∨ bitsOf p 15 0 < 1000 ∨ 65536 ≤ body.getD 2 0 ∨ body.getD 3 0 ≠ 0 then
    .error rcRecord
  else w.imageWords R.SYS_TICK_CFG.base [t]

/-- One record of a section applied. -/
def Work.applyRecord (w : Work) (typ inst : Nat) (r : Nat × List Nat) : Except Nat Work :=
  if isChSec typ then
    match r.1 with
    | 1 => w.structFixed inst r.2
    | 2 => w.regRecord typ (0x40100000 + 0x10000 * inst) r.2
    | _ => w.memRecord inst r.2
  else
    match r.1 with
    | 1 => w.deviceFixed r.2
    | 2 => w.regRecord typ 0 r.2
    | _ => .error rcRecord

/-- The records of a section applied in order. -/
def Work.applyRecords (w : Work) (typ inst : Nat) : List (Nat × List Nat) → Except Nat Work
  | [] => .ok w
  | r :: rs =>
    match w.applyRecord typ inst r with
    | .ok w => w.applyRecords typ inst rs
    | e => e

/-- A section that holds records applied; KEYS and TUN hold none (R53, R54). -/
def Work.applySection (w : Work) (s : ImgSec) (plain : List Byte) : Except Nat Work :=
  if s.typ = 1 ∨ s.typ = 8 then .ok w
  else if !(isChSec s.typ || (decide (2 ≤ s.typ) && decide (s.typ ≤ 6))) then .error rcRecord
  else match secRecords s.typ plain with
    | none => .error rcRecord
    | some rs => w.applyRecords s.typ s.inst rs

/-- Sections applied in order, those that `p` picks. -/
def Work.applySections (w : Work) (p : ImgSec → Bool) : List (ImgSec × List Byte) → Except Nat Work
  | [] => .ok w
  | (s, plain) :: rest =>
    if p s then
      match w.applySection s plain with
      | .ok w => w.applySections p rest
      | e => e
    else w.applySections p rest

/-- The sections of a checked image with their plaintext. -/
def imgPlain (img : List Byte × List (Nat × List Byte)) : List (ImgSec × List Byte) :=
  ((List.range (imgCount img.1)).map (fun i => (imgSec img.1 i, (img.2.find? (fun p => p.1 == i)).map (·.2) |>.getD [])))

/-- The FIXED record of an image's DEVICE section. -/
def imgDevice (img : List Byte × List (Nat × List Byte)) : List Nat :=
  match (imgPlain img).find? (fun s => s.1.typ == 2) with
  | some (_, plain) => ((secRecords 2 plain).getD []).headD (1, []) |>.2
  | none => []

/-- CH_EN of a whole image, for the channels it configures (R55). -/
def imgEnabled (img : List Byte × List (Nat × List Byte)) : Nat := bitsOf ((imgDevice img).getD 1 0) 23 16 &&& imgMask img.1

end Sys2Proof.Machine
end

