-- ==== Sys2Proof/Machine/ImageFit.lean ====
section
/-! DEFINITION. How an image is applied to the device and its channels, and the fit checks, which judge the state that
the image would leave (R6, R57, R60 to R63, and the image rules of the other chapters). -/

namespace Sys2Proof.Machine

/-! ### Settings back at their reset values (R54, R71) -/

/-- A register's word with its settings at their reset values, all else as it stands. -/
def settingReset (r : RegRow) (old : Nat) : Nat :=
  r.fields.foldl (fun acc f => acc + placeField f (if setAcc f.acc then f.reset else bitsOf old f.hi f.lo)) 0

/-- The settings of every register that `p` picks, back at their reset values. -/
def Work.clearSettings (w : Work) (p : Nat → Bool) : Work :=
  ((w.regs.map (·.1)).filter p).foldl (fun w a =>
    match rowAt a with
    | some (r, _) => w.setReg a (settingReset r (w.reg a))
    | none => w) w

/-! ### A channel's image applied (R70, R71) -/

/-- The settings that an image sets in a channel: all but its resets (R24). -/
def chanSetting (n a : Nat) : Bool :=
  let base := 0x40100000 + 0x10000 * n
  decide (base ≤ a) && decide (a < base + 0xF000)

/-- The MARK_ELEMs of a channel's policies whose POLICY is MARK (R142). -/
def Work.markElems (w : Work) (n : Nat) : List Nat :=
  (List.range 128).filterMap (fun f =>
    let v := w.reg (R.INTEG_POL.addr n f)
    if bitsOf v 1 0 = 3 then some (bitsOf v 15 6) else none)

/-- The elements of a channel's fields. -/
def Work.allFieldElems (w : Work) (n : Nat) : List Nat :=
  ((List.range 128).filterMap (fun f => (w.fieldDef n f).map (fun fd => w.fieldElems n fd))).flatten

/-- Elements owned by an image (R142). -/
def Work.ownedElems (w : Work) (n : Nat) : List Nat := w.allFieldElems n ++ w.markElems n ++ w.alertElems n

/-- MASH_OWN taken from the tables and policies (R142). -/
def Work.showOwned (w : Work) (n : Nat) : Work :=
  let es := w.ownedElems n
  (List.range 32).foldl (fun w k =>
    w.put F.MASH_OWN_OWNED (listMask ((es.filter (fun e => e / 32 == k)).map (fun e => e % 32))) n k) w

/-- The alerts of a channel: identifier, state, condition. -/
def Work.alertStates (w : Work) (n : Nat) : List (Nat × Nat × Bool) :=
  (List.range (w.alertN n)).map (fun a => ((w.alertDef n a).id, w.alertState n a, w.alertCond n a))

/-- Alerts take over the state of the same identifier; others start in NORMAL (R71). -/
def Work.placeAlerts (w : Work) (n : Nat) (old : List (Nat × Nat × Bool)) : Work :=
  let w := (List.range 16).foldl (fun w k => w.put F.BLINK_ALST_STATES 0 n k) w
  let w := (List.range 8).foldl (fun w k => w.put F.BLINK_ALCOND_COND 0 n k) w
  let w := (List.range (w.alertN n)).foldl (fun w a =>
    match old.find? (fun x => x.1 == (w.alertDef n a).id) with
    | some x => (w.setAlertState n a x.2.1).setAlertCond n a x.2.2
    | none => w) w
  w.showAlerts n

/-- The lamp string under a new image (R252): lamps that stay fitted keep their states, functions of the same FN_ID stay
held off, with the failed UF-16 outputs that the new table still gives to a function, and the switches stand as they stood,
`shown`, until the restart. -/
def Work.placeLamps (w : Work) (n : Nat) (fitted : List Nat) (offs : List (Nat × Nat × Bool))
    (shown : List (List (Nat × Nat))) : Work :=
  let w := w.modStr n (fun s => { s with
    lamps := (List.range 12).map (fun k =>
      let l := s.lamps.getD k Lamp.init
      let kept := { Lamp.init with out := l.out, pulse := l.pulse, retry := l.retry, tripped := l.tripped, inWindow := l.inWindow,
                                   pump := l.pump, pumpAll := l.pumpAll }
      if fitted.contains k ∧ w.fitted n k then { kept with state := l.state, recheck := l.recheck, passes := l.passes } else kept)
    heldOff := offs.filterMap (fun x => (w.fnById n x.1).map (fun f => (f, x.2.1, x.2.2)))
    ufFailed := s.ufFailed.filter (fun u => (w.fnOfUf n u).isSome), clr := [], frozen := some (s.frozen.getD shown) })
  w.showLamps n

/-- The channel's record before its sections are applied: what the image discards (R71, R95). Deliveries stay in the
queue; the one drawn into staging goes back to its head. -/
def Chan.beforeImage (c : Chan) : Chan :=
  { c with
    mash := { Mash.init with
      queue := (match c.mash.drawn with | some d => [d.deliv] | none => []) ++ c.mash.queue, waiting := c.mash.waiting }
    seq := { c.seq with commit := none, todo := [], cur := none }
    cask := { c.cask with held := [], batch := [], compatNext := [] }
    blink := Blink.init
    lamp := { c.lamp with level := [] } }

/-- The bytes of a value record that hold nothing read 0, and so does WRITTEN before the field's start (R138). -/
def Work.clearRecord (w : Work) (a : Nat) : Work :=
  let w := w.wipe (a + 5) (a + 8)
  let w := w.wipe (a + 12) (a + 16)
  if (w.peek (a + 4)).toNat < 2 then w else w.poke (a + 4) (BitVec.ofNat 8 ((w.peek (a + 4)).toNat % 2))

/-- The bytes of the display images that hold nothing read 0 (R138). -/
def Work.clearUnused (w : Work) (n : Nat) : Work :=
  [0, 1].foldl (fun w r =>
    let g := w.region n r
    let w := if g.2 = 0 then w else (w.wipe (g.1 + 0x80) (g.1 + 0x100)).wipe (g.1 + 0x900) (g.1 + g.2)
    ((List.range 128).filter (fun f => decide (0x110 + 16 * f ≤ g.2))).foldl (fun w f => w.clearRecord (g.1 + 0x100 + 16 * f)) w) w

/-- A channel's sections applied (R70 step 3, R71): bank, registers, plan, and what the new image keeps of the old: of the
alerts only where `keep` says so, for a whole image starts them afresh (R180). A partial image that writes no WMARK leaves
the one in force, `mark` (R213), and one for a bank lost in DEEP does not bring its channel back (R412). -/
def Work.applyChannel (w : Work) (n : Nat) (secs : List (ImgSec × List Byte)) (keep : Bool) (mark : Option Nat) : Except Nat Work :=
  let base := 0x01000000 + 0x20000 * n
  let alerts := if keep then w.alertStates n else []
  let fitted := w.fittedLamps n
  let offs := (w.chan n).lamp.heldOff.map (fun x => ((w.fnDef n x.1).id, x.2.1, x.2.2))
  let shown := (List.range 12).map (fun k => w.switchIntervals n k)
  let ring := w.region n 2
  let entries := w.peeks ring.1 ring.2
  let old2 := (w.chan n).regions.getD 2 (0, 0)
  let w := (List.range 4).foldl (fun w e => w.stopEng n e) (w.holdFrames n)
  let w := (w.modChan n (fun c => { c.beforeImage with bankLost := c.bankLost && keep })).clearSettings (chanSetting n)
  let w := match mark with
    | some m => w.put F.CASK_CFG_WMARK m n
    | none => w
  let w := if w.bankFailed (16 + n) then w else w.wipe base (base + 0x20000)
  match w.applySections (fun s => isChSec s.typ && s.inst == n) secs with
  | .error c => .error c
  | .ok w =>
    let new2 := (w.chan n).regions.getD 2 (0, 0)
    let w := if new2 = old2 then w.pokes ring.1 entries
      else ((w.emptyRing n).put F.CASK_STAT_DEPTH (4 * new2.2) n).takeAttention n
    let a := w.region n 0
    let b := w.region n 1
    let w := w.clearUnused n
    let w := (List.range 80).foldl (fun w m => w.putFlag F.INTEG_BASE_LEARNED false n m) w
    let w := w.copyRange a.1 b.1 (Nat.min a.2 b.2)
    let w := ((w.put F.MASH_STAT_FRONT 0 n).showOwned n).showMash n
    let w := w.adoptPlan n (w.shadowPlan n)
    let w := (w.placeAlerts n alerts).placeLamps n fitted offs shown
    .ok ((List.range 4).foldl (fun w e => w.restartEng n e) (w.adoptLoops n))

/-! ### The device's image applied (R54, R69, R189, R315) -/

/-- The input SETs of a protocol image (R320): 16 to 19 for GOOSE, 1 for the IEC 61162 images, 64 and up for NMEA 2000 and
J1939, else 0. -/
def inputSet (proto set : Nat) : Bool :=
  if proto = 7 then decide (16 ≤ set) && decide (set < 20)
  else if proto = 8 ∨ proto = 9 then set == 1
  else if proto = 10 ∨ proto = 12 then decide (64 ≤ set)
  else set == 0

/-- The bytes that a SET of a protocol image has at most (R319, R320). -/
def setSize (proto : Nat) : Nat :=
  if proto = 10 then 223 else if proto = 11 then 64 else if proto = 13 then 244 else 1024

/-- A TUN section's engine (R315): its code in local memory, everything else 0; it starts where TUN_EN is set. A command in
flight from it, the CFG_END of this very image among them, still completes. -/
def Work.applyTun (w : Work) (e : Nat) (sec : Option (List Byte)) : Work :=
  let base := 0x02000000 + 0x40000 * e
  let w := w.wipe base (base + 0x40000)
  let run := fun (w : Work) (b : Bool) => w.put F.TUN_CTL_RUNNING (setBit (w.get F.TUN_CTL_RUNNING) e b)
  match sec with
  | none =>
    let w := w.modTun e (fun t => { TunEng.init with held := t.held, port := t.port })
    ((run w false).put F.TUN_STAT_PROTO 0 0 e).put F.TUN_STAT_STATE 0 0 e
  | some s =>
    let code := (Config.tunCode s).take 0x30000
    let proto := (Config.tunImage s).val + 1
    let sets := ((Config.tunInputs s).filter (fun x => inputSet proto x.1)).map (fun x => (x.1, x.2.take (setSize proto)))
    let w := w.modTun e (fun t =>
      { TunEng.init with held := t.held, port := t.port, code := code, inSets := sets, params := Config.tunParams s })
    let w := (w.pokes base code).put F.TUN_STAT_PROTO proto 0 e
    let go := !(w.tunEng e).held
    (run w go).put F.TUN_STAT_STATE go.toNat 0 e

/-- Every dim group takes its level from SYS_DIM_INIT (R189). -/
def Work.initDim (w : Work) : Work :=
  let w : Work := { w with dim := List.replicate 16 none }
  let w := (List.range 16).foldl (fun w g =>
    let w := w.setReg (R.SYS_DIM_LVL.addr 0 g) (w.get F.SYS_DIM_INIT_INIT 0 g)
    w.setReg (R.SYS_DIM_VER.addr 0 g) 0) w
  w.eachChan (fun w n => (List.range 16).foldl (fun w g => w.showDim n g) w)

/-- The device sections of a whole image applied. Counter sources and the host port's width wait as a write of them would
(R295, R434); the tick waits for its boundary. -/
def Work.applyDevice (w : Work) (secs : List (ImgSec × List Byte)) (tunEn : Nat) : Except Nat Work :=
  let width := w.get F.HOST_CFG_WIDTH
  let before := (List.range 32).map (fun k => w.reg (R.MON_CFG.addr 0 k))
  let w := w.clearSettings (fun a => imageArea a && a != R.SYS_TICK_CFG.base)
  match w.applySections (fun s => !isChSec s.typ) secs with
  | .error c => .error c
  | .ok w =>
    let w := if w.get F.HOST_CFG_WIDTH = width then w
      else { w with host := { w.host with widthPend := some (w.host.widthPend.getD width) } }
    let w : Work := { w with mon := { w.mon with counters := (List.range 32).map (fun k =>
      let c := w.mon.counters.getD k Counter.init
      { c with pend := c.pend || w.reg (R.MON_CFG.addr 0 k) != before.getD k 0 }) } }
    let w := (List.range 4).foldl (fun w e =>
      w.applyTun e (if bitOf tunEn e then (secs.find? (fun s => s.1.typ == 8 && s.1.inst == e)).map (·.2) else none)) w
    .ok w.initDim

/-- A channel that a whole image does not configure: its reset posture, and its ring emptied (R69, R217). -/
def Work.dropChannel (w : Work) (n : Nat) : Work :=
  let ring := w.region n 2
  let w := if ring.2 = 0 then w else w.emptyRing n
  let w := (w.turnCold n).clearChannel n
  let w := w.modChan n (fun c => { Chan.init with inReset := c.inReset, subHeld := c.subHeld, standby := c.standby })
  let w := (w.resetRegs (0x40106000 + 0x10000 * n) (0x40107000 + 0x10000 * n)).resetRegs (0x4010B000 + 0x10000 * n) (0x4010C000 + 0x10000 * n)
  let w := w.wipe (0x01000000 + 0x20000 * n) (0x01020000 + 0x20000 * n)
  if (w.chan n).inReset then w else w.putChState n stReset

/-- The channels of a list applied. -/
def Work.applyChannels (w : Work) (secs : List (ImgSec × List Byte)) : List Nat → Except Nat Work
  | [] => .ok w
  | n :: ns =>
    match w.applyChannel n secs false none with
    | .ok w => w.applyChannels secs ns
    | e => e

/-- What a channel does not keep across a partial activation (R71): its statistics and its sticky flags, but for those of its
wrapper, and of its ring where `kept` says that it keeps it. -/
def Work.forgetStats (w : Work) (n : Nat) (kept : Bool) : Work :=
  let base := 0x40100000 + 0x10000 * n
  let hit := fun (a : Nat) =>
    decide (base ≤ a) && decide (a < base + 0xF000) && !(kept && decide (base + 0x6000 ≤ a) && decide (a < base + 0x7000))
  let drops := w.get F.CASK_DROPS_DROPS n
  let w := (w.wipeStats n).put F.CASK_DROPS_DROPS (if kept then drops else 0) n
  let w := [R.KILN_LEDGER_STAT.addr n 0, R.MASH_SWAPS.addr n 0].foldl (fun w a => w.setReg a 0) w
  ((w.regs.map (·.1)).filter hit).foldl (fun w a =>
    match rowAt a with
    | some (r, _) => w.setReg a (r.fields.foldl (fun acc f => acc + placeField f (if f.acc == .rs then 0 else bitsOf (w.reg a) f.hi f.lo)) 0)
    | none => w) w

/-- The partial shifts that the RESTART of an activation discards show in SHIFT_LOST (R287, R291): `old` is the channel before
it. -/
def Work.lostShifts (w : Work) (n : Nat) (old : Chan) : Work :=
  (List.range 4).foldl (fun w e =>
    match (old.psq.getD e Engine.init).doing with
    | .stallShift _ _ => w.raise F.PSQ_FSTAT_SHIFT_LOST n e
    | _ => w) w

/-- A checked image applied: the whole device, or the channel of a partial image (R69, R70). -/
def Work.applyImage (w : Work) (img : List Byte × List (Nat × List Byte)) : Except Nat Work :=
  let secs := imgPlain img
  if imgPartial img.1 then
    let n := imgChannel img.1
    (w.applyChannel n secs true (some (w.get F.CASK_CFG_WMARK n))).map (fun t =>
      (t.forgetStats n ((t.chan n).regions.getD 2 (0, 0) == (w.chan n).regions.getD 2 (0, 0))).lostShifts n (w.chan n))
  else
    match w.applyDevice secs (bitsOf ((imgDevice img).getD 1 0) 27 24) with
    | .error c => .error c
    | .ok w =>
      let w := ((List.range 8).filter (fun n => !bitOf (imgMask img.1) n)).foldl (fun w n => w.dropChannel n) w
      w.applyChannels secs (maskList (imgMask img.1) 8)

/-! ### Ranges across registers (R6) -/

/-- The settings that a channel's image leaves stand together (R6, R169, R213, R263). -/
def Work.crossOk (w : Work) (n : Nat) : Bool :=
  (!w.flag F.INTEG_CFG_CHAIN_EN n || w.get F.INTEG_CHAIN_CHAIN_HI n != 0) &&
    (List.range 8).all (fun g => blinkGrpOk (w.get R.BLINK_GRP_T n g) (w.get R.BLINK_GRP_C n g)) &&
    (let m := w.get F.CASK_CFG_WMARK n; decide (1 ≤ m) && decide (m ≤ w.ringDepth n)) &&
    decide (w.get F.ENC_ACC_T1_MS n ≤ w.get F.ENC_ACC_T2_MS n) &&
    (List.range 2).all (fun l =>
      let cfg := w.get R.TAP_CFG n l
      let gen := w.get R.TAP_GEN n l
      ((bitOf cfg 1 && !bitOf cfg 0) || tapPairOk cfg gen) &&
        (!w.flag F.TAP_RAW_RAW_EN n l || w.get F.TAP_RAW_RAW_LEN n l != 0))

/-- The settings that the device sections leave stand together (R6, R318, R324). -/
def Work.crossDevOk (w : Work) : Bool :=
  (List.range 64).all (fun k =>
    let a := w.get R.RHL_PUB_A 0 k
    let len := bitsOf a 25 16
    !bitOf a 13 || (decide (1 ≤ len) && decide (len ≤ if bitOf a 12 then 60 else 1020))) &&
    decide (w.get F.NET_PTP_OFS_OFFSET_NS < 1000 * w.get F.NET_PTP_CYC_PERIOD_US) &&
    (List.range 32).all (fun k => monCodeOk (w.get F.MON_CFG_SRC 0 k))

/-! ### Network resources (R316 to R319) -/

/-- The resource of a protocol image: 0 the shared switch, 1 the switch alone, 2 a CAN controller, 3 a UART (R316). -/
def protoClass (p : Nat) : Nat :=
  match p with
  | 2 | 6 => 1
  | 5 | 9 | 13 => 3
  | 10 | 11 | 12 => 2
  | _ => 0

/-- A number lies in a range, the ends included. -/
def within (lo hi x : Nat) : Bool := decide (lo ≤ x) && decide (x ≤ hi)

/-- The powers of two up to 512. -/
def reductions : List Nat := [1, 2, 4, 8, 16, 32, 64, 128, 256, 512]

/-- The limits that the table of protocol images gives as numbers (R319). -/
def tunLimits (p : TunParams) (proto : Nat) : Bool :=
  let area := fun (k : Nat) => decide (p.bytesOut ≤ k) && decide (p.bytesIn ≤ k)
  match proto with
  | 1 => p.sendClockUs == 1000 && reductions.contains p.reduction && area 1024
  | 2 => (p.sync0Us == 0 || within 250 4000 p.sync0Us) && area 1024
  | 3 => within 1 1000 p.rpiMs && area 1024 && decide (p.owners ≤ 1) && decide (p.listeners ≤ 2)
  | 4 => decide (p.connections ≤ 8) && decide (p.holding ≤ 512) && decide (p.inputs ≤ 512)
  | 5 => within 1 247 p.address && within 1200 921600 p.baud
  | 6 => within 250 4000 p.cycleUs && area 1024
  | 7 => decide (p.subscribed ≤ 16) && decide (p.published ≤ 4) && p.resendMs.all (within 2 4000) && p.members.all (within 0 64)
  | 8 => decide (p.rules ≤ 128) && decide (p.talkers.length ≤ 32) && p.talkers.all (within 1 65535)
  | 9 => (p.baud == 4800 || p.baud == 38400) && decide (p.rules ≤ 128) && decide (p.talkers.length ≤ 32)
  | 10 => p.baud == 250000 && decide (p.rules ≤ 64) && p.pgnBytes.all (within 0 223)
  | 11 => within 10000 1000000 p.baud && decide (p.rpdos ≤ 8) && decide (p.tpdos ≤ 8)
  | 12 => (p.baud == 250000 || p.baud == 500000) && decide (p.rules ≤ 64) && p.pgnBytes.all (within 0 1024)
  | _ => (p.baud == 0 || within 9600 12000000 p.baud) && area 244

/-- A TUN section stays within its row of the table (R319). -/
def tunOk (s : List Byte) : Bool := Config.tunListed s && tunLimits (Config.tunParams s) ((Config.tunImage s).val + 1)

/-- What an image takes of the shared switch (R316): a protocol with an EtherType or ports of its own that its row fixes takes
those, here by its number; IEC 61162-450 takes the UDP ports of its transmission groups, numbered from 16. -/
def netPorts (s : List Byte) : List Nat :=
  let p := (Config.tunImage s).val + 1
  if protoClass p ≠ 0 then []
  else if p = 8 then ((Config.tunParams s).udpPorts.eraseDups).map (· + 16)
  else [p]

/-- The TUN sections of an image share the network resources as R316 to R319 let them. -/
def Work.netOk (w : Work) (tuns : List (List Byte)) : Bool :=
  let ps := tuns.map (fun s => (Config.tunImage s).val + 1)
  let units := fun (c : Nat) => (tuns.filter (fun s => protoClass ((Config.tunImage s).val + 1) == c)).map (fun s => (Config.tunUnit s).val)
  let excl := ps.any (fun p => protoClass p == 1)
  decide ((ps.filter (fun p => protoClass p == 1)).length ≤ 1) && !(excl && ps.any (fun p => protoClass p == 0)) &&
    noRepeat (tuns.flatMap netPorts) && noRepeat (units 2) && noRepeat (units 3) &&
    !(excl && (w.flag F.NET_PTP_CFG_EN || (List.range 2).any (fun p => w.get F.NET_PORT_MODE 0 p == 2))) &&
    tuns.all tunOk

/-! ### Bank regions (R57, R138, R262, R282) -/

/-- Two regions of units overlap. -/
def overlaps (a b : Nat × Nat) : Bool := a.2 != 0 && b.2 != 0 && decide (a.1 < b.1 + b.2) && decide (b.1 < a.1 + a.2)

/-- No two ranges of a list overlap. -/
def apart : List (Nat × Nat) → Bool
  | [] => true
  | x :: xs => xs.all (fun y => !overlaps x y) && apart xs

/-- A MEM record lies inside a region its section type may write (R57). -/
def memInRegion (regions : List (Nat × Nat)) (typ off k : Nat) : Bool :=
  (mayFill typ).any (fun r =>
    let g := regions.getD r (0, 0)
    g.2 != 0 && decide (64 * g.1 ≤ off) && decide (off + k ≤ 64 * (g.1 + g.2)))

/-- The bank regions of a channel fit. -/
def Work.bankOk (w : Work) (n : Nat) (secs : List (ImgSec × List Byte)) : Bool :=
  let g := (w.chan n).regions
  let size := fun (r : Nat) => (g.getD r (0, 0)).2
  let p := (w.chan n).seq.act
  let anyField := (List.range 128).any (fun f => (w.fieldDef n f).isSome)
  g.all (fun x => decide (x.1 + x.2 ≤ 2048)) && apart g && size 0 == size 1 && decide (16 ≤ size 2) && decide (size 2 ≤ 1024) &&
    (!(anyField || (!p.coms.isEmpty && !p.segs.isEmpty)) || decide (36 ≤ size 0)) &&
    (!(List.range 2).any (fun l => w.flag F.TAP_CFG_EN n l) || decide (16 ≤ size 7)) &&
    (!(List.range 4).any (fun e => w.get F.PSQ_SHCFG_PRELOAD_N n e != 0) || decide (18 ≤ size 7)) &&
    (secs.filter (fun s => isChSec s.1.typ && s.1.inst == n)).all (fun s =>
      ((secRecords s.1.typ s.2).getD []).all (fun r => r.1 != 3 || memInRegion g s.1.typ (r.2.headD 0) (4 * (r.2.length - 1))))

/-! ### References (R143, R144, R146, R157, R158, R172, R173, R183, R233, R235) -/

/-- The element count that a glyph type fixes, or its range. -/
def countOk (type e : Nat) : Bool :=
  match type with
  | 0 => e == 8
  | 1 => e == 15
  | 2 => e == 17
  | 3 => e == 35
  | 4 => decide (1 ≤ e) && decide (e ≤ 64)
  | 5 => decide (1 ≤ e) && decide (e ≤ 16)
  | _ => false

/-- The used positions of a channel: position, record offset, font. -/
def Work.usedPos (w : Work) (n : Nat) : List (Nat × Nat × Nat) :=
  if (w.region n 5).2 = 0 then []
  else (List.range 256).filterMap (fun p =>
    let d := w.regLe n 5 (4 * p) 4
    if bitsOf d 15 0 = 0xFFFF then none else some (p, bitsOf d 15 0, bitsOf d 19 16))

/-- The fonts of a channel's directory: font and record offset. -/
def Work.usedFonts (w : Work) (n : Nat) : List (Nat × Nat) :=
  if (w.region n 5).2 = 0 then []
  else (upFrom 1 15).filterMap (fun k =>
    let o := w.regLe n 5 (0x400 + 2 * k) 2
    if o = 0xFFFF then none else some (k, o))

/-- Positions, element maps and fonts of region 5 (R128, R143, R144). -/
def Work.glyphsOk (w : Work) (n : Nat) : Bool :=
  let size := (w.region n 5).2
  let ps := w.usedPos n
  let fs := w.usedFonts n
  let maps := (ps.map (fun p => (p.2.1, 2 + 2 * w.regByte n 5 (p.2.1 + 1)))).eraseDups
  let fonts := (fs.map (fun f => (f.2, 4 + 12 * w.regByte n 5 (f.2 + 1)))).eraseDups
  let elems := (ps.map (fun p => match w.posDef n p.1 with | some d => d.elems.filterMap id | none => [])).flatten
  size == 0 ||
    (decide (0x420 ≤ size) &&
      ps.all (fun p =>
        let e := w.regByte n 5 (p.2.1 + 1)
        bitsOf (w.regLe n 5 (4 * p.1) 4) 31 20 == 0 && countOk (w.regByte n 5 p.2.1) e &&
          (p.2.2 == 0 || fs.any (fun f => f.1 == p.2.2 && w.regByte n 5 f.2 == w.regByte n 5 p.2.1))) &&
      fs.all (fun f =>
        let k := w.regByte n 5 (f.2 + 1)
        let codes := (List.range k).map (fun i => w.regByte n 5 (f.2 + 4 + 12 * i))
        decide (w.regByte n 5 f.2 ≤ 5) && decide (1 ≤ k) && decide (k ≤ 128) && noRepeat codes &&
          w.regLe n 5 (f.2 + 2) 2 == 0 && (List.range k).all (fun i => w.regLe n 5 (f.2 + 5 + 12 * i) 3 == 0)) &&
      (maps ++ fonts).all (fun r => decide (0x420 ≤ r.1) && r.1 % 4 == 0 && decide (r.1 + r.2 ≤ size)) &&
      apart fonts && fonts.all (fun f => maps.all (fun m => !overlaps f m)) && elems.all (fun e => decide (e ≤ 1023)) && noRepeat elems)

/-- The elements of every field, each once a field: an element that a field names twice is its own, not another field's
(R146). -/
def Work.fieldElemSets (w : Work) (n : Nat) : List Nat :=
  ((List.range 128).filterMap (fun f => (w.fieldDef n f).map (fun fd => (w.fieldElems n fd).eraseDups))).flatten

/-- The fields of region 3 (R146). In a region shorter than 2,048 bytes a record that does not lie whole in it defines no field
(DESIGN CHOICE, log entry 90). -/
def Work.fieldsOk (w : Work) (n : Nat) : Bool :=
  let defs := (List.range 128).filterMap (fun f => w.fieldDef n f)
  let one := fun (fd : FieldDef) =>
    let ps := (List.range fd.n).map (fun i => w.posDef n (fd.pos0 + i))
    let types := ps.map (fun p => (p.map (·.type)).getD 99)
    decide (1 ≤ fd.n) && decide (fd.n ≤ 16) && ps.all (·.isSome) && fd.units.all (fun e => decide (e ≤ 1023)) &&
      (if fd.bar then fd.n == 1 && types == [4] &&
          (match decodeValue fd.format fd.barFull with | .num a _ => decide (0 < a) | _ => false)
        else decide (-9 ≤ fd.rawExp) && decide (fd.rawExp ≤ 9) && types.all (fun t => t == types.headD 99) &&
          decide (types.headD 99 ≤ 3) && fd.barFull == 0) &&
      decide (fd.sign ≤ 2) && decide (fd.invalid ≤ 2) && decide (fd.init ≤ 2)
  (List.range 128).all (fun f =>
      decide ((w.region n 3).2 < 16 * f + 16) || w.regByte n 3 (16 * f) == 0xFF ||
        ((w.fieldDef n f).isSome && w.regByte n 3 (16 * f + 1) / 64 == 0 && w.regByte n 3 (16 * f + 5) / 16 == 0 &&
          bitsOf (w.regLe n 3 (16 * f + 6) 2) 14 10 == 0 && bitsOf (w.regLe n 3 (16 * f + 8) 2) 14 10 == 0)) &&
    defs.all one && noRepeat (w.fieldElemSets n) &&
    (List.range 128).all (fun f => w.markOk n (w.reg (R.INTEG_POL.addr n f)))

/-- The tables of region 6, its header among them, each with its place and its length (R172, R173, R235). -/
def Work.alertTables (w : Work) (n : Nat) : List (Nat × Nat) :=
  let k := w.regLe n 6 0 2
  let curves := (maskList (w.regLe n 6 4 2) 16).length
  let off := w.lampOff n
  let lampLen := 4 + 16 * w.regByte n 6 off + 2 * w.regLe n 6 (off + 2) 2
  [(0, 16)] ++ (if k = 0 then [] else [(w.regLe n 6 2 2, 8 * k)]) ++
    (if curves = 0 then [] else [(w.regLe n 6 6 2, 68 * curves)]) ++ (if off = 0 then [] else [(off, lampLen)])

/-- The tables of region 6 lie in it, aligned and apart. -/
def Work.tablesLie (w : Work) (n : Nat) : Bool :=
  (w.alertTables n).all (fun t => decide (t.1 + t.2 ≤ (w.region n 6).2) && t.1 % 4 == 0) && apart (w.alertTables n)

/-- The tables of region 6 and the alerts (R172, R173, R235). -/
def Work.alertsOk (w : Work) (n : Nat) : Bool :=
  let size := (w.region n 6).2
  let k := w.regLe n 6 0 2
  let curves := (maskList (w.regLe n 6 4 2) 16).length
  let defs := (List.range (w.alertN n)).map (fun a => w.alertDef n a)
  let elems := w.alertElems n
  let fieldEs := w.allFieldElems n
  size == 0 ||
    (decide (k ≤ 256) && w.regLe n 6 10 6 == 0 && w.tablesLie n &&
      (List.range (w.alertN n)).all (fun a =>
        let o := w.regLe n 6 2 2 + 8 * a
        w.regByte n 6 o / 4 == 0 && w.regByte n 6 (o + 3) / 16 == 0 && w.regLe n 6 (o + 6) 2 == 0) &&
      (List.range curves).all (fun c => w.regLe n 6 (w.regLe n 6 6 2 + 68 * c + 66) 2 == 0) &&
      noRepeat (defs.map (·.id)) && noRepeat elems && elems.all (fun e => !fieldEs.contains e) &&
      defs.all (fun d =>
        d.id != 0 && (!d.icon || (match w.posDef n d.pos with | some p => p.type == 5 | none => false)) &&
          (!d.lamp || decide (d.fn < w.fnN n))))

/-- No curve falls; tables that do not lie as they must are a fault of their own (R172, R183). -/
def Work.curvesOk (w : Work) (n : Nat) : Bool :=
  !w.tablesLie n || (maskList (w.regLe n 6 4 2) 16).all (fun g =>
    let c := w.dimCurve n g
    (List.range 32).all (fun k => decide (c.getD k 0 ≤ c.getD (k + 1) 0)))

/-- The UF-16 member entries of the lamp table, whether or not a function reaches them (R235). -/
def Work.ufEntries (w : Work) (n : Nat) : List Nat :=
  let off := w.lampOff n
  (List.range (w.regLe n 6 (off + 2) 2)).map (fun i => w.regLe n 6 (off + 4 + 16 * w.fnN n + 2 * i) 2)

/-- A UF-16 member entry names a line and a node of the Tap set-up, and on a generic line an output below OUTS (R235, R269). -/
def Work.ufOk (w : Work) (n u : Nat) : Bool :=
  let l := bitsOf u 8 8
  decide (u < 512) && w.flag F.TAP_CFG_EN n l && decide (bitsOf u 7 4 ≤ w.get F.TAP_CFG_N_M1 n l) &&
    (w.get F.TAP_CFG_MODE n l == 0 || decide (bitsOf u 3 0 ≤ w.get F.TAP_GEN_OUTS_M1 n l))

/-- The lamp functions (R233, R235). -/
def Work.fnsOk (w : Work) (n : Nat) : Bool :=
  let fs := (w.fns n).map (·.2)
  let lamps := (fs.map (fun d => maskList d.lamps 12)).flatten
  let ufs := (fs.map (·.ufs)).flatten
  let off := w.lampOff n
  off == 0 ||
    (decide (w.regByte n 6 off ≤ 32) && w.regByte n 6 (off + 1) == 0 && decide (w.regLe n 6 (off + 2) 2 ≤ 512) &&
      fs.all (fun d => d.id != 0 && d.policy != 3 && (maskList d.lamps 12).all (fun k => w.fitted n k)) &&
      noRepeat (fs.map (·.id)) && noRepeat lamps && noRepeat ufs &&
      (List.range (w.fnN n)).all (fun f =>
        let o := off + 4 + 16 * f
        w.regByte n 6 o / 8 == 0 && w.regByte n 6 (o + 1) / 32 == 0 && w.regByte n 6 (o + 2) / 16 == 0 &&
          w.regByte n 6 (o + 3) == 0 && w.regLe n 6 (o + 4) 2 / 4096 == 0 && w.regLe n 6 (o + 14) 2 == 0 &&
          decide (w.regLe n 6 (o + 10) 2 ≤ 256) && decide (w.regLe n 6 (o + 8) 2 + w.regLe n 6 (o + 10) 2 ≤ w.regLe n 6 (off + 2) 2)) &&
      (w.ufEntries n).all (w.ufOk n))

/-- The length of the area that an outbound binding writes into (R158). -/
def Work.outArea (w : Work) (b : Binding) : Nat :=
  match b.kind with
  | 0x11 => (((w.tunEng b.engine).inSets.find? (fun s => s.1 == b.set)).map (fun s => s.2.length)).getD 0
  | 0x12 =>
    (((List.range 64).find? (fun k => w.flag F.RHL_PUB_A_EN 0 k && w.get F.RHL_PUB_A_SET_ID 0 k == b.set)).map
      (fun k => w.get F.RHL_PUB_A_LEN 0 k)).getD 0
  | _ => 1024

/-- The bytes and bits that a binding record fixes at 0 (R157, R158). -/
def Work.bindingZeros (w : Work) (n i : Nat) : Bool :=
  let b := w.binding n i
  w.regByte n 4 (16 * i + 9) == 0 && w.regLe n 4 (16 * i + 14) 2 == 0 && b.enc / 128 == 0 &&
    (b.kind % 16 == 1 || b.engine == 0) && (b.kind % 16 != 3 || b.set == 0) && (decide (b.kind < 16) || b.qual == 0) &&
    ((decide (b.kind < 16) && b.target == 1) || b.count == 0)

/-- A binding names what its image defines (R157, R158). -/
def Work.bindingOk (w : Work) (n : Nat) (b : Binding) : Bool :=
  let inbound := [1, 2, 3].contains b.kind
  (inbound || [0x11, 0x12, 0x13].contains b.kind) && decide (b.engine < 4) && decide (b.offset ≤ 1023) &&
    (if inbound then
      match b.target with
      | 0 => (w.fieldDef n b.index).isSome
      | 1 => decide (1 ≤ b.count) && decide (b.count ≤ 32) && decide (b.index + b.count ≤ 1024) &&
          (List.range b.count).all (fun i => !w.owned n (b.index + i))
      | 2 => decide (b.index < w.alertN n)
      | 3 => decide (b.index < 16)
      | 4 => decide (b.index < w.fnN n)
      | _ => false
    else
      decide (b.offset + b.bytes ≤ w.outArea b) &&
        match b.target with
        | 0 => decide (b.index < 512)
        | 1 => decide (b.index < 2)
        | 2 => decide (b.index < w.alertN n)
        | 3 => (w.fieldDef n b.index).isSome
        | 4 => decide (b.index < w.fnN n)
        | 5 => b.index == 0
        | _ => false)

/-- Every object that a channel's tables name is defined (R62). -/
def Work.refsOk (w : Work) (n : Nat) : Bool :=
  w.glyphsOk n && w.fieldsOk n && w.alertsOk n && w.fnsOk n && (w.bindings n).all (fun b => w.bindingOk n b) &&
    (List.range (w.bindings n).length).all (w.bindingZeros n)

/-- The pin-engine programs, class maps, loops and windows (R271, R273, R289). -/
def Work.enginesOk (w : Work) (n : Nat) : Bool :=
  (List.range 4).all (fun e =>
    let prog := (List.range 64).map (fun i => w.get F.PSQ_IMEM_INSTR n (64 * e + i))
    prog.all psqLegal && classMapOk (w.get R.PSQ_PINCLS n e) (w.get R.PSQ_SHCFG n e) prog &&
      decide (w.get F.PSQ_LOOP_LOOP_HEAD n e ≤ w.get F.PSQ_LOOP_LOOP_TAIL n e) &&
      w.windowOk n (w.get R.PSQ_SHCFG n e) (w.get R.PSQ_WIN n e))

/-! ### The thermal check (R63, R110) -/

/-- The sink budget that counts: an LCD channel's is 0. -/
def Work.sinkMw (w : Work) (n : Nat) : Nat := if (w.chan n).seq.act.isLcd then 0 else w.get F.LED_PWR_CFG_SINK_MW n

/-- The thermal check over the channels that will run, `new` the ones the image configures; `fixed` the DEVICE record. -/
def Work.thermalOk (w : Work) (fixed new run : List Nat) : Bool :=
  let thermal := bitsOf (fixed.getD 1 0) 15 0
  let have_ := (List.range 8).filter (fun n => !(w.chan n).seq.act.slots.isEmpty)
  decide (thermal ≤ 12000) && decide (bitsOf (fixed.getD 2 0) 15 0 + (run.map (fun n => (w.chan n).chMw)).sum ≤ thermal) &&
    new.all (fun n => decide (w.sinkMw n + w.get F.LAMP_GOV_CFG_SW_CAP_MW n + 80 ≤ (w.chan n).chMw)) &&
    decide ((have_.map (fun n => w.get F.LAMP_GOV_CFG_SW_CAP_MW n)).sum ≤ 3000) &&
    decide ((have_.map w.sinkMw).sum ≤ 4800)

/-! ### Steps 8 and 9 of R60 -/

/-- The fit checks, on the state `w` that the image would leave; `img` the image, `whole` the whole image in force or
this one (R62). The code of the first that fails, 0 where all pass. -/
def Work.fitCode (w : Work) (img : List Byte × List (Nat × List Byte)) (whole : List Byte × List (Nat × List Byte)) : Nat :=
  let secs := imgPlain img
  let part := imgPartial img.1
  let chs := maskList (imgMask img.1) 8
  let per := w.nextPeriod
  let src := match w.lock.cfgPend with | some v => bitsOf v 14 12 | none => w.get F.SYS_TICK_CFG_LOCK_SRC
  let plan := fun (n : Nat) => (w.chan n).seq.act
  let run := (List.range 8).filter (fun n =>
    bitOf (imgEnabled whole) n || (part && (chs.contains n || (w.img.partials.getD n none).isSome)))
  if !chs.all (fun n => (plan n).rolesOk) then rcRoles
  else if !chs.all (fun n => (plan n).fits per { w.planEn n with winEnds := [] }) then rcPlan
  else if !part ∧ (!w.lockSrcRuns src ∨ (w.get F.RHL_CFG_PORT_EN ≠ 0 ∧ !w.flag F.RHL_CFG_ROLE ∧ 1 < src)) then rcLock
  else if !chs.all (fun n => w.bankOk n secs) then rcBank
  else if !chs.all (fun n => w.tapsFit n per) then rcTapFit
  else if !w.thermalOk (imgDevice whole) chs run then rcThermal
  else if !chs.all (fun n => w.curvesOk n) then rcRecord
  else if !chs.all (fun n => w.refsOk n) then rcReference
  else if !chs.all (fun n => w.enginesOk n) then rcPsq
  else 0

/-- Steps 8 and 9 of R60: the records applied to a trial, whose state is judged. -/
def Work.trialCode (w : Work) (img : List Byte × List (Nat × List Byte)) : Nat :=
  -- a channel bank that is failed is judged as it will be once it has passed its march (R376)
  let w := w.put F.MEM_FAILED_FAILED (w.get F.MEM_FAILED_FAILED % 2 ^ 16)
  match w.applyImage img with
  | .error c => c
  | .ok t =>
    let chs := maskList (imgMask img.1) 8
    let tuns := ((imgPlain img).filter (fun s => s.1.typ == 8)).map (·.2)
    if !chs.all t.crossOk ∨ (!imgPartial img.1 ∧ (!t.crossDevOk ∨ !t.netOk tuns)) then rcRecord
    else t.fitCode img (if imgPartial img.1 then w.img.whole.getD img else img)

end Sys2Proof.Machine
end

