-- ==== Sys2Proof/Machine/Image.lean ====
section
/-! DEFINITION. Load sessions, the checking of an image, its activation and restart, and the boot flash
(03_kazral_image.md; R17, R21, R96, R399). -/

namespace Sys2Proof.Machine

/-! ### Modes and refusals (R17, R61) -/

/-- A mode change commits (R17, SYS_MODE). -/
def Work.setMode (w : Work) (m mask : Nat) : Work :=
  ((w.put F.SYS_MODE_MODE m).put F.SYS_MODE_TEST_MASK mask).countWrap F.SYS_MODE_MODE_SEQ

/-- The refusal of an image recorded: in LAST_ERR, and as the CODE of an IMAGE entry of the device ring (R61; log entry 83). -/
def Work.recordRefusal (w : Work) (code : Nat) : Work :=
  let (v, w) := w.fresh 32
  (w.put F.SYS_IMG_STAT_LAST_ERR code).entryNow devRing 0x80 code 0 v

/-- An image is refused: its code is recorded, the session ends, and BOOT gives way to RECOVERY (R61). -/
def Work.refuse (w : Work) (code : Nat) : Work :=
  let w := w.recordRefusal code
  let w := w.endSession
  if w.mode = mdBoot then w.setMode mdRecovery 0 else w

/-! ### Steps 3 to 9 of R60 -/

/-- A section's CRC (R51). -/
def secCrcOk (b : List Byte) (s : ImgSec) : Bool := crc32 (secBytes b s) == s.crc

/-- The keys of a KEYS section, unwrapped (R421). -/
def keysOf (b : List Byte) : Option (List (Nat × List Byte)) :=
  let k := leAt b 0 2
  let at_ := fun (i : Nat) => takeAt b (16 + 48 * i) 48
  let ids := (List.range k).map (fun i => leAt (at_ i) 0 1)
  if k = 0 ∨ 4 < k ∨ b.length ≠ 16 + 48 * k ∨ !((takeAt b 2 14).all (· == 0)) ∨
      !((List.range k).all (fun i => (takeAt (at_ i) 1 7).all (· == 0))) ∨
      !(ids.all (fun i => decide (1 ≤ i) && decide (i ≤ 4))) ∨ !noRepeat ids then none
  else (List.range k).mapM (fun i => (Config.unwrapKey (takeAt (at_ i) 8 40)).map (fun x => (leAt (at_ i) 0 1, x)))

/-- Step 5: a KEYS section replaces the key store (R421, R430). -/
def Work.storeKeys (w : Work) (b : List Byte) : Work × Nat :=
  match (imgSecs b).find? (fun s => s.typ == 1) with
  | none => (w, 0)
  | some s =>
    if w.flag F.SEC_STAT_DEBUG_OPEN then (w, rcUnwrap)
    else
      match keysOf (secBytes b s) with
      | none => (w, rcUnwrap)
      | some ks =>
        let changed := fun (id : Nat) => (w.sec.keys.find? (fun k => k.1 == id)) != (ks.find? (fun k => k.1 == id))
        (({ w with
            sec := { w.sec with keys := ks }, fab := { w.fab with rekey := w.fab.rekey || changed 2 }
            pair := if changed 3 then { w.pair with auth := .idle } else w.pair } : Work).showKeys, 0)

/-- A section's plaintext (R58). -/
def Work.plainOf (w : Work) (b : List Byte) (s : ImgSec) : Option (List Byte) :=
  let raw := secBytes b s
  if !bitOf s.flags 0 then some raw
  else if s.len < 28 then none
  else
    match w.key 1 with
    | none => none
    | some k =>
      (Config.gcmOpen k (raw.take 12) s.raw ((raw.drop 12).take (s.len - 28)) (raw.drop (s.len - 16))).map
        (fun p => takeAt p 0 (s.len - 28))

/-- Step 6: the plaintext of every section, or none (R58, R430). -/
def Work.decrypt (w : Work) (b : List Byte) : Option (List (Nat × List Byte)) :=
  if imgEncrypted b ∧ ((w.key 1).isNone ∨ w.flag F.SEC_STAT_DEBUG_OPEN) then none
  else (List.range (imgCount b)).mapM (fun i => (w.plainOf b (imgSec b i)).map (fun p => (i, p)))

/-- Steps 1 to 4: the refusal code of a complete image, 0 where it passes. SCOPE and BASE are judged once the header and
the table have passed. -/
def Work.staticCode (w : Work) (declared : Option Nat) (scope : Option Nat) (b : List Byte) : Nat :=
  let (c, ok) := earlyCode (w.get F.SYS_ID_DIE_REV) declared b
  if c ≠ 0 then c
  else if !ok then (if b.length < 64 ∧ declared.isNone then rcFormat else rcLength)
  else if b.length ≠ imgLen b then rcLength
  else if imgPartial b ≠ scope.isSome ∨ (scope.isSome ∧ scope ≠ some (imgChannel b)) then rcScope
  else if imgPartial b ∧ imgBase b ≠ w.get F.SYS_IMG_SERIAL_SERIAL then rcBase
  else if !((imgSecs b).all (secCrcOk b)) then rcSectionCrc
  else
    let sig := takeAt b (imgLen b - 128) 128
    if Config.sha256 (sig.take 64) ≠ Config.signingKeyHash then rcKeyHash
    else if !Config.ecdsaOk (sig.take 64) (Config.sha256 (b.take (imgLen b - 128))) (sig.drop 64) then rcSignature
    else 0

/-- Every step of R60 on a complete image: the refusal code, or 0 with the plaintext of its sections. Step 5 has written
the key store even where a later step fails (R61). -/
def Work.checkImage (w : Work) (declared : Option Nat) (scope : Option Nat) (b : List Byte) :
    Work × Nat × List (Nat × List Byte) :=
  let c := w.staticCode declared scope b
  if c ≠ 0 then (w, c, [])
  else
    let (w, c) := w.storeKeys b
    if c ≠ 0 then (w, c, [])
    else
      match w.decrypt b with
      | none => (w, rcDecrypt, [])
      | some plain =>
        if !((imgPlain (b, plain)).all (fun s => s.1.typ != 8 || Config.tunSigned s.2)) then (w, rcTunSig, [])
        else (w, w.trialCode (b, plain), plain)

/-! ### The load session (R64 to R67) -/

/-- OWNER of SYS_CFG_SESS; the spec gives the network-boot ROM no code (log entry 5). -/
def Work.ownerCode (w : Work) (o : Origin) : Nat × Work :=
  match o with
  | .host => (0, w)
  | .tun e => (1 + e, w)
  | .fabric _ => (5, w)
  | .net _ => w.fresh 3

/-- A load of this scope is admitted in the present mode (R22). -/
def Work.scopeAdmitted (w : Work) (scope : Nat) : Bool :=
  let m := w.mode
  if m = mdStartUp then decide (scope < 2) else if m = mdOperate then scope == 1
  else (m == mdBoot || m == mdRecovery) && scope == 0

/-- The session changed. -/
def Work.modSess (w : Work) (f : Session → Session) : Work := { w with img := { w.img with sess := w.img.sess.map f } }

/-- STATE of SYS_CFG_SESS: RECEIVING. -/
def csReceiving : Nat := 1
/-- PENDING. -/
def csPending : Nat := 3

/-- The session takes no more bytes: STATE is not RECEIVING. -/
def Work.sessState (w : Work) : Nat := w.get F.SYS_CFG_SESS_STATE

/-- A CFG command of the session's owner: its 2 s begin anew (R66). -/
def Work.renewSess (w : Work) (o : Origin) : Work :=
  let us := w.nowUs
  w.modSess (fun x => if x.owner = o then { x with lastUs := us } else x)

/-- CFG_BEGIN (R64). Where several refusals hold, the status is the first of: TEST mode, an open session, the form of the
payload, SCOPE against the mode, then STORE, LENGTH and STAMP (log entry 80). -/
def cfgBeginOp (w : Work) (o : Origin) (pl : List Byte) : Work × Reply :=
  let w := w.renewSess o
  let length := leAt pl 0 4
  let scope := leAt pl 4 1
  let ch := leAt pl 5 1
  let opts := leAt pl 6 1
  let stamp := leAt pl 8 4
  let d := (stamp + 2 ^ 32 - w.tick32) % 2 ^ 32
  if w.mode = mdTest then w.reply stMode
  else if w.img.sess.isSome then w.reply stState
  else if pl.length ≠ 12 ∨ 1 < scope ∨ (scope = 1 ∧ 7 < ch) ∨ 4 ≤ opts ∨ leAt pl 7 1 ≠ 0 then w.reply stArg
  else if !w.scopeAdmitted scope then w.reply stMode
  else if (bitOf opts 1 ∧ scope = 1) ∨ length % 16 ≠ 0 ∨ 1572864 < length ∨ length < 224 ∨
      (bitOf opts 0 ∧ 4097 ≤ d ∧ d ≤ 2 ^ 31 - 1) then w.reply stArg
  else
    let (owner, w) := w.ownerCode o
    let w := w.setReg (R.SYS_CFG_SESS.addr 0 0) (csReceiving + 4 * owner)
    let w := { w with img := { w.img with sess := some {
      owner := o, length := length, scope := scope, channel := ch, stamp := if bitOf opts 0 then some stamp else none
      late := false, store := bitOf opts 1, staged := [], lastUs := w.nowUs, tableOk := false, plain := [], asked := false, quiesced := 0
      undo := none, endBy := none } } }
    w.reply stOk

/-- The response of CFG_DATA: NEXT_OFFSET (R65). -/
def Work.dataReply (w : Work) (status : Nat) : Work × Reply := w.reply status (leBytes 4 (w.get F.SYS_CFG_SESS_NEXT_OFFSET))

/-- The staged bytes, as NEXT_OFFSET shows them. -/
def Work.stage (w : Work) (b : List Byte) : Work :=
  (w.modSess (fun x => { x with staged := b })).put F.SYS_CFG_SESS_NEXT_OFFSET b.length

/-- New bytes are staged: what they complete is checked (R60 steps 1 to 3, R65). -/
def Work.stageMore (w : Work) (x : Session) (data : List Byte) : Work × Reply :=
  let b := x.staged ++ data
  let (c, ok) := if x.tableOk then (0, true) else earlyCode (w.get F.SYS_ID_DIE_REV) (some x.length) b
  if c ≠ 0 then (w.refuse c).reply (refusalStatus c) (leBytes 4 b.length)
  else
    let w := (w.stage b).modSess (fun x => { x with tableOk := ok })
    let done := if ok then (imgSecs b).filter (fun s =>
        decide (s.off + s.len ≤ b.length) && (!x.tableOk || decide (x.staged.length < s.off + s.len))) else []
    match done.find? (fun s => !secCrcOk b s) with
    | some s => (w.stage (b.take s.off)).dataReply stCrc
    | none => w.dataReply stOk

/-- CFG_DATA (R65, R66). A run that begins below NEXT_OFFSET and goes past it is refused, and nothing of it staged (log
entry 80). -/
def cfgDataOp (w : Work) (o : Origin) (pl : List Byte) : Work × Reply :=
  let w := w.renewSess o
  match w.img.sess with
  | none => if w.mode = mdTest then w.dataReply stMode else w.dataReply stState
  | some x =>
    if w.mode = mdTest then w.dataReply stMode
    else if x.owner ≠ o ∨ w.sessState ≠ csReceiving then w.dataReply stState
    else
      let off := leAt pl 0 4
      let data := pl.drop 4
      let next := x.staged.length
      if !w.scopeAdmitted x.scope then w.dataReply stMode
      else if pl.length < 8 ∨ next < off ∨ x.length < off + data.length then w.dataReply stArg
      else if off = next then w.stageMore x data
      else if takeAt x.staged off data.length = data ∧ off + data.length ≤ next then w.dataReply stOk
      else w.dataReply stArg

/-- CFG_END (R67): the remaining checks, and then the wait for the activation. -/
def cfgEndOp (w : Work) (o : Origin) (pl : List Byte) : Work × Reply :=
  let w := w.renewSess o
  match w.img.sess with
  | none => if w.mode = mdTest then w.reply stMode else w.reply stState
  | some x =>
    if w.mode = mdTest then w.reply stMode
    else if x.owner ≠ o ∨ w.sessState ≠ csReceiving then w.reply stState
    else
      if !w.scopeAdmitted x.scope then w.reply stMode
      else if !pl.isEmpty then w.reply stArg
      else
        let (w, c, plain) := w.checkImage (some x.length) (if x.scope = 1 then some x.channel else none) x.staged
        if c ≠ 0 then (w.refuse c).reply (refusalStatus c)
        else
          let due := match x.stamp with | some s => w.stampDue s | none => none
          let w := w.modSess (fun x => { x with plain := plain, stamp := due, late := x.stamp.isSome && due.isNone, endBy := some o })
          (w.put F.SYS_CFG_SESS_STATE csPending, .waits)

/-- CFG_SESSION_TIMEOUT (R66): 2 s without a CFG command of the owner while RECEIVING. -/
def cfgSessionTimeout (w : Work) : Work :=
  match w.img.sess with
  | some x =>
    if w.sessState = csReceiving ∧ x.lastUs + 2000000 ≤ w.nowUs then (w.endSession).entryOpen 0x80 else w
  | none => w

/-- CFG_SESSION_TIMEOUT. -/
def execCfgSessionTimeout (s : State) : Host.Outcome State Fault Refusal := .next (s.run cfgSessionTimeout)

/-! ### Activation (R69 to R71, R376) -/

/-- The image of the session. -/
def Session.image (x : Session) : List Byte × List (Nat × List Byte) := (x.staged, x.plain)

/-- A wait for a stamp is over at the tick that runs. -/
def Session.due (x : Session) (tick : Nat) : Bool := match x.stamp with | some t => stampReached t tick | none => true

/-- The boundary at which a checked image's channels begin to quiesce (R69, R70). -/
def Work.sessBoundary (w : Work) : Work :=
  match w.img.sess with
  | some x =>
    if w.sessState = csPending ∧ w.mode ≠ mdBoot ∧ !x.asked ∧ x.due w.tick then
      let ns := (if x.scope = 1 then [x.channel] else List.range 8).filter (fun n => (w.chan n).running)
      let w := ns.foldl (fun w n => w.askQuiesce n) w
      w.modSess (fun x => { x with asked := true, quiesced := listMask ns })
    else w
  | none => w

/-- The march over failed banks that an image configures (R376): `bad` the banks 16 to 31 that fail it, from bit 0. None
where one fails. -/
def Work.marchBanks (w : Work) (banks : List Nat) (bad : Nat) : Option Work :=
  let failed := banks.filter w.bankFailed
  if failed.any (fun b => bitOf bad (b - 16)) then none else some (failed.foldl (fun w b => w.restoreBank b) w)

/-- The channel banks and Tun banks that an image configures. -/
def imgBanks (img : List Byte × List (Nat × List Byte)) : List Nat :=
  (maskList (imgMask img.1) 8).map (16 + ·) ++
    ((imgPlain img).filter (fun s => s.1.typ == 8)).flatMap (fun s => [24 + 2 * s.1.inst, 25 + 2 * s.1.inst])

/-- What an activation is about to replace (R68). -/
def Work.snapshot (w : Work) : Undo :=
  { regs := w.regs, ch := w.ch.toList, tun := w.tun.toList, cfgPend := w.lock.cfgPend, dim := w.dim
    counts := w.mon.counters.map (·.pend), width := w.host.widthPend
    bytes := (commitMem w.wr w.mem).filter (fun c =>
      (decide (0x01000000 ≤ c.1) && decide (c.1 < 0x01100000)) || (decide (0x02000000 ≤ c.1) && decide (c.1 < 0x02100000))) }

/-- A whole image is the one in force (R69). `source` as SYS_IMG_STAT codes it. Its settings of the network ports and of PTP
are kept for a release of NET (R396). -/
def Work.adoptWhole (w : Work) (img : List Byte × List (Nat × List Byte)) (source : Nat) : Work :=
  let regs := match w.applyImage img with | .ok t => t.regs | .error _ => w.regs
  let net := regs.filter (fun p => decide (0x40070000 ≤ p.1) && decide (p.1 < 0x40080000))
  let w := { w with img := { w.img with whole := some img, partials := List.replicate 8 none, net := net } }
  let w := (List.range 8).foldl (fun w n => w.put F.SYS_IMG_CHSER_SERIAL 0 0 n) w
  let w := (w.put F.SYS_IMG_SERIAL_SERIAL (imgSerial img.1)).putFlag F.SYS_IMG_STAT_ACTIVE true
  (w.put F.SYS_IMG_STAT_SOURCE source).put F.SYS_IMG_STAT_PARTIAL_MASK 0

/-- The mode that an image's START_UP names. -/
def imgMode (b : List Byte) : Nat := if imgStartUp b then mdStartUp else mdOperate

/-- SOURCE of an image by the session's owner. -/
def sourceOf (o : Origin) : Nat :=
  match o with
  | .host => 1
  | .fabric _ => 5
  | _ => 4

/-- The STORE sequence of an activated image begins (R74); one that still runs is dropped for it (log entry 32). -/
def Work.startStore (w : Work) (x : Session) : Work :=
  if x.store then ({ w with img := { w.img with store := some (.copyFallback, x.staged) } } : Work).putFlag F.SYS_IMG_STAT_FLASH_BUSY true else w

/-- A checked image adopted in BOOT (R69, R393): its channels are brought up in step 12, and the device enters the mode it
names, or START-UP under safe start. -/
def Work.bootAdopt (w : Work) (img : List Byte × List (Nat × List Byte)) (source : Nat) : Except Nat Work :=
  match w.applyImage img with
  | .error c => .error c
  | .ok w =>
    let w := w.adoptWhole img source
    let chs := maskList (imgEnabled img) 8
    let w := w.modRst (fun r => { r with chLeft := chs })
    let w := { w with pwr := { w.pwr with autoRel := w.get F.PWR_STAT_LATCHED != 0 } }
    let w := if chs.isEmpty then w.put F.SYS_REL_STEP 12 else w
    .ok (w.setMode (if w.flag F.SYS_MODE_SAFE_START then mdStartUp else imgMode img.1) 0)

/-- The session's CFG_END completes, and the session is over (R67). -/
def Work.endWith (w : Work) (x : Session) (status : Nat) : Work :=
  let w := w.idleSess
  match x.endBy with
  | some o => w.finish o status
  | none => w

/-- A refusal at the activation: failed banks that fail their march too (R376). -/
def Work.refuseEnd (w : Work) (x : Session) (code : Nat) : Work := (w.refuse code).endWith x (refusalStatus code)

/-- A load whose STAMP named the current tick or a past one counts as late on every channel it configures, when it is applied
(R14, R70). -/
def Work.countLate (w : Work) (x : Session) : Work :=
  if x.late then (maskList (imgMask x.staged) 8).foldl (fun w n => w.ev 0x17 n) w else w

/-- The channels that an activation brings up restart at the next boundary; what a whole image leaves out stands in reset
posture (R69, R70). -/
def Work.restartAll (w : Work) (chs run : List Nat) : Work :=
  chs.foldl (fun w n =>
    if run.contains n then
      let w := w.modChan n (fun c => { c with restart := some .image, rewrite := 0 })
      if (w.chan n).inReset then w.modChan n (fun c => { c with rewrite := 1 }) else w
    else if (w.chan n).inReset then w
    else (((w.turnCold n).stringOff n).modChan n (fun c => { c with restart := none, rewrite := 0, running := false })).putChState n stReset) w

/-- IMAGE_ACTIVATE (R69): the boundary at which a checked whole image is adopted, in BOOT once the release order has completed
step 11 (R392). `bad`: failed banks that fail their march. -/
def imageActivate (w : Work) (bad : Nat) : Work :=
  match w.img.sess with
  | none => w
  | some x =>
    let img := x.image
    if x.scope = 1 ∨ w.sessState ≠ csPending ∨ x.undo.isSome ∨ !x.due w.tick then w
    else if w.mode = mdBoot ∧ w.relStep < 11 then w
    else if w.mode ≠ mdBoot ∧ (!x.asked ∨ !(List.range 8).all w.atRest) then w
    else
      match w.marchBanks (imgBanks img) bad with
      | none => w.refuseEnd x rcBank
      | some w =>
        if w.mode = mdBoot then
          match w.bootAdopt img (sourceOf x.owner) with
          | .ok w => ((w.countLate x).startStore x).endWith x stOk
          | .error c => w.refuseEnd x c
        else
          let u := w.snapshot
          match w.applyImage img with
          | .error c => w.refuseEnd x c
          | .ok w =>
            let w := (w.countLate x).restartAll (List.range 8) (maskList (imgEnabled img) 8)
            (w.modSess (fun x => { x with undo := some u })).modRst (fun r => { r with enter := some (imgMode img.1) })

/-- IMAGE_ACTIVATE. -/
def execImageActivate (bad : Nat) (s : State) : Host.Outcome State Fault Refusal :=
  .next (s.run (fun w => imageActivate w bad))

/-- PARTIAL_IMAGE_ACTIVATE (R70): the channel of a checked partial image is quiesced, and its records are applied. One that
no longer fits the tick in force, which may have changed since its check, is refused whole (R28). -/
def partialImageActivate (w : Work) (bad : Nat) : Work :=
  match w.img.sess with
  | none => w
  | some x =>
    let n := x.channel
    if x.scope ≠ 1 ∨ w.sessState ≠ csPending ∨ x.undo.isSome ∨ !x.asked ∨ !w.atRest n then w
    else
      match w.marchBanks [16 + n] bad with
      | none => w.refuseEnd x rcBank
      | some w =>
        let c := w.trialCode x.image
        if c ≠ 0 then w.refuseEnd x c
        else
        let u := w.snapshot
        match w.applyImage x.image with
        | .error c => w.refuseEnd x c
        | .ok w => ((w.countLate x).restartAll [n] [n]).modSess (fun x => { x with undo := some u })

/-- PARTIAL_IMAGE_ACTIVATE. -/
def execPartialImageActivate (bad : Nat) (s : State) : Host.Outcome State Fault Refusal :=
  .next (s.run (fun w => partialImageActivate w bad))

/-! ### The restart boundary (R69, R70, R96, R112, R156, R205, R291) -/

/-- The image that channel `n` runs from, and whether that brings it up: its partial image, or the whole one. -/
def Work.imageOf (w : Work) (n : Nat) : Option (List Byte × List (Nat × List Byte)) :=
  match w.img.partials.getD n none with
  | some p => some p
  | none =>
    match w.img.whole with
    | some img => if bitOf (imgEnabled img) n then some img else none
    | none => none

/-- A channel of which nothing may restart: its bank is failed (R376). -/
def Work.bankBars (w : Work) (n : Nat) : Bool := w.bankFailed (16 + n)

/-- CHANNEL_RESTART after an image activation. The engines whose RUN the image sets start in the cycle of this boundary, as those
do that wait for it (R276, R285, R291). -/
def Work.restartImage (w : Work) (n : Nat) : Work :=
  let w := ((w.integAfresh n).gristAfresh n).encAfresh n 0
  let w := ((w.encAfresh n 1).ledAfresh n).tapAfresh n
  let w := (w.setSwGain n 65536).modStr n (fun s => { s with est := [], prevAvg := 0, tickEst := none, fastNow := false, decide := false })
  let w := w.restartPlain n
  let w := (List.range 128).foldl (fun w f => if (w.fieldDef n f).isSome then w.startField n f else w) w
  let w := (w.preloadAll n).psqRun n (w.get F.PSQ_CTL_RUN n) 15
  (w.putFlag F.SEQ_CTL_RUN true n).modChan n (fun c => { c with rewrite := 0 })

/-- The image values that are due at a boundary on a channel that was released, or on its sub-blocks (R398, R399). -/
def Work.rewriteImage (w : Work) (n : Nat) : Work :=
  let mask := (w.chan n).rewrite
  if mask < 4 ∧ !bitOf mask 0 then w
  else
    let w := w.modChan n (fun c => { c with rewrite := bitsOf mask 1 1 * 2 })
    match w.imageOf n with
    | none => if bitOf mask 0 then (w.turnCold n).modChan n (fun c => { c with restart := none }) else w
    | some img =>
      match w.applyChannel n (imgPlain img) true none with
      | .error _ => w
      | .ok t =>
        if bitOf mask 0 then t.modChan n (fun c => { c with restart := some .image })
        else
          let w := (upFrom 2 9).foldl (fun w b =>
            if bitOf mask b then (let lo := 0x40100000 + 0x10000 * n + 0x1000 * subBlock b
              w.takeSets t.regs (fun a => decide (lo ≤ a) && decide (a < lo + 0x1000))) else w) w
          let w := if bitOf mask 7 then ((w.adoptLoops n).preloadAll n).psqRun n (w.get F.PSQ_CTL_RUN n) 15 else w
          if bitOf mask 9 then w.showOwned n else w

/-! ### Entering OPERATE (R21) -/

/-- The images in force applied to a trial: the whole one, then the partial ones. -/
def Work.imageTrial (w : Work) : Option Work :=
  match w.img.whole with
  | none => none
  | some img =>
    match w.applyImage img with
    | .error _ => none
    | .ok t => some ((List.range 8).foldl (fun t n =>
        match w.img.partials.getD n none with
        | some p => (match t.applyChannel n (imgPlain p) true none with | .ok t => t | .error _ => t)
        | none => t) t)

/-- The image's value of SEQ_CTL on a channel (R21; log entry 77): no commit waits, and RUN is set where the image in force
brings the channel up; a channel that it does not, and that runs, quiesces. The image's plan is in force from this
boundary on. -/
def Work.restoreSeq (w : Work) (n : Nat) : Work :=
  let up := (w.imageOf n).isSome
  let w := (w.modChan n (fun c => { c with seq := { c.seq with commit := none } })).putFlag F.SEQ_CTL_COMMIT false n
  let w := (w.putFlag F.SEQ_CTL_RUN up n)
  let w := if !up ∧ (w.chan n).running then w.askQuiesce n else w
  if (w.chan n).seq.act.slots.isEmpty then w
  else
    let w := w.adoptPlan n (w.shadowPlan n)
    w.modChan n (fun c => { c with seq := { c.seq with
      todo := if c.seq.started = 0 ∧ !c.seq.todo.isEmpty then c.seq.act.slotRuns else c.seq.todo } })

/-- R21: every RWX field takes its value from the image, what waits for a boundary included; the tick period and the image's
plans are in force, and engines run as it sets RUN. -/
def Work.restoreRwx (w : Work) : Work :=
  match w.imageTrial with
  | none => w
  | some t =>
    let keep := fun (a : Nat) => isChanReg a && decide (foldChannel a = R.SEQ_CTL.base)
    let psq := (List.range 8).map (fun n => w.get F.PSQ_CTL_RUN n)
    let loops := (List.range 8).map (fun n => (List.range 4).map (fun e => w.loopPair n e))
    let w := ((w.regs ++ t.regs).map (·.1)).foldl (fun w a =>
      match rowAt a with
      | some (r, _) =>
        if !keep a && r.fields.any (fun f => f.acc == .rwx) then w.setReg a (mergeAcc (· == .rwx) r (w.reg a) (t.reg a)) else w
      | none => w) w
    let merge := fun (a v : Nat) => match rowAt a with | some (r, _) => mergeAcc (· == .rwx) r v (t.reg a) | none => v
    let w := if t.lock.cfgPend.isSome then ({ w with lock := { w.lock with cfgPend := t.lock.cfgPend } } : Work).adoptTickCfg else w
    w.eachChan (fun w n =>
      let w := w.modMash n (fun m => { m with
        older := m.older.map (fun p => (p.1, merge p.1 p.2))
        changes := m.changes.map (fun c => match c.what with | .reg a v => { c with what := .reg a (merge a v) } | _ => c) })
      let run := w.get F.PSQ_CTL_RUN n
      let w := if run = psq.getD n 0 then w else w.psqRun n run 0
      let w := (List.range 4).foldl (fun w e => if w.loopPair n e = (loops.getD n []).getD e 0 then w else w.loopWritten n e) w
      -- a change of TICK_SYNC shows in FROZEN (R289)
      let w := (List.range 4).foldl (fun w e => w.showEng n e) w
      w.restoreSeq n)

/-- The activation boundary of a session whose records have been applied (R67 to R70). A mode that the device has left for
another since does not come back: R17 has no transition for it. Where the image names OPERATE, every RWX field takes its
value from it (R21). -/
def Work.sessCommit (w : Work) : Work :=
  match w.img.sess with
  | none => w
  | some x =>
    if x.undo.isNone then w
    else if x.scope = 1 then
      let n := x.channel
      let w := { w with img := { w.img with partials := w.img.partials.set n (some x.image) } }
      let w := w.put F.SYS_IMG_CHSER_SERIAL (imgSerial x.staged) 0 n
      (w.put F.SYS_IMG_STAT_PARTIAL_MASK (setBit (w.get F.SYS_IMG_STAT_PARTIAL_MASK) n true)).endWith x stOk
    else
      let w := w.adoptWhole x.image (sourceOf x.owner)
      let w := match w.rst.enter with
        | some m =>
          let w := w.modRst (fun r => { r with enter := none })
          if w.mode = mdStartUp ∨ w.mode = mdRecovery then (if m = mdOperate then w.restoreRwx else w).setMode m 0 else w
        | none => w
      (w.startStore x).endWith x stOk

/-! ### The boot flash (R73, R74) -/

/-- The image that a flash copy begins with. -/
def flashImage (b : List Byte) : List Byte := b.take (imgLen b)

/-- The free outcome of the marches that BOOT_FLASH_LOAD runs over failed banks. -/
def Work.marchOpen (w : Work) (banks : List Nat) : Option Work :=
  if banks.any w.bankFailed then
    let (bad, w) := w.fresh 16
    w.marchBanks banks bad
  else some w

/-- One copy of the boot flash checked and, where it passes, adopted: the refusal code, 0 where it is in force. -/
def Work.bootCopy (w : Work) (b : List Byte) (source : Nat) : Work × Nat :=
  let (w, c, plain) := w.checkImage none none b
  if c ≠ 0 then (w, c)
  else
    match w.marchOpen (imgBanks (b, plain)) with
    | none => (w, rcBank)
    | some w =>
      match w.bootAdopt (b, plain) source with
      | .ok w => (w, 0)
      | .error c => (w, c)

/-- BOOT_FLASH_LOAD (R73). -/
def bootFlashLoad (w : Work) : Work :=
  if w.mode ≠ mdBoot ∨ w.relStep < 11 ∨ w.get F.SYS_BOOTSEL_SRC ≠ 1 ∨ w.img.sess.isSome then w
  else
    let (w, c) := w.bootCopy (flashImage w.img.primary) 2
    if c = 0 then w
    else
      let w := (w.recordRefusal c).raise F.SYS_IMG_STAT_PRIMARY_BAD
      let (w, d) := w.bootCopy (flashImage w.img.fallback) 3
      if d = 0 then w else ((w.refuse d).put F.SYS_IMG_STAT_LAST_ERR c)

/-- BOOT_FLASH_LOAD. -/
def execBootFlashLoad (s : State) : Host.Outcome State Fault Refusal := .next (s.run bootFlashLoad)

/-- The STORE sequence stops with FLASH_FAIL set (R74). -/
def Work.storeFail (w : Work) : Work :=
  let w := { w with img := { w.img with store := none } }
  ((w.raise F.SYS_IMG_STAT_FLASH_FAIL).putFlag F.SYS_IMG_STAT_FLASH_BUSY false).entryOpen 0x80

/-- FLASH_STORE (R74): the primary is copied to the fallback where that is due; `good` its readback. -/
def flashStore (w : Work) (good : Bool) : Work :=
  match w.img.store with
  | some (.copyFallback, b) =>
    let p := flashImage w.img.primary
    let copy := w.staticCode none none p = 0 ∧ flashImage w.img.fallback ≠ p
    if !copy then { w with img := { w.img with store := some (.writePrimary, b) } }
    else if good then { w with img := { w.img with store := some (.writePrimary, b), fallback := p } }
    else ({ w with img := { w.img with fallback := Config.flashResidue w.free }, free := w.free + 1 } : Work).storeFail
  | _ => w

/-- FLASH_STORE. -/
def execFlashStore (good : Bool) (s : State) : Host.Outcome State Fault Refusal := .next (s.run (fun w => flashStore w good))

/-- FLASH_STORE_END (R74): the primary is programmed with the image of the load that asked for it; `good` its readback. -/
def flashStoreEnd (w : Work) (good : Bool) : Work :=
  match w.img.store with
  | some (.writePrimary, b) =>
    if good then
      let w := { w with img := { w.img with store := none, primary := b } }
      (w.putFlag F.SYS_IMG_STAT_FLASH_BUSY false).entryOpen 0x80
    else ({ w with img := { w.img with primary := Config.flashResidue w.free }, free := w.free + 1 } : Work).storeFail
  | _ => w

/-- FLASH_STORE_END. -/
def execFlashStoreEnd (good : Bool) (s : State) : Host.Outcome State Fault Refusal :=
  .next (s.run (fun w => flashStoreEnd w good))

end Sys2Proof.Machine
end

