-- ==== Sys2Proof/Machine/Mode.lean ====
section
/-! DEFINITION. Device modes (R17 to R21, R423 to R426), and the steps of erase-then-open (R428, R429). -/

namespace Sys2Proof.Machine

/-- The transitions that MODE may name (R17): present mode and target. -/
def modeTable : List (Nat × Nat) :=
  [(mdStartUp, mdOperate), (mdStartUp, mdTest), (mdOperate, mdTest), (mdOperate, mdRecovery), (mdTest, mdOperate),
    (mdRecovery, mdOperate)]

/-- The transition is in the table; from RECOVERY the image must be intact: SYS_IMG_STAT shows one in force (R17; log
entry 77). -/
def Work.modeAllowed (w : Work) (target : Nat) : Bool :=
  modeTable.contains (w.mode, target) && (w.mode != mdRecovery || w.flag F.SYS_IMG_STAT_ACTIVE)

/-- The paired channels of a mask that may not stand in the test mask: those this device does not drive, and those that the
partner reports READY (R426). -/
def Work.testBarred (w : Work) (mask : Nat) : Bool :=
  (maskList mask 8).any (fun n => w.paired n && (!bitOf w.activeMask n || (w.pairUp && bitOf w.pair.partner.ready n)))

/-- The channels that a transition quiesces (R17). -/
def Work.modeQuiesce (w : Work) (target mask : Nat) : List Nat :=
  (List.range 8).filter (fun n => (w.chan n).running && (target == mdRecovery || (target == mdTest && bitOf mask n)))

/-- MODE (R17, R18, R304, R423 to R426). -/
def modeOp (w : Work) (o : Origin) (pl : List Byte) : Work × Reply :=
  let target := leAt pl 0 1
  let mask := leAt pl 1 1
  let resp := pl.drop 4
  let needs := decide (target = mdTest) || decide (target = mdRecovery)
  if pl.length < 4 ∨ leAt pl 2 2 ≠ 0 ∨ (pl.length ≠ 4 ∧ pl.length ≠ 36) then w.reply stArg
  else if w.modeReq.isSome ∨ !w.modeAllowed target then w.reply stState
  else if !needs ∧ !resp.isEmpty then w.reply stArg
  else if target = mdTest ∧ w.testBarred mask then w.reply stState
  else
    let (w, ok) := if needs then w.checkChallenge target mask resp else (w, true)
    if !ok then w.reply stAuth
    else
      let ns := w.modeQuiesce target mask
      let w := ns.foldl (fun w n => w.askQuiesce n) w
      let w := { w with modeReq := some ⟨o, target, if target = mdTest then mask else 0, listMask ns, false⟩ }
      (w.putFlag F.SYS_MODE_PENDING true, .waits)

/-- Every channel that is not held stands in reset posture, its Kiln cold and its string dark (R17, R95, R251). -/
def Work.allToReset (w : Work) : Work :=
  w.eachChan (fun w n => if (w.chan n).inReset then w else ((w.turnCold n).stringOff n).putChState n stReset)

/-- The channels that the image brings up and that stand still restart at the next boundary; one that a Kiln fault stopped
needs its own start (R17, R84). -/
def Work.restartRest (w : Work) : Work :=
  w.eachChan (fun w n =>
    let c := w.chan n
    if (w.imageOf n).isSome ∧ (!c.running ∨ c.kiln.quiesce ≠ .none) ∧ !c.inReset ∧ !c.kiln.faulted ∧ !w.bankFailed (16 + n) then
      (w.modChan n (fun c => { c with restart := some (c.restart.getD .plain) })).putFlag F.SEQ_CTL_RUN true n
    else w)

/-- Entry to a mode at its commit boundary (R17, R21, R95, R426). A channel of the test mask that stands in reset posture or
on standby keeps its state (log entry 77). -/
def Work.enterMode (w : Work) (target mask : Nat) : Work :=
  let w := w.setMode target mask
  if target = mdTest then
    (maskList mask 8).foldl (fun w n => if w.chState n = stQuiesced ∨ w.chState n = stRunning then w.putChState n stTest else w) w
  else if target = mdRecovery then w.allToReset
  else
    let w := w.eachChan (fun w n => if w.chState n = stTest then w.putChState n (if (w.chan n).running then stRunning else stQuiesced) else w)
    w.restoreRwx.restartRest

/-- MODE_COMMIT (R18): at a boundary after the admission, with every channel it quiesces at rest. A transition that the
table no longer holds, the mode having changed since, changes nothing (R17). -/
def modeCommit (w : Work) : Work :=
  match w.modeReq with
  | none => w
  | some r =>
    if !r.ready ∨ !(maskList r.quiesce 8).all w.atRest then w
    else
      let w := ({ w with modeReq := none } : Work).putFlag F.SYS_MODE_PENDING false
      if w.modeAllowed r.target then (w.enterMode r.target r.mask).finish r.origin stOk
      else w.finish r.origin stState

/-- MODE_COMMIT. -/
def execModeCommit (s : State) : Host.Outcome State Fault Refusal := .next (s.run modeCommit)

/-! ### Erase, then open (R428, R429) -/

/-- Step 3: every bank from 0 to 31 is erased, and with them the rings and what waits in them. -/
def Work.eraseBanks (w : Work) : Work :=
  let w := ((w.wipe 0 0x00200000).wipe 0x01000000 0x01100000).wipe 0x02000000 0x02100000
  (List.range 9).foldl (fun w r =>
    (((w.setRingCount r 0).setRingOldest r 0).setRingNext r 0).setRing r Ring.init |>.takeAttention r) w

/-- Step 4: the loaded image is erased. -/
def Work.eraseImage (w : Work) : Work :=
  let w := { w.endSession with img := { w.endSession.img with whole := none, partials := List.replicate 8 none } }
  let w := (w.eachChan (fun w n => w.dropChannel n)).clearSettings (fun a => imageArea a && a != R.SYS_TICK_CFG.base)
  let w := { w with lock := { w.lock with cfgPend := some (resetWord R.SYS_TICK_CFG.base) } }
  let w := (List.range 4).foldl (fun w e => w.applyTun e none) w
  let w := (List.range 8).foldl (fun w n => w.put F.SYS_IMG_CHSER_SERIAL 0 0 n) w
  let w := (w.put F.SYS_IMG_SERIAL_SERIAL 0).putFlag F.SYS_IMG_STAT_ACTIVE false
  ((w.put F.SYS_IMG_STAT_SOURCE 0).put F.SYS_IMG_STAT_PARTIAL_MASK 0).initDim

/-- Step 5: the device is in RECOVERY and the port opens. -/
def Work.openPort (w : Work) : Work :=
  let w := w.raise F.SEC_FLAGS_SECRETS_ERASED
  let w := if w.mode = mdRecovery then w else (w.setMode mdRecovery 0).allToReset
  let w := w.secEntry seOpened w.fails
  let w := { w with sec := { w.sec with erase := .none } }
  (w.putFlag F.SEC_STAT_ERASING false).putFlag F.SEC_STAT_DEBUG_OPEN true

/-- What a step of the sequence does. -/
def Work.eraseAction (w : Work) (n : Nat) : Work :=
  match n with
  | 1 => ({ w with sec := { w.sec with keys := [] }, pair := { w.pair with auth := .idle } } : Work).showKeys
  | 2 => w.wipe 0x03000000 0x03002000
  | 3 => w.eraseBanks
  | 4 => w.eraseImage
  | _ => w

/-- ERASE_STEP (R428, R429): the running step completes; `good` its readback. Step 0 is over when no channel runs. -/
def eraseStep (w : Work) (good : Bool) : Work :=
  match w.sec.erase with
  | .none => w
  | .step 0 _ =>
    if (List.range 8).all w.atRest then { w with sec := { w.sec with erase := .step 1 false } } else w
  | .step n again =>
    if w.relStep < 8 then w
    else if n = 5 then w.openPort
    else
      let w := w.eraseAction n
      if good then { w with sec := { w.sec with erase := .step (n + 1) false } }
      else if !again then { w with sec := { w.sec with erase := .step n true } }
      else
        let w := { w with sec := { w.sec with erase := .none } }
        ((w.raise F.SEC_FLAGS_SECRETS_ERASED).putFlag F.SEC_STAT_ERASING false).deviceReset 9

/-- ERASE_STEP. -/
def execEraseStep (good : Bool) (s : State) : Host.Outcome State Fault Refusal := .next (s.run (fun w => eraseStep w good))

end Sys2Proof.Machine
end

