-- ==== Sys2Proof/Machine/Power.lean ====
section
/-! DEFINITION. Power states: the POWER command, wake sources, entry and exit, the regulator, and latched pads
(20_power_states.md, R404 to R419). -/

namespace Sys2Proof.Machine

/-- The power controller changed. -/
def Work.modPwr (w : Work) (f : Pwr → Pwr) : Work := { w with pwr := f w.pwr }

/-- The power state: 0 RUN, 1 IDLE, 2 SLEEP, 3 DEEP, 4 OFF. -/
def Work.pwrState (w : Work) : Nat := w.get F.PWR_STAT_STATE

/-- The wake sources that a state allows, as a mask (R407). -/
def wakesOf (state : Nat) : Nat :=
  match state with
  | 1 => 0x1E4
  | 2 => 0x07F
  | 3 => 0x060
  | _ => 0x020

/-- A POWER entry of the device ring: 1 WAKE, 2 CANCELLED, 4 ALERT (R406, R418). -/
def Work.powerEntry (w : Work) (code value : Nat) : Work := w.entryNow devRing 0x82 code 0 value

/-- A transaction of the PMBus master: the register written (R416, R418). -/
def Work.pmbWrite (w : Work) (reg value : Nat) : Work :=
  w.send ⟨5, w.get F.PWR_CFG_PMB_ADDR, reg, (w.get F.PWR_CFG_PEC_EN), leBytes 2 value⟩

/-- A voltage in mV as the regulator takes it: a whole multiple of the power of two that VOUT_MODE gives (R416). -/
def Work.voutWord (w : Work) (mv : Nat) : Nat :=
  let e := signed 5 (w.rst.voutMode % 32)
  (if e < 0 then roundOpen (mv * 2 ^ (-e).toNat : Nat) 1000 else roundOpen mv (1000 * 2 ^ e.toNat)).toNat % 65536

/-- VOUT_COMMAND. -/
def pmVout : Nat := 0x21
/-- OPERATION. -/
def pmOperation : Nat := 0x01

/-! ### The command (R405) -/

/-- POWER (R405). Its channels quiesce for SLEEP, DEEP and OFF. -/
def powerOp (w : Work) (o : Origin) (pl : List Byte) : Work × Reply :=
  let st := leAt pl 0 1
  let mask := leAt pl 2 2
  let ms := leAt pl 8 4
  if pl.length ≠ 12 ∨ leAt pl 1 1 ≠ 0 ∨ st < 1 ∨ 4 < st ∨ mask = 0 ∨ mask &&& wakesOf st ≠ mask ∨
      (bitOf mask 6 ∧ ms = 0) then w.reply stArg
  else if (3 ≤ st ∧ !w.flag F.PWR_CFG_PMB_EN) ∨ w.img.sess.isSome ∨ w.flag F.SYS_IMG_STAT_FLASH_BUSY ∨ w.pwr.cmd.isSome ∨
      (w.pairUp ∧ (maskList (w.activeMask &&& w.pairMask) 8).any (fun n => bitOf w.pair.partner.ready n)) then w.reply stState
  else
    let ns := if st = 1 then [] else (List.range 8).filter (fun n => (w.chan n).running)
    let w := ns.foldl (fun w n => w.askQuiesce n) w
    let w := (w.put F.PWR_WAKE_PEND_PEND 0).putFlag F.PWR_STAT_ENTERING true
    let w := w.modPwr (fun p => { Pwr.init with
      cmd := some ⟨o, st, mask, leAt pl 4 4, ms⟩, quiesced := listMask ns, release := p.release, autoRel := p.autoRel, pads := p.pads
      downAt := p.downAt })
    (w, .waits)

/-- The response of POWER (R406). -/
def Work.powerReply (w : Work) (cancelled : Bool) (ms : Nat) : List Byte :=
  let (code, ch, port) := w.pwr.source.getD (0, 0, 0)
  leBytes 1 cancelled.toNat ++ leBytes 1 code ++ leBytes 1 (ch % 8 + 16 * (port % 4)) ++ leBytes 1 0 ++ leBytes 4 ms

/-- The wake is recorded (R406, R410, WAKE_REC): the state `st` left, and the time in it. -/
def Work.wakeRecord (w : Work) (st : Nat) (cancelled : Bool) (ms : Nat) : Work :=
  let (code, ch, port) := w.pwr.source.getD (0, 0, 0)
  let w := ((w.put F.WAKE_REC_SOURCE code).put F.WAKE_REC_STATE st).putFlag F.WAKE_REC_CANCELLED cancelled
  let w := (w.put F.WAKE_REC_CHANNEL ch).put F.WAKE_REC_PORT port
  w.powerEntry (if cancelled then 2 else 1) (code + 16 * st + 256 * Nat.min ms (2 ^ 24 - 1))

/-- The POWER command is over, and the device is in RUN (R406). -/
def Work.powerDone (w : Work) (c : PowerCmd) (cancelled : Bool) (ms : Nat) : Work :=
  let payload := w.powerReply cancelled ms
  let w := w.wakeRecord c.state cancelled ms
  let w := (w.put F.PWR_STAT_STATE 0).putFlag F.PWR_STAT_ENTERING false
  let w := w.modPwr (fun p => { Pwr.init with release := p.release, autoRel := p.autoRel, pads := p.pads, downAt := p.downAt })
  w.finish c.origin stOk payload

/-- The entry is cancelled (R410): what it quiesced restarts at the next boundary. -/
def Work.powerCancel (w : Work) (c : PowerCmd) : Work :=
  ((maskList w.pwr.quiesced 8).foldl (fun w n => w.resume n) w).powerDone c true 0

/-- RUN ends: PWR_LF shows the LF frequency that was measured against the crystal in it, which the spec leaves open; on the
internal RC there was no crystal to measure against (R407, PWR_LF; log entry 5). -/
def Work.measureLf (w : Work) : Work :=
  if w.rst.rcMode then w else let (x, w) := w.fresh 16; w.put F.PWR_LF_LF_HZ x

/-- IDLE is entered at the boundary after the admission, unless a wake is pending (R411). -/
def Work.idleEntry (w : Work) : Work :=
  match w.pwr.cmd with
  | some c =>
    if c.state ≠ 1 ∨ w.pwr.committed then w
    else if w.get F.PWR_WAKE_PEND_PEND ≠ 0 then w.powerCancel c
    else ((w.measureLf.put F.PWR_STAT_STATE 1).putFlag F.PWR_STAT_ENTERING false).modPwr (fun p => { p with committed := true })
  | none => w

/-! ### Entry (R409 to R413) -/

/-- The banks that DEEP does not keep (R405, R412). -/
def lostBanks (retain : Nat) : Nat := listMask ((List.range 32).filter (fun b => b != 0 && b != 15 && !bitOf retain b))

/-- What stops with the clocks, at the entry commit point (R83, R389, R409). -/
def Work.stopClocks (w : Work) : Work :=
  let w := (w.eachChan (fun w n => w.turnCold n)).steepAbandon
  let w := { w with mon := { w.mon with still := true } }
  let w := (List.range 4).foldl (fun w e => w.put F.TUN_STAT_STATE 0 0 e) w
  let w := (w.put F.NET_PTP_STAT_STATE 0).modRst (fun r => { r with rcMode := false })
  (List.range 3).foldl (fun w p => w.putFlag F.RHL_PORT_LINK false 0 p) w

/-- What the Bung latches line `m` of channel `n` at: the role of the active plan, and the levels and directions of engine and
GPIO lines (R413). -/
def Work.padOf (w : Work) (n m : Nat) : Pad :=
  let c := w.chan n
  let word := c.seq.act.roles.getD m 0
  let i := roleIdx word
  let drive := fun (dir out : Bool) => if dir && !c.standby then some out else none
  match roleCode word with
  | 0 => .posture
  | 1 | 2 => if c.seq.act.isLcd then .low else .off
  | 5 => let e := w.eng n (i / 16); .engine (drive (bitOf e.dir (i % 16)) (bitOf e.out (i % 16)))
  | 6 => .gpio (drive (bitOf (w.get R.LINE_GPIO_OE n (m / 32)) (m % 32)) (bitOf (w.get R.LINE_GPIO_OUT n (m / 32)) (m % 32)))
  | _ => .highZ

/-- The Bung latches every channel's pads; what it holds already stays as it is (R413). -/
def Work.latchPads (w : Work) : Work :=
  let held := w.get F.PWR_STAT_LATCHED
  let pads := (List.range 8).map (fun n =>
    if bitOf held n then w.pwr.pads.getD n [] else (List.range 80).map (w.padOf n))
  (w.modPwr (fun p => { p with pads := pads })).put F.PWR_STAT_LATCHED 0xFF

/-- POWER_ENTRY_COMMIT (R409 to R413): every channel is quiesced, and the last Tap frames have gone. Steep has restored its
window before that point, be the entry cancelled there or not (R389). -/
def powerEntryCommit (w : Work) : Work :=
  match w.pwr.cmd with
  | none => w
  | some c =>
    let sent := (List.range 8).all (fun n => (List.range 2).all (fun l => !(w.tapOf n l).ready))
    if c.state < 2 ∨ w.pwr.committed ∨ !(List.range 8).all w.atRest ∨ !w.pwr.tapDone ∨ !sent then w
    else if w.get F.PWR_WAKE_PEND_PEND ≠ 0 then w.steepAbandon.powerCancel c
    else
      let w := w.stopClocks.measureLf
      let w := ((w.put F.WAKE_REC_REG_NOACK 0).put F.WAKE_REC_WAKE_FAIL_REG 0).put F.WAKE_REC_OSC_FALLBACK 0
      let w := (w.put F.PWR_STAT_STATE c.state).putFlag F.PWR_STAT_ENTERING false
      let w := w.modPwr (fun p => { p with committed := true })
      if c.state = 2 then w
      else
        let w := w.latchPads.putFlag F.PAIR_STAT_LEAD false
        if c.state = 3 then
          let w := w.modPwr (fun p => { p with lost := lostBanks c.retain, pmb := some (w.get F.PWR_VOUT_RET_MV, 0) })
          (w.put F.PWR_PMB_STAT_ATTEMPTS 1).pmbWrite pmVout (w.voutWord (w.get F.PWR_VOUT_RET_MV))
        else w.pmbWrite pmOperation 0

/-- POWER_ENTRY_COMMIT. -/
def execPowerEntryCommit (s : State) : Host.Outcome State Fault Refusal := .next (s.run powerEntryCommit)

/-! ### Wake sources (R407, R408) -/

/-- The change of VCORE that begins the exit from DEEP, once none is under way (R415, R416). -/
def Work.startRise (w : Work) : Work :=
  if w.pwrState = 3 ∧ w.pwr.source.isSome ∧ w.pwr.pmb.isNone ∧ !w.pwr.vcoreUp then
    let mv := w.get F.PWR_VOUT_RUN_MV
    ((w.modPwr (fun p => { p with pmb := some (mv, 0) })).put F.PWR_PMB_STAT_ATTEMPTS 1).pmbWrite pmVout (w.voutWord mv)
  else w

/-- A source that is watched fires (R407): the first one is the one recorded. -/
def Work.fireWake (w : Work) (bit ch port : Nat) : Work :=
  match w.pwr.cmd with
  | none => w
  | some c =>
    if !bitOf c.wakeMask bit then w
    else
      let w := w.put F.PWR_WAKE_PEND_PEND (setBit (w.get F.PWR_WAKE_PEND_PEND) bit true)
      (w.modPwr (fun p => { p with source := some (p.source.getD (bit + 1, ch, port)) })).startRise

/-- The entry commit point has been passed. -/
def Work.asleep (w : Work) : Bool := w.pwr.cmd.isSome && w.pwr.committed

/-- A PRESS declared before any channel quiesces for the entry fires KEY (R407); `before` are the tick's declarations
before the step. -/
def Work.pressWakes (w : Work) (n before : Nat) : Work :=
  let pressed := ((w.chan n).grist.decl.drop before).any (fun d => d.2)
  let quiet := (maskList w.pwr.quiesced 8).any (fun m => !(w.chan m).planRuns)
  if pressed && !quiet then w.fireWake 0 n 0 else w

/-- KEY_STEP. -/
def execKeyStep (ch : Fin 8) (heads feet drvHead drvFoot : List Nat) (s : State) : Host.Outcome State Fault Refusal :=
  .next (s.run (fun w => (keyStep w ch heads feet drvHead drvFoot).pressWakes ch (w.chan ch).grist.decl.length))

/-- WAKE_KEY (R408): one LF cycle of the any-key detector of a quiesced channel; `low` the ladders whose head reads low. -/
def wakeKey (w : Work) (n low : Nat) : Work :=
  match w.pwr.cmd with
  | none => w
  | some c =>
    if c.state ≠ 2 ∨ !bitOf c.wakeMask 0 ∨ w.chState n ≠ stQuiesced then w
    else
      let ladders := (w.chan n).seq.act.ladders
      let mask0 := if bitOf w.pwr.armed n then tabGet w.pwr.masked 0 n else low &&& tabGet w.pwr.downAt 0 n
      let masked := listMask (ladders.filter (fun l => bitOf mask0 l && bitOf low l))
      let w := w.modPwr (fun p => { p with
        armed := setBit p.armed n true, masked := tabPut p.masked 0 n masked
        lows := ladders.foldl (fun t l =>
          tabPut t 0 (8 * n + l) (if bitOf low l && !bitOf masked l then Nat.min 2 (tabGet t 0 (8 * n + l) + 1) else 0)) p.lows })
      if ladders.any (fun l => tabGet w.pwr.lows 0 (8 * n + l) == 2) then w.fireWake 0 n 0 else w

/-- WAKE_KEY. -/
def execWakeKey (ch : Fin 8) (low : Nat) (s : State) : Host.Outcome State Fault Refusal := .next (s.run (fun w => wakeKey w ch low))

/-- WAKE_ENC. -/
def execWakeEnc (ch : Fin 8) (s : State) : Host.Outcome State Fault Refusal :=
  .next (s.run (fun w => if (List.range 2).any (fun j => w.flag F.ENC_CFG_EN ch j) then w.fireWake 1 ch 0 else w))

/-- WAKE_HOST. -/
def execWakeHost (s : State) : Host.Outcome State Fault Refusal := .next (s.run (fun w => w.fireWake 2 0 0))

/-- WAKE_PHY: from the commit point, on an enabled port. -/
def execWakePhy (p : Fin 2) (s : State) : Host.Outcome State Fault Refusal :=
  .next (s.run (fun w => if w.asleep && w.get F.NET_PORT_MODE 0 p != 0 then w.fireWake 3 0 p else w))

/-- WAKE_FABRIC: from the commit point, on an enabled port. -/
def execWakeFabric (p : Fin 3) (s : State) : Host.Outcome State Fault Refusal :=
  .next (s.run (fun w => if w.asleep && bitOf (w.get F.RHL_CFG_PORT_EN) p then w.fireWake 4 0 p else w))

/-- WAKE_PIN (R407, R418): out of OFF, the AON domain writes OPERATION on and waits for VCORE. -/
def wakePin (w : Work) : Work :=
  let w := w.fireWake 5 0 0
  if w.pwrState = 4 ∧ !w.pwr.offWait then
    let w := (((w.put F.WAKE_REC_SOURCE 6).put F.WAKE_REC_STATE 4).put F.WAKE_REC_CANCELLED 0)
    (w.modPwr (fun p => { p with offWait := true })).pmbWrite pmOperation 0x80
  else w

/-- WAKE_PIN. -/
def execWakePin (s : State) : Host.Outcome State Fault Refusal := .next (s.run wakePin)

/-- WAKE_TIMER: from the commit point. -/
def execWakeTimer (s : State) : Host.Outcome State Fault Refusal :=
  .next (s.run (fun w => if w.asleep then w.fireWake 6 0 0 else w))

/-- WAKE_CHEV. -/
def execWakeChev (ch : Fin 8) (s : State) : Host.Outcome State Fault Refusal := .next (s.run (fun w => w.fireWake 7 ch 0))

/-- WAKE_NET. -/
def execWakeNet (s : State) : Host.Outcome State Fault Refusal := .next (s.run (fun w => w.fireWake 8 0 0))

/-! ### The regulator (R416 to R418) -/

/-- A change of VCORE is over (R416): the exit from DEEP goes on, or a wake that came during the entry begins it. -/
def Work.vcoreDone (w : Work) (target : Nat) : Work :=
  let up := w.pwrState = 3 ∧ w.pwr.source.isSome ∧ target = w.get F.PWR_VOUT_RUN_MV
  (w.modPwr (fun p => { p with pmb := none, vcoreUp := decide up })).startRise

/-- All four attempts have failed: the internal monitor decides (R417). -/
def Work.vcoreFailed (w : Work) (target mv : Nat) : Work :=
  let entering := decide (target ≠ w.get F.PWR_VOUT_RUN_MV)
  if (720 ≤ mv ∧ mv ≤ 880) ∨ (entering ∧ 620 ≤ mv ∧ mv ≤ 680) then
    ((w.put F.WAKE_REC_REG_NOACK 1).raise F.PWR_PMB_STAT_REG_NOACK).vcoreDone target
  else ((w.deviceReset 3 1).put F.WAKE_REC_WAKE_FAIL_REG 1)

/-- An attempt has ended without an acknowledgement. -/
def Work.nextAttempt (w : Work) (target mv : Nat) : Work :=
  let k := w.get F.PWR_PMB_STAT_ATTEMPTS
  if 4 ≤ k then w.vcoreFailed target mv
  else
    ((w.put F.PWR_PMB_STAT_ATTEMPTS (k + 1)).modPwr (fun p => { p with pmb := some (target, 0) })).pmbWrite pmVout (w.voutWord target)

/-- PMBUS_POLL (R416): `acked` tells a transaction without NACK or PEC error, whose STATUS_WORD follows; `mv` is VCORE as
the internal monitor reads it. 40 polls of 50 µs end an attempt. -/
def pmbusPoll (w : Work) (acked : Bool) (status mv : Nat) : Work :=
  match w.pwr.pmb with
  | none => w
  | some (target, polls) =>
    if !acked then w.nextAttempt target mv
    else
      let w := w.put F.PWR_PMB_STAT_STATUS_WORD (status % 65536)
      if !bitOf status 11 ∧ !bitOf status 15 ∧ !bitOf status 5 then w.vcoreDone target
      else if 40 ≤ polls + 1 then w.nextAttempt target mv
      else w.modPwr (fun p => { p with pmb := some (target, polls + 1) })

/-- PMBUS_POLL. -/
def execPmbusPoll (acked : Bool) (statusWord : Nat) (vcoreMv : Nat) (s : State) : Host.Outcome State Fault Refusal :=
  .next (s.run (fun w => pmbusPoll w acked statusWord vcoreMv))

/-- OFF_WAKE_TIMEOUT (R418): the device stays in OFF. -/
def offWakeTimeout (w : Work) : Work :=
  if w.pwrState = 4 ∧ w.pwr.offWait then
    let w := (w.put F.WAKE_REC_WAKE_FAIL_REG 1).raise F.PWR_PMB_STAT_WAKE_FAIL_REG
    (w.modPwr (fun p => { p with offWait := false })).pmbWrite pmOperation 0
  else w

/-- OFF_WAKE_TIMEOUT. -/
def execOffWakeTimeout (s : State) : Host.Outcome State Fault Refusal := .next (s.run offWakeTimeout)

/-- PMB_ALERT (R418): in RUN or IDLE. -/
def pmbAlert (w : Work) (status : Nat) : Work :=
  if w.pwrState ≤ 1 then
    ((w.put F.PWR_PMB_STAT_STATUS_WORD (status % 65536)).raise F.PWR_PMB_STAT_ALERT).powerEntry 4 (status % 65536)
  else w

/-- PMB_ALERT. -/
def execPmbAlert (statusWord : Nat) (s : State) : Host.Outcome State Fault Refusal := .next (s.run (fun w => pmbAlert w statusWord))

/-- CRYSTAL_FALLBACK (R419): at release step 3, or at an exit: the network and the fabric stay down, and the tick runs free. -/
def crystalFallback (w : Work) : Work :=
  let exiting := w.asleep && w.pwr.source.isSome && decide (2 ≤ w.pwrState)
  if w.rst.hold = .none ∧ (w.relStep = 2 ∨ exiting) then
    let w := (w.put F.WAKE_REC_OSC_FALLBACK 1).putFlag F.SYS_REL_RC_FALLBACK true
    let w := (List.range 2).foldl (fun w p => w.putFlag F.NET_PORT_LINK false 0 p) w
    let w := (List.range 3).foldl (fun w p => (w.putFlag F.RHL_PORT_LINK false 0 p).putFlag F.RHL_PORT_HOLD false 0 p) w
    (((w.put F.RHL_STAT_STATE 0).put F.NET_PTP_STAT_STATE 0).setLock lkFree).modRst (fun r => { r with rcMode := true })
  else w

/-- CRYSTAL_FALLBACK. -/
def execCrystalFallback (s : State) : Host.Outcome State Fault Refusal := .next (s.run crystalFallback)

/-! ### Pads (R413, R414) -/

/-- PADS_RELEASE (R414): the latched channels of the mask are released at the next boundary. -/
def padsReleaseOp (w : Work) (pl : List Byte) : Work × Reply :=
  let mask := leAt pl 0 1
  if pl.length ≠ 4 ∨ leAt pl 1 3 ≠ 0 ∨ mask = 0 then w.reply stArg
  else (w.modPwr (fun p => { p with release := p.release ||| (mask &&& w.get F.PWR_STAT_LATCHED) })).reply stOk

/-- The releases of a boundary (R414): the channel's drivers take over, and it restarts from a cold Kiln. -/
def Work.padsBoundary (w : Work) : Work :=
  let auto := if w.pwr.autoRel then w.get F.PWR_CFG_AUTO_REL else 0
  let mask := (w.pwr.release ||| auto) &&& w.get F.PWR_STAT_LATCHED
  let w := w.put F.PWR_STAT_LATCHED (without (w.get F.PWR_STAT_LATCHED) mask)
  w.modPwr (fun p => { p with release := 0, autoRel := false })

/-- LATCH_LOST. -/
def execLatchLost (s : State) : Host.Outcome State Fault Refusal := .next (s.run latchLost)

/-! ### Exit (R415, R412) -/

/-- What the banks that DEEP did not keep take with them (R412): a channel stays in reset posture until a whole image
activates. -/
def Work.loseBanks (w : Work) : Work :=
  let lost := w.pwr.lost
  let w := (maskList lost 32).foldl (fun w b => w.wipe (bankBase b) (bankBase b + bankSize b)) w
  let w := (List.range 8).foldl (fun w n =>
    if !bitOf lost (16 + n) then w
    else
      let w := w.emptyRing n
      let w := w.modChan n (fun c => { c with
        restart := none, running := false, bankLost := true, mash := Mash.init, seq := { c.seq with act := PlanSet.init, commit := none } })
      if (w.chan n).inReset then w else w.putChState n stReset) w
  (List.range 4).foldl (fun w e =>
    let run := bitOf (w.get F.TUN_CTL_RUNNING) e
    if bitOf lost (24 + 2 * e) ∨ bitOf lost (25 + 2 * e) then
      let w := w.modTun e (fun t => { t with code := [], outSets := [], inSets := [], ages := [] })
      (w.put F.TUN_CTL_RUNNING (setBit (w.get F.TUN_CTL_RUNNING) e false)).put F.TUN_STAT_STATE 0 0 e
    else if run then w.put F.TUN_STAT_STATE 1 0 e else w) w

/-- The tick count of a device that is not joined advances by the time asleep (R415). -/
def Work.advanceTick (w : Work) (ms : Nat) : Work :=
  let k := divRound (ms * 1000) w.periodUs
  if w.member then w else { w with tick := (w.tick + k) % 2 ^ 48, bounds := w.bounds + k }

/-- A joined device whose crystal has stopped relocks, and takes the root's tick count once it is LOCKED (R349, R415). -/
def Work.relock (w : Work) : Work :=
  if w.member then
    let w := { w with lock := { w.lock with everLocked := false, adopt := none, retryAt := none } }
    if w.lockState = lkFree then w else w.setLock lkAcquire
  else w

/-- The exit completes (R406, R415), `ms` after the entry. -/
def Work.exitDone (w : Work) (ms : Nat) : Work :=
  match w.pwr.cmd with
  | none => w
  | some c =>
    let st := w.pwrState
    if !w.pwr.committed ∨ w.pwr.source.isNone ∨ st = 0 ∨ 4 ≤ st ∨ (st = 3 ∧ !w.pwr.vcoreUp) then w
    else if st = 1 then w.powerDone c false ms
    else
      let w := ((w.loseBanks).advanceTick ms).relock
      let w := (maskList w.pwr.quiesced 8).foldl (fun w n =>
        if (w.chan n).seq.act.slots.isEmpty then w else w.resume n) w
      let w := (List.range 4).foldl (fun w e =>
        if bitOf (w.get F.TUN_CTL_RUNNING) e then w.put F.TUN_STAT_STATE 1 0 e else w) w
      let w := if st = 3 then w.modPwr (fun p => { p with autoRel := true }) else w
      let w := w.putFlag F.SYS_REL_RC_FALLBACK w.rst.rcMode
      w.powerDone c false ms

end Sys2Proof.Machine
end

