-- ==== Sys2Proof/Machine/Monitor.lean ====
section
/-! DEFINITION. The event counters at a boundary (R432 to R436), and the temperature monitor (R457, R458). -/

namespace Sys2Proof.Machine

/-! ### Event counters -/

/-- The counters changed. -/
def Work.modMon (w : Work) (f : Mon → Mon) : Work := { w with mon := f w.mon }

/-- A snapshot of a set of counters, of the boundary that begins tick `t` (R435). -/
def Work.snapshotOf (w : Work) (cs : List Counter) (t : Nat) : Work :=
  let w := (List.range 32).foldl (fun w i =>
    let c := cs.getD i Counter.init
    let w := w.setReg (R.MON_SNAP_LO.addr 0 i) (c.value % 2 ^ 32)
    w.setReg (R.MON_SNAP_HI.addr 0 i) (c.value / 2 ^ 32 % 2 ^ 16 + 2 ^ 16 * c.ovf.toNat)) w
  (w.put F.MON_SNAP_TICK_TICK (t % 2 ^ 32)).countWrap F.MON_STAT_SNAP_SEQ

/-- A command falls due at the boundary that begins tick `t` (R14, R434). -/
def MonCmd.isDue (c : MonCmd) (t : Nat) : Bool := match c.due with | none => true | some d => stampReached d t

/-- One counter under the commands that fall due, in the order of R434: CLEAR, START or STOP, MON_CFG. -/
def Counter.underCmds (c : Counter) (i cfg : Nat) (cmds : List MonCmd) : Counter :=
  let mine := cmds.filter (fun k => bitOf k.mask i)
  let c := if mine.any (·.clear) then { c with value := 0, ovf := false } else c
  let c := mine.foldl (fun c k =>
    if k.start && !k.stop then { c with run := true } else if k.stop then { c with run := false } else c) c
  if c.pend then { c with cfg := cfg, value := 0, pend := false } else c

/-- MON_RUN and MON_STAT shown. -/
def Work.showMon (w : Work) : Work :=
  let run := listMask ((List.range 32).filter (fun i => (w.mon.counters.getD i Counter.init).run))
  let w := w.put F.MON_RUN_RUN run
  let w := w.putFlag F.MON_STAT_PENDING (w.mon.cmds.any (fun c => c.stamp.isNone))
  w.putFlag F.MON_STAT_STAMP_PEND (w.mon.cmds.any (fun c => c.stamp.isSome))

/-- The counters at the boundary that begins tick `t`, `cyc` channel-clock cycles after the one before. Its own event is
counted last, in the tick it begins (R432, R434). -/
def Work.monBoundary (w : Work) (t cyc : Nat) : Work :=
  let w := w.ev 0x71 0 ((w.nowCyc + cyc) / 8 - w.nowCyc / 8)
  let w := w.modMon (fun m => { m with before := some m.counters, still := false })
  let due := w.mon.cmds.filter (fun c => c.isDue t)
  let w := if due.any (·.snap) then w.snapshotOf w.mon.counters t else w
  let cfg := fun (i : Nat) => w.reg (R.MON_CFG.addr 0 i)
  let w := w.modMon (fun m => { m with
    cmds := m.cmds.filter (fun c => !c.isDue t)
    counters := (List.range 32).map (fun i => (m.counters.getD i Counter.init).underCmds i (cfg i) due) })
  w.showMon.ev 0x70

/-- AUTO_SNAPSHOT (R435): at a boundary whose tick count is a multiple of AUTO_PER, of the counters as it found them. -/
def autoSnapshot (w : Work) : Work :=
  let per := w.get F.MON_CTL_AUTO_PER
  match w.mon.before with
  | some cs =>
    if per ≠ 0 ∧ w.tick % per = 0 then (w.snapshotOf cs w.tick).modMon (fun m => { m with before := none }) else w
  | none => w

/-- AUTO_SNAPSHOT. -/
def execAutoSnapshot (s : State) : Host.Outcome State Fault Refusal := .next (s.run autoSnapshot)

/-! ### The temperature monitor -/

/-- The reading of a tick, in whole degrees (R457). -/
def Work.takeTj (w : Work) (tj : Int) : Work :=
  let w := w.put F.SYS_TEMP_TJ (unsigned 8 tj)
  let w := if signed 8 (w.get F.SYS_TEMP_TJ_MAX) < tj ∨ w.get F.SYS_TEMP_TJ_MAX = 0x80 then w.put F.SYS_TEMP_TJ_MAX (unsigned 8 tj) else w
  let hot := w.flag F.SYS_TEMP_OVER
  { w with temp := { w.temp with
    hot := if 120 ≤ tj then w.temp.hot + 1 else 0
    cool := if tj < 110 then w.temp.cool + 1 else 0
    clear := if tj < 115 ∧ hot then w.temp.clear + 1 else 0 } }

/-- A change of the budgets comes into force at a boundary (R457). -/
def Work.tempBoundary (w : Work) : Work :=
  match w.temp.pend with
  | some b => { w.putFlag F.SYS_TEMP_HOT b with temp := { (w.putFlag F.SYS_TEMP_HOT b).temp with pend := none } }
  | none => w

/-- A THERMAL entry of the monitor in every running channel's ring (R457, R458). -/
def Work.tempEntries (w : Work) (code value : Nat) : Work :=
  w.eachChan (fun w n => if (w.chan n).running then w.entryBatch n ⟨1, 0x22, code, 0, value % 2 ^ 16, w.tick32⟩ else w)

/-- The budgets are halved, or will be at the next boundary. -/
def Work.tempHalved (w : Work) : Bool := w.temp.pend.getD (w.flag F.SYS_TEMP_HOT)

/-- TEMP_HOT (R457). -/
def tempHot (w : Work) : Work :=
  if w.temp.hot < 4 ∨ w.tempHalved then w
  else
    let w := { w with temp := { w.temp with pend := some true, cool := 0 } }
    (w.raise F.SYS_TEMP_HOT_SEEN).tempEntries 9 (unsigned 16 (signed 8 (w.get F.SYS_TEMP_TJ)))

/-- TEMP_HOT. -/
def execTempHot (s : State) : Host.Outcome State Fault Refusal := .next (s.run tempHot)

/-- TEMP_COOL (R457). -/
def tempCool (w : Work) : Work :=
  if w.temp.cool < 1024 ∨ !w.tempHalved then w
  else
    ({ w with temp := { w.temp with pend := some false } } : Work).tempEntries 11 (unsigned 16 (signed 8 (w.get F.SYS_TEMP_TJ)))

/-- TEMP_COOL. -/
def execTempCool (s : State) : Host.Outcome State Fault Refusal := .next (s.run tempCool)

/-- TEMP_OVER (R458): the command is the declaration; the reading of its 100 periods is not among its operands, so the
entry's VALUE is a free value. -/
def tempOver (w : Work) : Work :=
  if w.flag F.SYS_TEMP_OVER then w
  else
    let (v, w) := w.fresh 16
    let w := ((w.raise F.SYS_TEMP_OVER_SEEN).putFlag F.SYS_TEMP_OVER true).tempEntries 10 v
    let mine := w.activeMask &&& w.pairMask
    let ns := (List.range 8).filter (fun n => (w.chan n).running && !bitOf mine n)
    let w := w.modPair (fun p => { p with release := union p.release mine })
    let w := ns.foldl (fun w n => w.askQuiesce n) w
    { w with temp := { w.temp with heldCh := listMask ns, clear := 0 } }

/-- TEMP_OVER. -/
def execTempOver (s : State) : Host.Outcome State Fault Refusal := .next (s.run tempOver)

/-- TEMP_OVER_CLEAR (R458): the channels held restart at the next boundary. -/
def tempOverClear (w : Work) : Work :=
  if !w.flag F.SYS_TEMP_OVER ∨ w.temp.clear < 1024 then w
  else
    let ns := maskList w.temp.heldCh 8
    let w := ({ w with temp := { w.temp with heldCh := 0, clear := 0 } } : Work).putFlag F.SYS_TEMP_OVER false
    ns.foldl (fun w n => w.resume n) w

/-- TEMP_OVER_CLEAR. -/
def execTempOverClear (s : State) : Host.Outcome State Fault Refusal := .next (s.run tempOverClear)

end Sys2Proof.Machine
end

