-- ==== Sys2Proof/Machine/HostPort.lean ====
section
/-! DEFINITION. The G3 commands and the ports they come by; FETCH; the emulated register sets of the forerunners
(14_host_port.md; R22, R224, R326 to R328, R353, R354, R411). -/

namespace Sys2Proof.Machine

/-! ### Opcodes and admission (R22) -/

/-- The opcode of CFG_END. -/
def opCfgEnd : Nat := 0x42
/-- The opcode of MODE. -/
def opMode : Nat := 0x30
/-- The opcode of POWER. -/
def opPower : Nat := 0x31
/-- The opcode of ABORT. -/
def opAbort : Nat := 0x50

/-- The opcodes of the table of G3 commands. -/
def g3Ops : List Nat :=
  [0x01, 0x02, 0x03, 0x10, 0x11, 0x12, 0x18, 0x19, 0x20, 0x21, 0x30, 0x31, 0x32, 0x40, 0x41, 0x42, 0x50, 0x60, 0x7F]

/-- The opcodes that a device without an image serves on a network or on the fabric (R328, R354). -/
def bootOps : List Nat := [0x01, 0x40, 0x41, 0x42, 0x50, 0x7F]

/-- The modes that admit a command whatever its target (R22). What depends on the target (the channels of TEST, the rings
of RECOVERY, the scope of a load, the table of R17) the command itself judges. -/
def Work.modeAdmits (w : Work) (op : Nat) : Bool :=
  let m := w.mode
  if [0x10, 0x11, 0x12, 0x18, 0x19, 0x60].contains op then m != mdBoot && m != mdRecovery
  else if [0x20, 0x21, 0x32].contains op then m != mdBoot
  else if op = opPower then m == mdStartUp || m == mdOperate
  else true

/-! ### STATUS, NOP and FABRIC_WRAP -/

/-- STATUS (R302). -/
def statusOp (w : Work) (pl : List Byte) : Work × Reply :=
  if !pl.isEmpty then w.reply stArg
  else w.reply stOk (leBytes 4 (w.reg (R.SYS_MODE.addr 0 0)) ++ leBytes 4 (w.reg (R.SYS_CH_STATE.addr 0 0)) ++
    leBytes 2 (w.get F.HOST_ATTN_ACTIVE) ++ leBytes 2 0 ++ leBytes 4 w.tick32 ++ leBytes 4 (w.get F.SYS_IMG_SERIAL_SERIAL))

/-- NOP. -/
def nopOp (w : Work) (pl : List Byte) : Work × Reply := w.reply (if pl.isEmpty then stOk else stArg)

/-- FABRIC_WRAP (R308): the WRAP_REQ leaves at once, and the command waits for its response. A held FABRIC
block is isolated (R397). -/
def wrapOp (w : Work) (o : Origin) (pl : List Byte) : Work × Reply :=
  let dest := halfAt pl 0
  let noWait := bitOf (byteAt pl 2) 0
  let ticks := halfAt pl 4
  let inner := pl.drop 6
  if inner.length < 5 ∨ 511 < dest ∨ 1 < byteAt pl 2 ∨ byteAt pl 3 ≠ 0 ∨ ticks < 1 ∨ 4000 < ticks ∨
      byteAt inner 2 ≠ 0 ∨ inner.length ≠ 5 + halfAt inner 3 ∨ 1012 < halfAt inner 3 then w.reply stArg
  else if w.flag F.SYS_BLK_RST_FABRIC then w.reply stIsol
  else if !w.joined ∨ dest = 0 then w.reply stState
  else
    let tag := w.host.wrapTag
    let w := { w with host := { w.host with wrapTag := (tag + 1) % 65536 } }
    let w := w.fabCast 0x30 dest 1 (leBytes 2 tag ++ leBytes 1 noWait.toNat ++ leBytes 1 0 ++ inner)
    if noWait ∨ dest = 511 then w.reply stOk
    else ({ w with host := { w.host with wraps := w.host.wraps ++ [⟨o, tag, ticks⟩] } }, .waits)

/-- FABRIC_WRAP_TIMEOUT (R308): a wait whose ticks are spent ends without a response. -/
def wrapTimeout (w : Work) : Work :=
  let late := w.host.wraps.filter (fun x => x.left == 0)
  let w := { w with host := { w.host with wraps := w.host.wraps.filter (fun x => x.left != 0) } }
  late.foldl (fun w x => w.finish x.who stState [] false true) w

/-! ### Executing a command -/

/-- What an admitted command does. -/
def Work.perform (w : Work) (o : Origin) (op : Nat) (pl : List Byte) : Work × Reply :=
  if !w.modeAdmits op then w.reply stMode
  else match op with
    | 0x01 => statusOp w pl
    | 0x02 => memReadOp w pl
    | 0x03 => memWriteOp w o pl
    | 0x10 => fieldSetOp w o pl
    | 0x11 => segWriteOp w o pl
    | 0x12 => imageSwapOp w pl
    | 0x18 => alertOp w o pl
    | 0x19 => dimOp w pl
    | 0x20 => eventReadOp w pl
    | 0x21 => eventAckOp w pl
    | 0x30 => modeOp w o pl
    | 0x31 => powerOp w o pl
    | 0x32 => padsReleaseOp w pl
    | 0x40 => cfgBeginOp w o pl
    | 0x41 => cfgDataOp w o pl
    | 0x42 => cfgEndOp w o pl
    | 0x60 => wrapOp w o pl
    | 0x7F => nopOp w pl
    | _ => w.reply stArg

/-- The command in flight on a port, set. -/
def Work.setFlight (w : Work) (o : Origin) (f : Flight) : Work :=
  (w.setPort o { w.port o with flight := some f }).showPort o

/-- A command admitted on a free port: it completes, or stays in flight (R298). -/
def Work.execute (w : Work) (o : Origin) (op tag : Nat) (pl : List Byte) : Work :=
  match (w.setFlight o ⟨op, tag, false⟩).perform o op pl with
  | (w, .done st payload) => w.finish o st payload
  | (w, .waits) => w

/-! ### ABORT (R68, R305, R306) -/

/-- An ABORT at a command's commit point or later: the response will tell of it (R305). -/
def Work.tooLate (w : Work) (o : Origin) : Work :=
  match (w.port o).flight with
  | some f => w.setFlight o { f with late := true }
  | none => w

/-- The command in flight can still be rolled back. -/
def Work.uncommitted (w : Work) (op : Nat) : Bool :=
  op == opCfgEnd || op == opMode || (op == opPower && !w.pwr.committed)

/-- The response that a port keeps is of a command that completed in the step of its commit point (R165, R305). -/
def Work.justDone (w : Work) (o : Origin) : Bool :=
  let p := w.port o
  (match o with | .host | .tun _ => true | _ => false) && p.fresh && p.resp.op != opAbort && p.resp.status == stOk

/-- ABORT: `atCommit` tells that it came in the cycle of the commit point. Of a command that completed in that cycle it marks
the response that has not been fetched (R165, R305). -/
def Work.abortFrom (w : Work) (o : Origin) (tag : Nat) (atCommit : Bool) : Work :=
  match (w.port o).flight with
  | some f =>
    if atCommit ∨ !w.uncommitted f.op then w.tooLate o
    else
      let w := if f.op = opCfgEnd then w.endSession else if f.op = opMode then w.dropMode else w.dropEntryToSleep
      w.finish o stAborted
  | none =>
    if atCommit && w.justDone o then
      (w.setPort o { w.port o with resp := { (w.port o).resp with abortLate := true } }).showPort o
    else match w.img.sess with
    | some x => if x.owner = o then w.endSession.complete o opAbort tag stOk else w.complete o opAbort tag stState
    | none => w.complete o opAbort tag stState

/-- A frame that passed R297 and whose port is free, or that is an ABORT. -/
def Work.serve (w : Work) (o : Origin) (op tag : Nat) (pl : List Byte) (atCommit : Bool) : Work :=
  if !g3Ops.contains op then w.complete o op tag stArg
  else if op ≠ opAbort then w.execute o op tag pl
  else if pl.isEmpty then w.abortFrom o tag atCommit
  else if (w.port o).flight.isSome then w
  else w.complete o op tag stArg

/-! ### The host port (R292, R293, R297, R298) -/

/-- The port ignores every transaction: it has not been released, or its block is held (R293, R307). -/
def Work.hostDeaf (w : Work) : Bool :=
  w.rst.hold != .none || decide (w.relStep < 7) || w.flag F.SYS_BLK_RST_HOST

/-- A G3 frame cannot be taken: in G1 the port speaks only G1, and below IDLE it does not run (R292, R404). -/
def Work.g3Deaf (w : Work) : Bool := w.hostDeaf || w.flag F.HOST_CFG_GEN || decide (2 ≤ w.pwrState)

/-- A frame discarded while a command is in flight (R298). -/
def Work.rejectFrame (w : Work) : Work := (w.raise F.HOST_ERR_REJECT).ev 0x62

/-- A frame held in IDLE: the front end holds the first (R411). -/
def Work.holdFrame (w : Work) (f : HeldFrame) : Work :=
  { w with host := { w.host with held := some (w.host.held.getD f) } }

/-- A G3 command frame at the host port. -/
def Work.hostFrame (w : Work) (op tag : Nat) (pl : List Byte) (atCommit : Bool) : Work :=
  let busy := w.host.port.flight.isSome
  if busy ∧ op = opAbort ∧ w.asleep then if w.hostDeaf then w else w.tooLate .host
  else if w.g3Deaf then w
  else if w.pwrState = 1 then w.holdFrame (.good op tag pl)
  else if busy ∧ op ≠ opAbort then w.rejectFrame
  else if !g3Ops.contains op then w.serve .host op tag pl atCommit
  else
    let w := (w.countUp F.HOST_CNT_FRAMES).ev 0x60
    (w.put F.HOST_STAT_LAST_OP op).serve .host op tag pl atCommit

/-- A bad frame at the host port (R297). -/
def Work.badFrame (w : Work) (why : BadFrame) : Work :=
  let busy := w.host.port.flight.isSome
  match why with
  | .short => if busy then w.rejectFrame else w.raise F.HOST_ERR_FRAME_ERR
  | .crc op tag =>
    if busy ∧ op ≠ opAbort then w.rejectFrame
    else
      let w := ((w.raise F.HOST_ERR_CRC_ERR).countUp F.HOST_CNT_CRC_ERRS).ev 0x61
      if busy then w else w.complete .host op tag stCrc
  | .opcode op tag => if busy then w.rejectFrame else w.complete .host op tag stArg

/-- G3_BAD_FRAME. -/
def g3BadFrame (w : Work) (why : BadFrame) : Work :=
  if w.g3Deaf then w else if w.pwrState = 1 then w.holdFrame (.bad why) else w.badFrame why

/-- G3_BAD_FRAME. -/
def execG3BadFrame (why : BadFrame) (s : State) : Host.Outcome State Fault Refusal :=
  .next (s.run (fun w => g3BadFrame w why))

/-- G3_FRAME_REJECT (R298): a frame other than FETCH and ABORT while a command is in flight. -/
def execG3FrameReject (op : Nat) (_tag : Nat) (s : State) : Host.Outcome State Fault Refusal :=
  .next (s.run (fun w =>
    if w.g3Deaf ∨ w.pwrState ≠ 0 ∨ w.host.port.flight.isNone ∨ op = opAbort ∨ op = 0x80 then w else w.rejectFrame))

/-- The frame held in IDLE is judged once the exit has completed (R411). -/
def Work.judgeHeld (w : Work) : Work :=
  match w.host.held with
  | none => w
  | some f =>
    let w := { w with host := { w.host with held := none } }
    match f with
    | .good op tag pl => w.hostFrame op tag pl false
    | .bad why => w.badFrame why

/-! ### FETCH (R295, R299, R300) -/

/-- The response frame of a FETCH. -/
def Work.fetchFrame (w : Work) : List Byte :=
  let p := w.host.port
  let done := p.flight.isNone && p.answered
  let b := respBytes w p.resp p.rseq done (done && !p.fresh)
  [0xA5] ++ b ++ leBytes 2 (b.foldl (crcByteL 16 0x1021) 0xFFFF)

/-- FETCH: `whole` tells that both CRC bytes were clocked out. Of a FETCH cut short, how much was clocked out is open. -/
def fetch (w : Work) (whole : Bool) : Work :=
  if w.g3Deaf then w
  else
    let b := w.fetchFrame
    let p := w.host.port
    if !whole then
      let (k, w) := w.fresh 13
      { w with host := { w.host with out := b.take (k % b.length) } }
    else if p.flight.isSome ∨ !p.fresh then { w with host := { w.host with out := b } }
    else
      { w with host := { w.host with out := b, port := { p with fresh := false }, widthPend := none } }.showHost

/-- FETCH. -/
def execFetch (whole : Bool) (s : State) : Host.Outcome State Fault Refusal := .next (s.run (fun w => fetch w whole))

/-! ### The fabric's wrapped commands (R353, R354) -/

/-- A wrapped command that its node refuses for the size of its frames (R353). -/
def wrapRefused (op : Nat) (pl : List Byte) : Bool :=
  decide (1012 < pl.length) || (op == 0x02 && decide (1012 < halfAt pl 4))

/-- A wrapped command executed. -/
def Work.runWrap (w : Work) (q : WrapReq) : Work :=
  let o := Origin.fabric q.src
  let w := ({ w with fab := { w.fab with wrapRun := some q } } : Work).ev 0x47
  if wrapRefused q.op q.pl then w.complete o q.op q.itag stArg
  else if w.get F.RHL_STAT_STATE = 5 ∧ !bootOps.contains q.op then w.complete o q.op q.itag stMode
  else w.serve o q.op q.itag q.pl false

/-- The queued wrapped commands executed one at a time, as far as they complete; at most `fuel` of them. -/
def Work.drainWraps (w : Work) : Nat → Work
  | 0 => w
  | fuel + 1 =>
    if w.fab.wrapRun.isSome ∨ w.pwrState ≠ 0 then w
    else match w.fab.wrapQ with
      | [] => w
      | q :: rest => (({ w with fab := { w.fab with wrapQ := rest } } : Work).runWrap q).drainWraps fuel

/-- A request that finds the queue full is answered BUSY (R353). -/
def Work.wrapBusy (w : Work) (q : WrapReq) : Work :=
  let p := w.fab.port
  let n := (p.rseq + 1) % 65536
  let w := { w with fab := { w.fab with port := { p with rseq := n } } }
  if q.noWait then w
  else w.fabCast 0x31 q.src 1 (leBytes 2 q.tag ++ respBytes w ⟨q.op, q.itag, stBusy, [], false, false⟩ n true false)

/-- Requests of this source are served: by a joined node, of a pair by its lead (R371), and by a boot client from the
neighbour it was reached by (R354). -/
def Work.wrapServes (w : Work) (src : Nat) : Bool :=
  !w.flag F.SYS_BLK_RST_FABRIC && decide (w.pwrState < 2) &&
    ((w.joined && (!w.pairOn || w.lead)) ||
      (decide (w.get F.RHL_STAT_STATE = 5) && decide (w.get F.RHL_PORT_NEIGH 0 w.fab.upPort = src)))

/-- WRAP_REQ: queued while another runs, up to 8 (R353). -/
def Work.wrapIn (w : Work) (q : WrapReq) : Work :=
  if !w.wrapServes q.src then w
  else if 8 ≤ w.fab.wrapQ.length then w.wrapBusy q
  else ({ w with fab := { w.fab with wrapQ := w.fab.wrapQ ++ [q] } } : Work).drainWraps 9

/-! ### Vendor records and the network-boot ROM (R326 to R328) -/

/-- An engine runs, and its protocol carries vendor records (R326). -/
def Work.carriesRecords (w : Work) (e : Nat) : Bool :=
  bitOf (w.get F.TUN_CTL_RUNNING) e && !w.engineHeld e && decide (w.pwrState = 0) &&
    !([0, 7, 8, 9].contains (w.get F.TUN_STAT_PROTO 0 e))

/-- A further request on an engine: it completes with BUSY, and the command in flight goes on (R327). -/
def Work.recordBusy (w : Work) (e op tag : Nat) : Work :=
  let p := (w.tunEng e).port
  (w.modTun e (fun t => { t with port := { p with
    resp := ⟨op, tag, stBusy, [], false, false⟩, answered := true, fresh := true, rseq := (p.rseq + 1) % 65536 } })).answer (.tun e)

/-- VENDOR_RECORD_REQUEST. -/
def vendorRequest (w : Work) (e op tag : Nat) (pl : List Byte) (atCommit : Bool) : Work :=
  if !w.carriesRecords e then w
  else
    let w := w.ev 0x5B e
    if (w.tunEng e).port.flight.isSome ∧ op ≠ opAbort then w.recordBusy e op tag
    else w.serve (.tun e) op tag pl atCommit

/-- The network-boot ROM serves its EtherType: in BOOT with a network source, from the release of the network ports until
an image activates (R73, R328). -/
def Work.netServes (w : Work) : Bool :=
  w.mode == mdBoot && w.get F.SYS_BOOTSEL_SRC == 2 && decide (10 ≤ w.relStep) && w.rst.hold == .none &&
    !w.rst.rcMode && !w.flag F.SYS_BLK_RST_NET

/-- A G3 frame at the network-boot ROM, addressed to its port, from `mac`. -/
def Work.netFrame (w : Work) (mac op tag : Nat) (pl : List Byte) (atCommit : Bool) : Work :=
  if !w.netServes then w
  else
    let w := w.ev 0x5C 0
    if w.netBoot.flight.isSome ∧ op ≠ opAbort then w
    else if !bootOps.contains op then w.complete (.net mac) op tag stMode
    else w.serve (.net mac) op tag pl atCommit

/-- NET_BOOT_FRAME. -/
def execNetBootFrame (head : NetHead) (tag : Nat) (pl : List Byte) (s : State) : Host.Outcome State Fault Refusal :=
  .next (s.run (fun w => if head.mine then w.netFrame head.src head.op tag pl false else w))

/-! ### The commands -/

/-- A G3 command by the port of its origin; one from the fabric is a WRAP_REQ that asks for its response. -/
def Work.command (w : Work) (o : Origin) (op tag : Nat) (pl : List Byte) (atCommit : Bool := false) : Work :=
  match o with
  | .host => w.hostFrame op tag pl atCommit
  | .tun e => vendorRequest w e op tag pl atCommit
  | .fabric a => w.wrapIn ⟨a, tag, false, op, tag, pl⟩
  | .net mac => w.netFrame mac op tag pl atCommit

/-- MODE. -/
def execMode (o : Origin) (tag : Nat) (pl : List Byte) (s : State) : Host.Outcome State Fault Refusal :=
  .next (s.run (fun w => w.command o opMode tag pl))
/-- STATUS. -/
def execStatus (o : Origin) (tag : Nat) (pl : List Byte) (s : State) : Host.Outcome State Fault Refusal :=
  .next (s.run (fun w => w.command o 0x01 tag pl))
/-- MEM_READ. -/
def execMemRead (o : Origin) (tag : Nat) (pl : List Byte) (s : State) : Host.Outcome State Fault Refusal :=
  .next (s.run (fun w => w.command o 0x02 tag pl))
/-- MEM_WRITE. -/
def execMemWrite (o : Origin) (tag : Nat) (pl : List Byte) (s : State) : Host.Outcome State Fault Refusal :=
  .next (s.run (fun w => w.command o 0x03 tag pl))
/-- FIELD_SET. -/
def execFieldSet (o : Origin) (tag : Nat) (pl : List Byte) (s : State) : Host.Outcome State Fault Refusal :=
  .next (s.run (fun w => w.command o 0x10 tag pl))
/-- SEG_WRITE. -/
def execSegWrite (o : Origin) (tag : Nat) (pl : List Byte) (s : State) : Host.Outcome State Fault Refusal :=
  .next (s.run (fun w => w.command o 0x11 tag pl))
/-- IMAGE_SWAP. -/
def execImageSwap (o : Origin) (tag : Nat) (pl : List Byte) (s : State) : Host.Outcome State Fault Refusal :=
  .next (s.run (fun w => w.command o 0x12 tag pl))
/-- The payload of an ALERT row: OP is the row's own, unless the frame carries an OP that no row has (R178). -/
def alertPl (op : Nat) (pl : List Byte) : List Byte := if 3 < byteAt pl 1 then pl else pl.set 1 (BitVec.ofNat 8 op)

/-- ALERT with OP 0 (R178). -/
def execAlertSetCondition (o : Origin) (tag : Nat) (pl : List Byte) (s : State) : Host.Outcome State Fault Refusal :=
  .next (s.run (fun w => w.command o 0x18 tag (alertPl 0 pl)))
/-- ALERT with OP 1. -/
def execAlertClearCondition (o : Origin) (tag : Nat) (pl : List Byte) (s : State) : Host.Outcome State Fault Refusal :=
  .next (s.run (fun w => w.command o 0x18 tag (alertPl 1 pl)))
/-- ALERT with OP 2. -/
def execAlertAcknowledge (o : Origin) (tag : Nat) (pl : List Byte) (s : State) : Host.Outcome State Fault Refusal :=
  .next (s.run (fun w => w.command o 0x18 tag (alertPl 2 pl)))
/-- ALERT with OP 3. -/
def execAlertAcknowledgeGroups (o : Origin) (tag : Nat) (pl : List Byte) (s : State) :
    Host.Outcome State Fault Refusal :=
  .next (s.run (fun w => w.command o 0x18 tag (alertPl 3 pl)))
/-- DIM. -/
def execDim (o : Origin) (tag : Nat) (pl : List Byte) (s : State) : Host.Outcome State Fault Refusal :=
  .next (s.run (fun w => w.command o 0x19 tag pl))
/-- EVENT_READ. -/
def execEventRead (o : Origin) (tag : Nat) (pl : List Byte) (s : State) : Host.Outcome State Fault Refusal :=
  .next (s.run (fun w => w.command o 0x20 tag pl))
/-- EVENT_ACK. -/
def execEventAck (o : Origin) (tag : Nat) (pl : List Byte) (s : State) : Host.Outcome State Fault Refusal :=
  .next (s.run (fun w => w.command o 0x21 tag pl))
/-- POWER with STATE 1 (R405). -/
def execPowerIdle (o : Origin) (tag : Nat) (pl : List Byte) (s : State) : Host.Outcome State Fault Refusal :=
  .next (s.run (fun w => w.command o opPower tag (pl.set 0 1)))
/-- POWER with STATE 2. -/
def execPowerSleep (o : Origin) (tag : Nat) (pl : List Byte) (s : State) : Host.Outcome State Fault Refusal :=
  .next (s.run (fun w => w.command o opPower tag (pl.set 0 2)))
/-- POWER with STATE 3. -/
def execPowerDeep (o : Origin) (tag : Nat) (pl : List Byte) (s : State) : Host.Outcome State Fault Refusal :=
  .next (s.run (fun w => w.command o opPower tag (pl.set 0 3)))
/-- POWER with STATE 4. -/
def execPowerOff (o : Origin) (tag : Nat) (pl : List Byte) (s : State) : Host.Outcome State Fault Refusal :=
  .next (s.run (fun w => w.command o opPower tag (pl.set 0 4)))
/-- PADS_RELEASE. -/
def execPadsRelease (o : Origin) (tag : Nat) (pl : List Byte) (s : State) : Host.Outcome State Fault Refusal :=
  .next (s.run (fun w => w.command o 0x32 tag pl))
/-- CFG_BEGIN. -/
def execCfgBegin (o : Origin) (tag : Nat) (pl : List Byte) (s : State) : Host.Outcome State Fault Refusal :=
  .next (s.run (fun w => w.command o 0x40 tag pl))
/-- CFG_DATA. -/
def execCfgData (o : Origin) (tag : Nat) (pl : List Byte) (s : State) : Host.Outcome State Fault Refusal :=
  .next (s.run (fun w => w.command o 0x41 tag pl))
/-- CFG_END. -/
def execCfgEnd (o : Origin) (tag : Nat) (pl : List Byte) (s : State) : Host.Outcome State Fault Refusal :=
  .next (s.run (fun w => w.command o opCfgEnd tag pl))
/-- ABORT. -/
def execAbort (o : Origin) (tag : Nat) (atCommit : Bool) (s : State) : Host.Outcome State Fault Refusal :=
  .next (s.run (fun w => w.command o opAbort tag [] atCommit))
/-- FABRIC_WRAP. -/
def execFabricWrap (o : Origin) (tag : Nat) (pl : List Byte) (s : State) : Host.Outcome State Fault Refusal :=
  .next (s.run (fun w => w.command o 0x60 tag pl))
/-- FABRIC_WRAP_TIMEOUT. -/
def execFabricWrapTimeout (s : State) : Host.Outcome State Fault Refusal := .next (s.run wrapTimeout)
/-- NOP. -/
def execNop (o : Origin) (tag : Nat) (pl : List Byte) (s : State) : Host.Outcome State Fault Refusal :=
  .next (s.run (fun w => w.command o 0x7F tag pl))

/-- MASH_BURST_COMMIT (R159); a wrapped command that it completes lets the next one start (R353). -/
def execMashBurstCommit (ch : Fin 8) (s : State) : Host.Outcome State Fault Refusal :=
  .next (s.run (fun w => (mashBurstCommit w ch).drainWraps 9))

/-- POWER_EXIT (R406, R415), `asleepMs` after the entry: a frame held in IDLE is judged, and wrapped commands go on. -/
def powerExit (w : Work) (asleepMs : Nat) : Work :=
  let w := w.exitDone asleepMs
  if w.pwrState = 0 then w.judgeHeld.drainWraps 9 else w

/-- POWER_EXIT. -/
def execPowerExit (asleepMs : Nat) (s : State) : Host.Outcome State Fault Refusal :=
  .next (s.run (fun w => powerExit w asleepMs))

/-! ### G2: the SV-6120 register set (R310, R311, R314) -/

/-- EMU_CH. -/
def Work.emuCh (w : Work) : Nat := w.get F.HOST_EMU_EMU_CH

/-- The channel suits an emulated register set (R314). -/
def Work.emuSuits (w : Work) (lcd : Bool) : Bool :=
  let n := w.emuCh
  (w.chan n).isLcd == lcd && [stRunning, stQuiesced, stStandby].contains (w.chState n)

/-- An emulated transaction that finds its channel unsuited sets EMU_CH_BAD. -/
def Work.emuJudge (w : Work) (lcd : Bool) : Work := if w.emuSuits lcd then w else w.raise F.HOST_ERR_EMU_CH_BAD

/-- Reset values of the emulated SV-6120 registers. -/
def g2Reset (a : Nat) : Nat := if a = 0 then 0x01 else if a = 1 then 0x20 else 0

/-- An emulated register that software sets. -/
def Work.g2Reg (w : Work) (a : Nat) : Nat := tabGet w.host.g2 (g2Reset a) a

/-- That register set. -/
def Work.setG2 (w : Work) (a v : Nat) : Work :=
  { w with host := { w.host with g2 := tabPut w.host.g2 (g2Reset a) a v } }

/-- A byte read from the register set. -/
def Work.g2Byte (w : Work) (a : Nat) : Nat :=
  let n := w.emuCh
  if a = 4 then 0x61
  else if !w.emuSuits true then 0
  else if a = 2 then w.get F.SEQ_CFG_COMMONS n + 16 * w.get F.KILN_CFG_BIAS n
  else if a = 3 then (w.chState n == stRunning).toNat + 2 * w.get F.KILN_STAT_READY n
  else if a ≤ 1 ∨ (0x10 ≤ a ∧ a ≤ 0x23) then w.g2Reg a
  else 0

/-- One byte written to the register set: SOFT_RESET returns all of it to its reset values. -/
def Work.g2Store (w : Work) (a v : Nat) : Work :=
  if a = 0 ∧ bitOf v 7 then { w with host := { w.host with g2 := [] } }
  else if a = 0 then w.setG2 a (v % 8)
  else if a = 1 then w.setG2 a (v % 64)
  else if 0x10 ≤ a ∧ a ≤ 0x23 then w.setG2 a (v % 256)
  else w

/-- The element of emulated segment `i` (R311). -/
def g2Elem (i : Nat) : Nat := 64 * (i % 4) + i / 4

/-- The elements of RAM bytes `ks`, as the plane shows them. -/
def Work.g2Plane (w : Work) (ks : List Nat) : List (Nat × Bool) :=
  let on := bitOf (w.g2Reg 0) 0
  ks.flatMap (fun k => (List.range 8).map (fun b => (g2Elem (8 * k + b), on && bitOf (w.g2Reg (0x10 + k)) b)))

/-- A delivery of an emulated plane, as the unstamped SEG_WRITE it stands for would be taken (R163, R311, R313): between an
IMAGE_SWAP and its boundary, and with the input queue full, it writes nothing (R161, R164). -/
def Work.emuDeliver (w : Work) (es : List (Nat × Bool)) : Work :=
  let n := w.emuCh
  match w.displayCheck n with
  | none =>
    if (w.chan n).swapPending then w.raise F.MASH_ERR_HELD_BUSY n
    else if 256 ≤ (w.chan n).mash.queue.length then w
    else w.deliverBody n (.plane es) .host
  | some st => if st = stIsol then w.countIso w.emuCh else if st = stMode then w.raise F.HOST_ERR_EMU_MODE else w

/-- A setting register of a channel given a new value, in force at its boundary (R12, R361). -/
def Work.emuSet (w : Work) (f : Fld) (n k v : Nat) : Work :=
  let a := f.addr n k
  let new := setBits (w.reg a) f.hi f.lo v
  if new = w.reg a then w else (w.setSetting n a new).pairCommit n ⟨.reg a new, none⟩

/-- BLINK_EN and BLINK_RATE act on the BLINK_ELEM entries of the 160 elements, and on the group's clock (R311). -/
def Work.g2Blink (w : Work) : Work :=
  let n := w.emuCh
  let g := w.get F.HOST_EMU_G2_BLK
  let on := bitOf (w.g2Reg 0) 1
  let w := (List.range 32).foldl (fun w j =>
    let word := (List.range 8).foldl (fun v i =>
      if (8 * j + i) % 64 < 40 then setBits v (4 * i + 3) (4 * i) (8 * on.toNat + g) else v)
      (w.get F.BLINK_ELEM_ENTRIES n j)
    w.emuSet F.BLINK_ELEM_ENTRIES n j word) w
  if on then w.emuSet F.BLINK_GRP_C_SRC n g (if bitOf (w.g2Reg 0) 2 then 2 else 1) else w

/-- CONTRAST acts on VSET (R311). -/
def Work.g2Contrast (w : Work) : Work :=
  let v : Int := (w.get F.HOST_EMU_G2_VBASE : Int) + 5 * ((w.g2Reg 1 : Int) - 32)
  w.emuSet F.KILN_VSET_VSET w.emuCh 0 (min 1600 (max 250 v)).toNat

/-- What a change of the register set does: `old` the set before, `contrast` that CONTRAST was written. -/
def Work.g2Apply (w : Work) (old : Work) (contrast : Bool) : Work :=
  let ctrl := w.g2Reg 0
  let disp := bitOf ctrl 0 != bitOf (old.g2Reg 0) 0
  let ks := (List.range 20).filter (fun k => disp || w.g2Reg (0x10 + k) != old.g2Reg (0x10 + k))
  let w := if ks.isEmpty then w else w.emuDeliver (w.g2Plane ks)
  let w := if bitsOf ctrl 2 1 = bitsOf (old.g2Reg 0) 2 1 then w else w.g2Blink
  if contrast then w.g2Contrast else w

/-- A G2 transaction reaches the register set: the port is released and not in G1, and G2_EN is set; otherwise G2_OFF tells
of it (R310). -/
def Work.g2Open (w : Work) : Work × Bool :=
  if w.g3Deaf then (w, false)
  else if w.flag F.HOST_CFG_G2_EN then (w, true)
  else (w.raise F.HOST_ERR_G2_OFF, false)

/-- An emulated write is refused by mode (R22, R311, R313). -/
def Work.emuBarred (w : Work) : Bool := w.mode == mdBoot || w.mode == mdRecovery || (w.mode == mdTest && w.inTestMask w.emuCh)

/-- G2_WRITE: bytes to consecutive registers from `addr` up. -/
def g2Write (w : Work) (addr : Nat) (data : List Byte) : Work :=
  let (w, ok) := w.g2Open
  if !ok then w
  else
    let w := w.emuJudge true
    if w.emuBarred then w.raise F.HOST_ERR_EMU_MODE
    else if !w.emuSuits true then w
    else
      let w' := ((List.range data.length).zip data).foldl (fun x p => x.g2Store (addr + p.1) p.2.toNat) w
      w'.g2Apply w (decide (addr ≤ 1 ∧ 1 < addr + data.length) || w'.g2Reg 1 != w.g2Reg 1)

/-- G2_WRITE. -/
def execG2Write (addr : Nat) (data : List Byte) (s : State) : Host.Outcome State Fault Refusal :=
  .next (s.run (fun w => g2Write w addr data))

/-- G2_SOFT_RESET: 1 written to SOFT_RESET of CTRL. -/
def execG2SoftReset (s : State) : Host.Outcome State Fault Refusal := .next (s.run (fun w => g2Write w 0 [0x80]))

/-- The register address at which the first byte of a read would be 0xA5: such a transaction is a G3 one (R292). -/
def g2Unread : Nat := 0x25

/-- G2_READ: `count` bytes clocked out from `addr` up. -/
def g2Read (w : Work) (addr count : Nat) : Work :=
  let (w, ok) := if addr = g2Unread then (w, false) else w.g2Open
  if !ok then w
  else
    let w := w.emuJudge true
    { w with host := { w.host with out := (upFrom addr count).map (fun a => BitVec.ofNat 8 (w.g2Byte a)) } }

/-- G2_READ. -/
def execG2Read (addr : Nat) (count : Nat) (s : State) : Host.Outcome State Fault Refusal :=
  .next (s.run (fun w => g2Read w addr count))

/-! ### G1: the SV-4410 protocol (R224, R312 to R314) -/

/-- A G1 transaction is taken: the port is released, and speaks G1. -/
def Work.g1Open (w : Work) : Bool := !w.hostDeaf && w.flag F.HOST_CFG_GEN && decide (w.pwrState < 2)

/-- A G1 write reaches the plane: its mode and its channel allow it (R313, R314). -/
def Work.g1Writes (w : Work) : Work × Bool :=
  let w := w.emuJudge false
  if [mdBoot, mdTest, mdRecovery].contains w.mode then (w.raise F.HOST_ERR_EMU_MODE, false) else (w, w.emuSuits false)

/-- The elements of plane bytes `as`, as the display shows them (R313). -/
def Work.g1Plane (w : Work) (as : List Nat) : List (Nat × Bool) :=
  as.flatMap (fun a => (List.range 8).map (fun j =>
    (64 * (a / 2) + 8 * (a % 2) + j, !w.host.g1Off && bitOf (w.host.g1.getD a 0).toNat j)))

/-- A write transaction: the bytes at their addresses, and one delivery of them. -/
def g1Write (w : Work) (at_ : List (Nat × Byte)) : Work :=
  if !w.g1Open then w
  else
    let (w, ok) := w.g1Writes
    if !ok then w
    else
      let w := { w with host := { w.host with g1 := at_.foldl (fun l p => l.set p.1 p.2) w.host.g1 } }
      if at_.isEmpty then w else w.emuDeliver (w.g1Plane ((List.range 16).filter (fun a => at_.any (fun p => p.1 == a))))

/-- G1_WRITE_AUTO: the address wraps from 0x0F to 0x00. -/
def execG1WriteAuto (addr : Nat) (data : List Byte) (s : State) : Host.Outcome State Fault Refusal :=
  .next (s.run (fun w => g1Write w ((List.range data.length).zip data |>.map (fun p => ((addr + p.1) % 16, p.2)))))

/-- G1_WRITE_FIXED. -/
def execG1WriteFixed (addr : Nat) (data : Byte) (s : State) : Host.Outcome State Fault Refusal :=
  .next (s.run (fun w => g1Write w [(addr % 16, data)]))

/-- The channel's queue set, and QCOUNT with it. -/
def Work.setCompat (w : Work) (n : Nat) (q : List (Nat × Nat)) : Work :=
  (w.modChan n (fun c => { c with cask := { c.cask with compat := q } })).put F.CASK_COMPAT_QCOUNT q.length n

/-- The bytes of a read transaction. -/
def Work.clockOut (w : Work) (b : List Byte) : Work := { w with host := { w.host with out := b } }

/-- G1_READ_KEY (R224): the oldest entry is returned and removed; an empty queue returns 0xFF with stamp 0xFFFF. -/
def g1ReadKey (w : Work) : Work :=
  if !w.g1Open then w
  else
    let w := w.emuJudge false
    match (w.chan w.emuCh).cask.compat with
    | [] => w.clockOut [0xFF, 0xFF, 0xFF]
    | (k, t) :: rest => (w.setCompat w.emuCh rest).clockOut (leBytes 1 k ++ leBytes 2 t)

/-- G1_READ_KEY. -/
def execG1ReadKey (s : State) : Host.Outcome State Fault Refusal := .next (s.run g1ReadKey)

/-- G1_READ_COUNT. -/
def execG1ReadCount (s : State) : Host.Outcome State Fault Refusal :=
  .next (s.run (fun w =>
    if !w.g1Open then w
    else (w.emuJudge false).clockOut (leBytes 1 (w.chan w.emuCh).cask.compat.length)))

/-- G1_QUEUE_CLEAR. -/
def g1QueueClear (w : Work) : Work :=
  if !w.g1Open then w
  else
    let w := w.emuJudge false
    if !w.emuSuits false then w else (w.setCompat w.emuCh []).putFlag F.CASK_COMPAT_QOVF false w.emuCh

/-- G1_QUEUE_CLEAR. -/
def execG1QueueClear (s : State) : Host.Outcome State Fault Refusal := .next (s.run g1QueueClear)

/-- A DISPLAY command: the plane shown, or off (R313). -/
def Work.g1Display (w : Work) (off : Bool) : Work :=
  let w := { w with host := { w.host with g1Off := off } }
  w.emuDeliver (w.g1Plane (List.range 16))

/-- G1_DISPLAY_OFF. -/
def execG1DisplayOff (s : State) : Host.Outcome State Fault Refusal :=
  .next (s.run (fun w =>
    if !w.g1Open then w
    else
      let (w, ok) := w.g1Writes
      if ok then w.g1Display true else w))

/-- VALUE of the G1 class by brightness: round(65,535 × 2^((b − 15) / 2)) (R313). -/
def g1Values : List Nat :=
  [362, 512, 724, 1024, 1448, 2048, 2896, 4096, 5793, 8192, 11585, 16384, 23170, 32768, 46340, 65535]

/-- G1_DISPLAY_ON. -/
def execG1DisplayOn (b : Nat) (s : State) : Host.Outcome State Fault Refusal :=
  .next (s.run (fun w =>
    if !w.g1Open then w
    else
      let (w, ok) := w.g1Writes
      if ok then (w.emuSet F.LED_CLASS_VALUE w.emuCh (w.get F.HOST_EMU_G1_CLASS) (g1Values.getD (b % 16) 0)).g1Display false
      else w))

/-- G1_BAD_COMMAND. -/
def execG1BadCommand (_cmd : Byte) (s : State) : Host.Outcome State Fault Refusal :=
  .next (s.run (fun w => if w.g1Open then w.raise F.HOST_ERR_G1_BADCMD else w))

end Sys2Proof.Machine
end

