-- ==== Sys2Proof/Machine/Fabric.lean ====
section
/-! DEFINITION. The Rhaile fabric: links, frames, discovery, the join handshake, routes and their healing, time, data sets
and wrapped commands (16_rhaile_fabric.md; R356, R371). -/

namespace Sys2Proof.Machine

/-- The fabric changed. -/
def Work.modFab (w : Work) (f : Fab → Fab) : Work := { w with fab := f w.fab }

/-- A port beside its registers. -/
def Work.fabPort (w : Work) (p : Nat) : FabPort := w.fab.ports.getD p FabPort.init

/-- RHL_STAT.STATE: OFFLINE. -/
def fsOffline : Nat := 0
/-- LISTEN. -/
def fsListen : Nat := 1
/-- JOINING. -/
def fsJoining : Nat := 2
/-- JOINED. -/
def fsJoined : Nat := 3
/-- UNJOINED. -/
def fsUnjoined : Nat := 4
/-- BOOT_CLIENT. -/
def fsBoot : Nat := 5
/-- ROOT. -/
def fsRoot : Nat := 6

/-- STATE of the node. -/
def Work.fabState (w : Work) : Nat := w.get F.RHL_STAT_STATE

/-- The ports that carry fabric frames, but for one. -/
def Work.otherPorts (w : Work) (p : Nat) : List Nat := (List.range 3).filter (fun i => i != p && w.carries i)

/-- A FABRIC entry (R355). -/
def Work.fabEntry (w : Work) (code value : Nat) (reason : Nat := 0) : Work :=
  w.entryNow devRing 0x83 code 0 (value % 2 ^ 16 + 2 ^ 16 * reason)

/-- A frame by one port, of a kind whose payload layout the spec does not give (log entry 6). -/
def Work.fabSend (w : Work) (port kind dest : Nat) (contents : List Nat) : Work :=
  w.fabOut (port, 0) kind dest (fabClass kind) (Config.fabBytes kind contents)

/-- Such a frame by the routes, or to every node. -/
def Work.fabTell (w : Work) (kind dest : Nat) (contents : List Nat) : Work :=
  w.fabCast kind dest (fabClass kind) (Config.fabBytes kind contents)

/-! ### Leaving and joining (R325, R342, R343, R349) -/

/-- A member leaves the fabric: LOCK_SRC returns to its own at the next boundary (R349). -/
def Work.leaveFabric (w : Work) : Work :=
  if w.fabState ≠ fsJoined then w
  else
    let v := setBits (w.reg (R.SYS_TICK_CFG.addr 0 0)) 14 12 w.lock.own
    w.modLock (fun l => { l with cfgPend := some (l.cfgPend.getD v), everLocked := false, adopt := none })

/-- The node holds no address and no routes. -/
def Work.noAddress (w : Work) : Work :=
  let w := (List.range 32).foldl (fun w k => w.setReg (R.RHL_ROUTE.addr 0 k) 0) w
  let w := (List.range 3).foldl (fun w p => w.putFlag F.RHL_PORT_RING_PORT false 0 p) w
  let w := (w.put F.RHL_STAT_ADDR_ACT 0).putFlag F.RHL_STAT_RING false
  w.modFab (fun b => { b with ring := none, broken := [], routes := none })

/-- The node becomes UNJOINED, for a reason of R355; the entry names the address it was to have. -/
def Work.unjoin (w : Work) (reason addr : Nat) : Work :=
  let w := ((w.leaveFabric.noAddress).put F.RHL_STAT_STATE fsUnjoined).put F.RHL_STAT_REASON reason
  let w := w.modFab (fun b => { b with shakes := [] })
  (if reason = 1 then w.raise F.RHL_ERR_AUTH_FAIL else w).fabEntry 2 addr reason

/-- "RJ1", of the node. -/
def rj1 : List Byte := [0x52, 0x4A, 0x31]
/-- "RJ2", of the root. -/
def rj2 : List Byte := [0x52, 0x4A, 0x32]

/-- The MAC under the fabric key; none where the key store holds none. -/
def Work.joinMac (w : Work) (text : List Byte) : Option (List Byte) := (w.key 2).map (fun k => Config.hmacSha256 k text)

/-- LOCK_SRC reads FABRIC from the join on, and the lock begins anew (R46, R349). -/
def Work.lockToFabric (w : Work) : Work :=
  let own := w.get F.SYS_TICK_CFG_LOCK_SRC
  let w := w.modLock (fun l => { l with own := own, everLocked := false, adopt := none, retryAt := none })
  let w := w.put F.SYS_TICK_CFG_LOCK_SRC 1
  if own = 1 ∨ w.lockState = lkFree then w else w.setLock lkAcquire

/-! ### Ring routes (R344, R345, R347) -/

/-- Hops toward rising positions from this node to a ring position. -/
def ringAhead (r : RingInfo) (o : Nat) : Nat := (o + r.len - r.pos % Nat.max 1 r.len) % Nat.max 1 r.len

/-- The links of the rising path to a position: `q` for the link from position `q` to the next. -/
def ringFwdLinks (r : RingInfo) (o : Nat) : List Nat :=
  (List.range (ringAhead r o)).map (fun i => (r.pos + i) % Nat.max 1 r.len)

/-- The links of the falling path. -/
def ringBackLinks (r : RingInfo) (o : Nat) : List Nat :=
  (List.range (r.len - ringAhead r o)).map (fun i => (o + i) % Nat.max 1 r.len)

/-- The direction with fewer hops is the rising one; P0's where they are equal (R344). -/
def ringPrefersFwd (r : RingInfo) (o : Nat) : Bool :=
  let a := ringAhead r o
  decide (a < r.len - a) || (decide (a = r.len - a) && r.fwd == 0)

/-- The port toward a ring position, given the broken links: a path that would cross one goes the other way (R345). -/
def ringPortTo (r : RingInfo) (broken : List Nat) (o : Nat) : Nat :=
  let f := ringPrefersFwd r o
  let crosses := ((if f then ringFwdLinks r o else ringBackLinks r o).any (fun q => broken.contains q))
  if f != crosses then r.fwd else r.back

/-- The route entry of an address set: 0 none or local, else port + 1. -/
def Work.setRoute (w : Work) (a port : Nat) : Work :=
  let k := a / 16
  let i := 2 * (a % 16)
  w.put F.RHL_ROUTE_PORTS (setBits (w.get F.RHL_ROUTE_PORTS 0 k) (i + 1) i port) 0 k

/-- The routes across the ring taken anew. -/
def Work.reroute (w : Work) (r : RingInfo) : Work :=
  (r.owners.filter (fun x => x.2 != r.pos)).foldl (fun w x => w.setRoute x.1 (ringPortTo r w.fab.broken x.2 + 1)) w

/-- A ring whose broken links are one more. -/
def ringBreaks (r : RingInfo) (link : Nat) : RingInfo := { r with broken := r.broken ++ [link] }

/-- A ring link is known to be broken: every route across it changes direction, and so will the routes about to be adopted
(R345). `port` is concerned. -/
def Work.heal (w : Work) (r : RingInfo) (link port : Nat) : Work :=
  if w.fab.broken.contains link then w
  else
    let w := (w.modFab (fun b => { b with
      broken := b.broken ++ [link], routes := b.routes.map (fun x => (x.1, x.2.map (fun r => ringBreaks r link))) })).reroute r
    ((w.countUp F.RHL_CNT_HEALS).ev 0x41).fabEntry 5 port

/-! ### The root's view (R339, R340, R344, R350) -/

/-- The nodes from one up to the root, itself the first. -/
def climb (nodes : List Node) : Nat → Nat → List Nat
  | 0, u => [u]
  | k + 1, u =>
    match nodes.find? (fun x => x.uid == u) with
    | some x => u :: climb nodes k x.parent
    | none => [u]

/-- The nodes from one up to the root, in the root's record. -/
def Work.above (w : Work) (u : Nat) : List Nat := climb w.fab.nodes w.fab.nodes.length u

/-- A discovered node. -/
def Work.node? (w : Work) (u : Nat) : Option Node := w.fab.nodes.find? (fun x => x.uid == u)

/-- A discovered node changed. -/
def Work.modNode (w : Work) (u : Nat) (f : Node → Node) : Work :=
  w.modFab (fun b => { b with nodes := b.nodes.map (fun x => if x.uid = u then f x else x) })

/-- The port of node `x` toward node `y` on the discovery tree. -/
def Work.treePort (w : Work) (x y : Nat) : Nat :=
  match ((w.above y).filterMap w.node?).find? (fun c => c.parent == x) with
  | some c => c.port
  | none => ((w.node? x).map (·.inPort)).getD 0

/-- The position of a node on a ring. -/
def ringPosOf (ring : List RingNode) (u : Nat) : Option Nat := ring.findIdx? (fun x => x.uid == u)

/-- The ring that a node stands on. -/
def Work.ringWith (w : Work) (u : Nat) : Option (List RingNode) := w.fab.rings.find? (fun r => r.any (fun x => x.uid == u))

/-- The ring position that owns a node: its own, or that of the ring node its tree hangs from; what lies above the ring hangs
from its first node. -/
def Work.owner (w : Work) (ring : List RingNode) (u : Nat) : Nat := ((w.above u).findSome? (ringPosOf ring)).getD 0

/-- The address of a node in the root's record, 0 for none. -/
def Work.addrOf (w : Work) (u : Nat) : Nat := if u = ownUid then w.ownAddr else ((w.node? u).map (·.addr)).getD 0

/-- The links of a ring that the root knows to be broken (R345). -/
def Work.brokenIn (w : Work) (ring : List RingNode) : List Nat :=
  if ring.any (fun x => x.uid == ownUid) then w.fab.broken
  else match w.fab.rings.findIdx? (fun r => r == ring) with
    | some k => (w.fab.far.filter (fun x => x.1 == k)).map (·.2)
    | none => []

/-- What a ring node is to know of its ring. -/
def Work.ringInfoOf (w : Work) (u : Nat) : Option RingInfo :=
  match w.ringWith u with
  | none => none
  | some ring =>
    (ring.find? (fun x => x.uid == u)).map (fun x =>
      { len := ring.length, pos := w.owner ring u, fwd := x.fwd, back := x.back
        members := ring.map (fun y => w.addrOf y.uid)
        owners := (w.ownAddr, w.owner ring ownUid) ::
          (w.fab.nodes.filter (fun y => y.addr != 0)).map (fun y => (y.addr, w.owner ring y.uid))
        broken := w.brokenIn ring })

/-- The route entry of node `x` for node `y` (R344). -/
def Work.entryFor (w : Work) (x y : Nat) : Nat :=
  if x = y then 0
  else match w.ringWith x, w.ringInfoOf x with
    | some ring, some r =>
      let o := w.owner ring y
      if o = r.pos then w.treePort x y + 1 else ringPortTo r r.broken o + 1
    | _, _ => w.treePort x y + 1

/-- The route table of node `x`, as the words of RHL_ROUTE. -/
def Work.tableFor (w : Work) (x : Nat) : List Nat :=
  let known := (w.ownAddr, ownUid) :: (w.fab.nodes.filter (fun y => y.addr != 0)).map (fun y => (y.addr, y.uid))
  (List.range 32).map (fun k => known.foldl (fun v y =>
    if y.1 / 16 = k then setBits v (2 * (y.1 % 16) + 1) (2 * (y.1 % 16)) (w.entryFor x y.2) else v) 0)

/-- The latency from a node up to the root on the discovery tree: 800 ns and the link's delay a hop (R337). -/
def Work.treeLat (w : Work) (u : Nat) : Nat := (((w.above u).filterMap w.node?).map (fun x => 800 + x.delay)).sum

/-- The latency between two nodes on the discovery tree. -/
def Work.treeDist (w : Work) (x y : Nat) : Nat :=
  let ys := w.above y
  let meet := ((w.above x).find? (fun u => ys.contains u)).getD ownUid
  w.treeLat x + w.treeLat y - 2 * w.treeLat meet

/-- The latencies across a ring from the owner of one node to that of another: along the discovery tree, in the direction in
use, and in the other (R344, R350). -/
def Work.arcLats (w : Work) (ring : List RingNode) (x y : Nat) : Nat × Nat × Nat :=
  let i := w.owner ring x
  let j := w.owner ring y
  let cost := ring.map (fun r => 800 + r.delay)
  let arc := ((cost.drop (min i j)).take (max i j - min i j)).sum
  let info : RingInfo := ⟨ring.length, i, (ring.getD i ⟨0, 0, 0, 0⟩).fwd, 0, [], [], []⟩
  if i = j then (0, 0, 0)
  else if ringPrefersFwd info j = decide (i < j) then (arc, arc, cost.sum - arc)
  else (arc, cost.sum - arc, arc)

/-- The latency of the longest path between nodes that any one broken ring link leaves, or that none does (R350). -/
def Work.pathLat (w : Work) (x y : Nat) : Nat :=
  let arcs := w.fab.rings.map (fun r => w.arcLats r x y)
  w.treeDist x y - (arcs.map (·.1)).sum + (arcs.map (·.2.1)).sum + (arcs.map (fun a => a.2.2 - a.2.1)).foldl max 0

/-- The largest path latency between the nodes of a list and the root (R350). -/
def Work.worstLat (w : Work) (us : List Nat) : Nat :=
  let all := ownUid :: us
  ((all.map (fun x => (all.map (fun y => w.pathLat x y)).foldl max 0))).foldl max 0

/-- The joined nodes. -/
def Work.joinedNodes (w : Work) : List Nat := (w.fab.nodes.filter (fun x => x.state == 1)).map (·.uid)

/-- The root's own routes and ring, and RHL_WORST, from its record. -/
def Work.rootView (w : Work) : Work :=
  let w := ((List.range 32).zip (w.tableFor ownUid)).foldl (fun w x => w.setReg (R.RHL_ROUTE.addr 0 x.1) x.2) w
  let r := w.ringInfoOf ownUid
  let w := w.putFlag F.RHL_STAT_RING r.isSome
  let w := (List.range 3).foldl (fun w p =>
    w.putFlag F.RHL_PORT_RING_PORT (match r with | some r => p == r.fwd || p == r.back | none => false) 0 p) w
  (w.modFab (fun b => { b with ring := r })).put F.RHL_WORST_WORST_NS (Nat.min (2 ^ 24 - 1) (w.worstLat w.joinedNodes))

/-- Route tables sent to every joined node, each with an entry for every address there is: where an address is given, or a ring
closes, and where a link is back (R344, R346; log entry 45). -/
def Work.sendTables (w : Work) : Work :=
  (w.fab.nodes.filter (fun x => x.state == 1)).foldl (fun w x => w.fabTell 0x05 x.addr ([x.addr] ++ w.tableFor x.uid)) w

/-- A ring link is back: fresh route tables to every joined node, and the root's own, adopted at the next boundary; until then
no route changes (R346). `broken` is what is left of the broken links of the root's own ring. -/
def Work.freshTables (w : Work) (broken : List Nat) : Work :=
  let old := w.fab.broken
  let w := (w.modFab (fun b => { b with broken := broken })).sendTables
  w.modFab (fun b => { b with broken := old, routes := some (w.tableFor ownUid, w.ringInfoOf ownUid) })

/-! ### Links (R332, R333, R341, R346) -/

/-- A LINK_STATE broadcast; of a break, away from it (R346). -/
def Work.tellLink (w : Work) (port pos : Nat) (up : Bool) : Work :=
  w.fabTell 0x08 511 [w.ownAddr, port, up.toNat, pos]

/-- Discovery beyond a port: the root probes it (R339, R341). -/
def Work.probePort (w : Work) (p : Nat) : Work :=
  if w.carries p then w.fabSend p 0x01 0 [p, if w.fabState = fsRoot then ownUid else w.fab.rootUid] else w

/-- The link that a ring port stands on: from this position to the next, or from the previous. -/
def ringLinkAt (r : RingInfo) (p : Nat) : Nat := if p = r.fwd then r.pos else (r.pos + r.len - 1) % Nat.max 1 r.len

/-- LINK_DOWN (R332): at the ends of a ring link, the routes heal and the break is told (R345, R346). -/
def linkDown (w : Work) (p : Nat) : Work :=
  if !w.portOn p ∨ !(w.flag F.RHL_PORT_LINK 0 p || w.flag F.RHL_PORT_HOLD 0 p) then w
  else
    let was := w.flag F.RHL_PORT_LINK 0 p
    let w := (w.putFlag F.RHL_PORT_LINK false 0 p).putFlag F.RHL_PORT_HOLD false 0 p
    let w := (w.modPort p (fun x => { x with holdLeft := none, t1 := none })).raise F.RHL_ERR_LINK_DOWN
    let w := if p = 2 ∧ w.flag F.RHL_CFG_PAIR_P2 then w.setAuth .idle else w
    let w := w.fabEntry 3 p
    if !was then w
    else match w.fab.ring with
      | some r => if ringHas r p then (w.heal r (ringLinkAt r p) p).tellLink p r.pos false else w
      | none => w

/-- LINK_DOWN. -/
def execLinkDown (p : Fin 3) (s : State) : Host.Outcome State Fault Refusal := .next (s.run (fun w => linkDown w p))

/-- A link comes into use: a discovery of what lies beyond it starts, at the node that sees it, by whom it is told too (R341);
on the pair link the handshake (R422). -/
def Work.linkInUse (w : Work) (p : Nat) : Work :=
  let w := w.putFlag F.RHL_PORT_LINK true 0 p
  if p = 2 ∧ w.flag F.RHL_CFG_PAIR_P2 then (w.setAuth .idle).pairChallenge
  else if w.fabState = fsRoot then w.probePort p
  else if w.fabState = fsJoined then (w.tellLink p ((w.fab.ring.map (·.pos)).getD 0) true).probePort p
  else if w.fabState = fsUnjoined ∧ w.fab.rootUid ≠ 0 then w.probePort p
  else w

/-- LINK_UP (R332): a link that was up before waits out its 64 ticks. -/
def linkUp (w : Work) (p : Nat) : Work :=
  if !w.portOn p ∨ w.flag F.RHL_PORT_LINK 0 p ∨ w.flag F.RHL_PORT_HOLD 0 p then w
  else if (w.fabPort p).seen then
    (w.putFlag F.RHL_PORT_HOLD true 0 p).modPort p (fun x => { x with holdLeft := some 64 })
  else (w.modPort p (fun x => { x with seen := true, line := [.idle] })).linkInUse p

/-- LINK_UP. -/
def execLinkUp (p : Fin 3) (s : State) : Host.Outcome State Fault Refusal := .next (s.run (fun w => linkUp w p))

/-- LINK_REJOIN (R332, R346): a link that has stayed up for 64 ticks is used again; a ring link's return makes the root
send fresh route tables. -/
def linkRejoin (w : Work) (p : Nat) : Work :=
  if !w.portOn p ∨ !w.flag F.RHL_PORT_HOLD 0 p ∨ (w.fabPort p).holdLeft ≠ some 0 then w
  else
    let w := (w.putFlag F.RHL_PORT_HOLD false 0 p).modPort p (fun x => { x with holdLeft := none })
    let w := (w.fabEntry 4 p).linkInUse p
    match w.fab.ring with
    | some r =>
      if ringHas r p ∧ w.fabState = fsRoot then w.freshTables (w.fab.broken.filter (fun q => q != ringLinkAt r p)) else w
    | none => w

/-- LINK_REJOIN. -/
def execLinkRejoin (p : Fin 3) (s : State) : Host.Outcome State Fault Refusal := .next (s.run (fun w => linkRejoin w p))

/-- PDELAY_SEND (R333): every 16 ticks; `ns` is the time stamp of its /S/. -/
def execPdelaySend (p : Fin 3) (ns : Nat) (s : State) : Host.Outcome State Fault Refusal :=
  .next (s.run (fun w =>
    if w.portOn p ∧ (w.flag F.RHL_PORT_LINK 0 p ∨ w.flag F.RHL_PORT_HOLD 0 p) ∧ w.tick % 16 = 0 then
      (w.modPort p (fun x => { x with t1 := some ns })).fabSend p 0x11 0 [ns]
    else w))

/-- The neighbour's address, as its frames name it. -/
def Work.meet (w : Work) (p src : Nat) : Work := w.put F.RHL_PORT_NEIGH (src % 512) 0 p

/-- PDELAY_REQ (R333): answered with its time stamps. -/
def execPdelayReq (p : Fin 3) (src t1 t2 t3 : Nat) (s : State) : Host.Outcome State Fault Refusal :=
  .next (s.run (fun w =>
    if w.portOn p ∧ (w.flag F.RHL_PORT_LINK 0 p ∨ w.flag F.RHL_PORT_HOLD 0 p) then
      (w.meet p src).fabSend p 0x12 src [t1, t2, t3]
    else w))

/-- The latency a port was declared with: copper stands for 15 m of cable (R333). -/
def Work.declared (w : Work) (p : Nat) : Nat := if w.get F.RHL_DECL_DECL_NS 0 p = 0 then 75 else w.get F.RHL_DECL_DECL_NS 0 p

/-- The latency that a port takes its link to have: the declared one, and once it has been found too small the measured one
(R333). -/
def Work.linkLat (w : Work) (p : Nat) : Nat := if (w.fabPort p).mismatch then w.get F.RHL_PORT_DELAY_NS 0 p else w.declared p

/-- PDELAY_RSP (R333): half of the round trip less the neighbour's turn-round is the one-way delay. MEDIA_MISMATCH is set as
often as the delay is found too long; its entry is written once for as long as the flag stands (log entry 44). -/
def pdelayRsp (w : Work) (p src t2 t3 t4 : Nat) : Work :=
  match (w.fabPort p).t1 with
  | none => w
  | some t1 =>
    if !w.portOn p then w
    else
      let d := (roundOpen (((t4 : Int) - t1) - ((t3 : Int) - t2)) 2).toNat
      let w := (w.meet p src).put F.RHL_PORT_DELAY_NS (Nat.min 65535 d) 0 p
      let bad := decide (w.declared p + 100 < d)
      let known := (w.fabPort p).mismatch && w.flag F.RHL_ERR_MEDIA_MISMATCH
      let w := w.modPort p (fun x => { x with t1 := none, mismatch := x.mismatch || bad })
      if bad ∧ !known then (w.raise F.RHL_ERR_MEDIA_MISMATCH).fabEntry 7 p else w

/-- PDELAY_RSP. -/
def execPdelayRsp (p : Fin 3) (src t2 t3 t4 : Nat) (s : State) : Host.Outcome State Fault Refusal :=
  .next (s.run (fun w => pdelayRsp w p src t2 t3 t4))

/-! ### Forwarding (R334 to R336, R343, R347, R371) -/

/-- The message kinds of the fabric; PAIR frames travel on the pair link only. -/
def fabKinds : List Nat := [0x01, 0x02, 0x03, 0x04, 0x05, 0x08, 0x10, 0x11, 0x12, 0x20, 0x21, 0x22, 0x30, 0x31]

/-- The kinds that go to the neighbour only. -/
def neighbourKinds : List Nat := [0x01, 0x11, 0x12]

/-- The ports a frame that came in on `p` goes out by, each with its BLIMIT. A node that holds no routes passes every frame
on, with a hop of its BLIMIT used up (R343; log entry 44). -/
def Work.outPorts (w : Work) (p dest blimit : Nat) : List (Nat × Nat) :=
  let others := w.otherPorts p
  let all := others.map (fun q => (q, blimit - 1))
  if dest = 511 then
    match w.fab.ring with
    | none => all
    | some r =>
      if ringHas r p then
        (others.filter (fun q => !ringHas r q)).map (fun q => (q, 0)) ++
          (if blimit = 0 then [] else (others.filter (ringHas r)).map (fun q => (q, blimit - 1)))
      else w.castPorts others
  else if w.joined then
    let r := w.routeOf dest
    if r ≠ 0 ∧ others.contains (r - 1) then [(r - 1, 0)] else []
  else all

/-- FLAGS of a frame that goes out by port `q`: where it enters the ring here, DIR names the direction (R334, R347). -/
def Work.dirFlags (w : Work) (p q flags : Nat) : Nat :=
  match w.fab.ring with
  | some r => if ringHas r q && !ringHas r p then setBit flags 2 (w.ringDir q) else flags
  | none => flags

/-- The payload of a frame on its way through: a TIME frame's CORRECTION, the last 8 bytes, grows by the node's residence time and
by the delay of the link it came by, in 1/16 ns (R348; log entry 44). -/
def Work.through (w : Work) (p kind : Nat) (payload : List Byte) : List Byte × Work :=
  if kind ≠ 0x10 ∨ payload.length < 8 then (payload, w)
  else
    let (stay, w) := w.fresh 16
    let k := payload.length - 8
    (payload.take k ++ leBytes 8 (leAt payload k 8 + stay + 16 * w.linkLat p), w)

/-- FRAME_FORWARD: a frame received on port `p`; one that ended in /E/ has no good CRC (R335). `sending` lists the ports that are sending a NORMAL or BULK frame, which an
URGENT one suspends (R336). What the frame does where it is delivered is its own kind's row. -/
def frameForward (w : Work) (p dest src kind flags hops blimit : Nat) (payload : List Byte) (hcrcGood crcGood : Bool)
    (sending : List Nat) : Work :=
  let cls := flags % 4
  let urgent := cls == 0
  if !w.carries p then w
  else if !hcrcGood then ((w.raise F.RHL_ERR_CRC).countUp F.RHL_CNT_CRC_ERRS).ev 0x40 p
  else
    let w := if crcGood then w else ((w.raise F.RHL_ERR_CRC).countUp F.RHL_CNT_CRC_ERRS).ev 0x40 p
    if hops = 0 ∨ cls = 3 ∨ !(fabKinds.contains kind || kind / 16 = 4) then w.raise F.RHL_ERR_HOP_DROP
    else if kind / 16 = 4 ∨ neighbourKinds.contains kind ∨ (urgent ∧ 64 < payload.length) then w
    else if dest ≠ 511 ∧ dest = w.ownAddr then
      if w.pairUp ∧ crcGood then
        let b := fabFrame dest src kind flags hops blimit payload true
        (pieces b.length b).foldl (fun w x => w.pairFrame 0x49 dest x) w
      else w
    else
      let (payload, w) := w.through p kind payload
      (w.outPorts p dest blimit).foldl (fun w q =>
      let w := (w.send ⟨0, q.1, kind, dest,
        fabFrame dest src kind (w.dirFlags p q.1 flags) (hops - 1) q.2 payload crcGood⟩).ev 0x42 q.1
      let w := w.modPort q.1 (fun x => { x with line := lineSets (urgent && sending.contains q.1) crcGood })
      if urgent then
        let w := w.ev 0x43 q.1
        if sending.contains q.1 then w.ev 0x44 q.1 else w
      else w) w

/-- FRAME_FORWARD. -/
def execFrameForward (p : Fin 3) (dest src kind flags hops blimit : Nat) (payload : List Byte)
    (hcrcGood crcGood : Bool) (sending : List Nat) (s : State) : Host.Outcome State Fault Refusal :=
  .next (s.run (fun w => frameForward w p dest src kind flags hops blimit payload hcrcGood crcGood sending))

/-! ### Discovery (R338 to R341) -/

/-- A unique ID is that of the other device of this device's pair, which is one logical node with it (R338, R371). -/
def Work.isPartner (w : Work) (u : Nat) : Bool := w.pairOn && w.partnerUid == u

/-- The root's address as a node knows it: from its latest JOIN_CHAL, and before one 1 (R340; log entry 46). -/
def Work.rootDest (w : Work) : Nat := if w.fab.rootAddr = 0 then 1 else w.fab.rootAddr

/-- PROBE (R339): the node answers the root, and probes on by its other ports. A second root with the higher unique ID
gives way, where it is not the redundant one of a pair (R338). -/
def probe (w : Work) (p rootUid : Nat) : Work :=
  let st := w.fabState
  if !w.carries p ∨ st = fsOffline then w
  else if st = fsRoot ∧ rootUid ≠ ownUid ∧ !w.isPartner rootUid then
    let w := w.fabSend p 0x02 w.rootDest [ownUid, 1]
    if rootUid < ownUid then (w.modFab (fun b => { b with nodes := [], rings := [], far := [], rootUid := rootUid })).unjoin 6 0
    else w.fabEntry 2 0 6
  else
    let w := if st = fsRoot then w else w.modFab (fun b => { b with rootUid := rootUid, upPort := p })
    let w := w.fabSend p 0x02 w.rootDest
      ([ownUid, w.get F.RHL_CFG_ROLE, w.get F.RHL_CFG_ADDR, w.periodUs] ++
        (List.range 3).flatMap (fun q => [w.get F.RHL_DECL_DECL_NS 0 q, w.get F.RHL_PORT_DELAY_NS 0 q]) ++
        [(st == fsBoot).toNat, if w.pairOn then w.partnerUid else 0])
    if st = fsRoot then w else (w.otherPorts p).foldl (fun w q => w.probePort q) w

/-- PROBE. -/
def execProbe (p : Fin 3) (rootUid : Nat) (s : State) : Host.Outcome State Fault Refusal :=
  .next (s.run (fun w => probe w p rootUid))

/-- The ring that a link closes: from the node reached again down the tree to the prober. -/
def Work.ringFrom (w : Work) (top : Nat) (i : ProbeInfo) : List RingNode :=
  let down := ((w.above i.parent).takeWhile (fun u => u != top)).reverse.filterMap w.node?
  let fwds := down.map (fun c => (c.port, c.delay)) ++ [(i.port, i.delay)]
  let ids := top :: down.map (·.uid)
  let backs := i.inPort :: down.map (·.inPort)
  (List.range ids.length).map (fun k =>
    ⟨ids.getD k 0, (fwds.getD k (0, 0)).1, backs.getD k 0, (fwds.getD k (0, 0)).2⟩)

/-- A node is refused: UNJOINED for a reason, which the root records (R340, R342, R350). -/
def Work.refuseNode (w : Work) (u addr reason : Nat) : Work :=
  let w := w.modNode u (fun x => { x with state := 2, reason := reason, addr := 0 })
  let w := if reason = 1 then w.raise F.RHL_ERR_AUTH_FAIL else if reason = 5 then w.raise F.RHL_ERR_LATENCY else w
  w.fabEntry 2 addr reason

/-- The address of the pair that a node belongs to, where discovery visited its other device first (R371). -/
def Work.twinAddr (w : Work) (i : ProbeInfo) : Option Nat :=
  if i.partner = 0 ∨ w.addrOf i.partner = 0 then none else some (w.addrOf i.partner)

/-- The addresses in use: the root's, and those given. -/
def Work.addrsHeld (w : Work) : List Nat := w.ownAddr :: (w.fab.nodes.filter (fun x => x.addr != 0)).map (·.addr)

/-- The address that a new node is to have: in order of first visit, or its image's; a boot client takes the highest that is
free (R340). Both devices of a pair take one address, and are one node (R371). None, with the reason, where it can have none. -/
def Work.newAddr (w : Work) (i : ProbeInfo) : Except Nat Nat :=
  let single := w.fab.nodes.filter (fun x => !x.twin)
  if 510 ≤ single.length + 1 ∧ (w.twinAddr i).isNone then .error 4
  else if i.boot then .ok (((List.range 510).reverse.map (· + 1)).find? (fun a => !w.addrsHeld.contains a) |>.getD 0)
  else if w.flag F.RHL_CFG_ADDR_MODE then
    if i.imgAddr = 0 ∨ (w.addrsHeld.contains i.imgAddr ∧ w.twinAddr i ≠ some i.imgAddr) then .error 3 else .ok i.imgAddr
  else match w.twinAddr i with
    | some a => .ok a
    | none =>
      let next := (single.filter (fun x => !x.boot)).length + 2
      .ok ((((List.range 510).map (· + next)).find? (fun a => !w.addrsHeld.contains a)).getD next)

/-- A reported link is the one that closes a ring, seen from either of its ends (R339). -/
def ringClosedBy (i : ProbeInfo) (ring : List RingNode) : Bool :=
  match ring.head?, ring.getLast? with
  | some a, some b =>
    (a.uid == i.parent && a.back == i.port && b.uid == i.uid) || (b.uid == i.parent && b.fwd == i.port && a.uid == i.uid)
  | _, _ => false

/-- JOIN_CHAL sent with a random Nr, by the port toward the node (R342). -/
def Work.challengeNode (w : Work) (u addr : Nat) (nr : List Byte) : Work :=
  let w := w.modFab (fun b => { b with
    shakes := b.shakes.filter (fun x => x.peer != u) ++ [⟨u, nr, [], addr, 64⟩] })
  w.fabOut (w.treePort ownUid u, 0) 0x03 addr 1 nr

/-- Every path with a node added to `us` stays within a quarter of the tick, and nothing it is reached through was refused for its
latency (R350). -/
def Work.latencyOk (w : Work) (us : List Nat) (u : Nat) : Bool :=
  decide (4 * w.worstLat (us ++ [u]) ≤ w.periodUs * 1000) &&
    !(((w.above u).filterMap w.node?).any (fun x => x.uid != u && x.state == 2 && x.reason == 5))

/-- A discovery has found a ring: the joined nodes are admitted anew, in depth-first order (R350). -/
def Work.readmit (w : Work) : Work :=
  ((w.fab.nodes.filter (fun x => x.state == 1)).foldl (fun (p : Work × List Nat) x =>
    if p.1.latencyOk p.2 x.uid then (p.1, p.2 ++ [x.uid]) else (p.1.refuseNode x.uid x.addr 5, p.2)) (w, [])).1

/-- PROBE_RSP at the root (R338 to R342): a new node is recorded and challenged with the random `nr`; a node reached again
by another link closes a ring; one reached again by the same link is challenged anew where it is not joined, and a boot client
whose image has come gives its provisional address up (R354). -/
def probeRsp (w : Work) (i : ProbeInfo) (nr : List Byte) : Work :=
  if w.fabState ≠ fsRoot ∨ !w.fabRuns then w
  else if i.role = 1 ∧ i.uid ≠ ownUid ∧ !w.isPartner i.uid then
    if i.uid < ownUid then (w.modFab (fun b => { b with nodes := [], rings := [], far := [], rootUid := i.uid })).unjoin 6 0
    else w.fabEntry 2 0 6
  else
    match (if i.uid = ownUid then some (0, 0, 0) else (w.node? i.uid).map (fun x => (x.parent, x.port, x.state))) with
    | some (par, port, st) =>
      if i.uid ≠ ownUid ∧ par = i.parent ∧ port = i.port then
        match w.node? i.uid with
        | some x =>
          if st = 1 ∨ i.boot then w
          else match (if x.addr ≠ 0 ∧ !x.boot then Except.ok x.addr else w.newAddr i) with
            | .ok a => ((w.modNode i.uid (fun x => { x with
                addr := a, state := 0, periodUs := i.periodUs, imgAddr := i.imgAddr, boot := false })).sendTables).challengeNode i.uid a nr
            | .error r => (w.modNode i.uid (fun x => { x with boot := false })).refuseNode i.uid i.imgAddr r
        | none => w
      else if w.fab.rings.any (ringClosedBy i) then w
      else (((w.modFab (fun b => { b with rings := b.rings ++ [w.ringFrom i.uid i] })).readmit).rootView).sendTables
    | none =>
      let add := fun (a : Nat) => w.modFab (fun b => { b with nodes := b.nodes ++
        [⟨i.uid, i.imgAddr, i.periodUs, i.boot, a, i.parent, i.port, i.inPort, i.delay, 0, 0,
          !i.boot && a != 0 && w.twinAddr i == some a⟩] })
      match w.newAddr i with
      | .error r => (add 0).refuseNode i.uid i.imgAddr r
      | .ok a => if i.boot then ((add a).rootView).sendTables else ((add a).sendTables).challengeNode i.uid a nr

/-- PROBE_RSP. -/
def execProbeRsp (info : ProbeInfo) (nr : List Byte) (s : State) : Host.Outcome State Fault Refusal :=
  .next (s.run (fun w => probeRsp w info nr))

/-! ### The join handshake (R342, R350) -/

/-- JOIN_CHAL (R342): the node answers with its random `nn` and its MAC. To a member it comes of a change of the fabric key: the
member is back in LISTEN, with no address, and joins anew. -/
def joinChal (w : Work) (nr nn : List Byte) (addr root : Nat) : Work :=
  if !([fsListen, fsJoining, fsJoined, fsUnjoined].contains w.fabState) ∨ !w.fabRuns then w
  else match w.joinMac (joinText rj1 ownUid w.fab.rootUid nr nn addr) with
    | none => w.unjoin 1 addr
    | some mac =>
      let w := w.leaveFabric
      let w := if w.fabState = fsJoined then w.noAddress else w
      let w := (w.put F.RHL_STAT_STATE fsJoining).put F.RHL_STAT_REASON 0
      let w := w.modFab (fun b => { b with shakes := [⟨b.rootUid, nr, nn, addr, 64⟩], rootAddr := root })
      w.fabCast 0x04 root 1 (nn ++ mac)

/-- JOIN_CHAL, from the root, or on the pair link (R422). -/
def execJoinChal (nr nn : List Byte) (offer : Option JoinOffer) (s : State) : Host.Outcome State Fault Refusal :=
  .next (s.run (fun w => match offer with | some o => joinChal w nr nn o.addr o.root | none => pairChal w nr nn))

/-- JOIN_RSP at the root (R342, R350): the node is accepted with its route table, or refused. -/
def joinRsp (w : Work) (u : Nat) (nn mac : List Byte) : Work :=
  match w.fab.shakes.find? (fun x => x.peer == u), w.node? u with
  | some k, some x =>
    if w.fabState ≠ fsRoot ∨ !w.fabRuns then w
    else
      let w := w.modFab (fun b => { b with shakes := b.shakes.filter (fun x => x.peer != u) })
      if w.joinMac (joinText rj1 u ownUid k.nr nn k.addr) ≠ some mac then w.refuseNode u k.addr 1
      else if x.periodUs ≠ w.periodUs then w.refuseNode u k.addr 2
      else if !w.latencyOk w.joinedNodes u then w.refuseNode u k.addr 5
      else
        let w := (w.modNode u (fun x => { x with state := 1, reason := 0 })).rootView
        let m := (w.joinMac (joinText rj2 u ownUid k.nr nn k.addr)).getD []
        w.fabCast 0x05 k.addr 1 (m ++ Config.fabBytes 0x05 ([k.addr] ++ w.tableFor u))
  | _, _ => w

/-- JOIN_RSP, from a node, or on the pair link (R422). -/
def execJoinRsp (uid : Option Nat) (nn mac : List Byte) (s : State) : Host.Outcome State Fault Refusal :=
  .next (s.run (fun w => match uid with | some u => joinRsp w u nn mac | none => pairRsp w nn mac))

/-- The ring links that the root knew to be broken when it made a table. -/
def brokenOf (ring : Option RingInfo) : List Nat := (ring.map (·.broken)).getD []

/-- Routes and the place on a ring adopted, with the ring's broken links. -/
def Work.adoptRoutes (w : Work) (words : List Nat) (ring : Option RingInfo) (broken : List Nat) : Work :=
  let w := ((List.range 32).zip words).foldl (fun w x => w.setReg (R.RHL_ROUTE.addr 0 x.1) (x.2 % 2 ^ 32)) w
  let w := w.putFlag F.RHL_STAT_RING ring.isSome
  let w := (List.range 3).foldl (fun w p =>
    w.putFlag F.RHL_PORT_RING_PORT (match ring with | some r => ringHas r p | none => false) 0 p) w
  let w := w.modFab (fun b => { b with ring := ring, broken := broken })
  match ring with
  | some r => if broken = [] then w else w.reroute r
  | none => w

/-- JOIN_ACCEPT (R342): with a valid MAC the node adopts its address and routes. To a member it brings fresh route tables,
adopted at the next boundary (R346). -/
def joinAccept (w : Work) (mac : List Byte) (addr : Nat) (words : List Nat) (ring : Option RingInfo) : Work :=
  if !w.fabRuns then w
  else if w.fabState = fsJoined then
    w.modFab (fun b => { b with routes := some (words, ring) })
  else match w.fab.shakes with
    | k :: _ =>
      if w.fabState ≠ fsJoining then w
      else if addr = k.addr ∧ w.joinMac (joinText rj2 ownUid w.fab.rootUid k.nr k.nn k.addr) = some mac then
        let w := ((w.put F.RHL_STAT_STATE fsJoined).put F.RHL_STAT_REASON 0).put F.RHL_STAT_ADDR_ACT addr
        let w := (w.adoptRoutes words ring (brokenOf ring)).modFab (fun b => { b with shakes := [] })
        (w.lockToFabric).fabEntry 1 addr
      else w.unjoin 1 k.addr
    | [] => w

/-- JOIN_ACCEPT, from the root, or on the pair link (R422). -/
def execJoinAccept (mac : List Byte) (addr : Option Nat) (routes : List Nat) (ring : Option RingInfo) (s : State) :
    Host.Outcome State Fault Refusal :=
  .next (s.run (fun w => match addr with | some a => joinAccept w mac a routes ring | none => pairAccept w mac))

/-- JOIN_TIMEOUT (R342, R422): 64 ticks without an answer. -/
def joinTimeout (w : Work) : Work :=
  let w := w.pairTimeout
  let late := w.fab.shakes.filter (fun x => x.left == 0)
  if late.isEmpty then w
  else
    let w := w.modFab (fun b => { b with shakes := b.shakes.filter (fun x => x.left != 0) })
    late.foldl (fun w x =>
      if w.fabState = fsRoot then w.refuseNode x.peer x.addr 1
      else if w.fabState = fsJoining then w.unjoin 1 x.addr else w) w

/-- JOIN_TIMEOUT. -/
def execJoinTimeout (s : State) : Host.Outcome State Fault Refusal := .next (s.run joinTimeout)

/-! ### Link states and time (R345, R346, R348, R349, R356) -/

/-- A report comes from a node of this ring, at the position it names. -/
def ringReports (r : RingInfo) (x : LinkReport) : Bool := x.node != 0 && r.members.getD x.ringPos 0 == x.node

/-- The link that a report names which came by port `p`: just beyond the node that reports. -/
def ringLinkBeyond (r : RingInfo) (p : Nat) (x : LinkReport) : Nat :=
  if p = r.fwd then x.ringPos % Nat.max 1 r.len else (x.ringPos + r.len - 1) % Nat.max 1 r.len

/-- A report from a ring that the root is no node of, kept for the tables it sends (R345, R346). -/
def Work.farLink (w : Work) (x : LinkReport) (port : Nat) (up : Bool) : Work :=
  let names := fun (r : List RingNode) => x.node != 0 && !r.any (fun y => y.uid == ownUid) &&
    (match r[x.ringPos]? with | some y => w.addrOf y.uid == x.node | none => false)
  match w.fab.rings.findIdx? names with
  | some k =>
    let r := w.fab.rings.getD k []
    let link := if (r[x.ringPos]?).map (·.fwd) = some port then x.ringPos else (x.ringPos + r.length - 1) % Nat.max 1 r.length
    let rest := w.fab.far.filter (fun y => y != (k, link))
    w.modFab (fun b => { b with far := if up then rest else rest ++ [(k, link)] })
  | none => w

/-- The broken links of the root's own ring that are left when a ring node reports, by port `p`, a link up (R346). -/
def Work.brokenWithout (w : Work) (p : Nat) (x : LinkReport) : List Nat :=
  match w.fab.ring with
  | some r => if ringHas r p ∧ ringReports r x then w.fab.broken.filter (fun q => q != ringLinkBeyond r p x) else w.fab.broken
  | none => w.fab.broken

/-- LINK_STATE received on port `p` from a ring node: a break of its ring lies just beyond it (R345). A link that comes up
changes no route, and the root sends fresh tables (R346). -/
def linkState (w : Work) (p : Nat) (x : LinkReport) (port : Nat) (up : Bool) : Work :=
  if !w.fabRuns then w
  else
    let w := match w.fab.ring with
      | some r =>
        if !ringHas r p ∨ !ringReports r x then w
        else
          let link := ringLinkBeyond r p x
          if up then w else w.heal r link port
      | none => w
    if w.fabState ≠ fsRoot then w
    else
      let w := w.farLink x port up
      if up then w.freshTables (w.brokenWithout p x) else w

/-- LINK_STATE. -/
def execLinkState (p : Fin 3) (report : LinkReport) (port : Nat) (up : Bool) (s : State) : Host.Outcome State Fault Refusal :=
  .next (s.run (fun w => linkState w p report port up))

/-- The lead's TIME gives another tick period than this device's (R356, PAIR_ERR): reported once, until the flag is
cleared. -/
def Work.pairPeriod (w : Work) (periodUs : Nat) : Work :=
  if periodUs = w.periodUs ∨ w.flag F.PAIR_ERR_MISMATCH then w else (w.raise F.PAIR_ERR_MISMATCH).pairEntry 9 w.pairMask

/-- TIME received (R348, R349): `count` the tick count of the boundary, `errNs` the device's offset from it. It is the source
event of FABRIC; a member that first is in LOCKED adopts the root's tick count at the next boundary. A node in JOINING whose
tick period is another is UNJOINED (R342). -/
def timeRecv (w : Work) (count periodUs : Nat) (errNs : Int) : Work :=
  let listens := w.fabRuns && [fsListen, fsJoining, fsJoined, fsUnjoined].contains w.fabState &&
    decide (w.get F.SYS_TICK_CFG_LOCK_SRC = 1)
  if !(listens || w.pairTime) then w
  else
    let w := if w.pairTime then w.pairPeriod periodUs else w
    let w := w.put F.RHL_TIME_OFFSET_NS (unsigned 16 (max (-32767) (min 32767 errNs)))
    let first := !w.lock.everLocked
    let w := w.lockEvent (1000 * periodUs) errNs
    let w := if first ∧ w.lockState = lkLocked ∧ (w.fabState = fsJoined ∨ w.pairTime) then
      w.modLock (fun l => { l with everLocked := true, adopt := some ((count + 1) % 2 ^ 48) })
    else w
    match w.fab.shakes with
    | k :: _ => if w.fabState = fsJoining ∧ periodUs ≠ w.periodUs then w.unjoin 2 k.addr else w
    | [] => w

/-- TIME. -/
def execTime (count periodUs : Nat) (errNs : Int) (s : State) : Host.Outcome State Fault Refusal :=
  .next (s.run (fun w => timeRecv w count periodUs errNs))

/-- TIME_SEND at a boundary (R348): by the root, and outside a fabric by the lead of a pair on the pair link (R356). -/
def Work.timeSend (w : Work) : Work :=
  let c := [w.tick, w.periodUs, 0]
  let w := if w.fabState = fsRoot ∧ w.fabRuns then w.fabTell 0x10 511 c else w
  if w.pairUp ∧ w.lead ∧ !w.joined then w.pairFrame 0x10 0 (Config.fabBytes 0x10 c) else w

/-! ### Data sets (R351, R438) -/

/-- Slot `k` of RHL_PUB published: SEQ rises, and the set goes to its DEST (R351). -/
def Work.publish (w : Work) (k : Nat) (data : List Byte) : Work :=
  let id := w.get F.RHL_PUB_A_SET_ID 0 k
  let seq := (tabGet w.fab.pubSeq 0 k + 1) % 65536
  let w := w.modFab (fun b => { b with pubSeq := tabInsert b.pubSeq k seq })
  let dest := w.get F.RHL_PUB_B_DEST 0 k
  w.fabCast 0x20 dest (!w.flag F.RHL_PUB_A_URGENT 0 k).toNat (leBytes 2 id ++ leBytes 2 seq ++ data)

/-- The data of slot `k`, as the outbound bindings left it. -/
def Work.pubData (w : Work) (k : Nat) : List Byte :=
  takeAt (((w.fab.pubData.find? (fun x => x.1 == k)).map (·.2)).getD []) 0 (w.get F.RHL_PUB_A_LEN 0 k)

/-- A set's delivery to the FABRIC_IN bindings of its SET_ID. -/
def Work.deliverSet (w : Work) (id : Nat) (data : List Byte) (src : Nat) : Work :=
  let w := w.modFab (fun b => { b with lastData := b.lastData.filter (fun x => x.1 != id) ++ [(id, data)] })
  (w.ev 0x45).deliverArea 2 0 id data (.fabric src)

/-- DATA_SET_PUBLISH: every set that is due in this tick, each delivered to the node's own bindings too. -/
def dataSetPublish (w : Work) : Work :=
  if w.fab.published ∨ !w.joined ∨ !w.fabRuns then w
  else
    let w := w.modFab (fun b => { b with published := true })
    (List.range 64).foldl (fun w k =>
      if w.flag F.RHL_PUB_A_EN 0 k ∧ w.tick % Nat.max 1 (w.get F.RHL_PUB_B_PUB_TICKS 0 k) = 0 then
        let d := w.pubData k
        (w.publish k d).deliverSet (w.get F.RHL_PUB_A_SET_ID 0 k) d w.ownAddr
      else w) w

/-- DATA_SET_PUBLISH. -/
def execDataSetPublish (s : State) : Host.Outcome State Fault Refusal := .next (s.run dataSetPublish)

/-- An urgent relay: a delivered range sent at once as the set it names (R438). -/
def Work.relay (w : Work) (id : Nat) (data : List Byte) : Work :=
  match (List.range 64).find? (fun k => w.flag F.RHL_PUB_A_EN 0 k && w.flag F.RHL_PUB_A_URGENT 0 k &&
      w.get F.RHL_PUB_A_SET_ID 0 k == id) with
  | some k => if w.joined ∧ w.fabRuns then w.publish k data else w
  | none => w

/-- One SEQ is newer than another, over 16 bits (R14, R351). -/
def newer16 (a b : Nat) : Bool :=
  let d := (a + 65536 - b % 65536) % 65536
  decide (1 ≤ d) && decide (d ≤ 2 ^ 15 - 1)

/-- DATA_SET received (R351). -/
def dataSet (w : Work) (src id seq : Nat) (data : List Byte) : Work :=
  if !w.joined ∨ !w.fabRuns then w
  else
    let mine := (List.range 64).any (fun k => w.flag F.RHL_PUB_A_EN 0 k && w.get F.RHL_PUB_A_SET_ID 0 k == id) && src != w.ownAddr
    match tabFind w.fab.seqs id with
    | some (last, pub) =>
      if pub ≠ src ∨ mine then (w.raise F.RHL_ERR_SET_CONFLICT).fabEntry 8 id
      else if !newer16 seq last then w.ev 0x46
      else (w.modFab (fun b => { b with seqs := tabInsert b.seqs id (seq, src) })).deliverSet id data src
    | none =>
      if mine then (w.raise F.RHL_ERR_SET_CONFLICT).fabEntry 8 id
      else (w.modFab (fun b => { b with seqs := tabInsert b.seqs id (seq, src) })).deliverSet id data src

/-- DATA_SET. -/
def execDataSet (src setId seq : Nat) (data : List Byte) (s : State) : Host.Outcome State Fault Refusal :=
  .next (s.run (fun w => dataSet w src setId seq data))

/-! ### Wrapped commands, and frames for a pair (R353, R371) -/

/-- WRAP_REQ received; one that was broadcast is answered by no node. -/
def execWrapReq (src tag : Nat) (noWait bcast : Bool) (op : Nat) (itag : Nat) (pl : List Byte) (s : State) :
    Host.Outcome State Fault Refusal :=
  .next (s.run (fun w =>
    if bcast ∧ !w.joined then w else w.wrapIn ⟨src, tag, noWait || bcast, op, itag, pl⟩))

/-- WRAP_RSP received: `rsp` is the remote response's bytes 1 to 9 + LEN, which become the response's payload (R308). -/
def wrapRsp (w : Work) (tag : Nat) (rsp : List Byte) : Work :=
  match w.host.wraps.find? (fun x => x.tag == tag) with
  | none => w
  | some x =>
    let w := { w with host := { w.host with wraps := w.host.wraps.filter (fun y => y.tag != tag) } }
    w.finish x.who stOk rsp

/-- WRAP_RSP. -/
def execWrapRsp (_src tag : Nat) (rsp : List Byte) (s : State) : Host.Outcome State Fault Refusal :=
  .next (s.run (fun w => wrapRsp w tag rsp))

/-- FWD (R371): a frame for the pair's address that the partner received is delivered here by its kind. -/
def fwd (w : Work) (dest src kind : Nat) (pl : List Byte) : Work :=
  if !w.pairUp ∨ dest ≠ w.ownAddr then w
  else if kind = 0x20 then dataSet w src (halfAt pl 0 % 4096) (halfAt pl 2) (pl.drop 4)
  else if kind = 0x30 then
    w.wrapIn ⟨src, halfAt pl 0, bitOf (byteAt pl 2) 0, byteAt pl 4, byteAt pl 5, (pl.drop 9).take (halfAt pl 7)⟩
  else if kind = 0x31 then wrapRsp w (halfAt pl 0) (pl.drop 2)
  else w

/-- FWD. -/
def execFwd (dest src kind _flags : Nat) (payload : List Byte) (s : State) : Host.Outcome State Fault Refusal :=
  .next (s.run (fun w => fwd w dest src kind payload))

/-! ### The boundary (R332, R342, R346) -/

/-- The root begins a discovery by all its ports, P0 to P2 (R339). -/
def Work.discover (w : Work) : Work :=
  [0, 1, 2].foldl (fun w p => w.probePort p) (w.modFab (fun b => { b with
    nodes := [], rings := [], far := [], shakes := [], rootUid := ownUid, rekey := false }))

/-- The node's role follows its configuration: a root takes its own address and discovers; a member listens; a boot client
leaves its provisional address once its image is active (R338 to R341, R354). -/
def Work.fabRole (w : Work) : Work :=
  let st := w.fabState
  let on := (List.range 3).any (fun p => bitOf (w.get F.RHL_CFG_PORT_EN) p && !(p == 2 && w.flag F.RHL_CFG_PAIR_P2))
  if !w.fabRuns ∨ (st = fsBoot ∧ w.mode = mdBoot) then w
  else if !on then
    if st = fsOffline then w else ((w.leaveFabric.noAddress).put F.RHL_STAT_STATE fsOffline).put F.RHL_STAT_REASON 0
  else if w.flag F.RHL_CFG_ROLE then
    if st = fsRoot then if w.fab.rekey then w.discover else w
    else if st = fsUnjoined ∧ w.get F.RHL_STAT_REASON = 6 then w
    else
      let w := ((w.leaveFabric.noAddress).put F.RHL_STAT_STATE fsRoot).put F.RHL_STAT_REASON 0
      let a := if w.flag F.RHL_CFG_ADDR_MODE then w.get F.RHL_CFG_ADDR else 1
      ((w.put F.RHL_STAT_ADDR_ACT a).modFab (fun b => { b with rootAddr := a })).discover
  else if st = fsOffline ∨ st = fsBoot ∨ st = fsRoot then
    ((w.noAddress).put F.RHL_STAT_STATE fsListen).modFab (fun b => { b with nodes := [], rings := [], far := [], rekey := false })
  else w

/-- The fabric at a boundary: pending routes adopted, the role, and the ticks that a returned link and a handshake have
left. -/
def Work.fabBoundary (w : Work) : Work :=
  let w := match w.fab.routes with
    | some (words, ring) => (w.adoptRoutes words ring (brokenOf ring)).modFab (fun b => { b with routes := none })
    | none => w
  let w := w.fabRole
  w.modFab (fun b => { b with
    published := false
    ports := b.ports.map (fun x => { x with holdLeft := x.holdLeft.map (· - 1) })
    shakes := b.shakes.map (fun x => { x with left := x.left - 1 }) }) |>.setAuth w.pair.auth.age

end Sys2Proof.Machine
end

