-- ==== Sys2Proof/Machine/Tun.lean ====
section
/-! DEFINITION. Tun engines and field networks: process data, vendor record reads, FoE, the watchdog, the Ethernet switch
and the PTP clock (15_tun_networks.md; R438). -/

namespace Sys2Proof.Machine

/-- An engine's ports are stopped: it works on Ethernet and NET is held (R396), or its protocol runs on the integrated PHYs only
and a port is set to SGMII (R317). -/
def Work.portsStopped (w : Work) (e : Nat) : Bool :=
  let cls := protoClass (w.get F.TUN_STAT_PROTO 0 e)
  (w.flag F.SYS_BLK_RST_NET && decide (cls ≤ 1)) || (cls == 1 && (List.range 2).any (fun p => w.get F.NET_PORT_MODE 0 p == 2))

/-- An engine runs its image: started, not held, not under the check of its code, its ports not stopped, and in RUN (R315, R329,
R396, R404). -/
def Work.engineRuns (w : Work) (e : Nat) : Bool :=
  bitOf (w.get F.TUN_CTL_RUNNING) e && !w.engineHeld e && !w.portsStopped e && decide (w.pwrState = 0) && w.rst.hold == .none

/-- TUN_STAT.PROTO. -/
def Work.proto (w : Work) (e : Nat) : Nat := w.get F.TUN_STAT_PROTO 0 e

/-- The output SETs of a protocol image (R320): 16 for GOOSE, one for each of the 64 receive rules of NMEA 2000 and J1939,
else SET 0. -/
def outputSets (proto : Nat) : Nat :=
  if proto = 0 then 0 else if proto = 7 then 16 else if proto = 10 ∨ proto = 12 then 64 else 1

/-- An area with one SET replaced. -/
def putSet (sets : List (Nat × List Byte)) (set : Nat) (data : List Byte) : List (Nat × List Byte) :=
  sets.filter (fun s => s.1 != set) ++ [(set, data)]

/-- The bytes of a SET. -/
def setOf (sets : List (Nat × List Byte)) (set : Nat) : Option (List Byte) := (sets.find? (fun s => s.1 == set)).map (·.2)

/-- A PROFINET arrival: more than 50 µs off the line it is left out of the fit (R324). -/
def Work.fitArrival (w : Work) (e : Nat) (offLine : Bool) : Work :=
  if w.proto e ≠ 1 then w
  else if offLine then (w.countUp F.TUN_CNT_JITTER_DROPS 0 e).ev 0x5A e
  else w.modTun e (fun t => { t with fitted := Nat.min 64 (t.fitted + 1) })

/-- Bytes laid over an area at an offset; what lies between its end and them reads 0 (log entry 86). -/
def layOver (old : List Byte) (off : Nat) (bs : List Byte) : List Byte :=
  let area := old ++ List.replicate (off - old.length) 0
  area.take off ++ bs ++ area.drop (off + bs.length)

/-- A subscribed GOOSE block's SET after a message (R320): its status, and member `m` at byte 4 + 4m. -/
def gooseSet (old : List Byte) (valid : Bool) (members : List Nat) : List Byte :=
  layOver (layOver old 0 (leBytes 1 valid.toNat)) 4 (members.flatMap (leBytes 4))

/-- A listener rule's value and status in SET 0 (R320). -/
def ruleSet (old : List Byte) (k value : Nat) (valid : Bool) : List Byte :=
  layOver old (8 * k) (leBytes 4 value ++ leBytes 1 valid.toNat)

/-- One bit of an area set. -/
def layBit (old : List Byte) (c : Nat) (b : Bool) : List Byte :=
  layOver old (c / 8) [BitVec.ofNat 8 (setBit (byteAt old (c / 8)) (c % 8) b)]

/-- A SET after an arrival, by the layout of the engine's protocol (R319, R320); none where the protocol takes no such
arrival. -/
def TunEng.setAfter (t : TunEng) (proto set : Nat) (arr : TunArrival) : Option (List Byte) :=
  let old := ((t.outSets.find? (fun s => s.1 == set)).map (·.2)).getD []
  match arr with
  | .whole d =>
    if [1, 2, 3, 6, 12].contains proto ∨ ([10, 13].contains proto ∧ d.length ≤ setSize proto) then some d else none
  | .registers r vs => if [4, 5].contains proto ∧ r + vs.length ≤ 512 then some (layOver old (2 * r) (vs.flatMap (beBytes 2))) else none
  | .coils c bs =>
    if [4, 5].contains proto ∧ c + bs.length ≤ 8192 then
      some (((List.range bs.length).zip bs).foldl (fun a p => layBit a (c + p.1) p.2) old)
    else none
  | .goose rev sim ms =>
    if proto = 7 ∧ ms.length ≤ 64 then some (gooseSet old (rev && (!sim || t.params.simOk)) ms) else none
  | .sentence k v sum a =>
    if [8, 9].contains proto ∧ k < 128 ∧ (sum ∨ proto = 8) then some (ruleSet old k v (sum && a)) else none
  | .rpdo k d => if proto = 11 ∧ 1 ≤ k ∧ k ≤ 8 ∧ d.length ≤ 8 then some (layOver old (8 * (k - 1)) d) else none

/-- The bytes that an arrival brings, for the urgent relays. -/
def arrivalBytes : TunArrival → List Byte
  | .whole d | .rpdo _ d => d
  | .registers _ vs => vs.flatMap (beBytes 2)
  | .coils _ bs => ((List.range bs.length).zip bs).foldl (fun a p => layBit a p.1 p.2) []
  | .goose _ _ ms => ms.flatMap (leBytes 4)
  | .sentence _ v _ _ => leBytes 4 v

/-- The age of a listener rule's value starts anew; the limit is one of its section's parameters, in ticks (log entry 86). -/
def TunEng.ageAnew (t : TunEng) (arr : TunArrival) : TunEng :=
  match arr with
  | .sentence k _ sum a =>
    let limit := t.params.ages.getD k 0
    let rest := t.ages.filter (fun x => x.1 != k)
    { t with ages := if limit ≠ 0 ∧ sum ∧ a then rest ++ [(k, limit)] else rest }
  | _ => t

/-- TUN_DELIVERY (R320, R321, R324, R438): `relays` are the urgent relays of the engine's map, each with its offset, length
and SET_ID. -/
def tunDelivery (w : Work) (e set : Nat) (arr : TunArrival) (relays : List (Nat × Nat × Nat)) (offLine : Bool) : Work :=
  if !w.engineRuns e ∨ outputSets (w.proto e) ≤ set then w
  else match (w.tunEng e).setAfter (w.proto e) set arr with
    | none => w
    | some full =>
      let w := if 1024 < full.length then w.raise F.TUN_ERR_AREA_LONG 0 e else w
      let bs := full.take 1024
      let w := (w.modTun e (fun t => { t.ageAnew arr with outSets := putSet t.outSets set bs })).put F.TUN_STAT_STATE 3 0 e
      let w := (w.fitArrival e offLine).deliverArea 1 e set bs (.tun e)
      let w := (w.countUp F.TUN_CNT_DELIVERIES 0 e).ev 0x58 e
      let got := (arrivalBytes arr).take 1024
      relays.foldl (fun w r =>
        if r.2.1 ≤ 60 ∧ r.1 + r.2.1 ≤ got.length then w.relay r.2.2 (takeAt got r.1 r.2.1) else w) w

/-- TUN_DELIVERY. -/
def execTunDelivery (e : Fin 4) (set : Nat) (arr : TunArrival) (relays : List (Nat × Nat × Nat)) (offLine : Bool)
    (s : State) : Host.Outcome State Fault Refusal :=
  .next (s.run (fun w => tunDelivery w e set arr relays offLine))

/-- At a boundary the values of listener rules grow older; one past its age limit is valid no more (R320). No sentence has
come, so nothing is delivered (R321). -/
def TunEng.grow (t : TunEng) : TunEng :=
  let ages := t.ages.map (fun x => (x.1, x.2 - 1))
  let old := (ages.filter (fun x => x.2 == 0)).map (·.1)
  { t with
    ages := ages.filter (fun x => x.2 != 0)
    outSets := if old.isEmpty then t.outSets else t.outSets.map (fun s =>
      if s.1 = 0 then (s.1, old.foldl (fun a k => layBit a (8 * (8 * k + 4)) false) s.2) else s) }

/-- The engines at a boundary. -/
def Work.growTuns (w : Work) : Work :=
  (List.range 4).foldl (fun w e => if (w.tunEng e).ages.isEmpty then w else w.modTun e TunEng.grow) w

/-- The protocols that can flag an input SET as not valid (R323). -/
def flagsValidity (proto : Nat) : Bool := [1, 3, 4, 5, 7, 12].contains proto

/-- Some channel of this device is the standby's: the Mash draws nothing, and input SETs stay (R166, R323). -/
def Work.standbyNode (w : Work) : Bool := (List.range 8).any (fun n => (w.chan n).standby)

/-- Bytes of a list set, at places that lie in it. -/
def setBytes (bs : List Byte) (places : List Nat) (b : Byte) : List Byte := places.foldl (fun l i => l.set i b) bs

/-- A member of a published GOOSE block made an invalid quality (R320, R323). -/
def spoilQuality (bs : List Byte) (m : Nat) : List Byte :=
  if 4 + 4 * m + 4 ≤ bs.length then layOver bs (4 + 4 * m) (leBytes 4 (Config.invalidQuality (leAt bs (4 + 4 * m) 4))) else bs

/-- What an engine sends for an input SET (R320, R323): PROFINET writes every IOPS and IOCS itself; where the SET is not valid,
IOPS reads BAD, every GOOSE quality is invalid, and a Modbus read is answered with exception code 0x06. The other marks of
R323 stand outside the SET: the run/idle header, and the lamp status of a DM1. -/
def TunEng.sentBytes (t : TunEng) (proto set : Nat) (valid : Bool) (bs : List Byte) : List Byte :=
  if proto = 1 then setBytes (setBytes bs t.params.iops (Config.ioxs valid)) t.params.iocs (Config.ioxs true)
  else if valid then bs
  else if proto = 4 ∨ proto = 5 then [0x06]
  else if proto = 7 then (t.params.qualities.getD (set - 16) []).foldl spoilQuality bs
  else bs

/-- TUN_INPUT_SEND (R322, R323): the SET's bytes as the last outbound burst left them. The destination field of the record
of what was sent reads 1 where the engine flags the SET as not valid. -/
def tunInputSend (w : Work) (e set : Nat) : Work :=
  if !w.engineRuns e then w
  else match setOf (w.tunEng e).inSets set with
    | some bs => w.send ⟨2, e, set, (w.standbyNode && flagsValidity (w.proto e)).toNat,
        (w.tunEng e).sentBytes (w.proto e) set (!w.standbyNode) bs⟩
    | none => w

/-- TUN_INPUT_SEND. -/
def execTunInputSend (e : Fin 4) (set : Nat) (s : State) : Host.Outcome State Fault Refusal :=
  .next (s.run (fun w => tunInputSend w e set))

/-- VENDOR_RECORD_REQUEST. -/
def execVendorRecordRequest (e : Fin 4) (op tag : Nat) (pl : List Byte) (s : State) : Host.Outcome State Fault Refusal :=
  .next (s.run (fun w => vendorRequest w e op tag pl false))

/-- VENDOR_RECORD_READ (R300, R326): while a command is in flight VALID reads 0 with the previous response, and a second read
of a response reads STALE. J1939 and NMEA 2000 have no read: there the engine sends the response itself. -/
def vendorRecordRead (w : Work) (e : Nat) : Work :=
  if !w.carriesRecords e ∨ [10, 12].contains (w.proto e) then w
  else
    let p := (w.tunEng e).port
    let done := p.flight.isNone && p.answered
    let w := w.send ⟨2, e, 256, 0, respBytes w p.resp p.rseq done (done && !p.fresh)⟩
    if p.flight.isSome then w else w.modTun e (fun t => { t with port := { p with fresh := false } })

/-- VENDOR_RECORD_READ. -/
def execVendorRecordRead (e : Fin 4) (s : State) : Host.Outcome State Fault Refusal :=
  .next (s.run (fun w => vendorRecordRead w e))

/-- CFG_DATA over a file, in pieces of 4,096 bytes; the first that is not OK ends it. -/
def Work.foeData (w : Work) (o : Origin) (image : List Byte) : Nat → Nat → Work
  | 0, _ => w
  | k + 1, off =>
    if image.length ≤ off then w
    else match w.perform o 0x41 (leBytes 4 off ++ (image.drop off).take 4096) with
      | (w, .done 0 _) => w.foeData o image k (off + 4096)
      | (w, _) => w

/-- FOE_IMAGE_WRITE (R327): CFG_BEGIN for a whole image without stamp or STORE, CFG_DATA, and CFG_END, with whose status the
transfer completes. A CFG_BEGIN that is refused ends it. -/
def foeImageWrite (w : Work) (e : Nat) (image : List Byte) : Work :=
  let o := Origin.tun e
  if !w.engineRuns e ∨ w.proto e ≠ 2 then w
  else if (w.tunEng e).port.flight.isSome then w.recordBusy e opCfgEnd 0
  else match w.perform o 0x40 (leBytes 4 image.length ++ leBytes 8 0) with
    | (w, .done 0 _) => (w.foeData o image (image.length / 4096 + 1) 0).serve o opCfgEnd 0 [] false
    | (w, .done st pl) => w.complete o opCfgEnd 0 st pl
    | (w, .waits) => w

/-- FOE_IMAGE_WRITE. -/
def execFoeImageWrite (e : Fin 4) (image : List Byte) (s : State) : Host.Outcome State Fault Refusal :=
  .next (s.run (fun w => foeImageWrite w e image))

/-- TUN_WATCHDOG_EXPIRE (R329): the engine is reset alone, its code checked, its command lost and its session ended. The check
passes where it finds the code part as its section has it, and `codeGood` that it reads it so. -/
def tunWatchdogExpire (w : Work) (e : Nat) (codeGood : Bool) : Work :=
  if !w.engineRuns e then w
  else
    let w := (w.raise F.TUN_ERR_WDOG 0 e).ev 0x59 e
    (w.portReset (.tun e)).checkEngine e (codeGood && w.codeGood e)

/-- TUN_WATCHDOG_EXPIRE. -/
def execTunWatchdogExpire (e : Fin 4) (codeGood : Bool) (s : State) : Host.Outcome State Fault Refusal :=
  .next (s.run (fun w => tunWatchdogExpire w e codeGood))

/-- TUN_RESTART (R329): an engine whose code passed its check runs again and connects. -/
def tunRestart (w : Work) (e : Nat) : Work :=
  let t := w.tunEng e
  if t.wdog ≠ some true ∨ t.held ∨ t.code.isEmpty ∨ w.pwrState ≠ 0 then w
  else
    let w := w.modTun e (fun t => { t with wdog := none })
    (w.put F.TUN_CTL_RUNNING (setBit (w.get F.TUN_CTL_RUNNING) e true)).put F.TUN_STAT_STATE 1 0 e

/-- TUN_RESTART. -/
def execTunRestart (e : Fin 4) (s : State) : Host.Outcome State Fault Refusal := .next (s.run (fun w => tunRestart w e))

/-- CONNECTION_LOST (R321): the engine has no master, and makes no delivery until the next arrival. -/
def connectionLost (w : Work) (e : Nat) : Work :=
  if !w.engineRuns e ∨ w.get F.TUN_STAT_STATE 0 e ≠ 3 then w else w.put F.TUN_STAT_STATE 2 0 e

/-- CONNECTION_LOST. -/
def execConnectionLost (e : Fin 4) (s : State) : Host.Outcome State Fault Refusal := .next (s.run (fun w => connectionLost w e))

/-- TIME_ALLOWED_TO_LIVE_EXPIRY (R320): bit 0 of a subscribed block's status byte falls. No message has come, so nothing is
delivered (R321). -/
def liveExpiry (w : Work) (e set : Nat) : Work :=
  if !w.engineRuns e ∨ w.proto e ≠ 7 then w
  else w.modTun e (fun t => { t with outSets := t.outSets.map (fun s =>
    if s.1 = set then (s.1, s.2.modifyHead (fun b => b &&& 0xFE)) else s) })

/-- TIME_ALLOWED_TO_LIVE_EXPIRY. -/
def execTimeAllowedToLiveExpiry (e : Fin 4) (set : Fin 16) (s : State) : Host.Outcome State Fault Refusal :=
  .next (s.run (fun w => liveExpiry w e set))

/-! ### Ethernet and PTP (R317, R318) -/

/-- The network ports run (R392, R396, R404). -/
def Work.netRuns (w : Work) : Bool :=
  w.rst.hold == .none && decide (10 ≤ w.relStep) && !w.flag F.SYS_BLK_RST_NET && !w.rst.rcMode && decide (w.pwrState < 2)

/-- The port carries Ethernet: its MODE is the integrated PHY or SGMII. -/
def Work.netOn (w : Work) (p : Nat) : Bool := [1, 2].contains (w.get F.NET_PORT_MODE 0 p)

/-- The queue of the switch that a frame joins, of four that are served strictly from 3 down (R317): 3 for priority 6 or 7 and
for untagged PROFINET RT and GOOSE frames; 8 stands for no tag. -/
def switchQueue (prio ethertype : Nat) : Nat :=
  if prio = 6 ∨ prio = 7 ∨ (8 ≤ prio ∧ (ethertype = 0x8892 ∨ ethertype = 0x88B8)) then 3 else (Config.lowQueue prio).val

/-- What the transparent clock adds to a PTP event message that the switch forwards (R318): its residence, and under the peer
delay mechanism the delay of the link it came by. -/
def Work.ptpCorrection (w : Work) (residence linkNs : Nat) : Nat :=
  if w.flag F.NET_PTP_CFG_EN then residence + (if w.flag F.NET_PTP_CFG_DELAY then linkNs else 0) else 0

/-- The ports of the switch that a frame from `port` leaves by: the other port, and 2, the internal one (R317). -/
def switchPorts (port : Nat) : SwitchDest → List Nat
  | .through => [1 - port]
  | .internal => [2]
  | .both => [1 - port, 2]

/-- SWITCH_FORWARD (R317, R318): what is sent is recorded by its port, EtherType and queue, with what the transparent clock
adds to it. In exclusive use it goes the frame path of the owning protocol: through the engine at the internal port and on by
the other, in no queue. -/
def switchForward (w : Work) (port : Nat) (dst : SwitchDest) (fr : EthFrame) (residence linkNs : Nat) (good : Bool) : Work :=
  if !w.netRuns ∨ !w.netOn port then w
  else if !good then w.ev 0x5D port
  else
    let w := w.ev 0x5C port
    let excl := w.exclusiveNet
    let queue := if excl then 4 else switchQueue fr.prio fr.ethertype
    (if excl then [2, 1 - port] else switchPorts port dst).foldl (fun w q =>
      if q ≠ 2 ∧ !w.netOn q then w
      else
        let c := if fr.ptpEvent ∧ q ≠ 2 ∧ !excl then w.ptpCorrection residence linkNs else 0
        w.send ⟨3, q, fr.ethertype, queue, leBytes 8 c⟩) w

/-- SWITCH_FORWARD. -/
def execSwitchForward (port : Fin 2) (dst : SwitchDest) (frame : EthFrame) (residence linkNs : Nat) (good : Bool) (s : State) :
    Host.Outcome State Fault Refusal :=
  .next (s.run (fun w => switchForward w port dst frame residence linkNs good))

/-- A PTP message is one of the delay mechanism that DELAY selects (R318). -/
def Work.ptpTakes (w : Work) : PtpMsg → Bool
  | .common => true
  | .delayResp => !w.flag F.NET_PTP_CFG_DELAY
  | .peerReq | .peerResp => w.flag F.NET_PTP_CFG_DELAY

/-- The EtherType of PTP, which the records of what was sent name it by. -/
def ptpType : Nat := 0x88F7

/-- A PTP message sent from the slave's port: its message type, its domain and its profile (R318). -/
def Work.ptpSend (w : Work) (kind : Nat) : Work :=
  w.send ⟨3, w.get F.NET_PTP_CFG_PORT, ptpType, 3,
    leBytes 1 kind ++ leBytes 1 (w.get F.NET_PTP_CFG_DOMAIN) ++ leBytes 1 (w.get F.NET_PTP_CFG_PROFILE)⟩

/-- The message type of the clock's own delay request: Delay_Req, or Pdelay_Req (R318). -/
def Work.ptpRequest (w : Work) : Nat := if w.flag F.NET_PTP_CFG_DELAY then 2 else 1

/-- PTP_MESSAGE (R318): a message of the clock's domain and delay mechanism moves its state machine, and a peer's delay request
is answered. -/
def ptpMessage (w : Work) (port : Nat) (x : PtpArrival) (good : Bool) : Work :=
  if !w.netRuns ∨ !w.flag F.NET_PTP_CFG_EN ∨ w.exclusiveNet ∨ !w.netOn port then w
  else if !good then w.ev 0x5D port
  else
    let w := w.ev 0x5C port
    if w.get F.NET_PTP_CFG_PORT ≠ port ∨ w.get F.NET_PTP_CFG_DOMAIN ≠ x.domain ∨ !w.ptpTakes x.msg then w
    else if x.msg = .peerReq then w.ptpSend 3
    else if x.state < 1 ∨ 3 < x.state then w
    else
      let w := (w.put F.NET_PTP_STAT_STATE x.state).put F.NET_PTP_STAT_OFFSET
        (unsigned 16 (max (-32767) (min 32767 x.offsetNs)))
      if x.asks then w.ptpSend w.ptpRequest else w

/-- PTP_MESSAGE. -/
def execPtpMessage (port : Fin 2) (msg : PtpArrival) (good : Bool) (s : State) : Host.Outcome State Fault Refusal :=
  .next (s.run (fun w => ptpMessage w port msg good))

/-- EN of NET_PTP_CFG acts at a boundary: the clock listens, or is disabled. -/
def Work.ptpBoundary (w : Work) : Work :=
  if !w.netRuns ∨ !w.flag F.NET_PTP_CFG_EN then w.put F.NET_PTP_STAT_STATE 0
  else if w.get F.NET_PTP_STAT_STATE = 0 then w.put F.NET_PTP_STAT_STATE 1
  else w

end Sys2Proof.Machine
end

