-- ==== Sys2Proof/Machine/Boundary.lean ====
section
/-! DEFINITION. The tick boundary: what the ending tick leaves, what takes effect, and what begins (R11 to R16, R42, R95,
R96, R126, R158, R216, R366 to R370). -/

namespace Sys2Proof.Machine

/-! ### Taking channels over (R366 to R370) -/

/-- The partner's CH_ID carries this device's STRUCT_CRC of the channel; false while it is unknown (R368). -/
def Work.structEqual (w : Work) (n : Nat) : Bool :=
  match tabFind w.pair.partner.chIds n with
  | some x => x.2 == (w.chan n).structCrc
  | none => false

/-- No partner has spoken since the reset: this is the start of R366. -/
def Work.alone (w : Work) : Bool := decide (w.pair.partner.uid = 0)

/-- The SETs that this device's engines and its FABRIC_IN bindings hold: kind, engine, SET and bytes (R370). -/
def Work.heldAreas (w : Work) : List (Nat × Nat × Nat × List Byte) :=
  ((List.range 4).map (fun e => (w.tunEng e).outSets.map (fun s => (1, e, s.1, s.2)))).flatten ++
    w.fab.lastData.map (fun s => (2, 0, s.1, s.2))

/-- One delivery of every inbound SET that a channel binds, committed in the ending tick `t` (R370). -/
def Work.takeHeld (w : Work) (n t : Nat) : Work :=
  (w.heldAreas.filter (fun a => (w.bindings n).any (fun b => b.fits a.1 a.2.1 a.2.2.1))).foldl (fun w a =>
    let (w, x) := w.drawBody n (.area a.1 a.2.1 a.2.2.1 a.2.2.2)
    let w := w.modMash n (fun m => m.commit t none none false x.changes)
    let w := if w.held n then x.disp.foldl (fun w y => w.writeDisp (w.backImage n) none y) w else w
    let w := x.dims.foldl (fun w p =>
      if (w.heldDim p.1).level = p.2 then w else (w.issueDim p.1 p.2 w.dimLead false false).1) w
    (w.countUp F.MASH_CNT_DELIVERIES n).ev 0x18 n) w

/-- Cycles of a standby's ending tick, of `len`, from the start of its GUARD slot on; none where no GUARD started. -/
def Chan.guardPart (c : Chan) (len : Nat) : Nat :=
  if (c.seq.cur.map (·.kind)) = some kGuard then len - c.seq.curStart else 0

/-- What a standby's ending tick, of `len` cycles, leaves for a takeover (R97). In a tick in which the partner's HEARTBEAT names
the channel as driven, the levels at its end are those that the partner drove last. In any other tick nobody drove it, as far
as this device knows: each line stood at those levels throughout, and in the GUARD of the tick before. -/
def Work.bookAway (w : Work) (n len : Nat) : Work :=
  let c := w.chan n
  if !c.standby ∨ w.alone ∨ !w.paired n then w
  else if w.pair.heard ∧ bitOf w.pair.partner.drive n then
    w.modKiln n (fun k => { k with driven := k.lastDev, guardLen := c.guardPart len, away := false })
  else
    let k := c.kiln
    let time := len + (if k.away then 0 else k.guardLen)
    let w := w.modKiln n (fun k => { k with away := true, acc := k.accAt })
    if w.ledgerOn n then k.driven.foldl (fun w x => w.book n x.1 (x.2 * (time : Nat))) w else w

/-- The hand-over interval booked at a takeover (R97): what `bookAway` has not yet booked, from the start of the GUARD slot in
which the partner released the channel to the boundary. -/
def Work.bookHandover (w : Work) (n : Nat) : Work :=
  let k := (w.chan n).kiln
  if !k.away ∧ w.ledgerOn n then k.driven.foldl (fun w x => w.book n x.1 (x.2 * (k.guardLen : Nat))) w else w

/-- What a takeover starts anew where the two images of the channel differ: all but what both define (R71, R96, R360). -/
def Work.startRest (w : Work) (n : Nat) : Work :=
  let w := ((w.integAfresh n).gristAfresh n).encAfresh n 0
  let w := (((w.encAfresh n 1).ledAfresh n).tapAfresh n).clearLedger n
  (w.modStr n (fun s => { s with lamps := s.lamps.map (fun l => { Lamp.init with pump := l.pump, pumpAll := l.pumpAll }) })).showLamps n

/-- This device drives channel `n` from this boundary on (R368, R370): its ring continues from the copy, and a channel taken
over from STANDBY starts as after an image activation, with COLD set. One that was ready when its partner was last heard is
continued. At the start of R366 there is nothing to continue. -/
def Work.drive (w : Work) (n t : Nat) : Work :=
  let w := if w.alone then w else (w.bookHandover n).dropPending n
  let cold := !w.alone && !bitOf (w.get F.PAIR_STAT_READY) n && !bitOf w.pair.warm n
  let w := if w.alone ∨ cold ∨ w.sameImage n then w else w.startRest n
  let go := !w.alone
  let w := w.put F.PAIR_STAT_ACTIVE (setBit w.activeMask n true)
  let w := w.put F.PAIR_STAT_READY (setBit (w.get F.PAIR_STAT_READY) n false)
  let w := w.modPair (fun p => { p with
    warm := setBit p.warm n false
    synced := setBit p.synced n false, desync := setBit p.desync n false, asked := setBit p.asked n false })
  let w := w.modChan n (fun c => { c with
    standby := false, restart := if cold ∧ c.running then some .image else c.restart
    cask := { c.cask with ring := { c.cask.ring with takeover := c.cask.ring.takeover || go } } })
  let w := if w.chState n = stStandby then w.putChState n (w.runState n) else w
  let w := if cold then w.put F.PAIR_STAT_COLD (setBit (w.get F.PAIR_STAT_COLD) n true) else w
  if go then w.takeHeld n t else w

/-- A takeover due at this boundary, the ending tick being `t`: barred where the STRUCT_CRCs differ or are unknown (R368). -/
def Work.takeOver (w : Work) (n t : Nat) : Work :=
  if w.alone ∨ w.structEqual n then w.drive n t else (w.raise F.PAIR_ERR_MISMATCH).pairEntry 9 (2 ^ n) n

/-- The takeovers of this boundary (R366 to R368): a channel that is held, or whose bank is failed, is not taken. Those under
R367 are counted and entered together. -/
def Work.takeOvers (w : Work) (t : Nat) : Work :=
  let due := (maskList w.pair.takeover 8).filter (fun n =>
    w.paired n && !bitOf w.activeMask n && !(w.chan n).inReset && !w.bankFailed (16 + n))
  let handed := w.pair.handed
  let was := w.activeMask
  let start := w.alone
  let w := w.modPair (fun p => { p with takeover := 0, handed := 0 })
  let w := due.foldl (fun w n => w.takeOver n t) w
  let got := (maskList w.activeMask 8).filter (fun n => !bitOf was n && !bitOf handed n)
  if start ∨ got.isEmpty then w
  else ((w.countUp F.PAIR_CNT_TAKEOVERS).ev 0x51 0 got.length).pairEntry 3 (listMask got)

/-- What a held PAIR block, or one out of use, leaves to the boundary: its releases, and LEAD (R396). -/
def Work.pairOff (w : Work) : Work :=
  if w.pairOn then w
  else
    let w := (maskList w.pair.release 8).foldl (fun w n => w.pairRelease n) w
    let w := if w.pair.leadOut then w.putFlag F.PAIR_STAT_LEAD false else w
    w.modPair (fun p => { p with leadOut := false, takeover := 0, handed := 0 })

/-! ### The ending tick -/

/-- The tick generator runs: its clock is locked, and the device is in RUN or IDLE (R392, R404). -/
def Work.ticking (w : Work) : Bool := w.rst.hold == .none && decide (3 ≤ w.relStep) && decide (w.pwrState < 2)

/-- The channel has been brought up and is not held: quiesced, running, given to TEST, or on standby. -/
def Work.alive (w : Work) (n : Nat) : Bool :=
  !(w.chan n).inReset && [stQuiesced, stRunning, stTest, stStandby].contains (w.chState n)

/-- The channel's plan runs. -/
def Work.planOn (w : Work) (n : Nat) : Bool := (w.chan n).planRuns && !(w.chan n).inReset

/-- The ending tick `t` of channel `n`: its GUARD or its cut, its lit elements and lamps, and its estimates (R41, R107,
R117, R244, R249). -/
def Work.endChannel (w : Work) (n t t' : Nat) : Work :=
  if !w.alive n then w
  else
    let on := w.planOn n
    let lcd := (w.chan n).seq.act.isLcd
    let w := if on then w.endTick n else if (w.chan n).seq.halted then w else w.stillSteps n
    let w := if on ∧ !lcd then w.trackLit n t else w
    let w := if on ∧ !lcd ∧ !(w.chan n).standby then w.tickEstimate n t' true else w
    let w := if on ∧ !(w.chan n).blockHeld 5 then w.lampEnd n else w
    if w.curFlag F.LAMP_CFG_EN n ∧ !(w.chan n).blockHeld 5 ∧ !(w.chan n).standby then w.switchEstimate n t' else w

/-- The tick count and the time move on, or the tick count is the root's (R14, R349). -/
def Work.advance (w : Work) : Work :=
  let cyc := w.tickLen + w.lock.stretch
  { w with
    tick := w.nextTick, ended := w.tick, bounds := w.bounds + 1
    nowCyc := w.nowCyc + cyc, lock := { w.lock with adopt := none }
    modeReq := w.modeReq.map (fun r => { r with ready := true }) }

/-- NONDISP_FRAC of every active plan at the period in force (R37). -/
def Work.showFracs (w : Work) : Work :=
  w.eachChan (fun w n =>
    if (w.chan n).seq.act.slots.isEmpty then w else w.put F.SEQ_FRAC_NONDISP_FRAC ((w.chan n).seq.act.frac w.periodUs) n)

/-- The lock at the boundary (R44 to R47). -/
def Work.lockBoundary (w : Work) : Work :=
  let us := w.periodUs
  let w := w.adoptTickCfg.lockTick
  if w.periodUs = us then w else w.showFracs

/-- MAX_CLR acts (KILN_LEDGER_CTL). -/
def Work.clearMax (w : Work) (n : Nat) : Work :=
  if (w.chan n).kiln.maxClr then
    ((w.modKiln n (fun k => { k with maxClr := false })).put F.KILN_LEDGER_STAT_MAX_ABS 0 n).put F.KILN_LEDGER_STAT_MAX_LINE 0 n
  else w

/-! ### Quiescing -/

/-- The quiescing of a channel at the boundary that ends tick `t` (R93, R94, R112, R408): the estimates of the last tick are
not acted on, and lines that failed every proof are reported. -/
def Work.quiesceBoundary (w : Work) (n t : Nat) : Work :=
  if (w.chan n).kiln.quiesce = .none ∨ (w.chan n).inReset then w
  else
    let w := w.modLed n (fun l => { l with tickEst := none, decide := false })
    if (w.chan n).kiln.faultDue then w.kilnStop n
    else
    let w := w.quiesceStep n
    if (w.chan n).kiln.quiesce = .done then w.proofFailures n t else w

/-! ### What takes effect -/

/-- Channel `n` restarts at this boundary. -/
def Work.restarts (w : Work) (n : Nat) : Bool := w.restartDue n && !w.bankBars n

/-- Channel `n` runs and starts as after an image activation: a cold takeover (R370). -/
def Work.coldStart (w : Work) (n : Nat) : Bool :=
  (w.chan n).running && (w.chan n).kiln.quiesce == .none && decide ((w.chan n).restart = some .image)

/-- What is due in channel `n` at the boundary that begins tick `t'`, and its restart (R13, R95, R96,
R156): a channel that does not run holds what falls due, and its field ages go on, in RECOVERY too. -/
def Work.changeChannel (w : Work) (n t' : Nat) : Work :=
  if w.coldStart n ∨ (w.restarts n ∧ ((w.chan n).restart = some .image ∨ bitOf (w.chan n).rewrite 1)) then
    (w.restartImage n).applyChanges n t' true
  else if w.restarts n then (w.applyChanges n t' false).restartPlain n
  else if w.planOn n then w.applyChanges n t' false
  else if !(w.chan n).inReset then w.ageFields n []
  else w

/-- Dim levels (R182 to R188): updates that fall due, the encoders' new levels, and what each channel shows. -/
def Work.dimBoundary (w : Work) : Work :=
  let w := (List.range 16).foldl (fun w g => w.applyDim g) w
  let w := w.eachChan (fun w n => if w.alive n then (w.encoderDim n 0).encoderDim n 1 else w)
  w.eachChan (fun w n =>
    if w.alive n ∧ !(w.chan n).blockHeld 10 then (List.range 16).foldl (fun w g => w.showDim n g) w else w)

/-- The encoders, integrity, Tap returns and lamp functions of channel `n` at the boundary that ends tick `t`; `ran` says
that its plan ran in that tick (R126, R229, R245, R264). -/
def Work.judgeChannel (w : Work) (n t : Nat) (ran : Bool) : Work :=
  if !w.alive n then w
  else
    let w := (w.encStep n 0 t).encStep n 1 t
    let w := if ran ∧ (w.chan n).diagPos t % 16 = 15 ∧ !(w.chan n).seq.act.isLcd then w.darkPeriod n else w
    let w := if ran ∨ w.planOn n then w.integStep n t else if (w.chan n).blockHeld 8 then w else w.recheckStep n
    let w := w.tapStep n t
    let w := if (w.chan n).blockHeld 5 ∨ (w.chan n).standby then w else (w.applyLampClr n).returnFns n t
    if w.planOn n then (w.govDisabled n).swGovDisabled n else w

/-! ### What begins -/

/-- The Kiln and the ledger of channel `n` in the tick `t'` that begins (R79, R80, R83, R86, R88). -/
def Work.kilnBoundary (w : Work) (n t' : Nat) (e : ChEnv) (restart : Bool) : Work :=
  let w := w.readTemp n e
  let w := if w.planOn n ∨ w.rampsQuiesced n then w.kilnUpdate n e restart else w
  let p := (w.chan n).seq.act
  let w := if w.planOn n ∧ w.ledgerOn n ∧ p.cycleStart t' then w.residualSet n else w
  w.showLedger n

/-- The tick `t'` begins on channel `n`: Kiln, lamps, lit elements, pin engines and Tap frames. `restart` says that it
restarted at this boundary. -/
def Work.beginChannel (w : Work) (n t' : Nat) (e : ChEnv) (restart : Bool) : Work :=
  if (w.chan n).inReset then w
  else
    let w := if w.alive n then w.kilnBoundary n t' e restart else w
    let w := if (w.chan n).blockHeld 5 ∨ !w.alive n then w
      else if w.planOn n then ((w.endWindow n).senStep n).lampStep n
      else (w.endWindow n).lampHold n
    let w := if w.planOn n then w.buildLit n else w
    let w := (w.psqBoundary n).pulse n 8
    let w := if w.pwr.tapDone then w else w.tapBegin n
    ((w.closeBatch n).contAge n).beginTick n

/-! ### Outbound bindings (R158) -/

/-- An area with a binding's value placed in it; none where its range runs past the area. -/
def Binding.place (b : Binding) (v : Nat) (area : List Byte) : Option (List Byte) :=
  if area.length < b.offset + b.bytes then none
  else
    let old := byteAt area b.offset
    let new := if b.enc % 4 = 0 then [BitVec.ofNat 8 (setBit old (bitsOf b.enc 5 3) (v % 2 == 1))]
      else if bitOf b.enc 2 then beBytes b.bytes v
      else leBytes b.bytes v
    some (area.take b.offset ++ new ++ area.drop (b.offset + b.bytes))

/-- The value of a binding's local source. -/
def Work.localValue (w : Work) (n : Nat) (b : Binding) : Nat :=
  match b.target with
  | 0 => (w.keyDown n b.index).toNat
  | 1 => w.get F.ENC_POS_POS n b.index
  | 2 => w.alertState n b.index
  | 3 => ((w.chan n).integ.inForce.contains b.index).toNat
  | 4 => (bitOf (w.get F.LAMP_FNFAIL_FAILED n) b.index).toNat
  | _ => w.chState n

/-- One outbound value written to its area: an engine's input SET, the data set as this node publishes it, or the host
output area. -/
def Work.outbound (w : Work) (n : Nat) (b : Binding) : Work :=
  let v := w.localValue n b
  let bad := w.raise F.MASH_ERR_SRC_RANGE n
  match b.kind with
  | 0x11 =>
    match (setOf (w.tunEng b.engine).inSets b.set).bind (b.place v) with
    | some a => w.modTun b.engine (fun t => { t with inSets := putSet t.inSets b.set a })
    | none => bad
  | 0x12 =>
    match (List.range 64).find? (fun k => w.flag F.RHL_PUB_A_EN 0 k && w.get F.RHL_PUB_A_SET_ID 0 k == b.set) with
    | some k =>
      match b.place v (w.pubData k) with
      | some a => w.modFab (fun f => { f with pubData := putSet f.pubData k a })
      | none => bad
    | none => bad
  | 0x13 =>
    match b.place v (w.peeks hostOut 1024) with
    | some a => w.pokes (hostOut + b.offset) (takeAt a b.offset b.bytes)
    | none => bad
  | _ => w

/-- OUTBOUND_WRITE at a boundary (R158, R166, R411): not on a standby, nor while the Mash is held or the device in IDLE. -/
def Work.outboundAll (w : Work) (n : Nat) : Work :=
  if !w.alive n ∨ (w.chan n).standby ∨ (w.chan n).blockHeld 9 ∨ !w.flag F.MASH_CFG_BIND_EN n then w
  else (w.bindings n).foldl (fun w b => w.outbound n b) w

/-! ### The boundary -/

/-- What the boundary does for the shared side once the channels have begun their tick. -/
def Work.sharedBoundary (w : Work) : Work :=
  let w := w.entryFrames
  let w := (List.range 9).foldl (fun w r => w.takeAttention r) w
  let w := (w.showBlink.fabBoundary).timeSend
  let w := w.ptpBoundary.growTuns
  let w := if w.pwrState = 0 then w.eachChan (fun w n => w.outboundAll n) else w
  let w := w.idleEntry.sessCommit
  let older := w.host.wraps.map (fun (x : WrapWait) => { x with left := x.left - 1 })
  let w : Work := { w with host := { w.host with wraps := older } }
  w.drainWraps 9

/-- The tick count stands at `next` through all that a boundary does; only a reset that a wrapped command asked for sets it
otherwise (R14). -/
def Work.countsTick (w : Work) (next : Nat) : Work := if w.rst.hold = .none then { w with tick := next } else w

/-- TICK_BOUNDARY: the tick that runs ends and the next one begins. -/
def tickBoundary (w : Work) (env : TickEnv) : Work :=
  if !w.ticking then w
  else
    let t := w.tick
    let next := w.nextTick
    let len := w.tickLen
    let ran := (List.range 8).map w.planOn
    let w := w.monBoundary next (w.tickLen + w.lock.stretch)
    let w := w.eachChan (fun w n => w.openBatch n)
    let w := w.eachChan (fun w n => w.endChannel n t next)
    let w := w.eachChan (fun w n => w.bookAway n len)
    let w := (w.pairEnd t).pairOff
    let w := w.advance.lockBoundary
    let w := w.tempBoundary.takeTj env.tj
    let w := w.sessBoundary
    let w := w.eachChan (fun w n => w.quiesceBoundary n t)
    let w := w.eachChan (fun w n => (((((w.fastStep n).switchFast n).clearStats n).clearMax n).rewriteImage n).planBoundary n)
    let w := w.clearMemCnt
    let w := ((w.pairBegin next).takeOvers t).padsBoundary
    let w := w.eachChan (fun w n => if w.alive n then w.applyKeys n else w)
    let w := (w.eachChan (fun w n => w.modChan n (fun c => { c with mash := c.mash.judgeLate c.seq.guardOrd next }))).alignSwaps next
    let starts := (List.range 8).map (fun n => w.restarts n || w.coldStart n)
    let w := w.eachChan (fun w n => w.changeChannel n next)
    let w := w.dimBoundary
    let w := w.eachChan (fun w n => w.judgeChannel n t (ran.getD n false))
    let w := w.eachChan (fun w n => w.beginChannel n next (env.ch.getD n ⟨0, 0, 0, 0⟩) (starts.getD n false))
    let w := w.eachChan (fun w n => w.modChan n (fun c => { c with mash := c.mash.age }))
    w.sharedBoundary.countsTick next

/-- TICK_BOUNDARY. -/
def execTickBoundary (env : TickEnv) (s : State) : Host.Outcome State Fault Refusal :=
  .next (s.run (fun w => tickBoundary w env))

end Sys2Proof.Machine
end

