-- ==== Sys2Proof/Machine/Dispatch.lean ====
section
/-! DEFINITION. What each command does to the block: one arm per command, each calling that command's meaning. -/

namespace Sys2Proof.Machine

/-- The effect of a command on everything but the queue. -/
def exec (i : Instr) (s : State) : Host.Outcome State Fault Refusal :=
  match i with
  | .tickBoundary env => Sys2Proof.Machine.execTickBoundary env s
  | .slotStart ch => Sys2Proof.Machine.execSlotStart ch s
  | .ntcFallback ch => Sys2Proof.Machine.execNtcFallback ch s
  | .ntcReturn ch => Sys2Proof.Machine.execNtcReturn ch s
  | .kilnReady ch => Sys2Proof.Machine.execKilnReady ch s
  | .kilnHoldEnd ch ts settles buf => Sys2Proof.Machine.execKilnHoldEnd ch ts settles buf s
  | .kilnOvercurrent ch src => Sys2Proof.Machine.execKilnOvercurrent ch src s
  | .dischargeProof ch mv => Sys2Proof.Machine.execDischargeProof ch mv s
  | .quiesceDone ch => Sys2Proof.Machine.execQuiesceDone ch s
  | .lockSourceEvent cycleNs errNs => Sys2Proof.Machine.execLockSourceEvent cycleNs errNs s
  | .lockRetry => Sys2Proof.Machine.execLockRetry s
  | .lockHoldover => Sys2Proof.Machine.execLockHoldover s
  | .mode o tag pl => Sys2Proof.Machine.execMode o tag pl s
  | .modeCommit => Sys2Proof.Machine.execModeCommit s
  | .status o tag pl => Sys2Proof.Machine.execStatus o tag pl s
  | .memRead o tag pl => Sys2Proof.Machine.execMemRead o tag pl s
  | .memWrite o tag pl => Sys2Proof.Machine.execMemWrite o tag pl s
  | .registerWrite o addr v => Sys2Proof.Machine.execRegisterWrite o addr v s
  | .fieldSet o tag pl => Sys2Proof.Machine.execFieldSet o tag pl s
  | .segWrite o tag pl => Sys2Proof.Machine.execSegWrite o tag pl s
  | .imageSwap o tag pl => Sys2Proof.Machine.execImageSwap o tag pl s
  | .alertSetCondition o tag pl => Sys2Proof.Machine.execAlertSetCondition o tag pl s
  | .alertClearCondition o tag pl => Sys2Proof.Machine.execAlertClearCondition o tag pl s
  | .alertAcknowledge o tag pl => Sys2Proof.Machine.execAlertAcknowledge o tag pl s
  | .alertAcknowledgeGroups o tag pl => Sys2Proof.Machine.execAlertAcknowledgeGroups o tag pl s
  | .dim o tag pl => Sys2Proof.Machine.execDim o tag pl s
  | .eventRead o tag pl => Sys2Proof.Machine.execEventRead o tag pl s
  | .eventAck o tag pl => Sys2Proof.Machine.execEventAck o tag pl s
  | .powerIdle o tag pl => Sys2Proof.Machine.execPowerIdle o tag pl s
  | .powerSleep o tag pl => Sys2Proof.Machine.execPowerSleep o tag pl s
  | .powerDeep o tag pl => Sys2Proof.Machine.execPowerDeep o tag pl s
  | .powerOff o tag pl => Sys2Proof.Machine.execPowerOff o tag pl s
  | .padsRelease o tag pl => Sys2Proof.Machine.execPadsRelease o tag pl s
  | .cfgBegin o tag pl => Sys2Proof.Machine.execCfgBegin o tag pl s
  | .cfgData o tag pl => Sys2Proof.Machine.execCfgData o tag pl s
  | .cfgEnd o tag pl => Sys2Proof.Machine.execCfgEnd o tag pl s
  | .cfgSessionTimeout => Sys2Proof.Machine.execCfgSessionTimeout s
  | .imageActivate bad => Sys2Proof.Machine.execImageActivate bad s
  | .partialImageActivate bad => Sys2Proof.Machine.execPartialImageActivate bad s
  | .abort o tag atCommit => Sys2Proof.Machine.execAbort o tag atCommit s
  | .fabricWrap o tag pl => Sys2Proof.Machine.execFabricWrap o tag pl s
  | .fabricWrapTimeout => Sys2Proof.Machine.execFabricWrapTimeout s
  | .nop o tag pl => Sys2Proof.Machine.execNop o tag pl s
  | .fetch whole => Sys2Proof.Machine.execFetch whole s
  | .g3BadFrame why => Sys2Proof.Machine.execG3BadFrame why s
  | .g3FrameReject op tag => Sys2Proof.Machine.execG3FrameReject op tag s
  | .g2Write addr data => Sys2Proof.Machine.execG2Write addr data s
  | .g2Read addr count => Sys2Proof.Machine.execG2Read addr count s
  | .g2SoftReset => Sys2Proof.Machine.execG2SoftReset s
  | .g1WriteAuto addr data => Sys2Proof.Machine.execG1WriteAuto addr data s
  | .g1WriteFixed addr data => Sys2Proof.Machine.execG1WriteFixed addr data s
  | .g1ReadKey => Sys2Proof.Machine.execG1ReadKey s
  | .g1ReadCount => Sys2Proof.Machine.execG1ReadCount s
  | .g1QueueClear => Sys2Proof.Machine.execG1QueueClear s
  | .g1DisplayOff => Sys2Proof.Machine.execG1DisplayOff s
  | .g1DisplayOn b => Sys2Proof.Machine.execG1DisplayOn b s
  | .g1BadCommand cmd => Sys2Proof.Machine.execG1BadCommand cmd s
  | .seqCommit o ch v => Sys2Proof.Machine.execSeqCommit o ch v s
  | .seqRun o ch v => Sys2Proof.Machine.execSeqRun o ch v s
  | .seqStop o ch v => Sys2Proof.Machine.execSeqStop o ch v s
  | .statsClr o ch v => Sys2Proof.Machine.execStatsClr o ch v s
  | .tickCfgWrite o v => Sys2Proof.Machine.execTickCfgWrite o v s
  | .maxClr o ch v => Sys2Proof.Machine.execMaxClr o ch v s
  | .integClrAll o ch v => Sys2Proof.Machine.execIntegClrAll o ch v s
  | .integClrField o ch v => Sys2Proof.Machine.execIntegClrField o ch v s
  | .ledGovDisable o ch v => Sys2Proof.Machine.execLedGovDisable o ch v s
  | .lampGovDisable o ch v => Sys2Proof.Machine.execLampGovDisable o ch v s
  | .lampClrAll o ch v => Sys2Proof.Machine.execLampClrAll o ch v s
  | .lampClrFn o ch v => Sys2Proof.Machine.execLampClrFn o ch v s
  | .lampDemWrite o ch f v => Sys2Proof.Machine.execLampDemWrite o ch f v s
  | .lampForceWrite o ch v => Sys2Proof.Machine.execLampForceWrite o ch v s
  | .sinkGovDecision ch => Sys2Proof.Machine.execSinkGovDecision ch s
  | .switchGovDecision ch => Sys2Proof.Machine.execSwitchGovDecision ch s
  | .predriverCurrentLimit ch => Sys2Proof.Machine.execPredriverCurrentLimit ch s
  | .litCheck ch mv => Sys2Proof.Machine.execLitCheck ch mv s
  | .dissipationCapture ch mv => Sys2Proof.Machine.execDissipationCapture ch mv s
  | .comWatch ch mv => Sys2Proof.Machine.execComWatch ch mv s
  | .darkCheck ch mv => Sys2Proof.Machine.execDarkCheck ch mv s
  | .lineChargeCheck ch charge => Sys2Proof.Machine.execLineChargeCheck ch charge s
  | .litUnverified ch => Sys2Proof.Machine.execLitUnverified ch s
  | .mashDelivery ch => Sys2Proof.Machine.execMashDelivery ch s
  | .mashQueueEnter ch => Sys2Proof.Machine.execMashQueueEnter ch s
  | .mashBurstCommit ch => Sys2Proof.Machine.execMashBurstCommit ch s
  | .fieldStale ch f => Sys2Proof.Machine.execFieldStale ch f s
  | .dimUpdate group level applyTick addr => Sys2Proof.Machine.execDimUpdate group level applyTick addr s
  | .dimSyncSend => Sys2Proof.Machine.execDimSyncSend s
  | .dimSync entries => Sys2Proof.Machine.execDimSync entries s
  | .keyStep ch heads feet drvHead drvFoot => Sys2Proof.Machine.execKeyStep ch heads feet drvHead drvFoot s
  | .continuityTest ch heads => Sys2Proof.Machine.execContinuityTest ch heads s
  | .keyRepeat ch key => Sys2Proof.Machine.execKeyRepeat ch key s
  | .encoderInputChange ch j a b us => Sys2Proof.Machine.execEncoderInputChange ch j a b us s
  | .lampOpenTrip ch k => Sys2Proof.Machine.execLampOpenTrip ch k s
  | .lampWindowCapture ch mv => Sys2Proof.Machine.execLampWindowCapture ch mv s
  | .lampDiagPeriod ch => Sys2Proof.Machine.execLampDiagPeriod ch s
  | .pumpReady ch k => Sys2Proof.Machine.execPumpReady ch k s
  | .tapFrameSend ch l => Sys2Proof.Machine.execTapFrameSend ch l s
  | .tapReturnReceive ch l ret => Sys2Proof.Machine.execTapReturnReceive ch l ret s
  | .orphanStreamReceive ch l statuses => Sys2Proof.Machine.execOrphanStreamReceive ch l statuses s
  | .nopInstruction ch e => Sys2Proof.Machine.execNopInstruction ch e s
  | .await ch e pins => Sys2Proof.Machine.execAwait ch e pins s
  | .awaitEnd ch e pins => Sys2Proof.Machine.execAwaitEnd ch e pins s
  | .emit ch e => Sys2Proof.Machine.execEmit ch e s
  | .gather ch e pins => Sys2Proof.Machine.execGather ch e pins s
  | .spill ch e => Sys2Proof.Machine.execSpill ch e s
  | .take ch e => Sys2Proof.Machine.execTake ch e s
  | .give ch e => Sys2Proof.Machine.execGive ch e s
  | .psqStallEnd ch e pins => Sys2Proof.Machine.execPsqStallEnd ch e pins s
  | .countLoad ch e => Sys2Proof.Machine.execCountLoad ch e s
  | .countRepeat ch e => Sys2Proof.Machine.execCountRepeat ch e s
  | .countInc ch e => Sys2Proof.Machine.execCountInc ch e s
  | .raiseSet ch e => Sys2Proof.Machine.execRaiseSet ch e s
  | .raiseClear ch e => Sys2Proof.Machine.execRaiseClear ch e s
  | .raiseEntry ch e => Sys2Proof.Machine.execRaiseEntry ch e s
  | .raiseEvent ch e => Sys2Proof.Machine.execRaiseEvent ch e s
  | .goto ch e pins => Sys2Proof.Machine.execGoto ch e pins s
  | .move ch e pins => Sys2Proof.Machine.execMove ch e pins s
  | .psqWindowStart ch e => Sys2Proof.Machine.execPsqWindowStart ch e s
  | .psqWindowEnd ch e => Sys2Proof.Machine.execPsqWindowEnd ch e s
  | .psqRun o ch v => Sys2Proof.Machine.execPsqRun o ch v s
  | .psqStop o ch v => Sys2Proof.Machine.execPsqStop o ch v s
  | .psqRestart o ch v => Sys2Proof.Machine.execPsqRestart o ch v s
  | .psqTxWrite o ch e v => Sys2Proof.Machine.execPsqTxWrite o ch e v s
  | .psqRxRead o ch e => Sys2Proof.Machine.execPsqRxRead o ch e s
  | .psqRxackWrite o ch e v => Sys2Proof.Machine.execPsqRxackWrite o ch e v s
  | .psqLoopWrite o ch e v => Sys2Proof.Machine.execPsqLoopWrite o ch e v s
  | .psqProgramWrite o ch off v => Sys2Proof.Machine.execPsqProgramWrite o ch off v s
  | .tunDelivery e set arr relays offLine => Sys2Proof.Machine.execTunDelivery e set arr relays offLine s
  | .tunInputSend e set => Sys2Proof.Machine.execTunInputSend e set s
  | .vendorRecordRequest e op tag pl => Sys2Proof.Machine.execVendorRecordRequest e op tag pl s
  | .vendorRecordRead e => Sys2Proof.Machine.execVendorRecordRead e s
  | .foeImageWrite e image => Sys2Proof.Machine.execFoeImageWrite e image s
  | .tunWatchdogExpire e codeGood => Sys2Proof.Machine.execTunWatchdogExpire e codeGood s
  | .tunRestart e => Sys2Proof.Machine.execTunRestart e s
  | .netBootFrame head tag pl => Sys2Proof.Machine.execNetBootFrame head tag pl s
  | .linkDown p => Sys2Proof.Machine.execLinkDown p s
  | .linkUp p => Sys2Proof.Machine.execLinkUp p s
  | .linkRejoin p => Sys2Proof.Machine.execLinkRejoin p s
  | .pdelaySend p ns => Sys2Proof.Machine.execPdelaySend p ns s
  | .pdelayReq p src t1 t2 t3 => Sys2Proof.Machine.execPdelayReq p src t1 t2 t3 s
  | .pdelayRsp p src t2 t3 t4 => Sys2Proof.Machine.execPdelayRsp p src t2 t3 t4 s
  | .frameForward p dest src kind flags hops blimit payload hcrcGood crcGood sending => Sys2Proof.Machine.execFrameForward p dest src kind flags hops blimit payload hcrcGood crcGood sending s
  | .probe p rootUid => Sys2Proof.Machine.execProbe p rootUid s
  | .probeRsp info nr => Sys2Proof.Machine.execProbeRsp info nr s
  | .joinChal nr nn offer => Sys2Proof.Machine.execJoinChal nr nn offer s
  | .joinRsp uid nn mac => Sys2Proof.Machine.execJoinRsp uid nn mac s
  | .joinAccept mac addr routes ring => Sys2Proof.Machine.execJoinAccept mac addr routes ring s
  | .joinTimeout => Sys2Proof.Machine.execJoinTimeout s
  | .linkState p report port up => Sys2Proof.Machine.execLinkState p report port up s
  | .time count periodUs errNs => Sys2Proof.Machine.execTime count periodUs errNs s
  | .dataSetPublish => Sys2Proof.Machine.execDataSetPublish s
  | .dataSet src setId seq data => Sys2Proof.Machine.execDataSet src setId seq data s
  | .wrapReq src tag noWait bcast op itag pl => Sys2Proof.Machine.execWrapReq src tag noWait bcast op itag pl s
  | .wrapRsp src tag rsp => Sys2Proof.Machine.execWrapRsp src tag rsp s
  | .pairOwnClaim => Sys2Proof.Machine.execPairOwnClaim s
  | .helloSend => Sys2Proof.Machine.execHelloSend s
  | .hello uid role mask serial => Sys2Proof.Machine.execHello uid role mask serial s
  | .chId ch chSer structCrc => Sys2Proof.Machine.execChId ch chSer structCrc s
  | .heartbeatSend => Sys2Proof.Machine.execHeartbeatSend s
  | .heartbeat tick echo drive ready lead shadow => Sys2Proof.Machine.execHeartbeat tick echo drive ready lead shadow s
  | .heartbeatMissed => Sys2Proof.Machine.execHeartbeatMissed s
  | .commit ch item => Sys2Proof.Machine.execCommit ch item s
  | .cut ch count crc => Sys2Proof.Machine.execCut ch count crc s
  | .stateSend => Sys2Proof.Machine.execStateSend s
  | .state ch delta digest => Sys2Proof.Machine.execState ch delta digest s
  | .resyncReq mask => Sys2Proof.Machine.execResyncReq mask s
  | .resync ch piece last => Sys2Proof.Machine.execResync ch piece last s
  | .handover mask lead boundary => Sys2Proof.Machine.execHandover mask lead boundary s
  | .fwd dest src kind flags payload => Sys2Proof.Machine.execFwd dest src kind flags payload s
  | .pairHand o v => Sys2Proof.Machine.execPairHand o v s
  | .shadowCapture ch mv => Sys2Proof.Machine.execShadowCapture ch mv s
  | .bankAccess bank master addr wait flips collides => Sys2Proof.Machine.execBankAccess bank master addr wait flips collides s
  | .eccWriteback bank => Sys2Proof.Machine.execEccWriteback bank s
  | .memCntClr o v => Sys2Proof.Machine.execMemCntClr o v s
  | .steepWindowStart => Sys2Proof.Machine.execSteepWindowStart s
  | .steepMarchEnd bad => Sys2Proof.Machine.execSteepMarchEnd bad s
  | .steepRestart => Sys2Proof.Machine.execSteepRestart s
  | .powerOnAonReset => Sys2Proof.Machine.execPowerOnAonReset s
  | .powerOnReset => Sys2Proof.Machine.execPowerOnReset s
  | .brownOutReset rail => Sys2Proof.Machine.execBrownOutReset rail s
  | .pinReset => Sys2Proof.Machine.execPinReset s
  | .clockReset => Sys2Proof.Machine.execClockReset s
  | .memFailReset => Sys2Proof.Machine.execMemFailReset s
  | .lockupReset => Sys2Proof.Machine.execLockupReset s
  | .watchdogReset => Sys2Proof.Machine.execWatchdogReset s
  | .debugReset => Sys2Proof.Machine.execDebugReset s
  | .softwareReset o v => Sys2Proof.Machine.execSoftwareReset o v s
  | .releaseStep good measured => Sys2Proof.Machine.execReleaseStep good measured s
  | .bootFlashLoad => Sys2Proof.Machine.execBootFlashLoad s
  | .flashStore good => Sys2Proof.Machine.execFlashStore good s
  | .flashStoreEnd good => Sys2Proof.Machine.execFlashStoreEnd good s
  | .channelRelease => Sys2Proof.Machine.execChannelRelease s
  | .tunBlockReset o e => Sys2Proof.Machine.execTunBlockReset o e s
  | .hostBlockReset o => Sys2Proof.Machine.execHostBlockReset o s
  | .fabricBlockReset o => Sys2Proof.Machine.execFabricBlockReset o s
  | .pairBlockReset o => Sys2Proof.Machine.execPairBlockReset o s
  | .netBlockReset o => Sys2Proof.Machine.execNetBlockReset o s
  | .steepBlockReset o => Sys2Proof.Machine.execSteepBlockReset o s
  | .blockResetRelease o bit => Sys2Proof.Machine.execBlockResetRelease o bit s
  | .channelReset o ch => Sys2Proof.Machine.execChannelReset o ch s
  | .channelQuiesceReset o ch => Sys2Proof.Machine.execChannelQuiesceReset o ch s
  | .channelResetRelease o ch => Sys2Proof.Machine.execChannelResetRelease o ch s
  | .gristReset o ch => Sys2Proof.Machine.execGristReset o ch s
  | .encReset o ch => Sys2Proof.Machine.execEncReset o ch s
  | .caskReset o ch => Sys2Proof.Machine.execCaskReset o ch s
  | .lampReset o ch => Sys2Proof.Machine.execLampReset o ch s
  | .tapReset o ch => Sys2Proof.Machine.execTapReset o ch s
  | .psqReset o ch => Sys2Proof.Machine.execPsqReset o ch s
  | .integReset o ch => Sys2Proof.Machine.execIntegReset o ch s
  | .mashReset o ch => Sys2Proof.Machine.execMashReset o ch s
  | .blinkReset o ch => Sys2Proof.Machine.execBlinkReset o ch s
  | .subblockResetRelease o ch bit => Sys2Proof.Machine.execSubblockResetRelease o ch bit s
  | .powerEntryCommit => Sys2Proof.Machine.execPowerEntryCommit s
  | .wakeKey ch low => Sys2Proof.Machine.execWakeKey ch low s
  | .wakeEnc ch => Sys2Proof.Machine.execWakeEnc ch s
  | .wakeHost => Sys2Proof.Machine.execWakeHost s
  | .wakePhy p => Sys2Proof.Machine.execWakePhy p s
  | .wakeFabric p => Sys2Proof.Machine.execWakeFabric p s
  | .wakePin => Sys2Proof.Machine.execWakePin s
  | .wakeTimer => Sys2Proof.Machine.execWakeTimer s
  | .wakeChev ch => Sys2Proof.Machine.execWakeChev ch s
  | .wakeNet => Sys2Proof.Machine.execWakeNet s
  | .powerExit asleepMs => Sys2Proof.Machine.execPowerExit asleepMs s
  | .pmbusPoll acked statusWord vcoreMv => Sys2Proof.Machine.execPmbusPoll acked statusWord vcoreMv s
  | .offWakeTimeout => Sys2Proof.Machine.execOffWakeTimeout s
  | .pmbAlert statusWord => Sys2Proof.Machine.execPmbAlert statusWord s
  | .crystalFallback => Sys2Proof.Machine.execCrystalFallback s
  | .latchLost => Sys2Proof.Machine.execLatchLost s
  | .nonceRequest o v => Sys2Proof.Machine.execNonceRequest o v s
  | .nonceExpire => Sys2Proof.Machine.execNonceExpire s
  | .lockoutEnd => Sys2Proof.Machine.execLockoutEnd s
  | .openReq => Sys2Proof.Machine.execOpenReq s
  | .debugOpenWrite o v => Sys2Proof.Machine.execDebugOpenWrite o v s
  | .eraseStep good => Sys2Proof.Machine.execEraseStep good s
  | .debugClose o v => Sys2Proof.Machine.execDebugClose o v s
  | .monStart o v => Sys2Proof.Machine.execMonStart o v s
  | .monStop o v => Sys2Proof.Machine.execMonStop o v s
  | .monClear o v => Sys2Proof.Machine.execMonClear o v s
  | .monSnap o v => Sys2Proof.Machine.execMonSnap o v s
  | .autoSnapshot => Sys2Proof.Machine.execAutoSnapshot s
  | .tempHot => Sys2Proof.Machine.execTempHot s
  | .tempCool => Sys2Proof.Machine.execTempCool s
  | .tempOver => Sys2Proof.Machine.execTempOver s
  | .tempOverClear => Sys2Proof.Machine.execTempOverClear s
  | .releaseOrderStart => Sys2Proof.Machine.execReleaseOrderStart s
  | .switchForward port dst frame residence linkNs good => Sys2Proof.Machine.execSwitchForward port dst frame residence linkNs good s
  | .ptpMessage port msg good => Sys2Proof.Machine.execPtpMessage port msg good s
  | .connectionLost e => Sys2Proof.Machine.execConnectionLost e s
  | .timeAllowedToLiveExpiry e set => Sys2Proof.Machine.execTimeAllowedToLiveExpiry e set s

end Sys2Proof.Machine
end

