-- ==== Sys2Proof/Machine/Flags.lean ====
section
/-! DEFINITION. The pins that follow the state without a latch of their own: HRDY_N, FAULT_N, and what each channel line
stands at (R29, R32, R33). -/

namespace Sys2Proof.Machine

/-- Some ring that MASK in HOST_ATTN selects is in attention (R222, R301). -/
def Work.attention (w : Work) : Bool := w.get F.HOST_ATTN_MASK &&& w.get F.HOST_ATTN_ACTIVE != 0

/-- The emulated SV-4410 queue holds an entry (R224, R301). -/
def Work.compatWaits (w : Work) : Bool := !(w.chan w.emuCh).cask.compat.isEmpty

/-- The level of HRDY_N between transactions, true for high (R293, R301, R307, R413). -/
def Work.hrdyN (w : Work) : Bool :=
  if w.hostDeaf ∨ 3 ≤ w.pwrState then true
  else if w.flag F.HOST_CFG_GEN then !w.compatWaits
  else if w.host.port.flight.isSome then true
  else if w.host.port.fresh then false
  else !w.attention

/-- The level of FAULT_N, true for high (R400). -/
def Work.faultPin (w : Work) : Bool := !w.rst.faultN

/-- What a channel line stands at. -/
inductive LineState where
  /-- the reset posture's weak pull-up; R29, R400 -/
  | posture
  /-- high-impedance -/
  | highZ
  /-- 0 V -/
  | low
  /-- the quiet level VMID; R32, R78 -/
  | quiet
  /-- the mirror level VLCD; R32, R87 -/
  | mirror
  /-- level index `k` of the waveform; R77 -/
  | level (k : Nat)
  /-- a settle tick that repays the account `a`; R93 -/
  | settle (a : Int)
  /-- LED: sink and pre-driver off; R33 -/
  | off
  /-- LED: the pre-driver of the slot's digit, from DEAD on; R101 -/
  | driver
  /-- LED: a sink at `code` × 0.4 mA for the last `cycles` of the window; R101, R103 -/
  | sink (code cycles : Nat)
  /-- a ladder end, as the key step drives it; R194 -/
  | ladder
  /-- a ladder head pulled to 1.2 V through 100 kΩ by the any-key detector; R408 -/
  | detect
  /-- a ladder head pulled to VKREF through RPU by the continuity test; R206 -/
  | pulled
  /-- a display line that goes to VMID through a charge-sensing switch; R122 -/
  | sensed
  /-- a SEG line raised by the dark check's 1 mA test source; R120 -/
  | raised
  /-- a SEG line held at 0 V through 1 kΩ by the dark check; R120 -/
  | heldLow
  /-- a PSQ pin: driven to a level, or an input; R271 -/
  | engine (drive : Option Bool)
  /-- a GPIO line: driven to a level, or an input; R31 -/
  | gpio (drive : Option Bool)
deriving DecidableEq, Repr

/-- A level where the direction is output. -/
def pinDrive (dir out : Bool) : Option Bool := if dir then some out else none

/-- What the Bung's latch of a line shows (R413). -/
def Pad.line : Pad → LineState
  | .posture => .posture
  | .low => .low
  | .off => .off
  | .highZ => .highZ
  | .engine d => .engine d
  | .gpio d => .gpio d

/-- A display line in a KEY slot: the drive lines that are not scanned float; every other line stands at 0 V in LCD mode,
and in LED mode only the scanned drive does; where no key step is driven, LCD lines stand at 0 V and LED lines are off (R32,
R33, R399, R461). -/
def Work.keySlotLine (w : Work) (n m idx : Nat) : LineState :=
  let p := (w.chan n).seq.act
  let d := if p.nDrive = 0 then 0 else p.stepNo w.tick idx % p.nDrive
  let mine := p.drives.find? (fun x => x.1 == m)
  if !w.scansNow n then (if p.isLcd then .low else .off)
  else match mine with
    | some x => if x.2 = d then .low else .highZ
    | none => if p.isLcd then .low else .off

/-- A display line in a DISPLAY slot (R32, R33, R77, R83, R89, R101, R134). READY set within the slot lets the line take its
level at once (log entry 55). -/
def Work.displaySlotLine (w : Work) (n m : Nat) : LineState :=
  let c := w.chan n
  let p := c.seq.act
  let i := roleIdx (p.roles.getD m 0)
  let com := decide (roleCode (p.roles.getD m 0) = 1)
  if p.isLcd ∧ !w.flag F.KILN_STAT_READY n then .low
  else if p.isLcd then
    let step := p.firstStep w.tick + (c.seq.nDisp - 1)
    if c.kiln.parked.contains m then .quiet
    else if com then .level (p.comLevel step i)
    else .level (p.segLevel step (c.blink.lit.contains (64 * (step % p.commons) + i)))
  else
    let d := c.seq.nDisp - 1
    if com then (if c.preOff d i then .off else .driver)
    else
      let k := w.pulseOf n (64 * d + i)
      if c.blink.lit.contains (64 * d + i) ∧ k ≠ 0 then .sink (w.cur F.LED_ISEG_CODE n i) k else .off

/-- A display line of a channel whose plan does not run: settling, discharged, or held at 0 V (R93 to R95). -/
def Work.stillLine (w : Work) (n m : Nat) : LineState :=
  let c := w.chan n
  match c.kiln.quiesce with
  | .settle _ => if w.deadband n < (c.kiln.accOf m).natAbs then .settle (c.kiln.accOf m) else .quiet
  | .led _ => .off
  | _ => .low

/-- A display line in a DIAG slot: under test as the integrity engine selects, else quiet or off, a lent SEG line always (R32,
R33, R120, R122). -/
def Work.diagSlotLine (w : Work) (n m : Nat) : LineState :=
  let c := w.chan n
  let p := c.seq.act
  if p.isLcd then (if w.chargeRuns n ∧ (c.chargeLines w.tick).contains m then .sensed else .quiet)
  else if p.darkSegs.any (fun x => x.1 == m) ∧ c.darkRuns w.tick then
    (if raisedIn (w.tick % 16) (roleIdx (p.roles.getD m 0)) then .raised else .heldLow)
  else .off

/-- A ladder end: the key step drives it, or the continuity test of a DIAG slot pulls the heads up and holds the feet at 0 V
(R32, R33, R194, R206). -/
def Work.ladderLine (w : Work) (n : Nat) (head : Bool) : LineState :=
  let c := w.chan n
  match c.seq.cur with
  | some x =>
    if !c.planRuns then .highZ
    else if x.kind = kKey ∧ w.scansNow n then .ladder
    else if x.kind = kDiag ∧ (w.contReady n ∨ (c.grist.contRes.map (·.1)) = some w.tick) then (if head then .pulled else .low)
    else .highZ
  | none => .highZ

/-- The any-key detector of a channel is armed: it is quiesced in an entry to SLEEP that KEY may end, or in SLEEP (R408). -/
def Work.detects (w : Work) (n : Nat) : Bool :=
  match w.pwr.cmd with
  | some c => c.state == 2 && bitOf c.wakeMask 0 && w.chState n == stQuiesced
  | none => false

/-- What line `m` of channel `n` stands at: as the Bung latched it, in the reset posture, at high impedance on a channel that
this device does not drive (R254, R367, R368), else as its role and the running slot say. -/
def Work.lineState (w : Work) (n m : Nat) : LineState :=
  let c := w.chan n
  let p := c.seq.act
  let word := p.roles.getD m 0
  let role := roleCode word
  let i := roleIdx word
  if bitOf (w.get F.PWR_STAT_LATCHED) n then ((w.pwr.pads.getD n []).getD m .posture).line
  else if role = 0 ∨ [stReset, stIsolated].contains (w.chState n) then .posture
  else if role = 5 then
    let e := w.eng n (i / 16)
    .engine (pinDrive (bitOf e.dir (i % 16) && !c.standby) (bitOf e.out (i % 16)))
  else if role = 6 then
    .gpio (pinDrive (bitOf (w.get R.LINE_GPIO_OE n (m / 32)) (m % 32) && !c.standby) (bitOf (w.get R.LINE_GPIO_OUT n (m / 32)) (m % 32)))
  else if role = 3 ∧ w.detects n then .detect
  else if c.standby then .highZ
  else if role = 3 ∨ role = 4 then w.ladderLine n (role == 3)
  else if !c.planRuns then w.stillLine n m
  else match c.seq.cur with
    | none => if p.isLcd then .quiet else .off
    | some x =>
      if x.kind = kDisplay then w.displaySlotLine n m
      else if x.kind = kKey then w.keySlotLine n m x.idx
      else if x.kind = kMirror then .mirror
      else if x.kind = kDiag then w.diagSlotLine n m
      else if p.isLcd then .quiet
      else .off

/-! ### The other pins -/

/-- What a pin stands at that is no channel line. -/
inductive PinState where
  /-- an input or an output at its weak pull-up; R400 -/
  | pulled
  /-- high-impedance, or an open drain released; R254, R268, R366, R400 -/
  | highZ
  | low
  | high
  /-- bled to 0 V through 10 kΩ; R83 -/
  | bled
  /-- driven to the voltage of a 10-bit code; R234 -/
  | code (k : Nat)
  /-- a supply at `k` × 10 mV; R79 -/
  | volts (k : Nat)
deriving DecidableEq, Repr

/-- The pin groups of R400 that are neither channel lines nor switches. -/
inductive PinGroup where
  | supply | senN | siref | tap | channelInput | bootsel | hostPort | hrdyN | openDrain | bootFlash | transmitter
deriving DecidableEq, Repr

/-- The reset posture by pin group (R400); BOOTSEL is the one input without a pull-up. -/
def resetPosture : PinGroup → PinState
  | .supply => .bled
  | .senN | .siref | .tap | .channelInput | .hostPort | .hrdyN | .bootFlash => .pulled
  | .bootsel | .openDrain | .transmitter => .highZ

/-- The Bung holds a channel's pads (R413). -/
def Work.latched (w : Work) (n : Nat) : Bool := bitOf (w.get F.PWR_STAT_LATCHED) n

/-- The pins of a channel stand in the reset posture, but for those that the Bung holds (R400). -/
def Work.pinsReset (w : Work) (n : Nat) : Bool := [stReset, stIsolated].contains (w.chState n)

/-- CHn_VLCD: bled while the Kiln is cold, else at the voltage in force (R79, R83, R400). -/
def Work.supplyPin (w : Work) (n : Nat) : PinState :=
  if w.pinsReset n ∨ (w.chan n).kiln.cold then resetPosture .supply else .volts (w.get F.KILN_STAT_VLCD_ACT n)

/-- CHn_SIREF: driven with its code, at high impedance on a standby (R234, R254, R400). -/
def Work.sirefPin (w : Work) (n : Nat) : PinState :=
  if w.pinsReset n then resetPosture .siref else if (w.chan n).standby then .highZ else .code (w.get F.LAMP_GOV_SIREF_ACT n)

/-- CHn_SEN_N: low while the source is on, held high by the Bung, else released (R251, R254, R400, R413). -/
def Work.senPin (w : Work) (n : Nat) : PinState :=
  if w.latched n then .high
  else if w.flag F.LAMP_STAT_SEN n ∧ !w.pinsReset n ∧ !(w.chan n).standby then .low
  else resetPosture .senN

/-- CHn_TAPl before and after a frame: idle, which in UF-16 mode is high, and in generic mode high unless POL inverts the line;
the Bung holds it idle high (R256, R257, R267 to R269, R400, R413). -/
def Work.tapPin (w : Work) (n l : Nat) : PinState :=
  if w.latched n then .high
  else if w.pinsReset n then resetPosture .tap
  else if (w.chan n).standby then .highZ
  else match (w.tapOf n l).hold with
    | some f => if f.uf ∨ !f.pol then .high else .low
    | none =>
      if !w.curFlag F.TAP_CFG_EN n l then resetPosture .tap
      else if w.tapUf n l ∨ !w.curFlag F.TAP_GEN_POL n l then .high else .low

/-- PAIR_OWN as this device leaves it: low while it leads (R366, R413). -/
def Work.ownPin (w : Work) : PinState := if w.flag F.PAIR_STAT_LEAD then .low else resetPosture .openDrain

/-- What a channel line stands at in a state. -/
def State.lineState (s : State) (n m : Nat) : LineState := s.work.lineState n m

/-- The role code of a line in the active plan. -/
def State.roleOf (s : State) (n m : Nat) : Nat := roleCode ((s.work.chan n).seq.act.roles.getD m 0)

/-- The open intervals of switch `k` of a channel's string in the running tick (R237). -/
def State.switchIntervals (s : State) (n k : Nat) : List (Nat × Nat) := s.work.switchIntervals n k

/-- CHn_VLCD in a state. -/
def State.supplyPin (s : State) (n : Nat) : PinState := s.work.supplyPin n

/-- CHn_SIREF in a state. -/
def State.sirefPin (s : State) (n : Nat) : PinState := s.work.sirefPin n

/-- CHn_SEN_N in a state. -/
def State.senPin (s : State) (n : Nat) : PinState := s.work.senPin n

/-- CHn_TAPl at rest in a state. -/
def State.tapPin (s : State) (n l : Nat) : PinState := s.work.tapPin n l

/-- PAIR_OWN in a state. -/
def State.ownPin (s : State) : PinState := s.work.ownPin

/-- HRDY_N in a state. -/
def State.hrdyN (s : State) : Bool := s.work.hrdyN

/-- FAULT_N in a state. -/
def State.faultPin (s : State) : Bool := s.work.faultPin

end Sys2Proof.Machine
end

