-- ==== Sys2Proof/Safety.lean ====
section
/-! DEFINITION. What claims are stated in: what a state holds, what a command answers, what it leaves alone, and the
invariant that every step keeps. -/

namespace Sys2Proof.Machine

/-- A register's word. -/
def State.reg (s : State) (a : Nat) : Nat := s.work.reg a

/-- A field of copy `k` of a register, on channel `n`. -/
def State.get (s : State) (f : Fld) (n : Nat := 0) (k : Nat := 0) : Nat := s.work.get f n k

/-- A one-bit field. -/
def State.flag (s : State) (f : Fld) (n : Nat := 0) (k : Nat := 0) : Bool := s.work.flag f n k

/-- Channel `n`. -/
def State.chan (s : State) (n : Nat) : Chan := s.work.chan n

/-- A byte of memory, as its cells hold it. -/
def State.byte (s : State) (a : Nat) : Byte := tabGet s.mem 0 a

/-- The state of channel `n` that SYS_CH_STATE shows. -/
def State.chState (s : State) (n : Nat) : Nat := s.work.chState n

/-- Every register but those listed holds what it held. -/
def State.sameRegs (s t : State) (l : List Nat) : Prop := ∀ a, a ∉ l → t.reg a = s.reg a

/-- The memories have their canonical form, and list only addresses that R23 gives a memory. -/
def State.memInv (s : State) : Prop := Memory.wf s.mem = true ∧ ∀ c ∈ s.mem, memMapped c.1 = true

/-- The registers that an entry raised into a ring, or a ring emptied, writes (R214, R215, R222). -/
def ringRegs (r : Nat) : List Nat :=
  R.HOST_ATTN.addr 0 0 ::
    (if r < 8 then [R.CASK_STAT.addr r 0, R.CASK_SEQ.addr r 0, R.CASK_DROPS.addr r 0]
     else [R.SYS_DRING_STAT.addr 0 0, R.SYS_DRING_SEQ.addr 0 0, R.SYS_DRING_DROPS.addr 0 0])

/-- Every byte of memory but the 16 of the next entry of ring `r` reads what it read (R211, R214). -/
def State.sameMemButNext (s t : State) (r : Nat) : Prop :=
  ∀ a, a < s.work.ringBase r + 16 * (s.work.ring r).place ∨ s.work.ringBase r + 16 * (s.work.ring r).place + 16 ≤ a →
    t.byte a = s.byte a

/-- Every byte of memory but the `k` from `lo` up reads what it read. -/
def State.sameBytesBut (s t : State) (lo k : Nat) : Prop := ∀ a, a < lo ∨ lo + k ≤ a → t.byte a = s.byte a

/-- A write of `v` to the register at `a` is accepted: the register is there, its block is not held, the mode opens it, and
neither the ranges of its fields nor its block refuse the value (R4 to R6, R19, R25, R397). -/
def State.accepts (s : State) (a v : Nat) : Bool :=
  regMapped a && a % 4 == 0 && !s.work.regHeld a && !s.work.modeRefuses a v &&
    match rowAt a with
    | some (r, k) => (s.work.refuses (s.work.regW r k a v) r).isNone
    | none => false

/-- What the access codes leave in the register at `a` of a written word (R4). -/
def State.written (s : State) (a v : Nat) : Nat :=
  match rowAt a with
  | some (r, _) => mergeWord r (s.reg a) v
  | none => s.reg a

/-- The registers that show the host's command and its response, and count its frames. -/
def hostRegs : List Nat := [R.HOST_STAT.addr 0 0, R.HOST_RESP.addr 0 0, R.HOST_CNT.addr 0 0]

/-- The host port takes a G3 frame: it is released and speaks G3, the device is in RUN, and no command is in flight (R293,
R298, R411). -/
def State.hostReady (s : State) : Bool :=
  !s.work.g3Deaf && s.work.pwrState == 0 && s.dev.host.port.flight.isNone

/-- Between `s` and `t` the host's command has completed: its response stands under the next RSEQ, and nothing is in flight
(R299, R300). -/
abbrev State.hostAnswered (s t : State) (op tag status : Nat) (payload : List Byte) : Prop :=
  t.dev.host.port = { flight := none, answered := true, fresh := true, rseq := (s.dev.host.port.rseq + 1) % 65536,
                      resp := ⟨op, tag, status, payload, false, false⟩ }

/-- The command that the host has in flight (R298). -/
abbrev State.hostFlight (t : State) (op tag : Nat) : Prop := t.dev.host.port.flight = some ⟨op, tag, false⟩

/-- What the execution of a host command starts with: its frame counted, and the command in flight (R298, HOST_CNT). -/
def State.taken (s : State) (op tag : Nat) : Work :=
  (((s.work.countUp F.HOST_CNT_FRAMES).ev 0x60).put F.HOST_STAT_LAST_OP op).setFlight .host ⟨op, tag, false⟩

/-- The commands of the G3 table that carry one payload and no row of their own for each operation, with their opcodes
(R296). -/
def g3Commands : List ((Origin → Nat → List Byte → Instr) × Nat) :=
  [(.status, 0x01), (.memRead, 0x02), (.memWrite, 0x03), (.fieldSet, 0x10), (.segWrite, 0x11), (.imageSwap, 0x12),
    (.dim, 0x19), (.eventRead, 0x20), (.eventAck, 0x21), (.mode, 0x30), (.padsRelease, 0x32), (.cfgBegin, 0x40),
    (.cfgData, 0x41), (.cfgEnd, 0x42), (.fabricWrap, 0x60), (.nop, 0x7F)]

/-- Where the PC of a pin engine stands after an instruction that is not a taken jump: at the loop's head where it stood at
the active tail (R275, R288). -/
def State.pcAfter (s : State) (n e : Nat) : Nat :=
  if s.get F.PSQ_STATE_PC n e = s.get F.PSQ_LOOP_TAIL_ACT n e then
    if bitOf (s.get F.PSQ_STAT_LOOP_PEND n) e then s.get F.PSQ_LOOP_LOOP_HEAD n e else s.get F.PSQ_LOOP_HEAD_ACT n e
  else (s.get F.PSQ_STATE_PC n e + 1) % 64

/-- The registers that show a pin engine. -/
def psqRegs (n e : Nat) : List Nat :=
  [R.PSQ_STAT.addr n 0, R.PSQ_LOOP.addr n e, R.PSQ_STATE.addr n e, R.PSQ_GTR.addr n e, R.PSQ_SPR.addr n e,
    R.PSQ_CTR.addr n e, R.PSQ_PASSES.addr n e, R.PSQ_FSTAT.addr n e, R.PSQ_RX.addr n e]

/-- Channel `n` with pin engine `e` replaced. -/
def Chan.withEng (c : Chan) (e : Nat) (x : Engine) : Chan := { c with psq := c.psq.set e x }

/-- The registers that show a channel's lamps. -/
def lampRegs (n : Nat) : List Nat :=
  [R.LAMP_STAT.addr n 0, R.LAMP_FNFAIL.addr n 0, R.LAMP_FNOFF.addr n 0] ++ (List.range 12).map (fun k => R.LAMP_LST.addr n k)

end Sys2Proof.Machine
end

