-- ==== Sys2Proof/Certificates/Slice0/Obligations.lean ====
section
/-! DEFINITION. The statements for the provers. -/

open Sys2Proof Sys2Proof.Machine

/-- A step takes the command at the front of the queue: it is that command's exec on the state with the rest of the
queue. With no command waiting it changes nothing (log entry 4). -/
def Obligations.StepTakesFront : Prop :=
  ∀ (s : State) (c : Instr),
    step (s.withFront c) = exec c s ∧ (s.pending = [] → step s = .next s)

/-- Every command completes, and none touches the queue of the commands that wait. -/
def Obligations.QueueUntouched : Prop :=
  ∀ (s : State) (c : Instr), ∃ t, exec c s = .next t ∧ t.pending = s.pending

/-- Whatever a step does, the memories keep their canonical form and hold nothing outside the ranges that R23 gives the
memories. -/
def Obligations.StepKeepsMemory : Prop :=
  ∀ (s t : State), s.memInv → step s = .next t → t.memInv

/-- The memories as reset leaves them have that form, list nothing, and no command waits (that an unlisted byte reads 0
is the model's choice, log entry 2). -/
def Obligations.ResetMemory : Prop :=
  State.reset.memInv ∧ State.reset.mem = [] ∧ State.reset.pending = []

/-- The temperature source of the Kiln (R80), its readiness (R83), its holds and faults (R82, R84), and the end of
quiescing (R93, R94). Each register and byte that is not named keeps its value. -/
def Obligations.KilnCommands : Prop :=
  (∀ (s : State) (ch : Fin 8),
      (s.chan ch).kiln.ntcBad = 4 → (s.chan ch).kiln.onDie = false → s.work.cur F.KILN_CFG_TEMP_SRC ch = 1 →
    ∃ t, exec (.ntcFallback ch) s = .next t ∧
      (t.chan ch).kiln.onDie = true ∧ (t.chan ch).kiln.temps = [] ∧ (t.chan ch).kiln.tHold = 64 ∧
      t.flag F.KILN_STAT_NTC_FAULT ch = true ∧ s.sameRegs t [R.KILN_STAT.addr ch 0] ∧ t.mem = s.mem) ∧
  (∀ (s : State) (ch : Fin 8),
      (s.chan ch).kiln.onDie = true → (s.chan ch).kiln.ntcBad = 4 → (s.chan ch).kiln.ntcGood.length = 64 →
      s.work.cur F.KILN_CFG_TEMP_SRC ch = 1 →
    ∃ t, exec (.ntcReturn ch) s = .next t ∧
      (t.chan ch).kiln.onDie = false ∧ (t.chan ch).kiln.ntcBad = 0 ∧
      (t.chan ch).kiln.tFilt = meanOf (s.chan ch).kiln.ntcGood ∧
      t.flag F.KILN_STAT_NTC_FAULT ch = s.flag F.KILN_STAT_NTC_FAULT ch ∧ s.sameRegs t [R.KILN_STAT.addr ch 0] ∧
      t.mem = s.mem) ∧
  (∀ (s : State) (ch : Fin 8),
      (s.chan ch).running = true → (s.chan ch).seq.act.isLcd = true → (s.chan ch).kiln.cold = false →
      (s.chan ch).kiln.ramping = false → s.flag F.KILN_STAT_READY ch = false → (s.chan ch).kiln.target ≠ 0 →
      nearTarget (s.get F.KILN_STAT_VLCD_ACT ch) (s.chan ch).kiln.target = true →
    ∃ t, exec (.kilnReady ch) s = .next t ∧
      t.flag F.KILN_STAT_READY ch = true ∧ t.get F.KILN_STAT_VLCD_ACT ch = s.get F.KILN_STAT_VLCD_ACT ch ∧
      (t.chan ch).kiln.acc = [] ∧ s.sameRegs t [R.KILN_STAT.addr ch 0] ∧ t.mem = s.mem) ∧
  (∀ (s : State) (ch : Fin 8) (ts buf : Nat) (x : SlotRun),
      (s.chan ch).seq.cur = some x → x.kind = kDisplay → (s.chan ch).seq.act.isLcd = true →
      s.flag F.KILN_STAT_READY ch = true → s.work.curFlag F.KILN_CFG_HOLD_EN ch = true → (s.chan ch).seq.hold = 0 →
      20 * s.work.cur F.KILN_BOOST_BOOST_T ch < ts → ts - 20 * s.work.cur F.KILN_BOOST_BOOST_T ch ≤ 800 →
    ∃ t, exec (.kilnHoldEnd ch ts true buf) s = .next t ∧
      (t.chan ch).seq.hold = ts - 20 * s.work.cur F.KILN_BOOST_BOOST_T ch ∧ (t.chan ch).kiln.unsettled = 0 ∧
      t.get F.KILN_HOLDS_HOLDS ch = Nat.min 65535 (s.get F.KILN_HOLDS_HOLDS ch + 1) ∧
      t.get F.KILN_HOLDS_MAX_HOLD ch = Nat.max (ts - 20 * s.work.cur F.KILN_BOOST_BOOST_T ch) (s.get F.KILN_HOLDS_MAX_HOLD ch) ∧
      s.sameRegs t [R.KILN_HOLDS.addr ch 0] ∧ t.mem = s.mem) ∧
  (∀ (s : State) (ch : Fin 8) (ts : Nat) (settles : Bool) (buf : Nat) (x : SlotRun),
      (s.chan ch).seq.cur = some x → x.kind = kDisplay → (s.chan ch).seq.act.isLcd = true →
      s.flag F.KILN_STAT_READY ch = true → s.work.curFlag F.KILN_CFG_HOLD_EN ch = true → (s.chan ch).seq.hold = 0 →
      (settles = false ∨ 800 < ts - 20 * s.work.cur F.KILN_BOOST_BOOST_T ch) → (s.chan ch).kiln.unsettled < 63 →
    ∃ t, exec (.kilnHoldEnd ch ts settles buf) s = .next t ∧
      (t.chan ch).seq.hold = 800 ∧ (t.chan ch).kiln.unsettled = (s.chan ch).kiln.unsettled + 1 ∧
      s.sameRegs t [R.KILN_HOLDS.addr ch 0] ∧ t.mem = s.mem) ∧
  (∀ (s : State) (ch : Fin 8) (ts buf : Nat) (x : SlotRun),
      (s.chan ch).seq.cur = some x → x.kind = kDisplay → (s.chan ch).seq.act.isLcd = true →
      s.flag F.KILN_STAT_READY ch = true → s.work.curFlag F.KILN_CFG_HOLD_EN ch = true → (s.chan ch).seq.hold = 0 →
      ts ≤ 20 * s.work.cur F.KILN_BOOST_BOOST_T ch →
    ∃ t, exec (.kilnHoldEnd ch ts true buf) s = .next t ∧
      (t.chan ch).seq.hold = 0 ∧ (t.chan ch).kiln.unsettled = 0 ∧ s.sameRegs t [] ∧ t.mem = s.mem) ∧
  (∀ (s : State) (ch : Fin 8) (src : Nat),
      (s.chan ch).inReset = false → (s.chan ch).kiln.cold = false → (s.chan ch).seq.act.isLcd = true →
      (s.chan ch).kiln.faultDue = false → (s.chan ch).planRuns = true →
    ∃ t, exec (.kilnOvercurrent ch src) s = .next t ∧
      t.flag F.KILN_STAT_BUF_FAULT ch = true ∧ (t.chan ch).kiln.faultDue = true ∧ t.chState ch = s.chState ch ∧
      s.sameRegs t (R.KILN_STAT.addr ch 0 :: ringRegs ch) ∧ s.sameMemButNext t ch) ∧
  (∀ (s : State) (ch : Fin 8) (src : Nat),
      (s.chan ch).inReset = false → (s.chan ch).kiln.cold = false → (s.chan ch).seq.act.isLcd = true →
      (s.chan ch).kiln.faultDue = false → (s.chan ch).planRuns = false →
    ∃ t, exec (.kilnOvercurrent ch src) s = .next t ∧
      t.flag F.KILN_STAT_BUF_FAULT ch = true ∧ t.flag F.KILN_STAT_READY ch = false ∧
      t.get F.KILN_STAT_VLCD_ACT ch = 0 ∧ (t.chan ch).running = false ∧ (t.chan ch).kiln.faulted = true ∧
      (t.chan ch).kiln.acc = [] ∧ t.flag F.SEQ_STAT_RUNNING ch = false ∧ t.chState ch = s.work.restState ch) ∧
  (∀ (s : State) (ch : Fin 8) (rep : Nat) (mv : List Nat),
      (s.chan ch).kiln.quiesce = .discharge rep →
    ∃ t, exec (.dischargeProof ch mv) s = .next t ∧
      (t.chan ch).kiln.proofRun = true ∧
      (t.chan ch).kiln.proofFail = (((s.chan ch).seq.act.displayLines.zip mv).filter (fun p => decide (50 ≤ p.2))).map (·.1) ∧
      s.sameRegs t [] ∧ t.mem = s.mem) ∧
  (∀ (s : State) (ch : Fin 8),
      (s.chan ch).kiln.quiesce = .done → (s.chan ch).resetAfter = false → s.dev.pwr.cmd = none →
    ∃ t, exec (.quiesceDone ch) s = .next t ∧
      (t.chan ch).running = false ∧ (t.chan ch).kiln.quiesce = .none ∧ t.flag F.SEQ_STAT_RUNNING ch = false ∧
      t.chState ch = s.work.restState ch ∧ s.sameRegs t [R.SEQ_STAT.addr ch 0, R.SYS_CH_STATE.addr 0 0] ∧
      t.mem = s.mem)

/-- A boundary counts the tick, or adopts the root's count (R14, R349); a slot starts (R41); the tick lock follows its
source, steps, retries and holds over (R43, R45, R46). -/
def Obligations.TickSlotLock : Prop :=
  (∀ (s : State) (env : TickEnv),
      s.work.ticking = true → s.dev.lock.adopt = none →
    ∃ t, exec (.tickBoundary env) s = .next t ∧
      (t.dev.rst.hold = .none → t.dev.tick = (s.dev.tick + 1) % 2 ^ 48)) ∧
  (∀ (s : State) (env : TickEnv) (x : Nat),
      s.work.ticking = true → s.dev.lock.adopt = some x →
    ∃ t, exec (.tickBoundary env) s = .next t ∧
      (t.dev.rst.hold = .none → t.dev.tick = x % 2 ^ 48)) ∧
  (∀ (s : State) (ch : Fin 8) (x : SlotRun) (rest : List SlotRun),
      (s.chan ch).planRuns = true → (s.chan ch).inReset = false → (s.chan ch).seq.cur = none →
      (s.chan ch).seq.todo = x :: rest → x.kind = kDiag →
      (durSum (x :: rest) : Int) + (s.chan ch).seq.corr ≤ (s.work.tickLen - (s.chan ch).seq.curStart : Nat) →
    ∃ t, exec (.slotStart ch) s = .next t ∧
      t.get F.SEQ_STAT_SLOT ch = x.idx % 64 ∧ t.get F.SEQ_STAT_KIND ch = kDiag ∧ (t.chan ch).seq.todo = rest ∧
      (t.chan ch).seq.cur = some x ∧ (t.chan ch).seq.hold = 0 ∧
      (t.chan ch).seq.started = (s.chan ch).seq.started + 1 ∧ s.sameRegs t [R.SEQ_STAT.addr ch 0] ∧ t.mem = s.mem) ∧
  (∀ (s : State) (cycleNs : Nat) (errNs : Int),
      s.work.sourceGives = true → s.work.pairTime = false → s.dev.rst.rcMode = false → s.work.lockState = lkLocked →
      errNs.natAbs ≤ 2000 →
    ∃ t, exec (.lockSourceEvent cycleNs errNs) s = .next t ∧
      t.dev.lock.corr = roundOpen errNs 5 ∧ t.get F.SYS_TICK_STAT_LOCK_STATE = lkLocked ∧
      t.get F.SYS_TICK_STAT_PHASE_ERR_NS = unsigned 16 errNs ∧ s.sameRegs t [R.SYS_TICK_STAT.addr 0 0] ∧
      t.mem = s.mem) ∧
  (∀ (s : State) (cycleNs : Nat) (errNs : Int),
      s.work.sourceGives = true → s.work.pairTime = false → s.dev.rst.rcMode = false → s.work.lockState = lkLocked →
      2000 < errNs.natAbs →
    ∃ t, exec (.lockSourceEvent cycleNs errNs) s = .next t ∧
      t.get F.SYS_TICK_STAT_LOCK_STATE = lkAcquire ∧ t.dev.lock.inRow = 0 ∧
      s.sameRegs t (R.SYS_TICK_STAT.addr 0 0 :: ringRegs devRing) ∧ s.sameMemButNext t devRing) ∧
  (∀ (s : State) (at_ : Nat),
      s.dev.lock.retryAt = some at_ → at_ ≤ s.dev.bounds → s.work.lockState = lkFree →
    ∃ t, exec (.lockRetry) s = .next t ∧
      t.dev.lock.retryAt = none ∧ s.sameRegs t [] ∧ t.mem = s.mem) ∧
  (∀ (s : State),
      s.work.lockState = lkLocked → s.get F.RHL_STAT_STATE ≠ 3 →
    ∃ t, exec (.lockHoldover) s = .next t ∧
      t.get F.SYS_TICK_STAT_LOCK_STATE = lkHoldover ∧ s.sameRegs t (R.SYS_TICK_STAT.addr 0 0 :: ringRegs devRing) ∧
      s.sameMemButNext t devRing)

/-- The commands of the G3 table are executed alike for every port that takes them: the host port (R298), a Tun engine's
vendor records (R326, R327), a wrapped command of the fabric (R353) and the network-boot ROM (R328). -/
def Obligations.PortsServe : Prop :=
  ∀ (s : State) (c : Origin → Nat → List Byte → Instr) (op tag : Nat) (pl : List Byte), (c, op) ∈ g3Commands →
    (s.hostReady = true →
      exec (c .host tag pl) s = .next (s.run (fun w =>
        (((w.countUp F.HOST_CNT_FRAMES).ev 0x60).put F.HOST_STAT_LAST_OP op).execute .host op tag pl))) ∧
    (∀ e, s.work.carriesRecords e = true → (s.work.tunEng e).port.flight = none →
      exec (c (.tun e) tag pl) s = .next (s.run (fun w => (w.ev 0x5B e).execute (.tun e) op tag pl))) ∧
    (∀ a, s.work.wrapServes a = true → s.dev.fab.wrapQ = [] → s.dev.fab.wrapRun = none → s.work.pwrState = 0 →
      wrapRefused op pl = false → s.get F.RHL_STAT_STATE ≠ 5 →
      exec (c (.fabric a) tag pl) s = .next (s.run (fun w =>
        (((({ w with fab := { w.fab with wrapQ := [], wrapRun := some ⟨a, tag, false, op, tag, pl⟩ } } : Work).ev 0x47).execute
          (.fabric a) op tag pl).drainWraps 8)))) ∧
    (s.work.netServes = true → s.dev.netBoot.flight = none → bootOps.contains op = true →
      ∀ mac, exec (c (.net mac) tag pl) s = .next (s.run (fun w => (w.ev 0x5C 0).execute (.net mac) op tag pl))) ∧
    (∀ e, exec (.vendorRecordRequest e op tag pl) s = exec (c (.tun e) tag pl) s) ∧
    (∀ mac, exec (.netBootFrame ⟨op, mac, true⟩ tag pl) s = exec (c (.net mac) tag pl) s) ∧
    (∀ a, exec (.wrapReq a tag false false op tag pl) s = exec (c (.fabric a) tag pl) s)

/-- MODE is admitted and stays in flight until its commit boundary; a challenge that fails is refused (R17, R18, R424,
R425); MODE_COMMIT enters the mode and completes the command. -/
def Obligations.ModeCommands : Prop :=
  (∀ (s : State) (tag : Nat) (m : Byte),
      s.hostReady = true → s.dev.modeReq = none → s.work.modeAllowed mdOperate = true →
    ∃ t, exec (.mode .host tag [2, m, 0, 0]) s = .next t ∧
      t.dev.modeReq = some ⟨.host, mdOperate, 0, 0, false⟩ ∧ t.flag F.SYS_MODE_PENDING = true ∧
      t.hostFlight 0x30 tag ∧ s.sameRegs t (R.SYS_MODE.addr 0 0 :: hostRegs) ∧ t.mem = s.mem) ∧
  (∀ (s : State) (tag : Nat) (x m : Byte) (k resp : List Byte),
      s.hostReady = true → s.dev.modeReq = none → (x.toNat = mdTest ∨ x.toNat = mdRecovery) →
      s.work.modeAllowed x.toNat = true → (x.toNat = mdTest → s.work.testBarred m.toNat = false) → resp.length = 32 →
      s.work.key 4 = some k → s.flag F.SEC_STAT_LOCKOUT = false → s.flag F.SEC_STAT_NONCE_VALID = true →
    ∃ t, exec (.mode .host tag ([x, m, 0, 0] ++ resp)) s = .next t ∧
      t.flag F.SEC_STAT_NONCE_VALID = false ∧
      (resp = Config.hmacSha256 k (s.work.challenge x.toNat m.toNat) → t.hostFlight 0x30 tag ∧ t.flag F.SYS_MODE_PENDING = true ∧ t.get F.SEC_STAT_FAILS = 0) ∧
      (resp ≠ Config.hmacSha256 k (s.work.challenge x.toNat m.toNat) → s.hostAnswered t 0x30 tag stAuth [] ∧ t.dev.modeReq = none ∧ t.get F.SEC_STAT_FAILS = Nat.min 4 (s.get F.SEC_STAT_FAILS + 1))) ∧
  (∀ (s : State) (r : ModeReq) (f : Flight),
      s.dev.modeReq = some r → s.work.modeAllowed r.target = true → r.target < 8 → r.mask < 256 → r.origin = .host →
      s.dev.host.port.flight = some f → f.late = false → r.ready = true →
      (maskList r.quiesce 8).all s.work.atRest = true →
    ∃ t, exec (.modeCommit) s = .next t ∧
      t.get F.SYS_MODE_MODE = r.target ∧ t.get F.SYS_MODE_TEST_MASK = r.mask ∧
      t.get F.SYS_MODE_MODE_SEQ = (s.get F.SYS_MODE_MODE_SEQ + 1) % 256 ∧ t.flag F.SYS_MODE_PENDING = false ∧
      t.dev.modeReq = none ∧ s.hostAnswered t f.op f.tag stOk [] ∧
      (r.target = mdTest → s.sameRegs t (R.SYS_MODE.addr 0 0 :: R.SYS_CH_STATE.addr 0 0 :: hostRegs) ∧ t.mem = s.mem)) ∧
  (∀ (s : State) (r : ModeReq) (f : Flight),
      s.dev.modeReq = some r → s.work.modeAllowed r.target = false → r.origin = .host →
      s.dev.host.port.flight = some f → f.late = false → r.ready = true →
      (maskList r.quiesce 8).all s.work.atRest = true →
    ∃ t, exec (.modeCommit) s = .next t ∧
      t.work.mode = s.work.mode ∧ t.flag F.SYS_MODE_PENDING = false ∧ t.dev.modeReq = none ∧
      s.hostAnswered t f.op f.tag stState [] ∧ s.sameRegs t (R.SYS_MODE.addr 0 0 :: hostRegs) ∧ t.mem = s.mem) ∧
  (∀ (s : State) (tag : Nat) (x m : Byte),
      s.hostReady = true → s.work.modeAllowed x.toNat = false →
    ∃ t, exec (.mode .host tag [x, m, 0, 0]) s = .next t ∧
      t.work.mode = s.work.mode ∧ t.dev.modeReq = s.dev.modeReq ∧ s.hostAnswered t 0x30 tag stState [] ∧
      s.sameRegs t hostRegs ∧ t.mem = s.mem)

/-- What the commands that only read answer, and that they change nothing but the host port's own registers: STATUS
(R302), NOP, MEM_READ (R303), EVENT_READ (R218), and FETCH (R299, R300). -/
def Obligations.ReadCommands : Prop :=
  (∀ (s : State) (tag : Nat),
      s.hostReady = true →
    ∃ t, exec (.status .host tag []) s = .next t ∧
      s.hostAnswered t 0x01 tag stOk (leBytes 4 (s.reg (R.SYS_MODE.addr 0 0)) ++ leBytes 4 (s.reg (R.SYS_CH_STATE.addr 0 0)) ++ leBytes 2 (s.get F.HOST_ATTN_ACTIVE) ++ leBytes 2 0 ++ leBytes 4 (s.dev.tick % 2 ^ 32) ++ leBytes 4 (s.get F.SYS_IMG_SERIAL_SERIAL)) ∧
      t.get F.HOST_RESP_STATUS = stOk ∧ t.flag F.HOST_STAT_IN_FLIGHT = false ∧ t.flag F.HOST_STAT_RESP_READY = true ∧
      s.sameRegs t hostRegs ∧ t.mem = s.mem) ∧
  (∀ (s : State) (tag : Nat),
      s.hostReady = true →
    ∃ t, exec (.nop .host tag []) s = .next t ∧
      s.hostAnswered t 0x7F tag stOk [] ∧ s.sameRegs t hostRegs ∧ t.mem = s.mem) ∧
  (∀ (s : State) (tag : Nat) (pl : List Byte),
      s.hostReady = true → pl.length = 6 → 1 ≤ halfAt pl 4 → halfAt pl 4 ≤ 4096 →
      accessOk (wordAt pl 0) (halfAt pl 4) = true → regMapped (wordAt pl 0) = false →
      s.work.memHeld (wordAt pl 0) = false → (banksOf (wordAt pl 0) (halfAt pl 4)).any s.work.bankFailed = false →
    ∃ t, exec (.memRead .host tag pl) s = .next t ∧
      s.hostAnswered t 0x02 tag stOk ((upFrom (wordAt pl 0) (halfAt pl 4)).map s.byte) ∧ s.sameRegs t hostRegs ∧
      t.mem = s.mem) ∧
  (∀ (s : State) (tag : Nat) (pl : List Byte),
      s.hostReady = true → pl.length = 6 → halfAt pl 4 = 4 → accessOk (wordAt pl 0) 4 = true →
      regMapped (wordAt pl 0) = true → wordAt pl 0 < 0x40100000 → wordAt pl 0 ≠ R.RHL_SUBTICK.addr 0 0 →
      s.work.regHeld (wordAt pl 0) = false → wordAt pl 0 ∉ hostRegs →
    ∃ t, exec (.memRead .host tag pl) s = .next t ∧
      s.hostAnswered t 0x02 tag stOk (leBytes 4 (s.reg (wordAt pl 0))) ∧ s.sameRegs t hostRegs ∧ t.mem = s.mem) ∧
  (∀ (s : State) (tag : Nat) (pl : List Byte) (r first n : Nat),
      s.hostReady = true → s.work.modeAdmits 0x20 = true → pl.length = 8 → ringOf (byteAt pl 0) = some r →
      (s.work.mode = mdRecovery → r = devRing) → (r < 8 → s.work.isolated r = false) → s.work.ringFailed r = false →
      1 ≤ byteAt pl 1 → byteAt pl 1 ≤ 32 →
      (first = if bitOf (halfAt pl 2) 0 then (halfAt pl 4 + 65536 - s.work.ringOldest r) % 65536 else 0) →
      first ≤ s.work.ringCount r → n = Nat.min (byteAt pl 1) (s.work.ringCount r - first) →
    ∃ t, exec (.eventRead .host tag pl) s = .next t ∧
      s.hostAnswered t 0x20 tag stOk (s.work.ringHeader r n ++ ((upFrom first n).map (fun i => s.work.peeks (s.work.ringSlot r i) 16)).flatten) ∧
      s.sameRegs t hostRegs ∧ t.mem = s.mem) ∧
  (∀ (s : State),
      s.work.g3Deaf = false → s.dev.host.port.flight = none → s.dev.host.port.fresh = true →
    ∃ t, exec (.fetch true) s = .next t ∧
      t.dev.host.out = s.work.fetchFrame ∧ t.dev.host.port = { s.dev.host.port with fresh := false } ∧
      t.flag F.HOST_STAT_RESP_READY = false ∧ s.sameRegs t hostRegs ∧ t.mem = s.mem) ∧
  (∀ (s : State),
      s.work.g3Deaf = false → (s.dev.host.port.flight ≠ none ∨ s.dev.host.port.fresh = false) →
    ∃ t, exec (.fetch true) s = .next t ∧
      t.dev.host.out = s.work.fetchFrame ∧ t.dev.host.port = s.dev.host.port ∧ s.sameRegs t [] ∧ t.mem = s.mem) ∧
  (∀ (s : State),
      s.work.g3Deaf = false →
    ∃ t, exec (.fetch false) s = .next t ∧
      t.dev.host.port = s.dev.host.port ∧ s.sameRegs t [] ∧ t.mem = s.mem)

/-- MEM_WRITE into system SRAM (R303), the display commands as they are accepted (R162 to R165, log entry 14), and DIM
(R184, R187). -/
def Obligations.DisplayCommands : Prop :=
  (∀ (s : State) (tag : Nat) (pl : List Byte),
      s.hostReady = true → 5 ≤ pl.length → pl.length ≤ 4100 → wordAt pl 0 + (pl.length - 4) ≤ 0x001FB000 →
      (banksOf (wordAt pl 0) (pl.length - 4)).any s.work.bankFailed = false →
    ∃ t, exec (.memWrite .host tag pl) s = .next t ∧
      s.hostAnswered t 0x03 tag stOk [] ∧ (upFrom (wordAt pl 0) (pl.length - 4)).map t.byte = pl.drop 4 ∧
      s.sameBytesBut t (wordAt pl 0) (pl.length - 4) ∧ s.sameRegs t hostRegs) ∧
  (∀ (s : State) (ch : Fin 8) (tag : Nat) (pl : List Byte) (due : Option Nat) (late : Bool),
      s.hostReady = true → s.work.modeAdmits 0x10 = true → 1 ≤ byteAt pl 1 → byteAt pl 1 ≤ 32 →
      pl.length = 8 + 8 * byteAt pl 1 → halfAt pl 2 ≤ 1 →
      (List.range (byteAt pl 1)).all (fun i => decide (byteAt pl (9 + 8 * i) ≤ 1) && decide (halfAt pl (10 + 8 * i) = 0)) = true →
      byteAt pl 0 = ch → s.work.displayCheck ch = none →
      (fieldEntries pl (byteAt pl 1)).all (fun e => (s.work.fieldDef ch e.1).isSome) = true →
      (if s.work.held ch then (none, false) else s.work.judgeStamp (if bitOf (halfAt pl 2) 0 then some (wordAt pl 4) else none)) = (due, late) →
      (s.chan ch).swapPending = false → (s.chan ch).mash.queue.length < 256 → s.work.stampedFull ch due = false →
    ∃ t, exec (.fieldSet .host tag pl) s = .next t ∧
      (t.chan ch).mash.queue = (s.chan ch).mash.queue ++ [⟨.fields (fieldEntries pl (byteAt pl 1)), .host, some .host, some (s.chan ch).seq.started, due, late⟩] ∧
      (t.chan ch).mash.changes = (s.chan ch).mash.changes ++ (if due.isSome || late then (s.work.drawBody ch (.fields (fieldEntries pl (byteAt pl 1)))).2.changes.map (fun x => ⟨s.dev.tick, some (s.chan ch).seq.started, due, late, x⟩) else []) ∧
      t.hostFlight 0x10 tag ∧ s.sameRegs t (R.MASH_STAT.addr ch 0 :: hostRegs) ∧ t.mem = s.mem) ∧
  (∀ (s : State) (ch : Fin 8) (tag : Nat) (pl : List Byte) (due : Option Nat) (late : Bool),
      s.hostReady = true → s.work.modeAdmits 0x11 = true → 16 ≤ pl.length → pl.length ≤ 264 → pl.length % 8 = 0 →
      byteAt pl 1 ≤ 1 → byteAt pl 0 = ch → s.work.displayCheck ch = none → halfAt pl 2 ≤ 31 →
      (segPairs pl).all (fun p => decide (p.1 ≤ 31) && decide (p.2.1 &&& s.get F.MASH_OWN_OWNED ch p.1 = 0)) = true →
      (if s.work.held ch then (none, false) else s.work.judgeStamp (if bitOf (byteAt pl 1) 0 then some (wordAt pl 4) else none)) = (due, late) →
      (s.chan ch).swapPending = false → (s.chan ch).mash.queue.length < 256 → s.work.stampedFull ch due = false →
    ∃ t, exec (.segWrite .host tag pl) s = .next t ∧
      (t.chan ch).mash.queue = (s.chan ch).mash.queue ++ [⟨.segs (segPairs pl), .host, some .host, some (s.chan ch).seq.started, due, late⟩] ∧
      (t.chan ch).mash.changes = (s.chan ch).mash.changes ++ (if due.isSome || late then (s.work.drawBody ch (.segs (segPairs pl))).2.changes.map (fun x => ⟨s.dev.tick, some (s.chan ch).seq.started, due, late, x⟩) else []) ∧
      t.hostFlight 0x11 tag ∧ s.sameRegs t (R.MASH_STAT.addr ch 0 :: hostRegs) ∧ t.mem = s.mem) ∧
  (∀ (s : State) (tag : Nat) (pl : List Byte) (due : Option Nat) (late : Bool) (soonest : Nat),
      s.hostReady = true → s.work.modeAdmits 0x12 = true → pl.length = 8 → byteAt pl 1 ≤ 1 → halfAt pl 2 = 0 →
      s.work.judgeStamp (if bitOf (byteAt pl 1) 0 then some (wordAt pl 4) else none) = (due, late) →
      (maskList (byteAt pl 0) 8).all (fun n => (s.work.displayCheck n).isNone && s.work.held n && !(s.chan n).swapPending && !s.work.stampedFull n due) = true →
      (soonest = if (maskList (byteAt pl 0) 8).any (fun n => (s.chan n).cutPassed) then s.work.nextTick + 1 else s.work.nextTick) →
    ∃ t, exec (.imageSwap .host tag pl) s = .next t ∧
      (∀ n : Fin 8, bitOf (byteAt pl 0) n = true → (t.chan n).swapPending = true) ∧
      (∀ n : Fin 8, bitOf (byteAt pl 0) n = false → t.chan n = s.chan n) ∧
      s.hostAnswered t 0x12 tag stOk (leBytes 4 (match due with | none => soonest | some d => Nat.max d soonest)) ∧
      s.sameRegs t ((List.range 8).map (fun n => R.MASH_STAT.addr n 0) ++ hostRegs) ∧ t.mem = s.mem) ∧
  (∀ (s : State) (tag : Nat) (pl : List Byte) (tick : Nat) (addr : Nat → Nat),
      s.hostReady = true → s.work.modeAdmits 0x19 = true → pl.length = 12 → halfAt pl 0 ≠ 0 → byteAt pl 2 ≤ 3 →
      byteAt pl 3 = 0 → halfAt pl 10 = 0 → s.dev.dim.length = 16 →
      tick = (if bitOf (byteAt pl 2) 0 then wordAt pl 4 else s.work.dimLead) →
      (∀ g : Fin 16, addr g = if bitOf (s.get F.SYS_DIM_CFG_FABRIC_MASK) g && s.work.joined && !bitOf (byteAt pl 2) 1 then s.work.ownAddr else 0) →
      (∀ g : Fin 16, bitOf (halfAt pl 0) g = true → s.work.newer tick (addr g) (s.work.heldDim g).tick (s.work.heldDim g).addr = true) →
    ∃ t, exec (.dim .host tag pl) s = .next t ∧
      (∀ g : Fin 16, t.dev.dim.getD g none = if bitOf (halfAt pl 0) g then some ⟨halfAt pl 8, tick % 2 ^ 32, addr g, s.work.dimCut⟩ else s.dev.dim.getD g none) ∧
      s.hostAnswered t 0x19 tag stOk (leBytes 4 tick) ∧ s.sameRegs t hostRegs ∧ t.mem = s.mem)

/-- The four ALERT commands (R178): each adds one change to the channel, for the boundary it answers; an acknowledge
carries its origin (R179). -/
def Obligations.AlertCommands : Prop :=
  (∀ (s : State) (ch : Fin 8) (tag : Nat) (pl : List Byte) (due : Option Nat) (late : Bool),
      s.hostReady = true → s.work.modeAdmits 0x18 = true → pl.length = 12 → byteAt pl 1 ≤ 3 → halfAt pl 2 ≤ 1 →
      halfAt pl 10 = 0 → byteAt pl 0 = ch → s.work.displayCheck ch = none → (s.chan ch).blockHeld 10 = false →
      s.work.judgeStamp (if bitOf (halfAt pl 2) 0 then some (wordAt pl 4) else none) = (due, late) →
      s.work.stampedFull ch due = false → halfAt pl 8 < s.work.alertN ch →
    ∃ t, exec (.alertSetCondition .host tag pl) s = .next t ∧
      (t.chan ch).mash.changes = (s.chan ch).mash.changes ++ [⟨s.dev.tick, some (s.chan ch).seq.started, due, late, .alertCond (halfAt pl 8) true⟩] ∧
      s.hostAnswered t 0x18 tag stOk (leBytes 4 (s.work.appliesAt ch due)) ∧
      s.sameRegs t (R.MASH_STAT.addr ch 0 :: hostRegs) ∧ t.mem = s.mem) ∧
  (∀ (s : State) (ch : Fin 8) (tag : Nat) (pl : List Byte) (due : Option Nat) (late : Bool),
      s.hostReady = true → s.work.modeAdmits 0x18 = true → pl.length = 12 → byteAt pl 1 ≤ 3 → halfAt pl 2 ≤ 1 →
      halfAt pl 10 = 0 → byteAt pl 0 = ch → s.work.displayCheck ch = none → (s.chan ch).blockHeld 10 = false →
      s.work.judgeStamp (if bitOf (halfAt pl 2) 0 then some (wordAt pl 4) else none) = (due, late) →
      s.work.stampedFull ch due = false → halfAt pl 8 < s.work.alertN ch →
    ∃ t, exec (.alertClearCondition .host tag pl) s = .next t ∧
      (t.chan ch).mash.changes = (s.chan ch).mash.changes ++ [⟨s.dev.tick, some (s.chan ch).seq.started, due, late, .alertCond (halfAt pl 8) false⟩] ∧
      s.hostAnswered t 0x18 tag stOk (leBytes 4 (s.work.appliesAt ch due)) ∧
      s.sameRegs t (R.MASH_STAT.addr ch 0 :: hostRegs) ∧ t.mem = s.mem) ∧
  (∀ (s : State) (ch : Fin 8) (tag : Nat) (pl : List Byte) (due : Option Nat) (late : Bool),
      s.hostReady = true → s.work.modeAdmits 0x18 = true → pl.length = 12 → byteAt pl 1 ≤ 3 → halfAt pl 2 ≤ 1 →
      halfAt pl 10 = 0 → byteAt pl 0 = ch → s.work.displayCheck ch = none → (s.chan ch).blockHeld 10 = false →
      s.work.judgeStamp (if bitOf (halfAt pl 2) 0 then some (wordAt pl 4) else none) = (due, late) →
      s.work.stampedFull ch due = false → halfAt pl 8 < s.work.alertN ch →
    ∃ t, exec (.alertAcknowledge .host tag pl) s = .next t ∧
      (t.chan ch).mash.changes = (s.chan ch).mash.changes ++ [⟨s.dev.tick, some (s.chan ch).seq.started, due, late, .alertAck (halfAt pl 8) 1⟩] ∧
      s.hostAnswered t 0x18 tag stOk (leBytes 4 (s.work.appliesAt ch due)) ∧
      s.sameRegs t (R.MASH_STAT.addr ch 0 :: hostRegs) ∧ t.mem = s.mem) ∧
  (∀ (s : State) (ch : Fin 8) (tag : Nat) (pl : List Byte) (due : Option Nat) (late : Bool),
      s.hostReady = true → s.work.modeAdmits 0x18 = true → pl.length = 12 → byteAt pl 1 ≤ 3 → halfAt pl 2 ≤ 1 →
      halfAt pl 10 = 0 → byteAt pl 0 = ch → s.work.displayCheck ch = none → (s.chan ch).blockHeld 10 = false →
      s.work.judgeStamp (if bitOf (halfAt pl 2) 0 then some (wordAt pl 4) else none) = (due, late) →
      s.work.stampedFull ch due = false →
    ∃ t, exec (.alertAcknowledgeGroups .host tag pl) s = .next t ∧
      (t.chan ch).mash.changes = (s.chan ch).mash.changes ++ [⟨s.dev.tick, some (s.chan ch).seq.started, due, late, .alertAckGrp (halfAt pl 8 % 256) 1⟩] ∧
      s.hostAnswered t 0x18 tag stOk (leBytes 4 (s.work.appliesAt ch due)) ∧
      s.sameRegs t (R.MASH_STAT.addr ch 0 :: hostRegs) ∧ t.mem = s.mem)

/-- EVENT_ACK moves a ring's OLDEST and COUNT (R219); the four POWER commands begin an entry and stay in flight (R405,
R409); PADS_RELEASE (R414). -/
def Obligations.EventAndPowerCommands : Prop :=
  (∀ (s : State) (tag : Nat) (pl : List Byte) (r d : Nat),
      s.hostReady = true → s.work.modeAdmits 0x21 = true → pl.length = 4 → ringOf (byteAt pl 0) = some r →
      (s.work.mode = mdRecovery → r = devRing) → (r < 8 → s.work.isolated r = false ∧ (s.chan r).standby = false) →
      s.work.ringFailed r = false → d = (halfAt pl 2 + 65536 - s.work.ringOldest r) % 65536 → d < s.work.ringCount r →
    ∃ t, exec (.eventAck .host tag pl) s = .next t ∧
      t.work.ringCount r = s.work.ringCount r - (d + 1) ∧ t.work.ringOldest r = (halfAt pl 2 + 1) % 65536 ∧
      t.work.ringNext r = s.work.ringNext r ∧
      s.hostAnswered t 0x21 tag stOk (leBytes 2 ((halfAt pl 2 + 1) % 65536) ++ leBytes 2 (s.work.ringCount r - (d + 1))) ∧
      s.sameRegs t (ringRegs r ++ hostRegs) ∧ t.mem = s.mem) ∧
  (∀ (s : State) (tag : Nat) (pl : List Byte),
      s.hostReady = true → s.work.modeAdmits opPower = true → pl.length = 12 → byteAt pl 1 = 0 → halfAt pl 2 ≠ 0 →
      halfAt pl 2 &&& wakesOf 1 = halfAt pl 2 → (bitOf (halfAt pl 2) 6 = true → wordAt pl 8 ≠ 0) →
      s.dev.img.sess = none → s.flag F.SYS_IMG_STAT_FLASH_BUSY = false → s.dev.pwr.cmd = none → s.work.pairUp = false →
    ∃ t, exec (.powerIdle .host tag pl) s = .next t ∧
      t.dev.pwr.cmd = some ⟨.host, 1, halfAt pl 2, wordAt pl 4, wordAt pl 8⟩ ∧ t.flag F.PWR_STAT_ENTERING = true ∧
      t.get F.PWR_WAKE_PEND_PEND = 0 ∧ t.hostFlight 0x31 tag ∧ (∀ n : Fin 8, t.chan n = s.chan n) ∧
      s.sameRegs t (R.PWR_STAT.addr 0 0 :: R.PWR_WAKE_PEND.addr 0 0 :: hostRegs) ∧ t.mem = s.mem) ∧
  (∀ (s : State) (tag : Nat) (pl : List Byte),
      s.hostReady = true → s.work.modeAdmits opPower = true → pl.length = 12 → byteAt pl 1 = 0 → halfAt pl 2 ≠ 0 →
      halfAt pl 2 &&& wakesOf 2 = halfAt pl 2 → (bitOf (halfAt pl 2) 6 = true → wordAt pl 8 ≠ 0) →
      s.dev.img.sess = none → s.flag F.SYS_IMG_STAT_FLASH_BUSY = false → s.dev.pwr.cmd = none → s.work.pairUp = false →
    ∃ t, exec (.powerSleep .host tag pl) s = .next t ∧
      t.dev.pwr.cmd = some ⟨.host, 2, halfAt pl 2, wordAt pl 4, wordAt pl 8⟩ ∧ t.flag F.PWR_STAT_ENTERING = true ∧
      t.get F.PWR_WAKE_PEND_PEND = 0 ∧ t.hostFlight 0x31 tag ∧
      (∀ n : Fin 8, (s.chan n).running = true → (s.chan n).kiln.quiesce = .none → (t.chan n).kiln.quiesce = .pend) ∧
      s.sameRegs t (R.PWR_STAT.addr 0 0 :: R.PWR_WAKE_PEND.addr 0 0 :: hostRegs) ∧ t.mem = s.mem) ∧
  (∀ (s : State) (tag : Nat) (pl : List Byte),
      s.hostReady = true → s.work.modeAdmits opPower = true → pl.length = 12 → byteAt pl 1 = 0 → halfAt pl 2 ≠ 0 →
      halfAt pl 2 &&& wakesOf 3 = halfAt pl 2 → (bitOf (halfAt pl 2) 6 = true → wordAt pl 8 ≠ 0) →
      s.flag F.PWR_CFG_PMB_EN = true → s.dev.img.sess = none → s.flag F.SYS_IMG_STAT_FLASH_BUSY = false →
      s.dev.pwr.cmd = none → s.work.pairUp = false →
    ∃ t, exec (.powerDeep .host tag pl) s = .next t ∧
      t.dev.pwr.cmd = some ⟨.host, 3, halfAt pl 2, wordAt pl 4, wordAt pl 8⟩ ∧ t.flag F.PWR_STAT_ENTERING = true ∧
      t.get F.PWR_WAKE_PEND_PEND = 0 ∧ t.hostFlight 0x31 tag ∧
      (∀ n : Fin 8, (s.chan n).running = true → (s.chan n).kiln.quiesce = .none → (t.chan n).kiln.quiesce = .pend) ∧
      s.sameRegs t (R.PWR_STAT.addr 0 0 :: R.PWR_WAKE_PEND.addr 0 0 :: hostRegs) ∧ t.mem = s.mem) ∧
  (∀ (s : State) (tag : Nat) (pl : List Byte),
      s.hostReady = true → s.work.modeAdmits opPower = true → pl.length = 12 → byteAt pl 1 = 0 → halfAt pl 2 ≠ 0 →
      halfAt pl 2 &&& wakesOf 4 = halfAt pl 2 → (bitOf (halfAt pl 2) 6 = true → wordAt pl 8 ≠ 0) →
      s.flag F.PWR_CFG_PMB_EN = true → s.dev.img.sess = none → s.flag F.SYS_IMG_STAT_FLASH_BUSY = false →
      s.dev.pwr.cmd = none → s.work.pairUp = false →
    ∃ t, exec (.powerOff .host tag pl) s = .next t ∧
      t.dev.pwr.cmd = some ⟨.host, 4, halfAt pl 2, wordAt pl 4, wordAt pl 8⟩ ∧ t.flag F.PWR_STAT_ENTERING = true ∧
      t.get F.PWR_WAKE_PEND_PEND = 0 ∧ t.hostFlight 0x31 tag ∧
      (∀ n : Fin 8, (s.chan n).running = true → (s.chan n).kiln.quiesce = .none → (t.chan n).kiln.quiesce = .pend) ∧
      s.sameRegs t (R.PWR_STAT.addr 0 0 :: R.PWR_WAKE_PEND.addr 0 0 :: hostRegs) ∧ t.mem = s.mem) ∧
  (∀ (s : State) (tag : Nat) (pl : List Byte),
      s.hostReady = true → s.work.modeAdmits 0x32 = true → pl.length = 4 → leAt pl 1 3 = 0 → byteAt pl 0 ≠ 0 →
    ∃ t, exec (.padsRelease .host tag pl) s = .next t ∧
      t.dev.pwr.release = s.dev.pwr.release ||| (byteAt pl 0 &&& s.get F.PWR_STAT_LATCHED) ∧
      s.hostAnswered t 0x32 tag stOk [] ∧ s.sameRegs t hostRegs ∧ t.mem = s.mem)

/-- A load session from CFG_BEGIN to CFG_END (R64 to R67), its timeout (R66), and ABORT (R68, R305): what each answers,
and its frame. Whether an image passes its checks rests on functions that the spec names and does not spell out here
(log entry 15). -/
def Obligations.ImageSessions : Prop :=
  (∀ (s : State) (tag : Nat) (pl : List Byte),
      s.hostReady = true → s.work.mode ≠ mdTest → s.dev.img.sess = none → pl.length = 12 → byteAt pl 4 ≤ 1 →
      (byteAt pl 4 = 1 → byteAt pl 5 ≤ 7) → byteAt pl 6 < 4 → byteAt pl 7 = 0 →
      s.work.scopeAdmitted (byteAt pl 4) = true → (byteAt pl 4 = 1 → bitOf (byteAt pl 6) 1 = false) →
      wordAt pl 0 % 16 = 0 → 224 ≤ wordAt pl 0 → wordAt pl 0 ≤ 1572864 →
      (bitOf (byteAt pl 6) 0 = true → (wordAt pl 8 + 2 ^ 32 - s.work.tick32) % 2 ^ 32 ≤ 4096 ∨ 2 ^ 31 ≤ (wordAt pl 8 + 2 ^ 32 - s.work.tick32) % 2 ^ 32) →
    ∃ t, exec (.cfgBegin .host tag pl) s = .next t ∧
      t.dev.img.sess = some { owner := .host, length := wordAt pl 0, scope := byteAt pl 4, channel := byteAt pl 5, stamp := if bitOf (byteAt pl 6) 0 then some (wordAt pl 8) else none, late := false, store := bitOf (byteAt pl 6) 1, staged := [], lastUs := s.work.nowUs, tableOk := false, plain := [], asked := false, quiesced := 0, undo := none, endBy := none } ∧
      t.get F.SYS_CFG_SESS_STATE = csReceiving ∧ t.get F.SYS_CFG_SESS_OWNER = 0 ∧
      t.get F.SYS_CFG_SESS_NEXT_OFFSET = 0 ∧ s.hostAnswered t 0x40 tag stOk [] ∧
      s.sameRegs t (R.SYS_CFG_SESS.addr 0 0 :: hostRegs) ∧ t.mem = s.mem) ∧
  (∀ (s : State) (tag : Nat) (pl : List Byte) (x : Session) (b : List Byte) (ok : Bool),
      s.hostReady = true → s.work.mode ≠ mdTest → s.dev.img.sess = some x → x.owner = .host →
      s.work.sessState = csReceiving → s.work.scopeAdmitted x.scope = true → 8 ≤ pl.length →
      wordAt pl 0 = x.staged.length → b = x.staged ++ pl.drop 4 → b.length ≤ x.length → x.length ≤ 1572864 →
      (if x.tableOk then (0, true) else earlyCode (s.get F.SYS_ID_DIE_REV) (some x.length) b) = (0, ok) →
      (ok = true → ∀ e ∈ imgSecs b, e.off + e.len ≤ b.length → secCrcOk b e = true) →
    ∃ t, exec (.cfgData .host tag pl) s = .next t ∧
      t.dev.img.sess = some { x with staged := b, tableOk := ok, lastUs := s.work.nowUs } ∧
      t.get F.SYS_CFG_SESS_NEXT_OFFSET = b.length ∧ s.hostAnswered t 0x41 tag stOk (leBytes 4 b.length) ∧
      s.sameRegs t (R.SYS_CFG_SESS.addr 0 0 :: hostRegs) ∧ t.mem = s.mem) ∧
  (∀ (s : State) (tag : Nat) (x : Session) (code : Nat) (plain : List (Nat × List Byte)),
      s.hostReady = true → s.work.mode ≠ mdTest → s.dev.img.sess = some x → x.owner = .host →
      s.work.sessState = csReceiving → s.work.scopeAdmitted x.scope = true →
      (((s.taken 0x42 tag).modSess (fun x => { x with lastUs := s.work.nowUs })).checkImage (some x.length) (if x.scope = 1 then some x.channel else none) x.staged).2 = (code, plain) →
    ∃ t, exec (.cfgEnd .host tag []) s = .next t ∧
      (code = 0 → t.get F.SYS_CFG_SESS_STATE = csPending ∧ t.hostFlight 0x42 tag ∧ t.dev.img.sess.map (·.plain) = some plain ∧ t.dev.img.sess.map (·.endBy) = some (some .host)) ∧
      (code ≠ 0 → t.dev.img.sess = none ∧ t.get F.SYS_IMG_STAT_LAST_ERR = code % 256 ∧ t.dev.host.port.resp.status = refusalStatus code ∧ t.dev.host.port.flight = none)) ∧
  (∀ (s : State) (x : Session),
      s.dev.img.sess = some x → x.undo = none → x.asked = false → s.work.sessState = csReceiving →
      x.lastUs + 2000000 ≤ s.work.nowUs →
    ∃ t, exec (.cfgSessionTimeout) s = .next t ∧
      t.dev.img.sess = none ∧ t.get F.SYS_CFG_SESS_STATE = 0 ∧
      s.sameRegs t (R.SYS_CFG_SESS.addr 0 0 :: ringRegs devRing) ∧ s.sameMemButNext t devRing) ∧
  (∀ (s : State) (tag : Nat) (x : Session),
      s.hostReady = true → s.dev.img.sess = some x → x.owner = .host → x.undo = none → x.asked = false →
    ∃ t, exec (.abort .host tag false) s = .next t ∧
      t.dev.img.sess = none ∧ t.get F.SYS_CFG_SESS_STATE = 0 ∧ s.hostAnswered t 0x50 tag stOk [] ∧
      s.sameRegs t (R.SYS_CFG_SESS.addr 0 0 :: hostRegs) ∧ t.mem = s.mem) ∧
  (∀ (s : State) (tag ftag : Nat) (r : ModeReq),
      s.work.g3Deaf = false → s.work.asleep = false → s.work.pwrState = 0 → s.hostFlight opMode ftag →
      s.dev.modeReq = some r → r.quiesce = 0 →
    ∃ t, exec (.abort .host tag false) s = .next t ∧
      t.dev.modeReq = none ∧ t.flag F.SYS_MODE_PENDING = false ∧ s.hostAnswered t opMode ftag stAborted [] ∧
      s.sameRegs t (R.SYS_MODE.addr 0 0 :: hostRegs) ∧ t.mem = s.mem) ∧
  (∀ (s : State) (tag : Nat) (f : Flight),
      s.work.g3Deaf = false → s.work.pwrState = 0 → s.dev.host.port.flight = some f →
    ∃ t, exec (.abort .host tag true) s = .next t ∧
      t.dev.host.port = { s.dev.host.port with flight := some { f with late := true } } ∧ s.sameRegs t hostRegs ∧
      t.mem = s.mem) ∧
  (∀ (s : State) (tag : Nat),
      s.hostReady = true → s.dev.img.sess = none →
    ∃ t, exec (.abort .host tag false) s = .next t ∧
      s.hostAnswered t 0x50 tag stState [] ∧ s.sameRegs t hostRegs ∧ t.mem = s.mem)

/-- The activation of a checked image: of a whole one in BOOT at once, and outside BOOT with what it replaces kept for
the commit (R68, R69); of a partial one (R70); and the boot flash with its two copies (R73). -/
def Obligations.ImageActivation : Prop :=
  (∀ (s : State) (x : Session) (bad tag : Nat),
      s.dev.img.sess = some x → x.scope ≠ 1 → s.work.sessState = csPending → x.undo = none →
      x.due s.dev.tick = true → s.work.mode = mdBoot → 11 ≤ s.work.relStep →
      (s.work.marchBanks (imgBanks x.image) bad).isSome = true →
      (((s.work.marchBanks (imgBanks x.image) bad).getD s.work).applyImage x.image).isOk = true →
      x.endBy = some .host → s.hostFlight 0x42 tag →
    ∃ t, exec (.imageActivate bad) s = .next t ∧
      t.flag F.SYS_IMG_STAT_ACTIVE = true ∧ t.get F.SYS_IMG_STAT_SOURCE = sourceOf x.owner ∧
      t.get F.SYS_IMG_SERIAL_SERIAL = imgSerial x.staged ∧ t.dev.img.whole = some x.image ∧ t.dev.img.sess = none ∧
      t.dev.rst.chLeft = maskList (imgEnabled x.image) 8 ∧
      (t.get F.SYS_MODE_MODE = if t.flag F.SYS_MODE_SAFE_START then mdStartUp else imgMode x.staged)) ∧
  (∀ (s : State) (x : Session) (bad : Nat),
      s.dev.img.sess = some x → x.scope ≠ 1 → s.work.sessState = csPending → x.undo = none →
      x.due s.dev.tick = true → s.work.mode ≠ mdBoot → x.asked = true → (List.range 8).all s.work.atRest = true →
      (s.work.marchBanks (imgBanks x.image) bad).isSome = true →
      (((s.work.marchBanks (imgBanks x.image) bad).getD s.work).applyImage x.image).isOk = true →
    ∃ t, exec (.imageActivate bad) s = .next t ∧
      t.dev.img.sess = some { x with undo := some ((s.work.marchBanks (imgBanks x.image) bad).getD s.work).snapshot } ∧
      t.dev.rst.enter = some (imgMode x.staged) ∧
      (∀ n : Fin 8, bitOf (imgEnabled x.image) n = true → (t.chan n).restart = some .image)) ∧
  (∀ (s : State) (x : Session) (bad : Nat),
      s.dev.img.sess = some x → x.scope = 1 → x.channel < 8 → s.work.sessState = csPending → x.undo = none →
      x.asked = true → s.work.atRest x.channel = true → (s.work.marchBanks [16 + x.channel] bad).isSome = true →
      ((s.work.marchBanks [16 + x.channel] bad).getD s.work).trialCode x.image = 0 →
      (((s.work.marchBanks [16 + x.channel] bad).getD s.work).applyImage x.image).isOk = true →
    ∃ t, exec (.partialImageActivate bad) s = .next t ∧
      t.dev.img.sess = some { x with undo := some ((s.work.marchBanks [16 + x.channel] bad).getD s.work).snapshot } ∧
      (t.chan x.channel).restart = some .image) ∧
  (∀ (s : State) (c d : Nat),
      s.work.mode = mdBoot → 11 ≤ s.work.relStep → s.get F.SYS_BOOTSEL_SRC = 1 → s.dev.img.sess = none →
      (s.work.bootCopy (flashImage s.dev.img.primary) 2).2 = c →
      (((s.work.bootCopy (flashImage s.dev.img.primary) 2).1.raise F.SYS_IMG_STAT_PRIMARY_BAD).bootCopy (flashImage s.dev.img.fallback) 3).2 = d →
    ∃ t, exec (.bootFlashLoad) s = .next t ∧
      (c = 0 → t.flag F.SYS_IMG_STAT_ACTIVE = true ∧ t.get F.SYS_IMG_STAT_SOURCE = 2) ∧
      (c ≠ 0 → d = 0 → t.flag F.SYS_IMG_STAT_ACTIVE = true ∧ t.get F.SYS_IMG_STAT_SOURCE = 3) ∧
      (c ≠ 0 → d ≠ 0 → t.flag F.SYS_IMG_STAT_PRIMARY_BAD = true ∧ t.get F.SYS_IMG_STAT_LAST_ERR = c % 256))

/-- FABRIC_WRAP sends its request and waits, or completes at once (R308); its timeout; bad frames and rejected frames at
the host port (R297, R298). -/
def Obligations.FabricWrapAndFrames : Prop :=
  (∀ (s : State) (tag : Nat) (pl : List Byte),
      s.hostReady = true → s.work.modeAdmits 0x60 = true → 11 ≤ pl.length → halfAt pl 0 ≤ 511 → halfAt pl 0 ≠ 0 →
      byteAt pl 2 ≤ 1 → byteAt pl 3 = 0 → 1 ≤ halfAt pl 4 → halfAt pl 4 ≤ 4000 → byteAt (pl.drop 6) 2 = 0 →
      (pl.drop 6).length = 5 + halfAt (pl.drop 6) 3 → halfAt (pl.drop 6) 3 ≤ 1012 → s.work.joined = true →
      s.flag F.SYS_BLK_RST_FABRIC = false → byteAt pl 2 = 0 → halfAt pl 0 ≠ 511 →
    ∃ t, exec (.fabricWrap .host tag pl) s = .next t ∧
      t.dev.host.wraps = s.dev.host.wraps ++ [⟨.host, s.dev.host.wrapTag, halfAt pl 4⟩] ∧ t.hostFlight 0x60 tag ∧
      t.dev.sent = s.work.castSent 0x30 (halfAt pl 0) 1 (leBytes 2 s.dev.host.wrapTag ++ leBytes 1 (byteAt pl 2) ++ leBytes 1 0 ++ pl.drop 6) ∧
      t.dev.host.wrapTag = (s.dev.host.wrapTag + 1) % 65536 ∧ s.sameRegs t hostRegs ∧ t.mem = s.mem) ∧
  (∀ (s : State) (tag : Nat) (pl : List Byte),
      s.hostReady = true → s.work.modeAdmits 0x60 = true → 11 ≤ pl.length → halfAt pl 0 ≤ 511 → halfAt pl 0 ≠ 0 →
      byteAt pl 2 ≤ 1 → byteAt pl 3 = 0 → 1 ≤ halfAt pl 4 → halfAt pl 4 ≤ 4000 → byteAt (pl.drop 6) 2 = 0 →
      (pl.drop 6).length = 5 + halfAt (pl.drop 6) 3 → halfAt (pl.drop 6) 3 ≤ 1012 → s.work.joined = true →
      s.flag F.SYS_BLK_RST_FABRIC = false → (byteAt pl 2 = 1 ∨ halfAt pl 0 = 511) →
    ∃ t, exec (.fabricWrap .host tag pl) s = .next t ∧
      t.dev.host.wraps = s.dev.host.wraps ∧ s.hostAnswered t 0x60 tag stOk [] ∧
      t.dev.sent = s.work.castSent 0x30 (halfAt pl 0) 1 (leBytes 2 s.dev.host.wrapTag ++ leBytes 1 (byteAt pl 2) ++ leBytes 1 0 ++ pl.drop 6) ∧
      s.sameRegs t hostRegs ∧ t.mem = s.mem) ∧
  (∀ (s : State) (tag : Nat) (pl : List Byte),
      s.hostReady = true → s.work.modeAdmits 0x60 = true → 11 ≤ pl.length → halfAt pl 0 ≤ 511 → halfAt pl 0 ≠ 0 →
      byteAt pl 2 ≤ 1 → byteAt pl 3 = 0 → 1 ≤ halfAt pl 4 → halfAt pl 4 ≤ 4000 → byteAt (pl.drop 6) 2 = 0 →
      (pl.drop 6).length = 5 + halfAt (pl.drop 6) 3 → halfAt (pl.drop 6) 3 ≤ 1012 →
      s.flag F.SYS_BLK_RST_FABRIC = true →
    ∃ t, exec (.fabricWrap .host tag pl) s = .next t ∧
      s.hostAnswered t 0x60 tag stIsol [] ∧ t.dev.host.wraps = s.dev.host.wraps ∧ s.sameRegs t hostRegs ∧
      t.mem = s.mem) ∧
  (∀ (s : State) (x : WrapWait) (f : Flight),
      s.dev.host.wraps = [x] → x.left = 0 → x.who = .host → s.dev.host.port.flight = some f →
    ∃ t, exec (.fabricWrapTimeout) s = .next t ∧
      t.dev.host.wraps = [] ∧
      t.dev.host.port = { flight := none, answered := true, fresh := true, rseq := (s.dev.host.port.rseq + 1) % 65536, resp := ⟨f.op, f.tag, stState, [], f.late, true⟩ } ∧
      s.sameRegs t hostRegs ∧ t.mem = s.mem) ∧
  (∀ (s : State),
      s.hostReady = true →
    ∃ t, exec (.g3BadFrame .short) s = .next t ∧
      t.flag F.HOST_ERR_FRAME_ERR = true ∧ t.dev.host.port = s.dev.host.port ∧ s.sameRegs t [R.HOST_ERR.addr 0 0] ∧
      t.mem = s.mem) ∧
  (∀ (s : State) (op tag : Nat),
      s.hostReady = true →
    ∃ t, exec (.g3BadFrame (.crc op tag)) s = .next t ∧
      t.flag F.HOST_ERR_CRC_ERR = true ∧ t.get F.HOST_CNT_CRC_ERRS = Nat.min 65535 (s.get F.HOST_CNT_CRC_ERRS + 1) ∧
      s.hostAnswered t op tag stCrc [] ∧ s.sameRegs t (R.HOST_ERR.addr 0 0 :: hostRegs) ∧ t.mem = s.mem) ∧
  (∀ (s : State) (op tag : Nat),
      s.hostReady = true →
    ∃ t, exec (.g3BadFrame (.opcode op tag)) s = .next t ∧
      s.hostAnswered t op tag stArg [] ∧ s.sameRegs t hostRegs ∧ t.mem = s.mem) ∧
  (∀ (s : State) (why : BadFrame),
      s.work.g3Deaf = false → s.work.pwrState = 1 → s.dev.host.held = none →
    ∃ t, exec (.g3BadFrame why) s = .next t ∧
      t.dev.host.held = some (.bad why) ∧ s.sameRegs t [] ∧ t.mem = s.mem) ∧
  (∀ (s : State) (op tag : Nat),
      s.work.g3Deaf = false → s.work.pwrState = 0 → s.dev.host.port.flight ≠ none → op ≠ opAbort → op ≠ 0x80 →
    ∃ t, exec (.g3FrameReject op tag) s = .next t ∧
      t.flag F.HOST_ERR_REJECT = true ∧ t.dev.host.port = s.dev.host.port ∧ s.sameRegs t [R.HOST_ERR.addr 0 0] ∧
      t.mem = s.mem)

/-- A write of a plain device register and of a channel setting, a write that is refused, and a write that a wrapper
answers (R3 to R6, R12, R13, R19, R397). -/
def Obligations.RegisterWrites : Prop :=
  (∀ (s : State) (o : Origin) (a : Nat) (v : Word),
      0x40050000 ≤ a → a < 0x40080000 → a ≠ R.PAIR_HAND.addr 0 0 → s.accepts a v.toNat = true →
    ∃ t, exec (.registerWrite o a v) s = .next t ∧
      t.reg a = s.written a v.toNat ∧ s.sameRegs t [a] ∧ t.mem = s.mem) ∧
  (∀ (s : State) (o : Origin) (ch : Fin 8) (a : Nat) (v : Word),
      0x40100000 ≤ a → a < 0x40180000 → channelOf a = ch → boundaryReg a = true → isSetting a = true →
      (foldChannel a < R.LAMP_DEM.base ∨ R.LAMP_DEM.base + 128 ≤ foldChannel a) → s.accepts a v.toNat = true →
      s.written a v.toNat ≠ s.reg a →
    ∃ t, exec (.registerWrite o a v) s = .next t ∧
      t.reg a = s.written a v.toNat ∧ t.work.curReg ch a = s.work.curReg ch a ∧
      (t.chan ch).mash.changes = (s.chan ch).mash.changes ++ [⟨s.dev.tick, some (s.chan ch).seq.started, none, false, .reg a (s.written a v.toNat)⟩] ∧
      s.sameRegs t [a, R.MASH_STAT.addr ch 0] ∧ t.mem = s.mem) ∧
  (∀ (s : State) (o : Origin) (a : Nat) (v : Word),
      s.accepts a v.toNat = false → s.work.regHeld a = false →
    ∃ t, exec (.registerWrite o a v) s = .next t ∧
      s.sameRegs t [] ∧ t.mem = s.mem ∧ (∀ n : Fin 8, t.chan n = s.chan n)) ∧
  (∀ (s : State) (o : Origin) (ch : Fin 8) (a : Nat) (v : Word),
      0x40100000 ≤ a → a < 0x40180000 → regMapped a = true → a % 4 = 0 → channelOf a = ch → s.work.regHeld a = true →
    ∃ t, exec (.registerWrite o a v) s = .next t ∧
      t.get F.CTL_STAT_ISO_ERRS ch = Nat.min 65535 (s.get F.CTL_STAT_ISO_ERRS ch + 1) ∧
      s.sameRegs t [R.CTL_STAT.addr ch 0] ∧ t.mem = s.mem)

/-- The register sets of the forerunners on the host port: G2 writes, reads and soft reset (R310, R311), and the G1
commands (R224, R312 to R314), on a channel that suits them. -/
def Obligations.EmulatedRegisterSets : Prop :=
  (∀ (s : State) (addr : Nat) (data : List Byte),
      s.work.g3Deaf = false → s.flag F.HOST_CFG_G2_EN = true → s.work.emuSuits true = true → s.work.emuBarred = false →
    ∃ t, exec (.g2Write addr data) s = .next t ∧
      t.dev.host.g2 = (((List.range data.length).zip data).foldl (fun x p => x.g2Store (addr + p.1) p.2.toNat) s.work).host.g2 ∧
      t.dev.host.port = s.dev.host.port ∧
      (2 ≤ addr → s.sameRegs t [R.MASH_STAT.addr s.work.emuCh 0, R.MASH_ERR.addr s.work.emuCh 0, R.CTL_STAT.addr s.work.emuCh 0, R.HOST_ERR.addr 0 0]) ∧
      t.mem = s.mem) ∧
  (∀ (s : State) (k : Fin 20) (b : Byte),
      s.work.g3Deaf = false → s.flag F.HOST_CFG_G2_EN = true → s.work.emuSuits true = true → s.work.emuBarred = false →
    ∃ t, exec (.g2Write (16 + k) [b]) s = .next t ∧
      t.work.g2Byte (16 + k) = b.toNat ∧ t.mem = s.mem) ∧
  (∀ (s : State) (addr count : Nat),
      s.work.g3Deaf = false → s.flag F.HOST_CFG_G2_EN = true → s.work.emuSuits true = true →
    ∃ t, exec (.g2Read addr count) s = .next t ∧
      t.dev.host.out = (upFrom addr count).map (fun a => BitVec.ofNat 8 (s.work.g2Byte a)) ∧ s.sameRegs t [] ∧
      t.mem = s.mem) ∧
  (∀ (s : State),
      s.work.g3Deaf = false → s.flag F.HOST_CFG_G2_EN = true → s.work.emuSuits true = true → s.work.emuBarred = false →
    ∃ t, exec (.g2SoftReset) s = .next t ∧
      t.dev.host.g2 = [] ∧ t.mem = s.mem) ∧
  (∀ (s : State) (addr : Nat) (data : List Byte),
      s.work.g3Deaf = false → s.flag F.HOST_CFG_G2_EN = false →
    ∃ t, exec (.g2Write addr data) s = .next t ∧
      t.flag F.HOST_ERR_G2_OFF = true ∧ t.dev.host.g2 = s.dev.host.g2 ∧ s.sameRegs t [R.HOST_ERR.addr 0 0] ∧
      t.mem = s.mem) ∧
  (∀ (s : State) (addr : Nat) (data : List Byte),
      s.work.g1Open = true → [mdBoot, mdTest, mdRecovery].contains s.work.mode = false →
      s.work.emuSuits false = true → s.work.displayCheck s.work.emuCh = none →
      (s.chan s.work.emuCh).mash.queue.length < 256 → (s.chan s.work.emuCh).mash.waiting = [] → data ≠ [] →
    ∃ t, exec (.g1WriteAuto addr data) s = .next t ∧
      t.dev.host.g1 = ((List.range data.length).zip data).foldl (fun l p => l.set ((addr + p.1) % 16) p.2) s.dev.host.g1 ∧
      (t.chan s.work.emuCh).mash.queue = (s.chan s.work.emuCh).mash.queue ++ [⟨.plane (t.work.g1Plane ((List.range 16).filter (fun a => (List.range data.length).any (fun i => (addr + i) % 16 == a)))), .host, none, some (s.chan s.work.emuCh).seq.started, none, false⟩] ∧
      s.sameRegs t [R.MASH_STAT.addr s.work.emuCh 0] ∧ t.mem = s.mem) ∧
  (∀ (s : State) (addr : Nat) (b : Byte),
      s.work.g1Open = true → [mdBoot, mdTest, mdRecovery].contains s.work.mode = false →
      s.work.emuSuits false = true → s.work.displayCheck s.work.emuCh = none →
      (s.chan s.work.emuCh).mash.queue.length < 256 → (s.chan s.work.emuCh).mash.waiting = [] →
    ∃ t, exec (.g1WriteFixed addr b) s = .next t ∧
      t.dev.host.g1 = s.dev.host.g1.set (addr % 16) b ∧
      (t.chan s.work.emuCh).mash.queue = (s.chan s.work.emuCh).mash.queue ++ [⟨.plane (t.work.g1Plane ((List.range 16).filter (fun a => addr % 16 == a))), .host, none, some (s.chan s.work.emuCh).seq.started, none, false⟩] ∧
      s.sameRegs t [R.MASH_STAT.addr s.work.emuCh 0] ∧ t.mem = s.mem) ∧
  (∀ (s : State) (k x : Nat) (rest : List (Nat × Nat)),
      s.work.g1Open = true → s.work.emuSuits false = true → (s.chan s.work.emuCh).cask.compat = (k, x) :: rest →
    ∃ t, exec (.g1ReadKey) s = .next t ∧
      t.dev.host.out = leBytes 1 k ++ leBytes 2 x ∧ (t.chan s.work.emuCh).cask.compat = rest ∧
      t.get F.CASK_COMPAT_QCOUNT s.work.emuCh = rest.length % 32 ∧ s.sameRegs t [R.CASK_COMPAT.addr s.work.emuCh 0] ∧
      t.mem = s.mem) ∧
  (∀ (s : State),
      s.work.g1Open = true → s.work.emuSuits false = true → (s.chan s.work.emuCh).cask.compat = [] →
    ∃ t, exec (.g1ReadKey) s = .next t ∧
      t.dev.host.out = [0xFF, 0xFF, 0xFF] ∧ s.sameRegs t [] ∧ t.mem = s.mem) ∧
  (∀ (s : State),
      s.work.g1Open = true → s.work.emuSuits false = true →
    ∃ t, exec (.g1ReadCount) s = .next t ∧
      t.dev.host.out = leBytes 1 (s.chan s.work.emuCh).cask.compat.length ∧ s.sameRegs t [] ∧ t.mem = s.mem) ∧
  (∀ (s : State),
      s.work.g1Open = true → s.work.emuSuits false = true →
    ∃ t, exec (.g1QueueClear) s = .next t ∧
      (t.chan s.work.emuCh).cask.compat = [] ∧ t.get F.CASK_COMPAT_QCOUNT s.work.emuCh = 0 ∧
      t.flag F.CASK_COMPAT_QOVF s.work.emuCh = false ∧ s.sameRegs t [R.CASK_COMPAT.addr s.work.emuCh 0] ∧
      t.mem = s.mem) ∧
  (∀ (s : State),
      s.work.g1Open = true → [mdBoot, mdTest, mdRecovery].contains s.work.mode = false →
      s.work.emuSuits false = true → s.work.displayCheck s.work.emuCh = none →
      (s.chan s.work.emuCh).mash.queue.length < 256 → (s.chan s.work.emuCh).mash.waiting = [] →
    ∃ t, exec (.g1DisplayOff) s = .next t ∧
      t.dev.host.g1Off = true ∧
      (t.chan s.work.emuCh).mash.queue = (s.chan s.work.emuCh).mash.queue ++ [⟨.plane (t.work.g1Plane (List.range 16)), .host, none, some (s.chan s.work.emuCh).seq.started, none, false⟩] ∧
      s.sameRegs t [R.MASH_STAT.addr s.work.emuCh 0] ∧ t.mem = s.mem) ∧
  (∀ (s : State) (b : Nat),
      s.work.g1Open = true → [mdBoot, mdTest, mdRecovery].contains s.work.mode = false →
      s.work.emuSuits false = true → s.work.displayCheck s.work.emuCh = none →
      (s.chan s.work.emuCh).mash.queue.length < 256 → (s.chan s.work.emuCh).mash.waiting = [] →
    ∃ t, exec (.g1DisplayOn b) s = .next t ∧
      t.dev.host.g1Off = false ∧
      t.get F.LED_CLASS_VALUE s.work.emuCh (s.get F.HOST_EMU_G1_CLASS) = g1Values.getD (b % 16) 0 ∧
      (t.chan s.work.emuCh).mash.queue = (s.chan s.work.emuCh).mash.queue ++ [⟨.plane (t.work.g1Plane (List.range 16)), .host, none, some (s.chan s.work.emuCh).seq.started, none, false⟩] ∧
      s.sameRegs t [R.MASH_STAT.addr s.work.emuCh 0, R.LED_CLASS.addr s.work.emuCh (s.get F.HOST_EMU_G1_CLASS)] ∧
      t.mem = s.mem) ∧
  (∀ (s : State) (b : Byte),
      s.work.g1Open = true →
    ∃ t, exec (.g1BadCommand b) s = .next t ∧
      t.flag F.HOST_ERR_G1_BADCMD = true ∧ s.sameRegs t [R.HOST_ERR.addr 0 0] ∧ t.mem = s.mem)

/-- Writes of SEQ_CTL: a commit request, RUN set and cleared, STATS_CLR (R31, R48, R84, R93); of SYS_TICK_CFG (R47) and
of KILN_LEDGER_CTL (R86). Each takes effect at a boundary. -/
def Obligations.SequencerRegisters : Prop :=
  (∀ (s : State) (o : Origin) (ch : Fin 8) (v : Word),
      s.accepts (R.SEQ_CTL.addr ch 0) v.toNat = true → bitOf v.toNat 0 = true → s.work.commitStatus ch = none →
    ∃ t, exec (.seqCommit o ch v) s = .next t ∧
      (t.chan ch).seq.commit = some (s.work.shadowPlan ch) ∧ t.flag F.SEQ_CTL_COMMIT ch = true ∧
      t.flag F.SEQ_CTL_RUN ch = bitOf v.toNat 1 ∧ s.sameRegs t [R.SEQ_CTL.addr ch 0] ∧ t.mem = s.mem) ∧
  (∀ (s : State) (o : Origin) (ch : Fin 8) (v : Word),
      s.accepts (R.SEQ_CTL.addr ch 0) v.toNat = true → bitOf v.toNat 0 = true →
      (∃ st, s.work.commitStatus ch = some st ∧ st ≠ stBusy) →
    ∃ t, exec (.seqCommit o ch v) s = .next t ∧
      t.flag F.SEQ_ERR_PLAN_REFUSED ch = true ∧ (t.chan ch).seq.commit = (s.chan ch).seq.commit ∧
      s.sameRegs t [R.SEQ_ERR.addr ch 0] ∧ t.mem = s.mem) ∧
  (∀ (s : State) (o : Origin) (ch : Fin 8) (v : Word),
      s.accepts (R.SEQ_CTL.addr ch 0) v.toNat = true → bitOf v.toNat 0 = false → bitOf v.toNat 1 = true →
      s.flag F.SEQ_CTL_RUN ch = false → (s.chan ch).kiln.faulted = false → (s.chan ch).running = false →
    ∃ t, exec (.seqRun o ch v) s = .next t ∧
      t.flag F.SEQ_CTL_RUN ch = true ∧ (t.chan ch).restart = some ((s.chan ch).restart.getD .plain) ∧
      s.sameRegs t [R.SEQ_CTL.addr ch 0] ∧ t.mem = s.mem) ∧
  (∀ (s : State) (o : Origin) (ch : Fin 8) (v : Word),
      s.accepts (R.SEQ_CTL.addr ch 0) v.toNat = true → bitOf v.toNat 0 = false → bitOf v.toNat 1 = false →
      s.flag F.SEQ_CTL_RUN ch = true → (s.chan ch).running = true → (s.chan ch).kiln.quiesce = .none →
    ∃ t, exec (.seqStop o ch v) s = .next t ∧
      t.flag F.SEQ_CTL_RUN ch = false ∧ (t.chan ch).kiln.quiesce = .pend ∧ s.sameRegs t [R.SEQ_CTL.addr ch 0] ∧
      t.mem = s.mem) ∧
  (∀ (s : State) (o : Origin) (ch : Fin 8) (v : Word),
      s.accepts (R.SEQ_CTL.addr ch 0) v.toNat = true → bitOf v.toNat 0 = false →
      bitOf v.toNat 1 = s.flag F.SEQ_CTL_RUN ch → bitOf v.toNat 31 = true →
    ∃ t, exec (.statsClr o ch v) s = .next t ∧
      (t.chan ch).seq.statsClr = true ∧ t.flag F.SEQ_CTL_RUN ch = s.flag F.SEQ_CTL_RUN ch ∧
      s.sameRegs t [R.SEQ_CTL.addr ch 0] ∧ t.mem = s.mem) ∧
  (∀ (s : State) (o : Origin) (v : Word),
      s.accepts (R.SYS_TICK_CFG.addr 0 0) v.toNat = true →
    ∃ t, exec (.tickCfgWrite o v) s = .next t ∧
      t.dev.lock.cfgPend = some (s.written (R.SYS_TICK_CFG.addr 0 0) v.toNat) ∧
      t.dev.lock.periodUs = s.dev.lock.periodUs ∧ s.sameRegs t [] ∧ t.mem = s.mem) ∧
  (∀ (s : State) (o : Origin) (ch : Fin 8) (v : Word),
      s.accepts (R.KILN_LEDGER_CTL.addr ch 0) v.toNat = true → bitOf v.toNat 0 = true →
    ∃ t, exec (.maxClr o ch v) s = .next t ∧
      (t.chan ch).kiln.maxClr = true ∧ s.sameRegs t [] ∧ t.mem = s.mem)

/-- Writes that clear failures (R127, R248), that disable a governor (R108, R249), and of the lamp demand and force
registers (R236, R255); each is in force from a boundary. -/
def Obligations.ClearAndGovernorRegisters : Prop :=
  (∀ (s : State) (o : Origin) (ch : Fin 8) (v : Word),
      s.accepts (R.INTEG_CLR.addr ch 0) v.toNat = true → bitOf v.toNat 0 = true → bitOf v.toNat 1 = false →
    ∃ t, exec (.integClrAll o ch v) s = .next t ∧
      (t.chan ch).integ.clr = (s.chan ch).integ.clr ++ [none] ∧ s.sameRegs t [] ∧ t.mem = s.mem) ∧
  (∀ (s : State) (o : Origin) (ch : Fin 8) (v : Word),
      s.accepts (R.INTEG_CLR.addr ch 0) v.toNat = true → bitOf v.toNat 0 = false → bitOf v.toNat 1 = true →
    ∃ t, exec (.integClrField o ch v) s = .next t ∧
      (t.chan ch).integ.clr = (s.chan ch).integ.clr ++ [some (bitsOf v.toNat 14 8)] ∧ s.sameRegs t [] ∧ t.mem = s.mem) ∧
  (∀ (s : State) (o : Origin) (ch : Fin 8) (v : Word),
      s.accepts (R.LAMP_CLR.addr ch 0) v.toNat = true → bitOf v.toNat 0 = true → bitOf v.toNat 1 = false →
    ∃ t, exec (.lampClrAll o ch v) s = .next t ∧
      (t.chan ch).lamp.clr = (s.chan ch).lamp.clr ++ [none] ∧ s.sameRegs t [] ∧ t.mem = s.mem) ∧
  (∀ (s : State) (o : Origin) (ch : Fin 8) (v : Word),
      s.accepts (R.LAMP_CLR.addr ch 0) v.toNat = true → bitOf v.toNat 0 = false → bitOf v.toNat 1 = true →
    ∃ t, exec (.lampClrFn o ch v) s = .next t ∧
      (t.chan ch).lamp.clr = (s.chan ch).lamp.clr ++ [some (bitsOf v.toNat 12 8)] ∧ s.sameRegs t [] ∧ t.mem = s.mem) ∧
  (∀ (s : State) (o : Origin) (ch : Fin 8) (v : Word),
      s.accepts (R.LED_CFG.addr ch 0) v.toNat = true → bitOf v.toNat 19 = false → s.flag F.LED_CFG_GOV_EN ch = true →
    ∃ t, exec (.ledGovDisable o ch v) s = .next t ∧
      t.flag F.LED_CFG_GOV_EN ch = false ∧
      t.work.curReg ch (R.LED_CFG.addr ch 0) = s.work.curReg ch (R.LED_CFG.addr ch 0) ∧
      (t.chan ch).mash.changes = (s.chan ch).mash.changes ++ [⟨s.dev.tick, some (s.chan ch).seq.started, none, false, .reg (R.LED_CFG.addr ch 0) (s.written (R.LED_CFG.addr ch 0) v.toNat)⟩] ∧
      s.sameRegs t [R.LED_CFG.addr ch 0, R.MASH_STAT.addr ch 0] ∧ t.mem = s.mem) ∧
  (∀ (s : State) (o : Origin) (ch : Fin 8) (v : Word),
      s.accepts (R.LAMP_CFG.addr ch 0) v.toNat = true → bitOf v.toNat 2 = false → s.flag F.LAMP_CFG_GOV_EN ch = true →
    ∃ t, exec (.lampGovDisable o ch v) s = .next t ∧
      t.flag F.LAMP_CFG_GOV_EN ch = false ∧
      t.work.curReg ch (R.LAMP_CFG.addr ch 0) = s.work.curReg ch (R.LAMP_CFG.addr ch 0) ∧
      (t.chan ch).mash.changes = (s.chan ch).mash.changes ++ [⟨s.dev.tick, some (s.chan ch).seq.started, none, false, .reg (R.LAMP_CFG.addr ch 0) (s.written (R.LAMP_CFG.addr ch 0) v.toNat)⟩] ∧
      s.sameRegs t [R.LAMP_CFG.addr ch 0, R.MASH_STAT.addr ch 0] ∧ t.mem = s.mem) ∧
  (∀ (s : State) (o : Origin) (ch : Fin 8) (f : Fin 32) (v : Word),
      s.accepts (R.LAMP_DEM.addr ch f) v.toNat = true →
    ∃ t, exec (.lampDemWrite o ch f v) s = .next t ∧
      t.get F.LAMP_DEM_LEVEL ch f = v.toNat % 65536 ∧
      (t.chan ch).mash.changes = (s.chan ch).mash.changes ++ [⟨s.dev.tick, some (s.chan ch).seq.started, none, false, .lamp f (v.toNat % 65536)⟩] ∧
      s.sameRegs t [R.LAMP_DEM.addr ch f, R.MASH_STAT.addr ch 0] ∧ t.mem = s.mem) ∧
  (∀ (s : State) (o : Origin) (ch : Fin 8) (v : Word),
      s.accepts (R.LAMP_FORCE.addr ch 0) v.toNat = true →
      s.written (R.LAMP_FORCE.addr ch 0) v.toNat ≠ s.reg (R.LAMP_FORCE.addr ch 0) →
    ∃ t, exec (.lampForceWrite o ch v) s = .next t ∧
      t.reg (R.LAMP_FORCE.addr ch 0) = s.written (R.LAMP_FORCE.addr ch 0) v.toNat ∧
      t.work.curReg ch (R.LAMP_FORCE.addr ch 0) = s.work.curReg ch (R.LAMP_FORCE.addr ch 0) ∧
      (t.chan ch).mash.changes = (s.chan ch).mash.changes ++ [⟨s.dev.tick, some (s.chan ch).seq.started, none, false, .reg (R.LAMP_FORCE.addr ch 0) (s.written (R.LAMP_FORCE.addr ch 0) v.toNat)⟩] ∧
      s.sameRegs t [R.LAMP_FORCE.addr ch 0, R.MASH_STAT.addr ch 0] ∧ t.mem = s.mem)

/-- What the sink governor decides on a formed average (R108), and what a predriver limit (R104) and a dissipation
capture (R106, R118) leave: their results in the engine, and no register of another block. -/
def Obligations.LedAndIntegrityCommands : Prop :=
  (∀ (s : State) (ch : Fin 8) (p cap : Nat),
      (s.chan ch).led.decide = true → (s.chan ch).led.fastNow = false → s.work.curFlag F.LED_CFG_GOV_EN ch = true →
      p = meanEst (s.chan ch).led.est → cap = s.work.budget (s.work.cur F.LED_PWR_CFG_SINK_MW ch) → 475 * cap < p →
    ∃ t, exec (.sinkGovDecision ch) s = .next t ∧
      t.get F.LED_GOV_GAIN ch = s.get F.LED_GOV_GAIN ch * 475 * cap / p ∧ t.flag F.LED_GOV_STATE ch = true ∧
      t.flag F.LED_STAT_GOV ch = true ∧ (t.chan ch).led.decide = false ∧ (t.chan ch).led.prevAvg = p ∧
      ((s.chan ch).lamp.decide = true → s.sameRegs t [R.LED_GOV.addr ch 0, R.LED_STAT.addr ch 0] ∧ t.mem = s.mem)) ∧
  (∀ (s : State) (ch : Fin 8) (p cap : Nat),
      (s.chan ch).led.decide = true → (s.chan ch).led.fastNow = false → s.work.curFlag F.LED_CFG_GOV_EN ch = true →
      p = meanEst (s.chan ch).led.est → cap = s.work.budget (s.work.cur F.LED_PWR_CFG_SINK_MW ch) →
      s.flag F.LED_GOV_STATE ch = true → p < 425 * cap →
    ∃ t, exec (.sinkGovDecision ch) s = .next t ∧
      t.get F.LED_GOV_GAIN ch = Nat.min 65536 (s.get F.LED_GOV_GAIN ch * 17 / 16) ∧
      t.flag F.LED_GOV_STATE ch = decide (s.get F.LED_GOV_GAIN ch * 17 / 16 < 65536) ∧
      (t.chan ch).led.decide = false ∧ (t.chan ch).led.prevAvg = p ∧
      ((s.chan ch).lamp.decide = true → s.sameRegs t [R.LED_GOV.addr ch 0, R.LED_STAT.addr ch 0] ∧ t.mem = s.mem)) ∧
  (∀ (s : State) (ch : Fin 8) (p cap : Nat),
      (s.chan ch).led.decide = true → p = meanEst (s.chan ch).led.est →
      cap = s.work.budget (s.work.cur F.LED_PWR_CFG_SINK_MW ch) →
      (s.work.curFlag F.LED_CFG_GOV_EN ch = false ∨ (s.chan ch).led.fastNow = true ∨ (425 * cap ≤ p ∧ p ≤ 475 * cap)) →
      (p ≤ 450 * cap ∨ 450 * cap < (s.chan ch).led.prevAvg) →
    ∃ t, exec (.sinkGovDecision ch) s = .next t ∧
      t.get F.LED_GOV_GAIN ch = s.get F.LED_GOV_GAIN ch ∧ t.flag F.LED_GOV_STATE ch = s.flag F.LED_GOV_STATE ch ∧
      (t.chan ch).led.decide = false ∧ (t.chan ch).led.prevAvg = p ∧
      ((s.chan ch).lamp.decide = true → s.sameRegs t [] ∧ t.mem = s.mem)) ∧
  (∀ (s : State) (ch : Fin 8) (p cap : Nat),
      (s.chan ch).led.decide = true → p = meanEst (s.chan ch).led.est →
      cap = s.work.budget (s.work.cur F.LED_PWR_CFG_SINK_MW ch) → 450 * cap < p → (s.chan ch).led.prevAvg ≤ 450 * cap →
    ∃ t, exec (.sinkGovDecision ch) s = .next t ∧
      t.flag F.LED_STAT_WARN ch = true ∧ (t.chan ch).led.decide = false ∧ (t.chan ch).led.prevAvg = p ∧
      ((s.chan ch).lamp.decide = true → s.sameRegs t [R.LED_GOV.addr ch 0, R.LED_STAT.addr ch 0] ∧ t.mem = s.mem)) ∧
  (∀ (s : State) (ch : Fin 8) (x : SlotRun),
      (s.chan ch).seq.cur = some x → x.kind = kDisplay → (s.chan ch).seq.act.isLcd = false →
    ∃ t, exec (.predriverCurrentLimit ch) s = .next t ∧
      t.flag F.LED_STAT_COM_OC ch = true ∧ t.get F.LED_STAT_COM_OC_DIG ch = ((s.chan ch).seq.nDisp - 1) % 16 ∧
      (t.chan ch).led.ocNow = true ∧ s.sameRegs t [R.LED_STAT.addr ch 0] ∧ t.mem = s.mem) ∧
  (∀ (s : State) (ch : Fin 8) (mv : List Nat),
    ∃ t, exec (.dissipationCapture ch mv) s = .next t ∧
      (t.chan ch).led.volts = (s.work.captured ch mv).foldl (fun v x => tabInsert v x.1 x.2) (s.chan ch).led.volts ∧
      s.sameRegs t [] ∧ t.mem = s.mem) ∧
  (∀ (s : State) (ch : Fin 8) (mv : List Nat) (e v : Nat),
      (s.chan ch).checks = true → s.work.curFlag F.INTEG_CFG_CHAIN_EN ch = true → (e, v) ∈ s.work.captured ch mv →
    ∃ t, exec (.dissipationCapture ch mv) s = .next t ∧
      (tabFind (t.chan ch).integ.fails (1024 + e) = if v ≤ 50 * s.work.cur F.INTEG_CHAIN_CHAIN_HI ch then none else some (tabGet (s.chan ch).integ.fails 0 (1024 + e) + 1)))

/-- What the checks of the integrity engine make of their measurements: lit (R103, R115), unverified (R117), COM (R119),
dark (R120) and line charge (R122, R124). Each counts a result per R125, or keeps it for the end of its period. -/
def Obligations.IntegrityChecks : Prop :=
  (∀ (s : State) (ch : Fin 8) (mv : List Nat) (d m n v : Nat),
      (s.chan ch).checks = true → (s.chan ch).digitNow = some d → s.work.curFlag F.INTEG_CFG_LED_LIT_EN ch = true →
      (s.chan ch).led.ocNow = false → (m, n) ∈ (s.chan ch).seq.act.segs →
      (s.chan ch).seq.act.segs.Pairwise (fun x y => x.2 ≠ y.2) → mv[n]? = some v →
      0 < s.work.pulseOf ch (64 * d + n) → s.work.cur F.INTEG_CFG_LIT_MIN ch ≤ s.work.pulseOf ch (64 * d + n) →
    ∃ t, exec (.litCheck ch mv) s = .next t ∧
      (tabFind (t.chan ch).integ.fails (64 * d + n) = if compliance (s.work.cur F.LED_ISEG_CODE ch n) ≤ v then none else some (tabGet (s.chan ch).integ.fails 0 (64 * d + n) + 1)) ∧
      s.sameRegs t [] ∧ t.mem = s.mem) ∧
  (∀ (s : State) (ch : Fin 8) (mv : List Nat) (d m k v : Nat),
      (s.chan ch).checks = true → (s.chan ch).digitNow = some d → s.work.curFlag F.INTEG_CFG_LED_LIT_EN ch = true →
      (m, k) ∈ (s.chan ch).seq.act.coms → (s.chan ch).preOff d k = true →
      (s.chan ch).seq.act.coms.Pairwise (fun x y => x.2 ≠ y.2) → mv[k]? = some v →
    ∃ t, exec (.comWatch ch mv) s = .next t ∧
      (tabFind (t.chan ch).integ.fails (2048 + k) = if 1000 ≤ v then none else some (tabGet (s.chan ch).integ.fails 0 (2048 + k) + 1)) ∧
      s.sameRegs t ((List.range 80).map (fun m => R.INTEG_LINE.addr ch m)) ∧ t.mem = s.mem) ∧
  (∀ (s : State) (ch : Fin 8) (mv : List Nat) (got : List (Nat × Nat)),
      (s.chan ch).darkRuns s.dev.tick = true →
      got = (((s.chan ch).seq.act.raisedSegs s.dev.tick).take (16 * (s.chan ch).seq.act.diagG)).zip mv →
    ∃ t, exec (.darkCheck ch mv) s = .next t ∧
      (∀ n : Fin 64, (t.chan ch).integ.darkNow.contains n.val = ((s.chan ch).integ.darkNow.contains n.val || got.any (fun x => x.1 == n.val && decide (x.2 < 2000)))) ∧
      (∀ n : Fin 64, (t.chan ch).integ.darkSeen.contains n.val = ((s.chan ch).integ.darkSeen.contains n.val || got.any (fun x => x.1 == n.val))) ∧
      s.sameRegs t [] ∧ t.mem = s.mem) ∧
  (∀ (s : State) (ch : Fin 8) (charge : List Nat) (m q : Nat),
      s.work.chargeRuns ch = true → (m, q) ∈ ((s.chan ch).chargeLines s.dev.tick).zip charge →
      tabGet (s.chan ch).kiln.lastDev 0 m ≠ 0 →
    ∃ t, exec (.lineChargeCheck ch charge) s = .next t ∧
      t.get F.INTEG_LINE_C_MEAS ch m = Nat.min 65535 (roundOpen (q * 768000 : Nat) (tabGet (s.chan ch).kiln.lastDev 0 m).natAbs).toNat ∧
      s.sameRegs t (R.INTEG_STAT.addr ch 0 :: ((List.range 80).map (fun m => R.INTEG_LINE.addr ch m)) ++ (List.range 80).map (fun m => R.INTEG_BASE.addr ch m)) ∧
      t.mem = s.mem) ∧
  (∀ (s : State) (ch : Fin 8) (un : List Nat),
      (s.chan ch).checks = true → s.dev.tick % 16 = 15 → (s.chan ch).cutPassed = true →
      (s.chan ch).seq.act.isLcd = false → s.work.curFlag F.INTEG_CFG_LED_LIT_EN ch = true →
      un = (s.chan ch).integ.litAll.filter (fun e => (s.work.litNow ch).1.contains e && !(s.chan ch).integ.verified.contains e && !(s.work.litNow ch).2.contains e) →
    ∃ t, exec (.litUnverified ch) s = .next t ∧
      (un ≠ [] → t.flag F.INTEG_STAT_UNVERIFIED ch = true) ∧ (t.chan ch).integ.litAll = [] ∧
      s.sameRegs t [R.INTEG_STAT.addr ch 0] ∧ t.mem = s.mem)

/-- A delivery drawn into staging, entered from the waiting list, and committed by its burst (R159 to R161); a field
that has aged becomes stale (R154); dim updates received and the root's broadcast (R185, R186). -/
def Obligations.MashCommands : Prop :=
  (∀ (s : State) (ch : Fin 8) (d : Delivery) (rest : List Delivery) (ps : List (Nat × Nat × Nat)),
      (s.chan ch).mash.drawn = none → (s.chan ch).mash.queue = d :: rest → (s.chan ch).swapPending = false →
      s.work.mashIsolated ch = false →
    ∃ t, exec (.mashDelivery ch) s = .next t ∧
      (t.chan ch).mash.queue = rest ∧ (t.chan ch).mash.drawn.map (·.deliv) = some d ∧
      (d.body = .segs ps → (t.chan ch).mash.drawn.map (·.disp) = some ((ps.map (fun p => ((List.range 32).filter (fun i => bitOf p.2.1 i)).map (fun i => DispWrite.elem (32 * p.1 + i) (bitOf p.2.2 i)))).flatten)) ∧
      s.sameRegs t [R.MASH_STAT.addr ch 0, R.MASH_ERR.addr ch 0, R.BLINK_ERR.addr ch 0] ∧ t.mem = s.mem) ∧
  (∀ (s : State) (ch : Fin 8) (d : Delivery) (rest : List Delivery),
      (s.chan ch).mash.waiting = d :: rest → (s.chan ch).mash.queue.length < 256 →
    ∃ t, exec (.mashQueueEnter ch) s = .next t ∧
      (t.chan ch).mash.queue = (s.chan ch).mash.queue ++ [d] ∧ (t.chan ch).mash.waiting = rest ∧
      s.sameRegs t [R.MASH_STAT.addr ch 0] ∧ t.mem = s.mem) ∧
  (∀ (s : State) (ch : Fin 8) (x : Drawn) (f : Flight) (ord : Option Nat),
      (s.chan ch).mash.drawn = some x → x.deliv.who = some .host → s.dev.host.port.flight = some f → f.late = false →
      s.dev.fab.wrapQ = [] → (ord = if x.deliv.stamped then x.deliv.ord else some (s.chan ch).seq.started) →
    ∃ t, exec (.mashBurstCommit ch) s = .next t ∧
      (t.chan ch).mash.drawn = none ∧
      (t.chan ch).mash.changes = (s.chan ch).mash.changes ++ (if x.deliv.stamped then [] else ((if x.disp.isEmpty then [] else [Chg.disp x.disp]) ++ x.alerts.map (fun p => Chg.alertCond p.1 p.2) ++ x.lamps.map (fun p => Chg.lamp p.1 p.2)).map (fun y => ⟨s.dev.tick, ord, none, false, y⟩)) ∧
      t.get F.MASH_CNT_DELIVERIES ch = Nat.min 65535 (s.get F.MASH_CNT_DELIVERIES ch + 1) ∧
      s.hostAnswered t f.op f.tag stOk (leBytes 4 (if s.work.held ch then 0xFFFFFFFF else s.work.appliesFrom ch ord x.deliv.due)) ∧
      s.sameRegs t ([R.MASH_STAT.addr ch 0, R.MASH_CNT.addr ch 0, R.MASH_ERR.addr ch 0] ++ hostRegs) ∧
      s.sameBytesBut t (s.work.backImage ch).1 (s.work.backImage ch).2) ∧
  (∀ (s : State) (ch : Fin 8) (x : Drawn),
      (s.chan ch).mash.drawn = some x → x.deliv.who = none → s.work.held ch = true → (s.chan ch).swapPending = true →
      x.disp ≠ [] →
    ∃ t, exec (.mashBurstCommit ch) s = .next t ∧
      (t.chan ch).mash.drawn = none ∧ (t.chan ch).mash.queue = x.deliv :: (s.chan ch).mash.queue ∧
      (t.chan ch).mash.changes = (s.chan ch).mash.changes ∧ t.dev.host = s.dev.host ∧
      s.sameRegs t [R.MASH_STAT.addr ch 0] ∧ t.mem = s.mem) ∧
  (∀ (s : State) (ch : Fin 8) (f : Fin 128) (d : FieldDef),
      s.work.fieldDef ch f = some d → d.staleTo ≠ 0 → s.get F.MASH_FSTAT_SHOWN ch f < 3 →
      d.staleTo ≤ s.get F.MASH_FSTAT_AGE ch f → (s.chan ch).standby = false → (s.chan ch).planRuns = false →
    ∃ t, exec (.fieldStale ch f) s = .next t ∧
      t.get F.MASH_FSTAT_SHOWN ch f = 3 ∧ t.flag F.MASH_FSTAT_FLASHING ch f = d.staleFlash ∧
      t.get F.MASH_FSTAT_AGE ch f = s.get F.MASH_FSTAT_AGE ch f ∧ s.sameRegs t [R.MASH_FSTAT.addr ch f] ∧
      t.mem = s.mem) ∧
  (∀ (s : State) (ch : Fin 8) (f : Fin 128) (d : FieldDef),
      s.work.fieldDef ch f = some d → d.staleTo ≠ 0 → s.get F.MASH_FSTAT_SHOWN ch f < 3 →
      d.staleTo ≤ s.get F.MASH_FSTAT_AGE ch f → (s.chan ch).standby = false →
    ∃ t, exec (.fieldStale ch f) s = .next t ∧
      t.get F.MASH_FSTAT_SHOWN ch f = 3 ∧ t.flag F.MASH_FSTAT_FLASHING ch f = d.staleFlash ∧
      t.get F.MASH_FSTAT_AGE ch f = s.get F.MASH_FSTAT_AGE ch f ∧ (t.chan ch).mash = (s.chan ch).mash) ∧
  (∀ (s : State) (g : Fin 16) (level tick addr : Nat),
      s.work.joined = true → s.dev.dim.length = 16 →
      s.work.newer tick addr (s.work.heldDim g).tick (s.work.heldDim g).addr = true →
    ∃ t, exec (.dimUpdate g level tick addr) s = .next t ∧
      t.dev.dim = s.dev.dim.set g (some ⟨level, tick % 2 ^ 32, addr, s.work.dimCut⟩) ∧ s.sameRegs t [] ∧
      t.mem = s.mem) ∧
  (∀ (s : State) (g level tick addr : Nat),
      s.work.joined = false →
    ∃ t, exec (.dimUpdate g level tick addr) s = .next t ∧
      t.dev.dim = s.dev.dim ∧ s.sameRegs t [] ∧ t.mem = s.mem) ∧
  (∀ (s : State) (g : Fin 16) (level tick addr : Nat),
      s.work.newer tick addr (s.work.heldDim g).tick (s.work.heldDim g).addr = false →
    ∃ t, exec (.dimUpdate g level tick addr) s = .next t ∧
      t.dev.dim = s.dev.dim ∧ s.sameRegs t [] ∧ t.mem = s.mem) ∧
  (∀ (s : State),
      s.get F.RHL_STAT_STATE = 6 → s.dev.tick % 1024 = 0 →
    ∃ t, exec (.dimSyncSend) s = .next t ∧
      t.dev.sent.map (fun m => (m.port, m.kind, m.dest)) = (s.work.portsTo 511).map (fun q => (q.1, 0x22, 511)) ∧
      t.dev.dim = s.dev.dim ∧ s.sameRegs t [] ∧ t.mem = s.mem) ∧
  (∀ (s : State) (es : List (Nat × Nat × Nat × Nat)) (g level tick addr : Nat),
      s.work.joined = true → s.dev.dim.length = 16 → (g, level, tick, addr) ∈ es → g < 16 →
      es.Pairwise (fun x y => x.1 ≠ y.1) →
      s.work.newer tick addr (s.work.heldDim g).tick (s.work.heldDim g).addr = true →
    ∃ t, exec (.dimSync es) s = .next t ∧
      t.dev.dim.getD g none = some ⟨level, tick % 2 ^ 32, addr, s.work.dimCut⟩ ∧ s.sameRegs t [] ∧ t.mem = s.mem)

/-- A key step reads its drive's ladders (R194 to R196), the continuity test captures its codes (R206), a held key
repeats (R223), and an encoder input moves its position (R226, R227). -/
def Obligations.KeyAndEncoderCommands : Prop :=
  (∀ (s : State) (ch : Fin 8) (x : SlotRun) (heads feet dh df : List Nat) (d l : Nat),
      (s.chan ch).seq.cur = some x → x.kind = kKey → s.work.scans ch = true → (s.chan ch).grist.stepRun = false →
      (s.chan ch).blockHeld 2 = false → (s.chan ch).seq.act.nDrive ≤ 8 → (∀ i ∈ (s.chan ch).seq.act.ladders, i < 8) →
      d = (s.chan ch).seq.act.stepNo s.dev.tick x.idx % (s.chan ch).seq.act.nDrive →
      l ∈ (s.chan ch).seq.act.ladders → heads.getD l 4095 < 4096 → feet.getD l 4095 < 4096 →
    ∃ t, exec (.keyStep ch heads feet dh df) s = .next t ∧
      t.reg (R.GRIST_READ.addr ch (8 * d + l)) = heads.getD l 4095 + 2 ^ 12 * feet.getD l 4095 + 2 ^ 24 * s.work.classOf ch l (heads.getD l 4095) + 2 ^ 28 * s.work.classOf ch l (feet.getD l 4095) ∧
      t.get F.GRIST_STAT_DRIVE ch = d ∧ (t.chan ch).grist.stepRun = true ∧
      s.sameRegs t ((List.range 1024).map (fun (i : Nat) => 0x40104000 + 0x10000 * (ch : Nat) + 4 * i) ++ [R.KILN_LEDGER_STAT.addr ch 0, R.CASK_COMPAT.addr ch 0, R.MASH_STAT.addr ch 0, R.PWR_WAKE_PEND.addr 0 0, R.PWR_PMB_STAT.addr 0 0]) ∧
      t.mem = s.mem) ∧
  (∀ (s : State) (ch : Fin 8) (x : SlotRun) (heads : List Nat),
      (s.chan ch).seq.cur = some x → x.kind = kDiag → s.work.contReady ch = true → 1 ≤ (s.chan ch).seq.act.diagG →
      (s.chan ch).seq.diagPhase < 3 →
    ∃ t, exec (.continuityTest ch heads) s = .next t ∧
      (t.chan ch).grist.contRes = some (s.dev.tick, heads) ∧ t.flag F.GRIST_STAT_CONT_WAIT ch = false ∧
      s.sameRegs t [R.GRIST_STAT.addr ch 0] ∧ t.mem = s.mem) ∧
  (∀ (s : State) (ch : Fin 8) (key : Fin 512) (h : Held),
      (s.chan ch).cask.held.find? (fun x => x.key == (key : Nat)) = some h → h.rep = true → h.nextRepeat = s.dev.tick →
    ∃ t, exec (.keyRepeat ch key) s = .next t ∧
      (t.chan ch).cask.batch = (s.chan ch).cask.batch ++ [⟨4, 2, key, h.ackKey.toNat + 2 * (decide ((key : Nat) ∈ (s.chan ch).grist.frozen)).toNat, h.count + 1, s.work.tick32⟩] ∧
      (t.chan ch).cask.held = (s.chan ch).cask.held.map (fun x => if x.key == (key : Nat) then { x with count := x.count + 1 } else x) ∧
      s.sameRegs t [] ∧ t.mem = s.mem) ∧
  (∀ (s : State) (ch : Fin 8) (j : Fin 2) (a b : Bool) (us : Nat) (q : Nat) (sign : Int),
      s.flag F.ENC_CFG_EN ch j = true → (s.chan ch).blockHeld 3 = false → (s.chan ch).enc.length = 2 →
      q = (quad a b + 4 - quad (s.work.encOf ch j).a (s.work.encOf ch j).b) % 4 →
      (sign = if s.flag F.ENC_CFG_DIR ch j then -1 else 1) →
    ∃ t, exec (.encoderInputChange ch j a b us) s = .next t ∧
      (t.work.encOf ch j).a = a ∧ (t.work.encOf ch j).b = b ∧
      ((t.work.encOf ch j).x = if q = 1 then (s.work.encOf ch j).x + sign else if q = 3 then (s.work.encOf ch j).x - sign else (s.work.encOf ch j).x) ∧
      (q = 2 → t.flag (if (j : Nat) = 0 then F.ENC_STAT_ENC_ERR0 else F.ENC_STAT_ENC_ERR1) ch = true) ∧
      s.sameRegs t [R.ENC_STAT.addr ch 0] ∧ t.mem = s.mem)

/-- The debouncing of one key (R203): the press is declared with the PRESS_N-th observation DOWN, the release with the
RELEASE_N-th observation UP; an observation UP before the press is declared is a reject; a FROZEN observation moves
no count. -/
def Obligations.KeyDebounce : Prop :=
  ∀ (w : Work) (n : Fin 8) (key : Fin 512) (k : Nat),
    (k = tabGet (w.chan n).grist.press 0 key → (w.chan n).grist.down.contains (key : Nat) = false →
      (k + 1 < w.cur F.GRIST_DEB_PRESS_N n →
        tabGet ((w.observe n key .down).chan n).grist.press 0 key = k + 1 ∧
        ((w.observe n key .down).chan n).grist.decl = (w.chan n).grist.decl) ∧
      (w.cur F.GRIST_DEB_PRESS_N n ≤ k + 1 →
        ((w.observe n key .down).chan n).grist.decl = (w.chan n).grist.decl ++ [((key : Nat), true)] ∧
        ((w.observe n key .down).chan n).grist.down.contains (key : Nat) = true) ∧
      (0 < k →
        tabFind ((w.observe n key .up).chan n).grist.press key = none ∧
        (w.observe n key .up).get F.GRIST_CNT_REJECTS n = Nat.min 4095 (w.get F.GRIST_CNT_REJECTS n + 1))) ∧
    (k = tabGet (w.chan n).grist.release 0 key → (w.chan n).grist.down.contains (key : Nat) = true →
      (k + 1 < w.cur F.GRIST_DEB_RELEASE_N n →
        tabGet ((w.observe n key .up).chan n).grist.release 0 key = k + 1 ∧
        ((w.observe n key .up).chan n).grist.decl = (w.chan n).grist.decl) ∧
      (w.cur F.GRIST_DEB_RELEASE_N n ≤ k + 1 →
        ((w.observe n key .up).chan n).grist.decl = (w.chan n).grist.decl ++ [((key : Nat), false)] ∧
        ((w.observe n key .up).chan n).grist.down.contains (key : Nat) = false)) ∧
    (((w.observe n key .frozen).chan n).grist.press = (w.chan n).grist.press ∧
      ((w.observe n key .frozen).chan n).grist.release = (w.chan n).grist.release ∧
      ((w.observe n key .frozen).chan n).grist.decl = (w.chan n).grist.decl ∧
      ((w.observe n key .frozen).chan n).grist.frozen.contains (key : Nat) = true)

/-- What the lamp string and a Tap line do: the switch governor's decision (R249), an open trip (R239), a lamp window
(R240, R242), a diagnostic period (R242, R244), a pump (R251), a frame sent (R262) and the streams that return
(R264, R265). -/
def Obligations.LampAndTapCommands : Prop :=
  (∀ (s : State) (ch : Fin 8) (p cap : Nat),
      (s.chan ch).lamp.decide = true → (s.chan ch).lamp.fastNow = false →
      s.work.curFlag F.LAMP_CFG_GOV_EN ch = true → p = meanEst (s.chan ch).lamp.est →
      cap = s.work.budget (s.work.cur F.LAMP_GOV_CFG_SW_CAP_MW ch) → 475 * cap < p →
      s.get F.LAMP_GOV_GAIN ch ≤ 65536 → (s.chan ch).led.decide = true →
    ∃ t, exec (.switchGovDecision ch) s = .next t ∧
      t.get F.LAMP_GOV_GAIN ch = Nat.max 32768 (isqrt (s.get F.LAMP_GOV_GAIN ch ^ 2 * 475 * cap / p)) ∧
      t.flag F.LAMP_GOV_STATE ch = true ∧ t.flag F.LAMP_STAT_GOV ch = true ∧
      t.get F.LAMP_GOV_SIREF_ACT ch = divRound (s.work.cur F.LAMP_SRC_ISET ch * t.get F.LAMP_GOV_GAIN ch) 65536 ∧
      (t.chan ch).lamp.decide = false ∧ (t.chan ch).lamp.prevAvg = p ∧
      s.sameRegs t [R.LAMP_GOV.addr ch 0, R.LAMP_STAT.addr ch 0] ∧ t.mem = s.mem) ∧
  (∀ (s : State) (ch : Fin 8) (p cap : Nat),
      (s.chan ch).lamp.decide = true →
      (s.work.curFlag F.LAMP_CFG_GOV_EN ch = false ∨ (s.chan ch).lamp.fastNow = true) →
      p = meanEst (s.chan ch).lamp.est → cap = s.work.budget (s.work.cur F.LAMP_GOV_CFG_SW_CAP_MW ch) →
      p ≤ 450 * cap → (s.chan ch).led.decide = true →
    ∃ t, exec (.switchGovDecision ch) s = .next t ∧
      (t.chan ch).lamp.decide = false ∧ (t.chan ch).lamp.prevAvg = p ∧ s.sameRegs t [] ∧ t.mem = s.mem) ∧
  (∀ (s : State) (ch : Fin 8) (k : Fin 12),
      (s.chan ch).standby = false → s.work.fitted ch k = true → s.work.stringRuns ch = true →
      s.work.opens ch k = true → (s.work.lampOf ch k).tripped = false → (s.work.lampOf ch k).state = 0 →
      k < (s.chan ch).lamp.lamps.length → s.work.fnOfLamp ch k = none →
    ∃ t, exec (.lampOpenTrip ch k) s = .next t ∧
      (t.work.lampOf ch k).state = 1 ∧ (t.work.lampOf ch k).out = 0 ∧ (t.work.lampOf ch k).tripped = true ∧
      t.flag F.LAMP_STAT_OPEN ch = true ∧ t.get F.LAMP_LST_STATE ch k = 1 ∧
      s.sameRegs t ((lampRegs ch) ++ ringRegs ch) ∧ s.sameMemButNext t ch) ∧
  (∀ (s : State) (ch : Fin 8) (mv : List Nat),
      (s.chan ch).lampWindow = true → s.work.stringRuns ch = true → s.flag F.LAMP_CFG_EN ch = true →
      (s.work.fittedLamps ch).any (fun k => s.work.windowOpen ch k || s.work.windowClosed ch k) = true →
      (∀ k ∈ s.work.fittedLamps ch, mv.getD k 0 - mv.getD (k + 1) 0 < 20) →
    ∃ t, exec (.lampWindowCapture ch mv) s = .next t ∧
      t.flag F.LAMP_STAT_SRC_FAULT ch = true ∧
      (∀ k : Fin 12, (t.work.lampOf ch k).state = (s.work.lampOf ch k).state) ∧
      s.sameRegs t (R.LAMP_STAT.addr ch 0 :: (List.range 12).map (fun k => R.LAMP_LST.addr ch k)) ∧ t.mem = s.mem) ∧
  (∀ (s : State) (ch : Fin 8) (k : Fin 12) (mv : List Nat),
      (s.chan ch).lampWindow = true → s.work.stringRuns ch = true → s.flag F.LAMP_CFG_EN ch = true →
      s.work.windowOpen ch k = true → s.work.fitted ch k = true → k < (s.chan ch).lamp.lamps.length →
      1000 ≤ mv.getD k 0 - mv.getD (k + 1) 0 → mv.getD k 0 ≤ 20000 → (s.work.lampOf ch k).state = 0 →
      (∀ j ∈ s.work.fittedLamps ch, s.work.windowOpen ch j = true → (s.work.lampOf ch j).state = 0 ∧ 1000 ≤ mv.getD j 0 - mv.getD (j + 1) 0) →
    ∃ t, exec (.lampWindowCapture ch mv) s = .next t ∧
      (t.work.lampOf ch k).fails = 0 ∧ (t.work.lampOf ch k).due = false ∧ (t.work.lampOf ch k).state = 0 ∧
      t.get F.LAMP_LST_V_LAMP ch k = (roundOpen (mv.getD k 0 - mv.getD (k + 1) 0 : Nat) 10).toNat % 2048 ∧
      s.sameRegs t (lampRegs ch) ∧ t.mem = s.mem) ∧
  (∀ (s : State) (ch : Fin 8) (k : Fin 12) (mv : List Nat),
      (s.chan ch).lampWindow = true → s.work.stringRuns ch = true → s.flag F.LAMP_CFG_EN ch = true →
      s.work.windowOpen ch k = true → s.work.fitted ch k = true → k < (s.chan ch).lamp.lamps.length →
      mv.getD k 0 - mv.getD (k + 1) 0 < 1000 → (s.work.lampOf ch k).state = 0 → 1 ≤ (s.work.lampOf ch k).fails →
      (∃ j ∈ s.work.fittedLamps ch, (s.work.windowOpen ch j = true ∧ 1000 ≤ mv.getD j 0 - mv.getD (j + 1) 0) ∨ (s.work.windowClosed ch j = true ∧ 20 ≤ mv.getD j 0 - mv.getD (j + 1) 0)) →
    ∃ t, exec (.lampWindowCapture ch mv) s = .next t ∧
      (t.work.lampOf ch k).state = 2 ∧ t.flag F.LAMP_STAT_SHORT ch = true ∧
      s.sameRegs t ((lampRegs ch) ++ ringRegs ch)) ∧
  (∀ (s : State) (ch : Fin 8) (k : Fin 12),
      s.work.cur F.LAMP_CFG_DIAG_P ch ≠ 0 → s.dev.tick % s.work.cur F.LAMP_CFG_DIAG_P ch = 0 →
      s.work.curFlag F.LAMP_CFG_EN ch = true → (s.chan ch).planRuns = true → (s.chan ch).blockHeld 5 = false →
      s.work.fitted ch k = true → k < (s.chan ch).lamp.lamps.length →
      (∀ j ∈ s.work.fittedLamps ch, ((s.work.lampOf ch j).litSeen && (s.work.lampOf ch j).due) = false) →
    ∃ t, exec (.lampDiagPeriod ch) s = .next t ∧
      (t.work.lampOf ch k).due = decide ((s.work.lampOf ch k).state = 0) ∧ (t.work.lampOf ch k).litSeen = false ∧
      (t.work.lampOf ch k).state = (s.work.lampOf ch k).state ∧
      t.flag F.LAMP_LST_DUE ch k = decide ((s.work.lampOf ch k).state = 0) ∧ s.sameRegs t (lampRegs ch) ∧
      t.mem = s.mem) ∧
  (∀ (s : State) (ch : Fin 8) (k : Fin 12),
      (s.chan ch).lamp.pumpsOn = true → s.work.curFlag F.LAMP_CFG_EN ch = true → (s.chan ch).blockHeld 5 = false →
      (s.chan ch).standby = false → k < (s.chan ch).lamp.lamps.length →
    ∃ t, exec (.pumpReady ch k) s = .next t ∧
      (t.work.lampOf ch k).pump = true ∧ (∀ j : Fin 12, j ≠ k → t.work.lampOf ch j = s.work.lampOf ch j) ∧
      t.flag F.LAMP_STAT_PUMP_READY ch = (s.work.fittedLamps ch).all (fun j => j == (k : Nat) || (s.work.lampOf ch j).pump) ∧
      s.sameRegs t (lampRegs ch) ∧ t.mem = s.mem) ∧
  (∀ (s : State) (ch : Fin 8) (l : Fin 2),
      (s.work.tapOf ch l).ready = true → s.flag F.TAP_RAW_RAW_EN ch l = false →
      512 * l + (s.work.tapFrameBits ch l + 7) / 8 ≤ (s.work.region ch 7).2 → (s.chan ch).tap.length = 2 →
    ∃ t, exec (.tapFrameSend ch l) s = .next t ∧
      t.dev.sent = [⟨4, 2 * ch.val + l.val, (s.work.tapUf ch l || s.work.curFlag F.TAP_GEN_BRK_EN ch l).toNat, s.work.tapFrameBits ch l, s.work.peeks ((s.work.region ch 7).1 + 512 * l) ((s.work.tapFrameBits ch l + 7) / 8)⟩] ∧
      t.get F.TAP_CNT_FRAMES ch l = (s.get F.TAP_CNT_FRAMES ch l + 1) % 65536 ∧ (t.work.tapOf ch l).ready = false ∧
      (t.work.tapOf ch l).await = s.work.tapUf ch l ∧
      s.sameRegs t (R.TAP_CNT.addr ch l :: ((List.range 4).map (psqRegs ch)).flatten) ∧ t.mem = s.mem) ∧
  (∀ (s : State) (ch : Fin 8) (l : Fin 2) (r : TapRet),
      (s.work.tapOf ch l).await = true → (s.chan ch).standby = false → tapRetFault r (s.work.tapNodes ch l) = none →
      r.statuses.length ≤ 16 → (s.chan ch).tap.length = 2 →
    ∃ t, exec (.tapReturnReceive ch l r) s = .next t ∧
      t.get F.TAP_STAT_FAILS ch l = 0 ∧ t.get F.TAP_STAT_M ch l = r.statuses.length ∧
      (∀ k : Fin 16, k < r.statuses.length → t.get F.TAP_NODE_STATUS ch (16 * l + k) = r.statuses.getD k 0 % 65536) ∧
      (t.work.tapOf ch l).await = false ∧ (t.work.tapOf ch l).pend = r.statuses ∧ (t.work.tapOf ch l).orphan = none ∧
      t.get F.TAP_CNT_BAD ch l = s.get F.TAP_CNT_BAD ch l ∧
      s.sameRegs t ([R.TAP_STAT.addr ch l, R.TAP_CNT.addr ch l] ++ (List.range 32).map (fun k => R.TAP_NODE.addr ch k)) ∧
      t.mem = s.mem) ∧
  (∀ (s : State) (ch : Fin 8) (l : Fin 2) (r : TapRet),
      (s.work.tapOf ch l).await = true → (s.chan ch).standby = false → tapRetFault r (s.work.tapNodes ch l) ≠ none →
      (s.chan ch).tap.length = 2 →
    ∃ t, exec (.tapReturnReceive ch l r) s = .next t ∧
      (t.work.tapOf ch l).await = true ∧ (t.work.tapOf ch l).badCauses ≠ [] ∧
      (t.work.tapOf ch l).pend = (s.work.tapOf ch l).pend ∧
      t.get F.TAP_STAT_FAILS ch l = s.get F.TAP_STAT_FAILS ch l ∧ s.sameRegs t [R.TAP_STAT.addr ch l] ∧ t.mem = s.mem) ∧
  (∀ (s : State) (ch : Fin 8) (l : Fin 2) (ss : List Nat),
      s.work.curFlag F.TAP_CFG_EN ch l = true → s.work.tapUf ch l = true → (s.chan ch).blockHeld 6 = false →
      ss.all tapCheck = true → ss ≠ [] → ss.length ≤ s.work.tapNodes ch l →
      ((s.work.tapOf ch l).await = true ∨ s.get F.TAP_STAT_FAILS ch l ≠ 0) → bitOf (ss.headD 0) 11 = true →
      (s.chan ch).tap.length = 2 →
    ∃ t, exec (.orphanStreamReceive ch l ss) s = .next t ∧
      (t.work.tapOf ch l).orphan = some ss.length ∧ t.get F.TAP_STAT_M ch l = ss.length ∧
      s.sameRegs t [R.TAP_STAT.addr ch l] ∧ t.mem = s.mem)

/-- Each instruction of a pin engine that stands ready at it (R273 to R279): the engine it leaves, with the channel
otherwise as it was, and where its PC stands (R275, R288). -/
def Obligations.PinEngineInstructions : Prop :=
  (∀ (s : State) (ch : Fin 8) (e : Fin 4) (i : Nat) (x : Engine),
      s.work.engReady ch e = true → i = s.work.instr ch e → opOf i = 0 → x = s.work.eng ch e →
    ∃ t, exec (.nopInstruction ch e) s = .next t ∧
      t.chan ch = (s.chan ch).withEng e x ∧ t.get F.PSQ_STATE_PC ch e = s.pcAfter ch e ∧
      s.sameRegs t (psqRegs ch e) ∧ t.mem = s.mem) ∧
  (∀ (s : State) (ch : Fin 8) (e : Fin 4) (i : Nat) (x : Engine) (pins : Nat),
      s.work.engReady ch e = true → i = s.work.instr ch e → opOf i = 1 → x = s.work.eng ch e →
    ∃ t, exec (.await ch e pins) s = .next t ∧
      t.chan ch = (s.chan ch).withEng e { x with doing := .await (bitOf (s.work.pinLevels ch e pins) (bitsOf i 7 4)), events := 0 } ∧
      t.get F.PSQ_STATE_PC ch e = s.get F.PSQ_STATE_PC ch e ∧ s.sameRegs t (psqRegs ch e) ∧ t.mem = s.mem) ∧
  (∀ (s : State) (ch : Fin 8) (e : Fin 4) (i : Nat) (x : Engine) (pins : Nat) (prev : Bool),
      s.work.engRuns ch e = true → i = s.work.instr ch e → x = s.work.eng ch e → x.doing = .await prev →
      awaitHolds i (s.work.pinLevels ch e pins) prev x = true →
    ∃ t, exec (.awaitEnd ch e pins) s = .next t ∧
      t.chan ch = (s.chan ch).withEng e { x with doing := .idle, events := 0, flags := if bitOf i 11 then setBit x.flags 3 false else x.flags } ∧
      t.get F.PSQ_STATE_PC ch e = s.pcAfter ch e ∧ s.sameRegs t (psqRegs ch e) ∧ t.mem = s.mem) ∧
  (∀ (s : State) (ch : Fin 8) (e : Fin 4) (i : Nat) (x : Engine) (pins : Nat) (prev : Bool),
      s.work.engRuns ch e = true → i = s.work.instr ch e → x = s.work.eng ch e → x.doing = .await prev →
      awaitHolds i (s.work.pinLevels ch e pins) prev x = false → bitOf i 11 = true → x.ctr = 0 →
    ∃ t, exec (.awaitEnd ch e pins) s = .next t ∧
      t.chan ch = (s.chan ch).withEng e { x with doing := .idle, events := 0, flags := setBit x.flags 3 true } ∧
      t.get F.PSQ_STATE_PC ch e = s.pcAfter ch e ∧ s.sameRegs t (psqRegs ch e) ∧ t.mem = s.mem) ∧
  (∀ (s : State) (ch : Fin 8) (e : Fin 4) (i : Nat) (x : Engine) (pins : Nat) (prev : Bool),
      s.work.engRuns ch e = true → i = s.work.instr ch e → x = s.work.eng ch e → x.doing = .await prev →
      awaitHolds i (s.work.pinLevels ch e pins) prev x = false → (bitOf i 11 = false ∨ x.ctr ≠ 0) →
    ∃ t, exec (.awaitEnd ch e pins) s = .next t ∧
      t.chan ch = (s.chan ch).withEng e { x with doing := .await (bitOf (s.work.pinLevels ch e pins) (bitsOf i 7 4)), ctr := if bitOf i 11 then x.ctr - 1 else x.ctr } ∧
      t.get F.PSQ_STATE_PC ch e = s.get F.PSQ_STATE_PC ch e ∧ s.sameRegs t (psqRegs ch e) ∧ t.mem = s.mem) ∧
  (∀ (s : State) (ch : Fin 8) (e : Fin 4) (i : Nat) (x : Engine),
      s.work.engReady ch e = true → i = s.work.instr ch e → opOf i = 2 → x = s.work.eng ch e →
    ∃ t, exec (.emit ch e) s = .next t ∧
      t.chan ch = (s.chan ch).withEng e (if bitOf i 11 then { x with dir := latchPins x.dir (bitsOf i 10 6) (s.work.pinsOf ch e 3) } else { x with out := latchPins x.out (bitsOf i 10 6) (s.work.pinsOf ch e 3) }) ∧
      t.get F.PSQ_STATE_PC ch e = s.pcAfter ch e ∧ s.sameRegs t (psqRegs ch e) ∧ t.mem = s.mem) ∧
  (∀ (s : State) (ch : Fin 8) (e : Fin 4) (i : Nat) (x : Engine) (pins : List Nat) (k : Nat) (g : Nat),
      s.work.engReady ch e = true → i = s.work.instr ch e → opOf i = 3 → x = s.work.eng ch e →
      s.flag F.PSQ_SHCFG_HAND_EN ch e = false → s.flag F.PSQ_SHCFG_GATHER_ORDER ch e = false →
      k = (s.work.pinsOf ch e 1).length → shiftSteps i ≤ pins.length → bitOf i 6 = false →
      g = (pins.take (shiftSteps i)).foldl (fun g p => (g * 2 ^ k + samplePins (s.work.pinLevels ch e p) (s.work.pinsOf ch e 1)) % 2 ^ 32) x.gtr →
      k ≠ 0 →
    ∃ t, exec (.gather ch e pins) s = .next t ∧
      t.chan ch = (s.chan ch).withEng e { x with gtr := g, gheld := Nat.min 32 (x.gheld + k * shiftSteps i) } ∧
      t.get F.PSQ_GTR_GTR ch e = g ∧ t.get F.PSQ_STATE_PC ch e = s.pcAfter ch e ∧ s.sameRegs t (psqRegs ch e) ∧
      t.mem = s.mem) ∧
  (∀ (s : State) (ch : Fin 8) (e : Fin 4) (i : Nat) (x : Engine) (pins : List Nat),
      s.work.engReady ch e = true → i = s.work.instr ch e → opOf i = 3 → x = s.work.eng ch e →
      s.flag F.PSQ_SHCFG_HAND_EN ch e = false → shiftSteps i ≤ pins.length →
    ∃ t, exec (.gather ch e pins) s = .next t ∧
      t.chan ch = (s.chan ch).withEng e ((pins.take (shiftSteps i)).foldl (fun y p => s.work.gatherStep ch e i (s.work.pinLevels ch e p) y) x) ∧
      t.get F.PSQ_STATE_PC ch e = s.pcAfter ch e ∧ s.sameRegs t (psqRegs ch e) ∧ t.mem = s.mem) ∧
  (∀ (s : State) (ch : Fin 8) (e : Fin 4) (i : Nat) (x : Engine) (pin : Nat) (y : Engine),
      s.work.engReady ch e = true → i = s.work.instr ch e → opOf i = 3 → x = s.work.eng ch e →
      s.flag F.PSQ_SHCFG_HAND_EN ch e = true → shiftSteps i = 1 →
      y = s.work.gatherStep ch e i (s.work.pinLevels ch e pin) x → s.work.wordBits ch e ≤ y.gheld → x.rx.length < 8 →
    ∃ t, exec (.gather ch e [pin]) s = .next t ∧
      t.chan ch = (s.chan ch).withEng e { y with rx := x.rx ++ [y.gtr], gtr := 0, gheld := 0 } ∧
      t.get F.PSQ_FSTAT_RX_LEVEL ch e = x.rx.length + 1 ∧ t.get F.PSQ_STATE_PC ch e = s.pcAfter ch e ∧
      s.sameRegs t (psqRegs ch e) ∧ t.mem = s.mem) ∧
  (∀ (s : State) (ch : Fin 8) (e : Fin 4) (i : Nat) (x : Engine) (pin : Nat) (pins : List Nat) (y : Engine),
      s.work.engReady ch e = true → i = s.work.instr ch e → opOf i = 3 → x = s.work.eng ch e →
      s.flag F.PSQ_SHCFG_HAND_EN ch e = true → y = s.work.gatherStep ch e i (s.work.pinLevels ch e pin) x →
      s.work.wordBits ch e ≤ y.gheld → 8 ≤ x.rx.length →
    ∃ t, exec (.gather ch e (pin :: pins)) s = .next t ∧
      t.chan ch = (s.chan ch).withEng e { y with doing := .stallShift (shiftSteps i - 1) true } ∧
      bitOf (t.get F.PSQ_STAT_STALLED ch) e = true ∧ t.get F.PSQ_STATE_STEPS_LEFT ch e = shiftSteps i - 1 ∧
      t.get F.PSQ_STATE_PC ch e = s.get F.PSQ_STATE_PC ch e ∧ s.sameRegs t (psqRegs ch e) ∧ t.mem = s.mem) ∧
  (∀ (s : State) (ch : Fin 8) (e : Fin 4) (i : Nat) (x : Engine) (k : Nat),
      s.work.engReady ch e = true → i = s.work.instr ch e → opOf i = 4 → x = s.work.eng ch e →
      s.flag F.PSQ_SHCFG_REFILL_EN ch e = false → k = (s.work.pinsOf ch e 2).length →
    ∃ t, exec (.spill ch e) s = .next t ∧
      (t.work.eng ch e).spr = (if s.flag F.PSQ_SHCFG_SPILL_ORDER ch e then x.spr / 2 ^ (k * shiftSteps i) else x.spr * 2 ^ (k * shiftSteps i) % 2 ^ 32) ∧
      (t.work.eng ch e).srem = x.srem - k * shiftSteps i ∧
      t.chan ch = (s.chan ch).withEng e ((List.range (shiftSteps i)).foldl (fun y _ => s.work.spillStep ch e i y) x) ∧
      t.get F.PSQ_STATE_PC ch e = s.pcAfter ch e ∧ s.sameRegs t (psqRegs ch e) ∧ t.mem = s.mem) ∧
  (∀ (s : State) (ch : Fin 8) (e : Fin 4) (i : Nat) (x : Engine),
      s.work.engReady ch e = true → i = s.work.instr ch e → opOf i = 4 → x = s.work.eng ch e →
      s.flag F.PSQ_SHCFG_REFILL_EN ch e = true → x.srem = 0 → x.tx = [] →
    ∃ t, exec (.spill ch e) s = .next t ∧
      t.chan ch = (s.chan ch).withEng e { x with doing := .stallShift (shiftSteps i) false } ∧
      t.flag F.PSQ_FSTAT_TX_STARVE ch e = true ∧ bitOf (t.get F.PSQ_STAT_STALLED ch) e = true ∧
      t.get F.PSQ_STATE_PC ch e = s.get F.PSQ_STATE_PC ch e ∧ s.sameRegs t (psqRegs ch e) ∧ t.mem = s.mem) ∧
  (∀ (s : State) (ch : Fin 8) (e : Fin 4) (i : Nat) (x : Engine) (v : Nat) (vs : List Nat),
      s.work.engReady ch e = true → i = s.work.instr ch e → opOf i = 5 → x = s.work.eng ch e → x.tx = v :: vs →
    ∃ t, exec (.take ch e) s = .next t ∧
      t.chan ch = (s.chan ch).withEng e { x with spr := v, srem := s.work.wordBits ch e, tx := vs, flags := if bitOf i 11 then x.flags else setBit x.flags 3 false, doing := .idle } ∧
      t.get F.PSQ_SPR_SPR ch e = v % 2 ^ 32 ∧ t.get F.PSQ_STATE_PC ch e = s.pcAfter ch e ∧
      s.sameRegs t (psqRegs ch e) ∧ t.mem = s.mem) ∧
  (∀ (s : State) (ch : Fin 8) (e : Fin 4) (i : Nat) (x : Engine),
      s.work.engReady ch e = true → i = s.work.instr ch e → opOf i = 5 → x = s.work.eng ch e → x.tx = [] →
      bitOf i 11 = false →
    ∃ t, exec (.take ch e) s = .next t ∧
      t.chan ch = (s.chan ch).withEng e { x with spr := 0, srem := 0, flags := setBit x.flags 3 true } ∧
      t.flag F.PSQ_FSTAT_TX_STARVE ch e = true ∧ t.get F.PSQ_STATE_PC ch e = s.pcAfter ch e ∧
      s.sameRegs t (psqRegs ch e) ∧ t.mem = s.mem) ∧
  (∀ (s : State) (ch : Fin 8) (e : Fin 4) (i : Nat) (x : Engine),
      s.work.engReady ch e = true → i = s.work.instr ch e → opOf i = 5 → x = s.work.eng ch e → x.tx = [] →
      bitOf i 11 = true →
    ∃ t, exec (.take ch e) s = .next t ∧
      t.chan ch = (s.chan ch).withEng e { x with doing := .stallWord } ∧ t.flag F.PSQ_FSTAT_TX_STARVE ch e = true ∧
      bitOf (t.get F.PSQ_STAT_STALLED ch) e = true ∧ t.get F.PSQ_STATE_PC ch e = s.get F.PSQ_STATE_PC ch e ∧
      s.sameRegs t (psqRegs ch e) ∧ t.mem = s.mem) ∧
  (∀ (s : State) (ch : Fin 8) (e : Fin 4) (i : Nat) (x : Engine),
      s.work.engReady ch e = true → i = s.work.instr ch e → opOf i = 6 → x = s.work.eng ch e → x.rx.length < 8 →
    ∃ t, exec (.give ch e) s = .next t ∧
      t.chan ch = (s.chan ch).withEng e { x with rx := x.rx ++ [x.gtr], gtr := 0, gheld := 0, flags := if bitOf i 11 then x.flags else setBit x.flags 3 false, doing := .idle } ∧
      t.get F.PSQ_FSTAT_RX_LEVEL ch e = x.rx.length + 1 ∧ t.get F.PSQ_STATE_PC ch e = s.pcAfter ch e ∧
      s.sameRegs t (psqRegs ch e) ∧ t.mem = s.mem) ∧
  (∀ (s : State) (ch : Fin 8) (e : Fin 4) (i : Nat) (x : Engine),
      s.work.engReady ch e = true → i = s.work.instr ch e → opOf i = 6 → x = s.work.eng ch e → 8 ≤ x.rx.length →
      bitOf i 11 = false →
    ∃ t, exec (.give ch e) s = .next t ∧
      t.chan ch = (s.chan ch).withEng e { x with gtr := 0, gheld := 0, flags := setBit x.flags 3 true } ∧
      t.flag F.PSQ_FSTAT_RX_OVR ch e = true ∧ t.get F.PSQ_STATE_PC ch e = s.pcAfter ch e ∧
      s.sameRegs t (psqRegs ch e) ∧ t.mem = s.mem) ∧
  (∀ (s : State) (ch : Fin 8) (e : Fin 4) (i : Nat) (x : Engine),
      s.work.engReady ch e = true → i = s.work.instr ch e → opOf i = 6 → x = s.work.eng ch e → 8 ≤ x.rx.length →
      bitOf i 11 = true →
    ∃ t, exec (.give ch e) s = .next t ∧
      t.chan ch = (s.chan ch).withEng e { x with doing := .stallWord } ∧
      bitOf (t.get F.PSQ_STAT_STALLED ch) e = true ∧ t.get F.PSQ_STATE_PC ch e = s.get F.PSQ_STATE_PC ch e ∧
      s.sameRegs t (psqRegs ch e) ∧ t.mem = s.mem) ∧
  (∀ (s : State) (ch : Fin 8) (e : Fin 4) (i : Nat) (x : Engine) (pins : List Nat) (v : Nat) (vs : List Nat),
      s.work.engRuns ch e = true → i = s.work.instr ch e → opOf i = 5 → x = s.work.eng ch e → x.doing = .stallWord →
      x.tx = v :: vs →
    ∃ t, exec (.psqStallEnd ch e pins) s = .next t ∧
      t.chan ch = (s.chan ch).withEng e { x with spr := v, srem := s.work.wordBits ch e, tx := vs, flags := if bitOf i 11 then x.flags else setBit x.flags 3 false, doing := .idle } ∧
      bitOf (t.get F.PSQ_STAT_STALLED ch) e = false ∧ t.get F.PSQ_STATE_PC ch e = s.pcAfter ch e ∧
      s.sameRegs t (psqRegs ch e) ∧ t.mem = s.mem) ∧
  (∀ (s : State) (ch : Fin 8) (e : Fin 4) (x : Engine) (pins : List Nat),
      s.work.engRuns ch e = true → x = s.work.eng ch e → x.doing = .stallShift 0 true → x.rx.length < 8 →
    ∃ t, exec (.psqStallEnd ch e pins) s = .next t ∧
      t.chan ch = (s.chan ch).withEng e { x with rx := x.rx ++ [x.gtr], gtr := 0, gheld := 0, doing := .idle } ∧
      t.get F.PSQ_STATE_PC ch e = s.pcAfter ch e ∧ s.sameRegs t (psqRegs ch e) ∧ t.mem = s.mem)

/-- COUNT, RAISE, GOTO and MOVE (R273, R276, R283), and a window that starts or ends (R289): the engine each leaves, and
where its PC stands. -/
def Obligations.PinEngineCounts : Prop :=
  (∀ (s : State) (ch : Fin 8) (e : Fin 4) (i : Nat) (x : Engine),
      s.work.engReady ch e = true → i = s.work.instr ch e → opOf i = 7 → x = s.work.eng ch e → bitsOf i 11 10 = 0 →
    ∃ t, exec (.countLoad ch e) s = .next t ∧
      t.chan ch = (s.chan ch).withEng e { x with ctr := bitsOf i 9 3 } ∧ t.get F.PSQ_CTR_CTR ch e = bitsOf i 9 3 ∧
      t.get F.PSQ_STATE_PC ch e = s.pcAfter ch e ∧ s.sameRegs t (psqRegs ch e) ∧ t.mem = s.mem) ∧
  (∀ (s : State) (ch : Fin 8) (e : Fin 4) (i : Nat) (x : Engine),
      s.work.engReady ch e = true → i = s.work.instr ch e → opOf i = 7 → x = s.work.eng ch e → bitsOf i 11 10 = 1 →
    ∃ t, exec (.countRepeat ch e) s = .next t ∧
      t.chan ch = (s.chan ch).withEng e { x with ctr := x.ctr - 1 } ∧
      t.get F.PSQ_STATE_PC ch e = (if x.ctr ≤ 1 then s.pcAfter ch e else bitsOf i 9 4) ∧
      s.sameRegs t (psqRegs ch e) ∧ t.mem = s.mem) ∧
  (∀ (s : State) (ch : Fin 8) (e : Fin 4) (i : Nat) (x : Engine),
      s.work.engReady ch e = true → i = s.work.instr ch e → opOf i = 7 → x = s.work.eng ch e → bitsOf i 11 10 = 2 →
    ∃ t, exec (.countInc ch e) s = .next t ∧
      t.chan ch = (s.chan ch).withEng e { x with ctr := (x.ctr + 1) % 2 ^ 32 } ∧
      t.get F.PSQ_STATE_PC ch e = s.pcAfter ch e ∧ s.sameRegs t (psqRegs ch e) ∧ t.mem = s.mem) ∧
  (∀ (s : State) (ch : Fin 8) (e : Fin 4) (i : Nat) (x : Engine),
      s.work.engReady ch e = true → i = s.work.instr ch e → opOf i = 8 → x = s.work.eng ch e → bitsOf i 11 10 = 0 →
    ∃ t, exec (.raiseSet ch e) s = .next t ∧
      t.chan ch = (s.chan ch).withEng e { x with flags := setBit x.flags (bitsOf i 4 3) true } ∧
      t.get F.PSQ_STATE_PC ch e = s.pcAfter ch e ∧ s.sameRegs t (psqRegs ch e) ∧ t.mem = s.mem) ∧
  (∀ (s : State) (ch : Fin 8) (e : Fin 4) (i : Nat) (x : Engine),
      s.work.engReady ch e = true → i = s.work.instr ch e → opOf i = 8 → x = s.work.eng ch e → bitsOf i 11 10 = 1 →
    ∃ t, exec (.raiseClear ch e) s = .next t ∧
      t.chan ch = (s.chan ch).withEng e { x with flags := setBit x.flags (bitsOf i 4 3) false } ∧
      t.get F.PSQ_STATE_PC ch e = s.pcAfter ch e ∧ s.sameRegs t (psqRegs ch e) ∧ t.mem = s.mem) ∧
  (∀ (s : State) (ch : Fin 8) (e : Fin 4) (i : Nat) (x : Engine) (a : Nat),
      s.work.engReady ch e = true → i = s.work.instr ch e → opOf i = 8 → x = s.work.eng ch e → bitsOf i 11 10 = 2 →
      (s.chan ch).standby = false → (s.chan ch).blockHeld 4 = false → s.work.ringCount ch < s.work.ringDepth ch →
      s.work.bankFailed (16 + ch) = false → a = s.work.ringBase ch + 16 * (s.work.ring ch).place →
      0x01000000 + 0x20000 * ch ≤ a → a + 16 ≤ 0x01000000 + 0x20000 * (ch + 1) →
    ∃ t, exec (.raiseEntry ch e) s = .next t ∧
      (List.range 16).map (fun j => t.byte (a + j)) = entryBytes ⟨0x30, 256 * e + bitsOf i 9 3, x.flags, x.ctr, s.dev.tick % 2 ^ 32⟩ (s.work.ringNext ch) ch (x.flags % 2 ^ 14 + 2 ^ 14 * (s.work.ring ch).takeover.toNat + 2 ^ 15 * s.get F.CASK_STAT_LOSS_PEND ch) ∧
      t.work.ringCount ch = s.work.ringCount ch + 1 ∧ t.work.eng ch e = x ∧
      t.get F.PSQ_STATE_PC ch e = s.pcAfter ch e ∧ s.sameRegs t (ringRegs ch ++ psqRegs ch e) ∧ s.sameMemButNext t ch) ∧
  (∀ (s : State) (ch : Fin 8) (e : Fin 4) (i : Nat) (x : Engine) (f : Fin 4) (p : Bool),
      s.work.engReady ch e = true → i = s.work.instr ch e → opOf i = 8 → x = s.work.eng ch e → bitsOf i 11 10 = 3 →
      (s.chan ch).psq.length = 4 → (s.work.eng ch f).doing = .await p → s.work.engRuns ch f = true →
    ∃ t, exec (.raiseEvent ch e) s = .next t ∧
      t.work.eng ch f = { s.work.eng ch f with events := setBit (s.work.eng ch f).events (bitsOf i 5 3) true } ∧
      t.work.eng ch e = x ∧ t.get F.PSQ_STATE_PC ch e = s.pcAfter ch e ∧
      s.sameRegs t (psqRegs ch e ++ ((List.range 4).map (psqRegs ch)).flatten) ∧ t.mem = s.mem) ∧
  (∀ (s : State) (ch : Fin 8) (e : Fin 4) (i : Nat) (x : Engine) (pins : Nat),
      s.work.engReady ch e = true → i = s.work.instr ch e → opOf i = 9 → x = s.work.eng ch e →
    ∃ t, exec (.goto ch e pins) s = .next t ∧
      t.chan ch = s.chan ch ∧
      t.get F.PSQ_STATE_PC ch e = (if s.work.gotoHolds ch e i (s.work.pinLevels ch e pins) then bitsOf i 8 3 else s.pcAfter ch e) ∧
      s.sameRegs t (psqRegs ch e) ∧ t.mem = s.mem) ∧
  (∀ (s : State) (ch : Fin 8) (e : Fin 4) (i : Nat) (x : Engine) (pins v : Nat),
      s.work.engReady ch e = true → i = s.work.instr ch e → opOf i = 10 → x = s.work.eng ch e →
      v = moveOpt (bitsOf i 5 3) (s.work.moveSrc ch e i (s.work.pinLevels ch e pins)) → bitsOf i 11 9 ≠ 6 →
    ∃ t, exec (.move ch e pins) s = .next t ∧
      t.chan ch = (s.chan ch).withEng e (match bitsOf i 11 9 with | 0 => { x with ctr := v } | 1 => { x with spr := v, srem := s.work.wordBits ch e } | 2 => { x with gtr := v, gheld := 0 } | 3 => { x with out := latchPins x.out v (s.work.pinsOf ch e 2) } | 4 => { x with dir := latchPins x.dir v (s.work.pinsOf ch e 2) } | _ => { x with flags := v % 16 }) ∧
      t.get F.PSQ_STATE_PC ch e = s.pcAfter ch e ∧ s.sameRegs t (psqRegs ch e) ∧ t.mem = s.mem) ∧
  (∀ (s : State) (ch : Fin 8) (e : Fin 4) (i : Nat) (x : Engine) (pins v : Nat),
      s.work.engReady ch e = true → i = s.work.instr ch e → opOf i = 10 → x = s.work.eng ch e →
      v = moveOpt (bitsOf i 5 3) (s.work.moveSrc ch e i (s.work.pinLevels ch e pins)) → bitsOf i 11 9 = 6 →
    ∃ t, exec (.move ch e pins) s = .next t ∧
      t.chan ch = s.chan ch ∧ t.get F.PSQ_STATE_PC ch e = v % 64 ∧ s.sameRegs t (psqRegs ch e) ∧ t.mem = s.mem) ∧
  (∀ (s : State) (ch : Fin 8) (e : Fin 4),
      s.flag F.PSQ_SHCFG_TICK_SYNC ch e = true → (s.chan ch).running = true → (s.chan ch).kiln.quiesce = .none →
      (s.chan ch).seq.guardOrd = none → (s.chan ch).blockHeld 7 = false →
      (s.get F.PSQ_WIN_WIN_START ch e ≠ 0 ∨ bitOf (s.get F.PSQ_STAT_RUNNING ch) e = false ∨ (s.work.eng ch e).window = true ∨ (s.work.eng ch e).doing ≠ .idle) →
    ∃ t, exec (.psqWindowStart ch e) s = .next t ∧
      t.chan ch = (s.chan ch).withEng e { s.work.eng ch e with window := true } ∧
      bitOf (t.get F.PSQ_STAT_FROZEN ch) e = false ∧ s.sameRegs t (psqRegs ch e) ∧ t.mem = s.mem) ∧
  (∀ (s : State) (ch : Fin 8) (e : Fin 4),
      s.flag F.PSQ_SHCFG_TICK_SYNC ch e = true → (s.chan ch).running = true → (s.chan ch).kiln.quiesce = .none →
      (s.chan ch).seq.guardOrd = none → (s.chan ch).blockHeld 7 = false → s.get F.PSQ_WIN_WIN_START ch e = 0 →
      bitOf (s.get F.PSQ_STAT_RUNNING ch) e = true → (s.work.eng ch e).window = false →
      (s.work.eng ch e).doing = .idle →
    ∃ t, exec (.psqWindowStart ch e) s = .next t ∧
      t.chan ch = (s.chan ch).withEng e { s.work.eng ch e with window := true, events := 2 ^ 8 } ∧
      s.sameRegs t (psqRegs ch e) ∧ t.mem = s.mem) ∧
  (∀ (s : State) (ch : Fin 8) (e : Fin 4),
      (s.work.eng ch e).window = true →
    ∃ t, exec (.psqWindowEnd ch e) s = .next t ∧
      t.chan ch = (s.chan ch).withEng e { (s.work.eng ch e).pause with window := false } ∧
      bitOf (t.get F.PSQ_STAT_FROZEN ch) e = (bitOf (s.get F.PSQ_STAT_RUNNING ch) e && s.flag F.PSQ_SHCFG_TICK_SYNC ch e) ∧
      t.get F.PSQ_STATE_PC ch e = s.get F.PSQ_STATE_PC ch e ∧ s.sameRegs t (psqRegs ch e) ∧ t.mem = s.mem)

/-- Writes of PSQ_CTL in a mode that opens its RUN bits: an engine starts at once or waits for the next boundary, stops,
and is restarted while it stands stopped (R285, R287). -/
def Obligations.PinEngineRuns : Prop :=
  (∀ (s : State) (o : Origin) (ch : Fin 8) (e : Fin 4) (v : Word),
      s.accepts (R.PSQ_CTL.addr ch 0) v.toNat = true → s.work.expertOpen (R.PSQ_CTL.addr ch 0) = true →
      (s.chan ch).psq.length = 4 → bitOf v.toNat e = true → bitOf v.toNat (4 + e) = false →
      bitOf v.toNat (8 + e) = false → bitOf (s.get F.PSQ_STAT_RUNNING ch) e = false →
    ∃ t, exec (.psqRun o ch v) s = .next t ∧
      bitOf (t.get F.PSQ_STAT_RUNNING ch) e = true ∧ bitOf (t.get F.PSQ_STAT_PENDING ch) e = false ∧
      (s.flag F.PSQ_SHCFG_CLK_EN ch e = false → t.work.eng ch e = s.work.eng ch e) ∧
      (s.flag F.PSQ_SHCFG_CLK_EN ch e = true → t.work.eng ch e = { s.work.eng ch e with dir := setBit (s.work.eng ch e).dir (s.get F.PSQ_SHCFG_CLK_PIN ch e) true, out := setBit (s.work.eng ch e).out (s.get F.PSQ_SHCFG_CLK_PIN ch e) (s.flag F.PSQ_SHCFG_CLK_POL ch e) }) ∧
      t.get F.PSQ_STATE_PC ch e = s.get F.PSQ_STATE_PC ch e ∧
      s.sameRegs t (R.PSQ_CTL.addr ch 0 :: ((List.range 4).map (psqRegs ch)).flatten) ∧ t.mem = s.mem) ∧
  (∀ (s : State) (o : Origin) (ch : Fin 8) (e : Fin 4) (v : Word),
      s.accepts (R.PSQ_CTL.addr ch 0) v.toNat = true → s.work.expertOpen (R.PSQ_CTL.addr ch 0) = true →
      (s.chan ch).psq.length = 4 → bitOf v.toNat e = true → bitOf v.toNat (4 + e) = true →
      bitOf v.toNat (8 + e) = false → bitOf (s.get F.PSQ_STAT_RUNNING ch) e = false →
    ∃ t, exec (.psqRun o ch v) s = .next t ∧
      bitOf (t.get F.PSQ_STAT_RUNNING ch) e = false ∧ bitOf (t.get F.PSQ_STAT_PENDING ch) e = true ∧
      t.work.eng ch e = s.work.eng ch e ∧
      s.sameRegs t (R.PSQ_CTL.addr ch 0 :: ((List.range 4).map (psqRegs ch)).flatten) ∧ t.mem = s.mem) ∧
  (∀ (s : State) (o : Origin) (ch : Fin 8) (e : Fin 4) (v : Word),
      s.accepts (R.PSQ_CTL.addr ch 0) v.toNat = true → s.work.expertOpen (R.PSQ_CTL.addr ch 0) = true →
      (s.chan ch).psq.length = 4 → bitOf v.toNat e = false → bitOf v.toNat (8 + e) = false →
    ∃ t, exec (.psqStop o ch v) s = .next t ∧
      bitOf (t.get F.PSQ_STAT_RUNNING ch) e = false ∧ bitOf (t.get F.PSQ_STAT_PENDING ch) e = false ∧
      bitOf (t.get F.PSQ_STAT_LOOP_PEND ch) e = false ∧ t.work.eng ch e = (s.work.eng ch e).pause ∧
      t.get F.PSQ_STATE_PC ch e = s.get F.PSQ_STATE_PC ch e ∧
      s.sameRegs t (R.PSQ_CTL.addr ch 0 :: ((List.range 4).map (psqRegs ch)).flatten) ∧ t.mem = s.mem) ∧
  (∀ (s : State) (o : Origin) (ch : Fin 8) (e : Fin 4) (v : Word),
      s.accepts (R.PSQ_CTL.addr ch 0) v.toNat = true → s.work.expertOpen (R.PSQ_CTL.addr ch 0) = true →
      (s.chan ch).psq.length = 4 → bitOf v.toNat e = false → bitOf v.toNat (8 + e) = true →
      bitOf (s.get F.PSQ_STAT_RUNNING ch) e = false → bitOf (s.get F.PSQ_STAT_LOOP_PEND ch) e = false →
    ∃ t, exec (.psqRestart o ch v) s = .next t ∧
      (t.work.eng ch e).tx = [] ∧ (t.work.eng ch e).rx = [] ∧ (t.work.eng ch e).ctr = 0 ∧
      (t.work.eng ch e).flags = 0 ∧ (t.work.eng ch e).doing = .idle ∧
      (t.work.eng ch e).rxSeq = ((s.work.eng ch e).rxSeq + (s.work.eng ch e).rx.length) % 256 ∧
      t.get F.PSQ_STATE_PC ch e = s.get F.PSQ_LOOP_HEAD_ACT ch e ∧ t.get F.PSQ_PASSES_PASSES ch e = 0 ∧
      bitOf (t.get F.PSQ_STAT_RUNNING ch) e = false ∧
      s.sameRegs t (R.PSQ_CTL.addr ch 0 :: ((List.range 4).map (psqRegs ch)).flatten) ∧ t.mem = s.mem)

/-- The words of the pin engines that a port writes and reads: the two FIFOs (R280), the loop pair (R288) and the
program (R286). -/
def Obligations.PinEngineWords : Prop :=
  (∀ (s : State) (o : Origin) (ch : Fin 8) (e : Fin 4) (v : Word),
      s.accepts (R.PSQ_TX.addr ch e) v.toNat = true → (s.work.eng ch e).tx.length < 8 →
    ∃ t, exec (.psqTxWrite o ch e v) s = .next t ∧
      t.chan ch = (s.chan ch).withEng e { s.work.eng ch e with tx := (s.work.eng ch e).tx ++ [v.toNat] } ∧
      t.get F.PSQ_FSTAT_TX_LEVEL ch e = (s.work.eng ch e).tx.length + 1 ∧ s.sameRegs t (psqRegs ch e) ∧ t.mem = s.mem) ∧
  (∀ (s : State) (o : Origin) (ch : Fin 8) (e : Fin 4) (v : Word),
      s.accepts (R.PSQ_TX.addr ch e) v.toNat = true → 8 ≤ (s.work.eng ch e).tx.length →
    ∃ t, exec (.psqTxWrite o ch e v) s = .next t ∧
      t.chan ch = s.chan ch ∧ t.flag F.PSQ_FSTAT_TX_OVR ch e = true ∧ s.sameRegs t [R.PSQ_FSTAT.addr ch e] ∧
      t.mem = s.mem) ∧
  (∀ (s : State) (o : Origin) (ch : Fin 8) (e : Fin 4),
      s.work.mode ≠ mdBoot → (s.work.eng ch e).rx = [] → s.work.regHeld (R.PSQ_RX.addr ch e) = false →
    ∃ t, exec (.psqRxRead o ch e) s = .next t ∧
      t.chan ch = s.chan ch ∧ t.flag F.PSQ_FSTAT_RX_STARVE ch e = true ∧
      t.reg (R.PSQ_RX.addr ch e) = s.reg (R.PSQ_RX.addr ch e) ∧ s.sameRegs t [R.PSQ_FSTAT.addr ch e] ∧ t.mem = s.mem) ∧
  (∀ (s : State) (o : Origin) (ch : Fin 8) (e : Fin 4),
      s.work.mode ≠ mdBoot → (s.work.eng ch e).rx ≠ [] → s.work.regHeld (R.PSQ_RX.addr ch e) = false →
    ∃ t, exec (.psqRxRead o ch e) s = .next t ∧
      t.chan ch = s.chan ch ∧ s.sameRegs t [] ∧ t.mem = s.mem) ∧
  (∀ (s : State) (o : Origin) (ch : Fin 8) (e : Fin 4),
      s.work.mode = mdBoot → s.work.regHeld (R.PSQ_RX.addr ch e) = false →
    ∃ t, exec (.psqRxRead o ch e) s = .next t ∧
      t.chan ch = s.chan ch ∧ s.sameRegs t [] ∧ t.mem = s.mem) ∧
  (∀ (s : State) (o : Origin) (ch : Fin 8) (e : Fin 4) (v : Word) (a : Nat) (as : List Nat),
      s.accepts (R.PSQ_RXACK.addr ch e) v.toNat = true → (s.work.eng ch e).rx = a :: as →
    ∃ t, exec (.psqRxackWrite o ch e v) s = .next t ∧
      t.chan ch = (if v.toNat % 256 = (s.work.eng ch e).rxSeq then (s.chan ch).withEng e { s.work.eng ch e with rx := as, rxSeq := ((s.work.eng ch e).rxSeq + 1) % 256 } else s.chan ch) ∧
      s.sameRegs t (psqRegs ch e) ∧ t.mem = s.mem) ∧
  (∀ (s : State) (o : Origin) (ch : Fin 8) (e : Fin 4) (v : Word),
      s.accepts (R.PSQ_LOOP.addr ch e) v.toNat = true → bitOf (s.get F.PSQ_STAT_RUNNING ch) e = true →
    ∃ t, exec (.psqLoopWrite o ch e v) s = .next t ∧
      t.get F.PSQ_LOOP_LOOP_HEAD ch e = bitsOf v.toNat 5 0 ∧ t.get F.PSQ_LOOP_LOOP_TAIL ch e = bitsOf v.toNat 13 8 ∧
      t.get F.PSQ_LOOP_HEAD_ACT ch e = s.get F.PSQ_LOOP_HEAD_ACT ch e ∧
      t.get F.PSQ_LOOP_TAIL_ACT ch e = s.get F.PSQ_LOOP_TAIL_ACT ch e ∧
      bitOf (t.get F.PSQ_STAT_LOOP_PEND ch) e = true ∧ t.chan ch = s.chan ch ∧
      s.sameRegs t [R.PSQ_LOOP.addr ch e, R.PSQ_STAT.addr ch 0] ∧ t.mem = s.mem) ∧
  (∀ (s : State) (o : Origin) (ch : Fin 8) (e : Fin 4) (v : Word),
      s.accepts (R.PSQ_LOOP.addr ch e) v.toNat = true → bitOf (s.get F.PSQ_STAT_RUNNING ch) e = false →
    ∃ t, exec (.psqLoopWrite o ch e v) s = .next t ∧
      t.get F.PSQ_LOOP_HEAD_ACT ch e = bitsOf v.toNat 5 0 ∧ t.get F.PSQ_LOOP_TAIL_ACT ch e = bitsOf v.toNat 13 8 ∧
      bitOf (t.get F.PSQ_STAT_LOOP_PEND ch) e = false ∧ t.chan ch = s.chan ch ∧
      s.sameRegs t [R.PSQ_LOOP.addr ch e, R.PSQ_STAT.addr ch 0] ∧ t.mem = s.mem) ∧
  (∀ (s : State) (o : Origin) (ch : Fin 8) (e : Fin 4) (k : Fin 64) (v : Word),
      s.accepts (R.PSQ_IMEM.addr ch (64 * e.val + k.val)) v.toNat = true → (s.work.eng ch e).doing = .idle →
    ∃ t, exec (.psqProgramWrite o ch (0x400 + 4 * (64 * e.val + k.val)) v) s = .next t ∧
      t.get F.PSQ_IMEM_INSTR ch (64 * e.val + k.val) = v.toNat % 65536 ∧ t.chan ch = s.chan ch ∧
      s.sameRegs t [R.PSQ_IMEM.addr ch (64 * e.val + k.val)] ∧ t.mem = s.mem) ∧
  (∀ (s : State) (o : Origin) (ch : Fin 8) (e : Fin 4) (k : Fin 64) (v : Word),
      (bitOf (s.get F.PSQ_STAT_RUNNING ch) e = true ∨ psqLegal (v.toNat % 65536) = false) →
      s.work.regHeld (R.PSQ_IMEM.addr ch (64 * e.val + k.val)) = false →
    ∃ t, exec (.psqProgramWrite o ch (0x400 + 4 * (64 * e.val + k.val)) v) s = .next t ∧
      t.chan ch = s.chan ch ∧ s.sameRegs t [] ∧ t.mem = s.mem)

/-- What a Tun engine does: a delivery from its master (R320, R321, R438), its input SETs (R322, R323), vendor records
(R326, R327), FoE (R327), its watchdog and restart (R329), the loss of its connection (R321), and the network-boot
ROM (R328). -/
def Obligations.TunCommands : Prop :=
  (∀ (s : State) (e : Fin 4) (set : Nat) (arr : TunArrival) (bs : List Byte) (ch : Fin 8),
      s.work.engineRuns e = true → set < outputSets (s.work.proto e) →
      (s.work.tunEng e).setAfter (s.work.proto e) set arr = some bs → bs.length ≤ 1024 →
      (s.work.bindings ch).any (fun b => b.fits 1 e set) = true → s.work.mashIsolated ch = false →
      (s.chan ch).mash.queue.length < 256 → (s.chan ch).mash.waiting = [] →
    ∃ t, exec (.tunDelivery e set arr [] false) s = .next t ∧
      (t.work.tunEng e).outSets = putSet (s.work.tunEng e).outSets set bs ∧ t.get F.TUN_STAT_STATE 0 e = 3 ∧
      t.get F.TUN_CNT_DELIVERIES 0 e = Nat.min 65535 (s.get F.TUN_CNT_DELIVERIES 0 e + 1) ∧
      (t.chan ch).mash.queue = (s.chan ch).mash.queue ++ [⟨.area 1 e set bs, .tun e, none, some (s.chan ch).seq.started, none, false⟩] ∧
      s.sameRegs t ([R.TUN_STAT.addr 0 e, R.TUN_CNT.addr 0 e] ++ ((List.range 8).map (fun n => [R.CTL_STAT.addr n 0, R.MASH_STAT.addr n 0, R.MASH_ERR.addr n 0])).flatten) ∧
      t.mem = s.mem) ∧
  (∀ (s : State) (e : Fin 4) (set : Nat) (arr : TunArrival) (bs : List Byte),
      s.work.engineRuns e = true → set < outputSets (s.work.proto e) →
      (s.work.tunEng e).setAfter (s.work.proto e) set arr = some bs → 1024 < bs.length →
      (∀ ch : Fin 8, (s.work.bindings ch).any (fun b => b.fits 1 e set) = false) →
    ∃ t, exec (.tunDelivery e set arr [] false) s = .next t ∧
      (t.work.tunEng e).outSets = putSet (s.work.tunEng e).outSets set (bs.take 1024) ∧
      t.flag F.TUN_ERR_AREA_LONG 0 e = true ∧
      s.sameRegs t [R.TUN_ERR.addr 0 e, R.TUN_STAT.addr 0 e, R.TUN_CNT.addr 0 e] ∧ t.mem = s.mem) ∧
  (∀ (s : State) (e : Fin 4) (set : Nat) (arr : TunArrival),
      s.work.engineRuns e = true → (s.work.tunEng e).setAfter (s.work.proto e) set arr = none →
    ∃ t, exec (.tunDelivery e set arr [] false) s = .next t ∧
      t.dev.tun = s.dev.tun ∧ t.dev.sent = [] ∧ s.sameRegs t [] ∧ t.mem = s.mem) ∧
  (∀ (s : State) (e : Fin 4) (set off len id : Nat) (data : List Byte) (k : Fin 64),
      s.work.engineRuns e = true → s.work.proto e = 1 → set = 0 → data.length ≤ 1024 →
      (∀ ch : Fin 8, (s.work.bindings ch).any (fun b => b.fits 1 e set) = false) → len ≤ 60 →
      off + len ≤ data.length → s.work.joined = true → s.work.fabRuns = true → s.flag F.RHL_PUB_A_EN 0 k = true →
      s.flag F.RHL_PUB_A_URGENT 0 k = true → s.get F.RHL_PUB_A_SET_ID 0 k = id →
      (∀ j : Fin 64, j < k → s.get F.RHL_PUB_A_SET_ID 0 j ≠ id) →
    ∃ t, exec (.tunDelivery e set (.whole data) [(off, len, id)] false) s = .next t ∧
      t.dev.sent = s.work.castSent 0x20 (s.get F.RHL_PUB_B_DEST 0 k) 0 (leBytes 2 id ++ leBytes 2 ((tabGet s.dev.fab.pubSeq 0 k + 1) % 65536) ++ takeAt data off len)) ∧
  (∀ (s : State) (e : Fin 4) (set : Nat) (bs : List Byte),
      s.work.engineRuns e = true → setOf (s.work.tunEng e).inSets set = some bs →
    ∃ t, exec (.tunInputSend e set) s = .next t ∧
      t.dev.sent = [⟨2, e, set, (s.work.standbyNode && flagsValidity (s.work.proto e)).toNat, (s.work.tunEng e).sentBytes (s.work.proto e) set (!s.work.standbyNode) bs⟩] ∧
      (s.work.standbyNode = false → s.work.proto e ≠ 1 → t.dev.sent.map (·.bytes) = [bs]) ∧
      (s.work.standbyNode = true → s.work.proto e = 4 ∨ s.work.proto e = 5 → t.dev.sent.map (·.bytes) = [[0x06]]) ∧
      s.sameRegs t [] ∧ t.mem = s.mem) ∧
  (∀ (s : State) (e : Fin 4) (tag : Nat),
      s.work.carriesRecords e = true → (s.work.tunEng e).port.flight = none → s.work.modeAdmits 0x7F = true →
      s.work.proto e ≠ 10 → s.work.proto e ≠ 12 →
    ∃ t, exec (.vendorRecordRequest e 0x7F tag []) s = .next t ∧
      (t.work.tunEng e).port = { flight := none, answered := true, fresh := true, rseq := ((s.work.tunEng e).port.rseq + 1) % 65536, resp := ⟨0x7F, tag, stOk, [], false, false⟩ } ∧
      t.dev.sent = [] ∧ s.sameRegs t [R.TUN_STAT.addr 0 e] ∧ t.mem = s.mem) ∧
  (∀ (s : State) (e : Fin 4) (op tag : Nat) (pl : List Byte) (f : Flight),
      s.work.carriesRecords e = true → (s.work.tunEng e).port.flight = some f → op ≠ opAbort → s.work.proto e ≠ 10 →
      s.work.proto e ≠ 12 →
    ∃ t, exec (.vendorRecordRequest e op tag pl) s = .next t ∧
      (t.work.tunEng e).port = { flight := some f, answered := true, fresh := true, rseq := ((s.work.tunEng e).port.rseq + 1) % 65536, resp := ⟨op, tag, stBusy, [], false, false⟩ } ∧
      s.sameRegs t [] ∧ t.mem = s.mem) ∧
  (∀ (s : State) (e : Fin 4),
      s.work.carriesRecords e = true → s.work.proto e ≠ 10 → s.work.proto e ≠ 12 →
      (s.work.tunEng e).port.flight = none → (s.work.tunEng e).port.answered = true →
    ∃ t, exec (.vendorRecordRead e) s = .next t ∧
      t.dev.sent = [⟨2, e, 256, 0, respBytes s.work (s.work.tunEng e).port.resp (s.work.tunEng e).port.rseq true (!(s.work.tunEng e).port.fresh)⟩] ∧
      (t.work.tunEng e).port = { (s.work.tunEng e).port with fresh := false } ∧ s.sameRegs t [] ∧ t.mem = s.mem) ∧
  (∀ (s : State) (e : Fin 4) (image : List Byte),
      s.work.engineRuns e = true → s.work.proto e = 2 → (s.work.tunEng e).port.flight = none → s.work.mode ≠ mdTest →
      s.dev.img.sess = none → s.work.scopeAdmitted 0 = true → 224 ≤ image.length → image.length ≤ 4096 →
      image.length % 16 = 0 → (earlyCode (s.get F.SYS_ID_DIE_REV) (some image.length) image).1 ≠ 0 →
    ∃ t, exec (.foeImageWrite e image) s = .next t ∧
      t.dev.img.sess = none ∧ (t.work.tunEng e).port.flight = none ∧ (t.work.tunEng e).port.fresh = true ∧
      (t.work.tunEng e).port.resp.op = opCfgEnd ∧
      (t.work.tunEng e).port.rseq = ((s.work.tunEng e).port.rseq + 1) % 65536 ∧
      t.get F.SYS_IMG_STAT_LAST_ERR = (earlyCode (s.get F.SYS_ID_DIE_REV) (some image.length) image).1) ∧
  (∀ (s : State) (e : Fin 4) (image : List Byte),
      s.work.engineRuns e = true → s.work.proto e = 2 → (s.work.tunEng e).port.flight = none → image ≠ [] →
      image.length ≤ 4096 → (s.work.perform (.tun e) 0x40 (leBytes 4 image.length ++ leBytes 8 0)).2 = .done stOk [] →
    ∃ t, exec (.foeImageWrite e image) s = .next t ∧
      t = s.run (fun _ => ((s.work.perform (.tun e) 0x40 (leBytes 4 image.length ++ leBytes 8 0)).1.perform (.tun e) 0x41 (leBytes 4 0 ++ image)).1.serve (.tun e) opCfgEnd 0 [] false)) ∧
  (∀ (s : State) (e : Fin 4) (image : List Byte),
      s.work.engineRuns e = true → s.work.proto e = 2 → (s.work.tunEng e).port.flight = none → s.dev.img.sess ≠ none →
    ∃ t, exec (.foeImageWrite e image) s = .next t ∧
      (t.work.tunEng e).port.flight = none ∧ (t.work.tunEng e).port.resp.op = opCfgEnd ∧
      (t.work.tunEng e).port.resp.status ≠ stOk ∧ t.dev.img.sess = s.dev.img.sess) ∧
  (∀ (s : State) (e : Fin 4) (read good : Bool),
      s.work.engineRuns e = true → good = (read && s.work.codeGood e) → s.dev.img.sess = none →
      s.dev.modeReq = none → s.dev.pwr.cmd = none →
    ∃ t, exec (.tunWatchdogExpire e read) s = .next t ∧
      t.flag F.TUN_ERR_WDOG 0 e = true ∧ (good = false → t.flag F.TUN_ERR_CODE_BAD 0 e = true) ∧
      bitOf (t.get F.TUN_CTL_RUNNING) e = false ∧ t.get F.TUN_STAT_STATE 0 e = 0 ∧
      (t.work.tunEng e).port = Port.init ∧ (t.work.tunEng e).outSets = [] ∧ (t.work.tunEng e).wdog = some good ∧
      (t.work.tunEng e).inSets = (s.work.tunEng e).inSets.map (fun x => (x.1, List.replicate x.2.length 0)) ∧
      s.sameRegs t ([R.TUN_CTL.addr 0 0, R.TUN_STAT.addr 0 e, R.TUN_ERR.addr 0 e] ++ (List.range 8).map (fun n => R.MASH_STAT.addr n 0)) ∧
      s.sameBytesBut t (0x02000000 + 0x40000 * e + (s.work.tunEng e).code.length) (0x40000 - (s.work.tunEng e).code.length)) ∧
  (∀ (s : State) (e : Fin 4),
      (s.work.tunEng e).wdog = some true → (s.work.tunEng e).held = false → (s.work.tunEng e).code ≠ [] →
      s.work.pwrState = 0 →
    ∃ t, exec (.tunRestart e) s = .next t ∧
      t.dev.tun = s.dev.tun.set e { s.work.tunEng e with wdog := none } ∧ bitOf (t.get F.TUN_CTL_RUNNING) e = true ∧
      t.get F.TUN_STAT_STATE 0 e = 1 ∧ s.sameRegs t [R.TUN_CTL.addr 0 0, R.TUN_STAT.addr 0 e] ∧ t.mem = s.mem) ∧
  (∀ (s : State) (e : Fin 4),
      s.work.engineRuns e = true → s.get F.TUN_STAT_STATE 0 e = 3 →
    ∃ t, exec (.connectionLost e) s = .next t ∧
      t.get F.TUN_STAT_STATE 0 e = 2 ∧ t.dev.tun = s.dev.tun ∧ s.sameRegs t [R.TUN_STAT.addr 0 e] ∧ t.mem = s.mem) ∧
  (∀ (s : State) (e : Fin 4) (set : Fin 16) (b : Byte) (bs : List Byte),
      s.work.engineRuns e = true → s.work.proto e = 7 → setOf (s.work.tunEng e).outSets set = some (b :: bs) →
    ∃ t, exec (.timeAllowedToLiveExpiry e set) s = .next t ∧
      setOf (t.work.tunEng e).outSets set = some ((b &&& 0xFE) :: bs) ∧
      (∀ j : Fin 16, j ≠ set → setOf (t.work.tunEng e).outSets j = setOf (s.work.tunEng e).outSets j) ∧
      s.sameRegs t [] ∧ t.mem = s.mem) ∧
  (∀ (s : State) (mac tag : Nat),
      s.work.netServes = true → s.dev.netBoot.flight = none →
    ∃ t, exec (.netBootFrame ⟨0x7F, mac, true⟩ tag []) s = .next t ∧
      t.dev.netBoot = { flight := none, answered := true, fresh := true, rseq := (s.dev.netBoot.rseq + 1) % 65536, resp := ⟨0x7F, tag, stOk, [], false, false⟩ } ∧
      t.dev.sent.map (·.kind) = [0x88B5] ∧ s.sameRegs t [] ∧ t.mem = s.mem) ∧
  (∀ (s : State) (op mac tag : Nat) (pl : List Byte),
      s.work.netServes = true → s.dev.netBoot.flight = none → bootOps.contains op = false →
    ∃ t, exec (.netBootFrame ⟨op, mac, true⟩ tag pl) s = .next t ∧
      t.dev.netBoot.resp = ⟨op, tag, stMode, [], false, false⟩ ∧ t.dev.sent.length = 1 ∧ s.sameRegs t [] ∧
      t.mem = s.mem) ∧
  (∀ (s : State) (op mac tag : Nat) (pl : List Byte),
    ∃ t, exec (.netBootFrame ⟨op, mac, false⟩ tag pl) s = .next t ∧
      t.dev = s.dev)

/-- Links of the fabric (R332, R345, R346), their delays (R333), frames received (R334 to R336, R343), and the switch
and the PTP clock of the network ports (R317, R318). -/
def Obligations.LinksAndFrames : Prop :=
  (∀ (s : State) (p : Fin 3),
      s.work.portOn p = true → s.flag F.RHL_PORT_LINK 0 p = true → s.dev.fab.ring = none →
    ∃ t, exec (.linkDown p) s = .next t ∧
      t.flag F.RHL_PORT_LINK 0 p = false ∧ t.flag F.RHL_ERR_LINK_DOWN = true ∧ (t.work.fabPort p).t1 = none ∧
      t.dev.fab.ring = none ∧ s.sameRegs t (R.RHL_PORT.addr 0 p :: R.RHL_ERR.addr 0 0 :: ringRegs devRing) ∧
      s.sameMemButNext t devRing) ∧
  (∀ (s : State) (p : Fin 3) (r : RingInfo),
      s.work.portOn p = true → s.flag F.RHL_PORT_LINK 0 p = true → s.dev.fab.ring = some r → ringHas r p = true →
      r.fwd < 3 → r.back < 3 → s.dev.fab.broken = [] →
    ∃ t, exec (.linkDown p) s = .next t ∧
      t.dev.fab.broken = [ringLinkAt r p] ∧ t.get F.RHL_CNT_HEALS = Nat.min 65535 (s.get F.RHL_CNT_HEALS + 1) ∧
      (∀ x ∈ r.owners, x.2 ≠ r.pos → (r.owners.Pairwise (fun x y => x.1 ≠ y.1)) → x.1 < 512 → t.work.routeOf x.1 = ringPortTo r [ringLinkAt r p] x.2 + 1) ∧
      t.dev.sent = t.work.castSent 0x08 511 0 (Config.fabBytes 0x08 [s.work.ownAddr, p, 0, r.pos]) ∧
      s.sameRegs t ([R.RHL_PORT.addr 0 p, R.RHL_ERR.addr 0 0, R.RHL_CNT.addr 0 0] ++ (List.range 32).map (fun k => R.RHL_ROUTE.addr 0 k) ++ ringRegs devRing)) ∧
  (∀ (s : State) (p : Fin 3),
      s.work.portOn p = true → s.flag F.RHL_PORT_LINK 0 p = false → s.flag F.RHL_PORT_HOLD 0 p = false →
      (s.work.fabPort p).seen = false → p < s.dev.fab.ports.length → s.work.fabState ≠ fsRoot →
      s.work.fabState ≠ fsJoined →
    ∃ t, exec (.linkUp p) s = .next t ∧
      t.flag F.RHL_PORT_LINK 0 p = true ∧ (t.work.fabPort p).seen = true ∧ s.sameRegs t [R.RHL_PORT.addr 0 p] ∧
      t.mem = s.mem) ∧
  (∀ (s : State) (p : Fin 3),
      s.work.portOn p = true → s.flag F.RHL_PORT_LINK 0 p = false → s.flag F.RHL_PORT_HOLD 0 p = false →
      (s.work.fabPort p).seen = true → p < s.dev.fab.ports.length →
    ∃ t, exec (.linkUp p) s = .next t ∧
      t.flag F.RHL_PORT_LINK 0 p = false ∧ t.flag F.RHL_PORT_HOLD 0 p = true ∧
      (t.work.fabPort p).holdLeft = some 64 ∧ t.dev.sent = [] ∧ s.sameRegs t [R.RHL_PORT.addr 0 p] ∧ t.mem = s.mem) ∧
  (∀ (s : State) (p : Fin 3),
      s.work.portOn p = true → s.flag F.RHL_PORT_HOLD 0 p = true → (s.work.fabPort p).holdLeft = some 0 →
      s.dev.fab.ring = none → s.work.fabState ≠ fsRoot → s.work.fabState ≠ fsJoined →
    ∃ t, exec (.linkRejoin p) s = .next t ∧
      t.flag F.RHL_PORT_LINK 0 p = true ∧ t.flag F.RHL_PORT_HOLD 0 p = false ∧ (t.work.fabPort p).holdLeft = none ∧
      s.sameRegs t (R.RHL_PORT.addr 0 p :: ringRegs devRing) ∧ s.sameMemButNext t devRing) ∧
  (∀ (s : State) (p : Fin 3) (r : RingInfo),
      s.work.portOn p = true → s.flag F.RHL_PORT_HOLD 0 p = true → (s.work.fabPort p).holdLeft = some 0 →
      s.dev.fab.ring = some r → ringHas r p = true → s.work.fabState = fsJoined →
      ¬(p = 2 ∧ s.flag F.RHL_CFG_PAIR_P2 = true) →
    ∃ t, exec (.linkRejoin p) s = .next t ∧
      t.flag F.RHL_PORT_LINK 0 p = true ∧
      t.dev.sent = t.work.castSent 0x08 511 0 (Config.fabBytes 0x08 [s.work.ownAddr, p, 1, r.pos]) ++ [t.work.fabRecord (p, 0) 0x01 0 1 (Config.fabBytes 0x01 [p, s.dev.fab.rootUid])] ∧
      t.dev.fab.broken = s.dev.fab.broken) ∧
  (∀ (s : State) (p : Fin 3) (ns : Nat),
      s.work.portOn p = true → s.flag F.RHL_PORT_LINK 0 p = true → s.dev.tick % 16 = 0 → p < s.dev.fab.ports.length →
    ∃ t, exec (.pdelaySend p ns) s = .next t ∧
      t.dev.sent.map (·.kind) = [0x11] ∧ t.dev.sent.map (·.port) = [p.val] ∧ (t.work.fabPort p).t1 = some ns ∧
      s.sameRegs t [] ∧ t.mem = s.mem) ∧
  (∀ (s : State) (p : Fin 3) (src t1 t2 t3 : Nat),
      s.work.portOn p = true → s.flag F.RHL_PORT_LINK 0 p = true →
    ∃ t, exec (.pdelayReq p src t1 t2 t3) s = .next t ∧
      t.dev.sent = [s.work.fabRecord (p, 0) 0x12 src 0 (Config.fabBytes 0x12 [t1, t2, t3])] ∧
      t.get F.RHL_PORT_NEIGH 0 p = src % 512 ∧ s.sameRegs t [R.RHL_PORT.addr 0 p] ∧ t.mem = s.mem) ∧
  (∀ (s : State) (p : Fin 3) (src t1 t2 t3 t4 d : Nat),
      s.work.portOn p = true → (s.work.fabPort p).t1 = some t1 → t1 ≤ t4 → t2 ≤ t3 → t3 - t2 ≤ t4 - t1 →
      t4 - t1 = t3 - t2 + 2 * d → d ≤ s.work.declared p + 100 →
    ∃ t, exec (.pdelayRsp p src t2 t3 t4) s = .next t ∧
      t.get F.RHL_PORT_DELAY_NS 0 p = Nat.min 65535 d ∧ t.get F.RHL_PORT_NEIGH 0 p = src % 512 ∧
      (t.work.fabPort p).t1 = none ∧ s.sameRegs t [R.RHL_PORT.addr 0 p] ∧ t.mem = s.mem) ∧
  (∀ (s : State) (p : Fin 3) (src t1 t2 t3 t4 d : Nat),
      s.work.portOn p = true → (s.work.fabPort p).t1 = some t1 → t1 ≤ t4 → t2 ≤ t3 → t4 - t1 = t3 - t2 + 2 * d →
      s.work.declared p + 100 < d → ((s.work.fabPort p).mismatch = false ∨ s.flag F.RHL_ERR_MEDIA_MISMATCH = false) →
    ∃ t, exec (.pdelayRsp p src t2 t3 t4) s = .next t ∧
      t.get F.RHL_PORT_DELAY_NS 0 p = Nat.min 65535 d ∧ t.flag F.RHL_ERR_MEDIA_MISMATCH = true ∧
      s.sameRegs t (R.RHL_PORT.addr 0 p :: R.RHL_ERR.addr 0 0 :: ringRegs devRing) ∧ s.sameMemButNext t devRing) ∧
  (∀ (s : State) (p : Fin 3) (dest src kind flags hops blimit : Nat) (pl : List Byte) (crc : Bool) (sending : List Nat) (q : Nat),
      s.work.carries p = true → 0 < hops → flags % 4 ≠ 3 → fabKinds.contains kind = true →
      neighbourKinds.contains kind = false → (flags % 4 = 0 → pl.length ≤ 64) → dest ≠ 511 → dest ≠ s.work.ownAddr →
      s.work.joined = true → s.work.routeOf dest = q + 1 → q ∈ s.work.otherPorts p →
    ∃ t, exec (.frameForward p dest src kind flags hops blimit pl true crc sending) s = .next t ∧
      t.dev.sent = [⟨0, q, kind, dest, fabFrame dest src kind (s.work.dirFlags p q flags) (hops - 1) 0 (s.work.through p kind pl).1 crc⟩] ∧
      (kind ≠ 0x10 → (s.work.through p kind pl).1 = pl) ∧
      (crc = false → t.flag F.RHL_ERR_CRC = true ∧ t.get F.RHL_CNT_CRC_ERRS = Nat.min 65535 (s.get F.RHL_CNT_CRC_ERRS + 1)) ∧
      s.sameRegs t (if crc then [] else [R.RHL_ERR.addr 0 0, R.RHL_CNT.addr 0 0]) ∧ t.mem = s.mem) ∧
  (∀ (s : State) (p : Fin 3) (dest src kind flags hops blimit : Nat) (pl : List Byte) (crc : Bool) (sending : List Nat),
      s.work.carries p = true → 0 < hops → flags % 4 ≠ 3 → fabKinds.contains kind = true →
      neighbourKinds.contains kind = false → (flags % 4 = 0 → pl.length ≤ 64) → dest = 511 → s.dev.fab.ring = none →
    ∃ t, exec (.frameForward p dest src kind flags hops blimit pl true crc sending) s = .next t ∧
      t.dev.sent = (s.work.otherPorts p).map (fun q => ⟨0, q, kind, dest, fabFrame dest src kind flags (hops - 1) (blimit - 1) (s.work.through p kind pl).1 crc⟩) ∧
      t.mem = s.mem) ∧
  (∀ (s : State) (p : Fin 3) (dest src kind flags hops blimit : Nat) (pl : List Byte) (crc : Bool) (sending : List Nat),
      s.work.carries p = true → 0 < hops → flags % 4 ≠ 3 → fabKinds.contains kind = true →
      neighbourKinds.contains kind = false → (flags % 4 = 0 → pl.length ≤ 64) → dest ≠ 511 → dest = s.work.ownAddr →
      s.work.pairUp = false → crc = true →
    ∃ t, exec (.frameForward p dest src kind flags hops blimit pl true crc sending) s = .next t ∧
      t = { s with dev := { s.dev with sent := [] } }) ∧
  (∀ (s : State) (p : Fin 3) (dest src kind flags hops blimit : Nat) (pl : List Byte) (crc : Bool) (sending : List Nat),
      s.work.carries p = true → (hops = 0 ∨ flags % 4 = 3) → crc = true →
    ∃ t, exec (.frameForward p dest src kind flags hops blimit pl true crc sending) s = .next t ∧
      t.flag F.RHL_ERR_HOP_DROP = true ∧ t.dev.sent = [] ∧ s.sameRegs t [R.RHL_ERR.addr 0 0] ∧ t.mem = s.mem) ∧
  (∀ (s : State) (p : Fin 3) (dest src kind flags hops blimit : Nat) (pl : List Byte) (crc : Bool) (sending : List Nat),
      s.work.carries p = true →
    ∃ t, exec (.frameForward p dest src kind flags hops blimit pl false crc sending) s = .next t ∧
      t.flag F.RHL_ERR_CRC = true ∧ t.get F.RHL_CNT_CRC_ERRS = Nat.min 65535 (s.get F.RHL_CNT_CRC_ERRS + 1) ∧
      t.dev.sent = [] ∧ s.sameRegs t [R.RHL_ERR.addr 0 0, R.RHL_CNT.addr 0 0] ∧ t.mem = s.mem) ∧
  (∀ (s : State) (port : Fin 2) (dst : SwitchDest) (fr : EthFrame) (res link : Nat),
      s.work.netRuns = true → s.work.netOn port = true → s.work.netOn (1 - port) = true → s.work.exclusiveNet = false →
    ∃ t, exec (.switchForward port dst fr res link true) s = .next t ∧
      t.dev.sent = (switchPorts port dst).map (fun q => ⟨3, q, fr.ethertype, switchQueue fr.prio fr.ethertype, leBytes 8 (if fr.ptpEvent = true ∧ q ≠ 2 then s.work.ptpCorrection res link else 0)⟩) ∧
      s.sameRegs t [] ∧ t.mem = s.mem) ∧
  (∀ (s : State) (port : Fin 2) (dst : SwitchDest) (fr : EthFrame) (res link : Nat),
      s.work.netRuns = true → s.work.netOn port = true → s.work.netOn (1 - port) = true → s.work.exclusiveNet = true →
    ∃ t, exec (.switchForward port dst fr res link true) s = .next t ∧
      t.dev.sent = [⟨3, 2, fr.ethertype, 4, leBytes 8 0⟩, ⟨3, 1 - port, fr.ethertype, 4, leBytes 8 0⟩] ∧
      s.sameRegs t [] ∧ t.mem = s.mem) ∧
  (∀ (s : State) (port : Fin 2) (dst : SwitchDest) (fr : EthFrame) (res link : Nat),
      s.work.netRuns = true →
    ∃ t, exec (.switchForward port dst fr res link false) s = .next t ∧
      t.dev.sent = [] ∧ s.sameRegs t [] ∧ t.mem = s.mem) ∧
  (∀ (s : State) (port : Fin 2) (x : PtpArrival),
      s.work.netRuns = true → s.flag F.NET_PTP_CFG_EN = true → s.work.exclusiveNet = false →
      s.work.netOn port = true → s.get F.NET_PTP_CFG_PORT = port → s.get F.NET_PTP_CFG_DOMAIN = x.domain →
      s.work.ptpTakes x.msg = true → x.msg ≠ .peerReq → 1 ≤ x.state → x.state ≤ 3 →
    ∃ t, exec (.ptpMessage port x true) s = .next t ∧
      t.get F.NET_PTP_STAT_STATE = x.state ∧
      t.get F.NET_PTP_STAT_OFFSET = unsigned 16 (max (-32767) (min 32767 x.offsetNs)) ∧
      t.dev.sent = (if x.asks then [⟨3, port, 0x88F7, 3, leBytes 1 s.work.ptpRequest ++ leBytes 1 (s.get F.NET_PTP_CFG_DOMAIN) ++ leBytes 1 (s.get F.NET_PTP_CFG_PROFILE)⟩] else []) ∧
      s.sameRegs t [R.NET_PTP_STAT.addr 0 0] ∧ t.mem = s.mem) ∧
  (∀ (s : State) (port : Fin 2) (x : PtpArrival),
      s.work.netRuns = true → s.flag F.NET_PTP_CFG_EN = true → s.work.exclusiveNet = false →
      s.work.netOn port = true → s.get F.NET_PTP_CFG_PORT = port → s.get F.NET_PTP_CFG_DOMAIN = x.domain →
      s.work.ptpTakes x.msg = true → x.msg = .peerReq →
    ∃ t, exec (.ptpMessage port x true) s = .next t ∧
      t.dev.sent = [⟨3, port, 0x88F7, 3, leBytes 1 3 ++ leBytes 1 (s.get F.NET_PTP_CFG_DOMAIN) ++ leBytes 1 (s.get F.NET_PTP_CFG_PROFILE)⟩] ∧
      s.sameRegs t [] ∧ t.mem = s.mem) ∧
  (∀ (s : State) (port : Fin 2) (x : PtpArrival),
      (s.get F.NET_PTP_CFG_PORT ≠ port ∨ s.get F.NET_PTP_CFG_DOMAIN ≠ x.domain ∨ s.work.ptpTakes x.msg = false) →
    ∃ t, exec (.ptpMessage port x true) s = .next t ∧
      t.dev.sent = [] ∧ s.sameRegs t [] ∧ t.mem = s.mem)

/-- Discovery and the join handshake (R338 to R342, R350), and a link state told by a ring node (R345). The message
authentication is the function the spec names, uninterpreted here (log entry 15), over the text of log entry 17. -/
def Obligations.JoiningTheFabric : Prop :=
  (∀ (s : State) (p : Fin 3) (root : Nat),
      s.work.carries p = true →
      (s.work.fabState = fsListen ∨ s.work.fabState = fsJoined ∨ s.work.fabState = fsUnjoined) →
    ∃ t, exec (.probe p root) s = .next t ∧
      t.dev.fab = { s.dev.fab with rootUid := root, upPort := p, ports := t.dev.fab.ports } ∧
      (∀ q : Fin 3, t.work.fabPort q = { s.work.fabPort q with line := (t.work.fabPort q).line }) ∧
      t.dev.sent.map (fun m => (m.port, m.kind)) = (p.val, 0x02) :: (s.work.otherPorts p).map (fun q => (q, 0x01)) ∧
      s.sameRegs t [] ∧ t.mem = s.mem) ∧
  (∀ (s : State) (p : Fin 3) (k : Nat),
      s.work.carries p = true → s.work.fabState = fsRoot → s.work.isPartner (ownUid + 1 + k) = false →
    ∃ t, exec (.probe p (ownUid + 1 + k)) s = .next t ∧
      t.dev.fab = { s.dev.fab with ports := t.dev.fab.ports } ∧ t.get F.RHL_STAT_STATE = fsRoot ∧
      t.dev.sent.map (·.kind) = [0x02] ∧ s.sameRegs t (ringRegs devRing) ∧ s.sameMemButNext t devRing) ∧
  (∀ (s : State) (p : Fin 3) (root : Nat),
      s.work.carries p = true → s.work.fabState = fsRoot → s.work.isPartner root = true →
    ∃ t, exec (.probe p root) s = .next t ∧
      t.dev.fab = { s.dev.fab with ports := t.dev.fab.ports } ∧ t.get F.RHL_STAT_STATE = fsRoot ∧
      t.dev.sent.map (fun m => (m.port, m.kind)) = [(p.val, 0x02)] ∧ s.sameRegs t [] ∧ t.mem = s.mem) ∧
  (∀ (s : State) (i : ProbeInfo) (k : Nat) (nr : List Byte) (a : Nat),
      s.work.fabState = fsRoot → s.work.fabRuns = true → i.role = 0 → i.boot = false →
      s.flag F.RHL_CFG_ADDR_MODE = false → s.work.node? (ownUid + 1 + k) = none →
      (s.dev.fab.nodes.filter (fun x => !x.twin)).length + 1 < 510 → s.dev.fab.shakes = [] → i.partner = 0 →
      a = ((s.dev.fab.nodes.filter (fun x => !x.twin)).filter (fun x => !x.boot)).length + 2 →
      s.work.addrsHeld.contains a = false →
    ∃ t, exec (.probeRsp { i with uid := ownUid + 1 + k } nr) s = .next t ∧
      t.dev.fab.nodes = s.dev.fab.nodes ++ [⟨ownUid + 1 + k, i.imgAddr, i.periodUs, false, a, i.parent, i.port, i.inPort, i.delay, 0, 0, false⟩] ∧
      t.dev.fab.shakes = [⟨ownUid + 1 + k, nr, [], a, 64⟩] ∧
      t.dev.sent.getLast? = some (t.work.fabRecord (t.work.treePort ownUid (ownUid + 1 + k), 0) 0x03 a 1 nr) ∧
      s.sameRegs t [] ∧ t.mem = s.mem) ∧
  (∀ (s : State) (nr nn key : List Byte) (addr root : Nat),
      s.work.fabRuns = true → (s.work.fabState = fsListen ∨ s.work.fabState = fsUnjoined) → s.work.key 2 = some key →
    ∃ t, exec (.joinChal nr nn (some ⟨addr, root⟩)) s = .next t ∧
      t.get F.RHL_STAT_STATE = fsJoining ∧ t.get F.RHL_STAT_REASON = 0 ∧
      t.dev.sent = t.work.castSent 0x04 root 1 (nn ++ Config.hmacSha256 key (joinText rj1 ownUid s.dev.fab.rootUid nr nn addr)) ∧
      t.dev.fab = { s.dev.fab with shakes := [⟨s.dev.fab.rootUid, nr, nn, addr, 64⟩], rootAddr := root, ports := t.dev.fab.ports } ∧
      s.sameRegs t [R.RHL_STAT.addr 0 0] ∧ t.mem = s.mem) ∧
  (∀ (s : State) (nr nn : List Byte) (addr root : Nat),
      s.work.fabRuns = true → (s.work.fabState = fsListen ∨ s.work.fabState = fsUnjoined) → s.work.key 2 = none →
    ∃ t, exec (.joinChal nr nn (some ⟨addr, root⟩)) s = .next t ∧
      t.get F.RHL_STAT_STATE = fsUnjoined ∧ t.get F.RHL_STAT_REASON = 1 ∧ t.flag F.RHL_ERR_AUTH_FAIL = true ∧
      t.get F.RHL_STAT_ADDR_ACT = 0 ∧ t.dev.sent = [] ∧
      s.sameRegs t ([R.RHL_STAT.addr 0 0, R.RHL_ERR.addr 0 0] ++ (List.range 32).map (fun k => R.RHL_ROUTE.addr 0 k) ++ (List.range 3).map (fun p => R.RHL_PORT.addr 0 p) ++ ringRegs devRing) ∧
      s.sameMemButNext t devRing) ∧
  (∀ (s : State) (u : Nat) (nn key : List Byte) (k : Shake) (x : Node),
      s.work.fabState = fsRoot → s.work.fabRuns = true → s.dev.fab.shakes.find? (fun y => y.peer == u) = some k →
      s.work.node? u = some x → s.work.key 2 = some key → x.periodUs = s.work.periodUs →
    ∃ t, exec (.joinRsp (some u) nn (Config.hmacSha256 key (joinText rj1 u ownUid k.nr nn k.addr))) s = .next t ∧
      t.dev.fab.shakes = s.dev.fab.shakes.filter (fun y => y.peer != u) ∧
      (s.work.latencyOk s.work.joinedNodes u = true → (t.work.node? u).map (fun y => (y.state, y.addr)) = some (1, x.addr) ∧ t.dev.sent.map (fun m => (m.port, m.kind, m.dest)) = (t.work.portsTo k.addr).map (fun q => (q.1, 0x05, k.addr)) ∧ t.mem = s.mem) ∧
      (s.work.latencyOk s.work.joinedNodes u = false → (t.work.node? u).map (fun y => (y.state, y.reason)) = some (2, 5) ∧ t.flag F.RHL_ERR_LATENCY = true ∧ t.dev.sent = [])) ∧
  (∀ (s : State) (u : Nat) (nn key : List Byte) (k : Shake) (x : Node),
      s.work.fabState = fsRoot → s.work.fabRuns = true → s.dev.fab.shakes.find? (fun y => y.peer == u) = some k →
      s.work.node? u = some x → s.work.key 2 = some key → x.periodUs ≠ s.work.periodUs →
    ∃ t, exec (.joinRsp (some u) nn (Config.hmacSha256 key (joinText rj1 u ownUid k.nr nn k.addr))) s = .next t ∧
      (t.work.node? u).map (fun y => (y.state, y.reason, y.addr)) = some (2, 2, 0) ∧ t.dev.sent = [] ∧
      s.sameRegs t (ringRegs devRing) ∧ s.sameMemButNext t devRing) ∧
  (∀ (s : State) (key : List Byte) (words : List Nat) (ring : Option RingInfo) (k : Shake) (ks : List Shake),
      s.work.fabRuns = true → s.work.fabState = fsJoining → s.dev.fab.shakes = k :: ks → s.work.key 2 = some key →
      k.addr < 512 → words.length = 32 → brokenOf ring = [] →
    ∃ t, exec (.joinAccept (Config.hmacSha256 key (joinText rj2 ownUid s.dev.fab.rootUid k.nr k.nn k.addr)) (some k.addr) words ring) s = .next t ∧
      t.get F.RHL_STAT_STATE = fsJoined ∧ t.get F.RHL_STAT_REASON = 0 ∧ t.get F.RHL_STAT_ADDR_ACT = k.addr ∧
      (∀ j : Fin 32, t.get F.RHL_ROUTE_PORTS 0 j = words.getD j 0 % 2 ^ 32) ∧ t.flag F.RHL_STAT_RING = ring.isSome ∧
      t.get F.SYS_TICK_CFG_LOCK_SRC = 1 ∧ t.dev.lock.own = s.get F.SYS_TICK_CFG_LOCK_SRC ∧
      t.dev.fab = { s.dev.fab with shakes := [], ring := ring, broken := [] } ∧
      s.sameRegs t ([R.RHL_STAT.addr 0 0, R.SYS_TICK_CFG.addr 0 0, R.SYS_TICK_STAT.addr 0 0] ++ (List.range 32).map (fun k => R.RHL_ROUTE.addr 0 k) ++ (List.range 3).map (fun p => R.RHL_PORT.addr 0 p) ++ ringRegs devRing) ∧
      s.sameMemButNext t devRing) ∧
  (∀ (s : State) (mac : List Byte) (addr : Nat) (words : List Nat) (ring : Option RingInfo),
      s.work.fabRuns = true → s.work.fabState = fsJoined →
    ∃ t, exec (.joinAccept mac (some addr) words ring) s = .next t ∧
      t.dev.fab = { s.dev.fab with routes := some (words, ring) } ∧ s.sameRegs t [] ∧ t.mem = s.mem) ∧
  (∀ (s : State) (x : Shake),
      s.dev.pair.auth = .idle → s.dev.fab.shakes = [x] → x.left = 0 → s.work.fabState = fsJoining →
    ∃ t, exec (.joinTimeout) s = .next t ∧
      t.dev.fab.shakes = [] ∧ t.get F.RHL_STAT_STATE = fsUnjoined ∧ t.get F.RHL_STAT_REASON = 1 ∧
      t.flag F.RHL_ERR_AUTH_FAIL = true ∧ t.get F.RHL_STAT_ADDR_ACT = 0 ∧
      s.sameRegs t ([R.RHL_STAT.addr 0 0, R.RHL_ERR.addr 0 0] ++ (List.range 32).map (fun k => R.RHL_ROUTE.addr 0 k) ++ (List.range 3).map (fun p => R.RHL_PORT.addr 0 p) ++ ringRegs devRing) ∧
      s.sameMemButNext t devRing) ∧
  (∀ (s : State) (p : Fin 3) (node pos port : Nat) (r : RingInfo) (link : Nat),
      s.work.fabRuns = true → s.work.fabState ≠ fsRoot → s.dev.fab.ring = some r → ringHas r p = true →
      ringReports r ⟨node, pos⟩ = true → p = r.fwd → 0 < r.len → link = pos % r.len →
      s.dev.fab.broken.contains link = false →
    ∃ t, exec (.linkState p ⟨node, pos⟩ port false) s = .next t ∧
      t.dev.fab = { s.dev.fab with broken := s.dev.fab.broken ++ [link] } ∧
      t.get F.RHL_CNT_HEALS = Nat.min 65535 (s.get F.RHL_CNT_HEALS + 1) ∧
      s.sameRegs t (R.RHL_CNT.addr 0 0 :: (List.range 32).map (fun k => R.RHL_ROUTE.addr 0 k) ++ ringRegs devRing) ∧
      s.sameMemButNext t devRing) ∧
  (∀ (s : State) (p : Fin 3) (node pos port : Nat) (r : RingInfo),
      s.work.fabRuns = true → s.work.fabState = fsJoined → s.dev.fab.ring = some r → ringHas r p = true →
      ringReports r ⟨node, pos⟩ = true → p = r.fwd → 0 < r.len →
    ∃ t, exec (.linkState p ⟨node, pos⟩ port true) s = .next t ∧
      t.dev.fab = s.dev.fab ∧ t.dev.sent = [] ∧ s.sameRegs t [] ∧ t.mem = s.mem)

/-- TIME frames (R348, R349), data sets published and received (R351), and wrapped commands and their responses (R353,
R308). -/
def Obligations.FabricTimeAndData : Prop :=
  (∀ (s : State) (count per : Nat) (err : Int),
      s.work.fabRuns = true → s.work.fabState = fsJoined → s.get F.SYS_TICK_CFG_LOCK_SRC = 1 →
      s.work.lockState = lkLocked → s.dev.lock.everLocked = true → err.natAbs ≤ 2000 →
    ∃ t, exec (.time count per err) s = .next t ∧
      t.get F.RHL_TIME_OFFSET_NS = unsigned 16 err ∧ t.dev.lock.corr = roundOpen err 5 ∧
      t.get F.SYS_TICK_STAT_LOCK_STATE = lkLocked ∧ t.dev.lock.adopt = s.dev.lock.adopt ∧
      s.sameRegs t [R.RHL_TIME.addr 0 0, R.SYS_TICK_STAT.addr 0 0] ∧ t.mem = s.mem) ∧
  (∀ (s : State) (count per : Nat) (err : Int),
      s.work.fabRuns = true → s.work.fabState = fsJoined → s.get F.SYS_TICK_CFG_LOCK_SRC = 1 →
      s.work.lockState = lkAcquire → s.dev.lock.everLocked = false → s.dev.lock.inRow = 15 → err.natAbs ≤ 100 →
      s.work.ratioOk (1000 * per) = true →
    ∃ t, exec (.time count per err) s = .next t ∧
      t.get F.SYS_TICK_STAT_LOCK_STATE = lkLocked ∧ t.dev.lock.everLocked = true ∧
      t.dev.lock.adopt = some ((count + 1) % 2 ^ 48) ∧
      s.sameRegs t (R.RHL_TIME.addr 0 0 :: R.SYS_TICK_STAT.addr 0 0 :: ringRegs devRing) ∧ s.sameMemButNext t devRing) ∧
  (∀ (s : State) (count per : Nat) (err : Int),
      s.work.fabRuns = true → s.work.fabState = fsJoined → s.get F.SYS_TICK_CFG_LOCK_SRC = 1 →
      s.work.lockState = lkLocked → s.dev.lock.everLocked = false → err.natAbs ≤ 2000 →
    ∃ t, exec (.time count per err) s = .next t ∧
      t.get F.SYS_TICK_STAT_LOCK_STATE = lkLocked ∧ t.dev.lock.everLocked = true ∧
      t.dev.lock.adopt = some ((count + 1) % 2 ^ 48) ∧ s.sameRegs t [R.RHL_TIME.addr 0 0, R.SYS_TICK_STAT.addr 0 0] ∧
      t.mem = s.mem) ∧
  (∀ (s : State) (count per : Nat) (err : Int) (k : Shake),
      s.work.fabRuns = true → s.work.fabState = fsJoining → s.get F.SYS_TICK_CFG_LOCK_SRC = 1 →
      s.work.pairTime = false → s.dev.fab.shakes = [k] → per ≠ s.work.periodUs →
    ∃ t, exec (.time count per err) s = .next t ∧
      t.get F.RHL_STAT_STATE = fsUnjoined ∧ t.get F.RHL_STAT_REASON = 2 ∧ t.get F.RHL_STAT_ADDR_ACT = 0 ∧
      t.dev.fab.shakes = []) ∧
  (∀ (s : State) (k : Fin 64) (id seq : Nat) (d : List Byte),
      s.work.joined = true → s.work.fabRuns = true → s.dev.fab.published = false → s.flag F.RHL_PUB_A_EN 0 k = true →
      s.dev.tick % Nat.max 1 (s.get F.RHL_PUB_B_PUB_TICKS 0 k) = 0 →
      (∀ j : Fin 64, j ≠ k → s.flag F.RHL_PUB_A_EN 0 j = false) → id = s.get F.RHL_PUB_A_SET_ID 0 k →
      seq = (tabGet s.dev.fab.pubSeq 0 k + 1) % 65536 → d = s.work.pubData k →
      (∀ ch : Fin 8, (s.work.bindings ch).any (fun b => b.fits 2 0 id) = false) →
    ∃ t, exec (.dataSetPublish) s = .next t ∧
      t.dev.sent = s.work.castSent 0x20 (s.get F.RHL_PUB_B_DEST 0 k) (!s.flag F.RHL_PUB_A_URGENT 0 k).toNat (leBytes 2 id ++ leBytes 2 seq ++ d) ∧
      t.dev.fab.published = true ∧ tabGet t.dev.fab.pubSeq 0 k = seq ∧
      t.dev.fab.lastData = s.dev.fab.lastData.filter (fun x => x.1 != id) ++ [(id, d)] ∧ s.sameRegs t [] ∧
      t.mem = s.mem) ∧
  (∀ (s : State) (src id seq : Nat) (data : List Byte) (ch : Fin 8) (old : Option (Nat × Nat)),
      s.work.joined = true → s.work.fabRuns = true → (∀ j : Fin 64, s.flag F.RHL_PUB_A_EN 0 j = false) →
      old = tabFind s.dev.fab.seqs id → (∀ x ∈ old, x.2 = src ∧ newer16 seq x.1 = true) →
      (s.work.bindings ch).any (fun b => b.fits 2 0 id) = true → s.work.mashIsolated ch = false →
      (s.chan ch).mash.queue.length < 256 → (s.chan ch).mash.waiting = [] →
    ∃ t, exec (.dataSet src id seq data) s = .next t ∧
      tabFind t.dev.fab.seqs id = some (seq, src) ∧
      t.dev.fab.lastData = s.dev.fab.lastData.filter (fun x => x.1 != id) ++ [(id, data)] ∧
      (t.chan ch).mash.queue = (s.chan ch).mash.queue ++ [⟨.area 2 0 id data, .fabric src, none, some (s.chan ch).seq.started, none, false⟩] ∧
      s.sameRegs t ((List.range 8).map (fun n => [R.CTL_STAT.addr n 0, R.MASH_STAT.addr n 0, R.MASH_ERR.addr n 0])).flatten ∧
      t.mem = s.mem) ∧
  (∀ (s : State) (src id seq : Nat) (data : List Byte) (last : Nat),
      s.work.joined = true → s.work.fabRuns = true → (∀ j : Fin 64, s.flag F.RHL_PUB_A_EN 0 j = false) →
      tabFind s.dev.fab.seqs id = some (last, src) → newer16 seq last = false →
    ∃ t, exec (.dataSet src id seq data) s = .next t ∧
      t.dev.fab = s.dev.fab ∧ t.dev.ch = s.dev.ch ∧ s.sameRegs t [] ∧ t.mem = s.mem) ∧
  (∀ (s : State) (src id seq : Nat) (data : List Byte) (last pub : Nat),
      s.work.joined = true → s.work.fabRuns = true → tabFind s.dev.fab.seqs id = some (last, pub) → pub ≠ src →
    ∃ t, exec (.dataSet src id seq data) s = .next t ∧
      t.flag F.RHL_ERR_SET_CONFLICT = true ∧ t.dev.fab = s.dev.fab ∧ t.dev.ch = s.dev.ch ∧
      s.sameRegs t (R.RHL_ERR.addr 0 0 :: ringRegs devRing) ∧ s.sameMemButNext t devRing) ∧
  (∀ (s : State) (src tag itag : Nat),
      s.work.wrapServes src = true → s.dev.fab.wrapRun = none → s.work.pwrState = 0 → s.dev.fab.wrapQ = [] →
      s.work.modeAdmits 0x7F = true →
    ∃ t, exec (.wrapReq src tag false false 0x7F itag []) s = .next t ∧
      t.dev.sent = s.work.castSent 0x31 src 1 (leBytes 2 tag ++ respBytes s.work ⟨0x7F, itag, stOk, [], false, false⟩ ((s.dev.fab.port.rseq + 1) % 65536) true false) ∧
      t.dev.fab.wrapQ = [] ∧ t.dev.fab.wrapRun = none ∧ t.dev.fab.port.rseq = (s.dev.fab.port.rseq + 1) % 65536 ∧
      s.sameRegs t [] ∧ t.mem = s.mem) ∧
  (∀ (s : State) (src tag itag : Nat) (bcast : Bool),
      s.work.wrapServes src = true → s.dev.fab.wrapRun = none → s.work.pwrState = 0 → s.work.joined = true →
      s.dev.fab.wrapQ = [] → s.work.modeAdmits 0x7F = true →
    ∃ t, exec (.wrapReq src tag true bcast 0x7F itag []) s = .next t ∧
      t.dev.sent = [] ∧ t.dev.fab.wrapRun = none ∧ t.dev.fab.port.resp = ⟨0x7F, itag, stOk, [], false, false⟩ ∧
      s.sameRegs t [] ∧ t.mem = s.mem) ∧
  (∀ (s : State) (src tag itag : Nat) (op : Nat) (pl : List Byte) (r : WrapReq),
      s.work.wrapServes src = true → s.dev.fab.wrapRun = some r → s.dev.fab.wrapQ.length < 8 →
    ∃ t, exec (.wrapReq src tag false false op itag pl) s = .next t ∧
      t.dev.fab = { s.dev.fab with wrapQ := s.dev.fab.wrapQ ++ [⟨src, tag, false, op, itag, pl⟩] } ∧
      t.dev.sent = [] ∧ s.sameRegs t [] ∧ t.mem = s.mem) ∧
  (∀ (s : State) (src tag itag : Nat) (op : Nat) (pl : List Byte),
      s.work.wrapServes src = true → 8 ≤ s.dev.fab.wrapQ.length →
    ∃ t, exec (.wrapReq src tag false false op itag pl) s = .next t ∧
      t.dev.sent = s.work.castSent 0x31 src 1 (leBytes 2 tag ++ respBytes s.work ⟨op, itag, stBusy, [], false, false⟩ ((s.dev.fab.port.rseq + 1) % 65536) true false) ∧
      t.dev.fab.wrapQ = s.dev.fab.wrapQ ∧ s.sameRegs t [] ∧ t.mem = s.mem) ∧
  (∀ (s : State) (src tag : Nat) (rsp : List Byte) (x : WrapWait) (f : Flight),
      s.dev.host.wraps.find? (fun y => y.tag == tag) = some x → x.who = .host → s.dev.host.port.flight = some f →
      f.late = false →
    ∃ t, exec (.wrapRsp src tag rsp) s = .next t ∧
      s.hostAnswered t f.op f.tag stOk rsp ∧ t.dev.host.wraps = s.dev.host.wraps.filter (fun y => y.tag != tag) ∧
      s.sameRegs t hostRegs ∧ t.mem = s.mem)

/-- The pair link: LEAD claimed (R366), HELLO and CH_ID sent and received (R358 to R360), heartbeats sent, received and
missed (R359, R367). -/
def Obligations.PairIdentityAndHeartbeats : Prop :=
  (∀ (s : State),
      s.work.pairOn = true → s.work.lead = false →
    ∃ t, exec (.pairOwnClaim) s = .next t ∧
      t.flag F.PAIR_STAT_LEAD = true ∧
      t.dev.pair = { s.dev.pair with leadOut := false, takeover := union s.dev.pair.takeover (without (if s.work.pairUp then without s.work.pairMask s.dev.pair.partner.drive else s.work.pairMask) s.work.activeMask) } ∧
      t.get F.PAIR_STAT_ACTIVE = s.get F.PAIR_STAT_ACTIVE ∧ s.sameRegs t (R.PAIR_STAT.addr 0 0 :: ringRegs devRing) ∧
      s.sameMemButNext t devRing) ∧
  (∀ (s : State),
      s.work.pairOn = true → s.dev.pair.auth = .passed → (s.dev.tick % 1024 = 0 ∨ s.work.pairUp = false) →
    ∃ t, exec (.helloSend) s = .next t ∧
      t.dev.sent.all (fun m => m.via == 1 && decide (m.bytes.length ≤ 64) && ((m.kind == 0x40 && m.dest == 0) || (m.kind == 0x41 && (maskList s.work.pairMask 8).contains m.dest))) = true ∧
      t.dev.sent.any (fun m => m.kind == 0x40) = true ∧
      (∀ n : Fin 8, s.work.paired n = true → t.dev.sent.any (fun m => m.kind == 0x41 && m.dest == n.val) = true) ∧
      s.sameRegs t [] ∧ t.mem = s.mem) ∧
  (∀ (s : State) (uid role mask serial : Nat),
      s.work.pairOn = true → s.dev.pair.auth = .passed → role ≠ 0 → uid = s.work.partnerUid →
      s.flag F.PAIR_STAT_LINK = false → mask = s.work.pairMask → serial = s.get F.SYS_IMG_SERIAL_SERIAL →
    ∃ t, exec (.hello uid role mask serial) s = .next t ∧
      t.flag F.PAIR_STAT_LINK = true ∧
      t.dev.pair = { s.dev.pair with missed := 0, partner := { s.dev.pair.partner with uid := uid, mask := mask, serial := serial } } ∧
      s.sameRegs t (R.PAIR_STAT.addr 0 0 :: ringRegs devRing) ∧ s.sameMemButNext t devRing) ∧
  (∀ (s : State) (uid role mask serial : Nat),
      s.work.pairOn = true → s.dev.pair.auth = .passed → role ≠ 0 → uid = s.work.partnerUid →
      s.flag F.PAIR_STAT_LINK = true → (mask ≠ s.work.pairMask ∨ serial ≠ s.get F.SYS_IMG_SERIAL_SERIAL) →
    ∃ t, exec (.hello uid role mask serial) s = .next t ∧
      t.flag F.PAIR_ERR_MISMATCH = true ∧ t.dev.pair.partner.mask = mask ∧ t.dev.pair.partner.serial = serial ∧
      (∀ n : Fin 8, bitOf (t.get F.PAIR_STAT_READY) n = true → t.work.readyNow n = true) ∧
      s.sameRegs t (R.PAIR_STAT.addr 0 0 :: R.PAIR_ERR.addr 0 0 :: ringRegs devRing) ∧ s.sameMemButNext t devRing) ∧
  (∀ (s : State) (ch : Fin 8) (ser crc : Nat),
      s.work.pairUp = true → s.work.paired ch = true →
    ∃ t, exec (.chId ch ser crc) s = .next t ∧
      tabFind t.dev.pair.partner.chIds ch = some (ser, crc) ∧
      (crc ≠ (s.chan ch).structCrc → t.flag F.PAIR_ERR_MISMATCH = true) ∧
      (crc = (s.chan ch).structCrc → s.sameRegs t [R.PAIR_STAT.addr 0 0] ∧ t.mem = s.mem) ∧
      s.sameRegs t (R.PAIR_STAT.addr 0 0 :: R.PAIR_ERR.addr 0 0 :: ringRegs devRing) ∧ s.sameMemButNext t devRing) ∧
  (∀ (s : State),
      s.work.pairOn = true →
    ∃ t, exec (.heartbeatSend) s = .next t ∧
      t.dev.sent = pairRecords 0x42 0 [s.dev.tick % 65536, s.dev.pair.partner.tick, s.work.activeMask, s.get F.PAIR_STAT_READY, s.work.lead.toNat, s.dev.pair.shadow.toNat] ∧
      t.dev.pair = { s.dev.pair with shadow := false } ∧ s.sameRegs t [] ∧ t.mem = s.mem) ∧
  (∀ (s : State) (tick echo drive ready : Nat) (lead : Bool),
      s.work.pairUp = true → s.dev.pair.hbJudged = false → tick % 65536 = s.dev.tick % 65536 → s.work.lead = false →
      echo % 65536 = (s.dev.tick + 65535) % 65536 →
    ∃ t, exec (.heartbeat tick echo drive ready lead false) s = .next t ∧
      t.dev.pair = { s.dev.pair with hbJudged := true, heard := true, warm := s.get F.PAIR_STAT_READY, missed := 0, partner := { s.dev.pair.partner with drive := drive, ready := ready, lead := lead, tick := tick % 65536 } } ∧
      s.sameRegs t [] ∧ t.mem = s.mem) ∧
  (∀ (s : State) (tick echo drive ready : Nat) (lead : Bool),
      s.work.pairUp = true → s.dev.pair.hbJudged = false → tick % 65536 = s.dev.tick % 65536 → s.work.lead = false →
      echo % 65536 ≠ (s.dev.tick + 65535) % 65536 →
    ∃ t, exec (.heartbeat tick echo drive ready lead false) s = .next t ∧
      t.dev.pair = { s.dev.pair with hbJudged := true, heard := true, warm := s.get F.PAIR_STAT_READY, missed := 0, partner := { s.dev.pair.partner with drive := drive, ready := ready, lead := lead, tick := tick % 65536 }, release := union s.dev.pair.release s.work.activeMask } ∧
      s.sameRegs t [] ∧ t.mem = s.mem) ∧
  (∀ (s : State) (tick echo drive ready : Nat) (lead : Bool),
      s.work.pairUp = true → s.dev.pair.hbJudged = false → tick % 65536 = s.dev.tick % 65536 → s.work.lead = true →
    ∃ t, exec (.heartbeat tick echo drive ready lead false) s = .next t ∧
      t.dev.pair = { s.dev.pair with hbJudged := true, heard := true, warm := s.get F.PAIR_STAT_READY, missed := 0, partner := { s.dev.pair.partner with drive := drive, ready := ready, lead := lead, tick := tick % 65536 }, takeover := union s.dev.pair.takeover (without (without (without s.work.pairMask drive) s.dev.pair.releaseNext) s.work.activeMask) } ∧
      s.sameRegs t [] ∧ t.mem = s.mem) ∧
  (∀ (s : State),
      s.work.pairUp = true → s.dev.pair.hbJudged = false → s.dev.pair.missed = 0 →
    ∃ t, exec (.heartbeatMissed) s = .next t ∧
      t.flag F.PAIR_ERR_HB_MISS = true ∧
      t.get F.PAIR_CNT_HB_MISSED = Nat.min 65535 (s.get F.PAIR_CNT_HB_MISSED + 1) ∧
      t.dev.pair = { s.dev.pair with hbJudged := true, missed := 1, release := if s.work.lead then s.dev.pair.release else union s.dev.pair.release s.work.activeMask } ∧
      t.flag F.PAIR_STAT_LINK = true ∧ s.sameRegs t [R.PAIR_ERR.addr 0 0, R.PAIR_CNT.addr 0 0] ∧ t.mem = s.mem) ∧
  (∀ (s : State),
      s.work.pairUp = true → s.dev.pair.hbJudged = false → 1 ≤ s.dev.pair.missed →
    ∃ t, exec (.heartbeatMissed) s = .next t ∧
      t.flag F.PAIR_STAT_LINK = false ∧ t.flag F.PAIR_ERR_LINK_LOST = true ∧ t.get F.PAIR_STAT_READY = 0 ∧
      (s.work.lead = true → t.dev.pair.takeover = union s.dev.pair.takeover (without s.work.pairMask s.work.activeMask)) ∧
      (s.work.lead = false → t.dev.pair.release = union (union s.dev.pair.release s.work.activeMask) s.work.activeMask) ∧
      s.sameRegs t (R.PAIR_STAT.addr 0 0 :: R.PAIR_ERR.addr 0 0 :: R.PAIR_CNT.addr 0 0 :: ringRegs devRing) ∧
      s.sameMemButNext t devRing)

/-- The standby's copy: commits, cuts, state deltas and resyncs (R358, R361 to R363), handovers (R368), frames forwarded
to the partner (R371), and what a shadow capture shows (R364). The layouts of these frames are the model's own
record (log entry 6). -/
def Obligations.PairCopyAndHandover : Prop :=
  (∀ (s : State) (ch : Fin 8) (item : PairItem),
      s.work.follows ch = true →
    ∃ t, exec (.commit ch item) s = .next t ∧
      t.dev.pair = { s.dev.pair with open_ := s.dev.pair.open_ ++ [(ch.val, item)] } ∧ t.chan ch = s.chan ch ∧
      s.sameRegs t [] ∧ t.mem = s.mem) ∧
  (∀ (s : State) (ch : Fin 8) (mine : List (Nat × PairItem)),
      s.work.follows ch = true → mine = s.dev.pair.open_.filter (fun x => x.1 == ch.val) →
    ∃ t, exec (.cut ch mine.length (crc32 ((mine.map (fun x => Config.pairItemBytes x.2)).flatten))) s = .next t ∧
      t.dev.pair = { s.dev.pair with open_ := s.dev.pair.open_.filter (fun x => x.1 != ch.val), cutGot := setBit s.dev.pair.cutGot ch true, closed := s.dev.pair.closed ++ mine } ∧
      s.sameRegs t [] ∧ t.mem = s.mem) ∧
  (∀ (s : State) (ch : Fin 8) (mine : List (Nat × PairItem)) (count crc : Nat),
      s.work.follows ch = true → mine = s.dev.pair.open_.filter (fun x => x.1 == ch.val) → count ≠ mine.length →
    ∃ t, exec (.cut ch count crc) s = .next t ∧
      t.dev.pair.closed = s.dev.pair.closed ∧ t.dev.pair.open_ = s.dev.pair.open_.filter (fun x => x.1 != ch.val) ∧
      bitOf t.dev.pair.desync ch = true ∧ bitOf t.dev.pair.synced ch = false ∧
      bitOf (t.get F.PAIR_STAT_READY) ch = false ∧ t.flag F.PAIR_ERR_DESYNC = true ∧
      t.dev.sent = pairRecords 0x46 0 [2 ^ ch.val] ∧
      s.sameRegs t (R.PAIR_STAT.addr 0 0 :: R.PAIR_ERR.addr 0 0 :: ringRegs devRing) ∧ s.sameMemButNext t devRing) ∧
  (∀ (s : State),
      s.work.pairUp = true →
    ∃ t, exec (.stateSend) s = .next t ∧
      t.dev.sent.all (fun m => m.via == 1 && m.kind == 0x45 && decide (m.bytes.length ≤ 64) && s.work.pairActive m.dest) = true ∧
      (∀ n : Fin 8, s.work.paired n = true → s.work.pairActive n = true → t.dev.sent.any (fun m => m.dest == n.val) = true) ∧
      (∀ n : Fin 8, s.work.paired n = true → s.work.pairActive n = true → tabGet t.dev.pair.sentNext 0 n = s.work.ringNext n) ∧
      s.sameRegs t [] ∧ t.mem = s.mem) ∧
  (∀ (s : State) (ch : Fin 8) (d : PairDelta) (digest : Nat),
      s.work.follows ch = true → s.work.sameImage ch = true → (s.work.ring ch).place < s.work.ringDepth ch →
      bitOf s.dev.pair.synced ch = false → tabGet s.dev.pair.scanAt 0 ch = s.get F.GRIST_STAT_SCAN ch + 1 →
    ∃ t, exec (.state ch d digest) s = .next t ∧
      t.work.ringOldest ch = d.oldest % 65536 ∧ (t.chan ch).led.est = d.gov.2 ∧ (t.chan ch).led.prevAvg = d.govAvg ∧
      (t.chan ch).integ.failedBy = d.failedBy ∧ (t.chan ch).integ.inForce = d.policies ∧
      (t.chan ch).integ.recheck = d.recheck.foldl (fun t x => tabInsert t x.1 x.2) [] ∧
      (t.chan ch).lamp.heldOff = d.fnOff.filterMap (fun x => (s.work.fnById ch x.1).map (fun f => (f, x.2))) ∧
      (t.chan ch).lamp.est = d.swGov.2 ∧ (t.chan ch).lamp.ufFailed = d.tapFailed ∧
      bitOf t.dev.pair.stateGot ch = true ∧ t.dev.sent = [] ∧ (∀ n : Fin 8, n ≠ ch → t.chan n = s.chan n) ∧
      s.sameBytesBut t (s.work.ringBase ch) (16 * s.work.ringDepth ch)) ∧
  (∀ (s : State) (ch : Fin 8) (p : PairPiece),
      s.work.follows ch = true → s.work.sameImage ch = true → (s.work.ring ch).place < s.work.ringDepth ch →
      p.image = [] → p.back = [] → p.items = [] →
    ∃ t, exec (.resync ch p false) s = .next t ∧
      t.work.ringOldest ch = p.delta.oldest % 65536 ∧ (t.chan ch).led.est = p.delta.gov.2 ∧
      (t.chan ch).led.prevAvg = p.delta.govAvg ∧ (t.chan ch).integ.failedBy = p.delta.failedBy ∧
      (t.chan ch).integ.inForce = p.delta.policies ∧
      (t.chan ch).integ.recheck = p.delta.recheck.foldl (fun t x => tabInsert t x.1 x.2) [] ∧
      (t.chan ch).lamp.heldOff = p.delta.fnOff.filterMap (fun x => (s.work.fnById ch x.1).map (fun f => (f, x.2))) ∧
      (t.chan ch).lamp.est = p.delta.swGov.2 ∧ (t.chan ch).lamp.ufFailed = p.delta.tapFailed ∧
      t.dev.pair = s.dev.pair ∧ t.dev.sent = [] ∧ (∀ n : Fin 8, n ≠ ch → t.chan n = s.chan n) ∧
      s.sameBytesBut t (s.work.ringBase ch) (16 * s.work.ringDepth ch)) ∧
  (∀ (s : State) (ch : Fin 8) (p : PairPiece),
      s.work.follows ch = true →
    ∃ t, exec (.resync ch p true) s = .next t ∧
      t.dev.pair = { s.dev.pair with synced := setBit s.dev.pair.synced ch true, desync := setBit s.dev.pair.desync ch false, asked := setBit s.dev.pair.asked ch false } ∧
      t.dev.sent = [] ∧ (∀ n : Fin 8, n ≠ ch → t.chan n = s.chan n)) ∧
  (∀ (s : State) (ch : Fin 8) (d : PairDelta) (digest : Nat),
      s.work.follows ch = true → s.work.sameImage ch = false → bitOf s.dev.pair.synced ch = false →
    ∃ t, exec (.state ch d digest) s = .next t ∧
      t.work.ringOldest ch = d.oldest % 65536 ∧
      (t.chan ch).lamp.heldOff = d.fnOff.filterMap (fun x => (s.work.fnById ch x.1).map (fun f => (f, x.2))) ∧
      (t.chan ch).led = (s.chan ch).led ∧ (t.chan ch).kiln = (s.chan ch).kiln ∧
      (t.chan ch).integ = (s.chan ch).integ ∧ (t.chan ch).tap = (s.chan ch).tap ∧
      bitOf t.dev.pair.stateGot ch = true ∧ t.dev.sent = [] ∧ (∀ n : Fin 8, n ≠ ch → t.chan n = s.chan n)) ∧
  (∀ (s : State) (mask : Nat),
      s.work.pairUp = true →
    ∃ t, exec (.resyncReq mask) s = .next t ∧
      t.dev.sent.all (fun m => m.via == 1 && m.kind == 0x47 && decide (m.bytes.length ≤ 64) && bitOf mask m.dest && s.work.pairActive m.dest) = true ∧
      (∀ n : Fin 8, bitOf mask n = true → s.work.pairActive n = true → t.dev.sent.any (fun m => m.dest == n.val) = true ∧ tabGet t.dev.pair.sentNext 0 n = s.work.ringNext n) ∧
      t.dev.pair = { s.dev.pair with sentNext := t.dev.pair.sentNext } ∧ s.sameRegs t [] ∧ t.mem = s.mem) ∧
  (∀ (s : State) (mask b : Nat) (lead : Bool),
      s.work.pairUp = true →
    ∃ t, exec (.handover mask lead b) s = .next t ∧
      t.dev.pair = { s.dev.pair with hand := s.dev.pair.hand ++ [(mask, lead, b)] } ∧
      s.sameRegs t (ringRegs devRing) ∧ s.sameMemButNext t devRing) ∧
  (∀ (s : State) (src flags last : Nat) (pl : List Byte) (id seq : Nat),
      s.work.pairUp = true → s.work.joined = true → s.work.fabRuns = true → id = halfAt pl 0 % 4096 →
      seq = halfAt pl 2 → (∀ j : Fin 64, s.flag F.RHL_PUB_A_EN 0 j = false) →
      tabFind s.dev.fab.seqs id = some (last, src) → newer16 seq last = true →
      (∀ ch : Fin 8, (s.work.bindings ch).any (fun b => b.fits 2 0 id) = false) →
    ∃ t, exec (.fwd s.work.ownAddr src 0x20 flags pl) s = .next t ∧
      tabFind t.dev.fab.seqs id = some (seq, src) ∧
      t.dev.fab.lastData = s.dev.fab.lastData.filter (fun x => x.1 != id) ++ [(id, pl.drop 4)] ∧ s.sameRegs t [] ∧
      t.mem = s.mem) ∧
  (∀ (s : State) (src flags : Nat) (pl : List Byte) (x : WrapWait) (f : Flight),
      s.work.pairUp = true → s.dev.host.wraps.find? (fun y => y.tag == halfAt pl 0) = some x → x.who = .host →
      s.dev.host.port.flight = some f → f.late = false →
    ∃ t, exec (.fwd s.work.ownAddr src 0x31 flags pl) s = .next t ∧
      s.hostAnswered t f.op f.tag stOk (pl.drop 2) ∧ s.sameRegs t hostRegs ∧ t.mem = s.mem) ∧
  (∀ (s : State) (o : Origin) (v : Word) (m : Nat) (lead : Bool),
      s.accepts (R.PAIR_HAND.addr 0 0) v.toNat = true → m = v.toNat % 256 → maskList m 8 ≠ [] →
      (maskList m 8).all (fun n => !(s.chan n).cutPassed) = true →
      lead = (s.work.lead && decide (without s.work.activeMask m &&& s.work.pairMask = 0)) →
    ∃ t, exec (.pairHand o v) s = .next t ∧
      t.dev.pair.release = union s.dev.pair.release m ∧ t.dev.pair.releaseNext = s.dev.pair.releaseNext ∧
      t.dev.pair.leadOut = (s.dev.pair.leadOut || lead) ∧
      t.dev.sent = pairRecords 0x48 0 [m, lead.toNat, (s.dev.tick + 1) % 2 ^ 32] ∧
      t.get F.PAIR_STAT_ACTIVE = s.get F.PAIR_STAT_ACTIVE ∧ s.sameRegs t (ringRegs devRing) ∧
      s.sameMemButNext t devRing) ∧
  (∀ (s : State) (ch : Fin 8) (x : SlotRun) (m code mv : Nat) (rest : List Nat),
      (s.chan ch).seq.cur = some x → x.kind = kDisplay → s.work.paired ch = true → (s.chan ch).standby = true →
      s.work.pairOn = true → s.work.shadowLines ch = m :: rest → s.work.shadowOk ch m mv = true →
    ∃ t, exec (.shadowCapture ch [(code, mv)]) s = .next t ∧
      t.dev.pair.shadow = s.dev.pair.shadow ∧ tabGet t.dev.pair.shadowCnt 0 (128 * ch + m) = 0 ∧
      tabGet t.dev.pair.shadowAt 0 ch = tabGet s.dev.pair.shadowAt 0 ch + 16 ∧ s.sameRegs t [] ∧ t.mem = s.mem) ∧
  (∀ (s : State) (ch : Fin 8) (x : SlotRun) (m code mv : Nat) (rest : List Nat),
      (s.chan ch).seq.cur = some x → x.kind = kDisplay → s.work.paired ch = true → (s.chan ch).standby = true →
      s.work.pairOn = true → s.work.shadowLines ch = m :: rest → s.work.shadowOk ch m mv = false →
      tabGet s.dev.pair.shadowCnt 0 (128 * ch + m) = 1 → m < 128 →
    ∃ t, exec (.shadowCapture ch [(code, mv)]) s = .next t ∧
      t.dev.pair.shadow = true ∧ t.flag F.PAIR_ERR_SHADOW = true ∧ t.get F.PAIR_SHADOW_CODE = code % 4096 ∧
      t.get F.PAIR_SHADOW_LINE = m ∧ t.get F.PAIR_SHADOW_CHANNEL = ch ∧
      tabGet t.dev.pair.shadowCnt 0 (128 * ch + m) = 2 ∧
      s.sameRegs t (R.PAIR_SHADOW.addr 0 0 :: R.PAIR_ERR.addr 0 0 :: ringRegs devRing) ∧ s.sameMemButNext t devRing) ∧
  (∀ (s : State) (ch : Fin 8) (x : SlotRun) (m code mv : Nat) (rest : List Nat),
      (s.chan ch).seq.cur = some x → x.kind = kDisplay → s.work.paired ch = true → (s.chan ch).standby = true →
      s.work.pairOn = true → s.work.shadowLines ch = m :: rest → s.work.shadowOk ch m mv = false →
      tabGet s.dev.pair.shadowCnt 0 (128 * ch + m) = 0 →
    ∃ t, exec (.shadowCapture ch [(code, mv)]) s = .next t ∧
      t.dev.pair.shadow = s.dev.pair.shadow ∧ tabGet t.dev.pair.shadowCnt 0 (128 * ch + m) = 1 ∧ s.sameRegs t [] ∧
      t.mem = s.mem)

/-- One access to a bank (R375, R376, R379 to R382), the write-back of a corrected word (R375), CNT_CLR (R380), and
Steep's windows, results and restarts (R383 to R387). -/
def Obligations.MemoryAndSteep : Prop :=
  (∀ (s : State) (b addr wait : Nat) (m : Fin 16) (hit : Bool),
      masterMay b m = true → bankOf (addr / 4 * 4) = some b → s.work.bankFailed b = false →
      (hit = false ∨ b < 16 ∨ 24 ≤ b ∨ 8 ≤ m.val) →
    ∃ t, exec (.bankAccess b m addr wait 0 hit) s = .next t ∧
      t.get F.MEM_CNT_CYCLES 0 m = Nat.min (2 ^ 32 - 1) (s.get F.MEM_CNT_CYCLES 0 m + wait + (s.work.borrowed (addr / 4 * 4)).toNat) ∧
      t.dev.memsys = { s.dev.memsys with rr := tabInsert s.dev.memsys.rr b m } ∧ s.sameRegs t [R.MEM_CNT.addr 0 m] ∧
      t.mem = s.mem) ∧
  (∀ (s : State) (b addr wait : Nat) (m : Fin 16),
      masterMay b m = true → bankOf (addr / 4 * 4) = some b → s.work.bankFailed b = false → 16 ≤ b → b < 24 →
      m.val < 8 → s.flag F.MEM_COLLIDE_COLLIDE = false →
    ∃ t, exec (.bankAccess b m addr wait 0 true) s = .next t ∧
      t.get F.MEM_CNT_CYCLES 0 m = Nat.min (2 ^ 32 - 1) (s.get F.MEM_CNT_CYCLES 0 m + wait + (s.work.borrowed (addr / 4 * 4)).toNat + 1) ∧
      t.flag F.MEM_COLLIDE_COLLIDE = true ∧ t.get F.MEM_COLLIDE_OFFSET = addr / 4 * 4 - 0x01000000 ∧
      s.sameRegs t [R.MEM_CNT.addr 0 m, R.MEM_COLLIDE.addr 0 0] ∧ t.mem = s.mem) ∧
  (∀ (s : State) (b addr wait : Nat) (m : Fin 16),
      masterMay b m = true → bankOf (addr / 4 * 4) = some b → s.work.bankFailed b = false →
    ∃ t, exec (.bankAccess b m addr wait 1 false) s = .next t ∧
      t.get F.MEM_ECC_CORR 0 b = Nat.min 65535 (s.get F.MEM_ECC_CORR 0 b + 1) ∧ t.flag F.MEM_STAT_ECC_CORR = true ∧
      t.dev.memsys.writeback = s.dev.memsys.writeback ++ [(addr / 4 * 4, 0)] ∧
      s.work.bankFailed b = t.work.bankFailed b ∧
      s.sameRegs t (R.MEM_CNT.addr 0 m :: R.MEM_ECC.addr 0 b :: R.MEM_STAT.addr 0 0 :: ringRegs devRing) ∧
      s.sameMemButNext t devRing) ∧
  (∀ (s : State) (b addr wait : Nat) (m : Fin 16),
      masterMay b m = true → bankOf (addr / 4 * 4) = some b → s.work.bankFailed b = false → b < 16 →
    ∃ t, exec (.bankAccess b m addr wait 2 false) s = .next t ∧
      t.get F.MEM_ECC_UNCORR 0 b = Nat.min 255 (s.get F.MEM_ECC_UNCORR 0 b + 1) ∧
      t.flag F.MEM_STAT_ECC_UNCORR = true ∧ bitOf (t.get F.MEM_FAILED_FAILED) b = true ∧
      s.sameRegs t ([R.MEM_CNT.addr 0 m, R.MEM_ECC.addr 0 b, R.MEM_STAT.addr 0 0, R.MEM_FAILED.addr 0 0] ++ ringRegs devRing) ∧
      s.sameMemButNext t devRing) ∧
  (∀ (s : State) (b addr wait : Nat) (m : Fin 16) (ch : Fin 8),
      masterMay b m = true → bankOf (addr / 4 * 4) = some b → s.work.bankFailed b = false → b = 16 + ch.val →
      (s.chan ch).running = true → bitOf (s.get F.PAIR_STAT_ACTIVE) ch = true →
    ∃ t, exec (.bankAccess b m addr wait 2 false) s = .next t ∧
      bitOf (t.get F.MEM_FAILED_FAILED) b = true ∧ bitOf t.dev.pair.release ch = true ∧
      t.chan ch = (s.work.askQuiesce ch).chan ch ∧ s.sameMemButNext t devRing) ∧
  (∀ (s : State) (b addr wait : Nat) (m : Fin 16) (e : Fin 4),
      masterMay b m = true → bankOf (addr / 4 * 4) = some b → s.work.bankFailed b = false →
      (b = 24 + 2 * e.val ∨ b = 25 + 2 * e.val) →
    ∃ t, exec (.bankAccess b m addr wait 2 false) s = .next t ∧
      bitOf (t.get F.MEM_FAILED_FAILED) b = true ∧ bitOf (t.get F.TUN_CTL_RUNNING) e = false ∧
      t.get F.TUN_STAT_STATE 0 e = 0 ∧ (t.work.tunEng e).wdog = some false ∧ (t.work.tunEng e).port = Port.init) ∧
  (∀ (s : State) (b : Nat) (x : Nat × Nat),
      s.dev.memsys.writeback.find? (fun y => bankOf y.1 == some b) = some x →
    ∃ t, exec (.eccWriteback b) s = .next t ∧
      t.dev.memsys = { s.dev.memsys with writeback := s.dev.memsys.writeback.erase x } ∧ s.sameRegs t [] ∧
      t.mem = s.mem) ∧
  (∀ (s : State) (o : Origin) (v : Word),
      s.accepts (R.MEM_CTL.addr 0 0) v.toNat = true → bitOf v.toNat 0 = true →
    ∃ t, exec (.memCntClr o v) s = .next t ∧
      t.dev.memsys = { s.dev.memsys with cntClr := true } ∧ s.sameRegs t [] ∧ t.mem = s.mem) ∧
  (∀ (s : State) (i : Nat),
      s.work.steepRuns = true → s.flag F.STEEP_STAT_BORROWED = false →
      s.work.steepFrom s.dev.memsys.nextWin = some i → i < sweepEnd → s.work.paceDue = true →
    ∃ t, exec (.steepWindowStart) s = .next t ∧
      t.get F.STEEP_STAT_BANK = i / 512 ∧ t.get F.STEEP_STAT_WINDOW = i % 512 ∧ t.get F.STEEP_STAT_PHASE = 2 ∧
      t.flag F.STEEP_STAT_BORROWED = true ∧ t.dev.memsys.nextWin = i + 1 ∧ t.dev.memsys.dirty = false ∧
      t.dev.memsys.restarts = 0 ∧ s.sameRegs t [R.STEEP_STAT.addr 0 0] ∧ t.mem = s.mem) ∧
  (∀ (s : State),
      s.flag F.STEEP_STAT_BORROWED = true → s.dev.memsys.dirty = false →
      (s.work.steepFrom s.dev.memsys.nextWin).isSome = true →
    ∃ t, exec (.steepMarchEnd []) s = .next t ∧
      t.flag F.STEEP_STAT_BORROWED = false ∧ t.get F.STEEP_STAT_PHASE = 0 ∧ t.dev.memsys = s.dev.memsys ∧
      s.sameRegs t [R.STEEP_STAT.addr 0 0] ∧ t.mem = s.mem) ∧
  (∀ (s : State),
      s.flag F.STEEP_STAT_BORROWED = true → s.dev.memsys.dirty = false → s.work.steepFrom s.dev.memsys.nextWin = none →
    ∃ t, exec (.steepMarchEnd []) s = .next t ∧
      t.flag F.STEEP_STAT_BORROWED = false ∧
      t.get F.STEEP_CNT_SWEEPS = Nat.min 65535 (s.get F.STEEP_CNT_SWEEPS + 1) ∧
      t.dev.memsys = { s.dev.memsys with nextWin := 0 } ∧
      s.sameRegs t [R.STEEP_STAT.addr 0 0, R.STEEP_CNT.addr 0 0, R.STEEP_SKIP.addr 0 0] ∧ t.mem = s.mem) ∧
  (∀ (s : State) (k : Fin 64) (i : Fin 39),
      s.flag F.STEEP_STAT_BORROWED = true → s.dev.memsys.dirty = false →
      (s.work.steepFrom s.dev.memsys.nextWin).isSome = true →
      tabFind s.dev.memsys.hard (s.work.windowBase + 4 * k.val) = none →
    ∃ t, exec (.steepMarchEnd [(k, 2 ^ i.val)]) s = .next t ∧
      t.flag F.STEEP_ERR_HARD_BIT = true ∧ t.reg (R.STEEP_FAULT.addr 0 0) = s.work.windowBase + 4 * k.val ∧
      t.dev.memsys = { s.dev.memsys with hard := tabInsert s.dev.memsys.hard (s.work.windowBase + 4 * k.val) i } ∧
      t.get F.MEM_FAILED_FAILED = s.get F.MEM_FAILED_FAILED ∧
      s.sameRegs t (R.STEEP_STAT.addr 0 0 :: R.STEEP_ERR.addr 0 0 :: R.STEEP_FAULT.addr 0 0 :: ringRegs devRing) ∧
      s.sameMemButNext t devRing) ∧
  (∀ (s : State) (k : Fin 64) (i j : Fin 39) (b : Nat),
      s.flag F.STEEP_STAT_BORROWED = true → s.dev.memsys.dirty = false → i < j → b = s.get F.STEEP_STAT_BANK →
      b < 16 → s.work.bankFailed b = false →
    ∃ t, exec (.steepMarchEnd [(k, 2 ^ i.val + 2 ^ j.val)]) s = .next t ∧
      t.flag F.STEEP_ERR_FAIL = true ∧ t.reg (R.STEEP_FAULT.addr 0 0) = s.work.windowBase + 4 * k.val ∧
      bitOf (t.get F.MEM_FAILED_FAILED) b = true ∧ bitOf t.dev.memsys.steepFailed b = true ∧
      t.flag F.STEEP_STAT_BORROWED = false ∧
      s.sameRegs t ([R.STEEP_STAT.addr 0 0, R.STEEP_ERR.addr 0 0, R.STEEP_FAULT.addr 0 0, R.STEEP_CNT.addr 0 0, R.STEEP_SKIP.addr 0 0, R.MEM_ECC.addr 0 b, R.MEM_STAT.addr 0 0, R.MEM_FAILED.addr 0 0] ++ ringRegs devRing) ∧
      s.sameMemButNext t devRing) ∧
  (∀ (s : State),
      s.flag F.STEEP_STAT_BORROWED = true → s.dev.memsys.dirty = true → s.dev.memsys.restarts < 3 →
    ∃ t, exec (.steepRestart) s = .next t ∧
      t.get F.STEEP_CNT_RESTARTS = Nat.min 65535 (s.get F.STEEP_CNT_RESTARTS + 1) ∧
      t.dev.memsys = { s.dev.memsys with dirty := false, restarts := s.dev.memsys.restarts + 1 } ∧
      t.flag F.STEEP_STAT_BORROWED = true ∧ s.sameRegs t [R.STEEP_CNT.addr 0 0] ∧ t.mem = s.mem) ∧
  (∀ (s : State),
      s.flag F.STEEP_STAT_BORROWED = true → s.dev.memsys.dirty = true →
      (s.work.steepFrom s.dev.memsys.nextWin).isSome = true → 3 ≤ s.dev.memsys.restarts →
    ∃ t, exec (.steepRestart) s = .next t ∧
      t.get F.STEEP_CNT_RESTARTS = Nat.min 65535 (s.get F.STEEP_CNT_RESTARTS + 1) ∧
      t.get F.STEEP_SKIP_SKIPS = Nat.min 65535 (s.get F.STEEP_SKIP_SKIPS + 1) ∧ t.flag F.STEEP_ERR_SKIP = true ∧
      t.flag F.STEEP_STAT_BORROWED = false ∧
      s.sameRegs t ([R.STEEP_STAT.addr 0 0, R.STEEP_CNT.addr 0 0, R.STEEP_SKIP.addr 0 0, R.STEEP_ERR.addr 0 0] ++ ringRegs devRing) ∧
      s.sameMemButNext t devRing)

/-- The ten reset sources (R390, R391): the device is held, everything in the reset's reach is at its reset value, what
AON keeps it keeps (R403, R413, R420), and the sources are gathered. -/
def Obligations.DeviceResets : Prop :=
  (∀ (s : State),
    ∃ t, exec (.powerOnAonReset) s = .next t ∧
      t.dev.regs = [] ∧ t.dev.rst.hold = .held ∧
      t.dev.rst.src = (if s.work.relStep < 5 then setBit s.dev.rst.src 2 true else 4) ∧ t.dev.ch = Dev.init.ch ∧
      t.dev.tun = Dev.init.tun ∧ t.dev.sec = Sec.init ∧ t.dev.img.primary = s.dev.img.primary ∧
      t.dev.img.fallback = s.dev.img.fallback ∧ s.sameBytesBut t 0x03000000 0x2000 ∧
      (∀ k : Fin 0x2000, t.byte (0x03000000 + k.val) = 0)) ∧
  (∀ (s : State) (a b : Nat),
      aonReg a = false → a ∉ [R.PWR_STAT.addr 0 0, R.MEM_STAT.addr 0 0, R.SEC_STAT.addr 0 0] → aonReg b = true →
    ∃ t, exec (.powerOnReset) s = .next t ∧
      t.reg a = resetWord a ∧ t.reg b = s.reg b ∧ t.dev.rst.hold = .held ∧ t.dev.rst.faultN = true ∧
      t.dev.rst.src = (if s.work.relStep < 5 then setBit s.dev.rst.src 1 true else 2 ^ 1) ∧ t.dev.ch = Dev.init.ch ∧
      t.dev.tun = Dev.init.tun ∧ t.dev.sec.keys = s.dev.sec.keys ∧
      t.flag F.PWR_STAT_LATCHED = s.flag F.PWR_STAT_LATCHED ∧ t.dev.img.primary = s.dev.img.primary ∧ t.mem = s.mem ∧
      t.flag F.SEC_STAT_DEBUG_OPEN = false) ∧
  (∀ (s : State) (a b : Nat) (rail : Nat),
      aonReg a = false → a ∉ [R.PWR_STAT.addr 0 0, R.MEM_STAT.addr 0 0, R.SEC_STAT.addr 0 0] → aonReg b = true →
      s.dev.rst.hold ≠ .fault → 0 < rail → rail < 16 → s.get F.PWR_STAT_STATE ≠ 4 →
    ∃ t, exec (.brownOutReset rail) s = .next t ∧
      t.reg a = resetWord a ∧ t.reg b = s.reg b ∧ t.dev.rst.hold = .held ∧ t.dev.rst.faultN = true ∧
      t.dev.rst.src = (if s.work.relStep < 5 then setBit s.dev.rst.src 3 true else 2 ^ 3) ∧ t.dev.ch = Dev.init.ch ∧
      t.dev.tun = Dev.init.tun ∧ t.dev.sec.keys = s.dev.sec.keys ∧
      t.flag F.PWR_STAT_LATCHED = s.flag F.PWR_STAT_LATCHED ∧ t.dev.img.primary = s.dev.img.primary ∧ t.mem = s.mem ∧
      t.flag F.SEC_STAT_DEBUG_OPEN = s.flag F.SEC_STAT_DEBUG_OPEN ∧ (5 ≤ s.work.relStep → t.dev.rst.rail = rail)) ∧
  (∀ (s : State) (a b : Nat),
      aonReg a = false → a ∉ [R.PWR_STAT.addr 0 0, R.MEM_STAT.addr 0 0, R.SEC_STAT.addr 0 0] → aonReg b = true →
    ∃ t, exec (.pinReset) s = .next t ∧
      t.reg a = resetWord a ∧ t.reg b = s.reg b ∧ t.dev.rst.hold = .held ∧ t.dev.rst.faultN = true ∧
      t.dev.rst.src = (if s.work.relStep < 5 then setBit s.dev.rst.src 4 true else 2 ^ 4) ∧ t.dev.ch = Dev.init.ch ∧
      t.dev.tun = Dev.init.tun ∧ t.dev.sec.keys = s.dev.sec.keys ∧
      t.flag F.PWR_STAT_LATCHED = s.flag F.PWR_STAT_LATCHED ∧ t.dev.img.primary = s.dev.img.primary ∧ t.mem = s.mem ∧
      t.flag F.SEC_STAT_DEBUG_OPEN = false) ∧
  (∀ (s : State) (a b : Nat),
      aonReg a = false → a ∉ [R.PWR_STAT.addr 0 0, R.MEM_STAT.addr 0 0, R.SEC_STAT.addr 0 0] → aonReg b = true →
      s.dev.rst.hold ≠ .fault → 3 ≤ s.work.relStep →
    ∃ t, exec (.clockReset) s = .next t ∧
      t.reg a = resetWord a ∧ t.reg b = s.reg b ∧ t.dev.rst.hold = .held ∧ t.dev.rst.faultN = true ∧
      t.dev.rst.src = (if s.work.relStep < 5 then setBit s.dev.rst.src 8 true else 2 ^ 8) ∧ t.dev.ch = Dev.init.ch ∧
      t.dev.tun = Dev.init.tun ∧ t.dev.sec.keys = s.dev.sec.keys ∧
      t.flag F.PWR_STAT_LATCHED = s.flag F.PWR_STAT_LATCHED ∧ t.dev.img.primary = s.dev.img.primary ∧ t.mem = s.mem ∧
      t.flag F.SEC_STAT_DEBUG_OPEN = s.flag F.SEC_STAT_DEBUG_OPEN) ∧
  (∀ (s : State) (a b : Nat),
      aonReg a = false → a ∉ [R.PWR_STAT.addr 0 0, R.MEM_STAT.addr 0 0, R.SEC_STAT.addr 0 0] → aonReg b = true →
      s.dev.rst.hold ≠ .fault → s.get F.MEM_FAILED_FAILED % 65536 ≠ 0 →
    ∃ t, exec (.memFailReset) s = .next t ∧
      t.reg a = resetWord a ∧ t.reg b = s.reg b ∧ t.dev.rst.hold = .held ∧ t.dev.rst.faultN = true ∧
      t.dev.rst.src = (if s.work.relStep < 5 then setBit s.dev.rst.src 10 true else 2 ^ 10) ∧
      t.dev.ch = Dev.init.ch ∧ t.dev.tun = Dev.init.tun ∧ t.dev.sec.keys = s.dev.sec.keys ∧
      t.flag F.PWR_STAT_LATCHED = s.flag F.PWR_STAT_LATCHED ∧ t.dev.img.primary = s.dev.img.primary ∧ t.mem = s.mem ∧
      t.flag F.SEC_STAT_DEBUG_OPEN = s.flag F.SEC_STAT_DEBUG_OPEN) ∧
  (∀ (s : State) (a b : Nat),
      aonReg a = false → a ∉ [R.PWR_STAT.addr 0 0, R.MEM_STAT.addr 0 0, R.SEC_STAT.addr 0 0] → aonReg b = true →
      s.dev.rst.hold ≠ .fault → 5 ≤ s.work.relStep →
    ∃ t, exec (.lockupReset) s = .next t ∧
      t.reg a = resetWord a ∧ t.reg b = s.reg b ∧ t.dev.rst.hold = .held ∧ t.dev.rst.faultN = true ∧
      t.dev.rst.src = (if s.work.relStep < 5 then setBit s.dev.rst.src 9 true else 2 ^ 9) ∧ t.dev.ch = Dev.init.ch ∧
      t.dev.tun = Dev.init.tun ∧ t.dev.sec.keys = s.dev.sec.keys ∧
      t.flag F.PWR_STAT_LATCHED = s.flag F.PWR_STAT_LATCHED ∧ t.dev.img.primary = s.dev.img.primary ∧ t.mem = s.mem ∧
      t.flag F.SEC_STAT_DEBUG_OPEN = s.flag F.SEC_STAT_DEBUG_OPEN) ∧
  (∀ (s : State) (a b : Nat),
      aonReg a = false → a ∉ [R.PWR_STAT.addr 0 0, R.MEM_STAT.addr 0 0, R.SEC_STAT.addr 0 0] → aonReg b = true →
      s.dev.rst.hold ≠ .fault → 6 ≤ s.work.relStep →
    ∃ t, exec (.watchdogReset) s = .next t ∧
      t.reg a = resetWord a ∧ t.reg b = s.reg b ∧ t.dev.rst.hold = .held ∧ t.dev.rst.faultN = true ∧
      t.dev.rst.src = (if s.work.relStep < 5 then setBit s.dev.rst.src 5 true else 2 ^ 5) ∧ t.dev.ch = Dev.init.ch ∧
      t.dev.tun = Dev.init.tun ∧ t.dev.sec.keys = s.dev.sec.keys ∧
      t.flag F.PWR_STAT_LATCHED = s.flag F.PWR_STAT_LATCHED ∧ t.dev.img.primary = s.dev.img.primary ∧ t.mem = s.mem ∧
      t.flag F.SEC_STAT_DEBUG_OPEN = s.flag F.SEC_STAT_DEBUG_OPEN) ∧
  (∀ (s : State) (a b : Nat),
      aonReg a = false → a ∉ [R.PWR_STAT.addr 0 0, R.MEM_STAT.addr 0 0, R.SEC_STAT.addr 0 0] → aonReg b = true →
      s.dev.rst.hold ≠ .fault → s.flag F.SEC_STAT_DEBUG_OPEN = true →
    ∃ t, exec (.debugReset) s = .next t ∧
      t.reg a = resetWord a ∧ t.reg b = s.reg b ∧ t.dev.rst.hold = .held ∧ t.dev.rst.faultN = true ∧
      t.dev.rst.src = (if s.work.relStep < 5 then setBit s.dev.rst.src 7 true else 2 ^ 7) ∧ t.dev.ch = Dev.init.ch ∧
      t.dev.tun = Dev.init.tun ∧ t.dev.sec.keys = s.dev.sec.keys ∧
      t.flag F.PWR_STAT_LATCHED = s.flag F.PWR_STAT_LATCHED ∧ t.dev.img.primary = s.dev.img.primary ∧ t.mem = s.mem ∧
      t.flag F.SEC_STAT_DEBUG_OPEN = s.flag F.SEC_STAT_DEBUG_OPEN) ∧
  (∀ (s : State) (a b : Nat) (o : Origin) (v : Word),
      aonReg a = false → a ∉ [R.PWR_STAT.addr 0 0, R.MEM_STAT.addr 0 0, R.SEC_STAT.addr 0 0] → aonReg b = true →
      s.dev.rst.hold ≠ .fault → s.accepts (R.SYS_RST_CTL.addr 0 0) v.toNat = true → bitOf v.toNat 0 = true →
    ∃ t, exec (.softwareReset o v) s = .next t ∧
      t.reg a = resetWord a ∧ t.reg b = s.reg b ∧ t.dev.rst.hold = .held ∧ t.dev.rst.faultN = true ∧
      t.dev.rst.src = (if s.work.relStep < 5 then setBit s.dev.rst.src 6 true else 2 ^ 6) ∧ t.dev.ch = Dev.init.ch ∧
      t.dev.tun = Dev.init.tun ∧ t.dev.sec.keys = s.dev.sec.keys ∧
      t.flag F.PWR_STAT_LATCHED = s.flag F.PWR_STAT_LATCHED ∧ t.dev.img.primary = s.dev.img.primary ∧ t.mem = s.mem ∧
      t.flag F.SEC_STAT_DEBUG_OPEN = s.flag F.SEC_STAT_DEBUG_OPEN) ∧
  (∀ (s : State),
      s.dev.rst.hold = .fault →
    ∃ t, exec (.watchdogReset) s = .next t ∧
      t = { s with dev := { s.dev with sent := [] } })

/-- The release order (R392 to R395, R402), the release of the channels (R393), and a STORE into the boot flash (R74). -/
def Obligations.ReleaseAndFlash : Prop :=
  (∀ (s : State),
      s.dev.rst.hold = .held →
    ∃ t, exec (.releaseOrderStart) s = .next t ∧
      t.dev.rst = { s.dev.rst with hold := .none } ∧ s.sameRegs t [] ∧ t.mem = s.mem) ∧
  (∀ (s : State) (sum : Nat),
      s.dev.rst.hold = .none → s.work.relStep = 0 → s.dev.rst.merged = false →
    ∃ t, exec (.releaseStep true sum) s = .next t ∧
      t.work.relStep = 1 ∧ t.get F.SYS_BOOTSEL_BAND = bandOf sum % 16 ∧
      t.get F.SYS_BOOTSEL_SRC = bandSrc (bandOf sum) ∧ t.flag F.SYS_BOOTSEL_EDGE = bandNear sum ∧
      t.flag F.SYS_MODE_SAFE_START = bandSafe (bandOf sum) ∧ t.flag F.HOST_CFG_GEN = bandG1 (bandOf sum) ∧
      t.get F.PAIR_CFG_ROLE = bandPair (bandOf sum) ∧ t.reg (R.RST_PREV.addr 0 0) = s.reg (R.RST_REC.addr 0 0) ∧
      t.get F.RST_REC_SOURCES = s.dev.rst.src / 2 % 1024 ∧
      t.get F.RST_REC_CAUSE = ((causeOrder.find? (fun c => bitOf s.dev.rst.src c)).getD 0) % 16 ∧
      t.get F.RST_COUNT_COUNT = (if s.dev.rst.src = 4 then s.get F.RST_COUNT_COUNT else (s.get F.RST_COUNT_COUNT + 1) % 65536) ∧
      s.sameRegs t [R.SYS_REL.addr 0 0, R.SYS_BOOTSEL.addr 0 0, R.SYS_MODE.addr 0 0, R.HOST_CFG.addr 0 0, R.PAIR_CFG.addr 0 0, R.RST_REC.addr 0 0, R.RST_PREV.addr 0 0, R.RST_COUNT.addr 0 0] ∧
      t.mem = s.mem) ∧
  (∀ (s : State),
      s.dev.rst.hold = .none → s.work.relStep = 1 →
    ∃ t, exec (.releaseStep true 0) s = .next t ∧
      t.work.relStep = 2 ∧ t.dev.rst = { s.dev.rst with faultN := false, trimBad := 0 } ∧
      s.sameRegs t [R.SYS_REL.addr 0 0] ∧ t.mem = s.mem) ∧
  (∀ (s : State),
      s.dev.rst.hold = .none → s.work.relStep = 1 → s.dev.rst.trimBad = 2 →
    ∃ t, exec (.releaseStep false 0) s = .next t ∧
      t.work.relStep = 1 ∧ t.flag F.RST_REC_HOLD = true ∧ t.get F.RST_REC_TRIM_BAD = 3 ∧ t.dev.rst.hold = .fault ∧
      t.dev.rst.faultN = true ∧ s.sameRegs t [R.RST_REC.addr 0 0] ∧ t.mem = s.mem) ∧
  (∀ (s : State),
      s.dev.rst.hold = .none → s.work.relStep = 3 →
    ∃ t, exec (.releaseStep true 0) s = .next t ∧
      t.work.relStep = 4 ∧
      (∀ c ∈ t.mem, 0x03000000 ≤ c.1 ∨ (0x00200000 ≤ c.1 ∧ c.1 < 0x01000000) ∨ (0x01100000 ≤ c.1 ∧ c.1 < 0x02000000) ∨ (0x02100000 ≤ c.1 ∧ c.1 < 0x03000000)) ∧
      s.sameBytesBut t 0 0x03000000 ∧ s.sameRegs t [R.SYS_REL.addr 0 0]) ∧
  (∀ (s : State) (bad : Nat),
      s.dev.rst.hold = .none → s.work.relStep = 3 → bad % 65536 ≠ 0 → bitOf s.dev.rst.src 10 = false →
    ∃ t, exec (.releaseStep true bad) s = .next t ∧
      t.work.relStep = 0 ∧ bitOf t.dev.rst.src 10 = true ∧ t.dev.rst.faultN = true ∧
      s.sameRegs t [R.SYS_REL.addr 0 0]) ∧
  (∀ (s : State) (bad : Nat),
      s.dev.rst.hold = .none → s.work.relStep = 3 → bad % 65536 ≠ 0 → bitOf s.dev.rst.src 10 = true →
    ∃ t, exec (.releaseStep true bad) s = .next t ∧
      t.work.relStep = 3 ∧ t.flag F.RST_REC_MEMHOLD = true ∧ t.dev.rst.hold = .fault ∧
      s.sameRegs t [R.RST_REC.addr 0 0]) ∧
  (∀ (s : State) (bad : Nat) (k : Fin 4),
      s.dev.rst.hold = .none → s.work.relStep = 7 → s.dev.sec.erase = .none → bad = 2 ^ k.val →
      s.dev.sec.keys.any (fun x => x.1 == k.val + 1) = true →
    ∃ t, exec (.releaseStep true bad) s = .next t ∧
      t.work.relStep = 8 ∧ t.dev.sec.keys = s.dev.sec.keys.filter (fun x => !bitOf bad (x.1 - 1)) ∧
      t.get F.SEC_STAT_KEYS = listMask (t.dev.sec.keys.map (fun x => x.1 - 1)) % 16 ∧
      s.sameRegs t (R.SYS_REL.addr 0 0 :: R.SEC_STAT.addr 0 0 :: ringRegs devRing) ∧ s.sameMemButNext t devRing) ∧
  (∀ (s : State) (k m : Nat),
      s.dev.rst.hold = .none → s.work.relStep = k → k ∈ [2, 4, 6, 8, 9] → s.dev.rst.rcMode = false →
    ∃ t, exec (.releaseStep true m) s = .next t ∧
      t.work.relStep = k + 1 ∧ t.dev.rst = s.dev.rst ∧ s.sameRegs t [R.SYS_REL.addr 0 0] ∧ t.mem = s.mem) ∧
  (∀ (s : State) (m : Nat),
      s.dev.rst.hold = .none → s.work.relStep = 5 → m / 32 % 8 ≠ 0 →
    ∃ t, exec (.releaseStep true m) s = .next t ∧
      t.work.relStep = 6 ∧ t.flag F.PWR_PMB_STAT_MODE_BAD = true ∧ t.flag F.PWR_CFG_PMB_EN = false ∧
      s.sameRegs t [R.SYS_REL.addr 0 0, R.PWR_PMB_STAT.addr 0 0, R.PWR_CFG.addr 0 0] ∧ t.mem = s.mem) ∧
  (∀ (s : State) (m : Nat),
      s.dev.rst.hold = .none → s.work.relStep = 10 → s.dev.rst.rcMode = false →
    ∃ t, exec (.releaseStep true m) s = .next t ∧
      t.work.relStep = 11 ∧
      t.get F.RHL_STAT_STATE = (if s.get F.SYS_BOOTSEL_SRC = 3 then 5 else s.get F.RHL_STAT_STATE) ∧
      s.sameRegs t [R.SYS_REL.addr 0 0, R.RHL_STAT.addr 0 0] ∧ t.mem = s.mem) ∧
  (∀ (s : State) (k m : Nat),
      s.dev.rst.hold = .none → s.work.relStep = k → k ≠ 1 →
    ∃ t, exec (.releaseStep false m) s = .next t ∧
      t = { s with dev := { s.dev with sent := [] } }) ∧
  (∀ (s : State) (ch : Fin 8) (rest : List Nat),
      s.dev.rst.chLeft = ch.val :: rest → s.flag F.SYS_MODE_SAFE_START = false →
    ∃ t, exec (.channelRelease) s = .next t ∧
      t.dev.rst = { s.dev.rst with chLeft := rest } ∧ bitOf (t.get F.SYS_REL_CH_REL) ch = true ∧
      (t.chan ch).restart = some .image ∧ t.work.relStep = (if rest = [] then 12 else s.work.relStep) ∧
      ((s.chan ch).kiln.cold = true → (s.chan ch).kiln.faulted = false → bitOf (s.get F.PWR_STAT_LATCHED) ch = false → (t.chan ch).kiln.ramping = true ∧ (t.chan ch).kiln.cold = false) ∧
      (∀ n : Fin 8, n ≠ ch → t.chan n = s.chan n) ∧ s.sameRegs t [R.SYS_REL.addr 0 0] ∧ t.mem = s.mem) ∧
  (∀ (s : State) (ch : Fin 8) (rest : List Nat),
      s.dev.rst.chLeft = ch.val :: rest → s.flag F.SYS_MODE_SAFE_START = true →
    ∃ t, exec (.channelRelease) s = .next t ∧
      t.dev.rst = { s.dev.rst with chLeft := rest } ∧ bitOf (t.get F.SYS_REL_CH_REL) ch = true ∧
      t.chState ch = stQuiesced ∧ (t.chan ch).restart = none ∧ (∀ n : Fin 8, n ≠ ch → t.chan n = s.chan n) ∧
      s.sameRegs t [R.SYS_REL.addr 0 0, R.SYS_CH_STATE.addr 0 0] ∧
      s.sameBytesBut t (s.work.region ch 7).1 (512 + (s.work.region ch 7).2)) ∧
  (∀ (s : State) (p b : List Byte),
      s.dev.img.store = some (.copyFallback, b) → p = flashImage s.dev.img.primary →
    ∃ t, exec (.flashStore true) s = .next t ∧
      t.dev.img.store = some (.writePrimary, b) ∧
      t.dev.img.fallback = (if s.work.staticCode none none p = 0 ∧ flashImage s.dev.img.fallback ≠ p then p else s.dev.img.fallback) ∧
      t.dev.img.primary = s.dev.img.primary ∧ s.sameRegs t [] ∧ t.mem = s.mem) ∧
  (∀ (s : State) (b : List Byte),
      s.dev.img.store = some (.writePrimary, b) →
    ∃ t, exec (.flashStoreEnd true) s = .next t ∧
      t.dev.img = { s.dev.img with store := none, primary := b } ∧ t.flag F.SYS_IMG_STAT_FLASH_BUSY = false ∧
      s.sameRegs t (R.SYS_IMG_STAT.addr 0 0 :: ringRegs devRing) ∧ s.sameMemButNext t devRing) ∧
  (∀ (s : State) (b : List Byte),
      s.dev.img.store = some (.writePrimary, b) →
    ∃ t, exec (.flashStoreEnd false) s = .next t ∧
      t.dev.img.store = none ∧ t.dev.img.fallback = s.dev.img.fallback ∧ t.flag F.SYS_IMG_STAT_FLASH_FAIL = true ∧
      t.flag F.SYS_IMG_STAT_FLASH_BUSY = false ∧ s.sameRegs t (R.SYS_IMG_STAT.addr 0 0 :: ringRegs devRing) ∧
      s.sameMemButNext t devRing)

/-- The resets of the blocks of the shared side, by the bits of SYS_BLK_RST, and their release (R396, R307, R329). -/
def Obligations.BlockResets : Prop :=
  (∀ (s : State) (o : Origin) (e : Fin 4),
      s.accepts (R.SYS_BLK_RST.addr 0 0) (setBit (s.reg (R.SYS_BLK_RST.addr 0 0)) e true) = true →
      bitOf (s.reg (R.SYS_BLK_RST.addr 0 0)) e = false → s.dev.img.sess = none → s.dev.modeReq = none →
      s.dev.pwr.cmd = none →
    ∃ t, exec (.tunBlockReset o e) s = .next t ∧
      bitOf (t.reg (R.SYS_BLK_RST.addr 0 0)) e = true ∧ (t.work.tunEng e).held = true ∧
      (t.work.tunEng e).port = Port.init ∧ (t.work.tunEng e).wdog = none ∧
      (t.work.tunEng e).outSets = (s.work.tunEng e).outSets ∧ bitOf (t.get F.TUN_CTL_RUNNING) e = false ∧
      t.get F.TUN_STAT_STATE 0 e = 0 ∧
      s.sameRegs t ([R.SYS_BLK_RST.addr 0 0, R.TUN_CTL.addr 0 0, R.TUN_STAT.addr 0 e] ++ (List.range 8).map (fun n => R.MASH_STAT.addr n 0)) ∧
      t.mem = s.mem) ∧
  (∀ (s : State) (o : Origin),
      s.accepts (R.SYS_BLK_RST.addr 0 0) (setBit (s.reg (R.SYS_BLK_RST.addr 0 0)) 4 true) = true →
      bitOf (s.reg (R.SYS_BLK_RST.addr 0 0)) 4 = false → s.dev.img.sess = none → s.dev.modeReq = none →
      s.dev.pwr.cmd = none →
    ∃ t, exec (.hostBlockReset o) s = .next t ∧
      bitOf (t.reg (R.SYS_BLK_RST.addr 0 0)) 4 = true ∧ t.dev.host.port = Port.init ∧ t.dev.host.widthPend = none ∧
      t.dev.host.held = none ∧ t.work.hostDeaf = true ∧
      s.sameRegs t (R.SYS_BLK_RST.addr 0 0 :: hostRegs ++ (List.range 8).map (fun n => R.MASH_STAT.addr n 0)) ∧
      t.mem = s.mem) ∧
  (∀ (s : State) (o : Origin),
      s.accepts (R.SYS_BLK_RST.addr 0 0) (setBit (s.reg (R.SYS_BLK_RST.addr 0 0)) 5 true) = true →
      bitOf (s.reg (R.SYS_BLK_RST.addr 0 0)) 5 = false → s.dev.img.sess = none → s.dev.modeReq = none →
      s.dev.pwr.cmd = none → s.get F.SYS_TICK_CFG_LOCK_SRC ≠ 1 →
    ∃ t, exec (.fabricBlockReset o) s = .next t ∧
      bitOf (t.reg (R.SYS_BLK_RST.addr 0 0)) 5 = true ∧ t.get F.RHL_STAT_STATE = 0 ∧
      t.dev.fab = { s.dev.fab with port := Port.init, ports := List.replicate 3 FabPort.init, shakes := [], wrapQ := [], wrapRun := none, routes := none } ∧
      (∀ p : Fin 3, t.flag F.RHL_PORT_LINK 0 p = false ∧ t.flag F.RHL_PORT_HOLD 0 p = false) ∧
      s.sameRegs t ([R.SYS_BLK_RST.addr 0 0, R.RHL_STAT.addr 0 0] ++ (List.range 3).map (fun p => R.RHL_PORT.addr 0 p) ++ (List.range 8).map (fun n => R.MASH_STAT.addr n 0)) ∧
      t.mem = s.mem) ∧
  (∀ (s : State) (o : Origin),
      s.accepts (R.SYS_BLK_RST.addr 0 0) (setBit (s.reg (R.SYS_BLK_RST.addr 0 0)) 6 true) = true →
      bitOf (s.reg (R.SYS_BLK_RST.addr 0 0)) 6 = false →
    ∃ t, exec (.pairBlockReset o) s = .next t ∧
      bitOf (t.reg (R.SYS_BLK_RST.addr 0 0)) 6 = true ∧
      t.dev.pair = { s.dev.pair with release := union s.dev.pair.release s.work.activeMask, leadOut := true, hand := [] } ∧
      s.sameRegs t [R.SYS_BLK_RST.addr 0 0] ∧ t.mem = s.mem) ∧
  (∀ (s : State) (o : Origin),
      s.accepts (R.SYS_BLK_RST.addr 0 0) (setBit (s.reg (R.SYS_BLK_RST.addr 0 0)) 7 true) = true →
      bitOf (s.reg (R.SYS_BLK_RST.addr 0 0)) 7 = false → s.get F.SYS_TICK_CFG_LOCK_SRC ≠ 2 →
    ∃ t, exec (.netBlockReset o) s = .next t ∧
      bitOf (t.reg (R.SYS_BLK_RST.addr 0 0)) 7 = true ∧ (∀ p : Fin 2, t.flag F.NET_PORT_LINK 0 p = false) ∧
      t.get F.NET_PTP_STAT_STATE = 0 ∧
      s.sameRegs t [R.SYS_BLK_RST.addr 0 0, R.NET_PORT.addr 0 0, R.NET_PORT.addr 0 1, R.NET_PTP_STAT.addr 0 0] ∧
      t.mem = s.mem) ∧
  (∀ (s : State) (o : Origin),
      s.accepts (R.SYS_BLK_RST.addr 0 0) (setBit (s.reg (R.SYS_BLK_RST.addr 0 0)) 7 true) = true →
      bitOf (s.reg (R.SYS_BLK_RST.addr 0 0)) 7 = false → s.get F.SYS_TICK_CFG_LOCK_SRC = 2 →
      s.work.lockState = lkLocked →
    ∃ t, exec (.netBlockReset o) s = .next t ∧
      bitOf (t.reg (R.SYS_BLK_RST.addr 0 0)) 7 = true ∧ t.get F.SYS_TICK_STAT_LOCK_STATE = lkHoldover ∧
      s.sameRegs t ([R.SYS_BLK_RST.addr 0 0, R.NET_PORT.addr 0 0, R.NET_PORT.addr 0 1, R.NET_PTP_STAT.addr 0 0, R.SYS_TICK_STAT.addr 0 0] ++ ringRegs devRing) ∧
      s.sameMemButNext t devRing) ∧
  (∀ (s : State) (o : Origin),
      s.accepts (R.SYS_BLK_RST.addr 0 0) (setBit (s.reg (R.SYS_BLK_RST.addr 0 0)) 8 true) = true →
      bitOf (s.reg (R.SYS_BLK_RST.addr 0 0)) 8 = false →
    ∃ t, exec (.steepBlockReset o) s = .next t ∧
      bitOf (t.reg (R.SYS_BLK_RST.addr 0 0)) 8 = true ∧ t.flag F.STEEP_STAT_BORROWED = false ∧
      t.get F.STEEP_STAT_PHASE = 0 ∧ t.dev.memsys = s.dev.memsys ∧
      s.sameRegs t [R.SYS_BLK_RST.addr 0 0, R.STEEP_STAT.addr 0 0] ∧ t.mem = s.mem) ∧
  (∀ (s : State) (o : Origin) (e : Fin 4),
      s.accepts (R.SYS_BLK_RST.addr 0 0) (setBit (s.reg (R.SYS_BLK_RST.addr 0 0)) e false) = true →
      bitOf (s.reg (R.SYS_BLK_RST.addr 0 0)) e = true → (s.work.tunEng e).code = [] →
    ∃ t, exec (.blockResetRelease o ⟨e, by omega⟩) s = .next t ∧
      bitOf (t.reg (R.SYS_BLK_RST.addr 0 0)) e = false ∧ (t.work.tunEng e).held = false ∧
      s.sameRegs t [R.SYS_BLK_RST.addr 0 0] ∧ t.mem = s.mem) ∧
  (∀ (s : State) (o : Origin) (e : Fin 4),
      s.accepts (R.SYS_BLK_RST.addr 0 0) (setBit (s.reg (R.SYS_BLK_RST.addr 0 0)) e false) = true →
      bitOf (s.reg (R.SYS_BLK_RST.addr 0 0)) e = true → (s.work.tunEng e).code ≠ [] →
      s.work.bankFailed (24 + 2 * e) = false → s.work.bankFailed (25 + 2 * e) = false →
    ∃ t, exec (.blockResetRelease o ⟨e, by omega⟩) s = .next t ∧
      bitOf (t.reg (R.SYS_BLK_RST.addr 0 0)) e = false ∧ (t.work.tunEng e).held = false ∧
      (t.work.tunEng e).wdog = some (s.work.codeGood e) ∧
      (s.work.codeGood e = false → t.flag F.TUN_ERR_CODE_BAD 0 e = true) ∧
      s.sameRegs t [R.SYS_BLK_RST.addr 0 0, R.TUN_CTL.addr 0 0, R.TUN_STAT.addr 0 e, R.TUN_ERR.addr 0 e] ∧
      s.sameBytesBut t (0x02000000 + 0x40000 * e + (s.work.tunEng e).code.length) (0x40000 - (s.work.tunEng e).code.length)) ∧
  (∀ (s : State) (o : Origin) (e : Fin 4),
      s.accepts (R.SYS_BLK_RST.addr 0 0) (setBit (s.reg (R.SYS_BLK_RST.addr 0 0)) e false) = true →
      bitOf (s.reg (R.SYS_BLK_RST.addr 0 0)) e = true →
      (s.work.bankFailed (24 + 2 * e) = true ∨ s.work.bankFailed (25 + 2 * e) = true) →
    ∃ t, exec (.blockResetRelease o ⟨e, by omega⟩) s = .next t ∧
      bitOf (t.reg (R.SYS_BLK_RST.addr 0 0)) e = false ∧ (t.work.tunEng e).held = false ∧
      (t.work.tunEng e).wdog = (s.work.tunEng e).wdog ∧ s.sameRegs t [R.SYS_BLK_RST.addr 0 0] ∧ t.mem = s.mem) ∧
  (∀ (s : State) (o : Origin),
      s.accepts (R.SYS_BLK_RST.addr 0 0) (setBit (s.reg (R.SYS_BLK_RST.addr 0 0)) 6 false) = true →
      bitOf (s.reg (R.SYS_BLK_RST.addr 0 0)) 6 = true →
    ∃ t, exec (.blockResetRelease o 6) s = .next t ∧
      bitOf (t.reg (R.SYS_BLK_RST.addr 0 0)) 6 = false ∧ t.dev.pair = Pair.init ∧ t.flag F.PAIR_STAT_LINK = false ∧
      s.sameRegs t [R.SYS_BLK_RST.addr 0 0, R.PAIR_STAT.addr 0 0] ∧ t.mem = s.mem) ∧
  (∀ (s : State) (o : Origin) (bit : Fin 9),
      s.accepts (R.SYS_BLK_RST.addr 0 0) (setBit (s.reg (R.SYS_BLK_RST.addr 0 0)) bit false) = true →
      bitOf (s.reg (R.SYS_BLK_RST.addr 0 0)) bit = true → (bit.val = 8 ∨ (bit.val = 7 ∧ s.dev.img.whole = none)) →
    ∃ t, exec (.blockResetRelease o bit) s = .next t ∧
      bitOf (t.reg (R.SYS_BLK_RST.addr 0 0)) bit = false ∧ s.sameRegs t [R.SYS_BLK_RST.addr 0 0] ∧ t.mem = s.mem) ∧
  (∀ (s : State) (o : Origin) (a : Nat),
      s.accepts (R.SYS_BLK_RST.addr 0 0) (setBit (s.reg (R.SYS_BLK_RST.addr 0 0)) 7 false) = true →
      bitOf (s.reg (R.SYS_BLK_RST.addr 0 0)) 7 = true → s.dev.img.whole.isSome = true → (rowAt a).isSome = true →
      0x40070000 ≤ a → a < 0x40080000 →
    ∃ t, exec (.blockResetRelease o 7) s = .next t ∧
      bitOf (t.reg (R.SYS_BLK_RST.addr 0 0)) 7 = false ∧
      (rowAt a).all (fun x => t.reg a == mergeAcc setAcc x.1 (s.reg a) (tabGet s.dev.img.net (resetWord a) a)) = true ∧
      t.mem = s.mem)

/-- A channel held in reset, at once or once it has quiesced, and released (R10, R217, R397, R398); its sub-blocks held
and released (R399). -/
def Obligations.ChannelResets : Prop :=
  (∀ (s : State) (o : Origin) (ch : Fin 8) (a : Nat),
      s.accepts (R.CTL_RST.addr ch 0) (setBits (s.reg (R.CTL_RST.addr ch 0)) 1 0 1) = true →
      s.flag F.CTL_RST_CH ch = false → (s.chan ch).mash.queue = [] → (s.chan ch).mash.waiting = [] →
      (s.chan ch).mash.drawn = none → (a < 0x40100000 + 0x10000 * ch ∨ 0x40110000 + 0x10000 * ch ≤ a) →
      a ∉ R.SYS_CH_STATE.addr 0 0 :: R.PAIR_STAT.addr 0 0 :: ringRegs devRing →
    ∃ t, exec (.channelReset o ch) s = .next t ∧
      t.chan ch = { Chan.init with inReset := true, subHeld := (s.chan ch).subHeld, standby := (s.chan ch).standby, regions := (s.chan ch).regions, chMw := (s.chan ch).chMw, structCrc := (s.chan ch).structCrc, rewrite := (s.chan ch).rewrite } ∧
      t.chState ch = stIsolated ∧ t.flag F.CTL_STAT_IN_RESET ch = true ∧ t.work.ringCount ch = 0 ∧
      t.work.ringNext ch = 0 ∧ t.flag F.KILN_STAT_READY ch = false ∧ bitOf (t.get F.PAIR_STAT_ACTIVE) ch = false ∧
      (∀ n : Fin 8, n ≠ ch → t.chan n = s.chan n) ∧ t.reg a = s.reg a ∧ s.sameMemButNext t devRing) ∧
  (∀ (s : State) (o : Origin) (ch : Fin 8),
      s.accepts (R.CTL_RST.addr ch 0) (setBits (s.reg (R.CTL_RST.addr ch 0)) 1 0 3) = true →
      s.flag F.CTL_RST_CH ch = false → (s.chan ch).running = true → (s.chan ch).kiln.quiesce = .none →
    ∃ t, exec (.channelQuiesceReset o ch) s = .next t ∧
      t.chan ch = { s.chan ch with resetAfter := true, kiln := { (s.chan ch).kiln with quiesce := .pend } } ∧
      t.flag F.CTL_STAT_QUIESCING ch = true ∧ t.chState ch = s.chState ch ∧
      (∀ n : Fin 8, n ≠ ch → t.chan n = s.chan n) ∧ s.sameRegs t [R.CTL_RST.addr ch 0, R.CTL_STAT.addr ch 0] ∧
      t.mem = s.mem) ∧
  (∀ (s : State) (o : Origin) (ch : Fin 8),
      s.accepts (R.CTL_RST.addr ch 0) (setBits (s.reg (R.CTL_RST.addr ch 0)) 1 0 3) = true →
      s.flag F.CTL_RST_CH ch = false → (s.chan ch).running = false → (s.chan ch).mash.queue = [] →
      (s.chan ch).mash.waiting = [] → (s.chan ch).mash.drawn = none →
    ∃ t, exec (.channelQuiesceReset o ch) s = .next t ∧
      (t.chan ch).inReset = true ∧ t.chState ch = stIsolated ∧ t.flag F.CTL_STAT_IN_RESET ch = true ∧
      (∀ n : Fin 8, n ≠ ch → t.chan n = s.chan n) ∧ s.sameMemButNext t devRing) ∧
  (∀ (s : State) (o : Origin) (ch : Fin 8),
      s.accepts (R.CTL_RST.addr ch 0) (setBits (s.reg (R.CTL_RST.addr ch 0)) 1 0 0) = true →
      s.flag F.CTL_RST_CH ch = true → (s.chan ch).inReset = true → (s.chan ch).kiln.cold = false →
    ∃ t, exec (.channelResetRelease o ch) s = .next t ∧
      t.chan ch = { s.chan ch with inReset := false, restart := some .image, rewrite := 1, lamp := { (s.chan ch).lamp with pumpsOn := true, frozen := none } } ∧
      t.flag F.CTL_STAT_IN_RESET ch = false ∧ t.chState ch = stReset ∧ (∀ n : Fin 8, n ≠ ch → t.chan n = s.chan n) ∧
      s.sameRegs t [R.CTL_RST.addr ch 0, R.CTL_STAT.addr ch 0, R.SYS_CH_STATE.addr 0 0] ∧ t.mem = s.mem) ∧
  (∀ (s : State) (o : Origin) (ch : Fin 8),
      s.accepts (R.CTL_RST.addr ch 0) (setBits (s.reg (R.CTL_RST.addr ch 0)) 1 0 0) = true →
      s.flag F.CTL_RST_CH ch = true → (s.chan ch).inReset = true → (s.chan ch).kiln.cold = true →
      (s.chan ch).kiln.faulted = false → bitOf (s.get F.PWR_STAT_LATCHED) ch = false →
    ∃ t, exec (.channelResetRelease o ch) s = .next t ∧
      (t.chan ch).kiln = { (s.chan ch).kiln with cold := false, ramping := true, target := 0 } ∧
      (t.chan ch).restart = some .image ∧ t.chState ch = stReset ∧ (∀ n : Fin 8, n ≠ ch → t.chan n = s.chan n) ∧
      t.mem = s.mem) ∧
  (∀ (s : State) (o : Origin) (ch : Fin 8),
      s.accepts (R.CTL_RST.addr ch 0) (setBit (s.reg (R.CTL_RST.addr ch 0)) 2 true) = true →
      bitOf (s.reg (R.CTL_RST.addr ch 0)) 2 = false →
    ∃ t, exec (.gristReset o ch) s = .next t ∧
      t.chan ch = { s.chan ch with subHeld := setBit (s.chan ch).subHeld 2 true } ∧ (t.chan ch).blockHeld 2 = true ∧
      s.sameRegs t [R.CTL_RST.addr ch 0] ∧ t.mem = s.mem) ∧
  (∀ (s : State) (o : Origin) (ch : Fin 8),
      s.accepts (R.CTL_RST.addr ch 0) (setBit (s.reg (R.CTL_RST.addr ch 0)) 3 true) = true →
      bitOf (s.reg (R.CTL_RST.addr ch 0)) 3 = false →
    ∃ t, exec (.encReset o ch) s = .next t ∧
      t.chan ch = { s.chan ch with subHeld := setBit (s.chan ch).subHeld 3 true } ∧ (t.chan ch).blockHeld 3 = true ∧
      s.sameRegs t [R.CTL_RST.addr ch 0] ∧ t.mem = s.mem) ∧
  (∀ (s : State) (o : Origin) (ch : Fin 8),
      s.accepts (R.CTL_RST.addr ch 0) (setBit (s.reg (R.CTL_RST.addr ch 0)) 10 true) = true →
      bitOf (s.reg (R.CTL_RST.addr ch 0)) 10 = false →
    ∃ t, exec (.blinkReset o ch) s = .next t ∧
      t.chan ch = { s.chan ch with subHeld := setBit (s.chan ch).subHeld 10 true } ∧
      (t.chan ch).blockHeld 10 = true ∧ s.sameRegs t [R.CTL_RST.addr ch 0] ∧ t.mem = s.mem) ∧
  (∀ (s : State) (o : Origin) (ch : Fin 8),
      s.accepts (R.CTL_RST.addr ch 0) (setBit (s.reg (R.CTL_RST.addr ch 0)) 4 true) = true →
      bitOf (s.reg (R.CTL_RST.addr ch 0)) 4 = false →
    ∃ t, exec (.caskReset o ch) s = .next t ∧
      t.chan ch = { s.chan ch with subHeld := setBit (s.chan ch).subHeld 4 true, cask := { (s.chan ch).cask with ring := Ring.init, batch := [], compat := [] } } ∧
      t.work.ringCount ch = 0 ∧ t.work.ringOldest ch = 0 ∧ t.work.ringNext ch = 0 ∧
      s.sameRegs t (R.CTL_RST.addr ch 0 :: R.CASK_STAT.addr ch 0 :: R.CASK_SEQ.addr ch 0 :: ringRegs devRing) ∧
      s.sameMemButNext t devRing) ∧
  (∀ (s : State) (o : Origin) (ch : Fin 8) (k : Fin 12),
      s.accepts (R.CTL_RST.addr ch 0) (setBit (s.reg (R.CTL_RST.addr ch 0)) 5 true) = true →
      bitOf (s.reg (R.CTL_RST.addr ch 0)) 5 = false →
    ∃ t, exec (.lampReset o ch) s = .next t ∧
      (t.chan ch).blockHeld 5 = true ∧ ((t.work.lampOf ch k).out = 0 ∨ (s.chan ch).lamp.lamps.length ≤ k) ∧
      ((t.work.lampOf ch k).pump = false ∨ (s.chan ch).lamp.lamps.length ≤ k) ∧ t.flag F.LAMP_STAT_SEN ch = false ∧
      t.flag F.LAMP_STAT_PUMP_READY ch = false ∧ s.sameRegs t [R.CTL_RST.addr ch 0, R.LAMP_STAT.addr ch 0] ∧
      t.mem = s.mem) ∧
  (∀ (s : State) (o : Origin) (ch : Fin 8),
      s.accepts (R.CTL_RST.addr ch 0) (setBit (s.reg (R.CTL_RST.addr ch 0)) 6 true) = true →
      bitOf (s.reg (R.CTL_RST.addr ch 0)) 6 = false →
    ∃ t, exec (.tapReset o ch) s = .next t ∧
      t.chan ch = { s.chan ch with subHeld := setBit (s.chan ch).subHeld 6 true, tap := (s.chan ch).tap.map (fun t => { t with await := false, ready := false }) } ∧
      s.sameRegs t [R.CTL_RST.addr ch 0] ∧ t.mem = s.mem) ∧
  (∀ (s : State) (o : Origin) (ch : Fin 8),
      s.accepts (R.CTL_RST.addr ch 0) (setBit (s.reg (R.CTL_RST.addr ch 0)) 7 true) = true →
      bitOf (s.reg (R.CTL_RST.addr ch 0)) 7 = false →
    ∃ t, exec (.psqReset o ch) s = .next t ∧
      t.chan ch = { s.chan ch with subHeld := setBit (s.chan ch).subHeld 7 true, psq := List.replicate 4 Engine.init } ∧
      t.get F.PSQ_STAT_RUNNING ch = 0 ∧ (∀ i : Fin 256, t.get F.PSQ_IMEM_INSTR ch i = 0) ∧ t.mem = s.mem) ∧
  (∀ (s : State) (o : Origin) (ch : Fin 8),
      s.accepts (R.CTL_RST.addr ch 0) (setBit (s.reg (R.CTL_RST.addr ch 0)) 8 true) = true →
      bitOf (s.reg (R.CTL_RST.addr ch 0)) 8 = false →
    ∃ t, exec (.integReset o ch) s = .next t ∧
      t.chan ch = { s.chan ch with subHeld := setBit (s.chan ch).subHeld 8 true, integ := { (s.chan ch).integ with inForce := [], decl := [], okNow := [] } } ∧
      (∀ f : Fin 128, t.flag F.INTEG_POL_ACTIVE ch f = false) ∧
      s.sameRegs t (R.CTL_RST.addr ch 0 :: (List.range 128).map (fun f => R.INTEG_POL.addr ch f)) ∧ t.mem = s.mem) ∧
  (∀ (s : State) (o : Origin) (ch : Fin 8),
      s.accepts (R.CTL_RST.addr ch 0) (setBit (s.reg (R.CTL_RST.addr ch 0)) 9 true) = true →
      bitOf (s.reg (R.CTL_RST.addr ch 0)) 9 = false → (s.chan ch).mash.queue = [] → (s.chan ch).mash.waiting = [] →
      (s.chan ch).mash.drawn = none →
    ∃ t, exec (.mashReset o ch) s = .next t ∧
      t.chan ch = { s.chan ch with subHeld := setBit (s.chan ch).subHeld 9 true, mash := { (s.chan ch).mash with queue := [], waiting := [], drawn := none } } ∧
      t.work.mashIsolated ch = true ∧ s.sameRegs t [R.CTL_RST.addr ch 0, R.MASH_STAT.addr ch 0] ∧ t.mem = s.mem) ∧
  (∀ (s : State) (o : Origin) (ch : Fin 8) (d : Delivery) (f : Flight),
      s.accepts (R.CTL_RST.addr ch 0) (setBit (s.reg (R.CTL_RST.addr ch 0)) 9 true) = true →
      bitOf (s.reg (R.CTL_RST.addr ch 0)) 9 = false → (s.chan ch).mash.queue = [d] → (s.chan ch).mash.waiting = [] →
      (s.chan ch).mash.drawn = none → d.who = some .host → s.dev.host.port.flight = some f → f.late = false →
    ∃ t, exec (.mashReset o ch) s = .next t ∧
      (t.chan ch).mash.queue = [] ∧ s.hostAnswered t f.op f.tag stIsol [] ∧
      t.get F.CTL_STAT_ISO_ERRS ch = Nat.min 65535 (s.get F.CTL_STAT_ISO_ERRS ch + 1) ∧ t.mem = s.mem) ∧
  (∀ (s : State) (o : Origin) (ch : Fin 8) (bit : Fin 9),
      s.accepts (R.CTL_RST.addr ch 0) (setBit (s.reg (R.CTL_RST.addr ch 0)) (bit.val + 2) false) = true →
      bitOf (s.reg (R.CTL_RST.addr ch 0)) (bit.val + 2) = true → bitOf (s.chan ch).subHeld (bit.val + 2) = true →
    ∃ t, exec (.subblockResetRelease o ch bit) s = .next t ∧
      bitOf (t.chan ch).subHeld (bit.val + 2) = false ∧ bitOf (t.chan ch).rewrite (bit.val + 2) = true ∧
      bitOf (t.reg (R.CTL_RST.addr ch 0)) (bit.val + 2) = false ∧ (∀ n : Fin 8, n ≠ ch → t.chan n = s.chan n) ∧
      t.mem = s.mem) ∧
  (∀ (s : State) (o : Origin) (ch : Fin 8) (a : Nat),
      s.accepts (R.CTL_RST.addr ch 0) (setBit (s.reg (R.CTL_RST.addr ch 0)) 2 false) = true →
      bitOf (s.reg (R.CTL_RST.addr ch 0)) 2 = true → bitOf (s.chan ch).subHeld 2 = true →
      0x40104000 + 0x10000 * ch ≤ a → a < 0x40104100 + 0x10000 * ch →
    ∃ t, exec (.subblockResetRelease o ch 0) s = .next t ∧
      t.reg a = resetWord a) ∧
  (∀ (s : State) (o : Origin) (ch : Fin 8),
      s.accepts (R.CTL_RST.addr ch 0) (setBit (s.reg (R.CTL_RST.addr ch 0)) 7 false) = true →
      bitOf (s.reg (R.CTL_RST.addr ch 0)) 7 = true → bitOf (s.chan ch).subHeld 7 = true →
    ∃ t, exec (.subblockResetRelease o ch 5) s = .next t ∧
      (t.chan ch).psq = List.replicate 4 Engine.init ∧ t.get F.PSQ_STAT_RUNNING ch = 0) ∧
  (∀ (s : State) (o : Origin) (ch : Fin 8),
      s.accepts (R.CTL_RST.addr ch 0) (setBit (s.reg (R.CTL_RST.addr ch 0)) 4 false) = true →
      bitOf (s.reg (R.CTL_RST.addr ch 0)) 4 = true → bitOf (s.chan ch).subHeld 4 = true →
    ∃ t, exec (.subblockResetRelease o ch 2) s = .next t ∧
      (t.chan ch).cask = Cask.init ∧ t.get F.CASK_STAT_LOSS_PEND ch = 1 ∧ t.work.ringDepth ch = s.work.ringDepth ch ∧
      t.work.ringCount ch = 0)

/-- The entry commit point of the power states (R409 to R413), the nine wake sources (R406 to R408), and the exit (R406,
R412, R415). -/
def Obligations.PowerEntryAndWake : Prop :=
  (∀ (s : State) (c : PowerCmd),
      s.dev.pwr.cmd = some c → c.state = 2 → s.dev.pwr.committed = false → (List.range 8).all s.work.atRest = true →
      s.dev.pwr.tapDone = true →
      (List.range 8).all (fun n => (List.range 2).all (fun l => !(s.work.tapOf n l).ready)) = true →
      s.get F.PWR_WAKE_PEND_PEND = 0 →
    ∃ t, exec (.powerEntryCommit) s = .next t ∧
      t.get F.PWR_STAT_STATE = 2 ∧
      (∀ ch : Fin 8, t.get F.KILN_STAT_VLCD_ACT ch = 0 ∧ t.flag F.KILN_STAT_READY ch = false ∧ (t.chan ch).kiln.cold = true ∧ (t.chan ch).kiln.acc = []) ∧
      t.dev.mon.still = true ∧ (∀ e : Fin 4, t.get F.TUN_STAT_STATE 0 e = 0) ∧
      (∀ p : Fin 3, t.flag F.RHL_PORT_LINK 0 p = false) ∧ t.get F.NET_PTP_STAT_STATE = 0 ∧
      t.flag F.STEEP_STAT_BORROWED = false ∧ t.get F.WAKE_REC_REG_NOACK = 0 ∧ t.get F.WAKE_REC_WAKE_FAIL_REG = 0 ∧
      t.flag F.PWR_STAT_ENTERING = false ∧ t.dev.pwr = { s.dev.pwr with committed := true } ∧
      t.get F.PWR_STAT_LATCHED = s.get F.PWR_STAT_LATCHED ∧ t.dev.sent = [] ∧
      s.sameRegs t ([R.PWR_STAT.addr 0 0, R.PWR_LF.addr 0 0, R.WAKE_REC.addr 0 0, R.NET_PTP_STAT.addr 0 0, R.STEEP_STAT.addr 0 0] ++ (List.range 4).map (fun e => R.TUN_STAT.addr 0 e) ++ (List.range 3).map (fun p => R.RHL_PORT.addr 0 p) ++ (List.range 8).map (fun n => R.KILN_STAT.addr n 0)) ∧
      t.mem = s.mem) ∧
  (∀ (s : State) (c : PowerCmd),
      s.dev.pwr.cmd = some c → c.state = 3 → s.dev.pwr.committed = false → (List.range 8).all s.work.atRest = true →
      s.dev.pwr.tapDone = true →
      (List.range 8).all (fun n => (List.range 2).all (fun l => !(s.work.tapOf n l).ready)) = true →
      s.get F.PWR_WAKE_PEND_PEND = 0 →
    ∃ t, exec (.powerEntryCommit) s = .next t ∧
      t.get F.PWR_STAT_STATE = 3 ∧
      (∀ ch : Fin 8, t.get F.KILN_STAT_VLCD_ACT ch = 0 ∧ t.flag F.KILN_STAT_READY ch = false ∧ (t.chan ch).kiln.cold = true ∧ (t.chan ch).kiln.acc = []) ∧
      t.dev.mon.still = true ∧ (∀ e : Fin 4, t.get F.TUN_STAT_STATE 0 e = 0) ∧
      (∀ p : Fin 3, t.flag F.RHL_PORT_LINK 0 p = false) ∧ t.get F.NET_PTP_STAT_STATE = 0 ∧
      t.flag F.STEEP_STAT_BORROWED = false ∧ t.get F.WAKE_REC_REG_NOACK = 0 ∧ t.get F.WAKE_REC_WAKE_FAIL_REG = 0 ∧
      t.flag F.PWR_STAT_ENTERING = false ∧
      t.dev.pwr = { s.dev.pwr with committed := true, pads := (List.range 8).map (fun n => if bitOf (s.get F.PWR_STAT_LATCHED) n then s.dev.pwr.pads.getD n [] else (List.range 80).map (s.work.padOf n)), lost := lostBanks c.retain, pmb := some (s.get F.PWR_VOUT_RET_MV, 0) } ∧
      t.get F.PWR_PMB_STAT_ATTEMPTS = 1 ∧ t.get F.PWR_STAT_LATCHED = 255 ∧ t.flag F.PAIR_STAT_LEAD = false ∧
      t.dev.sent = [⟨5, s.get F.PWR_CFG_PMB_ADDR, 0x21, s.get F.PWR_CFG_PEC_EN, leBytes 2 (s.work.voutWord (s.get F.PWR_VOUT_RET_MV))⟩] ∧
      s.sameRegs t ([R.PWR_STAT.addr 0 0, R.PWR_LF.addr 0 0, R.WAKE_REC.addr 0 0, R.NET_PTP_STAT.addr 0 0, R.STEEP_STAT.addr 0 0] ++ (List.range 4).map (fun e => R.TUN_STAT.addr 0 e) ++ (List.range 3).map (fun p => R.RHL_PORT.addr 0 p) ++ (List.range 8).map (fun n => R.KILN_STAT.addr n 0) ++ [R.PAIR_STAT.addr 0 0, R.PWR_PMB_STAT.addr 0 0]) ∧
      t.mem = s.mem) ∧
  (∀ (s : State) (c : PowerCmd),
      s.dev.pwr.cmd = some c → c.state = 4 → s.dev.pwr.committed = false → (List.range 8).all s.work.atRest = true →
      s.dev.pwr.tapDone = true →
      (List.range 8).all (fun n => (List.range 2).all (fun l => !(s.work.tapOf n l).ready)) = true →
      s.get F.PWR_WAKE_PEND_PEND = 0 →
    ∃ t, exec (.powerEntryCommit) s = .next t ∧
      t.get F.PWR_STAT_STATE = 4 ∧
      (∀ ch : Fin 8, t.get F.KILN_STAT_VLCD_ACT ch = 0 ∧ t.flag F.KILN_STAT_READY ch = false ∧ (t.chan ch).kiln.cold = true ∧ (t.chan ch).kiln.acc = []) ∧
      t.dev.mon.still = true ∧ (∀ e : Fin 4, t.get F.TUN_STAT_STATE 0 e = 0) ∧
      (∀ p : Fin 3, t.flag F.RHL_PORT_LINK 0 p = false) ∧ t.get F.NET_PTP_STAT_STATE = 0 ∧
      t.flag F.STEEP_STAT_BORROWED = false ∧ t.get F.WAKE_REC_REG_NOACK = 0 ∧ t.get F.WAKE_REC_WAKE_FAIL_REG = 0 ∧
      t.flag F.PWR_STAT_ENTERING = false ∧
      t.dev.pwr = { s.dev.pwr with committed := true, pads := (List.range 8).map (fun n => if bitOf (s.get F.PWR_STAT_LATCHED) n then s.dev.pwr.pads.getD n [] else (List.range 80).map (s.work.padOf n)) } ∧
      t.get F.PWR_STAT_LATCHED = 255 ∧ t.flag F.PAIR_STAT_LEAD = false ∧
      t.dev.sent = [⟨5, s.get F.PWR_CFG_PMB_ADDR, 0x01, s.get F.PWR_CFG_PEC_EN, [0, 0]⟩] ∧
      s.sameRegs t ([R.PWR_STAT.addr 0 0, R.PWR_LF.addr 0 0, R.WAKE_REC.addr 0 0, R.NET_PTP_STAT.addr 0 0, R.STEEP_STAT.addr 0 0] ++ (List.range 4).map (fun e => R.TUN_STAT.addr 0 e) ++ (List.range 3).map (fun p => R.RHL_PORT.addr 0 p) ++ (List.range 8).map (fun n => R.KILN_STAT.addr n 0) ++ [R.PAIR_STAT.addr 0 0]) ∧
      t.mem = s.mem) ∧
  (∀ (s : State) (c : PowerCmd) (x : Nat × Nat × Nat) (f : Flight),
      s.dev.pwr.cmd = some c → c.state = 2 → s.dev.pwr.committed = false → (List.range 8).all s.work.atRest = true →
      s.dev.pwr.tapDone = true →
      (List.range 8).all (fun n => (List.range 2).all (fun l => !(s.work.tapOf n l).ready)) = true →
      s.get F.PWR_WAKE_PEND_PEND ≠ 0 → s.dev.pwr.source = some x → x.1 < 16 → x.2.1 < 8 → x.2.2 < 4 →
      c.origin = .host → s.dev.host.port.flight = some f → f.late = false →
    ∃ t, exec (.powerEntryCommit) s = .next t ∧
      t.get F.WAKE_REC_SOURCE = x.1 ∧ t.get F.WAKE_REC_STATE = c.state ∧ t.flag F.WAKE_REC_CANCELLED = true ∧
      t.get F.WAKE_REC_CHANNEL = x.2.1 ∧ t.get F.WAKE_REC_PORT = x.2.2 ∧ t.get F.PWR_STAT_STATE = 0 ∧
      t.flag F.PWR_STAT_ENTERING = false ∧
      t.dev.pwr = { Pwr.init with release := s.dev.pwr.release, autoRel := s.dev.pwr.autoRel } ∧
      s.hostAnswered t f.op f.tag stOk (leBytes 1 1 ++ leBytes 1 x.1 ++ leBytes 1 (x.2.1 % 8 + 16 * (x.2.2 % 4)) ++ leBytes 1 0 ++ leBytes 4 0) ∧
      (∀ ch : Fin 8, bitOf s.dev.pwr.quiesced ch = true → (t.chan ch).restart ≠ none ∨ (s.chan ch).kiln.quiesce = .pend) ∧
      t.flag F.STEEP_STAT_BORROWED = false ∧
      s.sameRegs t ([R.PWR_STAT.addr 0 0, R.WAKE_REC.addr 0 0, R.STEEP_STAT.addr 0 0] ++ hostRegs ++ ringRegs devRing) ∧
      s.sameMemButNext t devRing) ∧
  (∀ (s : State) (c : PowerCmd) (ch : Fin 8) (j : Fin 2),
      s.dev.pwr.cmd = some c → bitOf c.wakeMask 1 = true → s.get F.PWR_STAT_STATE < 3 →
      s.flag F.ENC_CFG_EN ch j = true →
    ∃ t, exec (.wakeEnc ch) s = .next t ∧
      t.get F.PWR_WAKE_PEND_PEND = setBit (s.get F.PWR_WAKE_PEND_PEND) 1 true ∧
      t.dev.pwr = { s.dev.pwr with source := some (s.dev.pwr.source.getD (2, ch.val, 0)) } ∧ t.dev.sent = [] ∧
      s.sameRegs t [R.PWR_WAKE_PEND.addr 0 0] ∧ t.mem = s.mem) ∧
  (∀ (s : State) (c : PowerCmd) (ch : Fin 8),
      s.dev.pwr.cmd = some c → bitOf c.wakeMask 1 = false → s.get F.PWR_STAT_STATE < 4 →
    ∃ t, exec (.wakeEnc ch) s = .next t ∧
      t = { s with dev := { s.dev with sent := [] } }) ∧
  (∀ (s : State) (c : PowerCmd),
      s.dev.pwr.cmd = some c → bitOf c.wakeMask 2 = true → s.get F.PWR_STAT_STATE < 3 →
    ∃ t, exec (.wakeHost) s = .next t ∧
      t.get F.PWR_WAKE_PEND_PEND = setBit (s.get F.PWR_WAKE_PEND_PEND) 2 true ∧
      t.dev.pwr = { s.dev.pwr with source := some (s.dev.pwr.source.getD (3, 0, 0)) } ∧ t.dev.sent = [] ∧
      s.sameRegs t [R.PWR_WAKE_PEND.addr 0 0] ∧ t.mem = s.mem) ∧
  (∀ (s : State) (c : PowerCmd),
      s.dev.pwr.cmd = some c → bitOf c.wakeMask 2 = false → s.get F.PWR_STAT_STATE < 4 →
    ∃ t, exec (.wakeHost) s = .next t ∧
      t = { s with dev := { s.dev with sent := [] } }) ∧
  (∀ (s : State) (c : PowerCmd) (p : Fin 2),
      s.dev.pwr.cmd = some c → bitOf c.wakeMask 3 = true → s.get F.PWR_STAT_STATE < 3 → s.dev.pwr.committed = true →
      s.get F.NET_PORT_MODE 0 p ≠ 0 →
    ∃ t, exec (.wakePhy p) s = .next t ∧
      t.get F.PWR_WAKE_PEND_PEND = setBit (s.get F.PWR_WAKE_PEND_PEND) 3 true ∧
      t.dev.pwr = { s.dev.pwr with source := some (s.dev.pwr.source.getD (4, 0, p.val)) } ∧ t.dev.sent = [] ∧
      s.sameRegs t [R.PWR_WAKE_PEND.addr 0 0] ∧ t.mem = s.mem) ∧
  (∀ (s : State) (c : PowerCmd) (p : Fin 2),
      s.dev.pwr.cmd = some c → bitOf c.wakeMask 3 = false → s.get F.PWR_STAT_STATE < 4 →
    ∃ t, exec (.wakePhy p) s = .next t ∧
      t = { s with dev := { s.dev with sent := [] } }) ∧
  (∀ (s : State) (c : PowerCmd) (p : Fin 3),
      s.dev.pwr.cmd = some c → bitOf c.wakeMask 4 = true → s.get F.PWR_STAT_STATE < 3 → s.dev.pwr.committed = true →
      bitOf (s.get F.RHL_CFG_PORT_EN) p = true →
    ∃ t, exec (.wakeFabric p) s = .next t ∧
      t.get F.PWR_WAKE_PEND_PEND = setBit (s.get F.PWR_WAKE_PEND_PEND) 4 true ∧
      t.dev.pwr = { s.dev.pwr with source := some (s.dev.pwr.source.getD (5, 0, p.val)) } ∧ t.dev.sent = [] ∧
      s.sameRegs t [R.PWR_WAKE_PEND.addr 0 0] ∧ t.mem = s.mem) ∧
  (∀ (s : State) (c : PowerCmd) (p : Fin 3),
      s.dev.pwr.cmd = some c → bitOf c.wakeMask 4 = false → s.get F.PWR_STAT_STATE < 4 →
    ∃ t, exec (.wakeFabric p) s = .next t ∧
      t = { s with dev := { s.dev with sent := [] } }) ∧
  (∀ (s : State) (c : PowerCmd),
      s.dev.pwr.cmd = some c → bitOf c.wakeMask 5 = true → s.get F.PWR_STAT_STATE < 3 →
    ∃ t, exec (.wakePin) s = .next t ∧
      t.get F.PWR_WAKE_PEND_PEND = setBit (s.get F.PWR_WAKE_PEND_PEND) 5 true ∧
      t.dev.pwr = { s.dev.pwr with source := some (s.dev.pwr.source.getD (6, 0, 0)) } ∧ t.dev.sent = [] ∧
      s.sameRegs t [R.PWR_WAKE_PEND.addr 0 0] ∧ t.mem = s.mem) ∧
  (∀ (s : State) (c : PowerCmd),
      s.dev.pwr.cmd = some c → bitOf c.wakeMask 5 = false → s.get F.PWR_STAT_STATE < 4 →
    ∃ t, exec (.wakePin) s = .next t ∧
      t = { s with dev := { s.dev with sent := [] } }) ∧
  (∀ (s : State) (c : PowerCmd),
      s.dev.pwr.cmd = some c → bitOf c.wakeMask 6 = true → s.get F.PWR_STAT_STATE < 3 → s.dev.pwr.committed = true →
    ∃ t, exec (.wakeTimer) s = .next t ∧
      t.get F.PWR_WAKE_PEND_PEND = setBit (s.get F.PWR_WAKE_PEND_PEND) 6 true ∧
      t.dev.pwr = { s.dev.pwr with source := some (s.dev.pwr.source.getD (7, 0, 0)) } ∧ t.dev.sent = [] ∧
      s.sameRegs t [R.PWR_WAKE_PEND.addr 0 0] ∧ t.mem = s.mem) ∧
  (∀ (s : State) (c : PowerCmd),
      s.dev.pwr.cmd = some c → bitOf c.wakeMask 6 = false → s.get F.PWR_STAT_STATE < 4 →
    ∃ t, exec (.wakeTimer) s = .next t ∧
      t = { s with dev := { s.dev with sent := [] } }) ∧
  (∀ (s : State) (c : PowerCmd) (ch : Fin 8),
      s.dev.pwr.cmd = some c → bitOf c.wakeMask 7 = true → s.get F.PWR_STAT_STATE < 3 →
    ∃ t, exec (.wakeChev ch) s = .next t ∧
      t.get F.PWR_WAKE_PEND_PEND = setBit (s.get F.PWR_WAKE_PEND_PEND) 7 true ∧
      t.dev.pwr = { s.dev.pwr with source := some (s.dev.pwr.source.getD (8, ch.val, 0)) } ∧ t.dev.sent = [] ∧
      s.sameRegs t [R.PWR_WAKE_PEND.addr 0 0] ∧ t.mem = s.mem) ∧
  (∀ (s : State) (c : PowerCmd) (ch : Fin 8),
      s.dev.pwr.cmd = some c → bitOf c.wakeMask 7 = false → s.get F.PWR_STAT_STATE < 4 →
    ∃ t, exec (.wakeChev ch) s = .next t ∧
      t = { s with dev := { s.dev with sent := [] } }) ∧
  (∀ (s : State) (c : PowerCmd),
      s.dev.pwr.cmd = some c → bitOf c.wakeMask 8 = true → s.get F.PWR_STAT_STATE < 3 →
    ∃ t, exec (.wakeNet) s = .next t ∧
      t.get F.PWR_WAKE_PEND_PEND = setBit (s.get F.PWR_WAKE_PEND_PEND) 8 true ∧
      t.dev.pwr = { s.dev.pwr with source := some (s.dev.pwr.source.getD (9, 0, 0)) } ∧ t.dev.sent = [] ∧
      s.sameRegs t [R.PWR_WAKE_PEND.addr 0 0] ∧ t.mem = s.mem) ∧
  (∀ (s : State) (c : PowerCmd),
      s.dev.pwr.cmd = some c → bitOf c.wakeMask 8 = false → s.get F.PWR_STAT_STATE < 4 →
    ∃ t, exec (.wakeNet) s = .next t ∧
      t = { s with dev := { s.dev with sent := [] } }) ∧
  (∀ (s : State) (c : PowerCmd),
      s.dev.pwr.cmd = some c → c.state = 3 → bitOf c.wakeMask 6 = true → s.dev.pwr.committed = true →
      s.get F.PWR_STAT_STATE = 3 → s.dev.pwr.pmb = none → s.dev.pwr.vcoreUp = false →
    ∃ t, exec (.wakeTimer) s = .next t ∧
      t.get F.PWR_WAKE_PEND_PEND = setBit (s.get F.PWR_WAKE_PEND_PEND) 6 true ∧
      t.dev.pwr.pmb = some (s.get F.PWR_VOUT_RUN_MV, 0) ∧ t.get F.PWR_PMB_STAT_ATTEMPTS = 1 ∧
      t.dev.sent = [⟨5, s.get F.PWR_CFG_PMB_ADDR, 0x21, s.get F.PWR_CFG_PEC_EN, leBytes 2 (s.work.voutWord (s.get F.PWR_VOUT_RUN_MV))⟩] ∧
      s.sameRegs t [R.PWR_WAKE_PEND.addr 0 0, R.PWR_PMB_STAT.addr 0 0] ∧ t.mem = s.mem) ∧
  (∀ (s : State) (c : PowerCmd),
      s.dev.pwr.cmd = some c → c.state = 4 → bitOf c.wakeMask 5 = true → s.get F.PWR_STAT_STATE = 4 →
      s.dev.pwr.offWait = false →
    ∃ t, exec (.wakePin) s = .next t ∧
      t.get F.PWR_WAKE_PEND_PEND = setBit (s.get F.PWR_WAKE_PEND_PEND) 5 true ∧ t.dev.pwr.offWait = true ∧
      t.get F.WAKE_REC_SOURCE = 6 ∧ t.get F.WAKE_REC_STATE = 4 ∧
      t.dev.sent = [⟨5, s.get F.PWR_CFG_PMB_ADDR, 0x01, s.get F.PWR_CFG_PEC_EN, [0x80, 0]⟩] ∧
      s.sameRegs t [R.PWR_WAKE_PEND.addr 0 0, R.WAKE_REC.addr 0 0] ∧ t.mem = s.mem) ∧
  (∀ (s : State) (c : PowerCmd) (ch : Fin 8) (low l : Nat),
      s.dev.pwr.cmd = some c → c.state = 2 → bitOf c.wakeMask 0 = true → s.chState ch = stQuiesced →
      bitOf s.dev.pwr.armed ch = true → l ∈ (s.chan ch).seq.act.ladders → bitOf low l = true →
      bitOf (tabGet s.dev.pwr.masked 0 ch) l = false → tabGet s.dev.pwr.lows 0 (8 * ch + l) = 1 → l < 8 →
      (s.chan ch).seq.act.ladders.Nodup → s.work.pwrState ≠ 3 →
    ∃ t, exec (.wakeKey ch low) s = .next t ∧
      t.get F.PWR_WAKE_PEND_PEND = setBit (s.get F.PWR_WAKE_PEND_PEND) 0 true ∧
      t.dev.pwr.source = some (s.dev.pwr.source.getD (1, ch.val, 0)) ∧ t.dev.sent = [] ∧
      s.sameRegs t [R.PWR_WAKE_PEND.addr 0 0] ∧ t.mem = s.mem) ∧
  (∀ (s : State) (c : PowerCmd) (ch : Fin 8) (low : Nat),
      s.dev.pwr.cmd = some c → c.state = 2 → bitOf c.wakeMask 0 = true → s.chState ch = stQuiesced →
      (s.chan ch).seq.act.ladders.all (fun l => !bitOf low l) = true →
    ∃ t, exec (.wakeKey ch low) s = .next t ∧
      t.get F.PWR_WAKE_PEND_PEND = s.get F.PWR_WAKE_PEND_PEND ∧ (bitOf t.dev.pwr.armed ch = true ∨ 8 ≤ ch.val) ∧
      tabGet t.dev.pwr.masked 0 ch = 0 ∧ s.sameRegs t [] ∧ t.mem = s.mem) ∧
  (∀ (s : State) (c : PowerCmd) (x : Nat × Nat × Nat) (f : Flight) (ms : Nat),
      s.dev.pwr.cmd = some c → s.get F.PWR_STAT_STATE = 1 → c.state = 1 → s.dev.pwr.committed = true →
      s.dev.pwr.source = some x → x.1 < 16 → x.2.1 < 8 → x.2.2 < 4 → c.origin = .host →
      s.dev.host.port.flight = some f → f.late = false → s.dev.host.held = none → s.dev.fab.wrapQ = [] →
    ∃ t, exec (.powerExit ms) s = .next t ∧
      t.get F.WAKE_REC_SOURCE = x.1 ∧ t.get F.WAKE_REC_STATE = 1 ∧ t.flag F.WAKE_REC_CANCELLED = false ∧
      t.get F.WAKE_REC_CHANNEL = x.2.1 ∧ t.get F.WAKE_REC_PORT = x.2.2 ∧ t.get F.PWR_STAT_STATE = 0 ∧
      t.flag F.PWR_STAT_ENTERING = false ∧
      t.dev.pwr = { Pwr.init with release := s.dev.pwr.release, autoRel := s.dev.pwr.autoRel } ∧
      s.hostAnswered t f.op f.tag stOk (leBytes 1 0 ++ leBytes 1 x.1 ++ leBytes 1 (x.2.1 % 8 + 16 * (x.2.2 % 4)) ++ leBytes 1 0 ++ leBytes 4 ms) ∧
      t.dev.ch = s.dev.ch ∧ t.dev.tick = s.dev.tick ∧
      s.sameRegs t ([R.PWR_STAT.addr 0 0, R.WAKE_REC.addr 0 0] ++ hostRegs ++ ringRegs devRing) ∧
      s.sameMemButNext t devRing) ∧
  (∀ (s : State) (c : PowerCmd) (x : Nat × Nat × Nat) (f : Flight) (ms : Nat),
      s.dev.pwr.cmd = some c → s.get F.PWR_STAT_STATE = 2 → c.state = 2 → s.dev.pwr.committed = true →
      s.dev.pwr.source = some x → x.1 < 16 → x.2.1 < 8 → x.2.2 < 4 → c.origin = .host →
      s.dev.host.port.flight = some f → f.late = false → s.dev.host.held = none → s.dev.fab.wrapQ = [] →
      s.dev.pwr.lost = 0 → s.work.member = false →
    ∃ t, exec (.powerExit ms) s = .next t ∧
      t.get F.WAKE_REC_SOURCE = x.1 ∧ t.get F.WAKE_REC_STATE = 2 ∧ t.flag F.WAKE_REC_CANCELLED = false ∧
      t.get F.WAKE_REC_CHANNEL = x.2.1 ∧ t.get F.WAKE_REC_PORT = x.2.2 ∧ t.get F.PWR_STAT_STATE = 0 ∧
      t.flag F.PWR_STAT_ENTERING = false ∧
      t.dev.pwr = { Pwr.init with release := s.dev.pwr.release, autoRel := s.dev.pwr.autoRel } ∧
      s.hostAnswered t f.op f.tag stOk (leBytes 1 0 ++ leBytes 1 x.1 ++ leBytes 1 (x.2.1 % 8 + 16 * (x.2.2 % 4)) ++ leBytes 1 0 ++ leBytes 4 ms) ∧
      t.dev.tick = (s.dev.tick + divRound (ms * 1000) s.dev.lock.periodUs) % 2 ^ 48 ∧
      (∀ ch : Fin 8, bitOf s.dev.pwr.quiesced ch = true → (s.chan ch).seq.act.slots.isEmpty = false → (s.chan ch).kiln.quiesce ≠ .pend → (t.chan ch).restart ≠ none) ∧
      (∀ e : Fin 4, bitOf (s.get F.TUN_CTL_RUNNING) e = true → t.get F.TUN_STAT_STATE 0 e = 1) ∧
      s.sameRegs t ([R.PWR_STAT.addr 0 0, R.WAKE_REC.addr 0 0] ++ hostRegs ++ ringRegs devRing ++ R.SYS_REL.addr 0 0 :: (List.range 4).map (fun e => R.TUN_STAT.addr 0 e)) ∧
      s.sameMemButNext t devRing) ∧
  (∀ (s : State) (c : PowerCmd) (x : Nat × Nat × Nat) (f : Flight) (ms : Nat) (b : Fin 8),
      s.dev.pwr.cmd = some c → s.get F.PWR_STAT_STATE = 3 → s.dev.pwr.committed = true → s.dev.pwr.source = some x →
      x.1 < 16 → x.2.1 < 8 → x.2.2 < 4 → c.origin = .host → s.dev.host.port.flight = some f → f.late = false →
      s.dev.host.held = none → s.dev.fab.wrapQ = [] → s.dev.pwr.vcoreUp = true →
      bitOf s.dev.pwr.lost (16 + b.val) = true → (s.chan b).inReset = false →
    ∃ t, exec (.powerExit ms) s = .next t ∧
      t.get F.PWR_STAT_STATE = 0 ∧ t.dev.pwr = { Pwr.init with release := s.dev.pwr.release, autoRel := true } ∧
      t.chState b = stReset ∧ (t.chan b).running = false ∧ (t.chan b).seq.act = PlanSet.init ∧
      t.work.ringCount b = 0 ∧ (∀ k : Nat, k < bankSize (16 + b.val) → t.byte (bankBase (16 + b.val) + k) = 0) ∧
      t.get F.PWR_STAT_LATCHED = s.get F.PWR_STAT_LATCHED)

/-- The regulator's polling and its failures, the alert, the fall-back of the crystal, and pads whose latch is lost
(R413, R416 to R419). -/
def Obligations.RegulatorAndPads : Prop :=
  (∀ (s : State) (target polls status mv : Nat),
      s.dev.pwr.pmb = some (target, polls) → bitOf status 11 = false → bitOf status 15 = false →
      bitOf status 5 = false → s.dev.pwr.source = none →
    ∃ t, exec (.pmbusPoll true status mv) s = .next t ∧
      t.dev.pwr = { s.dev.pwr with pmb := none, vcoreUp := false } ∧
      t.get F.PWR_PMB_STAT_STATUS_WORD = status % 65536 ∧ t.dev.sent = [] ∧ s.sameRegs t [R.PWR_PMB_STAT.addr 0 0] ∧
      t.mem = s.mem) ∧
  (∀ (s : State) (target polls status mv : Nat),
      s.dev.pwr.pmb = some (target, polls) → bitOf status 11 = true → polls + 1 < 40 →
    ∃ t, exec (.pmbusPoll true status mv) s = .next t ∧
      t.dev.pwr = { s.dev.pwr with pmb := some (target, polls + 1) } ∧
      t.get F.PWR_PMB_STAT_STATUS_WORD = status % 65536 ∧ t.dev.sent = [] ∧ s.sameRegs t [R.PWR_PMB_STAT.addr 0 0] ∧
      t.mem = s.mem) ∧
  (∀ (s : State) (target polls status mv : Nat),
      s.dev.pwr.pmb = some (target, polls) → s.get F.PWR_PMB_STAT_ATTEMPTS < 4 →
    ∃ t, exec (.pmbusPoll false status mv) s = .next t ∧
      t.dev.pwr = { s.dev.pwr with pmb := some (target, 0) } ∧
      t.get F.PWR_PMB_STAT_ATTEMPTS = s.get F.PWR_PMB_STAT_ATTEMPTS + 1 ∧
      t.dev.sent = [⟨5, s.get F.PWR_CFG_PMB_ADDR, 0x21, s.get F.PWR_CFG_PEC_EN, leBytes 2 (s.work.voutWord target)⟩] ∧
      s.sameRegs t [R.PWR_PMB_STAT.addr 0 0] ∧ t.mem = s.mem) ∧
  (∀ (s : State) (target polls status mv : Nat),
      s.dev.pwr.pmb = some (target, polls) → bitOf status 11 = true → 40 ≤ polls + 1 →
      s.get F.PWR_PMB_STAT_ATTEMPTS < 4 →
    ∃ t, exec (.pmbusPoll true status mv) s = .next t ∧
      t.dev.pwr = { s.dev.pwr with pmb := some (target, 0) } ∧
      t.get F.PWR_PMB_STAT_ATTEMPTS = s.get F.PWR_PMB_STAT_ATTEMPTS + 1 ∧
      t.dev.sent = [⟨5, s.get F.PWR_CFG_PMB_ADDR, 0x21, s.get F.PWR_CFG_PEC_EN, leBytes 2 (s.work.voutWord target)⟩] ∧
      s.sameRegs t [R.PWR_PMB_STAT.addr 0 0] ∧ t.mem = s.mem) ∧
  (∀ (s : State) (target polls status mv : Nat),
      s.dev.pwr.pmb = some (target, polls) → 4 ≤ s.get F.PWR_PMB_STAT_ATTEMPTS → 720 ≤ mv → mv ≤ 880 →
      s.dev.pwr.source = none →
    ∃ t, exec (.pmbusPoll false status mv) s = .next t ∧
      t.flag F.WAKE_REC_REG_NOACK = true ∧ t.flag F.PWR_PMB_STAT_REG_NOACK = true ∧
      t.dev.pwr = { s.dev.pwr with pmb := none, vcoreUp := false } ∧
      s.sameRegs t [R.PWR_PMB_STAT.addr 0 0, R.WAKE_REC.addr 0 0] ∧ t.mem = s.mem) ∧
  (∀ (s : State) (target polls status mv : Nat),
      s.dev.pwr.pmb = some (target, polls) → 4 ≤ s.get F.PWR_PMB_STAT_ATTEMPTS → mv < 620 → s.dev.rst.hold = .none →
    ∃ t, exec (.pmbusPoll false status mv) s = .next t ∧
      t.flag F.WAKE_REC_WAKE_FAIL_REG = true ∧ t.dev.rst.hold = .held ∧ bitOf t.dev.rst.src 3 = true ∧
      t.dev.ch = Dev.init.ch ∧ t.mem = s.mem) ∧
  (∀ (s : State),
      s.get F.PWR_STAT_STATE = 4 → s.dev.pwr.offWait = true →
    ∃ t, exec (.offWakeTimeout) s = .next t ∧
      t.flag F.WAKE_REC_WAKE_FAIL_REG = true ∧ t.flag F.PWR_PMB_STAT_WAKE_FAIL_REG = true ∧
      t.dev.pwr = { s.dev.pwr with offWait := false } ∧
      t.dev.sent = [⟨5, s.get F.PWR_CFG_PMB_ADDR, 0x01, s.get F.PWR_CFG_PEC_EN, [0, 0]⟩] ∧
      s.sameRegs t [R.PWR_PMB_STAT.addr 0 0, R.WAKE_REC.addr 0 0] ∧ t.mem = s.mem) ∧
  (∀ (s : State) (status : Nat),
      s.get F.PWR_STAT_STATE ≤ 1 →
    ∃ t, exec (.pmbAlert status) s = .next t ∧
      t.get F.PWR_PMB_STAT_STATUS_WORD = status % 65536 ∧ t.flag F.PWR_PMB_STAT_ALERT = true ∧
      t.dev.pwr = s.dev.pwr ∧ s.sameRegs t (R.PWR_PMB_STAT.addr 0 0 :: ringRegs devRing) ∧ s.sameMemButNext t devRing) ∧
  (∀ (s : State),
      s.dev.rst.hold = .none → s.work.relStep = 2 →
    ∃ t, exec (.crystalFallback) s = .next t ∧
      t.flag F.WAKE_REC_OSC_FALLBACK = true ∧ t.flag F.SYS_REL_RC_FALLBACK = true ∧
      t.dev.rst = { s.dev.rst with rcMode := true } ∧ (∀ p : Fin 3, t.flag F.RHL_PORT_LINK 0 p = false) ∧
      (∀ p : Fin 2, t.flag F.NET_PORT_LINK 0 p = false) ∧ t.get F.RHL_STAT_STATE = 0 ∧
      t.get F.SYS_TICK_STAT_LOCK_STATE = 0 ∧
      s.sameRegs t ([R.WAKE_REC.addr 0 0, R.SYS_REL.addr 0 0, R.NET_PORT.addr 0 0, R.NET_PORT.addr 0 1, R.RHL_STAT.addr 0 0, R.NET_PTP_STAT.addr 0 0, R.SYS_TICK_STAT.addr 0 0] ++ (List.range 3).map (fun p => R.RHL_PORT.addr 0 p) ++ ringRegs devRing) ∧
      s.sameMemButNext t devRing) ∧
  (∀ (s : State),
      s.get F.PWR_STAT_LATCHED ≠ 0 →
    ∃ t, exec (.latchLost) s = .next t ∧
      t.get F.PWR_STAT_LATCHED = 0 ∧ t.flag F.PWR_STAT_LATCH_LOST = true ∧
      (∀ ch : Fin 8, bitOf (s.get F.PWR_STAT_LATCHED) ch = true → (s.chan ch).inReset = false → t.chState ch = stReset) ∧
      t.dev.ch = s.dev.ch ∧ s.sameRegs t [R.PWR_STAT.addr 0 0, R.SYS_CH_STATE.addr 0 0] ∧ t.mem = s.mem)

/-- Nonces and their expiry (R423, R424), the end of a lockout (R425), and erase-then-open: the request, its steps, and
the closing of the port (R427 to R431). The nonce's words are free values (log entry 5). -/
def Obligations.SecretsAndService : Prop :=
  (∀ (s : State) (o : Origin) (v : Word),
      s.accepts (R.SEC_CHAL.addr 0 0) v.toNat = true → bitOf v.toNat 0 = true →
    ∃ t, exec (.nonceRequest o v) s = .next t ∧
      t.flag F.SEC_STAT_NONCE_VALID = true ∧ t.dev.sec = { s.dev.sec with nonceTick := s.dev.bounds } ∧
      (∀ k : Fin 4, t.reg (R.SEC_NONCE.addr 0 k) = (Config.freeValue 32 (s.dev.free + k.val)).toNat) ∧
      s.sameRegs t (R.SEC_STAT.addr 0 0 :: (List.range 4).map (fun k => R.SEC_NONCE.addr 0 k)) ∧ t.mem = s.mem) ∧
  (∀ (s : State),
      s.flag F.SEC_STAT_NONCE_VALID = true → s.dev.sec.nonceTick + 1024 ≤ s.dev.bounds →
    ∃ t, exec (.nonceExpire) s = .next t ∧
      t.flag F.SEC_STAT_NONCE_VALID = false ∧ (∀ k : Fin 4, t.reg (R.SEC_NONCE.addr 0 k) = 0) ∧
      t.dev.sec = s.dev.sec ∧
      s.sameRegs t (R.SEC_STAT.addr 0 0 :: (List.range 4).map (fun k => R.SEC_NONCE.addr 0 k)) ∧ t.mem = s.mem) ∧
  (∀ (s : State),
      s.dev.bounds < s.dev.sec.nonceTick + 1024 →
    ∃ t, exec (.nonceExpire) s = .next t ∧
      t = { s with dev := { s.dev with sent := [] } }) ∧
  (∀ (s : State),
      s.flag F.SEC_STAT_LOCKOUT = true →
    ∃ t, exec (.lockoutEnd) s = .next t ∧
      t.flag F.SEC_STAT_LOCKOUT = false ∧ t.get F.SEC_STAT_FAILS = 0 ∧ s.sameRegs t [R.SEC_STAT.addr 0 0] ∧
      t.mem = s.mem) ∧
  (∀ (s : State),
      s.flag F.SEC_STAT_NO_DEBUG = false → s.dev.sec.erase = .none → s.flag F.SEC_STAT_DEBUG_OPEN = false →
    ∃ t, exec (.openReq) s = .next t ∧
      (∀ ch : Fin 8, (s.chan ch).running = true → (s.chan ch).kiln.quiesce = .none → (t.chan ch).kiln.quiesce = .pend) ∧
      (∀ ch : Fin 8, (s.chan ch).running = false → t.chan ch = s.chan ch) ∧ t.flag F.SEC_STAT_ERASING = true ∧
      t.dev.sec = { s.dev.sec with erase := .step 0 false } ∧
      t.dev.pair.release = union s.dev.pair.release s.work.activeMask ∧ s.sameRegs t [R.SEC_STAT.addr 0 0] ∧
      t.mem = s.mem) ∧
  (∀ (s : State),
      s.flag F.SEC_STAT_NO_DEBUG = true →
    ∃ t, exec (.openReq) s = .next t ∧
      t.dev.sec = s.dev.sec ∧ t.dev.ch = s.dev.ch ∧ s.sameRegs t (ringRegs devRing) ∧ s.sameMemButNext t devRing) ∧
  (∀ (s : State) (o : Origin) (v : Word),
      s.accepts (R.SEC_DBG_CTL.addr 0 0) v.toNat = true → bitOf v.toNat 0 = true → bitOf v.toNat 1 = false →
      s.flag F.SEC_STAT_NO_DEBUG = false → s.dev.sec.erase = .none → s.flag F.SEC_STAT_DEBUG_OPEN = false →
    ∃ t, exec (.debugOpenWrite o v) s = .next t ∧
      (∀ ch : Fin 8, (s.chan ch).running = true → (s.chan ch).kiln.quiesce = .none → (t.chan ch).kiln.quiesce = .pend) ∧
      (∀ ch : Fin 8, (s.chan ch).running = false → t.chan ch = s.chan ch) ∧ t.flag F.SEC_STAT_ERASING = true ∧
      t.dev.sec = { s.dev.sec with erase := .step 0 false } ∧
      t.dev.pair.release = union s.dev.pair.release s.work.activeMask ∧ s.sameRegs t [R.SEC_STAT.addr 0 0] ∧
      t.mem = s.mem) ∧
  (∀ (s : State) (o : Origin) (v : Word),
      s.accepts (R.SEC_DBG_CTL.addr 0 0) v.toNat = true → bitOf v.toNat 0 = false → bitOf v.toNat 1 = true →
      s.flag F.SEC_STAT_DEBUG_OPEN = true →
    ∃ t, exec (.debugClose o v) s = .next t ∧
      t.flag F.SEC_STAT_DEBUG_OPEN = false ∧ t.dev.sec = s.dev.sec ∧
      s.sameRegs t (R.SEC_STAT.addr 0 0 :: ringRegs devRing) ∧ s.sameMemButNext t devRing) ∧
  (∀ (s : State) (again : Bool),
      s.dev.sec.erase = .step 0 again → (List.range 8).all s.work.atRest = true →
    ∃ t, exec (.eraseStep true) s = .next t ∧
      t.dev.sec = { s.dev.sec with erase := .step 1 false } ∧ s.sameRegs t [] ∧ t.mem = s.mem) ∧
  (∀ (s : State) (again : Bool),
      s.dev.sec.erase = .step 1 again → 8 ≤ s.work.relStep →
    ∃ t, exec (.eraseStep true) s = .next t ∧
      t.dev.sec = { s.dev.sec with keys := [], erase := .step 2 false } ∧ t.get F.SEC_STAT_KEYS = 0 ∧
      s.sameRegs t [R.SEC_STAT.addr 0 0] ∧ t.mem = s.mem) ∧
  (∀ (s : State) (again : Bool),
      s.dev.sec.erase = .step 2 again → 8 ≤ s.work.relStep →
    ∃ t, exec (.eraseStep true) s = .next t ∧
      (∀ k : Fin 0x2000, t.byte (0x03000000 + k.val) = 0) ∧ s.sameBytesBut t 0x03000000 0x2000 ∧
      t.dev.sec = { s.dev.sec with erase := .step 3 false } ∧ s.sameRegs t []) ∧
  (∀ (s : State) (again : Bool) (a r : Nat),
      s.dev.sec.erase = .step 3 again → 8 ≤ s.work.relStep →
      (a < 0x200000 ∨ (0x01000000 ≤ a ∧ a < 0x01100000) ∨ (0x02000000 ≤ a ∧ a < 0x02100000)) → r ≤ 8 →
    ∃ t, exec (.eraseStep true) s = .next t ∧
      t.byte a = 0 ∧ t.work.ringCount r = 0 ∧ t.work.ringNext r = 0 ∧ t.work.ringOldest r = 0 ∧
      t.dev.sec = { s.dev.sec with erase := .step 4 false } ∧ s.sameRegs t (((List.range 9).map ringRegs).flatten)) ∧
  (∀ (s : State) (again : Bool),
      s.dev.sec.erase = .step 4 again → 8 ≤ s.work.relStep →
    ∃ t, exec (.eraseStep true) s = .next t ∧
      t.dev.img.whole = none ∧ t.dev.img.partials = List.replicate 8 none ∧ t.dev.img.primary = s.dev.img.primary ∧
      t.get F.SYS_IMG_SERIAL_SERIAL = 0 ∧ t.flag F.SYS_IMG_STAT_ACTIVE = false ∧
      (∀ ch : Fin 8, t.get F.SYS_IMG_CHSER_SERIAL 0 ch = 0) ∧ (∀ e : Fin 4, (t.work.tunEng e).code = []) ∧
      t.dev.sec = { s.dev.sec with erase := .step 5 false }) ∧
  (∀ (s : State) (again : Bool),
      s.dev.sec.erase = .step 5 again → 8 ≤ s.work.relStep →
    ∃ t, exec (.eraseStep true) s = .next t ∧
      t.flag F.SEC_STAT_DEBUG_OPEN = true ∧ t.flag F.SEC_STAT_ERASING = false ∧
      t.flag F.SEC_FLAGS_SECRETS_ERASED = true ∧ t.work.mode = mdRecovery ∧
      t.dev.sec = { s.dev.sec with erase := .none } ∧
      (s.work.mode = mdRecovery → s.sameRegs t ([R.SEC_STAT.addr 0 0, R.SEC_FLAGS.addr 0 0] ++ ringRegs devRing)) ∧
      s.sameMemButNext t devRing)

/-- Commands of the event counters wait for their boundary with the mask of their write (R434), the automatic snapshot
(R435), and the declarations of the temperature monitor (R457, R458). -/
def Obligations.CountersAndTemperature : Prop :=
  (∀ (s : State) (o : Origin) (v : Word),
      s.accepts (R.MON_CMD.addr 0 0) v.toNat = true → v.toNat % 32 = 1 →
    ∃ t, exec (.monStart o v) s = .next t ∧
      t.dev.mon = { s.dev.mon with cmds := s.dev.mon.cmds ++ [⟨s.reg (R.MON_MASK.addr 0 0), true, false, false, false, none, none⟩] } ∧
      t.flag F.MON_STAT_PENDING = true ∧ s.sameRegs t [R.MON_STAT.addr 0 0] ∧ t.mem = s.mem) ∧
  (∀ (s : State) (o : Origin) (v : Word),
      s.accepts (R.MON_CMD.addr 0 0) v.toNat = true → v.toNat % 32 = 2 →
    ∃ t, exec (.monStop o v) s = .next t ∧
      t.dev.mon = { s.dev.mon with cmds := s.dev.mon.cmds ++ [⟨s.reg (R.MON_MASK.addr 0 0), false, true, false, false, none, none⟩] } ∧
      t.flag F.MON_STAT_PENDING = true ∧ s.sameRegs t [R.MON_STAT.addr 0 0] ∧ t.mem = s.mem) ∧
  (∀ (s : State) (o : Origin) (v : Word),
      s.accepts (R.MON_CMD.addr 0 0) v.toNat = true → v.toNat % 32 = 4 →
    ∃ t, exec (.monClear o v) s = .next t ∧
      t.dev.mon = { s.dev.mon with cmds := s.dev.mon.cmds ++ [⟨s.reg (R.MON_MASK.addr 0 0), false, false, true, false, none, none⟩] } ∧
      t.flag F.MON_STAT_PENDING = true ∧ s.sameRegs t [R.MON_STAT.addr 0 0] ∧ t.mem = s.mem) ∧
  (∀ (s : State) (o : Origin) (v : Word),
      s.accepts (R.MON_CMD.addr 0 0) v.toNat = true → v.toNat % 32 = 8 →
    ∃ t, exec (.monSnap o v) s = .next t ∧
      t.dev.mon = { s.dev.mon with cmds := s.dev.mon.cmds ++ [⟨s.reg (R.MON_MASK.addr 0 0), false, false, false, true, none, none⟩] } ∧
      t.flag F.MON_STAT_PENDING = true ∧ s.sameRegs t [R.MON_STAT.addr 0 0] ∧ t.mem = s.mem) ∧
  (∀ (s : State) (o : Origin) (v : Word) (d : Nat),
      s.accepts (R.MON_CMD.addr 0 0) v.toNat = true → v.toNat % 32 = 24 →
      s.work.stampDue (s.reg (R.MON_STAMP.addr 0 0)) = some d →
    ∃ t, exec (.monSnap o v) s = .next t ∧
      t.dev.mon = { s.dev.mon with cmds := s.dev.mon.cmds ++ [⟨s.reg (R.MON_MASK.addr 0 0), false, false, false, true, some (s.reg (R.MON_STAMP.addr 0 0)), some d⟩] } ∧
      t.flag F.MON_STAT_STAMP_PEND = true ∧ s.sameRegs t [R.MON_STAT.addr 0 0] ∧ t.mem = s.mem) ∧
  (∀ (s : State) (cs : List Counter) (i : Fin 32),
      s.get F.MON_CTL_AUTO_PER ≠ 0 → s.dev.tick % s.get F.MON_CTL_AUTO_PER = 0 → s.dev.mon.before = some cs →
    ∃ t, exec (.autoSnapshot) s = .next t ∧
      t.reg (R.MON_SNAP_LO.addr 0 i) = (cs.getD i Counter.init).value % 2 ^ 32 ∧
      t.reg (R.MON_SNAP_HI.addr 0 i) = (cs.getD i Counter.init).value / 2 ^ 32 % 2 ^ 16 + 2 ^ 16 * (cs.getD i Counter.init).ovf.toNat ∧
      t.get F.MON_SNAP_TICK_TICK = s.dev.tick % 2 ^ 32 ∧ t.dev.mon = { s.dev.mon with before := none } ∧
      t.get F.MON_STAT_SNAP_SEQ = (s.get F.MON_STAT_SNAP_SEQ + 1) % 2 ^ (F.MON_STAT_SNAP_SEQ.hi - F.MON_STAT_SNAP_SEQ.lo + 1) ∧
      s.sameRegs t ([R.MON_STAT.addr 0 0, R.MON_SNAP_TICK.addr 0 0] ++ (List.range 32).map (fun k => R.MON_SNAP_LO.addr 0 k) ++ (List.range 32).map (fun k => R.MON_SNAP_HI.addr 0 k)) ∧
      t.mem = s.mem) ∧
  (∀ (s : State),
      (s.get F.MON_CTL_AUTO_PER = 0 ∨ s.dev.tick % s.get F.MON_CTL_AUTO_PER ≠ 0) →
    ∃ t, exec (.autoSnapshot) s = .next t ∧
      t = { s with dev := { s.dev with sent := [] } }) ∧
  (∀ (s : State),
      4 ≤ s.dev.temp.hot → s.work.tempHalved = false →
    ∃ t, exec (.tempHot) s = .next t ∧
      t.dev.temp = { s.dev.temp with pend := some true, cool := 0 } ∧ t.flag F.SYS_TEMP_HOT_SEEN = true ∧
      (∀ ch : Fin 8, (s.chan ch).running = true → (t.chan ch).cask.batch = (s.chan ch).cask.batch ++ [⟨1, 0x22, 9, 0, unsigned 16 (signed 8 (s.get F.SYS_TEMP_TJ)) % 2 ^ 16, s.work.tick32⟩]) ∧
      (∀ ch : Fin 8, (s.chan ch).running = false → t.chan ch = s.chan ch) ∧ s.sameRegs t [R.SYS_TEMP.addr 0 0] ∧
      t.mem = s.mem) ∧
  (∀ (s : State),
      1024 ≤ s.dev.temp.cool → s.work.tempHalved = true →
    ∃ t, exec (.tempCool) s = .next t ∧
      t.dev.temp = { s.dev.temp with pend := some false } ∧
      (∀ ch : Fin 8, (s.chan ch).running = true → (t.chan ch).cask.batch = (s.chan ch).cask.batch ++ [⟨1, 0x22, 11, 0, unsigned 16 (signed 8 (s.get F.SYS_TEMP_TJ)) % 2 ^ 16, s.work.tick32⟩]) ∧
      (∀ ch : Fin 8, (s.chan ch).running = false → t.chan ch = s.chan ch) ∧ s.sameRegs t [] ∧ t.mem = s.mem) ∧
  (∀ (s : State) (ch : Fin 8),
      s.flag F.SYS_TEMP_OVER = false → (s.chan ch).running = true → (s.chan ch).kiln.quiesce = .none →
      bitOf (s.work.activeMask &&& s.work.pairMask) ch = false →
    ∃ t, exec (.tempOver) s = .next t ∧
      t.flag F.SYS_TEMP_OVER = true ∧ t.flag F.SYS_TEMP_OVER_SEEN = true ∧ (t.chan ch).kiln.quiesce = .pend ∧
      bitOf t.dev.temp.heldCh ch = true ∧ t.dev.temp.clear = 0 ∧
      (∀ m : Fin 8, (s.chan m).running = false → t.chan m = s.chan m) ∧ s.sameRegs t [R.SYS_TEMP.addr 0 0] ∧
      t.mem = s.mem) ∧
  (∀ (s : State) (ch : Fin 8),
      s.flag F.SYS_TEMP_OVER = false → bitOf (s.work.activeMask &&& s.work.pairMask) ch = true →
    ∃ t, exec (.tempOver) s = .next t ∧
      t.flag F.SYS_TEMP_OVER = true ∧ bitOf t.dev.pair.release ch = true ∧ (t.chan ch).kiln = (s.chan ch).kiln ∧
      bitOf t.dev.temp.heldCh ch = false ∧ s.sameRegs t [R.SYS_TEMP.addr 0 0] ∧ t.mem = s.mem) ∧
  (∀ (s : State) (ch : Fin 8),
      s.flag F.SYS_TEMP_OVER = true → 1024 ≤ s.dev.temp.clear → bitOf s.dev.temp.heldCh ch = true →
      (s.chan ch).kiln.quiesce = .none →
    ∃ t, exec (.tempOverClear) s = .next t ∧
      t.flag F.SYS_TEMP_OVER = false ∧ t.dev.temp = { s.dev.temp with heldCh := 0, clear := 0 } ∧
      (t.chan ch).restart ≠ none ∧ (∀ m : Fin 8, bitOf s.dev.temp.heldCh m = false → t.chan m = s.chan m) ∧
      s.sameRegs t [R.SYS_TEMP.addr 0 0] ∧ t.mem = s.mem)

/-- A readback of erase-then-open that fails: R429. (How the model splits the sequence into ERASE_STEP commands is the
opcode table's.) -/
def Obligations.EraseReadback : Prop :=
  (∀ (s : State) (n : Nat),
      s.dev.sec.erase = .step n false → 8 ≤ s.work.relStep → 1 ≤ n → n ≤ 4 →
    ∃ t, exec (.eraseStep false) s = .next t ∧
      t.dev.sec.erase = .step n true ∧ t.dev.rst = s.dev.rst ∧
      t.flag F.SEC_STAT_DEBUG_OPEN = s.flag F.SEC_STAT_DEBUG_OPEN) ∧
  (∀ (s : State) (n : Nat),
      s.dev.sec.erase = .step n true → 8 ≤ s.work.relStep → 1 ≤ n → n ≤ 4 →
    ∃ t, exec (.eraseStep true) s = .next t ∧
      t.dev.sec.erase = .step (n + 1) false ∧ t.dev.rst.hold = s.dev.rst.hold) ∧
  (∀ (s : State) (n : Nat),
      s.dev.sec.erase = .step n true → 8 ≤ s.work.relStep → 1 ≤ n → n ≤ 4 → s.dev.rst.hold ≠ .fault →
    ∃ t, exec (.eraseStep false) s = .next t ∧
      t.dev.sec = { s.dev.sec with keys := t.dev.sec.keys, erase := .none } ∧
      (n = 1 ∨ s.dev.sec.keys = [] → t.dev.sec.keys = []) ∧
      (s.flag F.SEC_STAT_DEBUG_OPEN = false → t.flag F.SEC_STAT_DEBUG_OPEN = false) ∧
      t.flag F.SEC_FLAGS_SECRETS_ERASED = true ∧ t.flag F.SEC_STAT_ERASING = false ∧ t.dev.rst.hold = .held ∧
      bitOf t.dev.rst.src 9 = true)

/-- Stamped changes that wait for a channel: R15. A stamped command whose stamp names no future tick, and one for a
display held off the tick, waits for no tick of its own, and takes no place among the 64. -/
def Obligations.StampedChangesFull : Prop :=
  (∀ (s : State) (ch : Fin 8) (tag d : Nat) (pl : List Byte) (late : Bool),
      s.hostReady = true → s.work.modeAdmits 0x10 = true → 1 ≤ byteAt pl 1 → byteAt pl 1 ≤ 32 →
      pl.length = 8 + 8 * byteAt pl 1 → halfAt pl 2 ≤ 1 →
      (List.range (byteAt pl 1)).all (fun i => decide (byteAt pl (9 + 8 * i) ≤ 1) && halfAt pl (10 + 8 * i) == 0) = true →
      byteAt pl 0 = ch → s.work.displayCheck ch = none →
      (fieldEntries pl (byteAt pl 1)).all (fun e => (s.work.fieldDef ch e.1).isSome) = true →
      (s.chan ch).swapPending = false → (s.chan ch).mash.queue.length < 256 →
      (if s.work.held ch then (none, false) else s.work.judgeStamp (if bitOf (halfAt pl 2) 0 then some (wordAt pl 4) else none)) = (some d, late) →
      64 ≤ (s.chan ch).mash.stamped →
    ∃ t, exec (.fieldSet .host tag pl) s = .next t ∧
      s.hostAnswered t 0x10 tag stBusy [] ∧ (∀ n : Fin 8, t.chan n = s.chan n) ∧ s.sameRegs t hostRegs ∧
      t.mem = s.mem) ∧
  (∀ (s : State) (ch : Fin 8) (tag : Nat) (pl : List Byte),
      s.hostReady = true → s.work.modeAdmits 0x10 = true → 1 ≤ byteAt pl 1 → byteAt pl 1 ≤ 32 →
      pl.length = 8 + 8 * byteAt pl 1 → halfAt pl 2 ≤ 1 →
      (List.range (byteAt pl 1)).all (fun i => decide (byteAt pl (9 + 8 * i) ≤ 1) && halfAt pl (10 + 8 * i) == 0) = true →
      byteAt pl 0 = ch → s.work.displayCheck ch = none →
      (fieldEntries pl (byteAt pl 1)).all (fun e => (s.work.fieldDef ch e.1).isSome) = true →
      (s.chan ch).swapPending = false → (s.chan ch).mash.queue.length < 256 → bitOf (halfAt pl 2) 0 = false →
      64 ≤ (s.chan ch).mash.stamped →
    ∃ t, exec (.fieldSet .host tag pl) s = .next t ∧
      (t.chan ch).mash.queue = (s.chan ch).mash.queue ++ [⟨.fields (fieldEntries pl (byteAt pl 1)), .host, some .host, some (s.chan ch).seq.started, none, false⟩] ∧
      (t.chan ch).mash.stamped = (s.chan ch).mash.stamped ∧ t.hostFlight 0x10 tag) ∧
  (∀ (s : State) (ch : Fin 8) (tag d : Nat) (pl : List Byte) (late : Bool),
      s.hostReady = true → s.work.modeAdmits 0x10 = true → 1 ≤ byteAt pl 1 → byteAt pl 1 ≤ 32 →
      pl.length = 8 + 8 * byteAt pl 1 → halfAt pl 2 ≤ 1 →
      (List.range (byteAt pl 1)).all (fun i => decide (byteAt pl (9 + 8 * i) ≤ 1) && halfAt pl (10 + 8 * i) == 0) = true →
      byteAt pl 0 = ch → s.work.displayCheck ch = none →
      (fieldEntries pl (byteAt pl 1)).all (fun e => (s.work.fieldDef ch e.1).isSome) = true →
      (s.chan ch).swapPending = false → (s.chan ch).mash.queue.length < 256 →
      (if s.work.held ch then (none, false) else s.work.judgeStamp (if bitOf (halfAt pl 2) 0 then some (wordAt pl 4) else none)) = (some d, late) →
      (s.chan ch).mash.stamped = 63 →
    ∃ t, exec (.fieldSet .host tag pl) s = .next t ∧
      (t.chan ch).mash.stamped = 64 ∧ t.hostFlight 0x10 tag) ∧
  (∀ (s : State) (ch : Fin 8) (tag d : Nat) (pl : List Byte) (late : Bool),
      s.hostReady = true → s.work.modeAdmits 0x11 = true → 16 ≤ pl.length → pl.length ≤ 264 → pl.length % 8 = 0 →
      byteAt pl 1 ≤ 1 → byteAt pl 0 = ch → s.work.displayCheck ch = none → halfAt pl 2 ≤ 31 →
      (segPairs pl).all (fun p => decide (p.1 ≤ 31) && decide (p.2.1 &&& s.get F.MASH_OWN_OWNED ch p.1 = 0)) = true →
      (if s.work.held ch then (none, false) else s.work.judgeStamp (if bitOf (byteAt pl 1) 0 then some (wordAt pl 4) else none)) = (some d, late) →
      (s.chan ch).swapPending = false → 64 ≤ (s.chan ch).mash.stamped →
    ∃ t, exec (.segWrite .host tag pl) s = .next t ∧
      s.hostAnswered t 0x11 tag stBusy [] ∧ (∀ n : Fin 8, t.chan n = s.chan n) ∧ s.sameRegs t hostRegs ∧
      t.mem = s.mem) ∧
  (∀ (s : State) (ch : Fin 8) (tag d : Nat) (pl : List Byte) (late : Bool),
      s.hostReady = true → s.work.modeAdmits 0x12 = true → pl.length = 8 → byteAt pl 1 ≤ 1 → halfAt pl 2 = 0 →
      s.work.judgeStamp (if bitOf (byteAt pl 1) 0 then some (wordAt pl 4) else none) = (some d, late) →
      bitOf (byteAt pl 0) ch = true →
      (maskList (byteAt pl 0) 8).all (fun n => (s.work.displayCheck n).isNone && s.work.held n) = true →
      64 ≤ (s.chan ch).mash.stamped →
    ∃ t, exec (.imageSwap .host tag pl) s = .next t ∧
      s.hostAnswered t 0x12 tag stBusy [] ∧ (∀ n : Fin 8, t.chan n = s.chan n) ∧ s.sameRegs t hostRegs ∧
      t.mem = s.mem) ∧
  (∀ (s : State) (ch : Fin 8) (tag d : Nat) (pl : List Byte) (late : Bool),
      s.hostReady = true → s.work.modeAdmits 0x18 = true → pl.length = 12 → byteAt pl 1 ≤ 3 → halfAt pl 2 ≤ 1 →
      halfAt pl 10 = 0 → byteAt pl 0 = ch → s.work.displayCheck ch = none → (s.chan ch).blockHeld 10 = false →
      s.work.judgeStamp (if bitOf (halfAt pl 2) 0 then some (wordAt pl 4) else none) = (some d, late) →
      64 ≤ (s.chan ch).mash.stamped → halfAt pl 8 < s.work.alertN ch →
    ∃ t, exec (.alertSetCondition .host tag pl) s = .next t ∧
      s.hostAnswered t 0x18 tag stBusy [] ∧ (∀ n : Fin 8, t.chan n = s.chan n) ∧ s.sameRegs t hostRegs ∧
      t.mem = s.mem) ∧
  (∀ (s : State) (ch : Fin 8) (tag d : Nat) (pl : List Byte) (late : Bool),
      s.hostReady = true → s.work.modeAdmits 0x18 = true → pl.length = 12 → byteAt pl 1 ≤ 3 → halfAt pl 2 ≤ 1 →
      halfAt pl 10 = 0 → byteAt pl 0 = ch → s.work.displayCheck ch = none → (s.chan ch).blockHeld 10 = false →
      s.work.judgeStamp (if bitOf (halfAt pl 2) 0 then some (wordAt pl 4) else none) = (some d, late) →
      64 ≤ (s.chan ch).mash.stamped → halfAt pl 8 < s.work.alertN ch →
    ∃ t, exec (.alertClearCondition .host tag pl) s = .next t ∧
      s.hostAnswered t 0x18 tag stBusy [] ∧ (∀ n : Fin 8, t.chan n = s.chan n) ∧ s.sameRegs t hostRegs ∧
      t.mem = s.mem) ∧
  (∀ (s : State) (ch : Fin 8) (tag d : Nat) (pl : List Byte) (late : Bool),
      s.hostReady = true → s.work.modeAdmits 0x18 = true → pl.length = 12 → byteAt pl 1 ≤ 3 → halfAt pl 2 ≤ 1 →
      halfAt pl 10 = 0 → byteAt pl 0 = ch → s.work.displayCheck ch = none → (s.chan ch).blockHeld 10 = false →
      s.work.judgeStamp (if bitOf (halfAt pl 2) 0 then some (wordAt pl 4) else none) = (some d, late) →
      64 ≤ (s.chan ch).mash.stamped → halfAt pl 8 < s.work.alertN ch →
    ∃ t, exec (.alertAcknowledge .host tag pl) s = .next t ∧
      s.hostAnswered t 0x18 tag stBusy [] ∧ (∀ n : Fin 8, t.chan n = s.chan n) ∧ s.sameRegs t hostRegs ∧
      t.mem = s.mem) ∧
  (∀ (s : State) (ch : Fin 8) (tag d : Nat) (pl : List Byte) (late : Bool),
      s.hostReady = true → s.work.modeAdmits 0x18 = true → pl.length = 12 → byteAt pl 1 ≤ 3 → halfAt pl 2 ≤ 1 →
      halfAt pl 10 = 0 → byteAt pl 0 = ch → s.work.displayCheck ch = none → (s.chan ch).blockHeld 10 = false →
      s.work.judgeStamp (if bitOf (halfAt pl 2) 0 then some (wordAt pl 4) else none) = (some d, late) →
      64 ≤ (s.chan ch).mash.stamped →
    ∃ t, exec (.alertAcknowledgeGroups .host tag pl) s = .next t ∧
      s.hostAnswered t 0x18 tag stBusy [] ∧ (∀ n : Fin 8, t.chan n = s.chan n) ∧ s.sameRegs t hostRegs ∧
      t.mem = s.mem)

/-- The display commands for a channel in STANDBY: R372; EVENT_ACK there follows R225. -/
def Obligations.StandbyRefusesDisplay : Prop :=
  (∀ (s : State) (ch : Fin 8) (tag : Nat) (pl : List Byte),
      s.hostReady = true → s.work.modeAdmits 0x10 = true → 1 ≤ byteAt pl 1 → byteAt pl 1 ≤ 32 →
      pl.length = 8 + 8 * byteAt pl 1 → halfAt pl 2 ≤ 1 →
      (List.range (byteAt pl 1)).all (fun i => decide (byteAt pl (9 + 8 * i) ≤ 1) && halfAt pl (10 + 8 * i) == 0) = true →
      byteAt pl 0 = ch → (s.chan ch).standby = true → s.work.mashIsolated ch = false →
      (s.work.mode = mdTest → s.work.inTestMask ch = false) →
    ∃ t, exec (.fieldSet .host tag pl) s = .next t ∧
      s.hostAnswered t 0x10 tag stState [] ∧ (∀ n : Fin 8, t.chan n = s.chan n) ∧ s.sameRegs t hostRegs ∧
      t.mem = s.mem) ∧
  (∀ (s : State) (ch : Fin 8) (tag : Nat) (pl : List Byte),
      s.hostReady = true → s.work.modeAdmits 0x11 = true → 16 ≤ pl.length → pl.length ≤ 264 → pl.length % 8 = 0 →
      byteAt pl 1 ≤ 1 → byteAt pl 0 = ch → (s.chan ch).standby = true → s.work.mashIsolated ch = false →
      (s.work.mode = mdTest → s.work.inTestMask ch = false) →
    ∃ t, exec (.segWrite .host tag pl) s = .next t ∧
      s.hostAnswered t 0x11 tag stState [] ∧ (∀ n : Fin 8, t.chan n = s.chan n) ∧ s.sameRegs t hostRegs ∧
      t.mem = s.mem) ∧
  (∀ (s : State) (ch : Fin 8) (tag : Nat) (pl : List Byte),
      s.hostReady = true → s.work.modeAdmits 0x12 = true → pl.length = 8 → byteAt pl 1 ≤ 1 → halfAt pl 2 = 0 →
      bitOf (byteAt pl 0) ch = true →
      (maskList (byteAt pl 0) 8).all (fun n => (s.work.displayCheck n).getD stState == stState) = true →
      (s.chan ch).standby = true → s.work.mashIsolated ch = false →
      (s.work.mode = mdTest → s.work.inTestMask ch = false) →
    ∃ t, exec (.imageSwap .host tag pl) s = .next t ∧
      s.hostAnswered t 0x12 tag stState [] ∧ (∀ n : Fin 8, t.chan n = s.chan n) ∧ s.sameRegs t hostRegs ∧
      t.mem = s.mem) ∧
  (∀ (s : State) (ch : Fin 8) (tag : Nat) (pl : List Byte),
      s.hostReady = true → s.work.modeAdmits 0x18 = true → pl.length = 12 → byteAt pl 1 ≤ 3 → halfAt pl 2 ≤ 1 →
      halfAt pl 10 = 0 → byteAt pl 0 = ch → (s.chan ch).standby = true → s.work.mashIsolated ch = false →
      (s.work.mode = mdTest → s.work.inTestMask ch = false) →
    ∃ t, exec (.alertSetCondition .host tag pl) s = .next t ∧
      s.hostAnswered t 0x18 tag stState [] ∧ (∀ n : Fin 8, t.chan n = s.chan n) ∧ s.sameRegs t hostRegs ∧
      t.mem = s.mem) ∧
  (∀ (s : State) (ch : Fin 8) (tag : Nat) (pl : List Byte),
      s.hostReady = true → s.work.modeAdmits 0x18 = true → pl.length = 12 → byteAt pl 1 ≤ 3 → halfAt pl 2 ≤ 1 →
      halfAt pl 10 = 0 → byteAt pl 0 = ch → (s.chan ch).standby = true → s.work.mashIsolated ch = false →
      (s.work.mode = mdTest → s.work.inTestMask ch = false) →
    ∃ t, exec (.alertClearCondition .host tag pl) s = .next t ∧
      s.hostAnswered t 0x18 tag stState [] ∧ (∀ n : Fin 8, t.chan n = s.chan n) ∧ s.sameRegs t hostRegs ∧
      t.mem = s.mem) ∧
  (∀ (s : State) (ch : Fin 8) (tag : Nat) (pl : List Byte),
      s.hostReady = true → s.work.modeAdmits 0x18 = true → pl.length = 12 → byteAt pl 1 ≤ 3 → halfAt pl 2 ≤ 1 →
      halfAt pl 10 = 0 → byteAt pl 0 = ch → (s.chan ch).standby = true → s.work.mashIsolated ch = false →
      (s.work.mode = mdTest → s.work.inTestMask ch = false) →
    ∃ t, exec (.alertAcknowledge .host tag pl) s = .next t ∧
      s.hostAnswered t 0x18 tag stState [] ∧ (∀ n : Fin 8, t.chan n = s.chan n) ∧ s.sameRegs t hostRegs ∧
      t.mem = s.mem) ∧
  (∀ (s : State) (ch : Fin 8) (tag : Nat) (pl : List Byte),
      s.hostReady = true → s.work.modeAdmits 0x18 = true → pl.length = 12 → byteAt pl 1 ≤ 3 → halfAt pl 2 ≤ 1 →
      halfAt pl 10 = 0 → byteAt pl 0 = ch → (s.chan ch).standby = true → s.work.mashIsolated ch = false →
      (s.work.mode = mdTest → s.work.inTestMask ch = false) →
    ∃ t, exec (.alertAcknowledgeGroups .host tag pl) s = .next t ∧
      s.hostAnswered t 0x18 tag stState [] ∧ (∀ n : Fin 8, t.chan n = s.chan n) ∧ s.sameRegs t hostRegs ∧
      t.mem = s.mem) ∧
  (∀ (s : State) (ch : Fin 8) (tag : Nat) (pl : List Byte),
      s.hostReady = true → s.work.modeAdmits 0x21 = true → pl.length = 4 → byteAt pl 0 = ch →
      s.work.mode ≠ mdRecovery → s.work.isolated ch = false → (s.chan ch).blockHeld 4 = false →
      s.work.ringFailed ch = false → (s.chan ch).standby = true →
    ∃ t, exec (.eventAck .host tag pl) s = .next t ∧
      s.hostAnswered t 0x21 tag stState [] ∧ (∀ n : Fin 8, t.chan n = s.chan n) ∧ s.sameRegs t hostRegs ∧
      t.mem = s.mem)

/-- MEM_WRITE into a range of registers of which one has an RWX field that the mode does not open: R20. (A range that
reaches a held block is answered by its wrapper, R397.) -/
def Obligations.MemWriteModeAllOrNothing : Prop :=
  (∀ (s : State) (tag k i : Nat) (pl : List Byte),
      s.hostReady = true → pl.length = 4 + 4 * k → i < k → k ≤ 1024 → accessOk (wordAt pl 0) (4 * k) = true →
      regMapped (wordAt pl 0) = true → (List.range k).all (fun j => !s.work.regHeld (wordAt pl 0 + 4 * j)) = true →
      s.work.modeRefuses (wordAt pl 0 + 4 * i) (leAt (pl.drop 4) (4 * i) 4) = true →
    ∃ t, exec (.memWrite .host tag pl) s = .next t ∧
      s.hostAnswered t 0x03 tag stMode [] ∧ s.sameRegs t hostRegs ∧ (∀ n : Fin 8, t.chan n = s.chan n) ∧
      t.mem = s.mem)

/-- MEM_READ and MEM_WRITE outside the address map, past the end of a range, and misaligned in a register range (R25,
R27). -/
def Obligations.RefusedAccesses : Prop :=
  (∀ (s : State) (tag : Nat) (pl : List Byte),
      s.hostReady = true → pl.length = 6 → 1 ≤ halfAt pl 4 → halfAt pl 4 ≤ 4096 →
      accessOk (wordAt pl 0) (halfAt pl 4) = false →
    ∃ t, exec (.memRead .host tag pl) s = .next t ∧
      s.hostAnswered t 0x02 tag stArg (if areaOf (wordAt pl 0) = none then List.replicate (halfAt pl 4) 0 else []) ∧
      s.sameRegs t hostRegs ∧ (∀ n : Fin 8, t.chan n = s.chan n) ∧ t.mem = s.mem) ∧
  (∀ (s : State) (tag : Nat) (pl : List Byte),
      s.hostReady = true → 5 ≤ pl.length → pl.length ≤ 4100 → accessOk (wordAt pl 0) (pl.length - 4) = false →
    ∃ t, exec (.memWrite .host tag pl) s = .next t ∧
      s.hostAnswered t 0x03 tag stArg [] ∧ s.sameRegs t hostRegs ∧ (∀ n : Fin 8, t.chan n = s.chan n) ∧ t.mem = s.mem)

/-- What a written word leaves in a register, field by field, by the access codes of R4: RW and RWX take the written
field, RO keeps its own, a 1 clears a bit of W1C and RS, WO reads 0, and reserved bits read 0. -/
def Obligations.AccessCodes : Prop :=
  ∀ (s : State) (a v : Nat) (r : RegRow) (k : Nat), rowAt a = some (r, k) →
    (∀ f ∈ r.fields,
      (f.acc = .rw ∨ f.acc = .rwx → bitsOf (s.written a v) f.hi f.lo = bitsOf v f.hi f.lo) ∧
      (f.acc = .ro → bitsOf (s.written a v) f.hi f.lo = bitsOf (s.reg a) f.hi f.lo) ∧
      (f.acc = .w1c ∨ f.acc = .rs → ∀ i, f.lo ≤ i → i ≤ f.hi →
        bitOf (s.written a v) i = (bitOf (s.reg a) i && !bitOf v i)) ∧
      (f.acc = .wo → bitsOf (s.written a v) f.hi f.lo = 0)) ∧
    (∀ i, (∀ f ∈ r.fields, i < f.lo ∨ f.hi < i) → bitOf (s.written a v) i = false)

/-- No address reads a key (R26): two devices that differ in their key store alone answer the host's MEM_READ alike,
whatever it reads, and still differ in their key store alone. -/
def Obligations.KeysStayHidden : Prop :=
  ∀ (s : State) (keys : List (Nat × List Byte)) (tag : Nat) (pl : List Byte),
    ∃ t, exec (.memRead .host tag pl) s = .next t ∧
      exec (.memRead .host tag pl) { s with dev := { s.dev with sec := { s.dev.sec with keys := keys } } } =
        .next { t with dev := { t.dev with sec := { t.dev.sec with keys := keys } } }

/-- A measurement of a channel, and an instruction of its pin engines, leaves what every other channel holds, and the
Tun engines, the loaded image and the key store (R8, R9). -/
def Obligations.ChannelsStayApart : Prop :=
  ∀ (s : State) (ch m : Fin 8) (e : Fin 4) (k : Fin 12) (l : Fin 2) (f : Fin 128) (n : Nat) (ns : List Nat) (r : TapRet),
    m ≠ ch →
    ∀ c ∈ [Instr.ntcFallback ch, .ntcReturn ch, .kilnHoldEnd ch n r.idle n, .dischargeProof ch ns,
        .sinkGovDecision ch, .switchGovDecision ch, .predriverCurrentLimit ch, .litCheck ch ns, .dissipationCapture ch ns,
        .comWatch ch ns, .darkCheck ch ns, .lineChargeCheck ch ns, .litUnverified ch, .fieldStale ch f,
        .continuityTest ch ns, .lampOpenTrip ch k, .lampWindowCapture ch ns, .lampDiagPeriod ch, .pumpReady ch k,
        .tapFrameSend ch l, .tapReturnReceive ch l r, .orphanStreamReceive ch l ns, .nopInstruction ch e, .await ch e n,
        .awaitEnd ch e n, .emit ch e, .gather ch e ns, .spill ch e, .take ch e, .give ch e, .psqStallEnd ch e ns,
        .countLoad ch e, .countRepeat ch e, .countInc ch e, .raiseSet ch e, .raiseClear ch e, .raiseEntry ch e,
        .raiseEvent ch e, .goto ch e n, .move ch e n, .psqWindowStart ch e, .psqWindowEnd ch e],
      ∃ t, exec c s = .next t ∧ t.chan m = s.chan m ∧ t.dev.tun = s.dev.tun ∧ t.dev.img = s.dev.img ∧
        t.dev.sec = s.dev.sec ∧ t.dev.rst = s.dev.rst

/-- The registers right after a POWER_ON_AON reset read the Reset column of their tables, of which some are named here;
no image is loaded, no mode but BOOT, every channel in reset posture (R3, R17, R403). -/
def Obligations.ResetValues : Prop :=
  State.reset.work.mode = mdBoot ∧ (∀ ch : Fin 8, State.reset.chState ch = stReset) ∧
    State.reset.get F.SYS_TICK_CFG_PERIOD_US = 1000 ∧ State.reset.get F.SYS_REL_STEP = 0 ∧
    State.reset.flag F.SYS_IMG_STAT_ACTIVE = false ∧ State.reset.get F.PWR_STAT_STATE = 0 ∧
    State.reset.dev.sec.keys = [] ∧ State.reset.dev.host.port.flight = none ∧
    State.reset.work.ringCount devRing = 0 ∧ (∀ ch : Fin 8, State.reset.work.ringCount ch = 0)

/-- What a channel line stands at by its role and the slot in progress (R29, R32, R33, R76, R77, R93 to R95, R290, R367,
R413), and HRDY_N and FAULT_N (R293, R301, R394, R400). -/
def Obligations.LevelPins : Prop :=
  (∀ (s : State) (ch : Fin 8) (m : Fin 80),
      s.roleOf ch m = 0 →
      s.lineState ch m = .posture) ∧
  (∀ (s : State) (ch : Fin 8) (m : Fin 80),
      (s.chState ch = stReset ∨ s.chState ch = stIsolated) → bitOf (s.get F.PWR_STAT_LATCHED) ch = false →
      s.lineState ch m = .posture) ∧
  (∀ (s : State) (ch : Fin 8) (m : Fin 80),
      (s.chState ch ≠ stReset ∧ s.chState ch ≠ stIsolated) → (s.chan ch).standby = true →
      bitOf (s.get F.PWR_STAT_LATCHED) ch = false → 1 ≤ s.roleOf ch m → s.roleOf ch m ≤ 4 →
      s.lineState ch m = .highZ) ∧
  (∀ (s : State) (ch : Fin 8) (m : Fin 80),
      bitOf (s.get F.PWR_STAT_LATCHED) ch = true →
      s.lineState ch m = ((s.dev.pwr.pads.getD ch []).getD m .posture).line) ∧
  (∀ (s : State) (ch : Fin 8) (m : Fin 80),
      s.roleOf ch m = 5 → (s.chState ch ≠ stReset ∧ s.chState ch ≠ stIsolated) →
      bitOf (s.get F.PWR_STAT_LATCHED) ch = false →
      ((s.chan ch).standby = true → s.lineState ch m = .engine none) ∧
      ((s.chan ch).standby = false → s.lineState ch m = .engine (pinDrive (bitOf (s.work.eng ch (roleIdx ((s.chan ch).seq.act.roles.getD m 0) / 16)).dir (roleIdx ((s.chan ch).seq.act.roles.getD m 0) % 16)) (bitOf (s.work.eng ch (roleIdx ((s.chan ch).seq.act.roles.getD m 0) / 16)).out (roleIdx ((s.chan ch).seq.act.roles.getD m 0) % 16))))) ∧
  (∀ (s : State) (ch : Fin 8) (m : Fin 80) (k : Nat),
      (s.chState ch ≠ stReset ∧ s.chState ch ≠ stIsolated) → (s.chan ch).standby = false →
      bitOf (s.get F.PWR_STAT_LATCHED) ch = false → (s.roleOf ch m = 1 ∨ s.roleOf ch m = 2) →
      (s.chan ch).planRuns = false →
      ((s.chan ch).kiln.quiesce = .none ∨ (s.chan ch).kiln.quiesce = .done ∨ (s.chan ch).kiln.quiesce = .discharge k) →
      s.lineState ch m = .low) ∧
  (∀ (s : State) (ch : Fin 8) (m : Fin 80) (k : Nat),
      (s.chState ch ≠ stReset ∧ s.chState ch ≠ stIsolated) → (s.chan ch).standby = false →
      bitOf (s.get F.PWR_STAT_LATCHED) ch = false → (s.roleOf ch m = 1 ∨ s.roleOf ch m = 2) →
      (s.chan ch).running = true → (s.chan ch).kiln.quiesce = .settle k →
      (s.work.deadband ch < ((s.chan ch).kiln.accOf m).natAbs → s.lineState ch m = .settle ((s.chan ch).kiln.accOf m)) ∧
      (((s.chan ch).kiln.accOf m).natAbs ≤ s.work.deadband ch → s.lineState ch m = .quiet)) ∧
  (∀ (s : State) (ch : Fin 8) (m : Fin 80) (x : SlotRun),
      (s.chState ch ≠ stReset ∧ s.chState ch ≠ stIsolated) → (s.chan ch).standby = false →
      bitOf (s.get F.PWR_STAT_LATCHED) ch = false → (s.chan ch).planRuns = true → (s.chan ch).seq.cur = some x →
      (s.roleOf ch m = 3 ∨ s.roleOf ch m = 4) →
      (x.kind = kKey → s.work.scansNow ch = true → s.lineState ch m = .ladder) ∧
      (x.kind = kDiag → s.work.contReady ch = true → s.lineState ch m = (if s.roleOf ch m = 3 then .pulled else .low)) ∧
      (x.kind ≠ kDiag → (x.kind = kKey → s.work.scansNow ch = false) → s.lineState ch m = .highZ)) ∧
  (∀ (s : State) (ch : Fin 8) (m : Fin 80) (x : SlotRun),
      (s.chState ch ≠ stReset ∧ s.chState ch ≠ stIsolated) → (s.chan ch).standby = false →
      bitOf (s.get F.PWR_STAT_LATCHED) ch = false → (s.chan ch).planRuns = true → (s.chan ch).seq.cur = some x →
      (s.roleOf ch m = 1 ∨ s.roleOf ch m = 2) → x.kind = kMirror →
      s.lineState ch m = .mirror) ∧
  (∀ (s : State) (ch : Fin 8) (m : Fin 80) (x : SlotRun),
      (s.chState ch ≠ stReset ∧ s.chState ch ≠ stIsolated) → (s.chan ch).standby = false →
      bitOf (s.get F.PWR_STAT_LATCHED) ch = false → (s.chan ch).planRuns = true → (s.chan ch).seq.cur = some x →
      (s.roleOf ch m = 1 ∨ s.roleOf ch m = 2) → x.kind = kKey → (s.chan ch).seq.act.isLcd = true →
      (s.work.scansNow ch = false ∨ (s.chan ch).seq.act.drives.all (fun y => y.1 != (m : Nat)) = true ∨ (s.chan ch).seq.act.drives = [((m : Nat), 0)]) →
      s.lineState ch m = .low) ∧
  (∀ (s : State) (ch : Fin 8) (m : Fin 80) (x : SlotRun) (d : Nat),
      (s.chState ch ≠ stReset ∧ s.chState ch ≠ stIsolated) → (s.chan ch).standby = false →
      bitOf (s.get F.PWR_STAT_LATCHED) ch = false → (s.chan ch).planRuns = true → (s.chan ch).seq.cur = some x →
      (s.roleOf ch m = 1 ∨ s.roleOf ch m = 2) → x.kind = kKey → s.work.scansNow ch = true →
      (s.chan ch).seq.act.drives.find? (fun y => y.1 == (m : Nat)) = some ((m : Nat), d) →
      s.lineState ch m = (if d = (s.chan ch).seq.act.stepNo s.dev.tick x.idx % (s.chan ch).seq.act.nDrive then .low else .highZ)) ∧
  (∀ (s : State) (ch : Fin 8) (m : Fin 80) (x : SlotRun),
      (s.chState ch ≠ stReset ∧ s.chState ch ≠ stIsolated) → (s.chan ch).standby = false →
      bitOf (s.get F.PWR_STAT_LATCHED) ch = false → (s.chan ch).planRuns = true → (s.chan ch).seq.cur = some x →
      (s.roleOf ch m = 1 ∨ s.roleOf ch m = 2) → x.kind = kDisplay → (s.chan ch).seq.act.isLcd = true →
      s.flag F.KILN_STAT_READY ch = false →
      s.lineState ch m = .low) ∧
  (∀ (s : State) (ch : Fin 8) (m : Fin 80) (x : SlotRun),
      (s.chState ch ≠ stReset ∧ s.chState ch ≠ stIsolated) → (s.chan ch).standby = false →
      bitOf (s.get F.PWR_STAT_LATCHED) ch = false → (s.chan ch).planRuns = true → (s.chan ch).seq.cur = some x →
      (s.roleOf ch m = 1 ∨ s.roleOf ch m = 2) → x.kind = kDisplay → (s.chan ch).seq.act.isLcd = true →
      s.flag F.KILN_STAT_READY ch = true → (s.chan ch).kiln.parked.contains (m : Nat) = true →
      s.lineState ch m = .quiet) ∧
  (∀ (s : State) (ch : Fin 8) (m : Fin 80) (x : SlotRun) (step i : Nat),
      (s.chState ch ≠ stReset ∧ s.chState ch ≠ stIsolated) → (s.chan ch).standby = false →
      bitOf (s.get F.PWR_STAT_LATCHED) ch = false → (s.chan ch).planRuns = true → (s.chan ch).seq.cur = some x →
      x.kind = kDisplay → (s.chan ch).seq.act.isLcd = true → s.flag F.KILN_STAT_READY ch = true →
      step = (s.chan ch).seq.act.firstStep s.dev.tick + ((s.chan ch).seq.nDisp - 1) → (s.chan ch).seq.act.bias ≠ 0 →
      s.roleOf ch m = 1 → i = roleIdx ((s.chan ch).seq.act.roles.getD m 0) →
      (s.chan ch).kiln.parked.contains (m : Nat) = false →
      s.lineState ch m = .level (if step % (s.chan ch).seq.act.commons = i then (if (s.chan ch).seq.act.negative step then 0 else (s.chan ch).seq.act.bias + 1) else if (s.chan ch).seq.act.negative step then (s.chan ch).seq.act.bias else 1)) ∧
  (∀ (s : State) (ch : Fin 8) (m : Fin 80) (x : SlotRun) (step i : Nat),
      (s.chState ch ≠ stReset ∧ s.chState ch ≠ stIsolated) → (s.chan ch).standby = false →
      bitOf (s.get F.PWR_STAT_LATCHED) ch = false → (s.chan ch).planRuns = true → (s.chan ch).seq.cur = some x →
      x.kind = kDisplay → (s.chan ch).seq.act.isLcd = true → s.flag F.KILN_STAT_READY ch = true →
      step = (s.chan ch).seq.act.firstStep s.dev.tick + ((s.chan ch).seq.nDisp - 1) → (s.chan ch).seq.act.bias ≠ 0 →
      s.roleOf ch m = 2 → i = roleIdx ((s.chan ch).seq.act.roles.getD m 0) →
      (s.chan ch).kiln.parked.contains (m : Nat) = false →
      s.lineState ch m = .level (if (s.chan ch).blink.lit.contains (64 * (step % (s.chan ch).seq.act.commons) + i) then (if (s.chan ch).seq.act.negative step then (s.chan ch).seq.act.bias + 1 else 0) else if (s.chan ch).seq.act.negative step then (s.chan ch).seq.act.bias - 1 else 2)) ∧
  (∀ (s : State) (ch : Fin 8) (m : Fin 80) (x : SlotRun),
      (s.chState ch ≠ stReset ∧ s.chState ch ≠ stIsolated) → (s.chan ch).standby = false →
      bitOf (s.get F.PWR_STAT_LATCHED) ch = false → (s.chan ch).planRuns = true → (s.chan ch).seq.cur = some x →
      x.kind = kDisplay → (s.chan ch).seq.act.isLcd = false → s.roleOf ch m = 1 →
      s.lineState ch m = (if (s.chan ch).preOff ((s.chan ch).seq.nDisp - 1) (roleIdx ((s.chan ch).seq.act.roles.getD m 0)) then .off else .driver)) ∧
  (∀ (s : State) (ch : Fin 8) (m : Fin 80) (x : SlotRun) (e i : Nat),
      (s.chState ch ≠ stReset ∧ s.chState ch ≠ stIsolated) → (s.chan ch).standby = false →
      bitOf (s.get F.PWR_STAT_LATCHED) ch = false → (s.chan ch).planRuns = true → (s.chan ch).seq.cur = some x →
      x.kind = kDisplay → (s.chan ch).seq.act.isLcd = false → s.roleOf ch m = 2 →
      i = roleIdx ((s.chan ch).seq.act.roles.getD m 0) → e = 64 * ((s.chan ch).seq.nDisp - 1) + i →
      s.lineState ch m = (if (s.chan ch).blink.lit.contains e = true ∧ s.work.pulseOf ch e ≠ 0 then .sink (s.work.cur F.LED_ISEG_CODE ch i) (s.work.pulseOf ch e) else .off)) ∧
  (∀ (s : State) (ch : Fin 8) (m : Fin 80) (x : SlotRun),
      (s.chState ch ≠ stReset ∧ s.chState ch ≠ stIsolated) → (s.chan ch).standby = false →
      bitOf (s.get F.PWR_STAT_LATCHED) ch = false → (s.chan ch).planRuns = true → (s.chan ch).seq.cur = some x →
      (s.roleOf ch m = 1 ∨ s.roleOf ch m = 2) →
      (x.kind = kGuard ∨ x.kind = 4 ∨ (x.kind = kDiag ∧ (s.work.chargeRuns ch = false ∨ (s.chan ch).seq.act.isLcd = false) ∧ (s.chan ch).darkRuns s.dev.tick = false)) →
      s.lineState ch m = (if (s.chan ch).seq.act.isLcd then .quiet else .off)) ∧
  (∀ (s : State) (ch : Fin 8) (m : Fin 80) (x : SlotRun),
      (s.chState ch ≠ stReset ∧ s.chState ch ≠ stIsolated) → (s.chan ch).standby = false →
      bitOf (s.get F.PWR_STAT_LATCHED) ch = false → (s.chan ch).planRuns = true → (s.chan ch).seq.cur = some x →
      (s.roleOf ch m = 1 ∨ s.roleOf ch m = 2) → x.kind = kDiag → (s.chan ch).seq.act.isLcd = true →
      s.work.chargeRuns ch = true → (m : Nat) ∈ (s.chan ch).chargeLines s.dev.tick →
      s.lineState ch m = .sensed) ∧
  (∀ (s : State) (ch : Fin 8) (m : Fin 80) (x : SlotRun),
      (s.chState ch ≠ stReset ∧ s.chState ch ≠ stIsolated) → (s.chan ch).standby = false →
      bitOf (s.get F.PWR_STAT_LATCHED) ch = false → (s.chan ch).planRuns = true → (s.chan ch).seq.cur = some x →
      s.roleOf ch m = 2 → x.kind = kDiag → (s.chan ch).seq.act.isLcd = false → (s.chan ch).darkRuns s.dev.tick = true →
      s.lineState ch m = (if raisedIn (s.dev.tick % 16) (roleIdx ((s.chan ch).seq.act.roles.getD m 0)) then .raised else .heldLow)) ∧
  (∀ (s : State),
      s.work.hostDeaf = true →
      s.hrdyN = true) ∧
  (∀ (s : State) (f : Flight),
      s.flag F.HOST_CFG_GEN = false → s.dev.host.port.flight = some f →
      s.hrdyN = true) ∧
  (∀ (s : State),
      s.work.hostDeaf = false → s.work.pwrState < 3 → s.flag F.HOST_CFG_GEN = false → s.dev.host.port.flight = none →
      (s.dev.host.port.fresh = true → s.hrdyN = false) ∧
      (s.dev.host.port.fresh = false → (s.hrdyN = false ↔ s.get F.HOST_ATTN_MASK &&& s.get F.HOST_ATTN_ACTIVE ≠ 0))) ∧
  (∀ (s : State),
      s.work.hostDeaf = false → s.work.pwrState < 3 → s.flag F.HOST_CFG_GEN = true →
      (s.hrdyN = false ↔ (s.chan (s.work.emuCh)).cask.compat ≠ [])) ∧
  (∀ (s : State),
      (s.faultPin = false ↔ s.dev.rst.faultN = true))

/-- The handshake on the pair link before HELLO (R358, R422). The message authentication is the function the spec names,
uninterpreted here (log entry 15), over the text of log entry 17; where the frames of the handshake are told from
those of the fabric's, and that a handshake that failed stays failed until the link or the pair key changes, are the
model's choice (log entry 87). -/
def Obligations.PairHandshake : Prop :=
  (∀ (s : State),
      s.work.pairOn = true → s.get F.PAIR_CFG_ROLE = 1 → s.work.pairUp = false → s.dev.pair.auth = .idle →
      (s.work.pairMac []).isSome = true →
    ∃ t, exec (.helloSend) s = .next t ∧
      t.dev.pair = { s.dev.pair with auth := .running ⟨s.work.partnerUid, leBytes 16 (Config.freeValue 128 s.dev.free).toNat, [], 0, 64⟩ } ∧
      t.dev.sent = [⟨1, 2, 0x03, 0, leBytes 16 (Config.freeValue 128 s.dev.free).toNat⟩] ∧ s.sameRegs t [] ∧
      t.mem = s.mem) ∧
  (∀ (s : State),
      s.work.pairOn = true → s.dev.pair.auth ≠ .passed →
      (s.dev.pair.auth ≠ .idle ∨ s.get F.PAIR_CFG_ROLE ≠ 1 ∨ (s.work.pairMac []).isNone = true) →
    ∃ t, exec (.helloSend) s = .next t ∧
      t = { s with dev := { s.dev with sent := [] } }) ∧
  (∀ (s : State) (uid role mask serial : Nat),
      s.dev.pair.auth ≠ .passed →
    ∃ t, exec (.hello uid role mask serial) s = .next t ∧
      t = { s with dev := { s.dev with sent := [] } }) ∧
  (∀ (s : State) (nr nn key : List Byte),
      s.work.pairOn = true → s.get F.PAIR_CFG_ROLE = 2 → s.dev.sec.keys.find? (fun x => x.1 == 3) = some (3, key) →
    ∃ t, exec (.joinChal nr nn none) s = .next t ∧
      t.dev.pair = { s.dev.pair with auth := .running ⟨s.work.partnerUid, nr, nn, 0, 64⟩ } ∧
      t.dev.sent = [⟨1, 2, 0x04, 0, nn ++ Config.hmacSha256 key (joinText rp1 ownUid s.work.partnerUid nr nn 0)⟩] ∧
      s.sameRegs t [] ∧ t.mem = s.mem) ∧
  (∀ (s : State) (nr nn : List Byte),
      s.work.pairOn = true → s.get F.PAIR_CFG_ROLE = 2 → (s.work.pairMac []).isNone = true →
    ∃ t, exec (.joinChal nr nn none) s = .next t ∧
      t.dev.pair = { s.dev.pair with auth := .failed } ∧ t.dev.sent = [] ∧ s.sameRegs t [] ∧ t.mem = s.mem) ∧
  (∀ (s : State) (k : Shake) (nn key : List Byte),
      s.work.pairOn = true → s.get F.PAIR_CFG_ROLE = 1 → s.dev.pair.auth = .running k →
      s.dev.sec.keys.find? (fun x => x.1 == 3) = some (3, key) →
    ∃ t, exec (.joinRsp none nn (Config.hmacSha256 key (joinText rp1 s.work.partnerUid ownUid k.nr nn 0))) s = .next t ∧
      t.dev.pair = { s.dev.pair with auth := .passed } ∧
      t.dev.sent = [⟨1, 2, 0x05, 0, Config.hmacSha256 key (joinText rp2 s.work.partnerUid ownUid k.nr nn 0)⟩] ∧
      s.sameRegs t [] ∧ t.mem = s.mem) ∧
  (∀ (s : State) (k : Shake) (nn mac : List Byte),
      s.work.pairOn = true → s.get F.PAIR_CFG_ROLE = 1 → s.dev.pair.auth = .running k →
      s.work.pairMac (joinText rp1 s.work.partnerUid ownUid k.nr nn 0) ≠ some mac →
    ∃ t, exec (.joinRsp none nn mac) s = .next t ∧
      t.dev.pair = { s.dev.pair with auth := .failed } ∧ t.dev.sent = [] ∧ s.sameRegs t [] ∧ t.mem = s.mem) ∧
  (∀ (s : State) (k : Shake) (mac : List Byte) (words : List Nat) (ring : Option RingInfo),
      s.work.pairOn = true → s.get F.PAIR_CFG_ROLE = 2 → s.dev.pair.auth = .running k →
    ∃ t, exec (.joinAccept mac none words ring) s = .next t ∧
      t.dev.pair = { s.dev.pair with auth := if s.work.pairMac (joinText rp2 ownUid s.work.partnerUid k.nr k.nn 0) = some mac then .passed else .failed } ∧
      t.dev.sent = [] ∧ s.sameRegs t [] ∧ t.mem = s.mem) ∧
  (∀ (s : State) (k : Shake),
      s.dev.pair.auth = .running k → k.left = 0 → s.dev.fab.shakes = [] →
    ∃ t, exec (.joinTimeout) s = .next t ∧
      t.dev.pair = { s.dev.pair with auth := .failed } ∧ t.dev.sent = [] ∧ s.sameRegs t [] ∧ t.mem = s.mem)
end

