-- ==== Sys2Proof/Laws/Bits.lean ====
section
/-! SUPPORT. Laws of bit fields and of the sparse table: a field reads what was set into it and its neighbours are kept, a
key reads what was put there and every other key is kept, and a table stays in order. -/

namespace Sys2Proof.Machine

/-- What setting a field leaves above it. -/
theorem setBits_div (v hi lo x : Nat) (h : lo ≤ hi) : setBits v hi lo x / 2 ^ (hi + 1) = v / 2 ^ (hi + 1) := by
  have hp : 2 ^ (hi + 1) = 2 ^ lo * 2 ^ (hi - lo + 1) := by rw [← pow_add]; congr 1; omega
  have h1 : v % 2 ^ lo < 2 ^ lo := Nat.mod_lt _ (by positivity)
  have h2 : x % 2 ^ (hi - lo + 1) < 2 ^ (hi - lo + 1) := Nat.mod_lt _ (by positivity)
  have hlt : v % 2 ^ lo + x % 2 ^ (hi - lo + 1) * 2 ^ lo < 2 ^ (hi + 1) := by
    have h3 := Nat.mul_le_mul_right (2 ^ lo) (Nat.succ_le_of_lt h2)
    rw [hp, Nat.mul_comm (2 ^ lo)]
    rw [Nat.succ_mul] at h3
    omega
  unfold setBits
  rw [Nat.add_mul_div_right _ _ (by positivity), Nat.div_eq_of_lt hlt, Nat.zero_add]

/-- What setting a field leaves below it. -/
theorem setBits_mod (v hi lo x : Nat) (h : lo ≤ hi) : setBits v hi lo x % 2 ^ lo = v % 2 ^ lo := by
  have hp : 2 ^ (hi + 1) = 2 ^ (hi - lo + 1) * 2 ^ lo := by rw [← pow_add]; congr 1; omega
  unfold setBits
  rw [hp, ← Nat.mul_assoc, Nat.add_assoc, ← Nat.add_mul, Nat.add_mul_mod_self_right, Nat.mod_mod]

/-- A field reads what was set into it, cut to its width. -/
theorem bitsOf_setBits_same (v hi lo x : Nat) (h : lo ≤ hi) :
    bitsOf (setBits v hi lo x) hi lo = x % 2 ^ (hi - lo + 1) := by
  have hp : 2 ^ (hi + 1) = 2 ^ (hi - lo + 1) * 2 ^ lo := by rw [← pow_add]; congr 1; omega
  have h1 : v % 2 ^ lo < 2 ^ lo := Nat.mod_lt _ (by positivity)
  unfold bitsOf setBits
  rw [hp, ← Nat.mul_assoc, Nat.add_assoc, ← Nat.add_mul, Nat.add_mul_div_right _ _ (by positivity),
    Nat.div_eq_of_lt h1, Nat.zero_add, Nat.add_mul_mod_self_right, Nat.mod_mod]

/-- A field that lies above the one set keeps its value. -/
theorem bitsOf_setBits_above (v hi lo x hi' lo' : Nat) (h : lo ≤ hi) (h' : hi < lo') :
    bitsOf (setBits v hi lo x) hi' lo' = bitsOf v hi' lo' := by
  have hp : 2 ^ lo' = 2 ^ (hi + 1) * 2 ^ (lo' - (hi + 1)) := by rw [← pow_add]; congr 1; omega
  unfold bitsOf
  rw [hp, ← Nat.div_div_eq_div_mul, setBits_div v hi lo x h, Nat.div_div_eq_div_mul]

/-- A field that lies below the one set keeps its value. -/
theorem bitsOf_setBits_below (v hi lo x hi' lo' : Nat) (h : lo ≤ hi) (h' : lo' ≤ hi') (hlt : hi' < lo) :
    bitsOf (setBits v hi lo x) hi' lo' = bitsOf v hi' lo' := by
  have key : ∀ z, bitsOf z hi' lo' = bitsOf (z % 2 ^ lo) hi' lo' := by
    intro z
    have hp : 2 ^ lo = 2 ^ lo' * 2 ^ (lo - lo') := by rw [← pow_add]; congr 1; omega
    have hq : 2 ^ (hi' - lo' + 1) ∣ 2 ^ (lo - lo') := pow_dvd_pow 2 (by omega)
    unfold bitsOf
    rw [hp, Nat.mod_mul_right_div_self, Nat.mod_mod_of_dvd _ hq]
  rw [key, setBits_mod v hi lo x h, ← key]

/-- A bit reads what was set into it. -/
@[simp] theorem bitOf_setBit_same (v i : Nat) (b : Bool) : bitOf (setBit v i b) i = b := by
  have h := bitsOf_setBits_same v i i b.toNat (le_refl i)
  simp only [bitsOf, Nat.sub_self, Nat.zero_add, pow_one] at h
  unfold bitOf setBit
  rw [h]; cases b <;> rfl

/-- Another bit keeps its value. -/
theorem bitOf_setBit_ne (v i j : Nat) (b : Bool) (h : i ≠ j) : bitOf (setBit v i b) j = bitOf v j := by
  have e : ∀ z, bitOf z j = (bitsOf z j j == 1) := by intro z; simp [bitOf, bitsOf]
  rw [e, e]
  rcases Nat.lt_or_gt_of_ne h with h | h
  · rw [setBit, bitsOf_setBits_above v i i _ j j (le_refl _) h]
  · rw [setBit, bitsOf_setBits_below v i i _ j j (le_refl _) (le_refl _) h]

/-! ### The sparse table -/

variable {α : Type}

/-- A key reads what was inserted there. -/
@[simp] theorem tabFind_tabInsert_same (t : Tab α) (k : Nat) (v : α) : tabFind (tabInsert t k v) k = some v := by
  induction t with
  | nil => simp [tabInsert, tabFind]
  | cons p t ih =>
    obtain ⟨k', v'⟩ := p
    simp only [tabInsert]
    split
    · simp [tabFind]
    · split
      · simp [tabFind]
      · rename_i h; simp [tabFind, Ne.symm h, ih]

/-- Another key keeps its value. -/
theorem tabFind_tabInsert_ne (t : Tab α) (k j : Nat) (v : α) (h : k ≠ j) : tabFind (tabInsert t k v) j = tabFind t j := by
  induction t with
  | nil => simp [tabInsert, tabFind, h]
  | cons p t ih =>
    obtain ⟨k', v'⟩ := p
    simp only [tabInsert]
    split
    · simp [tabFind, h]
    · split
      · rename_i h2; subst h2; simp [tabFind, h]
      · simp [tabFind, ih]

/-- A key taken out is found no more. -/
@[simp] theorem tabFind_tabErase_same (t : Tab α) (k : Nat) : tabFind (tabErase t k) k = none := by
  induction t with
  | nil => rfl
  | cons p t ih =>
    obtain ⟨k', v'⟩ := p
    unfold tabErase at ih ⊢
    by_cases hk : k' = k
    · simpa [List.filter_cons, hk] using ih
    · simpa [List.filter_cons, hk, tabFind] using ih

/-- Another key keeps its value. -/
theorem tabFind_tabErase_ne (t : Tab α) (k j : Nat) (h : k ≠ j) : tabFind (tabErase t k) j = tabFind t j := by
  induction t with
  | nil => rfl
  | cons p t ih =>
    obtain ⟨k', v'⟩ := p
    unfold tabErase at ih ⊢
    by_cases hk : k' = k
    · subst hk; simpa [List.filter_cons, tabFind, h] using ih
    · simp [hk, tabFind, ih]

/-- A key reads the value put there. -/
@[simp] theorem tabGet_tabPut_same [DecidableEq α] (t : Tab α) (d : α) (k : Nat) (v : α) : tabGet (tabPut t d k v) d k = v := by
  unfold tabPut tabGet
  split
  · rename_i h; simp [h]
  · simp

/-- Another key keeps its value, whatever it reads where nothing is listed. -/
theorem tabGet_tabPut_ne [DecidableEq α] (t : Tab α) (d d' : α) (k j : Nat) (v : α) (h : k ≠ j) :
    tabGet (tabPut t d k v) d' j = tabGet t d' j := by
  unfold tabPut tabGet
  split
  · rw [tabFind_tabErase_ne t k j h]
  · rw [tabFind_tabInsert_ne t k j v h]

/-- A table is rising where its head lies below the rest and the rest is rising. -/
theorem tabRising_cons (a : Nat × α) (t : Tab α) :
    tabRising (a :: t) = true ↔ (∀ p ∈ t, a.1 < p.1) ∧ tabRising t = true := by
  induction t generalizing a with
  | nil => simp [tabRising]
  | cons b t ih =>
    simp only [tabRising, Bool.and_eq_true, decide_eq_true_eq, List.mem_cons, forall_eq_or_imp]
    constructor
    · rintro ⟨h, hr⟩
      exact ⟨⟨h, fun p hp => lt_trans h (((ih b).1 hr).1 p hp)⟩, hr⟩
    · rintro ⟨⟨h, _⟩, hr⟩; exact ⟨h, hr⟩

/-- Filtering keeps a table rising. -/
theorem tabRising_filter (t : Tab α) (f : Nat × α → Bool) (h : tabRising t = true) : tabRising (t.filter f) = true := by
  induction t with
  | nil => rfl
  | cons a t ih =>
    rw [tabRising_cons] at h
    by_cases hf : f a = true
    · rw [List.filter_cons_of_pos hf, tabRising_cons]
      exact ⟨fun p hp => h.1 p (List.mem_filter.1 hp).1, ih h.2⟩
    · rw [List.filter_cons_of_neg hf]; exact ih h.2

/-- The keys of a table after an insertion: those it had, and the one inserted. -/
theorem mem_tabInsert (t : Tab α) (k : Nat) (v : α) (p : Nat × α) (h : p ∈ tabInsert t k v) : p = (k, v) ∨ p ∈ t := by
  induction t with
  | nil => simpa [tabInsert] using h
  | cons a t ih =>
    obtain ⟨k', v'⟩ := a
    simp only [tabInsert] at h
    split at h
    · simpa using h
    · split at h
      · rcases List.mem_cons.1 h with h | h
        · exact Or.inl h
        · exact Or.inr (List.mem_cons_of_mem _ h)
      · rcases List.mem_cons.1 h with h | h
        · exact Or.inr (by simp [h])
        · rcases ih h with h | h
          · exact Or.inl h
          · exact Or.inr (List.mem_cons_of_mem _ h)

/-- An insertion keeps a table rising. -/
theorem tabRising_tabInsert (t : Tab α) (k : Nat) (v : α) (h : tabRising t = true) : tabRising (tabInsert t k v) = true := by
  induction t with
  | nil => rfl
  | cons a t ih =>
    obtain ⟨k', v'⟩ := a
    have h' := (tabRising_cons (k', v') t).1 h
    simp only [tabInsert]
    split
    · rename_i hk
      rw [tabRising_cons]
      refine ⟨fun p hp => ?_, h⟩
      rcases List.mem_cons.1 hp with rfl | hp
      · exact hk
      · exact lt_trans hk (h'.1 p hp)
    · split
      · rename_i hk; subst hk
        rw [tabRising_cons]; exact h'
      · rename_i h1 h2
        rw [tabRising_cons]
        refine ⟨fun p hp => ?_, ih h'.2⟩
        rcases mem_tabInsert t k v p hp with rfl | hp
        · simp only; omega
        · exact h'.1 p hp

/-- A key put in keeps a table rising. -/
theorem tabRising_tabPut [DecidableEq α] (t : Tab α) (d : α) (k : Nat) (v : α) (h : tabRising t = true) :
    tabRising (tabPut t d k v) = true := by
  unfold tabPut
  split
  · exact tabRising_filter t _ h
  · exact tabRising_tabInsert t k v h

/-- Putting a value keeps the default out of a table. -/
theorem noDefault_tabPut [DecidableEq α] (t : Tab α) (d : α) (k : Nat) (v : α) (h : ∀ p ∈ t, p.2 ≠ d) :
    ∀ p ∈ tabPut t d k v, p.2 ≠ d := by
  intro p hp
  unfold tabPut at hp
  split at hp
  · exact h p (List.mem_filter.1 hp).1
  · rename_i hv
    rcases mem_tabInsert t k v p hp with rfl | hp
    · exact hv
    · exact h p hp

end Sys2Proof.Machine
end

