-- ==== Sys2Proof/Laws/State.lean ====
section
/-! SUPPORT. What each update of the working state leaves as it was, one law per field; registers, channels and memory read
after they are written; and the state that a command leaves. -/

namespace Sys2Proof.Machine

variable (w : Work)

/-! ### After a register set -/

@[simp] theorem Work.setReg_tick (a v : Nat) : (w.setReg a v).tick = w.tick := by rfl
@[simp] theorem Work.setReg_ended (a v : Nat) : (w.setReg a v).ended = w.ended := by rfl
@[simp] theorem Work.setReg_bounds (a v : Nat) : (w.setReg a v).bounds = w.bounds := by rfl
@[simp] theorem Work.setReg_nowCyc (a v : Nat) : (w.setReg a v).nowCyc = w.nowCyc := by rfl
@[simp] theorem Work.setReg_free (a v : Nat) : (w.setReg a v).free = w.free := by rfl
@[simp] theorem Work.setReg_ch (a v : Nat) : (w.setReg a v).ch = w.ch := by rfl
@[simp] theorem Work.setReg_lock (a v : Nat) : (w.setReg a v).lock = w.lock := by rfl
@[simp] theorem Work.setReg_img (a v : Nat) : (w.setReg a v).img = w.img := by rfl
@[simp] theorem Work.setReg_host (a v : Nat) : (w.setReg a v).host = w.host := by rfl
@[simp] theorem Work.setReg_tun (a v : Nat) : (w.setReg a v).tun = w.tun := by rfl
@[simp] theorem Work.setReg_netBoot (a v : Nat) : (w.setReg a v).netBoot = w.netBoot := by rfl
@[simp] theorem Work.setReg_fab (a v : Nat) : (w.setReg a v).fab = w.fab := by rfl
@[simp] theorem Work.setReg_pair (a v : Nat) : (w.setReg a v).pair = w.pair := by rfl
@[simp] theorem Work.setReg_memsys (a v : Nat) : (w.setReg a v).memsys = w.memsys := by rfl
@[simp] theorem Work.setReg_mon (a v : Nat) : (w.setReg a v).mon = w.mon := by rfl
@[simp] theorem Work.setReg_rst (a v : Nat) : (w.setReg a v).rst = w.rst := by rfl
@[simp] theorem Work.setReg_pwr (a v : Nat) : (w.setReg a v).pwr = w.pwr := by rfl
@[simp] theorem Work.setReg_sec (a v : Nat) : (w.setReg a v).sec = w.sec := by rfl
@[simp] theorem Work.setReg_temp (a v : Nat) : (w.setReg a v).temp = w.temp := by rfl
@[simp] theorem Work.setReg_dring (a v : Nat) : (w.setReg a v).dring = w.dring := by rfl
@[simp] theorem Work.setReg_dim (a v : Nat) : (w.setReg a v).dim = w.dim := by rfl
@[simp] theorem Work.setReg_modeReq (a v : Nat) : (w.setReg a v).modeReq = w.modeReq := by rfl
@[simp] theorem Work.setReg_sent (a v : Nat) : (w.setReg a v).sent = w.sent := by rfl
@[simp] theorem Work.setReg_mem (a v : Nat) : (w.setReg a v).mem = w.mem := by rfl
@[simp] theorem Work.setReg_wr (a v : Nat) : (w.setReg a v).wr = w.wr := by rfl

/-! ### After a field set -/

@[simp] theorem Work.put_tick (f : Fld) (v n k : Nat) : (w.put f v n k).tick = w.tick := by rfl
@[simp] theorem Work.put_ended (f : Fld) (v n k : Nat) : (w.put f v n k).ended = w.ended := by rfl
@[simp] theorem Work.put_bounds (f : Fld) (v n k : Nat) : (w.put f v n k).bounds = w.bounds := by rfl
@[simp] theorem Work.put_nowCyc (f : Fld) (v n k : Nat) : (w.put f v n k).nowCyc = w.nowCyc := by rfl
@[simp] theorem Work.put_free (f : Fld) (v n k : Nat) : (w.put f v n k).free = w.free := by rfl
@[simp] theorem Work.put_ch (f : Fld) (v n k : Nat) : (w.put f v n k).ch = w.ch := by rfl
@[simp] theorem Work.put_lock (f : Fld) (v n k : Nat) : (w.put f v n k).lock = w.lock := by rfl
@[simp] theorem Work.put_img (f : Fld) (v n k : Nat) : (w.put f v n k).img = w.img := by rfl
@[simp] theorem Work.put_host (f : Fld) (v n k : Nat) : (w.put f v n k).host = w.host := by rfl
@[simp] theorem Work.put_tun (f : Fld) (v n k : Nat) : (w.put f v n k).tun = w.tun := by rfl
@[simp] theorem Work.put_netBoot (f : Fld) (v n k : Nat) : (w.put f v n k).netBoot = w.netBoot := by rfl
@[simp] theorem Work.put_fab (f : Fld) (v n k : Nat) : (w.put f v n k).fab = w.fab := by rfl
@[simp] theorem Work.put_pair (f : Fld) (v n k : Nat) : (w.put f v n k).pair = w.pair := by rfl
@[simp] theorem Work.put_memsys (f : Fld) (v n k : Nat) : (w.put f v n k).memsys = w.memsys := by rfl
@[simp] theorem Work.put_mon (f : Fld) (v n k : Nat) : (w.put f v n k).mon = w.mon := by rfl
@[simp] theorem Work.put_rst (f : Fld) (v n k : Nat) : (w.put f v n k).rst = w.rst := by rfl
@[simp] theorem Work.put_pwr (f : Fld) (v n k : Nat) : (w.put f v n k).pwr = w.pwr := by rfl
@[simp] theorem Work.put_sec (f : Fld) (v n k : Nat) : (w.put f v n k).sec = w.sec := by rfl
@[simp] theorem Work.put_temp (f : Fld) (v n k : Nat) : (w.put f v n k).temp = w.temp := by rfl
@[simp] theorem Work.put_dring (f : Fld) (v n k : Nat) : (w.put f v n k).dring = w.dring := by rfl
@[simp] theorem Work.put_dim (f : Fld) (v n k : Nat) : (w.put f v n k).dim = w.dim := by rfl
@[simp] theorem Work.put_modeReq (f : Fld) (v n k : Nat) : (w.put f v n k).modeReq = w.modeReq := by rfl
@[simp] theorem Work.put_sent (f : Fld) (v n k : Nat) : (w.put f v n k).sent = w.sent := by rfl
@[simp] theorem Work.put_mem (f : Fld) (v n k : Nat) : (w.put f v n k).mem = w.mem := by rfl
@[simp] theorem Work.put_wr (f : Fld) (v n k : Nat) : (w.put f v n k).wr = w.wr := by rfl

/-! ### After a channel replaced -/

@[simp] theorem Work.setChan_regs (n : Nat) (c : Chan) : (w.setChan n c).regs = w.regs := by rfl
@[simp] theorem Work.setChan_tick (n : Nat) (c : Chan) : (w.setChan n c).tick = w.tick := by rfl
@[simp] theorem Work.setChan_ended (n : Nat) (c : Chan) : (w.setChan n c).ended = w.ended := by rfl
@[simp] theorem Work.setChan_bounds (n : Nat) (c : Chan) : (w.setChan n c).bounds = w.bounds := by rfl
@[simp] theorem Work.setChan_nowCyc (n : Nat) (c : Chan) : (w.setChan n c).nowCyc = w.nowCyc := by rfl
@[simp] theorem Work.setChan_free (n : Nat) (c : Chan) : (w.setChan n c).free = w.free := by rfl
@[simp] theorem Work.setChan_lock (n : Nat) (c : Chan) : (w.setChan n c).lock = w.lock := by rfl
@[simp] theorem Work.setChan_img (n : Nat) (c : Chan) : (w.setChan n c).img = w.img := by rfl
@[simp] theorem Work.setChan_host (n : Nat) (c : Chan) : (w.setChan n c).host = w.host := by rfl
@[simp] theorem Work.setChan_tun (n : Nat) (c : Chan) : (w.setChan n c).tun = w.tun := by rfl
@[simp] theorem Work.setChan_netBoot (n : Nat) (c : Chan) : (w.setChan n c).netBoot = w.netBoot := by rfl
@[simp] theorem Work.setChan_fab (n : Nat) (c : Chan) : (w.setChan n c).fab = w.fab := by rfl
@[simp] theorem Work.setChan_pair (n : Nat) (c : Chan) : (w.setChan n c).pair = w.pair := by rfl
@[simp] theorem Work.setChan_memsys (n : Nat) (c : Chan) : (w.setChan n c).memsys = w.memsys := by rfl
@[simp] theorem Work.setChan_mon (n : Nat) (c : Chan) : (w.setChan n c).mon = w.mon := by rfl
@[simp] theorem Work.setChan_rst (n : Nat) (c : Chan) : (w.setChan n c).rst = w.rst := by rfl
@[simp] theorem Work.setChan_pwr (n : Nat) (c : Chan) : (w.setChan n c).pwr = w.pwr := by rfl
@[simp] theorem Work.setChan_sec (n : Nat) (c : Chan) : (w.setChan n c).sec = w.sec := by rfl
@[simp] theorem Work.setChan_temp (n : Nat) (c : Chan) : (w.setChan n c).temp = w.temp := by rfl
@[simp] theorem Work.setChan_dring (n : Nat) (c : Chan) : (w.setChan n c).dring = w.dring := by rfl
@[simp] theorem Work.setChan_dim (n : Nat) (c : Chan) : (w.setChan n c).dim = w.dim := by rfl
@[simp] theorem Work.setChan_modeReq (n : Nat) (c : Chan) : (w.setChan n c).modeReq = w.modeReq := by rfl
@[simp] theorem Work.setChan_sent (n : Nat) (c : Chan) : (w.setChan n c).sent = w.sent := by rfl
@[simp] theorem Work.setChan_mem (n : Nat) (c : Chan) : (w.setChan n c).mem = w.mem := by rfl
@[simp] theorem Work.setChan_wr (n : Nat) (c : Chan) : (w.setChan n c).wr = w.wr := by rfl

/-! ### After a channel changed -/

@[simp] theorem Work.modChan_regs (n : Nat) (f : Chan → Chan) : (w.modChan n f).regs = w.regs := by rfl
@[simp] theorem Work.modChan_tick (n : Nat) (f : Chan → Chan) : (w.modChan n f).tick = w.tick := by rfl
@[simp] theorem Work.modChan_ended (n : Nat) (f : Chan → Chan) : (w.modChan n f).ended = w.ended := by rfl
@[simp] theorem Work.modChan_bounds (n : Nat) (f : Chan → Chan) : (w.modChan n f).bounds = w.bounds := by rfl
@[simp] theorem Work.modChan_nowCyc (n : Nat) (f : Chan → Chan) : (w.modChan n f).nowCyc = w.nowCyc := by rfl
@[simp] theorem Work.modChan_free (n : Nat) (f : Chan → Chan) : (w.modChan n f).free = w.free := by rfl
@[simp] theorem Work.modChan_lock (n : Nat) (f : Chan → Chan) : (w.modChan n f).lock = w.lock := by rfl
@[simp] theorem Work.modChan_img (n : Nat) (f : Chan → Chan) : (w.modChan n f).img = w.img := by rfl
@[simp] theorem Work.modChan_host (n : Nat) (f : Chan → Chan) : (w.modChan n f).host = w.host := by rfl
@[simp] theorem Work.modChan_tun (n : Nat) (f : Chan → Chan) : (w.modChan n f).tun = w.tun := by rfl
@[simp] theorem Work.modChan_netBoot (n : Nat) (f : Chan → Chan) : (w.modChan n f).netBoot = w.netBoot := by rfl
@[simp] theorem Work.modChan_fab (n : Nat) (f : Chan → Chan) : (w.modChan n f).fab = w.fab := by rfl
@[simp] theorem Work.modChan_pair (n : Nat) (f : Chan → Chan) : (w.modChan n f).pair = w.pair := by rfl
@[simp] theorem Work.modChan_memsys (n : Nat) (f : Chan → Chan) : (w.modChan n f).memsys = w.memsys := by rfl
@[simp] theorem Work.modChan_mon (n : Nat) (f : Chan → Chan) : (w.modChan n f).mon = w.mon := by rfl
@[simp] theorem Work.modChan_rst (n : Nat) (f : Chan → Chan) : (w.modChan n f).rst = w.rst := by rfl
@[simp] theorem Work.modChan_pwr (n : Nat) (f : Chan → Chan) : (w.modChan n f).pwr = w.pwr := by rfl
@[simp] theorem Work.modChan_sec (n : Nat) (f : Chan → Chan) : (w.modChan n f).sec = w.sec := by rfl
@[simp] theorem Work.modChan_temp (n : Nat) (f : Chan → Chan) : (w.modChan n f).temp = w.temp := by rfl
@[simp] theorem Work.modChan_dring (n : Nat) (f : Chan → Chan) : (w.modChan n f).dring = w.dring := by rfl
@[simp] theorem Work.modChan_dim (n : Nat) (f : Chan → Chan) : (w.modChan n f).dim = w.dim := by rfl
@[simp] theorem Work.modChan_modeReq (n : Nat) (f : Chan → Chan) : (w.modChan n f).modeReq = w.modeReq := by rfl
@[simp] theorem Work.modChan_sent (n : Nat) (f : Chan → Chan) : (w.modChan n f).sent = w.sent := by rfl
@[simp] theorem Work.modChan_mem (n : Nat) (f : Chan → Chan) : (w.modChan n f).mem = w.mem := by rfl
@[simp] theorem Work.modChan_wr (n : Nat) (f : Chan → Chan) : (w.modChan n f).wr = w.wr := by rfl

/-! ### After a Tun engine changed -/

@[simp] theorem Work.modTun_regs (e : Nat) (f : TunEng → TunEng) : (w.modTun e f).regs = w.regs := by rfl
@[simp] theorem Work.modTun_tick (e : Nat) (f : TunEng → TunEng) : (w.modTun e f).tick = w.tick := by rfl
@[simp] theorem Work.modTun_ended (e : Nat) (f : TunEng → TunEng) : (w.modTun e f).ended = w.ended := by rfl
@[simp] theorem Work.modTun_bounds (e : Nat) (f : TunEng → TunEng) : (w.modTun e f).bounds = w.bounds := by rfl
@[simp] theorem Work.modTun_nowCyc (e : Nat) (f : TunEng → TunEng) : (w.modTun e f).nowCyc = w.nowCyc := by rfl
@[simp] theorem Work.modTun_free (e : Nat) (f : TunEng → TunEng) : (w.modTun e f).free = w.free := by rfl
@[simp] theorem Work.modTun_ch (e : Nat) (f : TunEng → TunEng) : (w.modTun e f).ch = w.ch := by rfl
@[simp] theorem Work.modTun_lock (e : Nat) (f : TunEng → TunEng) : (w.modTun e f).lock = w.lock := by rfl
@[simp] theorem Work.modTun_img (e : Nat) (f : TunEng → TunEng) : (w.modTun e f).img = w.img := by rfl
@[simp] theorem Work.modTun_host (e : Nat) (f : TunEng → TunEng) : (w.modTun e f).host = w.host := by rfl
@[simp] theorem Work.modTun_netBoot (e : Nat) (f : TunEng → TunEng) : (w.modTun e f).netBoot = w.netBoot := by rfl
@[simp] theorem Work.modTun_fab (e : Nat) (f : TunEng → TunEng) : (w.modTun e f).fab = w.fab := by rfl
@[simp] theorem Work.modTun_pair (e : Nat) (f : TunEng → TunEng) : (w.modTun e f).pair = w.pair := by rfl
@[simp] theorem Work.modTun_memsys (e : Nat) (f : TunEng → TunEng) : (w.modTun e f).memsys = w.memsys := by rfl
@[simp] theorem Work.modTun_mon (e : Nat) (f : TunEng → TunEng) : (w.modTun e f).mon = w.mon := by rfl
@[simp] theorem Work.modTun_rst (e : Nat) (f : TunEng → TunEng) : (w.modTun e f).rst = w.rst := by rfl
@[simp] theorem Work.modTun_pwr (e : Nat) (f : TunEng → TunEng) : (w.modTun e f).pwr = w.pwr := by rfl
@[simp] theorem Work.modTun_sec (e : Nat) (f : TunEng → TunEng) : (w.modTun e f).sec = w.sec := by rfl
@[simp] theorem Work.modTun_temp (e : Nat) (f : TunEng → TunEng) : (w.modTun e f).temp = w.temp := by rfl
@[simp] theorem Work.modTun_dring (e : Nat) (f : TunEng → TunEng) : (w.modTun e f).dring = w.dring := by rfl
@[simp] theorem Work.modTun_dim (e : Nat) (f : TunEng → TunEng) : (w.modTun e f).dim = w.dim := by rfl
@[simp] theorem Work.modTun_modeReq (e : Nat) (f : TunEng → TunEng) : (w.modTun e f).modeReq = w.modeReq := by rfl
@[simp] theorem Work.modTun_sent (e : Nat) (f : TunEng → TunEng) : (w.modTun e f).sent = w.sent := by rfl
@[simp] theorem Work.modTun_mem (e : Nat) (f : TunEng → TunEng) : (w.modTun e f).mem = w.mem := by rfl
@[simp] theorem Work.modTun_wr (e : Nat) (f : TunEng → TunEng) : (w.modTun e f).wr = w.wr := by rfl

/-! ### After a frame sent -/

@[simp] theorem Work.send_regs (m : Sent) : (w.send m).regs = w.regs := by rfl
@[simp] theorem Work.send_tick (m : Sent) : (w.send m).tick = w.tick := by rfl
@[simp] theorem Work.send_ended (m : Sent) : (w.send m).ended = w.ended := by rfl
@[simp] theorem Work.send_bounds (m : Sent) : (w.send m).bounds = w.bounds := by rfl
@[simp] theorem Work.send_nowCyc (m : Sent) : (w.send m).nowCyc = w.nowCyc := by rfl
@[simp] theorem Work.send_free (m : Sent) : (w.send m).free = w.free := by rfl
@[simp] theorem Work.send_ch (m : Sent) : (w.send m).ch = w.ch := by rfl
@[simp] theorem Work.send_lock (m : Sent) : (w.send m).lock = w.lock := by rfl
@[simp] theorem Work.send_img (m : Sent) : (w.send m).img = w.img := by rfl
@[simp] theorem Work.send_host (m : Sent) : (w.send m).host = w.host := by rfl
@[simp] theorem Work.send_tun (m : Sent) : (w.send m).tun = w.tun := by rfl
@[simp] theorem Work.send_netBoot (m : Sent) : (w.send m).netBoot = w.netBoot := by rfl
@[simp] theorem Work.send_fab (m : Sent) : (w.send m).fab = w.fab := by rfl
@[simp] theorem Work.send_pair (m : Sent) : (w.send m).pair = w.pair := by rfl
@[simp] theorem Work.send_memsys (m : Sent) : (w.send m).memsys = w.memsys := by rfl
@[simp] theorem Work.send_mon (m : Sent) : (w.send m).mon = w.mon := by rfl
@[simp] theorem Work.send_rst (m : Sent) : (w.send m).rst = w.rst := by rfl
@[simp] theorem Work.send_pwr (m : Sent) : (w.send m).pwr = w.pwr := by rfl
@[simp] theorem Work.send_sec (m : Sent) : (w.send m).sec = w.sec := by rfl
@[simp] theorem Work.send_temp (m : Sent) : (w.send m).temp = w.temp := by rfl
@[simp] theorem Work.send_dring (m : Sent) : (w.send m).dring = w.dring := by rfl
@[simp] theorem Work.send_dim (m : Sent) : (w.send m).dim = w.dim := by rfl
@[simp] theorem Work.send_modeReq (m : Sent) : (w.send m).modeReq = w.modeReq := by rfl
@[simp] theorem Work.send_mem (m : Sent) : (w.send m).mem = w.mem := by rfl
@[simp] theorem Work.send_wr (m : Sent) : (w.send m).wr = w.wr := by rfl

/-! ### After a range of memory set to 0 -/

@[simp] theorem Work.wipe_regs (lo hi : Nat) : (w.wipe lo hi).regs = w.regs := by unfold Work.wipe; dsimp only; split <;> rfl
@[simp] theorem Work.wipe_tick (lo hi : Nat) : (w.wipe lo hi).tick = w.tick := by unfold Work.wipe; dsimp only; split <;> rfl
@[simp] theorem Work.wipe_ended (lo hi : Nat) : (w.wipe lo hi).ended = w.ended := by unfold Work.wipe; dsimp only; split <;> rfl
@[simp] theorem Work.wipe_bounds (lo hi : Nat) : (w.wipe lo hi).bounds = w.bounds := by unfold Work.wipe; dsimp only; split <;> rfl
@[simp] theorem Work.wipe_nowCyc (lo hi : Nat) : (w.wipe lo hi).nowCyc = w.nowCyc := by unfold Work.wipe; dsimp only; split <;> rfl
@[simp] theorem Work.wipe_free (lo hi : Nat) : (w.wipe lo hi).free = w.free := by unfold Work.wipe; dsimp only; split <;> rfl
@[simp] theorem Work.wipe_ch (lo hi : Nat) : (w.wipe lo hi).ch = w.ch := by unfold Work.wipe; dsimp only; split <;> rfl
@[simp] theorem Work.wipe_lock (lo hi : Nat) : (w.wipe lo hi).lock = w.lock := by unfold Work.wipe; dsimp only; split <;> rfl
@[simp] theorem Work.wipe_img (lo hi : Nat) : (w.wipe lo hi).img = w.img := by unfold Work.wipe; dsimp only; split <;> rfl
@[simp] theorem Work.wipe_host (lo hi : Nat) : (w.wipe lo hi).host = w.host := by unfold Work.wipe; dsimp only; split <;> rfl
@[simp] theorem Work.wipe_tun (lo hi : Nat) : (w.wipe lo hi).tun = w.tun := by unfold Work.wipe; dsimp only; split <;> rfl
@[simp] theorem Work.wipe_netBoot (lo hi : Nat) : (w.wipe lo hi).netBoot = w.netBoot := by unfold Work.wipe; dsimp only; split <;> rfl
@[simp] theorem Work.wipe_fab (lo hi : Nat) : (w.wipe lo hi).fab = w.fab := by unfold Work.wipe; dsimp only; split <;> rfl
@[simp] theorem Work.wipe_pair (lo hi : Nat) : (w.wipe lo hi).pair = w.pair := by unfold Work.wipe; dsimp only; split <;> rfl
@[simp] theorem Work.wipe_mon (lo hi : Nat) : (w.wipe lo hi).mon = w.mon := by unfold Work.wipe; dsimp only; split <;> rfl
@[simp] theorem Work.wipe_rst (lo hi : Nat) : (w.wipe lo hi).rst = w.rst := by unfold Work.wipe; dsimp only; split <;> rfl
@[simp] theorem Work.wipe_pwr (lo hi : Nat) : (w.wipe lo hi).pwr = w.pwr := by unfold Work.wipe; dsimp only; split <;> rfl
@[simp] theorem Work.wipe_sec (lo hi : Nat) : (w.wipe lo hi).sec = w.sec := by unfold Work.wipe; dsimp only; split <;> rfl
@[simp] theorem Work.wipe_temp (lo hi : Nat) : (w.wipe lo hi).temp = w.temp := by unfold Work.wipe; dsimp only; split <;> rfl
@[simp] theorem Work.wipe_dring (lo hi : Nat) : (w.wipe lo hi).dring = w.dring := by unfold Work.wipe; dsimp only; split <;> rfl
@[simp] theorem Work.wipe_dim (lo hi : Nat) : (w.wipe lo hi).dim = w.dim := by unfold Work.wipe; dsimp only; split <;> rfl
@[simp] theorem Work.wipe_modeReq (lo hi : Nat) : (w.wipe lo hi).modeReq = w.modeReq := by unfold Work.wipe; dsimp only; split <;> rfl
@[simp] theorem Work.wipe_sent (lo hi : Nat) : (w.wipe lo hi).sent = w.sent := by unfold Work.wipe; dsimp only; split <;> rfl
@[simp] theorem Work.wipe_mem (lo hi : Nat) : (w.wipe lo hi).mem = w.mem := by unfold Work.wipe; dsimp only; split <;> rfl

/-! ### After an event counted -/

@[simp] theorem Work.ev_regs (c i k : Nat) : (w.ev c i k).regs = w.regs := by unfold Work.ev; split <;> rfl
@[simp] theorem Work.ev_tick (c i k : Nat) : (w.ev c i k).tick = w.tick := by unfold Work.ev; split <;> rfl
@[simp] theorem Work.ev_ended (c i k : Nat) : (w.ev c i k).ended = w.ended := by unfold Work.ev; split <;> rfl
@[simp] theorem Work.ev_bounds (c i k : Nat) : (w.ev c i k).bounds = w.bounds := by unfold Work.ev; split <;> rfl
@[simp] theorem Work.ev_nowCyc (c i k : Nat) : (w.ev c i k).nowCyc = w.nowCyc := by unfold Work.ev; split <;> rfl
@[simp] theorem Work.ev_free (c i k : Nat) : (w.ev c i k).free = w.free := by unfold Work.ev; split <;> rfl
@[simp] theorem Work.ev_ch (c i k : Nat) : (w.ev c i k).ch = w.ch := by unfold Work.ev; split <;> rfl
@[simp] theorem Work.ev_lock (c i k : Nat) : (w.ev c i k).lock = w.lock := by unfold Work.ev; split <;> rfl
@[simp] theorem Work.ev_img (c i k : Nat) : (w.ev c i k).img = w.img := by unfold Work.ev; split <;> rfl
@[simp] theorem Work.ev_host (c i k : Nat) : (w.ev c i k).host = w.host := by unfold Work.ev; split <;> rfl
@[simp] theorem Work.ev_tun (c i k : Nat) : (w.ev c i k).tun = w.tun := by unfold Work.ev; split <;> rfl
@[simp] theorem Work.ev_netBoot (c i k : Nat) : (w.ev c i k).netBoot = w.netBoot := by unfold Work.ev; split <;> rfl
@[simp] theorem Work.ev_fab (c i k : Nat) : (w.ev c i k).fab = w.fab := by unfold Work.ev; split <;> rfl
@[simp] theorem Work.ev_pair (c i k : Nat) : (w.ev c i k).pair = w.pair := by unfold Work.ev; split <;> rfl
@[simp] theorem Work.ev_memsys (c i k : Nat) : (w.ev c i k).memsys = w.memsys := by unfold Work.ev; split <;> rfl
@[simp] theorem Work.ev_rst (c i k : Nat) : (w.ev c i k).rst = w.rst := by unfold Work.ev; split <;> rfl
@[simp] theorem Work.ev_pwr (c i k : Nat) : (w.ev c i k).pwr = w.pwr := by unfold Work.ev; split <;> rfl
@[simp] theorem Work.ev_sec (c i k : Nat) : (w.ev c i k).sec = w.sec := by unfold Work.ev; split <;> rfl
@[simp] theorem Work.ev_temp (c i k : Nat) : (w.ev c i k).temp = w.temp := by unfold Work.ev; split <;> rfl
@[simp] theorem Work.ev_dring (c i k : Nat) : (w.ev c i k).dring = w.dring := by unfold Work.ev; split <;> rfl
@[simp] theorem Work.ev_dim (c i k : Nat) : (w.ev c i k).dim = w.dim := by unfold Work.ev; split <;> rfl
@[simp] theorem Work.ev_modeReq (c i k : Nat) : (w.ev c i k).modeReq = w.modeReq := by unfold Work.ev; split <;> rfl
@[simp] theorem Work.ev_sent (c i k : Nat) : (w.ev c i k).sent = w.sent := by unfold Work.ev; split <;> rfl
@[simp] theorem Work.ev_mem (c i k : Nat) : (w.ev c i k).mem = w.mem := by unfold Work.ev; split <;> rfl
@[simp] theorem Work.ev_wr (c i k : Nat) : (w.ev c i k).wr = w.wr := by unfold Work.ev; split <;> rfl

/-! ### After a byte written -/

@[simp] theorem Work.poke_regs (a : Nat) (b : Byte) : (w.poke a b).regs = w.regs := by unfold Work.poke; (repeat split) <;> rfl
@[simp] theorem Work.poke_tick (a : Nat) (b : Byte) : (w.poke a b).tick = w.tick := by unfold Work.poke; (repeat split) <;> rfl
@[simp] theorem Work.poke_ended (a : Nat) (b : Byte) : (w.poke a b).ended = w.ended := by unfold Work.poke; (repeat split) <;> rfl
@[simp] theorem Work.poke_bounds (a : Nat) (b : Byte) : (w.poke a b).bounds = w.bounds := by unfold Work.poke; (repeat split) <;> rfl
@[simp] theorem Work.poke_nowCyc (a : Nat) (b : Byte) : (w.poke a b).nowCyc = w.nowCyc := by unfold Work.poke; (repeat split) <;> rfl
@[simp] theorem Work.poke_free (a : Nat) (b : Byte) : (w.poke a b).free = w.free := by unfold Work.poke; (repeat split) <;> rfl
@[simp] theorem Work.poke_ch (a : Nat) (b : Byte) : (w.poke a b).ch = w.ch := by unfold Work.poke; (repeat split) <;> rfl
@[simp] theorem Work.poke_lock (a : Nat) (b : Byte) : (w.poke a b).lock = w.lock := by unfold Work.poke; (repeat split) <;> rfl
@[simp] theorem Work.poke_img (a : Nat) (b : Byte) : (w.poke a b).img = w.img := by unfold Work.poke; (repeat split) <;> rfl
@[simp] theorem Work.poke_host (a : Nat) (b : Byte) : (w.poke a b).host = w.host := by unfold Work.poke; (repeat split) <;> rfl
@[simp] theorem Work.poke_tun (a : Nat) (b : Byte) : (w.poke a b).tun = w.tun := by unfold Work.poke; (repeat split) <;> rfl
@[simp] theorem Work.poke_netBoot (a : Nat) (b : Byte) : (w.poke a b).netBoot = w.netBoot := by unfold Work.poke; (repeat split) <;> rfl
@[simp] theorem Work.poke_fab (a : Nat) (b : Byte) : (w.poke a b).fab = w.fab := by unfold Work.poke; (repeat split) <;> rfl
@[simp] theorem Work.poke_pair (a : Nat) (b : Byte) : (w.poke a b).pair = w.pair := by unfold Work.poke; (repeat split) <;> rfl
@[simp] theorem Work.poke_mon (a : Nat) (b : Byte) : (w.poke a b).mon = w.mon := by unfold Work.poke; (repeat split) <;> rfl
@[simp] theorem Work.poke_rst (a : Nat) (b : Byte) : (w.poke a b).rst = w.rst := by unfold Work.poke; (repeat split) <;> rfl
@[simp] theorem Work.poke_pwr (a : Nat) (b : Byte) : (w.poke a b).pwr = w.pwr := by unfold Work.poke; (repeat split) <;> rfl
@[simp] theorem Work.poke_sec (a : Nat) (b : Byte) : (w.poke a b).sec = w.sec := by unfold Work.poke; (repeat split) <;> rfl
@[simp] theorem Work.poke_temp (a : Nat) (b : Byte) : (w.poke a b).temp = w.temp := by unfold Work.poke; (repeat split) <;> rfl
@[simp] theorem Work.poke_dring (a : Nat) (b : Byte) : (w.poke a b).dring = w.dring := by unfold Work.poke; (repeat split) <;> rfl
@[simp] theorem Work.poke_dim (a : Nat) (b : Byte) : (w.poke a b).dim = w.dim := by unfold Work.poke; (repeat split) <;> rfl
@[simp] theorem Work.poke_modeReq (a : Nat) (b : Byte) : (w.poke a b).modeReq = w.modeReq := by unfold Work.poke; (repeat split) <;> rfl
@[simp] theorem Work.poke_sent (a : Nat) (b : Byte) : (w.poke a b).sent = w.sent := by unfold Work.poke; (repeat split) <;> rfl
@[simp] theorem Work.poke_mem (a : Nat) (b : Byte) : (w.poke a b).mem = w.mem := by unfold Work.poke; (repeat split) <;> rfl

/-! ### The small forms are `put` and `modChan` -/

@[simp] theorem Work.raise_eq (f : Fld) (n k : Nat) : w.raise f n k = w.put f 1 n k := by rfl
@[simp] theorem Work.putFlag_eq (f : Fld) (b : Bool) (n k : Nat) : w.putFlag f b n k = w.put f b.toNat n k := by rfl
@[simp] theorem Work.countWrap_eq (f : Fld) (n k d : Nat) :
    w.countWrap f n k d = w.put f ((w.get f n k + d) % 2 ^ (f.hi - f.lo + 1)) n k := rfl
@[simp] theorem Work.countUp_eq (f : Fld) (n k d : Nat) :
    w.countUp f n k d = w.put f (satAdd (2 ^ (f.hi - f.lo + 1) - 1) (w.get f n k) d) n k := rfl

/-! ### Registers -/

/-- A register reads what was set into it. -/
@[simp] theorem Work.reg_setReg_same (a v : Nat) : (w.setReg a v).reg a = v := by
  simp [Work.reg, Work.setReg]

/-- Another register keeps its word. -/
theorem Work.reg_setReg_ne (a b v : Nat) (h : b ≠ a) : (w.setReg a v).reg b = w.reg b := by
  simp only [Work.reg, Work.setReg]
  exact tabGet_tabPut_ne _ _ _ _ _ _ (Ne.symm h)

/-- A field's register keeps its other words. -/
theorem Work.reg_put_ne (f : Fld) (v n k b : Nat) (h : b ≠ f.addr n k) : (w.put f v n k).reg b = w.reg b :=
  w.reg_setReg_ne _ _ _ h

/-- A register after one of its fields was set. -/
@[simp] theorem Work.reg_put_same (f : Fld) (v n k : Nat) :
    (w.put f v n k).reg (f.addr n k) = setBits (w.reg (f.addr n k)) f.hi f.lo v :=
  w.reg_setReg_same _ _

@[simp] theorem Work.reg_setChan (n : Nat) (c : Chan) (a : Nat) : (w.setChan n c).reg a = w.reg a := by rfl
@[simp] theorem Work.reg_modChan (n : Nat) (f : Chan → Chan) (a : Nat) : (w.modChan n f).reg a = w.reg a := by rfl
@[simp] theorem Work.reg_modTun (e : Nat) (f : TunEng → TunEng) (a : Nat) : (w.modTun e f).reg a = w.reg a := by rfl
@[simp] theorem Work.reg_send (m : Sent) (a : Nat) : (w.send m).reg a = w.reg a := by rfl
@[simp] theorem Work.reg_wipe (lo hi a : Nat) : (w.wipe lo hi).reg a = w.reg a := by
  unfold Work.reg; rw [Work.wipe_regs]
@[simp] theorem Work.reg_ev (c i k a : Nat) : (w.ev c i k).reg a = w.reg a := by unfold Work.reg; rw [Work.ev_regs]
@[simp] theorem Work.reg_poke (a : Nat) (b : Byte) (x : Nat) : (w.poke a b).reg x = w.reg x := by
  unfold Work.reg; rw [Work.poke_regs]

/-! ### Fields -/

@[simp] theorem Work.get_setChan (n : Nat) (c : Chan) (f : Fld) (m k : Nat) : (w.setChan n c).get f m k = w.get f m k := by rfl
@[simp] theorem Work.get_modChan (n : Nat) (g : Chan → Chan) (f : Fld) (m k : Nat) : (w.modChan n g).get f m k = w.get f m k := by rfl
@[simp] theorem Work.get_modTun (e : Nat) (g : TunEng → TunEng) (f : Fld) (m k : Nat) : (w.modTun e g).get f m k = w.get f m k := by rfl
@[simp] theorem Work.get_send (x : Sent) (f : Fld) (m k : Nat) : (w.send x).get f m k = w.get f m k := by rfl
@[simp] theorem Work.get_ev (c i j : Nat) (f : Fld) (m k : Nat) : (w.ev c i j).get f m k = w.get f m k := by
  simp [Work.get]

/-- A field reads what was put into it, cut to its width. -/
theorem Work.get_put_same (f : Fld) (v n k : Nat) (h : f.lo ≤ f.hi) :
    (w.put f v n k).get f n k = v % 2 ^ (f.hi - f.lo + 1) := by
  simp [Work.get, bitsOf_setBits_same _ _ _ _ h]

/-- A field of another register keeps its value. -/
theorem Work.get_put_addr (f g : Fld) (v n k m j : Nat) (h : g.addr m j ≠ f.addr n k) :
    (w.put f v n k).get g m j = w.get g m j := by
  simp [Work.get, w.reg_put_ne f v n k _ h]

/-- Another field of the same register keeps its value. -/
theorem Work.get_put_bits (f g : Fld) (v n k m j : Nat) (hf : f.lo ≤ f.hi) (hg : g.lo ≤ g.hi)
    (h : g.hi < f.lo ∨ f.hi < g.lo) : (w.put f v n k).get g m j = w.get g m j := by
  by_cases ha : g.addr m j = f.addr n k
  · simp only [Work.get, ha, Work.reg_put_same]
    rcases h with h | h
    · exact bitsOf_setBits_below _ _ _ _ _ _ hf hg h
    · exact bitsOf_setBits_above _ _ _ _ _ _ hf h
  · exact w.get_put_addr f g v n k m j ha

/-- Two fields share no bit of the same copy of a register. -/
def fieldsApart (f g : Fld) : Bool :=
  decide (f.base ≠ g.base) || (decide (f.lo ≤ f.hi) && decide (g.lo ≤ g.hi) && (decide (g.hi < f.lo) || decide (f.hi < g.lo)))

/-- A field that shares no bit with the one put keeps its value, in the same channel. -/
theorem Work.get_put_apart (f g : Fld) (v n : Nat) (h : fieldsApart f g = true) : (w.put f v n 0).get g n 0 = w.get g n 0 := by
  simp only [fieldsApart, Bool.or_eq_true, Bool.and_eq_true, decide_eq_true_eq] at h
  rcases h with h | ⟨⟨h1, h2⟩, h3⟩
  · apply Work.get_put_addr; simp only [Fld.addr]; omega
  · exact w.get_put_bits f g v n 0 n 0 h1 h2 h3

/-- A device register's field keeps its value where a channel register's field is put. -/
theorem Work.get_put_chanDev (f g : Fld) (v n k : Nat) (h : g.base < 0x40100000 ∧ 0x40100000 ≤ f.base) :
    (w.put f v n k).get g 0 0 = w.get g 0 0 := by
  apply Work.get_put_addr; simp only [Fld.addr]; omega

/-- A channel register's field keeps its value where a device register's field is put. -/
theorem Work.get_put_devChan (f g : Fld) (v m j : Nat) (h : f.base < 0x40100000 ∧ 0x40100000 ≤ g.base) :
    (w.put f v 0 0).get g m j = w.get g m j := by
  apply Work.get_put_addr; simp only [Fld.addr]; omega

/-- A one-bit device field keeps its value where a channel register's field is put. -/
theorem Work.flag_put_chanDev (f g : Fld) (v n k : Nat) (h : g.base < 0x40100000 ∧ 0x40100000 ≤ f.base) :
    (w.put f v n k).flag g 0 0 = w.flag g 0 0 := by
  unfold Work.flag; rw [w.get_put_chanDev f g v n k h]

/-- A one-bit channel field keeps its value where a device register's field is put. -/
theorem Work.flag_put_devChan (f g : Fld) (v m j : Nat) (h : f.base < 0x40100000 ∧ 0x40100000 ≤ g.base) :
    (w.put f v 0 0).flag g m j = w.flag g m j := by
  unfold Work.flag; rw [w.get_put_devChan f g v m j h]

/-! ### Channels -/

@[simp] theorem Work.chan_put (f : Fld) (v n k m : Nat) : (w.put f v n k).chan m = w.chan m := by rfl
@[simp] theorem Work.chan_setReg (a v m : Nat) : (w.setReg a v).chan m = w.chan m := by rfl
@[simp] theorem Work.chan_send (x : Sent) (m : Nat) : (w.send x).chan m = w.chan m := by rfl
@[simp] theorem Work.chan_modTun (e : Nat) (g : TunEng → TunEng) (m : Nat) : (w.modTun e g).chan m = w.chan m := by rfl
@[simp] theorem Work.chan_wipe (lo hi m : Nat) : (w.wipe lo hi).chan m = w.chan m := by
  unfold Work.chan; rw [Work.wipe_ch]
@[simp] theorem Work.chan_ev (c i k m : Nat) : (w.ev c i k).chan m = w.chan m := by unfold Work.chan; rw [Work.ev_ch]
@[simp] theorem Work.chan_poke (a : Nat) (b : Byte) (m : Nat) : (w.poke a b).chan m = w.chan m := by
  unfold Work.chan; rw [Work.poke_ch]

/-- A channel reads as it was set. -/
theorem Work.chan_setChan_same (n : Nat) (c : Chan) (h : n < 8) : (w.setChan n c).chan n = c := by
  simp [Work.chan, Work.setChan, h]

/-- Another channel is as it was. -/
theorem Work.chan_setChan_ne (n m : Nat) (c : Chan) (h : m ≠ n) : (w.setChan n c).chan m = w.chan m := by
  simp only [Work.chan, Work.setChan]
  by_cases hm : m < 8
  · simp [hm, Ne.symm h]
  · simp [hm]

/-- A channel reads as it was changed. -/
@[simp] theorem Work.chan_modChan_fin (n : Fin 8) (f : Chan → Chan) : (w.modChan n f).chan n = f (w.chan n) :=
  w.chan_setChan_same n _ n.isLt

/-- A channel reads as it was changed. -/
theorem Work.chan_modChan_same (n : Nat) (f : Chan → Chan) (h : n < 8) : (w.modChan n f).chan n = f (w.chan n) :=
  w.chan_setChan_same n _ h

/-- Another channel is as it was. -/
theorem Work.chan_modChan_ne (n m : Nat) (f : Chan → Chan) (h : m ≠ n) : (w.modChan n f).chan m = w.chan m :=
  w.chan_setChan_ne n m _ h

@[simp] theorem Work.chState_modChan (n m : Nat) (f : Chan → Chan) : (w.modChan n f).chState m = w.chState m := by
  unfold Work.chState; rw [Work.get_modChan]
@[simp] theorem Work.chState_ev (c i k m : Nat) : (w.ev c i k).chState m = w.chState m := by
  unfold Work.chState; rw [Work.get_ev]
@[simp] theorem Work.chState_send (x : Sent) (m : Nat) : (w.send x).chState m = w.chState m := by
  unfold Work.chState; rw [Work.get_send]

/-- The channel states keep what they were where a channel register's field is put. -/
theorem Work.chState_put (f : Fld) (v n k m : Nat) (h : 0x40100000 ≤ f.base) : (w.put f v n k).chState m = w.chState m := by
  unfold Work.chState
  rw [w.get_put_chanDev f F.SYS_CH_STATE_STATES v n k ⟨by decide, h⟩]

/-- A channel state reads what was set into it. -/
theorem Work.chState_putChState (n v : Nat) (h : n < 8) (hv : v < 16) : (w.putChState n v).chState n = v := by
  have e : F.SYS_CH_STATE_STATES.hi - F.SYS_CH_STATE_STATES.lo + 1 = 32 := by decide
  unfold Work.chState Work.putChState
  rw [Work.get_put_same _ _ _ _ _ (by decide), e]
  have key : ∀ z, bitsOf (z % 2 ^ 32) (4 * n + 3) (4 * n) = bitsOf z (4 * n + 3) (4 * n) := by
    intro z
    have hp : (2 : Nat) ^ 32 = 2 ^ (4 * n) * 2 ^ (32 - 4 * n) := by rw [← pow_add]; congr 1; omega
    have hq : 2 ^ (4 * n + 3 - 4 * n + 1) ∣ 2 ^ (32 - 4 * n) := pow_dvd_pow 2 (by omega)
    unfold bitsOf
    rw [hp, Nat.mod_mul_right_div_self, Nat.mod_mod_of_dvd _ hq]
  rw [key, bitsOf_setBits_same _ _ _ _ (by omega)]
  have h4 : 4 * n + 3 - 4 * n + 1 = 4 := by omega
  rw [h4]; exact Nat.mod_eq_of_lt hv

/-- A channel state set writes SYS_CH_STATE and no other register. -/
theorem Work.reg_putChState (n v a : Nat) (h : a ≠ R.SYS_CH_STATE.addr 0 0) : (w.putChState n v).reg a = w.reg a :=
  w.reg_put_ne _ _ _ _ _ h

@[simp] theorem Work.chan_putChState (n v m : Nat) : (w.putChState n v).chan m = w.chan m := by
  unfold Work.putChState; rw [Work.chan_put]
@[simp] theorem Work.wr_putChState (n v : Nat) : (w.putChState n v).wr = w.wr := by
  unfold Work.putChState; rw [Work.put_wr]

/-- A channel register's field keeps its value where a channel state is set. -/
theorem Work.get_putChState (n v : Nat) (g : Fld) (m j : Nat) (h : 0x40100000 ≤ g.base) :
    (w.putChState n v).get g m j = w.get g m j :=
  w.get_put_devChan _ _ _ _ _ ⟨by decide, h⟩

/-- A one-bit channel field keeps its value where a channel state is set. -/
theorem Work.flag_putChState (n v : Nat) (g : Fld) (m j : Nat) (h : 0x40100000 ≤ g.base) :
    (w.putChState n v).flag g m j = w.flag g m j :=
  w.flag_put_devChan _ _ _ _ _ ⟨by decide, h⟩

/-! ### The state that a command leaves -/

@[simp] theorem State.run_reg (s : State) (f : Work → Work) (a : Nat) : (s.run f).reg a = (f s.work).reg a := by rfl
@[simp] theorem State.run_get (s : State) (f : Work → Work) (g : Fld) (n k : Nat) : (s.run f).get g n k = (f s.work).get g n k := by rfl
@[simp] theorem State.run_flag (s : State) (f : Work → Work) (g : Fld) (n k : Nat) : (s.run f).flag g n k = (f s.work).flag g n k := by rfl
@[simp] theorem State.run_chan (s : State) (f : Work → Work) (n : Nat) : (s.run f).chan n = (f s.work).chan n := by rfl
@[simp] theorem State.run_chState (s : State) (f : Work → Work) (n : Nat) : (s.run f).chState n = (f s.work).chState n := by rfl
@[simp] theorem State.run_mem (s : State) (f : Work → Work) : (s.run f).mem = commitMem (f s.work).wr s.mem := by rfl
@[simp] theorem State.run_pending (s : State) (f : Work → Work) : (s.run f).pending = s.pending := by rfl
@[simp] theorem State.run_dev (s : State) (f : Work → Work) : (s.run f).dev = (f s.work).toDev := by rfl
@[simp] theorem State.work_wr (s : State) : s.work.wr = [] := by rfl
@[simp] theorem State.work_mem (s : State) : s.work.mem = s.mem := by rfl
@[simp] theorem State.work_sent (s : State) : s.work.sent = [] := by rfl
@[simp] theorem commitMem_nil (m : Memory) : commitMem [] m = m := by rfl

/-- A one-bit field reads what was put into it. -/
theorem Work.flag_put_same (f : Fld) (v n k : Nat) (h : f.lo = f.hi) : (w.put f v n k).flag f n k = (v % 2 == 1) := by
  unfold Work.flag; rw [Work.get_put_same _ _ _ _ _ (le_of_eq h), h]; simp

/-- A one-bit field that shares no bit with the one put keeps its value, in the same channel. -/
theorem Work.flag_put_apart (f g : Fld) (v n : Nat) (h : fieldsApart f g = true) : (w.put f v n 0).flag g n 0 = w.flag g n 0 := by
  unfold Work.flag; rw [w.get_put_apart f g v n h]

@[simp] theorem Work.flag_modChan (n : Nat) (g : Chan → Chan) (f : Fld) (m k : Nat) : (w.modChan n g).flag f m k = w.flag f m k := by rfl
@[simp] theorem Work.flag_ev (c i j : Nat) (f : Fld) (m k : Nat) : (w.ev c i j).flag f m k = w.flag f m k := by
  unfold Work.flag; rw [Work.get_ev]
@[simp] theorem Work.flag_send (x : Sent) (f : Fld) (m k : Nat) : (w.send x).flag f m k = w.flag f m k := by rfl
@[simp] theorem Work.flag_modTun (e : Nat) (g : TunEng → TunEng) (f : Fld) (m k : Nat) : (w.modTun e g).flag f m k = w.flag f m k := by rfl

/-- No change of memory that has been made reaches an address. -/
def Work.untouched (x : Nat) : Prop := ∀ op ∈ w.wr, op.hits x = false

/-- One change of memory leaves an address it does not reach. -/
theorem MemOp.apply_of_not_hits (op : MemOp) (m : Memory) (x : Nat) (h : op.hits x = false) :
    tabGet (op.apply m) 0 x = tabGet m 0 x := by
  cases op with
  | byte a b =>
    have hne : a ≠ x := by simpa [MemOp.hits] using h
    simp only [MemOp.apply]
    split
    · exact tabGet_tabPut_ne _ _ _ _ _ _ hne
    · rfl
  | wipe lo hi =>
    simp only [MemOp.apply, tabGet]
    congr 1
    induction m with
    | nil => rfl
    | cons p t ih =>
      obtain ⟨k, v⟩ := p
      by_cases hk : k = x
      · subst hk
        have hd : k < lo ∨ hi ≤ k := by
          simp only [MemOp.hits, Bool.and_eq_false_iff, decide_eq_false_iff_not] at h
          omega
        simp [hd, tabFind]
      · simp only [List.filter_cons]
        split
        · simp [tabFind, hk, ih]
        · simp [tabFind, hk, ih]

/-- A byte that no change of memory reaches is as the command found it. -/
theorem State.run_byte (s : State) (f : Work → Work) (x : Nat) (h : (f s.work).untouched x) : (s.run f).byte x = s.byte x := by
  have key : ∀ (l : List MemOp), (∀ op ∈ l, op.hits x = false) → tabGet (commitMem l s.mem) 0 x = tabGet s.mem 0 x := by
    intro l
    induction l with
    | nil => intro _; rfl
    | cons op ops ih =>
      intro hl
      simp only [commitMem]
      rw [MemOp.apply_of_not_hits _ _ _ (hl op (List.mem_cons_self ..)), ih (fun o ho => hl o (List.mem_cons_of_mem _ ho))]
  exact key _ h

/-- A byte written reaches its own address and no other. -/
theorem Work.untouched_poke (a x : Nat) (b : Byte) (h : w.untouched x) (hx : x ≠ a) : (w.poke a b).untouched x := by
  unfold Work.poke
  split
  · split
    · exact h
    · intro op hop
      rcases List.mem_cons.1 hop with rfl | hop
      · simp [MemOp.hits, Ne.symm hx]
      · exact h op hop
  · exact h

/-- Bytes written reach their own addresses and no other. -/
theorem Work.untouched_pokes (bs : List Byte) (a x : Nat) (h : w.untouched x) (hx : x < a ∨ a + bs.length ≤ x) :
    (w.pokes a bs).untouched x := by
  induction bs generalizing w a with
  | nil => exact h
  | cons b bs ih =>
    simp only [List.length_cons] at hx
    exact ih _ _ (w.untouched_poke a x b h (by omega)) (by omega)

@[simp] theorem Work.reg_pokes (bs : List Byte) (a x : Nat) : (w.pokes a bs).reg x = w.reg x := by
  induction bs generalizing w a with
  | nil => rfl
  | cons b bs ih => simp [Work.pokes, ih]

@[simp] theorem Work.ch_pokes (bs : List Byte) (a : Nat) : (w.pokes a bs).ch = w.ch := by
  induction bs generalizing w a with
  | nil => rfl
  | cons b bs ih => simp [Work.pokes, ih]

end Sys2Proof.Machine
end

