-- ==== Sys2Proof/Laws/Ops.lean ====
section
/-! SUPPORT. What the shared operations can do: the registers and bytes they write, and what they leave. -/

namespace Sys2Proof.Machine

variable (w : Work)

/-! ### Rings -/

@[simp] theorem Work.reg_setRing (r : Nat) (x : Ring) (a : Nat) : (w.setRing r x).reg a = w.reg a := by
  unfold Work.setRing; split <;> rfl
@[simp] theorem Work.wr_setRing (r : Nat) (x : Ring) : (w.setRing r x).wr = w.wr := by
  unfold Work.setRing; split <;> rfl
@[simp] theorem Work.wr_ringPut (r : Nat) (c d : Fld) (v : Nat) : (w.ringPut r c d v).wr = w.wr := by
  unfold Work.ringPut; split <;> rfl
@[simp] theorem Work.chan_ringPut (r : Nat) (c d : Fld) (v m : Nat) : (w.ringPut r c d v).chan m = w.chan m := by
  unfold Work.ringPut; split <;> rfl

/-- A field of a ring written leaves every register but its own. -/
theorem Work.reg_ringPut (r : Nat) (c d : Fld) (v a : Nat) (h : a ≠ (if r < 8 then c.addr r 0 else d.addr 0 0)) :
    (w.ringPut r c d v).reg a = w.reg a := by
  unfold Work.ringPut
  split at h <;> rename_i hr <;> simp only [hr, if_true, if_false] <;> exact w.reg_put_ne _ _ _ _ _ h

/-- The attention of a ring taken writes its status register and HOST_ATTN. -/
theorem Work.reg_takeAttention (r a : Nat) (h : a ∉ ringRegs r) : (w.takeAttention r).reg a = w.reg a := by
  unfold Work.takeAttention
  have h0 : a ≠ F.HOST_ATTN_ACTIVE.addr 0 0 := fun e => h (by rw [e]; exact List.mem_cons_self ..)
  rw [Work.reg_put_ne _ _ _ _ _ _ h0, Work.reg_ringPut]
  intro e; apply h; rw [e]; unfold ringRegs
  split <;> simp [Fld.addr, F.CASK_STAT_ATTN, F.SYS_DRING_STAT_ATTN, R.CASK_STAT, R.SYS_DRING_STAT]

@[simp] theorem Work.wr_takeAttention (r : Nat) : (w.takeAttention r).wr = w.wr := by
  simp [Work.takeAttention]
@[simp] theorem Work.chan_takeAttention (r m : Nat) : (w.takeAttention r).chan m = w.chan m := by
  simp [Work.takeAttention]

/-- A dropped entry writes the ring's own registers. -/
theorem Work.reg_dropEntry (r a : Nat) (h : a ∉ ringRegs r) : (w.dropEntry r).reg a = w.reg a := by
  unfold ringRegs at h
  unfold Work.dropEntry
  by_cases hr : r < 8
  all_goals
    simp only [hr, if_true, if_false, List.mem_cons, not_or, Fld.addr, R.CASK_STAT, R.CASK_DROPS, R.SYS_DRING_STAT, R.SYS_DRING_DROPS] at h
    obtain ⟨-, h1, -, h2, -⟩ := h
    rw [Work.reg_ev, Work.reg_ringPut _ _ _ _ _ _ (by simpa [hr, Fld.addr, F.CASK_STAT_LOSS_PEND, F.SYS_DRING_STAT_LOSS_PEND] using h1),
      Work.reg_ringPut _ _ _ _ _ _ (by simpa [hr, Fld.addr, F.CASK_STAT_OVF, F.SYS_DRING_STAT_OVF] using h1)]
    simp only [hr, if_true, if_false]
    exact w.reg_put_ne _ _ _ _ _ (by simpa [Fld.addr, F.CASK_DROPS_DROPS, F.SYS_DRING_DROPS_DROPS] using h2)

/-- An entry stored writes the ring's own registers. -/
theorem Work.reg_storeEntry (r : Nat) (e : Entry) (a : Nat) (h : a ∉ ringRegs r) : (w.storeEntry r e).reg a = w.reg a := by
  unfold ringRegs at h
  unfold Work.storeEntry
  by_cases hr : r < 8
  all_goals
    simp only [hr, if_true, if_false, List.mem_cons, not_or, Fld.addr, R.CASK_STAT, R.CASK_SEQ, R.SYS_DRING_STAT, R.SYS_DRING_SEQ] at h
    obtain ⟨-, h1, h2, -⟩ := h
    simp only [Work.setRingNext, Work.setRingCount]
    rw [Work.reg_ev, Work.reg_ringPut _ _ _ _ _ _ (by simpa [hr, Fld.addr, F.CASK_SEQ_NEXT, F.SYS_DRING_SEQ_NEXT] using h2),
      Work.reg_ringPut _ _ _ _ _ _ (by simpa [hr, Fld.addr, F.CASK_STAT_COUNT, F.SYS_DRING_STAT_COUNT] using h1),
      Work.reg_ringPut _ _ _ _ _ _ (by simpa [hr, Fld.addr, F.CASK_STAT_LOSS_PEND, F.SYS_DRING_STAT_LOSS_PEND] using h1),
      Work.reg_setRing, Work.reg_pokes]

/-- An entry that reaches its ring writes that ring's registers and HOST_ATTN, and no other register (R214, R215, R222). -/
theorem Work.reg_ringEntry (r : Nat) (e : Entry) (a : Nat) (h : a ∉ ringRegs r) : (w.ringEntry r e).reg a = w.reg a := by
  unfold Work.ringEntry
  split
  · exact w.reg_dropEntry r a h
  · split
    · exact w.reg_dropEntry r a h
    · rw [Work.reg_takeAttention _ _ _ h, Work.reg_storeEntry _ _ _ _ h]

/-- An entry raised into a ring writes that ring's registers and HOST_ATTN, and no other register. -/
theorem Work.reg_raiseEntry (r : Nat) (e : Entry) (a : Nat) (h : a ∉ ringRegs r) : (w.raiseEntry r e).reg a = w.reg a := by
  unfold Work.raiseEntry
  split
  · rfl
  · generalize (if r < 8 then (w.chan r).cask.later else none) = l
    cases l with
    | none => exact w.reg_ringEntry r e a h
    | some l => rfl

@[simp] theorem Work.wr_dropEntry (r : Nat) : (w.dropEntry r).wr = w.wr := by
  unfold Work.dropEntry; simp only; split <;> simp

theorem leBytes_length (k v : Nat) : (leBytes k v).length = k := by
  induction k generalizing v with
  | zero => rfl
  | succ k ih => simp [leBytes, ih]

theorem entryBytes_length (e : Entry) (q so f : Nat) : (entryBytes e q so f).length = 16 := by
  simp [entryBytes, leBytes_length]

/-- An entry raised into a ring changes no byte of memory but the 16 of the ring's next place (R211, R214). -/
theorem Work.untouched_raiseEntry (r : Nat) (e : Entry) (x : Nat) (h : w.untouched x)
    (hx : x < w.ringBase r + 16 * (w.ring r).place ∨ w.ringBase r + 16 * (w.ring r).place + 16 ≤ x) :
    (w.raiseEntry r e).untouched x := by
  have hd : (w.dropEntry r).untouched x := by unfold Work.untouched; rw [Work.wr_dropEntry]; exact h
  have hr : (w.ringEntry r e).untouched x := by
    unfold Work.ringEntry
    split
    · exact hd
    · split
      · exact hd
      · unfold Work.untouched Work.storeEntry
        simp only [Work.wr_takeAttention, Work.setRingNext, Work.setRingCount, Work.ev_wr, Work.wr_ringPut, Work.wr_setRing]
        exact w.untouched_pokes _ _ _ h (by rw [entryBytes_length]; exact hx)
  unfold Work.raiseEntry
  split
  · exact h
  · generalize (if r < 8 then (w.chan r).cask.later else none) = l
    cases l with
    | none => exact hr
    | some l => exact h

/-- The fields of no ring register, nor of HOST_ATTN. -/
def ringFree (g : Fld) : Bool :=
  !List.contains [R.HOST_ATTN.base, R.SYS_DRING_STAT.base, R.SYS_DRING_SEQ.base, R.SYS_DRING_DROPS.base, R.CASK_STAT.base, R.CASK_SEQ.base,
    R.CASK_DROPS.base] g.base &&
  (decide (0x40100000 ≤ g.base ∧ g.base < 0x40110000) || decide (0x40000000 ≤ g.base ∧ g.base < 0x40100000))

/-- A field of another register stands outside the registers of a ring, on the ring's channel or in the device. -/
theorem ringFree_addr (g : Fld) (h : ringFree g = true) (r m : Nat) (hm : 0x40100000 ≤ g.base ∧ m = r ∨ g.base < 0x40100000 ∧ m = 0) (hr : r ≤ 8) :
    g.addr m 0 ∉ ringRegs r := by
  simp only [ringFree, Bool.and_eq_true, Bool.not_eq_true', List.contains_eq_mem, decide_eq_false_iff_not, List.mem_cons,
    List.not_mem_nil, not_or, Bool.or_eq_true, decide_eq_true_eq] at h
  simp only [R.HOST_ATTN, R.SYS_DRING_STAT, R.SYS_DRING_SEQ, R.SYS_DRING_DROPS, R.CASK_STAT, R.CASK_SEQ, R.CASK_DROPS] at h
  unfold ringRegs
  split
  all_goals
    simp only [Fld.addr, R.HOST_ATTN, R.SYS_DRING_STAT, R.SYS_DRING_SEQ, R.SYS_DRING_DROPS, R.CASK_STAT, R.CASK_SEQ, R.CASK_DROPS,
      List.mem_cons, List.not_mem_nil, or_false, not_or, Nat.mul_zero, Nat.add_zero]
    obtain ⟨⟨h1, h2, h3, h4, h5, h6, h7, -⟩, h8⟩ := h
    omega

/-- Fields outside the ring registers keep their values where an entry is raised into a ring. -/
theorem Work.get_raiseEntry (r : Nat) (e : Entry) (g : Fld) (h : ringFree g = true ∧ 0x40100000 ≤ g.base) (hr : r ≤ 8) :
    (w.raiseEntry r e).get g r 0 = w.get g r 0 := by
  unfold Work.get; rw [w.reg_raiseEntry r e _ (ringFree_addr g h.1 r r (Or.inl ⟨h.2, rfl⟩) hr)]

/-- Device fields outside the ring registers keep their values where an entry is raised into a ring. -/
theorem Work.get_raiseEntry_dev (r : Nat) (e : Entry) (g : Fld) (h : ringFree g = true ∧ g.base < 0x40100000) (hr : r ≤ 8) :
    (w.raiseEntry r e).get g 0 0 = w.get g 0 0 := by
  unfold Work.get; rw [w.reg_raiseEntry r e _ (ringFree_addr g h.1 r 0 (Or.inr ⟨h.2, rfl⟩) hr)]

end Sys2Proof.Machine
end

