-- ==== Sys2Proof/Laws/Memory.lean ====
section
/-! SUPPORT. Memory: every operation keeps the canonical form and the map, and a byte reads as it was last written. -/

namespace Sys2Proof.Machine

/-- The canonical form, and only mapped addresses. -/
def Memory.ok (m : Memory) : Prop := Memory.wf m = true ∧ ∀ c ∈ m, memMapped c.1 = true

theorem Memory.wf_iff (m : Memory) : Memory.wf m = true ↔ tabRising m = true ∧ ∀ c ∈ m, c.2 ≠ 0 := by
  simp [Memory.wf]

/-- One change of memory keeps the canonical form and stores nothing unmapped. -/
theorem MemOp.apply_ok (op : MemOp) (m : Memory) (h : m.ok) : Memory.ok (op.apply m) := by
  obtain ⟨hwf, hmap⟩ := h
  obtain ⟨hr, hz⟩ := (Memory.wf_iff m).1 hwf
  cases op with
  | byte a b =>
    simp only [MemOp.apply]
    split
    · rename_i ha
      refine ⟨(Memory.wf_iff _).2 ⟨tabRising_tabPut m 0 a b hr, noDefault_tabPut m 0 a b hz⟩, ?_⟩
      intro c hc
      unfold tabPut at hc
      split at hc
      · exact hmap c (List.mem_filter.1 hc).1
      · rcases mem_tabInsert m a b c hc with rfl | hc
        · exact ha
        · exact hmap c hc
    · exact ⟨hwf, hmap⟩
  | wipe lo hi =>
    exact ⟨(Memory.wf_iff _).2 ⟨tabRising_filter m _ hr, fun c hc => hz c (List.mem_filter.1 hc).1⟩,
      fun c hc => hmap c (List.mem_filter.1 hc).1⟩

/-- All changes of a command keep them. -/
theorem commitMem_ok (ops : List MemOp) (m : Memory) (h : m.ok) : Memory.ok (commitMem ops m) := by
  induction ops with
  | nil => exact h
  | cons op ops ih => exact op.apply_ok _ ih

/-- Whatever a meaning does, memory keeps its form. -/
theorem State.run_memInv (s : State) (f : Work → Work) (h : s.memInv) : (s.run f).memInv := by
  unfold State.memInv
  rw [State.run_mem]
  exact commitMem_ok _ _ h

/-- A mapped byte reads as it was last written. -/
theorem MemOp.apply_byte_same (a : Nat) (b : Byte) (m : Memory) (h : memMapped a = true) :
    tabGet ((MemOp.byte a b).apply m) 0 a = b := by
  simp [MemOp.apply, h]

/-- A range set to 0 reads 0. -/
theorem MemOp.apply_wipe_within (lo hi a : Nat) (m : Memory) (h : lo ≤ a ∧ a < hi) :
    tabGet ((MemOp.wipe lo hi).apply m) 0 a = 0 := by
  have hf : tabFind ((MemOp.wipe lo hi).apply m) a = none := by
    simp only [MemOp.apply]
    induction m with
    | nil => rfl
    | cons p t ih =>
      obtain ⟨k, v⟩ := p
      simp only [List.filter_cons]
      split
      · rename_i hk
        have hne : k ≠ a := by
          rintro rfl
          simp only [Bool.or_eq_true, decide_eq_true_eq] at hk
          omega
        simp [tabFind, hne, ih]
      · exact ih
  simp [tabGet, hf]

/-- The latest change decides a byte it reaches. -/
theorem commitMem_byte (ops : List MemOp) (m : Memory) (a : Nat) (b : Byte) (h : memMapped a = true) :
    tabGet (commitMem (.byte a b :: ops) m) 0 a = b := MemOp.apply_byte_same a b _ h

end Sys2Proof.Machine
end

