-- ==== Sys2Proof/Laws/Ports.lean ====
section
/-! SUPPORT. A command that completes on the host port: the response it leaves, and what it leaves alone. -/

namespace Sys2Proof.Machine

variable (w : Work)

/-- The host's registers shown: only those three change. -/
theorem Work.reg_showHost (a : Nat) (h : a ∉ hostRegs) : w.showHost.reg a = w.reg a := by
  simp only [hostRegs, List.mem_cons, List.not_mem_nil, or_false, not_or] at h
  obtain ⟨h1, h2, -⟩ := h
  unfold Work.showHost
  simp only [Work.putFlag]
  repeat rw [Work.reg_put_ne _ _ _ _ _ _ (by assumption)]

@[simp] theorem Work.wr_showHost : w.showHost.wr = w.wr := by simp [Work.showHost, Work.putFlag]
@[simp] theorem Work.chan_showHost (m : Nat) : w.showHost.chan m = w.chan m := by simp [Work.showHost, Work.putFlag]
@[simp] theorem Work.host_showHost : w.showHost.host = w.host := by simp [Work.showHost, Work.putFlag]

/-- A host command's completion: the response it sets, then the registers that show it. -/
theorem Work.complete_host (op tag st : Nat) (pl : List Byte) (late quiet : Bool) :
    w.complete .host op tag st pl late quiet =
      (w.setPort .host { flight := none, answered := true, fresh := true, rseq := (w.host.port.rseq + 1) % 65536,
                         resp := ⟨op, tag, st, pl, late, quiet⟩ }).showHost := by
  unfold Work.complete Work.answer Work.showPort Work.port
  rfl

/-- A host command's completion: the response stands under the next RSEQ, and nothing is in flight (R300). -/
@[simp] theorem Work.host_complete (op tag st : Nat) (pl : List Byte) (late quiet : Bool) :
    (w.complete .host op tag st pl late quiet).host.port =
      { flight := none, answered := true, fresh := true, rseq := (w.host.port.rseq + 1) % 65536, resp := ⟨op, tag, st, pl, late, quiet⟩ } := by
  rw [Work.complete_host, Work.host_showHost]; rfl

/-- Its frame. -/
theorem Work.reg_complete_host (op tag st : Nat) (pl : List Byte) (late quiet : Bool) (a : Nat) (h : a ∉ hostRegs) :
    (w.complete .host op tag st pl late quiet).reg a = w.reg a := by
  rw [Work.complete_host, Work.reg_showHost _ a h]; rfl

@[simp] theorem Work.wr_complete_host (op tag st : Nat) (pl : List Byte) (late quiet : Bool) :
    (w.complete .host op tag st pl late quiet).wr = w.wr := by
  rw [Work.complete_host, Work.wr_showHost]; rfl
@[simp] theorem Work.chan_complete_host (op tag st : Nat) (pl : List Byte) (late quiet : Bool) (m : Nat) :
    (w.complete .host op tag st pl late quiet).chan m = w.chan m := by
  rw [Work.complete_host, Work.chan_showHost]; rfl

/-- The command in flight on the host port completes with its own opcode and tag. -/
theorem Work.finish_host (st : Nat) (pl : List Byte) (late quiet : Bool) (f : Flight) (h : w.host.port.flight = some f) :
    w.finish .host st pl late quiet = w.complete .host f.op f.tag st pl (late || f.late) quiet := by
  unfold Work.finish
  have : (w.port .host).flight = some f := h
  rw [this]

end Sys2Proof.Machine
end

