-- ==== Sys2Proof/Laws/RegWrite.lean ====
section
/-! SUPPORT. A register write that is accepted, and one that is refused. -/

namespace Sys2Proof.Machine

/-- A write that is accepted does what its register's block does with the word (R4 to R6, R19). -/
theorem State.writeReg_of_accepts (s : State) (a v : Nat) (h : s.accepts a v = true) :
    ∃ r k, rowAt a = some (r, k) ∧ s.work.writeReg a v = s.work.putWord (s.work.regW r k a v) := by
  unfold State.accepts at h
  simp only [Bool.and_eq_true, Bool.not_eq_true', beq_iff_eq] at h
  obtain ⟨⟨⟨⟨h1, h2⟩, h3⟩, h4⟩, h5⟩ := h
  unfold Work.writeReg
  rw [if_neg (by simp [h1, h2]), h3, h4]
  revert h5
  cases hr : rowAt a with
  | none => intro h5; cases h5
  | some p =>
    obtain ⟨r, k⟩ := p
    intro h5
    refine ⟨r, k, rfl, ?_⟩
    simp only [Option.isNone_iff_eq_none] at h5
    simp [h5]

/-- A write that mode or range refuses, in a block that is not held, leaves the device as it is. -/
theorem State.writeReg_refused (s : State) (a v : Nat) (hh : s.work.regHeld a = false) (hm : s.work.modeRefuses a v = true) :
    (s.work.writeReg a v).1 = s.work := by
  unfold Work.writeReg
  split
  · rfl
  · rw [hh]; rfl

end Sys2Proof.Machine
end

