-- ==== Sys2Proof/WellFormed.lean ====
section
/-! DEFINITION. Which commands can be sent: a payload fits a G3 frame (R296, R299), a record fits its table, and a
measurement fits its register. -/

namespace Sys2Proof

/-- The widest G3 payload (R296). -/
def maxPayload : Nat := 4100

/-- An origin names an engine or an address the device can have. -/
def Origin.wf : Origin → Bool
  | .host => true
  | .tun e => decide (e < 4)
  | .fabric a => decide (1 ≤ a) && decide (a < 511)
  | .net mac => decide (mac < 2 ^ 48)

/-- A command frame's TAG and payload fit their fields (R296). -/
def frameWf (o : Origin) (tag : Nat) (pl : List Byte) : Bool :=
  o.wf && decide (tag < 256) && decide (pl.length ≤ maxPayload)

/-- Every number of a list lies below a bound. -/
def allBelow (n : Nat) (l : List Nat) : Bool := l.all (fun x => decide (x < n))

/-- What a protocol hands over in one arrival fits its telegrams. -/
def TunArrival.wf : TunArrival → Bool
  | .whole data => decide (data.length ≤ 1440)
  | .registers first values => decide (first + values.length ≤ 65536) && allBelow 65536 values
  | .coils first bits => decide (first + bits.length ≤ 65536)
  | .goose _ _ members => allBelow (2 ^ 32) members
  | .sentence _ value _ _ => decide (value < 2 ^ 32)
  | .rpdo k data => decide (1 ≤ k) && decide (data.length ≤ 8)

/-- The commands that can be sent. -/
def Instr.wf : Instr → Bool
  | .tickBoundary env => decide (env.ch.length = 8)
  | .kilnHoldEnd _ ts _ buf => decide (ts < 2 ^ 20) && decide (buf < 6)
  | .kilnOvercurrent _ src => decide (src < 7)
  | .mode o tag pl | .status o tag pl | .memRead o tag pl | .memWrite o tag pl | .fieldSet o tag pl
  | .segWrite o tag pl | .imageSwap o tag pl | .alertSetCondition o tag pl | .alertClearCondition o tag pl
  | .alertAcknowledge o tag pl | .alertAcknowledgeGroups o tag pl | .dim o tag pl | .eventRead o tag pl
  | .eventAck o tag pl | .powerIdle o tag pl | .powerSleep o tag pl | .powerDeep o tag pl | .powerOff o tag pl
  | .padsRelease o tag pl | .cfgBegin o tag pl | .cfgData o tag pl | .cfgEnd o tag pl | .fabricWrap o tag pl
  | .nop o tag pl => frameWf o tag pl
  | .abort o tag _ => frameWf o tag []
  | .vendorRecordRequest _ op tag pl => decide (op < 256) && decide (tag < 256) && decide (pl.length ≤ maxPayload)
  | .netBootFrame head tag pl => decide (head.op < 256) && decide (head.src < 2 ^ 48) && decide (tag < 256) && decide (pl.length ≤ maxPayload)
  | .g3FrameReject op tag => decide (op < 256) && decide (tag < 256)
  | .registerWrite o addr _ => o.wf && decide (addr % 4 = 0) && decide (addr < 2 ^ 32)
  | .g2Write addr _ => decide (addr < 128)
  | .g2Read addr _ => decide (addr < 128) && addr != 0x25
  | .g1WriteAuto addr _ => decide (addr < 16)
  | .g1WriteFixed addr _ => decide (addr < 16)
  | .g1DisplayOn b => decide (b < 16)
  | .litCheck _ mv | .darkCheck _ mv => allBelow 65536 mv && decide (mv.length ≤ 64)
  | .comWatch _ mv => allBelow 65536 mv && decide (mv.length ≤ 16)
  | .dissipationCapture _ mv => decide (mv.length ≤ 16)
  | .lineChargeCheck _ charge => allBelow 16777216 charge && decide (charge.length ≤ 16)
  | .keyStep _ heads feet dh df =>
    allBelow 4096 heads && allBelow 4096 feet && allBelow 4096 dh && allBelow 4096 df &&
      decide (heads.length ≤ 8) && decide (feet.length ≤ 8)
  | .continuityTest _ heads => allBelow 4096 heads && decide (heads.length ≤ 8)
  | .lampWindowCapture _ mv => decide (mv.length = 13)
  | .tapReturnReceive _ _ ret => allBelow 65536 ret.statuses
  | .orphanStreamReceive _ _ statuses => allBelow 65536 statuses
  | .await _ _ pins | .awaitEnd _ _ pins | .goto _ _ pins | .move _ _ pins => decide (pins < 65536)
  | .gather _ _ pins | .psqStallEnd _ _ pins => allBelow 65536 pins
  | .psqProgramWrite _ _ off _ => decide (off % 4 = 0) && decide (off < 0x1000)
  | .tunDelivery _ set arr _ _ => decide (set < 64) && arr.wf
  | .tunInputSend _ set => decide (set < 1024)
  | .ptpMessage _ msg _ => decide (msg.domain < 256)
  | .frameForward _ dest src kind _ _ _ payload _ _ _ =>
    decide (dest < 512) && decide (src < 512) && decide (kind < 256) && decide (payload.length ≤ 1024)
  | .dimUpdate group level _ addr => decide (group < 16) && decide (level < 65536) && decide (addr < 512)
  | .dataSet src setId seq data =>
    decide (src < 512) && decide (setId < 4096) && decide (seq < 65536) && decide (data.length ≤ 1020)
  | .wrapReq src tag _ _ op itag pl =>
    decide (src < 512) && decide (tag < 65536) && decide (op < 256) && decide (itag < 256) &&
      decide (pl.length ≤ maxPayload)
  | .bankAccess bank master addr _ _ _ => decide (bank < 33) && decide (master < 16) && decide (addr < 2 ^ 32)
  | .brownOutReset rail => decide (rail < 16)
  | _ => true

end Sys2Proof
end

