-- ==== Sys2Proof/Tests/Slice0.lean ====
section
/-! SUPPORT. The model's own tests. -/

namespace Sys2Proof.Tests

-- one test at a time: each kernel evaluation waits for the checks before it
set_option Elab.async false

open Sys2Proof Sys2Proof.Machine

/-- The reset state with changes made to its device. -/
def after (f : Work → Work) : State := State.reset.run f

/-- A device that has been released and stands in a mode. -/
def up (mode : Nat) (w : Work) : Work :=
  { (w.put F.SYS_REL_STEP 12).put F.SYS_MODE_MODE mode with rst := { w.rst with hold := .none } }

/-- The reset state released into a mode, with changes made to its device. -/
def upAfter (mode : Nat) (f : Work → Work := id) : State := after (fun w => f (up mode w))

/-- The security block's status word; its reset value has a fuse in it, which no witness can name. -/
def secWord (v : Nat) (w : Work) : Work := { w with regs := tabInsert w.regs (R.SEC_STAT.addr 0 0) v }

/-! ### Well-formedness: an ill-formed term for each check -/

/-- A payload longer than a frame holds, a tag of more than a byte, and origins that do not exist. -/
theorem test_wf_frame :
    Instr.wf (.nop .host 256 []) = false ∧ Instr.wf (.nop .host 1 (List.replicate 4101 0)) = false ∧
    Instr.wf (.nop (.tun 4) 1 []) = false ∧ Instr.wf (.nop (.fabric 511) 1 []) = false ∧
    Instr.wf (.nop (.fabric 0) 1 []) = false ∧ Instr.wf (.nop .host 255 [1]) = true ∧
    Instr.wf (.abort .host 256 false) = false := by decide +kernel

/-- An operation code of more than a byte. -/
theorem test_wf_ports :
    Instr.wf (.vendorRecordRequest 0 256 1 []) = false ∧ Instr.wf (.netBootFrame ⟨1, 2, true⟩ 256 []) = false ∧
    Instr.wf (.g3FrameReject 256 1) = false := by decide

/-- Addresses that are not of a word, or outside their space. -/
theorem test_wf_addresses :
    Instr.wf (.registerWrite .host 0x40000002 0) = false ∧ Instr.wf (.registerWrite .host (2 ^ 32) 0) = false ∧
    Instr.wf (.g2Write 128 []) = false ∧ Instr.wf (.g2Read 128 1) = false ∧ Instr.wf (.g2Read 0x25 1) = false ∧ Instr.wf (.g1WriteAuto 16 []) = false ∧
    Instr.wf (.g1WriteFixed 16 0) = false ∧ Instr.wf (.g1DisplayOn 16) = false ∧
    Instr.wf (.psqProgramWrite .host 0 2 0) = false ∧ Instr.wf (.psqProgramWrite .host 0 0x1000 0) = false ∧
    Instr.wf (.bankAccess 33 0 0 0 0 false) = false ∧ Instr.wf (.bankAccess 0 16 0 0 0 false) = false := by
  decide

/-- Measurements that no converter gives. -/
theorem test_wf_measurements :
    Instr.wf (.tickBoundary ⟨[], 25⟩) = false ∧ Instr.wf (.kilnHoldEnd 0 (2 ^ 20) true 0) = false ∧ Instr.wf (.kilnHoldEnd 0 0 true 6) = false ∧
    Instr.wf (.kilnOvercurrent 0 7) = false ∧ Instr.wf (.litCheck 0 [65536]) = false ∧
    Instr.wf (.comWatch 0 [65536]) = false ∧ Instr.wf (.darkCheck 0 [65536]) = false ∧
    Instr.wf (.dissipationCapture 0 (List.replicate 17 0)) = false ∧ Instr.wf (.lineChargeCheck 0 [16777216]) = false ∧
    Instr.wf (.keyStep 0 [4096] [] [] []) = false ∧ Instr.wf (.keyStep 0 (List.replicate 9 0) [] [] []) = false ∧
    Instr.wf (.continuityTest 0 [4096]) = false ∧ Instr.wf (.lampWindowCapture 0 []) = false ∧
    Instr.wf (.tapReturnReceive 0 0 ⟨true, [65536], true⟩) = false ∧
    Instr.wf (.orphanStreamReceive 0 0 [65536]) = false ∧ Instr.wf (.await 0 0 65536) = false ∧
    Instr.wf (.gather 0 0 [65536]) = false ∧ Instr.wf (.brownOutReset 16) = false := by decide

/-- Frames of the networks with fields out of range. -/
theorem test_wf_networks :
    Instr.wf (.tunDelivery 0 64 (.whole []) [] false) = false ∧ Instr.wf (.tunInputSend 0 1024) = false ∧
    Instr.wf (.tunDelivery 0 1 (.registers 65535 [1, 2]) [] false) = false ∧
    Instr.wf (.tunDelivery 0 1 (.rpdo 0 []) [] false) = false ∧
    Instr.wf (.tunDelivery 0 1 (.sentence 0 (2 ^ 32) true true) [] false) = false ∧
    Instr.wf (.ptpMessage 0 ⟨256, .common, false, 0, 0⟩ true) = false ∧
    Instr.wf (.frameForward 0 512 1 0x20 0 1 1 [] true true []) = false ∧ Instr.wf (.dimUpdate 16 0 0 0) = false ∧
    Instr.wf (.dataSet 512 0 0 []) = false ∧ Instr.wf (.wrapReq 512 1 false false 1 1 []) = false := by decide

/-! ### The spec's worked examples and stated figures -/

/-- R148: S32 −12,345 with RAW_EXP = −3 and DP = 2 shows −1,235. -/
theorem test_scale_value : scaleValue (-12345) 1 (-1) = -1235 := by decide

/-- The alarm column keypad of 09: its head and foot codes and what the spec's table makes of them. -/
theorem test_ladder_classes :
    [2244, 1555, 2357, 1820, 2550, 2389].map (fun c => (upAfter 2).work.classOf 3 2 c) = [6, 3, 9, 4, 9, 7] := by
  decide +kernel

/-- The alarm column keypad of 09: foot window 3 names tap 6. -/
theorem test_foot_tap : footTap false 3 = 6 := by decide

/-- The FIELD_SET payload of the rudder order in 14: field 0 at 125 tenths, field 1 at 118. -/
theorem test_field_entries :
    fieldEntries [3, 2, 0, 0, 0, 0, 0, 0, 0, 0, 0, 0, 0x7D, 0, 0, 0, 1, 0, 0, 0, 0x76, 0, 0, 0] 2 =
      [(0, false, 125), (1, false, 118)] := by decide

/-- The service response of 21 is computed over 31 bytes. -/
theorem test_challenge_length (w : Work) : (w.challenge 3 2).length = 31 := by rfl

/-- CRC-32 of the digits 1 to 9, the check value by which the polynomial of R51 is known. -/
theorem test_crc32 : crc32 [0x31, 0x32, 0x33, 0x34, 0x35, 0x36, 0x37, 0x38, 0x39] = 0xCBF43926 := by decide +kernel

/-- R14: a stamp of the next tick waits for it; one of the present tick, or of a past one, is late. -/
theorem test_stamps :
    (after (fun w => { w with tick := 10 })).work.judgeStamp (some 11) = (some 11, false) ∧
    (after (fun w => { w with tick := 10 })).work.judgeStamp (some 10) = (none, true) ∧
    (after (fun w => { w with tick := 10 })).work.judgeStamp (some (10 + 2 ^ 31)) = (none, true) := by decide +kernel

/-- The switch bank of 13: slot 0 is EMIT, slot 1 AWAIT, slot 4 GATHER, slot 5 GIVE. -/
theorem test_switch_bank : [0x2840, 0x1780, 0x3040, 0x6000].map opOf = [2, 1, 3, 6] := by decide

/-- A step takes the older of two commands, and leaves the younger in the queue. -/
theorem test_queue_order :
    (match step { State.reset with pending := [.wakeNet, .wakeHost] } with
      | .next t => t.pending
      | _ => []) = [.wakeHost] := by rfl

/-- No word of the opcode table spells a command. -/
theorem test_no_words : decodeTableWord 16 0x2840 = none := by rfl

/-! ### The hypotheses of every statement are met, clause by clause -/

/-- The hypotheses of KeyDebounce: a key observed once, of two observations wanted. -/
theorem witness_KeyDebounce : ∃ (w : Work) (n : Fin 8) (key : Fin 512) (k : Nat),
    k = tabGet (w.chan n).grist.press 0 key ∧ (w.chan n).grist.down.contains (key : Nat) = false ∧ 0 < k ∧
      k + 1 < w.cur F.GRIST_DEB_PRESS_N n :=
  ⟨((upAfter 2).work.put F.GRIST_DEB_PRESS_N 3 3).modChan 3 (fun c => { c with grist := { c.grist with press := [(9, 1)] } }),
    3, 9, 1, by decide +kernel⟩

/-- The hypotheses of StepKeepsMemory: the memory of reset, a byte in it, and a step. -/
theorem witness_StepKeepsMemory : ∃ s t : State, s.memInv ∧ s.mem ≠ [] ∧ step s = .next t :=
  ⟨{ State.reset with mem := [(5, 7)] }, { State.reset with mem := [(5, 7)] }, ⟨by decide, by decide⟩, by decide, by rfl⟩

/-- The hypotheses of AccessCodes: a register with fields of several codes. -/
theorem witness_AccessCodes : ∃ (a : Nat) (r : RegRow) (k : Nat), rowAt a = some (r, k) ∧ 1 < r.fields.length := by
  refine ⟨R.SYS_TICK_CFG.addr 0 0, (rowAt (R.SYS_TICK_CFG.addr 0 0)).get (by decide +kernel) |>.1, 0, ?_⟩
  decide +kernel

/-- The hypothesis of ChannelsStayApart. -/
theorem witness_ChannelsStayApart : ∃ ch m : Fin 8, m ≠ ch := ⟨3, 4, by decide⟩

/-- The hypotheses of KilnCommands, clause by clause, are met. -/
theorem witness_KilnCommands :
    (∃ (s : State) (ch : Fin 8), (s.chan ch).kiln.ntcBad = 4 ∧ (s.chan ch).kiln.onDie = false ∧ s.work.cur F.KILN_CFG_TEMP_SRC ch = 1) ∧
    (∃ (s : State) (ch : Fin 8), (s.chan ch).kiln.onDie = true ∧ (s.chan ch).kiln.ntcBad = 4 ∧ (s.chan ch).kiln.ntcGood.length = 64 ∧ s.work.cur F.KILN_CFG_TEMP_SRC ch = 1) ∧
    (∃ (s : State) (ch : Fin 8), (s.chan ch).running = true ∧ (s.chan ch).seq.act.isLcd = true ∧ (s.chan ch).kiln.cold = false ∧ (s.chan ch).kiln.ramping = false ∧ s.flag F.KILN_STAT_READY ch = false ∧ (s.chan ch).kiln.target ≠ 0 ∧ nearTarget (s.get F.KILN_STAT_VLCD_ACT ch) (s.chan ch).kiln.target = true) ∧
    (∃ (s : State) (ch : Fin 8) (ts : Nat) (x : SlotRun), (s.chan ch).seq.cur = some x ∧ x.kind = kDisplay ∧ (s.chan ch).seq.act.isLcd = true ∧ s.flag F.KILN_STAT_READY ch = true ∧ s.work.curFlag F.KILN_CFG_HOLD_EN ch = true ∧ (s.chan ch).seq.hold = 0 ∧ 20 * s.work.cur F.KILN_BOOST_BOOST_T ch < ts ∧ ts - 20 * s.work.cur F.KILN_BOOST_BOOST_T ch ≤ 800) ∧
    (∃ (s : State) (ch : Fin 8) (ts : Nat) (settles : Bool) (x : SlotRun), (s.chan ch).seq.cur = some x ∧ x.kind = kDisplay ∧ (s.chan ch).seq.act.isLcd = true ∧ s.flag F.KILN_STAT_READY ch = true ∧ s.work.curFlag F.KILN_CFG_HOLD_EN ch = true ∧ (s.chan ch).seq.hold = 0 ∧ (settles = false ∨ 800 < ts - 20 * s.work.cur F.KILN_BOOST_BOOST_T ch) ∧ (s.chan ch).kiln.unsettled < 63) ∧
    (∃ (s : State) (ch : Fin 8) (ts : Nat) (x : SlotRun), (s.chan ch).seq.cur = some x ∧ x.kind = kDisplay ∧ (s.chan ch).seq.act.isLcd = true ∧ s.flag F.KILN_STAT_READY ch = true ∧ s.work.curFlag F.KILN_CFG_HOLD_EN ch = true ∧ (s.chan ch).seq.hold = 0 ∧ ts ≤ 20 * s.work.cur F.KILN_BOOST_BOOST_T ch) ∧
    (∃ (s : State) (ch : Fin 8), (s.chan ch).inReset = false ∧ (s.chan ch).kiln.cold = false ∧ (s.chan ch).seq.act.isLcd = true ∧ (s.chan ch).kiln.faultDue = false ∧ (s.chan ch).planRuns = true) ∧
    (∃ (s : State) (ch : Fin 8), (s.chan ch).inReset = false ∧ (s.chan ch).kiln.cold = false ∧ (s.chan ch).seq.act.isLcd = true ∧ (s.chan ch).kiln.faultDue = false ∧ (s.chan ch).planRuns = false) ∧
    (∃ (s : State) (ch : Fin 8) (rep : Nat), (s.chan ch).kiln.quiesce = .discharge rep) ∧
    (∃ (s : State) (ch : Fin 8), (s.chan ch).kiln.quiesce = .done ∧ (s.chan ch).resetAfter = false ∧ s.dev.pwr.cmd = none) :=
  ⟨⟨Tests.after (fun w => (w.put F.KILN_CFG_TEMP_SRC 1 3).modKiln 3 (fun k => { k with ntcBad := 4, onDie := false })), 3, by decide +kernel⟩,
   ⟨Tests.after (fun w => ((w.put F.KILN_CFG_TEMP_SRC 1 3).put F.KILN_STAT_NTC_FAULT 1 3).modKiln 3 (fun k => { k with ntcBad := 4, onDie := true, ntcGood := List.replicate 64 21000 })), 3, by decide +kernel⟩,
   ⟨Tests.after (fun w => (w.put F.KILN_STAT_VLCD_ACT 800 3).modChan 3 (fun c => { c with running := true, kiln := { c.kiln with cold := false, target := 800, acc := [(3, 5)] } })), 3, by decide +kernel⟩,
   ⟨Tests.after (fun w => ((w.put F.KILN_STAT_READY 1 3).put F.KILN_CFG_HOLD_EN 1 3).modChan 3 (fun c => { c with seq := { c.seq with cur := some ⟨0, 0, 400, false⟩ } })), 3, 700, ⟨0, 0, 400, false⟩, by decide +kernel⟩,
   ⟨Tests.after (fun w => ((w.put F.KILN_STAT_READY 1 3).put F.KILN_CFG_HOLD_EN 1 3).modChan 3 (fun c => { c with seq := { c.seq with cur := some ⟨0, 0, 400, false⟩ } })), 3, 2000, true, ⟨0, 0, 400, false⟩, by decide +kernel⟩,
   ⟨Tests.after (fun w => ((w.put F.KILN_STAT_READY 1 3).put F.KILN_CFG_HOLD_EN 1 3).modChan 3 (fun c => { c with seq := { c.seq with cur := some ⟨0, 0, 400, false⟩ } })), 3, 390, ⟨0, 0, 400, false⟩, by decide +kernel⟩,
   ⟨Tests.after (fun w => (((w.put F.SEQ_STAT_RUNNING 1 3).put F.KILN_STAT_VLCD_ACT 800 3).put F.CASK_STAT_DEPTH 16 3).modChan 3 (fun c => { c with running := true, inReset := false, kiln := { c.kiln with cold := false }, regions := [(0, 1), (1, 1), (2, 4)] })), 3, by decide +kernel⟩,
   ⟨Tests.after (fun w => (((w.put F.SEQ_STAT_RUNNING 1 3).put F.KILN_STAT_VLCD_ACT 800 3).put F.CASK_STAT_DEPTH 16 3).modChan 3 (fun c => { c with running := false, inReset := false, kiln := { c.kiln with cold := false }, regions := [(0, 1), (1, 1), (2, 4)] })), 3, by decide +kernel⟩,
   ⟨Tests.after (fun w => w.modKiln 3 (fun k => { k with quiesce := .discharge 1 })), 3, 1, by decide +kernel⟩,
   ⟨Tests.after (fun w => (w.put F.SEQ_STAT_RUNNING 1 3).modChan 3 (fun c => { c with running := true, kiln := { c.kiln with quiesce := .done } })), 3, by decide +kernel⟩⟩

/-- The hypotheses of TickSlotLock, clause by clause, are met. -/
theorem witness_TickSlotLock :
    (∃ (s : State), s.work.ticking = true ∧ s.dev.lock.adopt = none) ∧
    (∃ (s : State) (x : Nat), s.work.ticking = true ∧ s.dev.lock.adopt = some x) ∧
    (∃ (s : State) (ch : Fin 8) (x : SlotRun) (rest : List SlotRun), (s.chan ch).planRuns = true ∧ (s.chan ch).inReset = false ∧ (s.chan ch).seq.cur = none ∧ (s.chan ch).seq.todo = x :: rest ∧ x.kind = kDiag ∧ (durSum (x :: rest) : Int) + (s.chan ch).seq.corr ≤ (s.work.tickLen - (s.chan ch).seq.curStart : Nat)) ∧
    (∃ (s : State) (errNs : Int), s.work.sourceGives = true ∧ s.work.pairTime = false ∧ s.dev.rst.rcMode = false ∧ s.work.lockState = lkLocked ∧ errNs.natAbs ≤ 2000) ∧
    (∃ (s : State) (errNs : Int), s.work.sourceGives = true ∧ s.work.pairTime = false ∧ s.dev.rst.rcMode = false ∧ s.work.lockState = lkLocked ∧ 2000 < errNs.natAbs) ∧
    (∃ (s : State) (at_ : Nat), s.dev.lock.retryAt = some at_ ∧ at_ ≤ s.dev.bounds ∧ s.work.lockState = lkFree) ∧
    (∃ (s : State), s.work.lockState = lkLocked ∧ s.get F.RHL_STAT_STATE ≠ 3) :=
  ⟨⟨Tests.after (fun w => { w.put F.SYS_REL_STEP 12 with tick := 41, rst := { w.rst with hold := .none } }), by decide +kernel⟩,
   ⟨Tests.after (fun w => { w.put F.SYS_REL_STEP 12 with tick := 41, rst := { w.rst with hold := .none }, lock := { w.lock with adopt := some 900 } }), 900, by decide +kernel⟩,
   ⟨Tests.after (fun w => w.modChan 3 (fun c => { c with running := true, inReset := false, seq := { c.seq with todo := [⟨4, 3, 20, false⟩, ⟨5, 4, 400, false⟩] } })), 3, ⟨4, 3, 20, false⟩, [⟨5, 4, 400, false⟩], by decide +kernel⟩,
   ⟨Tests.after (fun w => (w.put F.SYS_TICK_CFG_LOCK_SRC 6).put F.SYS_TICK_STAT_LOCK_STATE 2), -1500, by decide +kernel⟩,
   ⟨Tests.after (fun w => (w.put F.SYS_TICK_CFG_LOCK_SRC 6).put F.SYS_TICK_STAT_LOCK_STATE 2), -2500, by decide +kernel⟩,
   ⟨Tests.after (fun w => { w with bounds := 2000, lock := { w.lock with retryAt := some 1900 } }), 1900, by decide +kernel⟩,
   ⟨Tests.after (fun w => w.put F.SYS_TICK_STAT_LOCK_STATE 2), by decide +kernel⟩⟩

/-- The hypotheses of ModeCommands, clause by clause, are met. -/
theorem witness_ModeCommands :
    (∃ (s : State), s.hostReady = true ∧ s.dev.modeReq = none ∧ s.work.modeAllowed mdOperate = true) ∧
    (∃ (s : State) (x : Byte) (m : Byte) (k : List Byte) (resp : List Byte), s.hostReady = true ∧ s.dev.modeReq = none ∧ (x.toNat = mdTest ∨ x.toNat = mdRecovery) ∧ s.work.modeAllowed x.toNat = true ∧ (x.toNat = mdTest → s.work.testBarred m.toNat = false) ∧ resp.length = 32 ∧ s.work.key 4 = some k ∧ s.flag F.SEC_STAT_LOCKOUT = false ∧ s.flag F.SEC_STAT_NONCE_VALID = true) ∧
    (∃ (s : State) (r : ModeReq) (f : Flight), s.dev.modeReq = some r ∧ s.work.modeAllowed r.target = true ∧ r.target < 8 ∧ r.mask < 256 ∧ r.origin = .host ∧ s.dev.host.port.flight = some f ∧ f.late = false ∧ r.ready = true ∧ (maskList r.quiesce 8).all s.work.atRest = true) ∧
    (∃ (s : State) (r : ModeReq) (f : Flight), s.dev.modeReq = some r ∧ s.work.modeAllowed r.target = false ∧ r.origin = .host ∧ s.dev.host.port.flight = some f ∧ f.late = false ∧ r.ready = true ∧ (maskList r.quiesce 8).all s.work.atRest = true) ∧
    (∃ (s : State) (x : Byte), s.hostReady = true ∧ s.work.modeAllowed x.toNat = false) :=
  ⟨⟨Tests.upAfter 1, by decide +kernel⟩,
   ⟨Tests.upAfter 2 (fun w => { w |> Tests.secWord 16 with sec := { w.sec with keys := [(4, [1, 2])] } }), 3, 1, [1, 2], List.replicate 32 5, by decide +kernel⟩,
   ⟨Tests.upAfter 2 (fun w => { w.put F.SYS_MODE_PENDING 1 with tick := 9, modeReq := some ⟨.host, 3, 4, 0, true⟩, host := { w.host with port := { w.host.port with flight := some ⟨0x30, 5, false⟩ } } }), ⟨.host, 3, 4, 0, true⟩, ⟨0x30, 5, false⟩, by decide +kernel⟩,
   ⟨Tests.upAfter 4 (fun w => { w.put F.SYS_MODE_PENDING 1 with tick := 9, modeReq := some ⟨.host, 3, 4, 0, true⟩, host := { w.host with port := { w.host.port with flight := some ⟨0x30, 5, false⟩ } } }), ⟨.host, 3, 4, 0, true⟩, ⟨0x30, 5, false⟩, by decide +kernel⟩,
   ⟨Tests.upAfter 2, 1, by decide +kernel⟩⟩

/-- The hypotheses of ReadCommands, clause by clause, are met. -/
theorem witness_ReadCommands :
    (∃ (s : State), s.hostReady = true) ∧
    (∃ (s : State), s.hostReady = true) ∧
    (∃ (s : State) (pl : List Byte), s.hostReady = true ∧ pl.length = 6 ∧ 1 ≤ halfAt pl 4 ∧ halfAt pl 4 ≤ 4096 ∧ accessOk (wordAt pl 0) (halfAt pl 4) = true ∧ regMapped (wordAt pl 0) = false ∧ s.work.memHeld (wordAt pl 0) = false ∧ (banksOf (wordAt pl 0) (halfAt pl 4)).any s.work.bankFailed = false) ∧
    (∃ (s : State) (pl : List Byte), s.hostReady = true ∧ pl.length = 6 ∧ halfAt pl 4 = 4 ∧ accessOk (wordAt pl 0) 4 = true ∧ regMapped (wordAt pl 0) = true ∧ wordAt pl 0 < 0x40100000 ∧ wordAt pl 0 ≠ R.RHL_SUBTICK.addr 0 0 ∧ s.work.regHeld (wordAt pl 0) = false ∧ wordAt pl 0 ∉ hostRegs) ∧
    (∃ (s : State) (pl : List Byte) (r : Nat) (first : Nat) (n : Nat), s.hostReady = true ∧ s.work.modeAdmits 0x20 = true ∧ pl.length = 8 ∧ ringOf (byteAt pl 0) = some r ∧ (s.work.mode = mdRecovery → r = devRing) ∧ (r < 8 → s.work.isolated r = false) ∧ s.work.ringFailed r = false ∧ 1 ≤ byteAt pl 1 ∧ byteAt pl 1 ≤ 32 ∧ (first = if bitOf (halfAt pl 2) 0 then (halfAt pl 4 + 65536 - s.work.ringOldest r) % 65536 else 0) ∧ first ≤ s.work.ringCount r ∧ n = Nat.min (byteAt pl 1) (s.work.ringCount r - first)) ∧
    (∃ (s : State), s.work.g3Deaf = false ∧ s.dev.host.port.flight = none ∧ s.dev.host.port.fresh = true) ∧
    (∃ (s : State), s.work.g3Deaf = false ∧ (s.dev.host.port.flight ≠ none ∨ s.dev.host.port.fresh = false)) ∧
    (∃ (s : State), s.work.g3Deaf = false) :=
  ⟨⟨Tests.upAfter 2 (fun w => { w with tick := 77 }), by decide +kernel⟩,
   ⟨Tests.upAfter 2, by decide +kernel⟩,
   ⟨Tests.upAfter 2 (fun w => (w.poke 0x1FFF 5).poke 0x2000 6), [0xFF, 0x1F, 0, 0, 2, 0], by decide +kernel⟩,
   ⟨Tests.upAfter 2, [0x04, 0, 0, 0x40, 4, 0], by decide +kernel⟩,
   ⟨Tests.upAfter 2 (fun w => (w.entryNow devRing 0x86 4 0 3).entryNow devRing 0x86 5 0 4), [0xF0, 2, 1, 0, 1, 0, 0, 0], 8, 1, 1, by decide +kernel⟩,
   ⟨Tests.upAfter 2 (fun w => w.complete .host 0x7F 3 0), by decide +kernel⟩,
   ⟨Tests.upAfter 2, by decide +kernel⟩,
   ⟨Tests.upAfter 2 (fun w => w.complete .host 0x7F 3 0), by decide +kernel⟩⟩

/-- The hypotheses of DisplayCommands, clause by clause, are met. -/
theorem witness_DisplayCommands :
    (∃ (s : State) (pl : List Byte), s.hostReady = true ∧ 5 ≤ pl.length ∧ pl.length ≤ 4100 ∧ wordAt pl 0 + (pl.length - 4) ≤ 0x001FB000 ∧ (banksOf (wordAt pl 0) (pl.length - 4)).any s.work.bankFailed = false) ∧
    (∃ (s : State) (ch : Fin 8) (pl : List Byte) (due : Option Nat) (late : Bool), s.hostReady = true ∧ s.work.modeAdmits 0x10 = true ∧ 1 ≤ byteAt pl 1 ∧ byteAt pl 1 ≤ 32 ∧ pl.length = 8 + 8 * byteAt pl 1 ∧ halfAt pl 2 ≤ 1 ∧ (List.range (byteAt pl 1)).all (fun i => decide (byteAt pl (9 + 8 * i) ≤ 1) && decide (halfAt pl (10 + 8 * i) = 0)) = true ∧ byteAt pl 0 = ch ∧ s.work.displayCheck ch = none ∧ (fieldEntries pl (byteAt pl 1)).all (fun e => (s.work.fieldDef ch e.1).isSome) = true ∧ (if s.work.held ch then (none, false) else s.work.judgeStamp (if bitOf (halfAt pl 2) 0 then some (wordAt pl 4) else none)) = (due, late) ∧ (s.chan ch).swapPending = false ∧ (s.chan ch).mash.queue.length < 256 ∧ s.work.stampedFull ch due = false) ∧
    (∃ (s : State) (ch : Fin 8) (pl : List Byte) (due : Option Nat) (late : Bool), s.hostReady = true ∧ s.work.modeAdmits 0x11 = true ∧ 16 ≤ pl.length ∧ pl.length ≤ 264 ∧ pl.length % 8 = 0 ∧ byteAt pl 1 ≤ 1 ∧ byteAt pl 0 = ch ∧ s.work.displayCheck ch = none ∧ halfAt pl 2 ≤ 31 ∧ (segPairs pl).all (fun p => decide (p.1 ≤ 31) && decide (p.2.1 &&& s.get F.MASH_OWN_OWNED ch p.1 = 0)) = true ∧ (if s.work.held ch then (none, false) else s.work.judgeStamp (if bitOf (byteAt pl 1) 0 then some (wordAt pl 4) else none)) = (due, late) ∧ (s.chan ch).swapPending = false ∧ (s.chan ch).mash.queue.length < 256 ∧ s.work.stampedFull ch due = false) ∧
    (∃ (s : State) (pl : List Byte) (due : Option Nat) (late : Bool) (soonest : Nat), s.hostReady = true ∧ s.work.modeAdmits 0x12 = true ∧ pl.length = 8 ∧ byteAt pl 1 ≤ 1 ∧ halfAt pl 2 = 0 ∧ s.work.judgeStamp (if bitOf (byteAt pl 1) 0 then some (wordAt pl 4) else none) = (due, late) ∧ (maskList (byteAt pl 0) 8).all (fun n => (s.work.displayCheck n).isNone && s.work.held n && !(s.chan n).swapPending && !s.work.stampedFull n due) = true ∧ (soonest = if (maskList (byteAt pl 0) 8).any (fun n => (s.chan n).cutPassed) then s.work.nextTick + 1 else s.work.nextTick)) ∧
    (∃ (s : State) (pl : List Byte) (tick : Nat) (addr : Nat → Nat), s.hostReady = true ∧ s.work.modeAdmits 0x19 = true ∧ pl.length = 12 ∧ halfAt pl 0 ≠ 0 ∧ byteAt pl 2 ≤ 3 ∧ byteAt pl 3 = 0 ∧ halfAt pl 10 = 0 ∧ s.dev.dim.length = 16 ∧ tick = (if bitOf (byteAt pl 2) 0 then wordAt pl 4 else s.work.dimLead) ∧ (∀ g : Fin 16, addr g = if bitOf (s.get F.SYS_DIM_CFG_FABRIC_MASK) g && s.work.joined && !bitOf (byteAt pl 2) 1 then s.work.ownAddr else 0) ∧ (∀ g : Fin 16, bitOf (halfAt pl 0) g = true → s.work.newer tick (addr g) (s.work.heldDim g).tick (s.work.heldDim g).addr = true)) :=
  ⟨⟨Tests.upAfter 2 (fun w => (w.poke 0x1FFF 5).poke 0x2002 6), [0xFF, 0x1F, 0, 0, 2, 0, 7], by decide +kernel⟩,
   ⟨Tests.upAfter 2 (fun w => w.modChan 3 (fun c => { c with inReset := false, regions := [(0, 36), (36, 36), (72, 4), (76, 2)] })), 3, [3, 1, 0, 0, 0, 0, 0, 0, 4, 0, 0, 0, 42, 0, 0, 0], none, false, by decide +kernel⟩,
   ⟨Tests.upAfter 2 (fun w => w.modChan 3 (fun c => { c with inReset := false, regions := [(0, 36), (36, 36), (72, 4), (76, 2)] })), 3, [3, 1, 2, 0, 5, 0, 0, 0, 0xFF, 0, 0, 0, 1, 0, 0, 0], some 5, false, by decide +kernel⟩,
   ⟨Tests.upAfter 2 (fun w => (w.put F.MASH_CFG_SWAP_MODE 1 3).modChan 3 (fun c => { c with inReset := false })), [8, 0, 0, 0, 0, 0, 0, 0], none, false, 1, by decide +kernel⟩,
   ⟨Tests.upAfter 2, [5, 0, 1, 0, 9, 0, 0, 0, 0x34, 0x12, 0, 0], 9, fun _ => 0, by decide +kernel⟩⟩

/-- The hypotheses of AlertCommands, clause by clause, are met. -/
theorem witness_AlertCommands :
    (∃ (s : State) (ch : Fin 8) (pl : List Byte) (due : Option Nat) (late : Bool), s.hostReady = true ∧ s.work.modeAdmits 0x18 = true ∧ pl.length = 12 ∧ byteAt pl 1 ≤ 3 ∧ halfAt pl 2 ≤ 1 ∧ halfAt pl 10 = 0 ∧ byteAt pl 0 = ch ∧ s.work.displayCheck ch = none ∧ (s.chan ch).blockHeld 10 = false ∧ s.work.judgeStamp (if bitOf (halfAt pl 2) 0 then some (wordAt pl 4) else none) = (due, late) ∧ s.work.stampedFull ch due = false ∧ halfAt pl 8 < s.work.alertN ch) ∧
    (∃ (s : State) (ch : Fin 8) (pl : List Byte) (due : Option Nat) (late : Bool), s.hostReady = true ∧ s.work.modeAdmits 0x18 = true ∧ pl.length = 12 ∧ byteAt pl 1 ≤ 3 ∧ halfAt pl 2 ≤ 1 ∧ halfAt pl 10 = 0 ∧ byteAt pl 0 = ch ∧ s.work.displayCheck ch = none ∧ (s.chan ch).blockHeld 10 = false ∧ s.work.judgeStamp (if bitOf (halfAt pl 2) 0 then some (wordAt pl 4) else none) = (due, late) ∧ s.work.stampedFull ch due = false ∧ halfAt pl 8 < s.work.alertN ch) ∧
    (∃ (s : State) (ch : Fin 8) (pl : List Byte) (due : Option Nat) (late : Bool), s.hostReady = true ∧ s.work.modeAdmits 0x18 = true ∧ pl.length = 12 ∧ byteAt pl 1 ≤ 3 ∧ halfAt pl 2 ≤ 1 ∧ halfAt pl 10 = 0 ∧ byteAt pl 0 = ch ∧ s.work.displayCheck ch = none ∧ (s.chan ch).blockHeld 10 = false ∧ s.work.judgeStamp (if bitOf (halfAt pl 2) 0 then some (wordAt pl 4) else none) = (due, late) ∧ s.work.stampedFull ch due = false ∧ halfAt pl 8 < s.work.alertN ch) ∧
    (∃ (s : State) (ch : Fin 8) (pl : List Byte) (due : Option Nat) (late : Bool), s.hostReady = true ∧ s.work.modeAdmits 0x18 = true ∧ pl.length = 12 ∧ byteAt pl 1 ≤ 3 ∧ halfAt pl 2 ≤ 1 ∧ halfAt pl 10 = 0 ∧ byteAt pl 0 = ch ∧ s.work.displayCheck ch = none ∧ (s.chan ch).blockHeld 10 = false ∧ s.work.judgeStamp (if bitOf (halfAt pl 2) 0 then some (wordAt pl 4) else none) = (due, late) ∧ s.work.stampedFull ch due = false) :=
  ⟨⟨Tests.upAfter 2 (fun w => ((w.modChan 3 (fun c => { c with inReset := false, regions := [(0, 36), (36, 36), (72, 4), (76, 2), (0, 0), (0, 0), (78, 2)] })).poke 0x01061380 2).poke 0x01061382 16), 3, [3, 0, 0, 0, 0, 0, 0, 0, 1, 0, 0, 0], none, false, by decide +kernel⟩,
   ⟨Tests.upAfter 2 (fun w => ((w.modChan 3 (fun c => { c with inReset := false, regions := [(0, 36), (36, 36), (72, 4), (76, 2), (0, 0), (0, 0), (78, 2)] })).poke 0x01061380 2).poke 0x01061382 16), 3, [3, 0, 0, 0, 0, 0, 0, 0, 1, 0, 0, 0], none, false, by decide +kernel⟩,
   ⟨Tests.upAfter 2 (fun w => ((w.modChan 3 (fun c => { c with inReset := false, regions := [(0, 36), (36, 36), (72, 4), (76, 2), (0, 0), (0, 0), (78, 2)] })).poke 0x01061380 2).poke 0x01061382 16), 3, [3, 0, 0, 0, 0, 0, 0, 0, 1, 0, 0, 0], none, false, by decide +kernel⟩,
   ⟨Tests.upAfter 2 (fun w => ((w.modChan 3 (fun c => { c with inReset := false, regions := [(0, 36), (36, 36), (72, 4), (76, 2), (0, 0), (0, 0), (78, 2)] })).poke 0x01061380 2).poke 0x01061382 16), 3, [3, 0, 0, 0, 0, 0, 0, 0, 1, 0, 0, 0], none, false, by decide +kernel⟩⟩

/-- The hypotheses of EventAndPowerCommands, clause by clause, are met. -/
theorem witness_EventAndPowerCommands :
    (∃ (s : State) (pl : List Byte) (r : Nat) (d : Nat), s.hostReady = true ∧ s.work.modeAdmits 0x21 = true ∧ pl.length = 4 ∧ ringOf (byteAt pl 0) = some r ∧ (s.work.mode = mdRecovery → r = devRing) ∧ (r < 8 → s.work.isolated r = false ∧ (s.chan r).standby = false) ∧ s.work.ringFailed r = false ∧ d = (halfAt pl 2 + 65536 - s.work.ringOldest r) % 65536 ∧ d < s.work.ringCount r) ∧
    (∃ (s : State) (pl : List Byte), s.hostReady = true ∧ s.work.modeAdmits opPower = true ∧ pl.length = 12 ∧ byteAt pl 1 = 0 ∧ halfAt pl 2 ≠ 0 ∧ halfAt pl 2 &&& wakesOf 1 = halfAt pl 2 ∧ (bitOf (halfAt pl 2) 6 = true → wordAt pl 8 ≠ 0) ∧ s.dev.img.sess = none ∧ s.flag F.SYS_IMG_STAT_FLASH_BUSY = false ∧ s.dev.pwr.cmd = none ∧ s.work.pairUp = false) ∧
    (∃ (s : State) (pl : List Byte), s.hostReady = true ∧ s.work.modeAdmits opPower = true ∧ pl.length = 12 ∧ byteAt pl 1 = 0 ∧ halfAt pl 2 ≠ 0 ∧ halfAt pl 2 &&& wakesOf 2 = halfAt pl 2 ∧ (bitOf (halfAt pl 2) 6 = true → wordAt pl 8 ≠ 0) ∧ s.dev.img.sess = none ∧ s.flag F.SYS_IMG_STAT_FLASH_BUSY = false ∧ s.dev.pwr.cmd = none ∧ s.work.pairUp = false) ∧
    (∃ (s : State) (pl : List Byte), s.hostReady = true ∧ s.work.modeAdmits opPower = true ∧ pl.length = 12 ∧ byteAt pl 1 = 0 ∧ halfAt pl 2 ≠ 0 ∧ halfAt pl 2 &&& wakesOf 3 = halfAt pl 2 ∧ (bitOf (halfAt pl 2) 6 = true → wordAt pl 8 ≠ 0) ∧ s.flag F.PWR_CFG_PMB_EN = true ∧ s.dev.img.sess = none ∧ s.flag F.SYS_IMG_STAT_FLASH_BUSY = false ∧ s.dev.pwr.cmd = none ∧ s.work.pairUp = false) ∧
    (∃ (s : State) (pl : List Byte), s.hostReady = true ∧ s.work.modeAdmits opPower = true ∧ pl.length = 12 ∧ byteAt pl 1 = 0 ∧ halfAt pl 2 ≠ 0 ∧ halfAt pl 2 &&& wakesOf 4 = halfAt pl 2 ∧ (bitOf (halfAt pl 2) 6 = true → wordAt pl 8 ≠ 0) ∧ s.flag F.PWR_CFG_PMB_EN = true ∧ s.dev.img.sess = none ∧ s.flag F.SYS_IMG_STAT_FLASH_BUSY = false ∧ s.dev.pwr.cmd = none ∧ s.work.pairUp = false) ∧
    (∃ (s : State) (pl : List Byte), s.hostReady = true ∧ s.work.modeAdmits 0x32 = true ∧ pl.length = 4 ∧ leAt pl 1 3 = 0 ∧ byteAt pl 0 ≠ 0) :=
  ⟨⟨Tests.upAfter 2 (fun w => (w.entryNow devRing 0x86 4 0 3).entryNow devRing 0x86 5 0 4), [0xF0, 0, 0, 0], 8, 0, by decide +kernel⟩,
   ⟨Tests.upAfter 2 (fun w => (w.put F.PWR_CFG_PMB_EN 1).modChan 3 (fun c => { c with running := true })), [0, 0, 4, 0, 0, 0, 0, 0, 0, 0, 0, 0], by decide +kernel⟩,
   ⟨Tests.upAfter 2 (fun w => (w.put F.PWR_CFG_PMB_EN 1).modChan 3 (fun c => { c with running := true })), [0, 0, 1, 0, 0, 0, 0, 0, 0, 0, 0, 0], by decide +kernel⟩,
   ⟨Tests.upAfter 2 (fun w => (w.put F.PWR_CFG_PMB_EN 1).modChan 3 (fun c => { c with running := true })), [0, 0, 32, 0, 0, 0, 0, 0, 0, 0, 0, 0], by decide +kernel⟩,
   ⟨Tests.upAfter 2 (fun w => (w.put F.PWR_CFG_PMB_EN 1).modChan 3 (fun c => { c with running := true })), [0, 0, 32, 0, 0, 0, 0, 0, 0, 0, 0, 0], by decide +kernel⟩,
   ⟨Tests.upAfter 2 (fun w => w.put F.PWR_STAT_LATCHED 6), [5, 0, 0, 0], by decide +kernel⟩⟩

/-- The hypotheses of ImageSessions, clause by clause, are met. -/
theorem witness_ImageSessions :
    (∃ (s : State) (pl : List Byte), s.hostReady = true ∧ s.work.mode ≠ mdTest ∧ s.dev.img.sess = none ∧ pl.length = 12 ∧ byteAt pl 4 ≤ 1 ∧ (byteAt pl 4 = 1 → byteAt pl 5 ≤ 7) ∧ byteAt pl 6 < 4 ∧ byteAt pl 7 = 0 ∧ s.work.scopeAdmitted (byteAt pl 4) = true ∧ (byteAt pl 4 = 1 → bitOf (byteAt pl 6) 1 = false) ∧ wordAt pl 0 % 16 = 0 ∧ 224 ≤ wordAt pl 0 ∧ wordAt pl 0 ≤ 1572864 ∧ (bitOf (byteAt pl 6) 0 = true → (wordAt pl 8 + 2 ^ 32 - s.work.tick32) % 2 ^ 32 ≤ 4096 ∨ 2 ^ 31 ≤ (wordAt pl 8 + 2 ^ 32 - s.work.tick32) % 2 ^ 32)) ∧
    (∃ (s : State) (pl : List Byte) (x : Session) (b : List Byte) (ok : Bool), s.hostReady = true ∧ s.work.mode ≠ mdTest ∧ s.dev.img.sess = some x ∧ x.owner = .host ∧ s.work.sessState = csReceiving ∧ s.work.scopeAdmitted x.scope = true ∧ 8 ≤ pl.length ∧ wordAt pl 0 = x.staged.length ∧ b = x.staged ++ pl.drop 4 ∧ b.length ≤ x.length ∧ x.length ≤ 1572864 ∧ (if x.tableOk then (0, true) else earlyCode (s.get F.SYS_ID_DIE_REV) (some x.length) b) = (0, ok) ∧ (ok = true → ∀ e ∈ imgSecs b, e.off + e.len ≤ b.length → secCrcOk b e = true)) ∧
    (∃ (s : State) (tag : Nat) (x : Session) (code : Nat) (plain : List (Nat × List Byte)), s.hostReady = true ∧ s.work.mode ≠ mdTest ∧ s.dev.img.sess = some x ∧ x.owner = .host ∧ s.work.sessState = csReceiving ∧ s.work.scopeAdmitted x.scope = true ∧ (((s.taken 0x42 tag).modSess (fun x => { x with lastUs := s.work.nowUs })).checkImage (some x.length) (if x.scope = 1 then some x.channel else none) x.staged).2 = (code, plain)) ∧
    (∃ (s : State) (x : Session), s.dev.img.sess = some x ∧ x.undo = none ∧ x.asked = false ∧ s.work.sessState = csReceiving ∧ x.lastUs + 2000000 ≤ s.work.nowUs) ∧
    (∃ (s : State) (x : Session), s.hostReady = true ∧ s.dev.img.sess = some x ∧ x.owner = .host ∧ x.undo = none ∧ x.asked = false) ∧
    (∃ (s : State) (ftag : Nat) (r : ModeReq), s.work.g3Deaf = false ∧ s.work.asleep = false ∧ s.work.pwrState = 0 ∧ s.hostFlight opMode ftag ∧ s.dev.modeReq = some r ∧ r.quiesce = 0) ∧
    (∃ (s : State) (f : Flight), s.work.g3Deaf = false ∧ s.work.pwrState = 0 ∧ s.dev.host.port.flight = some f) ∧
    (∃ (s : State), s.hostReady = true ∧ s.dev.img.sess = none) :=
  ⟨⟨Tests.upAfter 2, [0, 1, 0, 0, 1, 3, 1, 0, 5, 0, 0, 0], by decide +kernel⟩,
   ⟨Tests.upAfter 2 (fun w => { w.put F.SYS_CFG_SESS_STATE 1 with img := { w.img with sess := some ⟨.host, 256, 1, 3, none, false, false, [], 0, false, [], false, 0, none, none⟩ } }), [0, 0, 0, 0, 0x4B, 0x5A, 0x52, 0x4C], ⟨.host, 256, 1, 3, none, false, false, [], 0, false, [], false, 0, none, none⟩, [0x4B, 0x5A, 0x52, 0x4C], false, by decide +kernel⟩,
   ⟨Tests.upAfter 2 (fun w => { w.put F.SYS_CFG_SESS_STATE 1 with img := { w.img with sess := some ⟨.host, 256, 1, 3, none, false, false, [], 0, false, [], false, 0, none, none⟩ } }), 9, ⟨.host, 256, 1, 3, none, false, false, [], 0, false, [], false, 0, none, none⟩, rcLength, [], by decide +kernel⟩,
   ⟨Tests.upAfter 2 (fun w => { w.put F.SYS_CFG_SESS_STATE 1 with nowCyc := 400000000, img := { w.img with sess := some ⟨.host, 256, 1, 3, none, false, false, [], 0, false, [], false, 0, none, none⟩ } }), ⟨.host, 256, 1, 3, none, false, false, [], 0, false, [], false, 0, none, none⟩, by decide +kernel⟩,
   ⟨Tests.upAfter 2 (fun w => { w.put F.SYS_CFG_SESS_STATE 1 with img := { w.img with sess := some ⟨.host, 256, 1, 3, none, false, false, [], 0, false, [], false, 0, none, none⟩ } }), ⟨.host, 256, 1, 3, none, false, false, [], 0, false, [], false, 0, none, none⟩, by decide +kernel⟩,
   ⟨Tests.upAfter 2 (fun w => { w.put F.SYS_MODE_PENDING 1 with modeReq := some ⟨.host, 3, 1, 0, false⟩, host := { w.host with port := { w.host.port with flight := some ⟨0x30, 4, false⟩ } } }), 4, ⟨.host, 3, 1, 0, false⟩, by decide +kernel⟩,
   ⟨Tests.upAfter 2 (fun w => { w with host := { w.host with port := { w.host.port with flight := some ⟨0x42, 4, false⟩ } } }), ⟨0x42, 4, false⟩, by decide +kernel⟩,
   ⟨Tests.upAfter 2, by decide +kernel⟩⟩

/-- The hypotheses of ImageActivation, clause by clause, are met. -/
theorem witness_ImageActivation :
    (∃ (s : State) (x : Session) (bad : Nat) (tag : Nat), s.dev.img.sess = some x ∧ x.scope ≠ 1 ∧ s.work.sessState = csPending ∧ x.undo = none ∧ x.due s.dev.tick = true ∧ s.work.mode = mdBoot ∧ 11 ≤ s.work.relStep ∧ (s.work.marchBanks (imgBanks x.image) bad).isSome = true ∧ (((s.work.marchBanks (imgBanks x.image) bad).getD s.work).applyImage x.image).isOk = true ∧ x.endBy = some .host ∧ s.hostFlight 0x42 tag) ∧
    (∃ (s : State) (x : Session) (bad : Nat), s.dev.img.sess = some x ∧ x.scope ≠ 1 ∧ s.work.sessState = csPending ∧ x.undo = none ∧ x.due s.dev.tick = true ∧ s.work.mode ≠ mdBoot ∧ x.asked = true ∧ (List.range 8).all s.work.atRest = true ∧ (s.work.marchBanks (imgBanks x.image) bad).isSome = true ∧ (((s.work.marchBanks (imgBanks x.image) bad).getD s.work).applyImage x.image).isOk = true) ∧
    (∃ (s : State) (x : Session) (bad : Nat), s.dev.img.sess = some x ∧ x.scope = 1 ∧ x.channel < 8 ∧ s.work.sessState = csPending ∧ x.undo = none ∧ x.asked = true ∧ s.work.atRest x.channel = true ∧ (s.work.marchBanks [16 + x.channel] bad).isSome = true ∧ ((s.work.marchBanks [16 + x.channel] bad).getD s.work).trialCode x.image = 0 ∧ (((s.work.marchBanks [16 + x.channel] bad).getD s.work).applyImage x.image).isOk = true) ∧
    (∃ (s : State) (c : Nat) (d : Nat), s.work.mode = mdBoot ∧ 11 ≤ s.work.relStep ∧ s.get F.SYS_BOOTSEL_SRC = 1 ∧ s.dev.img.sess = none ∧ (s.work.bootCopy (flashImage s.dev.img.primary) 2).2 = c ∧ (((s.work.bootCopy (flashImage s.dev.img.primary) 2).1.raise F.SYS_IMG_STAT_PRIMARY_BAD).bootCopy (flashImage s.dev.img.fallback) 3).2 = d) :=
  ⟨⟨Tests.upAfter 0 (fun w => { (w.put F.SYS_CFG_SESS_STATE 3) with img := { w.img with sess := some ⟨.host, 256, 0, 0, none, false, false, (List.replicate 16 0 ++ [1, 0, 0, 0] ++ leBytes 4 77 ++ List.replicate 40 0 ++ [2, 255, 0, 0] ++ leBytes 4 80 ++ leBytes 4 24 ++ leBytes 4 0), 0, true, [(0, leBytes 4 0x40001 ++ leBytes 4 (resetWord R.SYS_TICK_CFG.base) ++ leBytes 4 1000 ++ leBytes 4 0 ++ leBytes 4 0 ++ leBytes 4 0)], false, 0, none, some .host⟩ }, host := { w.host with port := { w.host.port with flight := some ⟨0x42, 4, false⟩ } } }), ⟨.host, 256, 0, 0, none, false, false, (List.replicate 16 0 ++ [1, 0, 0, 0] ++ leBytes 4 77 ++ List.replicate 40 0 ++ [2, 255, 0, 0] ++ leBytes 4 80 ++ leBytes 4 24 ++ leBytes 4 0), 0, true, [(0, leBytes 4 0x40001 ++ leBytes 4 (resetWord R.SYS_TICK_CFG.base) ++ leBytes 4 1000 ++ leBytes 4 0 ++ leBytes 4 0 ++ leBytes 4 0)], false, 0, none, some .host⟩, 0, 4, by decide +kernel⟩,
   ⟨Tests.upAfter 4 (fun w => { (w.put F.SYS_CFG_SESS_STATE 3) with img := { w.img with sess := some ⟨.host, 256, 0, 0, none, false, false, (List.replicate 16 0 ++ [1, 0, 0, 0] ++ leBytes 4 77 ++ List.replicate 40 0 ++ [2, 255, 0, 0] ++ leBytes 4 80 ++ leBytes 4 24 ++ leBytes 4 0), 0, true, [(0, leBytes 4 0x40001 ++ leBytes 4 (resetWord R.SYS_TICK_CFG.base) ++ leBytes 4 1000 ++ leBytes 4 0 ++ leBytes 4 0 ++ leBytes 4 0)], true, 0, none, some .host⟩ }, host := { w.host with port := { w.host.port with flight := some ⟨0x42, 4, false⟩ } } }), ⟨.host, 256, 0, 0, none, false, false, (List.replicate 16 0 ++ [1, 0, 0, 0] ++ leBytes 4 77 ++ List.replicate 40 0 ++ [2, 255, 0, 0] ++ leBytes 4 80 ++ leBytes 4 24 ++ leBytes 4 0), 0, true, [(0, leBytes 4 0x40001 ++ leBytes 4 (resetWord R.SYS_TICK_CFG.base) ++ leBytes 4 1000 ++ leBytes 4 0 ++ leBytes 4 0 ++ leBytes 4 0)], true, 0, none, some .host⟩, 0, by decide +kernel⟩,
   ⟨Tests.upAfter 2 (fun w => { (w.put F.SYS_CFG_SESS_STATE 3) with img := { w.img with whole := some ((List.replicate 16 0 ++ [1, 0, 0, 0] ++ leBytes 4 77 ++ List.replicate 40 0 ++ [2, 255, 0, 0] ++ leBytes 4 80 ++ leBytes 4 24 ++ leBytes 4 0), [(0, leBytes 4 0x40001 ++ leBytes 4 (resetWord R.SYS_TICK_CFG.base) ++ leBytes 4 6000 ++ leBytes 4 0 ++ leBytes 4 0 ++ leBytes 4 0)]), sess := some ⟨.host, 256, 1, 3, none, false, false, (List.replicate 15 0 ++ [1, 1, 0, 8] ++ List.replicate 45 0 ++ [16, 3, 0, 0] ++ leBytes 4 80 ++ leBytes 4 380 ++ leBytes 4 0), 0, true, [(0, ((([0x5D0001, 0x301, 3000, 0, 0, 0x400000, 0, 0, 0, 0, 0, 1] ++ List.replicate 79 0 ++ [0x4E200, 0x1004883, 0x1905]).map (leBytes 4)).flatten ++ leBytes 4 0))], true, 0, none, some .host⟩ } }), ⟨.host, 256, 1, 3, none, false, false, (List.replicate 15 0 ++ [1, 1, 0, 8] ++ List.replicate 45 0 ++ [16, 3, 0, 0] ++ leBytes 4 80 ++ leBytes 4 380 ++ leBytes 4 0), 0, true, [(0, ((([0x5D0001, 0x301, 3000, 0, 0, 0x400000, 0, 0, 0, 0, 0, 1] ++ List.replicate 79 0 ++ [0x4E200, 0x1004883, 0x1905]).map (leBytes 4)).flatten ++ leBytes 4 0))], true, 0, none, some .host⟩, 0, by decide +kernel⟩,
   ⟨Tests.upAfter 0 (fun w => w.put F.SYS_BOOTSEL_SRC 1), rcFormat, rcFormat, by decide +kernel⟩⟩

/-- The hypotheses of FabricWrapAndFrames, clause by clause, are met. -/
theorem witness_FabricWrapAndFrames :
    (∃ (s : State) (pl : List Byte), s.hostReady = true ∧ s.work.modeAdmits 0x60 = true ∧ 11 ≤ pl.length ∧ halfAt pl 0 ≤ 511 ∧ halfAt pl 0 ≠ 0 ∧ byteAt pl 2 ≤ 1 ∧ byteAt pl 3 = 0 ∧ 1 ≤ halfAt pl 4 ∧ halfAt pl 4 ≤ 4000 ∧ byteAt (pl.drop 6) 2 = 0 ∧ (pl.drop 6).length = 5 + halfAt (pl.drop 6) 3 ∧ halfAt (pl.drop 6) 3 ≤ 1012 ∧ s.work.joined = true ∧ s.flag F.SYS_BLK_RST_FABRIC = false ∧ byteAt pl 2 = 0 ∧ halfAt pl 0 ≠ 511) ∧
    (∃ (s : State) (pl : List Byte), s.hostReady = true ∧ s.work.modeAdmits 0x60 = true ∧ 11 ≤ pl.length ∧ halfAt pl 0 ≤ 511 ∧ halfAt pl 0 ≠ 0 ∧ byteAt pl 2 ≤ 1 ∧ byteAt pl 3 = 0 ∧ 1 ≤ halfAt pl 4 ∧ halfAt pl 4 ≤ 4000 ∧ byteAt (pl.drop 6) 2 = 0 ∧ (pl.drop 6).length = 5 + halfAt (pl.drop 6) 3 ∧ halfAt (pl.drop 6) 3 ≤ 1012 ∧ s.work.joined = true ∧ s.flag F.SYS_BLK_RST_FABRIC = false ∧ (byteAt pl 2 = 1 ∨ halfAt pl 0 = 511)) ∧
    (∃ (s : State) (pl : List Byte), s.hostReady = true ∧ s.work.modeAdmits 0x60 = true ∧ 11 ≤ pl.length ∧ halfAt pl 0 ≤ 511 ∧ halfAt pl 0 ≠ 0 ∧ byteAt pl 2 ≤ 1 ∧ byteAt pl 3 = 0 ∧ 1 ≤ halfAt pl 4 ∧ halfAt pl 4 ≤ 4000 ∧ byteAt (pl.drop 6) 2 = 0 ∧ (pl.drop 6).length = 5 + halfAt (pl.drop 6) 3 ∧ halfAt (pl.drop 6) 3 ≤ 1012 ∧ s.flag F.SYS_BLK_RST_FABRIC = true) ∧
    (∃ (s : State) (x : WrapWait) (f : Flight), s.dev.host.wraps = [x] ∧ x.left = 0 ∧ x.who = .host ∧ s.dev.host.port.flight = some f) ∧
    (∃ (s : State), s.hostReady = true) ∧
    (∃ (s : State), s.hostReady = true) ∧
    (∃ (s : State), s.hostReady = true) ∧
    (∃ (s : State), s.work.g3Deaf = false ∧ s.work.pwrState = 1 ∧ s.dev.host.held = none) ∧
    (∃ (s : State) (op : Nat), s.work.g3Deaf = false ∧ s.work.pwrState = 0 ∧ s.dev.host.port.flight ≠ none ∧ op ≠ opAbort ∧ op ≠ 0x80) :=
  ⟨⟨Tests.upAfter 2 (fun w => (w.put F.RHL_STAT_STATE 3).put F.RHL_ROUTE_PORTS 0x80 0 0), [3, 0, 0, 0, 20, 0, 1, 2, 0, 0, 0], by decide +kernel⟩,
   ⟨Tests.upAfter 2 (fun w => (w.put F.RHL_STAT_STATE 3).put F.RHL_ROUTE_PORTS 0x80 0 0), [3, 0, 1, 0, 20, 0, 1, 2, 0, 0, 0], by decide +kernel⟩,
   ⟨Tests.upAfter 2 (fun w => (w.put F.RHL_STAT_STATE 3).put F.RHL_ROUTE_PORTS 0x80 0 0 |>.put F.SYS_BLK_RST_FABRIC 1), [3, 0, 0, 0, 20, 0, 1, 2, 0, 0, 0], by decide +kernel⟩,
   ⟨Tests.upAfter 2 (fun w => { w with host := { w.host with wraps := [⟨.host, 5, 0⟩], port := { w.host.port with flight := some ⟨0x60, 4, false⟩ } } }), ⟨.host, 5, 0⟩, ⟨0x60, 4, false⟩, by decide +kernel⟩,
   ⟨Tests.upAfter 2, by decide +kernel⟩,
   ⟨Tests.upAfter 2, by decide +kernel⟩,
   ⟨Tests.upAfter 2, by decide +kernel⟩,
   ⟨Tests.upAfter 2 (fun w => w.put F.PWR_STAT_STATE 1), by decide +kernel⟩,
   ⟨Tests.upAfter 2 (fun w => { w with host := { w.host with port := { w.host.port with flight := some ⟨0x42, 4, false⟩ } } }), 1, by decide +kernel⟩⟩

/-- The hypotheses of RegisterWrites, clause by clause, are met. -/
theorem witness_RegisterWrites :
    (∃ (s : State) (a : Nat) (v : Word), 0x40050000 ≤ a ∧ a < 0x40080000 ∧ a ≠ R.PAIR_HAND.addr 0 0 ∧ s.accepts a v.toNat = true) ∧
    (∃ (s : State) (ch : Fin 8) (a : Nat) (v : Word), 0x40100000 ≤ a ∧ a < 0x40180000 ∧ channelOf a = ch ∧ boundaryReg a = true ∧ isSetting a = true ∧ (foldChannel a < R.LAMP_DEM.base ∨ R.LAMP_DEM.base + 128 ≤ foldChannel a) ∧ s.accepts a v.toNat = true ∧ s.written a v.toNat ≠ s.reg a) ∧
    (∃ (s : State) (a : Nat) (v : Word), s.accepts a v.toNat = false ∧ s.work.regHeld a = false) ∧
    (∃ (s : State) (ch : Fin 8) (a : Nat), 0x40100000 ≤ a ∧ a < 0x40180000 ∧ regMapped a = true ∧ a % 4 = 0 ∧ channelOf a = ch ∧ s.work.regHeld a = true) :=
  ⟨⟨Tests.upAfter 1, R.NET_PTP_CYC.addr 0 0, 2500, by decide +kernel⟩,
   ⟨Tests.upAfter 1 (fun w => w.modChan 3 (fun c => { c with inReset := false })), 3, R.KILN_VSET.addr 3 0, 900, by decide +kernel⟩,
   ⟨Tests.upAfter 2, R.SYS_TICK_CFG.addr 0 0, 5, by decide +kernel⟩,
   ⟨Tests.upAfter 2 (fun w => w.modChan 3 (fun c => { c with inReset := true })), 3, R.KILN_VSET.addr 3 0, by decide +kernel⟩⟩

/-- The hypotheses of EmulatedRegisterSets, clause by clause, are met. -/
theorem witness_EmulatedRegisterSets :
    (∃ (s : State), s.work.g3Deaf = false ∧ s.flag F.HOST_CFG_G2_EN = true ∧ s.work.emuSuits true = true ∧ s.work.emuBarred = false) ∧
    (∃ (s : State), s.work.g3Deaf = false ∧ s.flag F.HOST_CFG_G2_EN = true ∧ s.work.emuSuits true = true ∧ s.work.emuBarred = false) ∧
    (∃ (s : State), s.work.g3Deaf = false ∧ s.flag F.HOST_CFG_G2_EN = true ∧ s.work.emuSuits true = true) ∧
    (∃ (s : State), s.work.g3Deaf = false ∧ s.flag F.HOST_CFG_G2_EN = true ∧ s.work.emuSuits true = true ∧ s.work.emuBarred = false) ∧
    (∃ (s : State), s.work.g3Deaf = false ∧ s.flag F.HOST_CFG_G2_EN = false) ∧
    (∃ (s : State) (data : List Byte), s.work.g1Open = true ∧ [mdBoot, mdTest, mdRecovery].contains s.work.mode = false ∧ s.work.emuSuits false = true ∧ s.work.displayCheck s.work.emuCh = none ∧ (s.chan s.work.emuCh).mash.queue.length < 256 ∧ (s.chan s.work.emuCh).mash.waiting = [] ∧ data ≠ []) ∧
    (∃ (s : State), s.work.g1Open = true ∧ [mdBoot, mdTest, mdRecovery].contains s.work.mode = false ∧ s.work.emuSuits false = true ∧ s.work.displayCheck s.work.emuCh = none ∧ (s.chan s.work.emuCh).mash.queue.length < 256 ∧ (s.chan s.work.emuCh).mash.waiting = []) ∧
    (∃ (s : State) (k : Nat) (x : Nat) (rest : List (Nat × Nat)), s.work.g1Open = true ∧ s.work.emuSuits false = true ∧ (s.chan s.work.emuCh).cask.compat = (k, x) :: rest) ∧
    (∃ (s : State), s.work.g1Open = true ∧ s.work.emuSuits false = true ∧ (s.chan s.work.emuCh).cask.compat = []) ∧
    (∃ (s : State), s.work.g1Open = true ∧ s.work.emuSuits false = true) ∧
    (∃ (s : State), s.work.g1Open = true ∧ s.work.emuSuits false = true) ∧
    (∃ (s : State), s.work.g1Open = true ∧ [mdBoot, mdTest, mdRecovery].contains s.work.mode = false ∧ s.work.emuSuits false = true ∧ s.work.displayCheck s.work.emuCh = none ∧ (s.chan s.work.emuCh).mash.queue.length < 256 ∧ (s.chan s.work.emuCh).mash.waiting = []) ∧
    (∃ (s : State), s.work.g1Open = true ∧ [mdBoot, mdTest, mdRecovery].contains s.work.mode = false ∧ s.work.emuSuits false = true ∧ s.work.displayCheck s.work.emuCh = none ∧ (s.chan s.work.emuCh).mash.queue.length < 256 ∧ (s.chan s.work.emuCh).mash.waiting = []) ∧
    (∃ (s : State), s.work.g1Open = true) :=
  ⟨⟨Tests.upAfter 2 (fun w => ((w.put F.HOST_CFG_G2_EN 1).put F.HOST_EMU_EMU_CH 3).putChState 3 stRunning |>.modChan 3 (fun c => { c with inReset := false })), by decide +kernel⟩,
   ⟨Tests.upAfter 2 (fun w => ((w.put F.HOST_CFG_G2_EN 1).put F.HOST_EMU_EMU_CH 3).putChState 3 stRunning |>.modChan 3 (fun c => { c with inReset := false })), by decide +kernel⟩,
   ⟨Tests.upAfter 2 (fun w => ((w.put F.HOST_CFG_G2_EN 1).put F.HOST_EMU_EMU_CH 3).putChState 3 stRunning |>.modChan 3 (fun c => { c with inReset := false })), by decide +kernel⟩,
   ⟨Tests.upAfter 2 (fun v => let w : Work := { v with host := { v.host with g2 := [(1, 7)] } }; ((w.put F.HOST_CFG_G2_EN 1).put F.HOST_EMU_EMU_CH 3).putChState 3 stRunning |>.modChan 3 (fun c => { c with inReset := false })), by decide +kernel⟩,
   ⟨Tests.upAfter 2, by decide +kernel⟩,
   ⟨Tests.upAfter 2 (fun w => (((w.put F.HOST_CFG_GEN 1).put F.HOST_EMU_EMU_CH 3).put F.SEQ_STAT_KIND 0 3).putChState 3 stRunning |>.modChan 3 (fun c => { c with inReset := false, seq := { c.seq with act := { c.seq.act with cfg := 1 } }, cask := { c.cask with compat := [] } })), [1, 2], by decide +kernel⟩,
   ⟨Tests.upAfter 2 (fun w => (((w.put F.HOST_CFG_GEN 1).put F.HOST_EMU_EMU_CH 3).put F.SEQ_STAT_KIND 0 3).putChState 3 stRunning |>.modChan 3 (fun c => { c with inReset := false, seq := { c.seq with act := { c.seq.act with cfg := 1 } }, cask := { c.cask with compat := [] } })), by decide +kernel⟩,
   ⟨Tests.upAfter 2 (fun w => (((w.put F.HOST_CFG_GEN 1).put F.HOST_EMU_EMU_CH 3).put F.SEQ_STAT_KIND 0 3).putChState 3 stRunning |>.modChan 3 (fun c => { c with inReset := false, seq := { c.seq with act := { c.seq.act with cfg := 1 } }, cask := { c.cask with compat := [(5, 77), (133, 80)] } })), 5, 77, [(133, 80)], by decide +kernel⟩,
   ⟨Tests.upAfter 2 (fun w => (((w.put F.HOST_CFG_GEN 1).put F.HOST_EMU_EMU_CH 3).put F.SEQ_STAT_KIND 0 3).putChState 3 stRunning |>.modChan 3 (fun c => { c with inReset := false, seq := { c.seq with act := { c.seq.act with cfg := 1 } }, cask := { c.cask with compat := [] } })), by decide +kernel⟩,
   ⟨Tests.upAfter 2 (fun w => (((w.put F.HOST_CFG_GEN 1).put F.HOST_EMU_EMU_CH 3).put F.SEQ_STAT_KIND 0 3).putChState 3 stRunning |>.modChan 3 (fun c => { c with inReset := false, seq := { c.seq with act := { c.seq.act with cfg := 1 } }, cask := { c.cask with compat := [(5, 77), (133, 80)] } })), by decide +kernel⟩,
   ⟨Tests.upAfter 2 (fun w => (((w.put F.HOST_CFG_GEN 1).put F.HOST_EMU_EMU_CH 3).put F.SEQ_STAT_KIND 0 3).putChState 3 stRunning |>.modChan 3 (fun c => { c with inReset := false, seq := { c.seq with act := { c.seq.act with cfg := 1 } }, cask := { c.cask with compat := [(5, 77), (133, 80)] } })), by decide +kernel⟩,
   ⟨Tests.upAfter 2 (fun w => (((w.put F.HOST_CFG_GEN 1).put F.HOST_EMU_EMU_CH 3).put F.SEQ_STAT_KIND 0 3).putChState 3 stRunning |>.modChan 3 (fun c => { c with inReset := false, seq := { c.seq with act := { c.seq.act with cfg := 1 } }, cask := { c.cask with compat := [] } })), by decide +kernel⟩,
   ⟨Tests.upAfter 2 (fun w => (((w.put F.HOST_CFG_GEN 1).put F.HOST_EMU_EMU_CH 3).put F.SEQ_STAT_KIND 0 3).putChState 3 stRunning |>.modChan 3 (fun c => { c with inReset := false, seq := { c.seq with act := { c.seq.act with cfg := 1 } }, cask := { c.cask with compat := [] } })), by decide +kernel⟩,
   ⟨Tests.upAfter 2 (fun w => (((w.put F.HOST_CFG_GEN 1).put F.HOST_EMU_EMU_CH 3).put F.SEQ_STAT_KIND 0 3).putChState 3 stRunning |>.modChan 3 (fun c => { c with inReset := false, seq := { c.seq with act := { c.seq.act with cfg := 1 } }, cask := { c.cask with compat := [] } })), by decide +kernel⟩⟩

/-- The hypotheses of SequencerRegisters, clause by clause, are met. -/
theorem witness_SequencerRegisters :
    (∃ (s : State) (ch : Fin 8) (v : Word), s.accepts (R.SEQ_CTL.addr ch 0) v.toNat = true ∧ bitOf v.toNat 0 = true ∧ s.work.commitStatus ch = none) ∧
    (∃ (s : State) (ch : Fin 8) (v : Word), s.accepts (R.SEQ_CTL.addr ch 0) v.toNat = true ∧ bitOf v.toNat 0 = true ∧ (∃ st, s.work.commitStatus ch = some st ∧ st ≠ stBusy)) ∧
    (∃ (s : State) (ch : Fin 8) (v : Word), s.accepts (R.SEQ_CTL.addr ch 0) v.toNat = true ∧ bitOf v.toNat 0 = false ∧ bitOf v.toNat 1 = true ∧ s.flag F.SEQ_CTL_RUN ch = false ∧ (s.chan ch).kiln.faulted = false ∧ (s.chan ch).running = false) ∧
    (∃ (s : State) (ch : Fin 8) (v : Word), s.accepts (R.SEQ_CTL.addr ch 0) v.toNat = true ∧ bitOf v.toNat 0 = false ∧ bitOf v.toNat 1 = false ∧ s.flag F.SEQ_CTL_RUN ch = true ∧ (s.chan ch).running = true ∧ (s.chan ch).kiln.quiesce = .none) ∧
    (∃ (s : State) (ch : Fin 8) (v : Word), s.accepts (R.SEQ_CTL.addr ch 0) v.toNat = true ∧ bitOf v.toNat 0 = false ∧ bitOf v.toNat 1 = s.flag F.SEQ_CTL_RUN ch ∧ bitOf v.toNat 31 = true) ∧
    (∃ (s : State) (v : Word), s.accepts (R.SYS_TICK_CFG.addr 0 0) v.toNat = true) ∧
    (∃ (s : State) (ch : Fin 8) (v : Word), s.accepts (R.KILN_LEDGER_CTL.addr ch 0) v.toNat = true ∧ bitOf v.toNat 0 = true) :=
  ⟨⟨Tests.upAfter 1 (fun w => ((((w.put F.INTEG_CFG_LED_DARK_EN 0 3).setReg (R.SEQ_CFG.addr 3 0) (1 + 512)).setReg (R.SEQ_SLOT.addr 3 0) (8000 * 16)).setReg (R.SEQ_SLOT.addr 3 1) (5 + 1000 * 16)).modChan 3 (fun c => { c with inReset := false })), 3, 3, by decide +kernel⟩,
   ⟨Tests.upAfter 1 (fun w => (w).modChan 3 (fun c => { c with inReset := false })), 3, 1, by decide +kernel⟩,
   ⟨Tests.upAfter 1 (fun w => (w).modChan 3 (fun c => { c with inReset := false })), 3, 2, by decide +kernel⟩,
   ⟨Tests.upAfter 1 (fun w => (w.put F.SEQ_CTL_RUN 1 3).modChan 3 (fun c => { c with inReset := false, running := true })), 3, 0, by decide +kernel⟩,
   ⟨Tests.upAfter 1 (fun w => (w).modChan 3 (fun c => { c with inReset := false })), 3, 0x80000000, by decide +kernel⟩,
   ⟨Tests.upAfter 1, BitVec.ofNat 32 (setBits (resetWord R.SYS_TICK_CFG.base) 11 0 2000), by decide +kernel⟩,
   ⟨Tests.upAfter 1 (fun w => (w).modChan 3 (fun c => { c with inReset := false })), 3, 1, by decide +kernel⟩⟩

/-- The hypotheses of ClearAndGovernorRegisters, clause by clause, are met. -/
theorem witness_ClearAndGovernorRegisters :
    (∃ (s : State) (ch : Fin 8) (v : Word), s.accepts (R.INTEG_CLR.addr ch 0) v.toNat = true ∧ bitOf v.toNat 0 = true ∧ bitOf v.toNat 1 = false) ∧
    (∃ (s : State) (ch : Fin 8) (v : Word), s.accepts (R.INTEG_CLR.addr ch 0) v.toNat = true ∧ bitOf v.toNat 0 = false ∧ bitOf v.toNat 1 = true) ∧
    (∃ (s : State) (ch : Fin 8) (v : Word), s.accepts (R.LAMP_CLR.addr ch 0) v.toNat = true ∧ bitOf v.toNat 0 = true ∧ bitOf v.toNat 1 = false) ∧
    (∃ (s : State) (ch : Fin 8) (v : Word), s.accepts (R.LAMP_CLR.addr ch 0) v.toNat = true ∧ bitOf v.toNat 0 = false ∧ bitOf v.toNat 1 = true) ∧
    (∃ (s : State) (ch : Fin 8) (v : Word), s.accepts (R.LED_CFG.addr ch 0) v.toNat = true ∧ bitOf v.toNat 19 = false ∧ s.flag F.LED_CFG_GOV_EN ch = true) ∧
    (∃ (s : State) (ch : Fin 8) (v : Word), s.accepts (R.LAMP_CFG.addr ch 0) v.toNat = true ∧ bitOf v.toNat 2 = false ∧ s.flag F.LAMP_CFG_GOV_EN ch = true) ∧
    (∃ (s : State) (ch : Fin 8) (f : Fin 32) (v : Word), s.accepts (R.LAMP_DEM.addr ch f) v.toNat = true) ∧
    (∃ (s : State) (ch : Fin 8) (v : Word), s.accepts (R.LAMP_FORCE.addr ch 0) v.toNat = true ∧ s.written (R.LAMP_FORCE.addr ch 0) v.toNat ≠ s.reg (R.LAMP_FORCE.addr ch 0)) :=
  ⟨⟨Tests.upAfter 1 (fun w => (w).modChan 3 (fun c => { c with inReset := false })), 3, 1, by decide +kernel⟩,
   ⟨Tests.upAfter 1 (fun w => (w).modChan 3 (fun c => { c with inReset := false })), 3, 0x502, by decide +kernel⟩,
   ⟨Tests.upAfter 1 (fun w => (w).modChan 3 (fun c => { c with inReset := false })), 3, 1, by decide +kernel⟩,
   ⟨Tests.upAfter 1 (fun w => (w).modChan 3 (fun c => { c with inReset := false })), 3, 0x502, by decide +kernel⟩,
   ⟨Tests.upAfter 1 (fun w => (w.put F.LED_CFG_GOV_EN 1 3).modChan 3 (fun c => { c with inReset := false })), 3, BitVec.ofNat 32 (setBits (resetWord R.LED_CFG.base) 19 19 0), by decide +kernel⟩,
   ⟨Tests.upAfter 1 (fun w => (w.put F.LAMP_CFG_GOV_EN 1 3).modChan 3 (fun c => { c with inReset := false })), 3, BitVec.ofNat 32 (setBits (resetWord R.LAMP_CFG.base) 2 2 0), by decide +kernel⟩,
   ⟨Tests.upAfter 1 (fun w => (w).modChan 3 (fun c => { c with inReset := false })), 3, 7, 0x1234, by decide +kernel⟩,
   ⟨Tests.upAfter 1 (fun w => (w).modChan 3 (fun c => { c with inReset := false })), 3, 0x7, by decide +kernel⟩⟩

/-- The hypotheses of LedAndIntegrityCommands, clause by clause, are met. -/
theorem witness_LedAndIntegrityCommands :
    (∃ (s : State) (ch : Fin 8) (p : Nat) (cap : Nat), (s.chan ch).led.decide = true ∧ (s.chan ch).led.fastNow = false ∧ s.work.curFlag F.LED_CFG_GOV_EN ch = true ∧ p = meanEst (s.chan ch).led.est ∧ cap = s.work.budget (s.work.cur F.LED_PWR_CFG_SINK_MW ch) ∧ 475 * cap < p) ∧
    (∃ (s : State) (ch : Fin 8) (p : Nat) (cap : Nat), (s.chan ch).led.decide = true ∧ (s.chan ch).led.fastNow = false ∧ s.work.curFlag F.LED_CFG_GOV_EN ch = true ∧ p = meanEst (s.chan ch).led.est ∧ cap = s.work.budget (s.work.cur F.LED_PWR_CFG_SINK_MW ch) ∧ s.flag F.LED_GOV_STATE ch = true ∧ p < 425 * cap) ∧
    (∃ (s : State) (ch : Fin 8) (p : Nat) (cap : Nat), (s.chan ch).led.decide = true ∧ p = meanEst (s.chan ch).led.est ∧ cap = s.work.budget (s.work.cur F.LED_PWR_CFG_SINK_MW ch) ∧ (s.work.curFlag F.LED_CFG_GOV_EN ch = false ∨ (s.chan ch).led.fastNow = true ∨ (425 * cap ≤ p ∧ p ≤ 475 * cap)) ∧ (p ≤ 450 * cap ∨ 450 * cap < (s.chan ch).led.prevAvg)) ∧
    (∃ (s : State) (ch : Fin 8) (p : Nat) (cap : Nat), (s.chan ch).led.decide = true ∧ p = meanEst (s.chan ch).led.est ∧ cap = s.work.budget (s.work.cur F.LED_PWR_CFG_SINK_MW ch) ∧ 450 * cap < p ∧ (s.chan ch).led.prevAvg ≤ 450 * cap) ∧
    (∃ (s : State) (ch : Fin 8) (x : SlotRun), (s.chan ch).seq.cur = some x ∧ x.kind = kDisplay ∧ (s.chan ch).seq.act.isLcd = false) ∧
    (∃ (s : State) (ch : Fin 8) (mv : List Nat) (e : Nat) (v : Nat), (s.chan ch).checks = true ∧ s.work.curFlag F.INTEG_CFG_CHAIN_EN ch = true ∧ (e, v) ∈ s.work.captured ch mv) :=
  ⟨⟨Tests.upAfter 2 (fun w => (w.put F.LED_PWR_CFG_SINK_MW 100 3).modChan 3 (fun c => { c with inReset := false, running := true, led := { c.led with decide := true, est := [120000] }, lamp := { c.lamp with decide := true } })), 3, 120000, 200, by decide +kernel⟩,
   ⟨Tests.upAfter 2 (fun w => (w.put F.LED_PWR_CFG_SINK_MW 100 3 |>.put F.LED_GOV_STATE 1 3 |>.put F.LED_GOV_GAIN 1600 3).modChan 3 (fun c => { c with inReset := false, running := true, led := { c.led with decide := true, est := [12000] } })), 3, 12000, 200, by decide +kernel⟩,
   ⟨Tests.upAfter 2 (fun w => (w.put F.LED_PWR_CFG_SINK_MW 100 3).modChan 3 (fun c => { c with inReset := false, running := true, led := { c.led with decide := true, fastNow := true, est := [12000] }, lamp := { c.lamp with decide := true } })), 3, 12000, 200, by decide +kernel⟩,
   ⟨Tests.upAfter 2 (fun w => (w.put F.LED_PWR_CFG_SINK_MW 100 3).modChan 3 (fun c => { c with inReset := false, running := true, led := { c.led with decide := true, fastNow := true, est := [92000] } })), 3, 92000, 200, by decide +kernel⟩,
   ⟨Tests.upAfter 2 (fun w => (w).modChan 3 (fun c => { c with inReset := false, running := true, seq := { c.seq with cur := some ⟨0, 0, 8000, false⟩, nDisp := 1, act := { c.seq.act with cfg := 1, slots := [128000], roles := [1, 2] } } })), 3, ⟨0, 0, 8000, false⟩, by decide +kernel⟩,
   ⟨Tests.upAfter 2 (fun w => (w.put F.INTEG_CFG_CHAIN_EN 1 3 |>.put F.LED_CLASS_DIM_EN 0 3).modChan 3 (fun c => { c with inReset := false, running := true, seq := { c.seq with cur := some ⟨0, 0, 8000, false⟩, nDisp := 1, act := { c.seq.act with cfg := 1, slots := [128000], roles := [1, 2] } }, blink := { c.blink with lit := [0] } })), 3, [2100], 0, 2100, by decide +kernel⟩⟩

/-- The hypotheses of IntegrityChecks, clause by clause, are met. -/
theorem witness_IntegrityChecks :
    (∃ (s : State) (ch : Fin 8) (mv : List Nat) (d : Nat) (m : Nat) (n : Nat) (v : Nat), (s.chan ch).checks = true ∧ (s.chan ch).digitNow = some d ∧ s.work.curFlag F.INTEG_CFG_LED_LIT_EN ch = true ∧ (s.chan ch).led.ocNow = false ∧ (m, n) ∈ (s.chan ch).seq.act.segs ∧ (s.chan ch).seq.act.segs.Pairwise (fun x y => x.2 ≠ y.2) ∧ mv[n]? = some v ∧ 0 < s.work.pulseOf ch (64 * d + n) ∧ s.work.cur F.INTEG_CFG_LIT_MIN ch ≤ s.work.pulseOf ch (64 * d + n)) ∧
    (∃ (s : State) (ch : Fin 8) (mv : List Nat) (d : Nat) (m : Nat) (k : Nat) (v : Nat), (s.chan ch).checks = true ∧ (s.chan ch).digitNow = some d ∧ s.work.curFlag F.INTEG_CFG_LED_LIT_EN ch = true ∧ (m, k) ∈ (s.chan ch).seq.act.coms ∧ (s.chan ch).preOff d k = true ∧ (s.chan ch).seq.act.coms.Pairwise (fun x y => x.2 ≠ y.2) ∧ mv[k]? = some v) ∧
    (∃ (s : State) (ch : Fin 8) (mv : List Nat) (got : List (Nat × Nat)), (s.chan ch).darkRuns s.dev.tick = true ∧ got = (((s.chan ch).seq.act.raisedSegs s.dev.tick).take (16 * (s.chan ch).seq.act.diagG)).zip mv) ∧
    (∃ (s : State) (ch : Fin 8) (charge : List Nat) (m : Nat) (q : Nat), s.work.chargeRuns ch = true ∧ (m, q) ∈ ((s.chan ch).chargeLines s.dev.tick).zip charge ∧ tabGet (s.chan ch).kiln.lastDev 0 m ≠ 0) ∧
    (∃ (s : State) (ch : Fin 8) (un : List Nat), (s.chan ch).checks = true ∧ s.dev.tick % 16 = 15 ∧ (s.chan ch).cutPassed = true ∧ (s.chan ch).seq.act.isLcd = false ∧ s.work.curFlag F.INTEG_CFG_LED_LIT_EN ch = true ∧ un = (s.chan ch).integ.litAll.filter (fun e => (s.work.litNow ch).1.contains e && !(s.chan ch).integ.verified.contains e && !(s.work.litNow ch).2.contains e)) :=
  ⟨⟨Tests.upAfter 2 (fun w => (w.put F.INTEG_CFG_LED_LIT_EN 1 3 |>.put F.LED_CLASS_DIM_EN 0 3).modChan 3 (fun c => { c with inReset := false, running := true, seq := { c.seq with cur := some ⟨0, 0, 8000, false⟩, nDisp := 1, act := { c.seq.act with cfg := 1, slots := [128000], roles := [1, 2] } }, blink := { c.blink with lit := [0] } })), 3, [200], 0, 1, 0, 200, by decide +kernel⟩,
   ⟨Tests.upAfter 2 (fun w => (w.put F.INTEG_CFG_LED_LIT_EN 1 3).modChan 3 (fun c => { c with inReset := false, running := true, seq := { c.seq with cur := some ⟨0, 0, 8000, false⟩, nDisp := 1, act := { c.seq.act with cfg := 3, slots := [128000], roles := [1, 0x101, 2] } } })), 3, [3000, 999], 0, 1, 1, 999, by decide +kernel⟩,
   ⟨Tests.upAfter 2 (fun w => (w).modChan 3 (fun c => { c with inReset := false, running := true, seq := { c.seq with cur := some ⟨0, 3, 8000, false⟩, nDisp := 1, act := { c.seq.act with cfg := 1, slots := [128000, 0x01000003], darkEn := true, roles := [1, 2] } } })), 3, [1999], ((((Tests.upAfter 2 (fun w => (w).modChan 3 (fun c => { c with inReset := false, running := true, seq := { c.seq with cur := some ⟨0, 3, 8000, false⟩, nDisp := 1, act := { c.seq.act with cfg := 1, slots := [128000, 0x01000003], darkEn := true, roles := [1, 2] } } }))).chan 3).seq.act.raisedSegs 0).take (16 * ((Tests.upAfter 2 (fun w => (w).modChan 3 (fun c => { c with inReset := false, running := true, seq := { c.seq with cur := some ⟨0, 3, 8000, false⟩, nDisp := 1, act := { c.seq.act with cfg := 1, slots := [128000, 0x01000003], darkEn := true, roles := [1, 2] } } }))).chan 3).seq.act.diagG)).zip [1999], by decide +kernel⟩,
   ⟨Tests.upAfter 2 (fun w => (w.put F.KILN_STAT_READY 1 3).modChan 3 (fun c => { c with inReset := false, running := true, kiln := { c.kiln with lastDev := [(1, 76800)] }, seq := { c.seq with cur := some ⟨0, 3, 800, false⟩, act := { c.seq.act with roles := [1, 2], slots := [0x01000003], lcdEn := true } } })), 3, [50, 60], 1, 60, by decide +kernel⟩,
   ⟨Tests.upAfter 2 (fun w => ((w.put F.INTEG_CFG_LED_LIT_EN 1 3 |>.put F.INTEG_CFG_LIT_MIN 40 3 |> fun w : Work => { w with tick := 15 })).modChan 3 (fun c => { c with inReset := false, running := true, seq := { c.seq with cur := some ⟨0, 0, 8000, false⟩, nDisp := 1, guardOrd := some 2, act := { c.seq.act with cfg := 1, slots := [128000], roles := [1, 2] } }, led := { c.led with winOf := [(0, 10)] }, blink := { c.blink with lit := [5] }, integ := { c.integ with litAll := [5] } })), 3, [5], by decide +kernel⟩⟩

/-- The hypotheses of MashCommands, clause by clause, are met. -/
theorem witness_MashCommands :
    (∃ (s : State) (ch : Fin 8) (d : Delivery) (rest : List Delivery), (s.chan ch).mash.drawn = none ∧ (s.chan ch).mash.queue = d :: rest ∧ (s.chan ch).swapPending = false ∧ s.work.mashIsolated ch = false) ∧
    (∃ (s : State) (ch : Fin 8) (d : Delivery) (rest : List Delivery), (s.chan ch).mash.waiting = d :: rest ∧ (s.chan ch).mash.queue.length < 256) ∧
    (∃ (s : State) (ch : Fin 8) (x : Drawn) (f : Flight) (ord : Option Nat), (s.chan ch).mash.drawn = some x ∧ x.deliv.who = some .host ∧ s.dev.host.port.flight = some f ∧ f.late = false ∧ s.dev.fab.wrapQ = [] ∧ (ord = if x.deliv.stamped then x.deliv.ord else some (s.chan ch).seq.started)) ∧
    (∃ (s : State) (ch : Fin 8) (x : Drawn), (s.chan ch).mash.drawn = some x ∧ x.deliv.who = none ∧ s.work.held ch = true ∧ (s.chan ch).swapPending = true ∧ x.disp ≠ []) ∧
    (∃ (s : State) (ch : Fin 8) (f : Fin 128) (d : FieldDef), s.work.fieldDef ch f = some d ∧ d.staleTo ≠ 0 ∧ s.get F.MASH_FSTAT_SHOWN ch f < 3 ∧ d.staleTo ≤ s.get F.MASH_FSTAT_AGE ch f ∧ (s.chan ch).standby = false ∧ (s.chan ch).planRuns = false) ∧
    (∃ (s : State) (ch : Fin 8) (f : Fin 128) (d : FieldDef), s.work.fieldDef ch f = some d ∧ d.staleTo ≠ 0 ∧ s.get F.MASH_FSTAT_SHOWN ch f < 3 ∧ d.staleTo ≤ s.get F.MASH_FSTAT_AGE ch f ∧ (s.chan ch).standby = false) ∧
    (∃ (s : State) (g : Fin 16) (tick : Nat) (addr : Nat), s.work.joined = true ∧ s.dev.dim.length = 16 ∧ s.work.newer tick addr (s.work.heldDim g).tick (s.work.heldDim g).addr = true) ∧
    (∃ (s : State), s.work.joined = false) ∧
    (∃ (s : State) (g : Fin 16) (tick : Nat) (addr : Nat), s.work.newer tick addr (s.work.heldDim g).tick (s.work.heldDim g).addr = false) ∧
    (∃ (s : State), s.get F.RHL_STAT_STATE = 6 ∧ s.dev.tick % 1024 = 0) ∧
    (∃ (s : State) (es : List (Nat × Nat × Nat × Nat)) (g : Nat) (level : Nat) (tick : Nat) (addr : Nat), s.work.joined = true ∧ s.dev.dim.length = 16 ∧ (g, level, tick, addr) ∈ es ∧ g < 16 ∧ es.Pairwise (fun x y => x.1 ≠ y.1) ∧ s.work.newer tick addr (s.work.heldDim g).tick (s.work.heldDim g).addr = true) :=
  ⟨⟨Tests.upAfter 2 (fun w => w.modChan 3 (fun c => { c with inReset := false, mash := { c.mash with queue := [⟨.segs [(0, 1, 1)], .host, none, some 0, none, false⟩] } })), 3, ⟨.segs [(0, 1, 1)], .host, none, some 0, none, false⟩, [], by decide +kernel⟩,
   ⟨Tests.upAfter 2 (fun w => w.modChan 3 (fun c => { c with mash := { c.mash with waiting := [⟨.segs [(0, 1, 1)], .host, none, some 0, none, false⟩] } })), 3, ⟨.segs [(0, 1, 1)], .host, none, some 0, none, false⟩, [], by decide +kernel⟩,
   ⟨Tests.upAfter 2 (fun w => { (w.modChan 3 (fun c => { c with inReset := false, mash := { c.mash with drawn := some ⟨⟨.segs [(0, 1, 1)], .host, some .host, some 0, none, false⟩, [.elem 0 true], [], [], []⟩ } })) with host := { w.host with port := { w.host.port with flight := some ⟨0x11, 4, false⟩ } } }), 3, ⟨⟨.segs [(0, 1, 1)], .host, some .host, some 0, none, false⟩, [.elem 0 true], [], [], []⟩, ⟨0x11, 4, false⟩, some 0, by decide +kernel⟩,
   ⟨Tests.upAfter 2 (fun w => { (w.put F.MASH_CFG_SWAP_MODE 1 3 |>.modChan 3 (fun c => { c with inReset := false, mash := { c.mash with changes := [⟨0, some 0, none, false, .swap⟩], drawn := some ⟨⟨.segs [(0, 1, 1)], .tun 1, none, some 0, none, false⟩, [.elem 0 true], [], [], []⟩ } })) with host := { w.host with port := { w.host.port with flight := some ⟨0x11, 4, false⟩ } } }), 3, ⟨⟨.segs [(0, 1, 1)], .tun 1, none, some 0, none, false⟩, [.elem 0 true], [], [], []⟩, by decide +kernel⟩,
   ⟨Tests.upAfter 2 (fun w => ((((w.modChan 3 (fun c => { c with regions := [(0, 36), (36, 36), (72, 4), (76, 2)] })).poke 0x0106130A 9).poke 0x01061303 0x80).put F.MASH_FSTAT_AGE 9 3 0 |>.put F.MASH_FSTAT_SHOWN 0 3 0)), 3, 0, ⟨0, 0, false, 0, 0, false, 0, false, true, 0, 0, 0, [], 9, 0⟩, by decide +kernel⟩,
   ⟨Tests.upAfter 2 (fun w => ((((w.modChan 3 (fun c => { c with running := true, regions := [(0, 36), (36, 36), (72, 4), (76, 2)] })).poke 0x0106130A 9).poke 0x01061303 0x80).put F.MASH_FSTAT_AGE 9 3 0 |>.put F.MASH_FSTAT_SHOWN 0 3 0)), 3, 0, ⟨0, 0, false, 0, 0, false, 0, false, true, 0, 0, 0, [], 9, 0⟩, by decide +kernel⟩,
   ⟨Tests.upAfter 2 (fun w => w.put F.RHL_STAT_STATE 3), 4, 9, 5, by decide +kernel⟩,
   ⟨Tests.upAfter 2, by decide +kernel⟩,
   ⟨Tests.upAfter 2 (fun w => w.put F.SYS_DIM_VER_APPLY_TICK 9 0 4), 4, 9, 0, by decide +kernel⟩,
   ⟨Tests.upAfter 2 (fun w => w.put F.RHL_STAT_STATE 6 |>.put F.RHL_CFG_PORT_EN 7 |>.put F.RHL_PORT_LINK 1 0 1), by decide +kernel⟩,
   ⟨Tests.upAfter 2 (fun w => w.put F.RHL_STAT_STATE 3), [(3, 1, 2, 3), (4, 777, 9, 5)], 4, 777, 9, 5, by decide +kernel⟩⟩

/-- The hypotheses of KeyAndEncoderCommands, clause by clause, are met. -/
theorem witness_KeyAndEncoderCommands :
    (∃ (s : State) (ch : Fin 8) (x : SlotRun) (heads : List Nat) (feet : List Nat) (d : Nat) (l : Nat), (s.chan ch).seq.cur = some x ∧ x.kind = kKey ∧ s.work.scans ch = true ∧ (s.chan ch).grist.stepRun = false ∧ (s.chan ch).blockHeld 2 = false ∧ (s.chan ch).seq.act.nDrive ≤ 8 ∧ (∀ i ∈ (s.chan ch).seq.act.ladders, i < 8) ∧ d = (s.chan ch).seq.act.stepNo s.dev.tick x.idx % (s.chan ch).seq.act.nDrive ∧ l ∈ (s.chan ch).seq.act.ladders ∧ heads.getD l 4095 < 4096 ∧ feet.getD l 4095 < 4096) ∧
    (∃ (s : State) (ch : Fin 8) (x : SlotRun), (s.chan ch).seq.cur = some x ∧ x.kind = kDiag ∧ s.work.contReady ch = true ∧ 1 ≤ (s.chan ch).seq.act.diagG ∧ (s.chan ch).seq.diagPhase < 3) ∧
    (∃ (s : State) (ch : Fin 8) (key : Fin 512) (h : Held), (s.chan ch).cask.held.find? (fun x => x.key == (key : Nat)) = some h ∧ h.rep = true ∧ h.nextRepeat = s.dev.tick) ∧
    (∃ (s : State) (ch : Fin 8) (j : Fin 2) (a : Bool) (b : Bool) (q : Nat) (sign : Int), s.flag F.ENC_CFG_EN ch j = true ∧ (s.chan ch).blockHeld 3 = false ∧ (s.chan ch).enc.length = 2 ∧ q = (quad a b + 4 - quad (s.work.encOf ch j).a (s.work.encOf ch j).b) % 4 ∧ (sign = if s.flag F.ENC_CFG_DIR ch j then -1 else 1)) :=
  ⟨⟨Tests.upAfter 2 (fun w => (w.put F.GRIST_CFG_EN 1 3).modChan 3 (fun c => { c with inReset := false, seq := { c.seq with cur := some ⟨0, 1, 8000, false⟩, act := { c.seq.act with roles := [0x009, 3, 4] } } })), 3, ⟨0, 1, 8000, false⟩, [2048], [3000], 0, 0, by decide +kernel⟩,
   ⟨Tests.upAfter 2 (fun w => (w.put F.GRIST_STAT_CONT_WAIT 1 3 |>.put F.GRIST_CFG_CONT_EN 1 3).modChan 3 (fun c => { c with inReset := false, running := true, grist := { c.grist with contOld := true, lastBusy := false }, seq := { c.seq with act := { c.seq.act with cfg := 0, slots := [0x1000003], roles := [3] }, cur := some ⟨0, 3, 8000, false⟩ } })), 3, ⟨0, 3, 8000, false⟩, by decide +kernel⟩,
   ⟨Tests.upAfter 2 (fun w => { (w.modChan 3 (fun c => { c with cask := { c.cask with held := [⟨5, 100, 40, 10, true, false, false, 1⟩] } })) with tick := 150 }), 3, 5, ⟨5, 100, 40, 10, true, false, false, 1⟩, by decide +kernel⟩,
   ⟨Tests.upAfter 2 (fun w => (w.put F.ENC_CFG_EN 1 3 1).modChan 3 (fun c => { c with inReset := false })), 3, 1, true, false, 1, 1, by decide +kernel⟩⟩

/-- The hypotheses of LampAndTapCommands, clause by clause, are met. -/
theorem witness_LampAndTapCommands :
    (∃ (s : State) (ch : Fin 8) (p : Nat) (cap : Nat), (s.chan ch).lamp.decide = true ∧ (s.chan ch).lamp.fastNow = false ∧ s.work.curFlag F.LAMP_CFG_GOV_EN ch = true ∧ p = meanEst (s.chan ch).lamp.est ∧ cap = s.work.budget (s.work.cur F.LAMP_GOV_CFG_SW_CAP_MW ch) ∧ 475 * cap < p ∧ s.get F.LAMP_GOV_GAIN ch ≤ 65536 ∧ (s.chan ch).led.decide = true) ∧
    (∃ (s : State) (ch : Fin 8) (p : Nat) (cap : Nat), (s.chan ch).lamp.decide = true ∧ (s.work.curFlag F.LAMP_CFG_GOV_EN ch = false ∨ (s.chan ch).lamp.fastNow = true) ∧ p = meanEst (s.chan ch).lamp.est ∧ cap = s.work.budget (s.work.cur F.LAMP_GOV_CFG_SW_CAP_MW ch) ∧ p ≤ 450 * cap ∧ (s.chan ch).led.decide = true) ∧
    (∃ (s : State) (ch : Fin 8) (k : Fin 12), (s.chan ch).standby = false ∧ s.work.fitted ch k = true ∧ s.work.stringRuns ch = true ∧ s.work.opens ch k = true ∧ (s.work.lampOf ch k).tripped = false ∧ (s.work.lampOf ch k).state = 0 ∧ k < (s.chan ch).lamp.lamps.length ∧ s.work.fnOfLamp ch k = none) ∧
    (∃ (s : State) (ch : Fin 8) (mv : List Nat), (s.chan ch).lampWindow = true ∧ s.work.stringRuns ch = true ∧ s.flag F.LAMP_CFG_EN ch = true ∧ (s.work.fittedLamps ch).any (fun k => s.work.windowOpen ch k || s.work.windowClosed ch k) = true ∧ (∀ k ∈ s.work.fittedLamps ch, mv.getD k 0 - mv.getD (k + 1) 0 < 20)) ∧
    (∃ (s : State) (ch : Fin 8) (k : Fin 12) (mv : List Nat), (s.chan ch).lampWindow = true ∧ s.work.stringRuns ch = true ∧ s.flag F.LAMP_CFG_EN ch = true ∧ s.work.windowOpen ch k = true ∧ s.work.fitted ch k = true ∧ k < (s.chan ch).lamp.lamps.length ∧ 1000 ≤ mv.getD k 0 - mv.getD (k + 1) 0 ∧ mv.getD k 0 ≤ 20000 ∧ (s.work.lampOf ch k).state = 0 ∧ (∀ j ∈ s.work.fittedLamps ch, s.work.windowOpen ch j = true → (s.work.lampOf ch j).state = 0 ∧ 1000 ≤ mv.getD j 0 - mv.getD (j + 1) 0)) ∧
    (∃ (s : State) (ch : Fin 8) (k : Fin 12) (mv : List Nat), (s.chan ch).lampWindow = true ∧ s.work.stringRuns ch = true ∧ s.flag F.LAMP_CFG_EN ch = true ∧ s.work.windowOpen ch k = true ∧ s.work.fitted ch k = true ∧ k < (s.chan ch).lamp.lamps.length ∧ mv.getD k 0 - mv.getD (k + 1) 0 < 1000 ∧ (s.work.lampOf ch k).state = 0 ∧ 1 ≤ (s.work.lampOf ch k).fails ∧ (∃ j ∈ s.work.fittedLamps ch, (s.work.windowOpen ch j = true ∧ 1000 ≤ mv.getD j 0 - mv.getD (j + 1) 0) ∨ (s.work.windowClosed ch j = true ∧ 20 ≤ mv.getD j 0 - mv.getD (j + 1) 0))) ∧
    (∃ (s : State) (ch : Fin 8) (k : Fin 12), s.work.cur F.LAMP_CFG_DIAG_P ch ≠ 0 ∧ s.dev.tick % s.work.cur F.LAMP_CFG_DIAG_P ch = 0 ∧ s.work.curFlag F.LAMP_CFG_EN ch = true ∧ (s.chan ch).planRuns = true ∧ (s.chan ch).blockHeld 5 = false ∧ s.work.fitted ch k = true ∧ k < (s.chan ch).lamp.lamps.length ∧ (∀ j ∈ s.work.fittedLamps ch, ((s.work.lampOf ch j).litSeen && (s.work.lampOf ch j).due) = false)) ∧
    (∃ (s : State) (ch : Fin 8) (k : Fin 12), (s.chan ch).lamp.pumpsOn = true ∧ s.work.curFlag F.LAMP_CFG_EN ch = true ∧ (s.chan ch).blockHeld 5 = false ∧ (s.chan ch).standby = false ∧ k < (s.chan ch).lamp.lamps.length) ∧
    (∃ (s : State) (ch : Fin 8) (l : Fin 2), (s.work.tapOf ch l).ready = true ∧ s.flag F.TAP_RAW_RAW_EN ch l = false ∧ 512 * l + (s.work.tapFrameBits ch l + 7) / 8 ≤ (s.work.region ch 7).2 ∧ (s.chan ch).tap.length = 2) ∧
    (∃ (s : State) (ch : Fin 8) (l : Fin 2) (r : TapRet), (s.work.tapOf ch l).await = true ∧ (s.chan ch).standby = false ∧ tapRetFault r (s.work.tapNodes ch l) = none ∧ r.statuses.length ≤ 16 ∧ (s.chan ch).tap.length = 2) ∧
    (∃ (s : State) (ch : Fin 8) (l : Fin 2) (r : TapRet), (s.work.tapOf ch l).await = true ∧ (s.chan ch).standby = false ∧ tapRetFault r (s.work.tapNodes ch l) ≠ none ∧ (s.chan ch).tap.length = 2) ∧
    (∃ (s : State) (ch : Fin 8) (l : Fin 2) (ss : List Nat), s.work.curFlag F.TAP_CFG_EN ch l = true ∧ s.work.tapUf ch l = true ∧ (s.chan ch).blockHeld 6 = false ∧ ss.all tapCheck = true ∧ ss ≠ [] ∧ ss.length ≤ s.work.tapNodes ch l ∧ ((s.work.tapOf ch l).await = true ∨ s.get F.TAP_STAT_FAILS ch l ≠ 0) ∧ bitOf (ss.headD 0) 11 = true ∧ (s.chan ch).tap.length = 2) :=
  ⟨⟨Tests.upAfter 2 (fun w => (((w.put F.LAMP_CFG_EN 1 3).put F.LAMP_CFG_FITTED 3 3).put F.LAMP_STAT_SEN 1 3|>.put F.LAMP_CFG_GOV_EN 1 3 |>.put F.LAMP_GOV_CFG_SW_CAP_MW 100 3 |>.put F.LAMP_GOV_GAIN 65536 3 |>.put F.LAMP_SRC_ISET 512 3).modChan 3 (fun c => { c with inReset := false, running := true, lamp := { c.lamp with lamps := [{ Lamp.init with pump := true }, { Lamp.init with pump := true }], decide := true, est := [120000] }, led := { c.led with decide := true } })), 3, 120000, 200, by decide +kernel⟩,
   ⟨Tests.upAfter 2 (fun w => (((w.put F.LAMP_CFG_EN 1 3).put F.LAMP_CFG_FITTED 3 3).put F.LAMP_STAT_SEN 1 3|>.put F.LAMP_GOV_CFG_SW_CAP_MW 100 3).modChan 3 (fun c => { c with inReset := false, running := true, lamp := { c.lamp with lamps := [{ Lamp.init with pump := true }, { Lamp.init with pump := true }], fastNow := true, decide := true, est := [12000] }, led := { c.led with decide := true } })), 3, 12000, 200, by decide +kernel⟩,
   ⟨Tests.upAfter 2 (fun w => (((w.put F.LAMP_CFG_EN 1 3).put F.LAMP_CFG_FITTED 3 3).put F.LAMP_STAT_SEN 1 3).modChan 3 (fun c => { c with inReset := false, running := true, lamp := { c.lamp with lamps := [{ Lamp.init with pump := true, out := 900 }, { Lamp.init with pump := true, out := 900 }] } })), 3, 1, by decide +kernel⟩,
   ⟨Tests.upAfter 2 (fun w => (((w.put F.LAMP_CFG_EN 1 3).put F.LAMP_CFG_FITTED 3 3).put F.LAMP_STAT_SEN 1 3).modChan 3 (fun c => { c with inReset := false, running := true, lamp := { c.lamp with lamps := [{ Lamp.init with pump := true }, { Lamp.init with pump := true }] }, seq := { c.seq with cur := some ⟨0, 3, 8000, false⟩, act := { c.seq.act with slots := [0x8000000] } } })), 3, [5, 4, 3], by decide +kernel⟩,
   ⟨Tests.upAfter 2 (fun w => (((w.put F.LAMP_CFG_EN 1 3).put F.LAMP_CFG_FITTED 3 3).put F.LAMP_STAT_SEN 1 3).modChan 3 (fun c => { c with inReset := false, running := true, lamp := { c.lamp with lamps := [{ Lamp.init with pump := true, out := 900, due := true, fails := 1 }, { Lamp.init with pump := true, out := 900, due := true, fails := 1 }] }, seq := { c.seq with cur := some ⟨0, 3, 8000, false⟩, act := { c.seq.act with slots := [0x8000000] } } })), 3, 1, [6000, 4000, 1000], by decide +kernel⟩,
   ⟨Tests.upAfter 2 (fun w => (((w.put F.LAMP_CFG_EN 1 3).put F.LAMP_CFG_FITTED 3 3).put F.LAMP_STAT_SEN 1 3).modChan 3 (fun c => { c with inReset := false, running := true, lamp := { c.lamp with lamps := [{ Lamp.init with pump := true, out := 900, due := true, fails := 1 }, { Lamp.init with pump := true, out := 900, due := true, fails := 1 }] }, seq := { c.seq with cur := some ⟨0, 3, 8000, false⟩, act := { c.seq.act with slots := [0x8000000] } } })), 3, 1, [6000, 4000, 3999], by decide +kernel⟩,
   ⟨Tests.upAfter 2 (fun w => (((w.put F.LAMP_CFG_EN 1 3).put F.LAMP_CFG_FITTED 3 3).put F.LAMP_STAT_SEN 1 3|>.put F.LAMP_CFG_DIAG_P 64 3).modChan 3 (fun c => { c with inReset := false, running := true, lamp := { c.lamp with lamps := [{ Lamp.init with litSeen := true }, { Lamp.init with litSeen := true }] } })), 3, 1, by decide +kernel⟩,
   ⟨Tests.upAfter 2 (fun w => (((w.put F.LAMP_CFG_EN 1 3).put F.LAMP_CFG_FITTED 3 3).put F.LAMP_STAT_SEN 1 3).modChan 3 (fun c => { c with inReset := false, running := true, lamp := { c.lamp with lamps := [Lamp.init, Lamp.init], pumpsOn := true } })), 3, 1, by decide +kernel⟩,
   ⟨Tests.upAfter 2 (fun w => (w.put F.TAP_CFG_EN 1 3 1 |>.put F.TAP_CFG_MODE 0 3 1 |>.put F.TAP_CFG_N_M1 1 3 1).modChan 3 (fun c => { c with inReset := false, running := true, regions := [(0, 36), (36, 36), (72, 4), (76, 2), (0, 0), (0, 0), (78, 2), (80, 18)], tap := [Tap.init, { Tap.init with ready := true }] })), 3, 1, by decide +kernel⟩,
   ⟨Tests.upAfter 2 (fun w => (w.put F.TAP_CFG_EN 1 3 1 |>.put F.TAP_CFG_MODE 0 3 1 |>.put F.TAP_CFG_N_M1 1 3 1 |>.put F.TAP_STAT_FAILS 3 3 1).modChan 3 (fun c => { c with inReset := false, running := true, regions := [(0, 36), (36, 36), (72, 4), (76, 2), (0, 0), (0, 0), (78, 2), (80, 18)], tap := [Tap.init, { Tap.init with await := true }] })), 3, 1, ⟨true, [0xA000, 0xB001], true⟩, by decide +kernel⟩,
   ⟨Tests.upAfter 2 (fun w => (w.put F.TAP_CFG_EN 1 3 1 |>.put F.TAP_CFG_MODE 0 3 1 |>.put F.TAP_CFG_N_M1 1 3 1 |>.put F.TAP_STAT_FAILS 3 3 1).modChan 3 (fun c => { c with inReset := false, running := true, regions := [(0, 36), (36, 36), (72, 4), (76, 2), (0, 0), (0, 0), (78, 2), (80, 18)], tap := [Tap.init, { Tap.init with await := true }] })), 3, 1, ⟨true, [0xA000, 0xC001], true⟩, by decide +kernel⟩,
   ⟨Tests.upAfter 2 (fun w => (w.put F.TAP_CFG_EN 1 3 1 |>.put F.TAP_CFG_MODE 0 3 1 |>.put F.TAP_CFG_N_M1 1 3 1 |>.put F.TAP_STAT_FAILS 3 3 1).modChan 3 (fun c => { c with inReset := false, running := true, regions := [(0, 36), (36, 36), (72, 4), (76, 2), (0, 0), (0, 0), (78, 2), (80, 18)], tap := [Tap.init, Tap.init] })), 3, 1, [0x2800], by decide +kernel⟩⟩

/-- The hypotheses of PinEngineInstructions, clause by clause, are met. -/
theorem witness_PinEngineInstructions :
    (∃ (s : State) (ch : Fin 8) (e : Fin 4) (i : Nat) (x : Engine), s.work.engReady ch e = true ∧ i = s.work.instr ch e ∧ opOf i = 0 ∧ x = s.work.eng ch e) ∧
    (∃ (s : State) (ch : Fin 8) (e : Fin 4) (i : Nat) (x : Engine), s.work.engReady ch e = true ∧ i = s.work.instr ch e ∧ opOf i = 1 ∧ x = s.work.eng ch e) ∧
    (∃ (s : State) (ch : Fin 8) (e : Fin 4) (i : Nat) (x : Engine) (pins : Nat) (prev : Bool), s.work.engRuns ch e = true ∧ i = s.work.instr ch e ∧ x = s.work.eng ch e ∧ x.doing = .await prev ∧ awaitHolds i (s.work.pinLevels ch e pins) prev x = true) ∧
    (∃ (s : State) (ch : Fin 8) (e : Fin 4) (i : Nat) (x : Engine) (pins : Nat) (prev : Bool), s.work.engRuns ch e = true ∧ i = s.work.instr ch e ∧ x = s.work.eng ch e ∧ x.doing = .await prev ∧ awaitHolds i (s.work.pinLevels ch e pins) prev x = false ∧ bitOf i 11 = true ∧ x.ctr = 0) ∧
    (∃ (s : State) (ch : Fin 8) (e : Fin 4) (i : Nat) (x : Engine) (pins : Nat) (prev : Bool), s.work.engRuns ch e = true ∧ i = s.work.instr ch e ∧ x = s.work.eng ch e ∧ x.doing = .await prev ∧ awaitHolds i (s.work.pinLevels ch e pins) prev x = false ∧ (bitOf i 11 = false ∨ x.ctr ≠ 0)) ∧
    (∃ (s : State) (ch : Fin 8) (e : Fin 4) (i : Nat) (x : Engine), s.work.engReady ch e = true ∧ i = s.work.instr ch e ∧ opOf i = 2 ∧ x = s.work.eng ch e) ∧
    (∃ (s : State) (ch : Fin 8) (e : Fin 4) (i : Nat) (x : Engine) (pins : List Nat) (k : Nat) (g : Nat), s.work.engReady ch e = true ∧ i = s.work.instr ch e ∧ opOf i = 3 ∧ x = s.work.eng ch e ∧ s.flag F.PSQ_SHCFG_HAND_EN ch e = false ∧ s.flag F.PSQ_SHCFG_GATHER_ORDER ch e = false ∧ k = (s.work.pinsOf ch e 1).length ∧ shiftSteps i ≤ pins.length ∧ bitOf i 6 = false ∧ g = (pins.take (shiftSteps i)).foldl (fun g p => (g * 2 ^ k + samplePins (s.work.pinLevels ch e p) (s.work.pinsOf ch e 1)) % 2 ^ 32) x.gtr ∧ k ≠ 0) ∧
    (∃ (s : State) (ch : Fin 8) (e : Fin 4) (i : Nat) (x : Engine) (pins : List Nat), s.work.engReady ch e = true ∧ i = s.work.instr ch e ∧ opOf i = 3 ∧ x = s.work.eng ch e ∧ s.flag F.PSQ_SHCFG_HAND_EN ch e = false ∧ shiftSteps i ≤ pins.length) ∧
    (∃ (s : State) (ch : Fin 8) (e : Fin 4) (i : Nat) (x : Engine) (pin : Nat) (y : Engine), s.work.engReady ch e = true ∧ i = s.work.instr ch e ∧ opOf i = 3 ∧ x = s.work.eng ch e ∧ s.flag F.PSQ_SHCFG_HAND_EN ch e = true ∧ shiftSteps i = 1 ∧ y = s.work.gatherStep ch e i (s.work.pinLevels ch e pin) x ∧ s.work.wordBits ch e ≤ y.gheld ∧ x.rx.length < 8) ∧
    (∃ (s : State) (ch : Fin 8) (e : Fin 4) (i : Nat) (x : Engine) (pin : Nat) (y : Engine), s.work.engReady ch e = true ∧ i = s.work.instr ch e ∧ opOf i = 3 ∧ x = s.work.eng ch e ∧ s.flag F.PSQ_SHCFG_HAND_EN ch e = true ∧ y = s.work.gatherStep ch e i (s.work.pinLevels ch e pin) x ∧ s.work.wordBits ch e ≤ y.gheld ∧ 8 ≤ x.rx.length) ∧
    (∃ (s : State) (ch : Fin 8) (e : Fin 4) (i : Nat) (x : Engine) (k : Nat), s.work.engReady ch e = true ∧ i = s.work.instr ch e ∧ opOf i = 4 ∧ x = s.work.eng ch e ∧ s.flag F.PSQ_SHCFG_REFILL_EN ch e = false ∧ k = (s.work.pinsOf ch e 2).length) ∧
    (∃ (s : State) (ch : Fin 8) (e : Fin 4) (i : Nat) (x : Engine), s.work.engReady ch e = true ∧ i = s.work.instr ch e ∧ opOf i = 4 ∧ x = s.work.eng ch e ∧ s.flag F.PSQ_SHCFG_REFILL_EN ch e = true ∧ x.srem = 0 ∧ x.tx = []) ∧
    (∃ (s : State) (ch : Fin 8) (e : Fin 4) (i : Nat) (x : Engine) (v : Nat) (vs : List Nat), s.work.engReady ch e = true ∧ i = s.work.instr ch e ∧ opOf i = 5 ∧ x = s.work.eng ch e ∧ x.tx = v :: vs) ∧
    (∃ (s : State) (ch : Fin 8) (e : Fin 4) (i : Nat) (x : Engine), s.work.engReady ch e = true ∧ i = s.work.instr ch e ∧ opOf i = 5 ∧ x = s.work.eng ch e ∧ x.tx = [] ∧ bitOf i 11 = false) ∧
    (∃ (s : State) (ch : Fin 8) (e : Fin 4) (i : Nat) (x : Engine), s.work.engReady ch e = true ∧ i = s.work.instr ch e ∧ opOf i = 5 ∧ x = s.work.eng ch e ∧ x.tx = [] ∧ bitOf i 11 = true) ∧
    (∃ (s : State) (ch : Fin 8) (e : Fin 4) (i : Nat) (x : Engine), s.work.engReady ch e = true ∧ i = s.work.instr ch e ∧ opOf i = 6 ∧ x = s.work.eng ch e ∧ x.rx.length < 8) ∧
    (∃ (s : State) (ch : Fin 8) (e : Fin 4) (i : Nat) (x : Engine), s.work.engReady ch e = true ∧ i = s.work.instr ch e ∧ opOf i = 6 ∧ x = s.work.eng ch e ∧ 8 ≤ x.rx.length ∧ bitOf i 11 = false) ∧
    (∃ (s : State) (ch : Fin 8) (e : Fin 4) (i : Nat) (x : Engine), s.work.engReady ch e = true ∧ i = s.work.instr ch e ∧ opOf i = 6 ∧ x = s.work.eng ch e ∧ 8 ≤ x.rx.length ∧ bitOf i 11 = true) ∧
    (∃ (s : State) (ch : Fin 8) (e : Fin 4) (i : Nat) (x : Engine) (v : Nat) (vs : List Nat), s.work.engRuns ch e = true ∧ i = s.work.instr ch e ∧ opOf i = 5 ∧ x = s.work.eng ch e ∧ x.doing = .stallWord ∧ x.tx = v :: vs) ∧
    (∃ (s : State) (ch : Fin 8) (e : Fin 4) (x : Engine), s.work.engRuns ch e = true ∧ x = s.work.eng ch e ∧ x.doing = .stallShift 0 true ∧ x.rx.length < 8) :=
  ⟨⟨Tests.upAfter 2 (fun w => ((((w.put F.PSQ_STAT_RUNNING 4 3).put F.PSQ_IMEM_INSTR 0x0 3 128)).modChan 3 (fun c => { c with inReset := false, psq := [Engine.init, Engine.init, Engine.init, Engine.init] }))), 3, 2, 0x0, Engine.init, by decide +kernel⟩,
   ⟨Tests.upAfter 2 (fun w => ((((w.put F.PSQ_STAT_RUNNING 4 3).put F.PSQ_IMEM_INSTR 0x1120 3 128)).modChan 3 (fun c => { c with inReset := false, psq := [Engine.init, Engine.init, Engine.init, Engine.init] }))), 3, 2, 0x1120, Engine.init, by decide +kernel⟩,
   ⟨Tests.upAfter 2 (fun w => ((((w.put F.PSQ_STAT_RUNNING 4 3).put F.PSQ_IMEM_INSTR 0x1D00 3 128)).modChan 3 (fun c => { c with inReset := false, psq := [Engine.init, Engine.init, { Engine.init with doing := .await false, flags := 9, ctr := 2 }, Engine.init] }))), 3, 2, 0x1D00, { Engine.init with doing := .await false, flags := 9, ctr := 2 }, 4, false, by decide +kernel⟩,
   ⟨Tests.upAfter 2 (fun w => ((((w.put F.PSQ_STAT_RUNNING 4 3).put F.PSQ_IMEM_INSTR 0x1C00 3 128)).modChan 3 (fun c => { c with inReset := false, psq := [Engine.init, Engine.init, { Engine.init with doing := .await false, flags := 1 }, Engine.init] }))), 3, 2, 0x1C00, { Engine.init with doing := .await false, flags := 1 }, 4, false, by decide +kernel⟩,
   ⟨Tests.upAfter 2 (fun w => ((((w.put F.PSQ_STAT_RUNNING 4 3).put F.PSQ_IMEM_INSTR 0x1C00 3 128)).modChan 3 (fun c => { c with inReset := false, psq := [Engine.init, Engine.init, { Engine.init with doing := .await false, flags := 9, ctr := 2 }, Engine.init] }))), 3, 2, 0x1C00, { Engine.init with doing := .await false, flags := 9, ctr := 2 }, 4, false, by decide +kernel⟩,
   ⟨Tests.upAfter 2 (fun w => ((((w.put F.PSQ_STAT_RUNNING 4 3).put F.PSQ_IMEM_INSTR 0x2080 3 128)|>.put F.PSQ_PINCLS_CLS1 0x3C 3 2).modChan 3 (fun c => { c with inReset := false, psq := [Engine.init, Engine.init, Engine.init, Engine.init] }))), 3, 2, 0x2080, Engine.init, by decide +kernel⟩,
   ⟨Tests.upAfter 2 (fun w => ((((w.put F.PSQ_STAT_RUNNING 4 3).put F.PSQ_IMEM_INSTR 0x3100 3 128)|>.put F.PSQ_PINCLS_CLS1 1 3 2).modChan 3 (fun c => { c with inReset := false, psq := [Engine.init, Engine.init, { Engine.init with gheld := 4 }, Engine.init] }))), 3, 2, 0x3100, { Engine.init with gheld := 4 }, [2, 0, 2], 1, 0, by decide +kernel⟩,
   ⟨Tests.upAfter 2 (fun w => ((((w.put F.PSQ_STAT_RUNNING 4 3).put F.PSQ_IMEM_INSTR 0x3140 3 128)|>.put F.PSQ_PINCLS_CLS1 1 3 2 |>.put F.PSQ_SHCFG_CLK_POL 1 3 2).modChan 3 (fun c => { c with inReset := false, psq := [Engine.init, Engine.init, Engine.init, Engine.init] }))), 3, 2, 0x3140, Engine.init, [2, 0, 2], by decide +kernel⟩,
   ⟨Tests.upAfter 2 (fun w => ((((w.put F.PSQ_STAT_RUNNING 4 3).put F.PSQ_IMEM_INSTR 0x3080 3 128)|>.put F.PSQ_PINCLS_CLS1 1 3 2 |>.put F.PSQ_SHCFG_HAND_EN 1 3 2).modChan 3 (fun c => { c with inReset := false, psq := [Engine.init, Engine.init, { Engine.init with gheld := 31 }, Engine.init] }))), 3, 2, 0x3080, { Engine.init with gheld := 31 }, 2, { Engine.init with gheld := 32 }, by decide +kernel⟩,
   ⟨Tests.upAfter 2 (fun w => ((((w.put F.PSQ_STAT_RUNNING 4 3).put F.PSQ_IMEM_INSTR 0x3100 3 128)|>.put F.PSQ_PINCLS_CLS1 1 3 2 |>.put F.PSQ_SHCFG_HAND_EN 1 3 2).modChan 3 (fun c => { c with inReset := false, psq := [Engine.init, Engine.init, { Engine.init with gheld := 31, rx := [1, 2, 3, 4, 5, 6, 7, 8] }, Engine.init] }))), 3, 2, 0x3100, { Engine.init with gheld := 31, rx := [1, 2, 3, 4, 5, 6, 7, 8] }, 2, { Engine.init with gheld := 32, rx := [1, 2, 3, 4, 5, 6, 7, 8] }, by decide +kernel⟩,
   ⟨Tests.upAfter 2 (fun w => ((((w.put F.PSQ_STAT_RUNNING 4 3).put F.PSQ_IMEM_INSTR 0x4100 3 128)|>.put F.PSQ_PINCLS_CLS1 2 3 2).modChan 3 (fun c => { c with inReset := false, psq := [Engine.init, Engine.init, { Engine.init with spr := 0xC0000001, srem := 8 }, Engine.init] }))), 3, 2, 0x4100, { Engine.init with spr := 0xC0000001, srem := 8 }, 1, by decide +kernel⟩,
   ⟨Tests.upAfter 2 (fun w => ((((w.put F.PSQ_STAT_RUNNING 4 3).put F.PSQ_IMEM_INSTR 0x4100 3 128)|>.put F.PSQ_SHCFG_REFILL_EN 1 3 2).modChan 3 (fun c => { c with inReset := false, psq := [Engine.init, Engine.init, Engine.init, Engine.init] }))), 3, 2, 0x4100, Engine.init, by decide +kernel⟩,
   ⟨Tests.upAfter 2 (fun w => ((((w.put F.PSQ_STAT_RUNNING 4 3).put F.PSQ_IMEM_INSTR 0x5000 3 128)).modChan 3 (fun c => { c with inReset := false, psq := [Engine.init, Engine.init, { Engine.init with tx := [5, 6], flags := 15 }, Engine.init] }))), 3, 2, 0x5000, { Engine.init with tx := [5, 6], flags := 15 }, 5, [6], by decide +kernel⟩,
   ⟨Tests.upAfter 2 (fun w => ((((w.put F.PSQ_STAT_RUNNING 4 3).put F.PSQ_IMEM_INSTR 0x5000 3 128)).modChan 3 (fun c => { c with inReset := false, psq := [Engine.init, Engine.init, { Engine.init with spr := 5, srem := 6 }, Engine.init] }))), 3, 2, 0x5000, { Engine.init with spr := 5, srem := 6 }, by decide +kernel⟩,
   ⟨Tests.upAfter 2 (fun w => ((((w.put F.PSQ_STAT_RUNNING 4 3).put F.PSQ_IMEM_INSTR 0x5800 3 128)).modChan 3 (fun c => { c with inReset := false, psq := [Engine.init, Engine.init, Engine.init, Engine.init] }))), 3, 2, 0x5800, Engine.init, by decide +kernel⟩,
   ⟨Tests.upAfter 2 (fun w => ((((w.put F.PSQ_STAT_RUNNING 4 3).put F.PSQ_IMEM_INSTR 0x6000 3 128)).modChan 3 (fun c => { c with inReset := false, psq := [Engine.init, Engine.init, { Engine.init with gtr := 5, gheld := 6, rx := [1], flags := 8 }, Engine.init] }))), 3, 2, 0x6000, { Engine.init with gtr := 5, gheld := 6, rx := [1], flags := 8 }, by decide +kernel⟩,
   ⟨Tests.upAfter 2 (fun w => ((((w.put F.PSQ_STAT_RUNNING 4 3).put F.PSQ_IMEM_INSTR 0x6000 3 128)).modChan 3 (fun c => { c with inReset := false, psq := [Engine.init, Engine.init, { Engine.init with gtr := 5, rx := [1, 2, 3, 4, 5, 6, 7, 8] }, Engine.init] }))), 3, 2, 0x6000, { Engine.init with gtr := 5, rx := [1, 2, 3, 4, 5, 6, 7, 8] }, by decide +kernel⟩,
   ⟨Tests.upAfter 2 (fun w => ((((w.put F.PSQ_STAT_RUNNING 4 3).put F.PSQ_IMEM_INSTR 0x6800 3 128)).modChan 3 (fun c => { c with inReset := false, psq := [Engine.init, Engine.init, { Engine.init with gtr := 5, rx := [1, 2, 3, 4, 5, 6, 7, 8] }, Engine.init] }))), 3, 2, 0x6800, { Engine.init with gtr := 5, rx := [1, 2, 3, 4, 5, 6, 7, 8] }, by decide +kernel⟩,
   ⟨Tests.upAfter 2 (fun w => ((((w.put F.PSQ_STAT_RUNNING 4 3).put F.PSQ_IMEM_INSTR 0x5800 3 128)).modChan 3 (fun c => { c with inReset := false, psq := [Engine.init, Engine.init, { Engine.init with tx := [5, 6], flags := 15, doing := .stallWord }, Engine.init] }))), 3, 2, 0x5800, { Engine.init with tx := [5, 6], flags := 15, doing := .stallWord }, 5, [6], by decide +kernel⟩,
   ⟨Tests.upAfter 2 (fun w => ((((w.put F.PSQ_STAT_RUNNING 4 3).put F.PSQ_IMEM_INSTR 0x3080 3 128)).modChan 3 (fun c => { c with inReset := false, psq := [Engine.init, Engine.init, { Engine.init with gtr := 6, doing := .stallShift 0 true }, Engine.init] }))), 3, 2, { Engine.init with gtr := 6, doing := .stallShift 0 true }, by decide +kernel⟩⟩

/-- The hypotheses of PinEngineCounts, clause by clause, are met. -/
theorem witness_PinEngineCounts :
    (∃ (s : State) (ch : Fin 8) (e : Fin 4) (i : Nat) (x : Engine), s.work.engReady ch e = true ∧ i = s.work.instr ch e ∧ opOf i = 7 ∧ x = s.work.eng ch e ∧ bitsOf i 11 10 = 0) ∧
    (∃ (s : State) (ch : Fin 8) (e : Fin 4) (i : Nat) (x : Engine), s.work.engReady ch e = true ∧ i = s.work.instr ch e ∧ opOf i = 7 ∧ x = s.work.eng ch e ∧ bitsOf i 11 10 = 1) ∧
    (∃ (s : State) (ch : Fin 8) (e : Fin 4) (i : Nat) (x : Engine), s.work.engReady ch e = true ∧ i = s.work.instr ch e ∧ opOf i = 7 ∧ x = s.work.eng ch e ∧ bitsOf i 11 10 = 2) ∧
    (∃ (s : State) (ch : Fin 8) (e : Fin 4) (i : Nat) (x : Engine), s.work.engReady ch e = true ∧ i = s.work.instr ch e ∧ opOf i = 8 ∧ x = s.work.eng ch e ∧ bitsOf i 11 10 = 0) ∧
    (∃ (s : State) (ch : Fin 8) (e : Fin 4) (i : Nat) (x : Engine), s.work.engReady ch e = true ∧ i = s.work.instr ch e ∧ opOf i = 8 ∧ x = s.work.eng ch e ∧ bitsOf i 11 10 = 1) ∧
    (∃ (s : State) (ch : Fin 8) (e : Fin 4) (i : Nat) (x : Engine) (a : Nat), s.work.engReady ch e = true ∧ i = s.work.instr ch e ∧ opOf i = 8 ∧ x = s.work.eng ch e ∧ bitsOf i 11 10 = 2 ∧ (s.chan ch).standby = false ∧ (s.chan ch).blockHeld 4 = false ∧ s.work.ringCount ch < s.work.ringDepth ch ∧ s.work.bankFailed (16 + ch) = false ∧ a = s.work.ringBase ch + 16 * (s.work.ring ch).place ∧ 0x01000000 + 0x20000 * ch ≤ a ∧ a + 16 ≤ 0x01000000 + 0x20000 * (ch + 1)) ∧
    (∃ (s : State) (ch : Fin 8) (e : Fin 4) (i : Nat) (x : Engine) (f : Fin 4) (p : Bool), s.work.engReady ch e = true ∧ i = s.work.instr ch e ∧ opOf i = 8 ∧ x = s.work.eng ch e ∧ bitsOf i 11 10 = 3 ∧ (s.chan ch).psq.length = 4 ∧ (s.work.eng ch f).doing = .await p ∧ s.work.engRuns ch f = true) ∧
    (∃ (s : State) (ch : Fin 8) (e : Fin 4) (i : Nat) (x : Engine), s.work.engReady ch e = true ∧ i = s.work.instr ch e ∧ opOf i = 9 ∧ x = s.work.eng ch e) ∧
    (∃ (s : State) (ch : Fin 8) (e : Fin 4) (i : Nat) (x : Engine) (pins : Nat) (v : Nat), s.work.engReady ch e = true ∧ i = s.work.instr ch e ∧ opOf i = 10 ∧ x = s.work.eng ch e ∧ v = moveOpt (bitsOf i 5 3) (s.work.moveSrc ch e i (s.work.pinLevels ch e pins)) ∧ bitsOf i 11 9 ≠ 6) ∧
    (∃ (s : State) (ch : Fin 8) (e : Fin 4) (i : Nat) (x : Engine) (pins : Nat) (v : Nat), s.work.engReady ch e = true ∧ i = s.work.instr ch e ∧ opOf i = 10 ∧ x = s.work.eng ch e ∧ v = moveOpt (bitsOf i 5 3) (s.work.moveSrc ch e i (s.work.pinLevels ch e pins)) ∧ bitsOf i 11 9 = 6) ∧
    (∃ (s : State) (ch : Fin 8) (e : Fin 4), s.flag F.PSQ_SHCFG_TICK_SYNC ch e = true ∧ (s.chan ch).running = true ∧ (s.chan ch).kiln.quiesce = .none ∧ (s.chan ch).seq.guardOrd = none ∧ (s.chan ch).blockHeld 7 = false ∧ (s.get F.PSQ_WIN_WIN_START ch e ≠ 0 ∨ bitOf (s.get F.PSQ_STAT_RUNNING ch) e = false ∨ (s.work.eng ch e).window = true ∨ (s.work.eng ch e).doing ≠ .idle)) ∧
    (∃ (s : State) (ch : Fin 8) (e : Fin 4), s.flag F.PSQ_SHCFG_TICK_SYNC ch e = true ∧ (s.chan ch).running = true ∧ (s.chan ch).kiln.quiesce = .none ∧ (s.chan ch).seq.guardOrd = none ∧ (s.chan ch).blockHeld 7 = false ∧ s.get F.PSQ_WIN_WIN_START ch e = 0 ∧ bitOf (s.get F.PSQ_STAT_RUNNING ch) e = true ∧ (s.work.eng ch e).window = false ∧ (s.work.eng ch e).doing = .idle) ∧
    (∃ (s : State) (ch : Fin 8) (e : Fin 4), (s.work.eng ch e).window = true) :=
  ⟨⟨Tests.upAfter 2 (fun w => ((((w.put F.PSQ_STAT_RUNNING 4 3).put F.PSQ_IMEM_INSTR 0x7058 3 128)).modChan 3 (fun c => { c with inReset := false, psq := [Engine.init, Engine.init, { Engine.init with ctr := 900 }, Engine.init] }))), 3, 2, 0x7058, { Engine.init with ctr := 900 }, by decide +kernel⟩,
   ⟨Tests.upAfter 2 (fun w => ((((w.put F.PSQ_STAT_RUNNING 4 3).put F.PSQ_IMEM_INSTR 0x7450 3 128)).modChan 3 (fun c => { c with inReset := false, psq := [Engine.init, Engine.init, { Engine.init with ctr := 9 }, Engine.init] }))), 3, 2, 0x7450, { Engine.init with ctr := 9 }, by decide +kernel⟩,
   ⟨Tests.upAfter 2 (fun w => ((((w.put F.PSQ_STAT_RUNNING 4 3).put F.PSQ_IMEM_INSTR 0x7800 3 128)).modChan 3 (fun c => { c with inReset := false, psq := [Engine.init, Engine.init, { Engine.init with ctr := 4294967295 }, Engine.init] }))), 3, 2, 0x7800, { Engine.init with ctr := 4294967295 }, by decide +kernel⟩,
   ⟨Tests.upAfter 2 (fun w => ((((w.put F.PSQ_STAT_RUNNING 4 3).put F.PSQ_IMEM_INSTR 0x8010 3 128)).modChan 3 (fun c => { c with inReset := false, psq := [Engine.init, Engine.init, { Engine.init with flags := 1 }, Engine.init] }))), 3, 2, 0x8010, { Engine.init with flags := 1 }, by decide +kernel⟩,
   ⟨Tests.upAfter 2 (fun w => ((((w.put F.PSQ_STAT_RUNNING 4 3).put F.PSQ_IMEM_INSTR 0x8410 3 128)).modChan 3 (fun c => { c with inReset := false, psq := [Engine.init, Engine.init, { Engine.init with flags := 5 }, Engine.init] }))), 3, 2, 0x8410, { Engine.init with flags := 5 }, by decide +kernel⟩,
   ⟨Tests.upAfter 2 (fun w => ((((w.put F.PSQ_STAT_RUNNING 4 3).put F.PSQ_IMEM_INSTR 0x8828 3 128)|>.put F.CASK_STAT_DEPTH 30 3 |>.modChan 3 (fun c => { c with regions := [(0, 36), (36, 36), (72, 8)] })).modChan 3 (fun c => { c with inReset := false, psq := [Engine.init, Engine.init, { Engine.init with flags := 5, ctr := 77 }, Engine.init] }))), 3, 2, 0x8828, { Engine.init with flags := 5, ctr := 77 }, 0x01061200, by decide +kernel⟩,
   ⟨Tests.upAfter 2 (fun w => ((((w.put F.PSQ_STAT_RUNNING 4 3).put F.PSQ_IMEM_INSTR 0x8C18 3 128)|>.put F.PSQ_STAT_RUNNING 6 3).modChan 3 (fun c => { c with inReset := false, psq := [Engine.init, { Engine.init with doing := .await true }, Engine.init, Engine.init] }))), 3, 2, 0x8C18, Engine.init, 1, true, by decide +kernel⟩,
   ⟨Tests.upAfter 2 (fun w => ((((w.put F.PSQ_STAT_RUNNING 4 3).put F.PSQ_IMEM_INSTR 0x9028 3 128)).modChan 3 (fun c => { c with inReset := false, psq := [Engine.init, Engine.init, Engine.init, Engine.init] }))), 3, 2, 0x9028, Engine.init, by decide +kernel⟩,
   ⟨Tests.upAfter 2 (fun w => ((((w.put F.PSQ_STAT_RUNNING 4 3).put F.PSQ_IMEM_INSTR 0xA040 3 128)).modChan 3 (fun c => { c with inReset := false, psq := [Engine.init, Engine.init, { Engine.init with spr := 0x12345678, srem := 5 }, Engine.init] }))), 3, 2, 0xA040, { Engine.init with spr := 0x12345678, srem := 5 }, 0, 0x12345678, by decide +kernel⟩,
   ⟨Tests.upAfter 2 (fun w => ((((w.put F.PSQ_STAT_RUNNING 4 3).put F.PSQ_IMEM_INSTR 0xAC40 3 128)).modChan 3 (fun c => { c with inReset := false, psq := [Engine.init, Engine.init, { Engine.init with spr := 0x12345678, srem := 5 }, Engine.init] }))), 3, 2, 0xAC40, { Engine.init with spr := 0x12345678, srem := 5 }, 0, 0x12345678, by decide +kernel⟩,
   ⟨Tests.upAfter 2 (fun w => (w.put F.PSQ_SHCFG_TICK_SYNC 1 3 2 |>.put F.PSQ_STAT_FROZEN 4 3).modChan 3 (fun c => { c with inReset := false, running := true })), 3, 2, by decide +kernel⟩,
   ⟨Tests.upAfter 2 (fun w => (w.put F.PSQ_SHCFG_TICK_SYNC 1 3 2 |>.put F.PSQ_STAT_RUNNING 4 3 |>.put F.PSQ_WIN_WIN_START 0 3 2).modChan 3 (fun c => { c with inReset := false, running := true })), 3, 2, by decide +kernel⟩,
   ⟨Tests.upAfter 2 (fun w => ((((w.put F.PSQ_STAT_RUNNING 4 3).put F.PSQ_IMEM_INSTR 0x1000 3 128)|>.put F.PSQ_SHCFG_TICK_SYNC 1 3 2).modChan 3 (fun c => { c with inReset := false, psq := [Engine.init, Engine.init, { Engine.init with window := true, doing := .await true, events := 3 }, Engine.init] }))), 3, 2, by decide +kernel⟩⟩

/-- The hypotheses of PinEngineRuns, clause by clause, are met. -/
theorem witness_PinEngineRuns :
    (∃ (s : State) (ch : Fin 8) (e : Fin 4) (v : Word), s.accepts (R.PSQ_CTL.addr ch 0) v.toNat = true ∧ s.work.expertOpen (R.PSQ_CTL.addr ch 0) = true ∧ (s.chan ch).psq.length = 4 ∧ bitOf v.toNat e = true ∧ bitOf v.toNat (4 + e) = false ∧ bitOf v.toNat (8 + e) = false ∧ bitOf (s.get F.PSQ_STAT_RUNNING ch) e = false) ∧
    (∃ (s : State) (ch : Fin 8) (e : Fin 4) (v : Word), s.accepts (R.PSQ_CTL.addr ch 0) v.toNat = true ∧ s.work.expertOpen (R.PSQ_CTL.addr ch 0) = true ∧ (s.chan ch).psq.length = 4 ∧ bitOf v.toNat e = true ∧ bitOf v.toNat (4 + e) = true ∧ bitOf v.toNat (8 + e) = false ∧ bitOf (s.get F.PSQ_STAT_RUNNING ch) e = false) ∧
    (∃ (s : State) (ch : Fin 8) (e : Fin 4) (v : Word), s.accepts (R.PSQ_CTL.addr ch 0) v.toNat = true ∧ s.work.expertOpen (R.PSQ_CTL.addr ch 0) = true ∧ (s.chan ch).psq.length = 4 ∧ bitOf v.toNat e = false ∧ bitOf v.toNat (8 + e) = false) ∧
    (∃ (s : State) (ch : Fin 8) (e : Fin 4) (v : Word), s.accepts (R.PSQ_CTL.addr ch 0) v.toNat = true ∧ s.work.expertOpen (R.PSQ_CTL.addr ch 0) = true ∧ (s.chan ch).psq.length = 4 ∧ bitOf v.toNat e = false ∧ bitOf v.toNat (8 + e) = true ∧ bitOf (s.get F.PSQ_STAT_RUNNING ch) e = false ∧ bitOf (s.get F.PSQ_STAT_LOOP_PEND ch) e = false) :=
  ⟨⟨Tests.upAfter 1 (fun w => (w).modChan 3 (fun c => { c with inReset := false, psq := [Engine.init, Engine.init, Engine.init, Engine.init] })), 3, 2, 4, by decide +kernel⟩,
   ⟨Tests.upAfter 1 (fun w => (w).modChan 3 (fun c => { c with inReset := false, psq := [Engine.init, Engine.init, Engine.init, Engine.init] })), 3, 2, 0x44, by decide +kernel⟩,
   ⟨Tests.upAfter 1 (fun w => (w.put F.PSQ_STAT_RUNNING 4 3 |>.put F.PSQ_STAT_LOOP_PEND 4 3).modChan 3 (fun c => { c with inReset := false, psq := [Engine.init, Engine.init, { Engine.init with doing := .await true, events := 2 }, Engine.init] })), 3, 2, 0, by decide +kernel⟩,
   ⟨Tests.upAfter 1 (fun w => (w.put F.PSQ_LOOP_HEAD_ACT 9 3 2 |>.put F.PSQ_PASSES_PASSES 9 3 2).modChan 3 (fun c => { c with inReset := false, psq := [Engine.init, Engine.init, { Engine.init with doing := .stallShift 3 true, tx := [1], rx := [2, 3], ctr := 4, flags := 5 }, Engine.init] })), 3, 2, 0x400, by decide +kernel⟩⟩

/-- The hypotheses of PinEngineWords, clause by clause, are met. -/
theorem witness_PinEngineWords :
    (∃ (s : State) (ch : Fin 8) (e : Fin 4) (v : Word), s.accepts (R.PSQ_TX.addr ch e) v.toNat = true ∧ (s.work.eng ch e).tx.length < 8) ∧
    (∃ (s : State) (ch : Fin 8) (e : Fin 4) (v : Word), s.accepts (R.PSQ_TX.addr ch e) v.toNat = true ∧ 8 ≤ (s.work.eng ch e).tx.length) ∧
    (∃ (s : State) (ch : Fin 8) (e : Fin 4), s.work.mode ≠ mdBoot ∧ (s.work.eng ch e).rx = [] ∧ s.work.regHeld (R.PSQ_RX.addr ch e) = false) ∧
    (∃ (s : State) (ch : Fin 8) (e : Fin 4), s.work.mode ≠ mdBoot ∧ (s.work.eng ch e).rx ≠ [] ∧ s.work.regHeld (R.PSQ_RX.addr ch e) = false) ∧
    (∃ (s : State) (ch : Fin 8) (e : Fin 4), s.work.mode = mdBoot ∧ s.work.regHeld (R.PSQ_RX.addr ch e) = false) ∧
    (∃ (s : State) (ch : Fin 8) (e : Fin 4) (v : Word) (a : Nat) (as : List Nat), s.accepts (R.PSQ_RXACK.addr ch e) v.toNat = true ∧ (s.work.eng ch e).rx = a :: as) ∧
    (∃ (s : State) (ch : Fin 8) (e : Fin 4) (v : Word), s.accepts (R.PSQ_LOOP.addr ch e) v.toNat = true ∧ bitOf (s.get F.PSQ_STAT_RUNNING ch) e = true) ∧
    (∃ (s : State) (ch : Fin 8) (e : Fin 4) (v : Word), s.accepts (R.PSQ_LOOP.addr ch e) v.toNat = true ∧ bitOf (s.get F.PSQ_STAT_RUNNING ch) e = false) ∧
    (∃ (s : State) (ch : Fin 8) (e : Fin 4) (k : Fin 64) (v : Word), s.accepts (R.PSQ_IMEM.addr ch (64 * e.val + k.val)) v.toNat = true ∧ (s.work.eng ch e).doing = .idle) ∧
    (∃ (s : State) (ch : Fin 8) (e : Fin 4) (k : Fin 64) (v : Word), (bitOf (s.get F.PSQ_STAT_RUNNING ch) e = true ∨ psqLegal (v.toNat % 65536) = false) ∧ s.work.regHeld (R.PSQ_IMEM.addr ch (64 * e.val + k.val)) = false) :=
  ⟨⟨Tests.upAfter 1 (fun w => (w).modChan 3 (fun c => { c with inReset := false, psq := [Engine.init, Engine.init, { Engine.init with tx := [1] }, Engine.init] })), 3, 2, 77, by decide +kernel⟩,
   ⟨Tests.upAfter 1 (fun w => (w).modChan 3 (fun c => { c with inReset := false, psq := [Engine.init, Engine.init, { Engine.init with tx := [1, 2, 3, 4, 5, 6, 7, 8] }, Engine.init] })), 3, 2, 77, by decide +kernel⟩,
   ⟨Tests.upAfter 1 (fun w => (w).modChan 3 (fun c => { c with inReset := false, psq := [Engine.init, Engine.init, Engine.init, Engine.init] })), 3, 2, by decide +kernel⟩,
   ⟨Tests.upAfter 1 (fun w => (w).modChan 3 (fun c => { c with inReset := false, psq := [Engine.init, Engine.init, { Engine.init with rx := [1] }, Engine.init] })), 3, 2, by decide +kernel⟩,
   ⟨Tests.upAfter 0 (fun w => (w).modChan 3 (fun c => { c with inReset := false, psq := [Engine.init, Engine.init, Engine.init, Engine.init] })), 3, 2, by decide +kernel⟩,
   ⟨Tests.upAfter 1 (fun w => (w).modChan 3 (fun c => { c with inReset := false, psq := [Engine.init, Engine.init, { Engine.init with rx := [7, 8], rxSeq := 255 }, Engine.init] })), 3, 2, 255, 7, [8], by decide +kernel⟩,
   ⟨Tests.upAfter 1 (fun w => (w.put F.PSQ_STAT_RUNNING 4 3).modChan 3 (fun c => { c with inReset := false, psq := [Engine.init, Engine.init, Engine.init, Engine.init] })), 3, 2, 0x0503, by decide +kernel⟩,
   ⟨Tests.upAfter 1 (fun w => (w).modChan 3 (fun c => { c with inReset := false, psq := [Engine.init, Engine.init, Engine.init, Engine.init] })), 3, 2, 0x0503, by decide +kernel⟩,
   ⟨Tests.upAfter 1 (fun w => (w).modChan 3 (fun c => { c with inReset := false, psq := [Engine.init, Engine.init, Engine.init, Engine.init] })), 3, 2, 7, 0x7058, by decide +kernel⟩,
   ⟨Tests.upAfter 1 (fun w => (w).modChan 3 (fun c => { c with inReset := false, psq := [Engine.init, Engine.init, Engine.init, Engine.init] })), 3, 2, 7, 0xF000, by decide +kernel⟩⟩

/-- The hypotheses of TunCommands, clause by clause, are met. -/
theorem witness_TunCommands :
    (∃ (s : State) (e : Fin 4) (set : Nat) (arr : TunArrival) (bs : List Byte) (ch : Fin 8), s.work.engineRuns e = true ∧ set < outputSets (s.work.proto e) ∧ (s.work.tunEng e).setAfter (s.work.proto e) set arr = some bs ∧ bs.length ≤ 1024 ∧ (s.work.bindings ch).any (fun b => b.fits 1 e set) = true ∧ s.work.mashIsolated ch = false ∧ (s.chan ch).mash.queue.length < 256 ∧ (s.chan ch).mash.waiting = []) ∧
    (∃ (s : State) (e : Fin 4) (set : Nat) (arr : TunArrival) (bs : List Byte), s.work.engineRuns e = true ∧ set < outputSets (s.work.proto e) ∧ (s.work.tunEng e).setAfter (s.work.proto e) set arr = some bs ∧ 1024 < bs.length ∧ (∀ ch : Fin 8, (s.work.bindings ch).any (fun b => b.fits 1 e set) = false)) ∧
    (∃ (s : State) (e : Fin 4) (set : Nat) (arr : TunArrival), s.work.engineRuns e = true ∧ (s.work.tunEng e).setAfter (s.work.proto e) set arr = none) ∧
    (∃ (s : State) (e : Fin 4) (set : Nat) (off : Nat) (len : Nat) (id : Nat) (data : List Byte) (k : Fin 64), s.work.engineRuns e = true ∧ s.work.proto e = 1 ∧ set = 0 ∧ data.length ≤ 1024 ∧ (∀ ch : Fin 8, (s.work.bindings ch).any (fun b => b.fits 1 e set) = false) ∧ len ≤ 60 ∧ off + len ≤ data.length ∧ s.work.joined = true ∧ s.work.fabRuns = true ∧ s.flag F.RHL_PUB_A_EN 0 k = true ∧ s.flag F.RHL_PUB_A_URGENT 0 k = true ∧ s.get F.RHL_PUB_A_SET_ID 0 k = id ∧ (∀ j : Fin 64, j < k → s.get F.RHL_PUB_A_SET_ID 0 j ≠ id)) ∧
    (∃ (s : State) (e : Fin 4) (set : Nat) (bs : List Byte), s.work.engineRuns e = true ∧ setOf (s.work.tunEng e).inSets set = some bs) ∧
    (∃ (s : State) (e : Fin 4), s.work.carriesRecords e = true ∧ (s.work.tunEng e).port.flight = none ∧ s.work.modeAdmits 0x7F = true ∧ s.work.proto e ≠ 10 ∧ s.work.proto e ≠ 12) ∧
    (∃ (s : State) (e : Fin 4) (op : Nat) (f : Flight), s.work.carriesRecords e = true ∧ (s.work.tunEng e).port.flight = some f ∧ op ≠ opAbort ∧ s.work.proto e ≠ 10 ∧ s.work.proto e ≠ 12) ∧
    (∃ (s : State) (e : Fin 4), s.work.carriesRecords e = true ∧ s.work.proto e ≠ 10 ∧ s.work.proto e ≠ 12 ∧ (s.work.tunEng e).port.flight = none ∧ (s.work.tunEng e).port.answered = true) ∧
    (∃ (s : State) (e : Fin 4) (image : List Byte), s.work.engineRuns e = true ∧ s.work.proto e = 2 ∧ (s.work.tunEng e).port.flight = none ∧ s.work.mode ≠ mdTest ∧ s.dev.img.sess = none ∧ s.work.scopeAdmitted 0 = true ∧ 224 ≤ image.length ∧ image.length ≤ 4096 ∧ image.length % 16 = 0 ∧ (earlyCode (s.get F.SYS_ID_DIE_REV) (some image.length) image).1 ≠ 0) ∧
    (∃ (s : State) (e : Fin 4) (image : List Byte), s.work.engineRuns e = true ∧ s.work.proto e = 2 ∧ (s.work.tunEng e).port.flight = none ∧ image ≠ [] ∧ image.length ≤ 4096 ∧ (s.work.perform (.tun e) 0x40 (leBytes 4 image.length ++ leBytes 8 0)).2 = .done stOk []) ∧
    (∃ (s : State) (e : Fin 4), s.work.engineRuns e = true ∧ s.work.proto e = 2 ∧ (s.work.tunEng e).port.flight = none ∧ s.dev.img.sess ≠ none) ∧
    (∃ (s : State) (e : Fin 4) (read : Bool) (good : Bool), s.work.engineRuns e = true ∧ good = (read && s.work.codeGood e) ∧ s.dev.img.sess = none ∧ s.dev.modeReq = none ∧ s.dev.pwr.cmd = none) ∧
    (∃ (s : State) (e : Fin 4), (s.work.tunEng e).wdog = some true ∧ (s.work.tunEng e).held = false ∧ (s.work.tunEng e).code ≠ [] ∧ s.work.pwrState = 0) ∧
    (∃ (s : State) (e : Fin 4), s.work.engineRuns e = true ∧ s.get F.TUN_STAT_STATE 0 e = 3) ∧
    (∃ (s : State) (e : Fin 4) (set : Fin 16) (b : Byte) (bs : List Byte), s.work.engineRuns e = true ∧ s.work.proto e = 7 ∧ setOf (s.work.tunEng e).outSets set = some (b :: bs)) ∧
    (∃ (s : State), s.work.netServes = true ∧ s.dev.netBoot.flight = none) ∧
    (∃ (s : State) (op : Nat), s.work.netServes = true ∧ s.dev.netBoot.flight = none ∧ bootOps.contains op = false) :=
  ⟨⟨Tests.upAfter 2 (fun w => ((w.put F.TUN_CTL_RUNNING 4 |>.put F.TUN_STAT_PROTO 1 0 2).modTun 2 (fun t => { t with code := [1, 2] }))|>.modChan 3 (fun c => { c with inReset := false, regions := [(0, 36), (36, 36), (72, 4), (76, 2), (78, 2)] }) |>.pokes 0x01061380 [1, 2]), 2, 0, .whole [7, 8], [7, 8], 3, by decide +kernel⟩,
   ⟨Tests.upAfter 2 (fun w => ((w.put F.TUN_CTL_RUNNING 4 |>.put F.TUN_STAT_PROTO 1 0 2).modTun 2 (fun t => { t with code := [1, 2] }))), 2, 0, .whole (List.replicate 1025 7), List.replicate 1025 7, by decide +kernel⟩,
   ⟨Tests.upAfter 2 (fun w => ((w.put F.TUN_CTL_RUNNING 4 |>.put F.TUN_STAT_PROTO 13 0 2).modTun 2 (fun t => { t with code := [1, 2] }))), 2, 0, .whole (List.replicate 245 7), by decide +kernel⟩,
   ⟨Tests.upAfter 2 (fun w => ((w.put F.TUN_CTL_RUNNING 4 |>.put F.TUN_STAT_PROTO 1 0 2).modTun 2 (fun t => { t with code := [1, 2] }))|>.put F.RHL_STAT_STATE 3 |>.put F.RHL_PUB_A_EN 1 0 0 |>.put F.RHL_PUB_A_URGENT 1 0 0 |>.put F.RHL_PUB_A_SET_ID 77 0 0 |>.put F.RHL_PUB_B_DEST 3 0 0 |>.put F.RHL_ROUTE_PORTS 0x80 0 0), 2, 0, 1, 2, 77, [7, 8, 9], 0, by decide +kernel⟩,
   ⟨Tests.upAfter 2 (fun w => ((w.put F.TUN_CTL_RUNNING 4 |>.put F.TUN_STAT_PROTO 1 0 2).modTun 2 (fun t => { t with code := [1, 2], inSets := [(0, [5, 6])] }))), 2, 0, [5, 6], by decide +kernel⟩,
   ⟨Tests.upAfter 2 (fun w => ((w.put F.TUN_CTL_RUNNING 4 |>.put F.TUN_STAT_PROTO 1 0 2).modTun 2 (fun t => { t with code := [1, 2] }))), 2, by decide +kernel⟩,
   ⟨Tests.upAfter 2 (fun w => ((w.put F.TUN_CTL_RUNNING 4 |>.put F.TUN_STAT_PROTO 1 0 2).modTun 2 (fun t => { t with code := [1, 2], port := { t.port with flight := some ⟨0x30, 4, false⟩ } }))), 2, 0x7F, ⟨0x30, 4, false⟩, by decide +kernel⟩,
   ⟨Tests.upAfter 2 (fun w => ((w.put F.TUN_CTL_RUNNING 4 |>.put F.TUN_STAT_PROTO 1 0 2).modTun 2 (fun t => { t with code := [1, 2], port := { t.port with answered := true, fresh := true, resp := ⟨0x7F, 4, 0, [], false, false⟩ } }))), 2, by decide +kernel⟩,
   ⟨Tests.upAfter 1 (fun w => ((w.put F.TUN_CTL_RUNNING 4 |>.put F.TUN_STAT_PROTO 2 0 2).modTun 2 (fun t => { t with code := [1, 2] }))), 2, ([0x4B, 0x5A, 0x52, 0x4C] ++ List.replicate 252 0), by decide +kernel⟩,
   ⟨Tests.upAfter 1 (fun w => ((w.put F.TUN_CTL_RUNNING 4 |>.put F.TUN_STAT_PROTO 2 0 2).modTun 2 (fun t => { t with code := [1, 2] }))), 2, ([0x4B, 0x5A, 0x52, 0x4C] ++ List.replicate 252 0), by decide +kernel⟩,
   ⟨Tests.upAfter 2 (fun w => ((w.put F.TUN_CTL_RUNNING 4 |>.put F.TUN_STAT_PROTO 2 0 2).modTun 2 (fun t => { t with code := [1, 2] }))|> fun w : Work => { w with img := { w.img with sess := some ⟨.host, 256, 1, 3, none, false, false, [], 0, false, [], false, 0, none, none⟩ } }), 2, by decide +kernel⟩,
   ⟨Tests.upAfter 2 (fun w => ((w.put F.TUN_CTL_RUNNING 4 |>.put F.TUN_STAT_PROTO 1 0 2).modTun 2 (fun t => { t with code := [1, 2], outSets := [(0, [1])], inSets := [(0, [2])] }))|>.poke 0x02080000 5 |>.poke 0x02080002 6), 2, false, false, by decide +kernel⟩,
   ⟨Tests.upAfter 2 (fun w => ((w.put F.TUN_CTL_RUNNING 4 |>.put F.TUN_STAT_PROTO 1 0 2|>.put F.TUN_CTL_RUNNING 0).modTun 2 (fun t => { t with code := [1, 2], wdog := some true }))), 2, by decide +kernel⟩,
   ⟨Tests.upAfter 2 (fun w => ((w.put F.TUN_CTL_RUNNING 4 |>.put F.TUN_STAT_PROTO 1 0 2|>.put F.TUN_STAT_STATE 3 0 2).modTun 2 (fun t => { t with code := [1, 2] }))), 2, by decide +kernel⟩,
   ⟨Tests.upAfter 2 (fun w => ((w.put F.TUN_CTL_RUNNING 4 |>.put F.TUN_STAT_PROTO 7 0 2).modTun 2 (fun t => { t with code := [1, 2], outSets := [(1, [1]), (3, [7, 9])] }))), 2, 3, 7, [9], by decide +kernel⟩,
   ⟨Tests.upAfter 0 (fun w => (w.put F.SYS_BOOTSEL_SRC 2).put F.SYS_REL_STEP 12), by decide +kernel⟩,
   ⟨Tests.upAfter 0 (fun w => (w.put F.SYS_BOOTSEL_SRC 2).put F.SYS_REL_STEP 12), 0x10, by decide +kernel⟩⟩

/-- The hypotheses of LinksAndFrames, clause by clause, are met. -/
theorem witness_LinksAndFrames :
    (∃ (s : State) (p : Fin 3), s.work.portOn p = true ∧ s.flag F.RHL_PORT_LINK 0 p = true ∧ s.dev.fab.ring = none) ∧
    (∃ (s : State) (p : Fin 3) (r : RingInfo), s.work.portOn p = true ∧ s.flag F.RHL_PORT_LINK 0 p = true ∧ s.dev.fab.ring = some r ∧ ringHas r p = true ∧ r.fwd < 3 ∧ r.back < 3 ∧ s.dev.fab.broken = []) ∧
    (∃ (s : State) (p : Fin 3), s.work.portOn p = true ∧ s.flag F.RHL_PORT_LINK 0 p = false ∧ s.flag F.RHL_PORT_HOLD 0 p = false ∧ (s.work.fabPort p).seen = false ∧ p < s.dev.fab.ports.length ∧ s.work.fabState ≠ fsRoot ∧ s.work.fabState ≠ fsJoined) ∧
    (∃ (s : State) (p : Fin 3), s.work.portOn p = true ∧ s.flag F.RHL_PORT_LINK 0 p = false ∧ s.flag F.RHL_PORT_HOLD 0 p = false ∧ (s.work.fabPort p).seen = true ∧ p < s.dev.fab.ports.length) ∧
    (∃ (s : State) (p : Fin 3), s.work.portOn p = true ∧ s.flag F.RHL_PORT_HOLD 0 p = true ∧ (s.work.fabPort p).holdLeft = some 0 ∧ s.dev.fab.ring = none ∧ s.work.fabState ≠ fsRoot ∧ s.work.fabState ≠ fsJoined) ∧
    (∃ (s : State) (p : Fin 3) (r : RingInfo), s.work.portOn p = true ∧ s.flag F.RHL_PORT_HOLD 0 p = true ∧ (s.work.fabPort p).holdLeft = some 0 ∧ s.dev.fab.ring = some r ∧ ringHas r p = true ∧ s.work.fabState = fsJoined ∧ ¬(p = 2 ∧ s.flag F.RHL_CFG_PAIR_P2 = true)) ∧
    (∃ (s : State) (p : Fin 3), s.work.portOn p = true ∧ s.flag F.RHL_PORT_LINK 0 p = true ∧ s.dev.tick % 16 = 0 ∧ p < s.dev.fab.ports.length) ∧
    (∃ (s : State) (p : Fin 3), s.work.portOn p = true ∧ s.flag F.RHL_PORT_LINK 0 p = true) ∧
    (∃ (s : State) (p : Fin 3) (t1 : Nat) (t2 : Nat) (t3 : Nat) (t4 : Nat) (d : Nat), s.work.portOn p = true ∧ (s.work.fabPort p).t1 = some t1 ∧ t1 ≤ t4 ∧ t2 ≤ t3 ∧ t3 - t2 ≤ t4 - t1 ∧ t4 - t1 = t3 - t2 + 2 * d ∧ d ≤ s.work.declared p + 100) ∧
    (∃ (s : State) (p : Fin 3) (t1 : Nat) (t2 : Nat) (t3 : Nat) (t4 : Nat) (d : Nat), s.work.portOn p = true ∧ (s.work.fabPort p).t1 = some t1 ∧ t1 ≤ t4 ∧ t2 ≤ t3 ∧ t4 - t1 = t3 - t2 + 2 * d ∧ s.work.declared p + 100 < d ∧ ((s.work.fabPort p).mismatch = false ∨ s.flag F.RHL_ERR_MEDIA_MISMATCH = false)) ∧
    (∃ (s : State) (p : Fin 3) (dest : Nat) (kind : Nat) (flags : Nat) (hops : Nat) (pl : List Byte) (q : Nat), s.work.carries p = true ∧ 0 < hops ∧ flags % 4 ≠ 3 ∧ fabKinds.contains kind = true ∧ neighbourKinds.contains kind = false ∧ (flags % 4 = 0 → pl.length ≤ 64) ∧ dest ≠ 511 ∧ dest ≠ s.work.ownAddr ∧ s.work.joined = true ∧ s.work.routeOf dest = q + 1 ∧ q ∈ s.work.otherPorts p) ∧
    (∃ (s : State) (p : Fin 3) (dest : Nat) (kind : Nat) (flags : Nat) (hops : Nat) (pl : List Byte), s.work.carries p = true ∧ 0 < hops ∧ flags % 4 ≠ 3 ∧ fabKinds.contains kind = true ∧ neighbourKinds.contains kind = false ∧ (flags % 4 = 0 → pl.length ≤ 64) ∧ dest = 511 ∧ s.dev.fab.ring = none) ∧
    (∃ (s : State) (p : Fin 3) (dest : Nat) (kind : Nat) (flags : Nat) (hops : Nat) (pl : List Byte) (crc : Bool), s.work.carries p = true ∧ 0 < hops ∧ flags % 4 ≠ 3 ∧ fabKinds.contains kind = true ∧ neighbourKinds.contains kind = false ∧ (flags % 4 = 0 → pl.length ≤ 64) ∧ dest ≠ 511 ∧ dest = s.work.ownAddr ∧ s.work.pairUp = false ∧ crc = true) ∧
    (∃ (s : State) (p : Fin 3) (flags : Nat) (hops : Nat) (crc : Bool), s.work.carries p = true ∧ (hops = 0 ∨ flags % 4 = 3) ∧ crc = true) ∧
    (∃ (s : State) (p : Fin 3), s.work.carries p = true) ∧
    (∃ (s : State) (port : Fin 2), s.work.netRuns = true ∧ s.work.netOn port = true ∧ s.work.netOn (1 - port) = true ∧ s.work.exclusiveNet = false) ∧
    (∃ (s : State) (port : Fin 2), s.work.netRuns = true ∧ s.work.netOn port = true ∧ s.work.netOn (1 - port) = true ∧ s.work.exclusiveNet = true) ∧
    (∃ (s : State), s.work.netRuns = true) ∧
    (∃ (s : State) (port : Fin 2) (x : PtpArrival), s.work.netRuns = true ∧ s.flag F.NET_PTP_CFG_EN = true ∧ s.work.exclusiveNet = false ∧ s.work.netOn port = true ∧ s.get F.NET_PTP_CFG_PORT = port ∧ s.get F.NET_PTP_CFG_DOMAIN = x.domain ∧ s.work.ptpTakes x.msg = true ∧ x.msg ≠ .peerReq ∧ 1 ≤ x.state ∧ x.state ≤ 3) ∧
    (∃ (s : State) (port : Fin 2) (x : PtpArrival), s.work.netRuns = true ∧ s.flag F.NET_PTP_CFG_EN = true ∧ s.work.exclusiveNet = false ∧ s.work.netOn port = true ∧ s.get F.NET_PTP_CFG_PORT = port ∧ s.get F.NET_PTP_CFG_DOMAIN = x.domain ∧ s.work.ptpTakes x.msg = true ∧ x.msg = .peerReq) ∧
    (∃ (s : State) (port : Fin 2) (x : PtpArrival), (s.get F.NET_PTP_CFG_PORT ≠ port ∨ s.get F.NET_PTP_CFG_DOMAIN ≠ x.domain ∨ s.work.ptpTakes x.msg = false)) :=
  ⟨⟨Tests.upAfter 2 (fun w => ((w.put F.RHL_CFG_PORT_EN 7 |>.put F.RHL_STAT_STATE 3 |>.put F.RHL_STAT_ADDR_ACT 9|>.put F.RHL_PORT_LINK 1 0 1).modFab (fun b => { b with published := false }))), 1, by decide +kernel⟩,
   ⟨Tests.upAfter 2 (fun w => ((w.put F.RHL_CFG_PORT_EN 7 |>.put F.RHL_STAT_STATE 3 |>.put F.RHL_STAT_ADDR_ACT 9|>.put F.RHL_PORT_LINK 1 0 1 |>.put F.RHL_PORT_LINK 1 0 0).modFab (fun b => { b with ring := some ⟨4, 1, 0, 1, [1, 9, 3, 4], [(1, 0), (9, 1), (3, 2), (4, 3)], []⟩ }))), 1, ⟨4, 1, 0, 1, [1, 9, 3, 4], [(1, 0), (9, 1), (3, 2), (4, 3)], []⟩, by decide +kernel⟩,
   ⟨Tests.upAfter 2 (fun w => ((w.put F.RHL_CFG_PORT_EN 7 |>.put F.RHL_STAT_STATE 1 |>.put F.RHL_STAT_ADDR_ACT 9).modFab (fun b => { b with published := false }))), 1, by decide +kernel⟩,
   ⟨Tests.upAfter 2 (fun w => ((w.put F.RHL_CFG_PORT_EN 7 |>.put F.RHL_STAT_STATE 3 |>.put F.RHL_STAT_ADDR_ACT 9).modFab (fun b => { b with ports := b.ports.map (fun x => { x with seen := true }) }))), 1, by decide +kernel⟩,
   ⟨Tests.upAfter 2 (fun w => ((w.put F.RHL_CFG_PORT_EN 7 |>.put F.RHL_STAT_STATE 1 |>.put F.RHL_STAT_ADDR_ACT 9|>.put F.RHL_PORT_HOLD 1 0 1).modFab (fun b => { b with ports := b.ports.map (fun x => { x with holdLeft := some 0 }) }))), 1, by decide +kernel⟩,
   ⟨Tests.upAfter 2 (fun w => ((w.put F.RHL_CFG_PORT_EN 7 |>.put F.RHL_STAT_STATE 3 |>.put F.RHL_STAT_ADDR_ACT 9|>.put F.RHL_PORT_HOLD 1 0 1).modFab (fun b => { b with ports := b.ports.map (fun x => { x with holdLeft := some 0 }), ring := some ⟨4, 1, 0, 1, [1, 9, 3, 4], [(1, 0), (9, 1), (3, 2), (4, 3)], []⟩, broken := [1, 2] }))), 1, ⟨4, 1, 0, 1, [1, 9, 3, 4], [(1, 0), (9, 1), (3, 2), (4, 3)], []⟩, by decide +kernel⟩,
   ⟨Tests.upAfter 2 (fun w => ((w.put F.RHL_CFG_PORT_EN 7 |>.put F.RHL_STAT_STATE 3 |>.put F.RHL_STAT_ADDR_ACT 9|>.put F.RHL_PORT_LINK 1 0 1).modFab (fun b => { b with published := false }))), 1, by decide +kernel⟩,
   ⟨Tests.upAfter 2 (fun w => ((w.put F.RHL_CFG_PORT_EN 7 |>.put F.RHL_STAT_STATE 3 |>.put F.RHL_STAT_ADDR_ACT 9|>.put F.RHL_PORT_LINK 1 0 1).modFab (fun b => { b with published := false }))), 1, by decide +kernel⟩,
   ⟨Tests.upAfter 2 (fun w => ((w.put F.RHL_CFG_PORT_EN 7 |>.put F.RHL_STAT_STATE 3 |>.put F.RHL_STAT_ADDR_ACT 9|>.put F.RHL_PORT_LINK 1 0 1).modFab (fun b => { b with ports := b.ports.map (fun x => { x with t1 := some 100 }) }))), 1, 100, 10, 30, 180, 30, by decide +kernel⟩,
   ⟨Tests.upAfter 2 (fun w => ((w.put F.RHL_CFG_PORT_EN 7 |>.put F.RHL_STAT_STATE 3 |>.put F.RHL_STAT_ADDR_ACT 9|>.put F.RHL_PORT_LINK 1 0 1).modFab (fun b => { b with ports := b.ports.map (fun x => { x with t1 := some 100 }) }))), 1, 100, 10, 30, 620, 250, by decide +kernel⟩,
   ⟨Tests.upAfter 2 (fun w => ((w.put F.RHL_CFG_PORT_EN 7 |>.put F.RHL_STAT_STATE 3 |>.put F.RHL_STAT_ADDR_ACT 9|>.put F.RHL_PORT_LINK 1 0 0 |>.put F.RHL_PORT_LINK 1 0 1 |>.put F.RHL_PORT_LINK 1 0 2|>.setRoute 3 2).modFab (fun b => { b with published := false }))), 0, 3, 0x20, 1, 7, [1, 2], 1, by decide +kernel⟩,
   ⟨Tests.upAfter 2 (fun w => ((w.put F.RHL_CFG_PORT_EN 7 |>.put F.RHL_STAT_STATE 3 |>.put F.RHL_STAT_ADDR_ACT 9|>.put F.RHL_PORT_LINK 1 0 0 |>.put F.RHL_PORT_LINK 1 0 1 |>.put F.RHL_PORT_LINK 1 0 2).modFab (fun b => { b with published := false }))), 0, 511, 0x20, 1, 7, [1, 2], by decide +kernel⟩,
   ⟨Tests.upAfter 2 (fun w => ((w.put F.RHL_CFG_PORT_EN 7 |>.put F.RHL_STAT_STATE 3 |>.put F.RHL_STAT_ADDR_ACT 9|>.put F.RHL_PORT_LINK 1 0 0 |>.put F.RHL_PORT_LINK 1 0 1 |>.put F.RHL_PORT_LINK 1 0 2).modFab (fun b => { b with published := false }))), 0, 9, 0x20, 1, 7, [1, 2], true, by decide +kernel⟩,
   ⟨Tests.upAfter 2 (fun w => ((w.put F.RHL_CFG_PORT_EN 7 |>.put F.RHL_STAT_STATE 3 |>.put F.RHL_STAT_ADDR_ACT 9|>.put F.RHL_PORT_LINK 1 0 0 |>.put F.RHL_PORT_LINK 1 0 1 |>.put F.RHL_PORT_LINK 1 0 2).modFab (fun b => { b with published := false }))), 0, 1, 0, true, by decide +kernel⟩,
   ⟨Tests.upAfter 2 (fun w => ((w.put F.RHL_CFG_PORT_EN 7 |>.put F.RHL_STAT_STATE 3 |>.put F.RHL_STAT_ADDR_ACT 9|>.put F.RHL_PORT_LINK 1 0 0 |>.put F.RHL_PORT_LINK 1 0 1 |>.put F.RHL_PORT_LINK 1 0 2).modFab (fun b => { b with published := false }))), 0, by decide +kernel⟩,
   ⟨Tests.upAfter 2 (fun w => w.put F.NET_PORT_MODE 1 0 0 |>.put F.NET_PORT_MODE 2 0 1 |>.put F.NET_PTP_CFG_EN 1), 0, by decide +kernel⟩,
   ⟨(Tests.after (fun w => (Tests.upAfter 2 (fun w => w.put F.NET_PORT_MODE 1 0 0 |>.put F.NET_PORT_MODE 2 0 1 |>.put F.NET_PTP_CFG_EN 1)).work.put F.TUN_STAT_PROTO 2 0 1 |>.put F.TUN_CTL_RUNNING 2)), 0, by decide +kernel⟩,
   ⟨Tests.upAfter 2 (fun w => w.put F.NET_PORT_MODE 1 0 0 |>.put F.NET_PORT_MODE 2 0 1 |>.put F.NET_PTP_CFG_EN 1), by decide +kernel⟩,
   ⟨Tests.upAfter 2 (fun w => w.put F.NET_PORT_MODE 1 0 0 |>.put F.NET_PORT_MODE 2 0 1 |>.put F.NET_PTP_CFG_EN 1), 0, ⟨0, .common, true, 3, -40000⟩, by decide +kernel⟩,
   ⟨(Tests.after (fun w => (Tests.upAfter 2 (fun w => w.put F.NET_PORT_MODE 1 0 0 |>.put F.NET_PORT_MODE 2 0 1 |>.put F.NET_PTP_CFG_EN 1)).work.put F.NET_PTP_CFG_DELAY 1)), 0, ⟨0, .peerReq, false, 3, 1⟩, by decide +kernel⟩,
   ⟨Tests.upAfter 2 (fun w => w.put F.NET_PORT_MODE 1 0 0 |>.put F.NET_PORT_MODE 2 0 1 |>.put F.NET_PTP_CFG_EN 1), 1, ⟨0, .common, true, 3, 1⟩, by decide +kernel⟩⟩

/-- The hypotheses of JoiningTheFabric, clause by clause, are met. -/
theorem witness_JoiningTheFabric :
    (∃ (s : State) (p : Fin 3), s.work.carries p = true ∧ (s.work.fabState = fsListen ∨ s.work.fabState = fsJoined ∨ s.work.fabState = fsUnjoined)) ∧
    (∃ (s : State) (p : Fin 3) (k : Nat), s.work.carries p = true ∧ s.work.fabState = fsRoot ∧ s.work.isPartner (ownUid + 1 + k) = false) ∧
    (∃ (s : State) (p : Fin 3) (root : Nat), s.work.carries p = true ∧ s.work.fabState = fsRoot ∧ s.work.isPartner root = true) ∧
    (∃ (s : State) (i : ProbeInfo) (k : Nat) (a : Nat), s.work.fabState = fsRoot ∧ s.work.fabRuns = true ∧ i.role = 0 ∧ i.boot = false ∧ s.flag F.RHL_CFG_ADDR_MODE = false ∧ s.work.node? (ownUid + 1 + k) = none ∧ (s.dev.fab.nodes.filter (fun x => !x.twin)).length + 1 < 510 ∧ s.dev.fab.shakes = [] ∧ i.partner = 0 ∧ a = ((s.dev.fab.nodes.filter (fun x => !x.twin)).filter (fun x => !x.boot)).length + 2 ∧ s.work.addrsHeld.contains a = false) ∧
    (∃ (s : State) (key : List Byte), s.work.fabRuns = true ∧ (s.work.fabState = fsListen ∨ s.work.fabState = fsUnjoined) ∧ s.work.key 2 = some key) ∧
    (∃ (s : State), s.work.fabRuns = true ∧ (s.work.fabState = fsListen ∨ s.work.fabState = fsUnjoined) ∧ s.work.key 2 = none) ∧
    (∃ (s : State) (u : Nat) (key : List Byte) (k : Shake) (x : Node), s.work.fabState = fsRoot ∧ s.work.fabRuns = true ∧ s.dev.fab.shakes.find? (fun y => y.peer == u) = some k ∧ s.work.node? u = some x ∧ s.work.key 2 = some key ∧ x.periodUs = s.work.periodUs) ∧
    (∃ (s : State) (u : Nat) (key : List Byte) (k : Shake) (x : Node), s.work.fabState = fsRoot ∧ s.work.fabRuns = true ∧ s.dev.fab.shakes.find? (fun y => y.peer == u) = some k ∧ s.work.node? u = some x ∧ s.work.key 2 = some key ∧ x.periodUs ≠ s.work.periodUs) ∧
    (∃ (s : State) (key : List Byte) (words : List Nat) (ring : Option RingInfo) (k : Shake) (ks : List Shake), s.work.fabRuns = true ∧ s.work.fabState = fsJoining ∧ s.dev.fab.shakes = k :: ks ∧ s.work.key 2 = some key ∧ k.addr < 512 ∧ words.length = 32 ∧ brokenOf ring = []) ∧
    (∃ (s : State), s.work.fabRuns = true ∧ s.work.fabState = fsJoined) ∧
    (∃ (s : State) (x : Shake), s.dev.pair.auth = .idle ∧ s.dev.fab.shakes = [x] ∧ x.left = 0 ∧ s.work.fabState = fsJoining) ∧
    (∃ (s : State) (p : Fin 3) (node : Nat) (pos : Nat) (r : RingInfo) (link : Nat), s.work.fabRuns = true ∧ s.work.fabState ≠ fsRoot ∧ s.dev.fab.ring = some r ∧ ringHas r p = true ∧ ringReports r ⟨node, pos⟩ = true ∧ p = r.fwd ∧ 0 < r.len ∧ link = pos % r.len ∧ s.dev.fab.broken.contains link = false) ∧
    (∃ (s : State) (p : Fin 3) (node : Nat) (pos : Nat) (r : RingInfo), s.work.fabRuns = true ∧ s.work.fabState = fsJoined ∧ s.dev.fab.ring = some r ∧ ringHas r p = true ∧ ringReports r ⟨node, pos⟩ = true ∧ p = r.fwd ∧ 0 < r.len) :=
  ⟨⟨Tests.upAfter 2 (fun w => ((w.put F.RHL_CFG_PORT_EN 7 |>.put F.RHL_STAT_STATE 1 |>.put F.RHL_STAT_ADDR_ACT 9|>.put F.RHL_PORT_LINK 1 0 0 |>.put F.RHL_PORT_LINK 1 0 1 |>.put F.RHL_PORT_LINK 1 0 2).modFab (fun b => { b with published := false }))), 1, by decide +kernel⟩,
   ⟨Tests.upAfter 2 (fun w => ((w.put F.RHL_CFG_PORT_EN 7 |>.put F.RHL_STAT_STATE 6 |>.put F.RHL_STAT_ADDR_ACT 9|>.put F.RHL_PORT_LINK 1 0 0 |>.put F.RHL_PORT_LINK 1 0 1 |>.put F.RHL_PORT_LINK 1 0 2).modFab (fun b => { b with published := false }))), 1, 0, by decide +kernel⟩,
   ⟨Tests.upAfter 2 (fun w => ((w.put F.RHL_CFG_PORT_EN 7 |>.put F.RHL_STAT_STATE 6 |>.put F.RHL_STAT_ADDR_ACT 9|>.put F.RHL_PORT_LINK 1 0 0 |>.put F.RHL_PORT_LINK 1 0 1 |>.put F.RHL_PORT_LINK 1 0 2|>.put F.PAIR_CFG_EN 1 |>.put F.PAIR_CFG_ROLE 1 |>.put F.PAIR_PARTNER_LO_PARTNER_UID 77).modFab (fun b => { b with published := false }))), 1, 77, by decide +kernel⟩,
   ⟨Tests.upAfter 2 (fun w => ((w.put F.RHL_CFG_PORT_EN 7 |>.put F.RHL_STAT_STATE 6 |>.put F.RHL_STAT_ADDR_ACT 9|>.put F.RHL_PORT_LINK 1 0 0 |>.put F.RHL_PORT_LINK 1 0 1 |>.put F.RHL_PORT_LINK 1 0 2).modFab (fun b => { b with published := false }))), ⟨0, 0, 0, 4000, false, 5, 0, 1, 90, 0⟩, 4, 2, by decide +kernel⟩,
   ⟨Tests.upAfter 2 (fun w => ((w.put F.RHL_CFG_PORT_EN 7 |>.put F.RHL_STAT_STATE 1 |>.put F.RHL_STAT_ADDR_ACT 9|>.put F.RHL_PORT_LINK 1 0 0 |>.put F.RHL_PORT_LINK 1 0 1 |>.put F.RHL_PORT_LINK 1 0 2|> fun w : Work => { w with sec := { w.sec with keys := [(2, [7])] } }).modFab (fun b => { b with published := false }))), [7], by decide +kernel⟩,
   ⟨Tests.upAfter 2 (fun w => ((w.put F.RHL_CFG_PORT_EN 7 |>.put F.RHL_STAT_STATE 1 |>.put F.RHL_STAT_ADDR_ACT 9|>.put F.RHL_PORT_LINK 1 0 0 |>.put F.RHL_PORT_LINK 1 0 1 |>.put F.RHL_PORT_LINK 1 0 2).modFab (fun b => { b with published := false }))), by decide +kernel⟩,
   ⟨Tests.upAfter 2 (fun w => ((w.put F.RHL_CFG_PORT_EN 7 |>.put F.RHL_STAT_STATE 6 |>.put F.RHL_STAT_ADDR_ACT 9|>.put F.RHL_PORT_LINK 1 0 0 |>.put F.RHL_PORT_LINK 1 0 1 |>.put F.RHL_PORT_LINK 1 0 2|> fun w : Work => { w with sec := { w.sec with keys := [(2, [7])] } }).modFab (fun b => { b with shakes := [⟨55, [1], [], 2, 9⟩], nodes := [⟨55, 0, 1000, false, 2, 5, 0, 1, 90, 0, 0, false⟩] }))), 55, [7], ⟨55, [1], [], 2, 9⟩, ⟨55, 0, 1000, false, 2, 5, 0, 1, 90, 0, 0, false⟩, by decide +kernel⟩,
   ⟨Tests.upAfter 2 (fun w => ((w.put F.RHL_CFG_PORT_EN 7 |>.put F.RHL_STAT_STATE 6 |>.put F.RHL_STAT_ADDR_ACT 9|>.put F.RHL_PORT_LINK 1 0 0 |>.put F.RHL_PORT_LINK 1 0 1 |>.put F.RHL_PORT_LINK 1 0 2|> fun w : Work => { w with sec := { w.sec with keys := [(2, [7])] } }).modFab (fun b => { b with shakes := [⟨55, [1], [], 2, 9⟩], nodes := [⟨55, 0, 999, false, 2, 5, 0, 1, 90, 0, 0, false⟩] }))), 55, [7], ⟨55, [1], [], 2, 9⟩, ⟨55, 0, 999, false, 2, 5, 0, 1, 90, 0, 0, false⟩, by decide +kernel⟩,
   ⟨Tests.upAfter 2 (fun w => ((w.put F.RHL_CFG_PORT_EN 7 |>.put F.RHL_STAT_STATE 2 |>.put F.RHL_STAT_ADDR_ACT 9|>.put F.RHL_PORT_LINK 1 0 0 |>.put F.RHL_PORT_LINK 1 0 1 |>.put F.RHL_PORT_LINK 1 0 2|> fun w : Work => { w with sec := { w.sec with keys := [(2, [7])] } }).modFab (fun b => { b with shakes := [⟨55, [1], [2], 9, 9⟩] }))), [7], List.replicate 32 0x55, none, ⟨55, [1], [2], 9, 9⟩, [], by decide +kernel⟩,
   ⟨Tests.upAfter 2 (fun w => ((w.put F.RHL_CFG_PORT_EN 7 |>.put F.RHL_STAT_STATE 3 |>.put F.RHL_STAT_ADDR_ACT 9).modFab (fun b => { b with published := false }))), by decide +kernel⟩,
   ⟨Tests.upAfter 2 (fun w => ((w.put F.RHL_CFG_PORT_EN 7 |>.put F.RHL_STAT_STATE 2 |>.put F.RHL_STAT_ADDR_ACT 9).modFab (fun b => { b with shakes := [⟨55, [1], [2], 9, 0⟩] }))), ⟨55, [1], [2], 9, 0⟩, by decide +kernel⟩,
   ⟨Tests.upAfter 2 (fun w => ((w.put F.RHL_CFG_PORT_EN 7 |>.put F.RHL_STAT_STATE 3 |>.put F.RHL_STAT_ADDR_ACT 9|>.put F.RHL_PORT_LINK 1 0 0 |>.put F.RHL_PORT_LINK 1 0 1 |>.put F.RHL_PORT_LINK 1 0 2).modFab (fun b => { b with ring := some ⟨4, 1, 0, 1, [1, 9, 3, 4], [(1, 0), (9, 1), (3, 2), (4, 3)], []⟩ }))), 0, 3, 2, ⟨4, 1, 0, 1, [1, 9, 3, 4], [(1, 0), (9, 1), (3, 2), (4, 3)], []⟩, 2, by decide +kernel⟩,
   ⟨Tests.upAfter 2 (fun w => ((w.put F.RHL_CFG_PORT_EN 7 |>.put F.RHL_STAT_STATE 3 |>.put F.RHL_STAT_ADDR_ACT 9|>.put F.RHL_PORT_LINK 1 0 0 |>.put F.RHL_PORT_LINK 1 0 1 |>.put F.RHL_PORT_LINK 1 0 2).modFab (fun b => { b with ring := some ⟨4, 1, 0, 1, [1, 9, 3, 4], [(1, 0), (9, 1), (3, 2), (4, 3)], []⟩, broken := [2] }))), 0, 3, 2, ⟨4, 1, 0, 1, [1, 9, 3, 4], [(1, 0), (9, 1), (3, 2), (4, 3)], []⟩, by decide +kernel⟩⟩

/-- The hypotheses of FabricTimeAndData, clause by clause, are met. -/
theorem witness_FabricTimeAndData :
    (∃ (s : State) (err : Int), s.work.fabRuns = true ∧ s.work.fabState = fsJoined ∧ s.get F.SYS_TICK_CFG_LOCK_SRC = 1 ∧ s.work.lockState = lkLocked ∧ s.dev.lock.everLocked = true ∧ err.natAbs ≤ 2000) ∧
    (∃ (s : State) (per : Nat) (err : Int), s.work.fabRuns = true ∧ s.work.fabState = fsJoined ∧ s.get F.SYS_TICK_CFG_LOCK_SRC = 1 ∧ s.work.lockState = lkAcquire ∧ s.dev.lock.everLocked = false ∧ s.dev.lock.inRow = 15 ∧ err.natAbs ≤ 100 ∧ s.work.ratioOk (1000 * per) = true) ∧
    (∃ (s : State) (err : Int), s.work.fabRuns = true ∧ s.work.fabState = fsJoined ∧ s.get F.SYS_TICK_CFG_LOCK_SRC = 1 ∧ s.work.lockState = lkLocked ∧ s.dev.lock.everLocked = false ∧ err.natAbs ≤ 2000) ∧
    (∃ (s : State) (per : Nat) (k : Shake), s.work.fabRuns = true ∧ s.work.fabState = fsJoining ∧ s.get F.SYS_TICK_CFG_LOCK_SRC = 1 ∧ s.work.pairTime = false ∧ s.dev.fab.shakes = [k] ∧ per ≠ s.work.periodUs) ∧
    (∃ (s : State) (k : Fin 64) (id : Nat) (seq : Nat) (d : List Byte), s.work.joined = true ∧ s.work.fabRuns = true ∧ s.dev.fab.published = false ∧ s.flag F.RHL_PUB_A_EN 0 k = true ∧ s.dev.tick % Nat.max 1 (s.get F.RHL_PUB_B_PUB_TICKS 0 k) = 0 ∧ (∀ j : Fin 64, j ≠ k → s.flag F.RHL_PUB_A_EN 0 j = false) ∧ id = s.get F.RHL_PUB_A_SET_ID 0 k ∧ seq = (tabGet s.dev.fab.pubSeq 0 k + 1) % 65536 ∧ d = s.work.pubData k ∧ (∀ ch : Fin 8, (s.work.bindings ch).any (fun b => b.fits 2 0 id) = false)) ∧
    (∃ (s : State) (src : Nat) (id : Nat) (seq : Nat) (ch : Fin 8) (old : Option (Nat × Nat)), s.work.joined = true ∧ s.work.fabRuns = true ∧ (∀ j : Fin 64, s.flag F.RHL_PUB_A_EN 0 j = false) ∧ old = tabFind s.dev.fab.seqs id ∧ (∀ x ∈ old, x.2 = src ∧ newer16 seq x.1 = true) ∧ (s.work.bindings ch).any (fun b => b.fits 2 0 id) = true ∧ s.work.mashIsolated ch = false ∧ (s.chan ch).mash.queue.length < 256 ∧ (s.chan ch).mash.waiting = []) ∧
    (∃ (s : State) (src : Nat) (id : Nat) (seq : Nat) (last : Nat), s.work.joined = true ∧ s.work.fabRuns = true ∧ (∀ j : Fin 64, s.flag F.RHL_PUB_A_EN 0 j = false) ∧ tabFind s.dev.fab.seqs id = some (last, src) ∧ newer16 seq last = false) ∧
    (∃ (s : State) (src : Nat) (id : Nat) (last : Nat) (pub : Nat), s.work.joined = true ∧ s.work.fabRuns = true ∧ tabFind s.dev.fab.seqs id = some (last, pub) ∧ pub ≠ src) ∧
    (∃ (s : State) (src : Nat), s.work.wrapServes src = true ∧ s.dev.fab.wrapRun = none ∧ s.work.pwrState = 0 ∧ s.dev.fab.wrapQ = [] ∧ s.work.modeAdmits 0x7F = true) ∧
    (∃ (s : State) (src : Nat), s.work.wrapServes src = true ∧ s.dev.fab.wrapRun = none ∧ s.work.pwrState = 0 ∧ s.work.joined = true ∧ s.dev.fab.wrapQ = [] ∧ s.work.modeAdmits 0x7F = true) ∧
    (∃ (s : State) (src : Nat) (r : WrapReq), s.work.wrapServes src = true ∧ s.dev.fab.wrapRun = some r ∧ s.dev.fab.wrapQ.length < 8) ∧
    (∃ (s : State) (src : Nat), s.work.wrapServes src = true ∧ 8 ≤ s.dev.fab.wrapQ.length) ∧
    (∃ (s : State) (tag : Nat) (x : WrapWait) (f : Flight), s.dev.host.wraps.find? (fun y => y.tag == tag) = some x ∧ x.who = .host ∧ s.dev.host.port.flight = some f ∧ f.late = false) :=
  ⟨⟨Tests.upAfter 2 (fun w => ((w.put F.RHL_CFG_PORT_EN 7 |>.put F.RHL_STAT_STATE 3 |>.put F.RHL_STAT_ADDR_ACT 9|>.put F.SYS_TICK_CFG_LOCK_SRC 1 |>.put F.SYS_TICK_STAT_LOCK_STATE 2 |> fun w : Work => { w with lock := { w.lock with everLocked := true } }).modFab (fun b => { b with published := false }))), -1500, by decide +kernel⟩,
   ⟨Tests.upAfter 2 (fun w => ((w.put F.RHL_CFG_PORT_EN 7 |>.put F.RHL_STAT_STATE 3 |>.put F.RHL_STAT_ADDR_ACT 9|>.put F.SYS_TICK_CFG_LOCK_SRC 1 |>.put F.SYS_TICK_STAT_LOCK_STATE 1 |> fun w : Work => { w with lock := { w.lock with inRow := 15 } }).modFab (fun b => { b with published := false }))), 1000, -50, by decide +kernel⟩,
   ⟨Tests.upAfter 2 (fun w => ((w.put F.RHL_CFG_PORT_EN 7 |>.put F.RHL_STAT_STATE 3 |>.put F.RHL_STAT_ADDR_ACT 9|>.put F.SYS_TICK_CFG_LOCK_SRC 1 |>.put F.SYS_TICK_STAT_LOCK_STATE 2).modFab (fun b => { b with published := false }))), -1500, by decide +kernel⟩,
   ⟨Tests.upAfter 2 (fun w => ((w.put F.RHL_CFG_PORT_EN 7 |>.put F.RHL_STAT_STATE 2 |>.put F.RHL_STAT_ADDR_ACT 9|>.put F.SYS_TICK_CFG_LOCK_SRC 1).modFab (fun b => { b with shakes := [⟨55, [1], [2], 9, 9⟩] }))), 999, ⟨55, [1], [2], 9, 9⟩, by decide +kernel⟩,
   ⟨Tests.upAfter 2 (fun w => ((w.put F.RHL_CFG_PORT_EN 7 |>.put F.RHL_STAT_STATE 3 |>.put F.RHL_STAT_ADDR_ACT 9|>.put F.RHL_PUB_A_EN 1 0 5 |>.put F.RHL_PUB_A_SET_ID 77 0 5 |>.put F.RHL_PUB_A_LEN 2 0 5 |>.put F.RHL_PUB_B_DEST 511 0 5|>.put F.RHL_PORT_LINK 1 0 0 |>.put F.RHL_PORT_LINK 1 0 1 |>.put F.RHL_PORT_LINK 1 0 2).modFab (fun b => { b with pubData := [(5, [1, 2, 3])] }))), 5, 77, 1, [1, 2], by decide +kernel⟩,
   ⟨Tests.upAfter 2 (fun w => ((w.put F.RHL_CFG_PORT_EN 7 |>.put F.RHL_STAT_STATE 3 |>.put F.RHL_STAT_ADDR_ACT 9|>.modChan 3 (fun c => { c with inReset := false, regions := [(0, 36), (36, 36), (72, 4), (76, 2), (78, 2)] }) |>.pokes 0x01061380 [2, 0, 77, 0]).modFab (fun b => { b with seqs := [(77, (65535, 5))] }))), 5, 77, 3, 3, some (65535, 5), by decide +kernel⟩,
   ⟨Tests.upAfter 2 (fun w => ((w.put F.RHL_CFG_PORT_EN 7 |>.put F.RHL_STAT_STATE 3 |>.put F.RHL_STAT_ADDR_ACT 9).modFab (fun b => { b with seqs := [(77, (7, 5))] }))), 5, 77, 7, 7, by decide +kernel⟩,
   ⟨Tests.upAfter 2 (fun w => ((w.put F.RHL_CFG_PORT_EN 7 |>.put F.RHL_STAT_STATE 3 |>.put F.RHL_STAT_ADDR_ACT 9).modFab (fun b => { b with seqs := [(77, (7, 5))] }))), 6, 77, 7, 5, by decide +kernel⟩,
   ⟨Tests.upAfter 2 (fun w => ((w.put F.RHL_CFG_PORT_EN 7 |>.put F.RHL_STAT_STATE 3 |>.put F.RHL_STAT_ADDR_ACT 9|>.put F.RHL_PORT_LINK 1 0 0 |>.put F.RHL_PORT_LINK 1 0 1 |>.put F.RHL_PORT_LINK 1 0 2|>.setRoute 5 2).modFab (fun b => { b with published := false }))), 5, by decide +kernel⟩,
   ⟨Tests.upAfter 2 (fun w => ((w.put F.RHL_CFG_PORT_EN 7 |>.put F.RHL_STAT_STATE 3 |>.put F.RHL_STAT_ADDR_ACT 9|>.put F.RHL_PORT_LINK 1 0 0 |>.put F.RHL_PORT_LINK 1 0 1 |>.put F.RHL_PORT_LINK 1 0 2).modFab (fun b => { b with published := false }))), 5, by decide +kernel⟩,
   ⟨Tests.upAfter 2 (fun w => ((w.put F.RHL_CFG_PORT_EN 7 |>.put F.RHL_STAT_STATE 3 |>.put F.RHL_STAT_ADDR_ACT 9|>.put F.RHL_PORT_LINK 1 0 0 |>.put F.RHL_PORT_LINK 1 0 1 |>.put F.RHL_PORT_LINK 1 0 2).modFab (fun b => { b with wrapRun := some ⟨4, 1, false, 0x42, 5, []⟩ }))), 5, ⟨4, 1, false, 0x42, 5, []⟩, by decide +kernel⟩,
   ⟨Tests.upAfter 2 (fun w => ((w.put F.RHL_CFG_PORT_EN 7 |>.put F.RHL_STAT_STATE 3 |>.put F.RHL_STAT_ADDR_ACT 9|>.put F.RHL_PORT_LINK 1 0 0 |>.put F.RHL_PORT_LINK 1 0 1 |>.put F.RHL_PORT_LINK 1 0 2|>.setRoute 5 2).modFab (fun b => { b with wrapQ := List.replicate 8 ⟨4, 1, false, 0x42, 5, []⟩ }))), 5, by decide +kernel⟩,
   ⟨Tests.upAfter 2 (fun w => { w with host := { w.host with port := { w.host.port with flight := some ⟨0x60, 4, false⟩ }, wraps := [⟨.host, 700, 8⟩] } }), 700, ⟨.host, 700, 8⟩, ⟨0x60, 4, false⟩, by decide +kernel⟩⟩

/-- The hypotheses of PairIdentityAndHeartbeats, clause by clause, are met. -/
theorem witness_PairIdentityAndHeartbeats :
    (∃ (s : State), s.work.pairOn = true ∧ s.work.lead = false) ∧
    (∃ (s : State), s.work.pairOn = true ∧ s.dev.pair.auth = .passed ∧ (s.dev.tick % 1024 = 0 ∨ s.work.pairUp = false)) ∧
    (∃ (s : State) (uid : Nat) (role : Nat) (mask : Nat) (serial : Nat), s.work.pairOn = true ∧ s.dev.pair.auth = .passed ∧ role ≠ 0 ∧ uid = s.work.partnerUid ∧ s.flag F.PAIR_STAT_LINK = false ∧ mask = s.work.pairMask ∧ serial = s.get F.SYS_IMG_SERIAL_SERIAL) ∧
    (∃ (s : State) (uid : Nat) (role : Nat) (mask : Nat) (serial : Nat), s.work.pairOn = true ∧ s.dev.pair.auth = .passed ∧ role ≠ 0 ∧ uid = s.work.partnerUid ∧ s.flag F.PAIR_STAT_LINK = true ∧ (mask ≠ s.work.pairMask ∨ serial ≠ s.get F.SYS_IMG_SERIAL_SERIAL)) ∧
    (∃ (s : State) (ch : Fin 8), s.work.pairUp = true ∧ s.work.paired ch = true) ∧
    (∃ (s : State), s.work.pairOn = true) ∧
    (∃ (s : State) (tick : Nat) (echo : Nat), s.work.pairUp = true ∧ s.dev.pair.hbJudged = false ∧ tick % 65536 = s.dev.tick % 65536 ∧ s.work.lead = false ∧ echo % 65536 = (s.dev.tick + 65535) % 65536) ∧
    (∃ (s : State) (tick : Nat) (echo : Nat), s.work.pairUp = true ∧ s.dev.pair.hbJudged = false ∧ tick % 65536 = s.dev.tick % 65536 ∧ s.work.lead = false ∧ echo % 65536 ≠ (s.dev.tick + 65535) % 65536) ∧
    (∃ (s : State) (tick : Nat), s.work.pairUp = true ∧ s.dev.pair.hbJudged = false ∧ tick % 65536 = s.dev.tick % 65536 ∧ s.work.lead = true) ∧
    (∃ (s : State), s.work.pairUp = true ∧ s.dev.pair.hbJudged = false ∧ s.dev.pair.missed = 0) ∧
    (∃ (s : State), s.work.pairUp = true ∧ s.dev.pair.hbJudged = false ∧ 1 ≤ s.dev.pair.missed) :=
  ⟨⟨Tests.upAfter 2 (fun w => ((w.put F.PAIR_CFG_EN 1 |>.put F.PAIR_CFG_ROLE 1 |>.put F.PAIR_CFG_PAIR_MASK 0x0C |>.put F.PAIR_STAT_LINK 1 |>.put F.PAIR_PARTNER_LO_PARTNER_UID 55|>.put F.PAIR_STAT_ACTIVE 4).modPair (fun p => { p with shadow := false, auth := .passed }))), by decide +kernel⟩,
   ⟨Tests.upAfter 2 (fun w => ((w.put F.PAIR_CFG_EN 1 |>.put F.PAIR_CFG_ROLE 1 |>.put F.PAIR_CFG_PAIR_MASK 0x0C |>.put F.PAIR_STAT_LINK 0 |>.put F.PAIR_PARTNER_LO_PARTNER_UID 55).modPair (fun p => { p with shadow := false, auth := .passed }))), by decide +kernel⟩,
   ⟨Tests.upAfter 2 (fun w => ((w.put F.PAIR_CFG_EN 1 |>.put F.PAIR_CFG_ROLE 1 |>.put F.PAIR_CFG_PAIR_MASK 0x0C |>.put F.PAIR_STAT_LINK 0 |>.put F.PAIR_PARTNER_LO_PARTNER_UID 55).modPair (fun p => { p with shadow := false, auth := .passed }))), 55, 2, 0x0C, 0, by decide +kernel⟩,
   ⟨Tests.upAfter 2 (fun w => ((w.put F.PAIR_CFG_EN 1 |>.put F.PAIR_CFG_ROLE 1 |>.put F.PAIR_CFG_PAIR_MASK 0x0C |>.put F.PAIR_STAT_LINK 1 |>.put F.PAIR_PARTNER_LO_PARTNER_UID 55).modPair (fun p => { p with shadow := false, auth := .passed }))), 55, 2, 0x04, 0, by decide +kernel⟩,
   ⟨Tests.upAfter 2 (fun w => ((w.put F.PAIR_CFG_EN 1 |>.put F.PAIR_CFG_ROLE 1 |>.put F.PAIR_CFG_PAIR_MASK 0x0C |>.put F.PAIR_STAT_LINK 1 |>.put F.PAIR_PARTNER_LO_PARTNER_UID 55).modPair (fun p => { p with shadow := false, auth := .passed }))), 3, by decide +kernel⟩,
   ⟨Tests.upAfter 2 (fun w => ((w.put F.PAIR_CFG_EN 1 |>.put F.PAIR_CFG_ROLE 1 |>.put F.PAIR_CFG_PAIR_MASK 0x0C |>.put F.PAIR_STAT_LINK 1 |>.put F.PAIR_PARTNER_LO_PARTNER_UID 55).modPair (fun p => { p with shadow := true }))), by decide +kernel⟩,
   ⟨Tests.upAfter 2 (fun w => ((({ w with tick := 70000 } : Work).put F.PAIR_CFG_EN 1 |>.put F.PAIR_CFG_ROLE 1 |>.put F.PAIR_CFG_PAIR_MASK 0x0C |>.put F.PAIR_STAT_LINK 1 |>.put F.PAIR_PARTNER_LO_PARTNER_UID 55).modPair (fun p => { p with shadow := false, auth := .passed }))), 70000, 4463, by decide +kernel⟩,
   ⟨Tests.upAfter 2 (fun w => ((({ w with tick := 70000 } : Work).put F.PAIR_CFG_EN 1 |>.put F.PAIR_CFG_ROLE 1 |>.put F.PAIR_CFG_PAIR_MASK 0x0C |>.put F.PAIR_STAT_LINK 1 |>.put F.PAIR_PARTNER_LO_PARTNER_UID 55|>.put F.PAIR_STAT_ACTIVE 8).modPair (fun p => { p with shadow := false, auth := .passed }))), 70000, 5, by decide +kernel⟩,
   ⟨Tests.upAfter 2 (fun w => ((({ w with tick := 70000 } : Work).put F.PAIR_CFG_EN 1 |>.put F.PAIR_CFG_ROLE 1 |>.put F.PAIR_CFG_PAIR_MASK 0x0C |>.put F.PAIR_STAT_LINK 1 |>.put F.PAIR_PARTNER_LO_PARTNER_UID 55|>.put F.PAIR_STAT_LEAD 1).modPair (fun p => { p with shadow := false, auth := .passed }))), 70000, by decide +kernel⟩,
   ⟨Tests.upAfter 2 (fun w => ((w.put F.PAIR_CFG_EN 1 |>.put F.PAIR_CFG_ROLE 1 |>.put F.PAIR_CFG_PAIR_MASK 0x0C |>.put F.PAIR_STAT_LINK 1 |>.put F.PAIR_PARTNER_LO_PARTNER_UID 55|>.put F.PAIR_STAT_ACTIVE 8).modPair (fun p => { p with shadow := false, auth := .passed }))), by decide +kernel⟩,
   ⟨Tests.upAfter 2 (fun w => ((w.put F.PAIR_CFG_EN 1 |>.put F.PAIR_CFG_ROLE 1 |>.put F.PAIR_CFG_PAIR_MASK 0x0C |>.put F.PAIR_STAT_LINK 1 |>.put F.PAIR_PARTNER_LO_PARTNER_UID 55|>.put F.PAIR_STAT_ACTIVE 8 |>.put F.PAIR_STAT_READY 4).modPair (fun p => { p with missed := 1 }))), by decide +kernel⟩⟩

/-- The hypotheses of PairCopyAndHandover, clause by clause, are met. -/
theorem witness_PairCopyAndHandover :
    (∃ (s : State) (ch : Fin 8), s.work.follows ch = true) ∧
    (∃ (s : State) (ch : Fin 8) (mine : List (Nat × PairItem)), s.work.follows ch = true ∧ mine = s.dev.pair.open_.filter (fun x => x.1 == ch.val)) ∧
    (∃ (s : State) (ch : Fin 8) (mine : List (Nat × PairItem)) (count : Nat), s.work.follows ch = true ∧ mine = s.dev.pair.open_.filter (fun x => x.1 == ch.val) ∧ count ≠ mine.length) ∧
    (∃ (s : State), s.work.pairUp = true) ∧
    (∃ (s : State) (ch : Fin 8), s.work.follows ch = true ∧ s.work.sameImage ch = true ∧ (s.work.ring ch).place < s.work.ringDepth ch ∧ bitOf s.dev.pair.synced ch = false ∧ tabGet s.dev.pair.scanAt 0 ch = s.get F.GRIST_STAT_SCAN ch + 1) ∧
    (∃ (s : State) (ch : Fin 8) (p : PairPiece), s.work.follows ch = true ∧ s.work.sameImage ch = true ∧ (s.work.ring ch).place < s.work.ringDepth ch ∧ p.image = [] ∧ p.back = [] ∧ p.items = []) ∧
    (∃ (s : State) (ch : Fin 8), s.work.follows ch = true) ∧
    (∃ (s : State) (ch : Fin 8), s.work.follows ch = true ∧ s.work.sameImage ch = false ∧ bitOf s.dev.pair.synced ch = false) ∧
    (∃ (s : State), s.work.pairUp = true) ∧
    (∃ (s : State), s.work.pairUp = true) ∧
    (∃ (s : State) (src : Nat) (last : Nat) (pl : List Byte) (id : Nat) (seq : Nat), s.work.pairUp = true ∧ s.work.joined = true ∧ s.work.fabRuns = true ∧ id = halfAt pl 0 % 4096 ∧ seq = halfAt pl 2 ∧ (∀ j : Fin 64, s.flag F.RHL_PUB_A_EN 0 j = false) ∧ tabFind s.dev.fab.seqs id = some (last, src) ∧ newer16 seq last = true ∧ (∀ ch : Fin 8, (s.work.bindings ch).any (fun b => b.fits 2 0 id) = false)) ∧
    (∃ (s : State) (pl : List Byte) (x : WrapWait) (f : Flight), s.work.pairUp = true ∧ s.dev.host.wraps.find? (fun y => y.tag == halfAt pl 0) = some x ∧ x.who = .host ∧ s.dev.host.port.flight = some f ∧ f.late = false) ∧
    (∃ (s : State) (v : Word) (m : Nat) (lead : Bool), s.accepts (R.PAIR_HAND.addr 0 0) v.toNat = true ∧ m = v.toNat % 256 ∧ maskList m 8 ≠ [] ∧ (maskList m 8).all (fun n => !(s.chan n).cutPassed) = true ∧ lead = (s.work.lead && decide (without s.work.activeMask m &&& s.work.pairMask = 0))) ∧
    (∃ (s : State) (ch : Fin 8) (x : SlotRun) (m : Nat) (mv : Nat) (rest : List Nat), (s.chan ch).seq.cur = some x ∧ x.kind = kDisplay ∧ s.work.paired ch = true ∧ (s.chan ch).standby = true ∧ s.work.pairOn = true ∧ s.work.shadowLines ch = m :: rest ∧ s.work.shadowOk ch m mv = true) ∧
    (∃ (s : State) (ch : Fin 8) (x : SlotRun) (m : Nat) (mv : Nat) (rest : List Nat), (s.chan ch).seq.cur = some x ∧ x.kind = kDisplay ∧ s.work.paired ch = true ∧ (s.chan ch).standby = true ∧ s.work.pairOn = true ∧ s.work.shadowLines ch = m :: rest ∧ s.work.shadowOk ch m mv = false ∧ tabGet s.dev.pair.shadowCnt 0 (128 * ch + m) = 1 ∧ m < 128) ∧
    (∃ (s : State) (ch : Fin 8) (x : SlotRun) (m : Nat) (mv : Nat) (rest : List Nat), (s.chan ch).seq.cur = some x ∧ x.kind = kDisplay ∧ s.work.paired ch = true ∧ (s.chan ch).standby = true ∧ s.work.pairOn = true ∧ s.work.shadowLines ch = m :: rest ∧ s.work.shadowOk ch m mv = false ∧ tabGet s.dev.pair.shadowCnt 0 (128 * ch + m) = 0) :=
  ⟨⟨Tests.upAfter 2 (fun w => ((w.put F.PAIR_CFG_EN 1 |>.put F.PAIR_CFG_ROLE 1 |>.put F.PAIR_CFG_PAIR_MASK 0x0C |>.put F.PAIR_STAT_LINK 1 |>.put F.PAIR_PARTNER_LO_PARTNER_UID 55).modPair (fun p => { p with shadow := false, auth := .passed }))|>.modChan 3 (fun c => { c with standby := true })), 3, by decide +kernel⟩,
   ⟨Tests.upAfter 2 (fun w => ((w.put F.PAIR_CFG_EN 1 |>.put F.PAIR_CFG_ROLE 1 |>.put F.PAIR_CFG_PAIR_MASK 0x0C |>.put F.PAIR_STAT_LINK 1 |>.put F.PAIR_PARTNER_LO_PARTNER_UID 55).modPair (fun p => { p with open_ := [(2, ⟨.elem 7 true, none⟩), (3, ⟨.swap, none⟩)], synced := 8 }))|>.modChan 3 (fun c => { c with standby := true })), 3, [(3, ⟨.swap, none⟩)], by decide +kernel⟩,
   ⟨Tests.upAfter 2 (fun w => ((w.put F.PAIR_CFG_EN 1 |>.put F.PAIR_CFG_ROLE 1 |>.put F.PAIR_CFG_PAIR_MASK 0x0C |>.put F.PAIR_STAT_LINK 1 |>.put F.PAIR_PARTNER_LO_PARTNER_UID 55).modPair (fun p => { p with open_ := [(2, ⟨.elem 7 true, none⟩), (3, ⟨.swap, none⟩)], synced := 8 }))|>.modChan 3 (fun c => { c with standby := true })), 3, [(3, ⟨.swap, none⟩)], 2, by decide +kernel⟩,
   ⟨Tests.upAfter 2 (fun w => ((w.put F.PAIR_CFG_EN 1 |>.put F.PAIR_CFG_ROLE 1 |>.put F.PAIR_CFG_PAIR_MASK 0x0C |>.put F.PAIR_STAT_LINK 1 |>.put F.PAIR_PARTNER_LO_PARTNER_UID 55|>.put F.PAIR_STAT_ACTIVE 8 |>.put F.CASK_SEQ_NEXT 5 3).modPair (fun p => { p with shadow := false, auth := .passed }))), by decide +kernel⟩,
   ⟨Tests.upAfter 2 (fun w => ((w.put F.PAIR_CFG_EN 1 |>.put F.PAIR_CFG_ROLE 1 |>.put F.PAIR_CFG_PAIR_MASK 0x0C |>.put F.PAIR_STAT_LINK 1 |>.put F.PAIR_PARTNER_LO_PARTNER_UID 55).modPair (fun p => { p with scanAt := [(3, 1)] }))|>.modChan 3 (fun c => { c with standby := true, regions := [(0, 36), (36, 36), (72, 8)] }) |>.put F.CASK_STAT_DEPTH 30 3), 3, by decide +kernel⟩,
   ⟨Tests.upAfter 2 (fun w => ((w.put F.PAIR_CFG_EN 1 |>.put F.PAIR_CFG_ROLE 1 |>.put F.PAIR_CFG_PAIR_MASK 0x0C |>.put F.PAIR_STAT_LINK 1 |>.put F.PAIR_PARTNER_LO_PARTNER_UID 55).modPair (fun p => { p with shadow := false, auth := .passed }))|>.modChan 3 (fun c => { c with standby := true, regions := [(0, 36), (36, 36), (72, 8)] }) |>.put F.CASK_STAT_DEPTH 30 3), 3, ⟨⟨[(4, 9)], [], [(1, 77)], (5, [6, 7]), 20, [(0, 2100)], [(2, 1)], [(2, 1024)], [(3, [(1024, 1)])], [8], [(2, 10)], [(1, 2)], [(1, 2, false)], (12, [13]), [], [(0, 77)], [3], [0], [[1, 2, 3, 4, 9, 0, 0, 0, 0, 0, 0, 0, 0, 0, 0, 0]], 8, 9, []⟩, [], [], [], [], [(5, 6)]⟩, by decide +kernel⟩,
   ⟨Tests.upAfter 2 (fun w => ((w.put F.PAIR_CFG_EN 1 |>.put F.PAIR_CFG_ROLE 1 |>.put F.PAIR_CFG_PAIR_MASK 0x0C |>.put F.PAIR_STAT_LINK 1 |>.put F.PAIR_PARTNER_LO_PARTNER_UID 55).modPair (fun p => { p with shadow := false, auth := .passed }))|>.modChan 3 (fun c => { c with standby := true, regions := [(0, 36), (36, 36), (72, 8)] }) |>.put F.CASK_STAT_DEPTH 30 3), 3, by decide +kernel⟩,
   ⟨Tests.upAfter 2 (fun w => ((w.put F.PAIR_CFG_EN 1 |>.put F.PAIR_CFG_ROLE 1 |>.put F.PAIR_CFG_PAIR_MASK 0x0C |>.put F.PAIR_STAT_LINK 1 |>.put F.PAIR_PARTNER_LO_PARTNER_UID 55).modPair (fun p => { p with shadow := false, auth := .passed }))|>.modChan 3 (fun c => { c with standby := true, regions := [(0, 36), (36, 36), (72, 8)] }) |> fun w : Work => { w with pair := { w.pair with partner := { w.pair.partner with serial := 5, chIds := [(3, (9, 0))] } } } |>.put F.CASK_STAT_DEPTH 30 3), 3, by decide +kernel⟩,
   ⟨Tests.upAfter 2 (fun w => ((w.put F.PAIR_CFG_EN 1 |>.put F.PAIR_CFG_ROLE 1 |>.put F.PAIR_CFG_PAIR_MASK 0x0C |>.put F.PAIR_STAT_LINK 1 |>.put F.PAIR_PARTNER_LO_PARTNER_UID 55|>.put F.PAIR_STAT_ACTIVE 8).modPair (fun p => { p with shadow := false, auth := .passed }))), by decide +kernel⟩,
   ⟨Tests.upAfter 2 (fun w => ((w.put F.PAIR_CFG_EN 1 |>.put F.PAIR_CFG_ROLE 1 |>.put F.PAIR_CFG_PAIR_MASK 0x0C |>.put F.PAIR_STAT_LINK 1 |>.put F.PAIR_PARTNER_LO_PARTNER_UID 55).modPair (fun p => { p with shadow := false, auth := .passed }))), by decide +kernel⟩,
   ⟨Tests.upAfter 2 (fun w => ((w.put F.PAIR_CFG_EN 1 |>.put F.PAIR_CFG_ROLE 1 |>.put F.PAIR_CFG_PAIR_MASK 0x0C |>.put F.PAIR_STAT_LINK 1 |>.put F.PAIR_PARTNER_LO_PARTNER_UID 55|>.put F.RHL_STAT_STATE 3 |>.put F.RHL_STAT_ADDR_ACT 9 |>.modFab (fun b => { b with seqs := [(77, (7, 5))] })).modPair (fun p => { p with shadow := false, auth := .passed }))), 5, 7, [77, 0, 8, 0, 1, 2], 77, 8, by decide +kernel⟩,
   ⟨Tests.upAfter 2 (fun w => ((w.put F.PAIR_CFG_EN 1 |>.put F.PAIR_CFG_ROLE 1 |>.put F.PAIR_CFG_PAIR_MASK 0x0C |>.put F.PAIR_STAT_LINK 1 |>.put F.PAIR_PARTNER_LO_PARTNER_UID 55|> fun w : Work => { w with host := { w.host with port := { w.host.port with flight := some ⟨0x60, 4, false⟩ }, wraps := [⟨.host, 700, 8⟩] } }).modPair (fun p => { p with shadow := false, auth := .passed }))), [0xBC, 2, 1, 2], ⟨.host, 700, 8⟩, ⟨0x60, 4, false⟩, by decide +kernel⟩,
   ⟨Tests.upAfter 2 (fun w => ((w.put F.PAIR_CFG_EN 1 |>.put F.PAIR_CFG_ROLE 1 |>.put F.PAIR_CFG_PAIR_MASK 0x0C |>.put F.PAIR_STAT_LINK 1 |>.put F.PAIR_PARTNER_LO_PARTNER_UID 55|>.put F.PAIR_STAT_ACTIVE 12 |>.put F.PAIR_STAT_LEAD 1).modPair (fun p => { p with partner := { p.partner with ready := 12 } }))), 12, 12, true, by decide +kernel⟩,
   ⟨Tests.upAfter 2 (fun w => ((w.put F.PAIR_CFG_EN 1 |>.put F.PAIR_CFG_ROLE 1 |>.put F.PAIR_CFG_PAIR_MASK 0x0C |>.put F.PAIR_STAT_LINK 1 |>.put F.PAIR_PARTNER_LO_PARTNER_UID 55).modPair (fun p => { p with shadowCnt := [(385, 1)] }))|>.modChan 3 (fun c => { c with standby := true, seq := { c.seq with cur := some ⟨0, 0, 8000, false⟩, nDisp := 1, act := { c.seq.act with cfg := 1, roles := [0, 1] } } })), 3, ⟨0, 0, 8000, false⟩, 1, 500, [], by decide +kernel⟩,
   ⟨Tests.upAfter 2 (fun w => ((w.put F.PAIR_CFG_EN 1 |>.put F.PAIR_CFG_ROLE 1 |>.put F.PAIR_CFG_PAIR_MASK 0x0C |>.put F.PAIR_STAT_LINK 1 |>.put F.PAIR_PARTNER_LO_PARTNER_UID 55).modPair (fun p => { p with shadowCnt := [(385, 1)] }))|>.modChan 3 (fun c => { c with standby := true, seq := { c.seq with cur := some ⟨0, 0, 8000, false⟩, nDisp := 1, act := { c.seq.act with cfg := 1, roles := [0, 1] } } })), 3, ⟨0, 0, 8000, false⟩, 1, 5000, [], by decide +kernel⟩,
   ⟨Tests.upAfter 2 (fun w => ((w.put F.PAIR_CFG_EN 1 |>.put F.PAIR_CFG_ROLE 1 |>.put F.PAIR_CFG_PAIR_MASK 0x0C |>.put F.PAIR_STAT_LINK 1 |>.put F.PAIR_PARTNER_LO_PARTNER_UID 55).modPair (fun p => { p with shadow := false }))|>.modChan 3 (fun c => { c with standby := true, seq := { c.seq with cur := some ⟨0, 0, 8000, false⟩, nDisp := 1, act := { c.seq.act with cfg := 1, roles := [0, 1] } } })), 3, ⟨0, 0, 8000, false⟩, 1, 5000, [], by decide +kernel⟩⟩

/-- The hypotheses of MemoryAndSteep, clause by clause, are met. -/
theorem witness_MemoryAndSteep :
    (∃ (s : State) (b : Nat) (addr : Nat) (m : Fin 16) (hit : Bool), masterMay b m = true ∧ bankOf (addr / 4 * 4) = some b ∧ s.work.bankFailed b = false ∧ (hit = false ∨ b < 16 ∨ 24 ≤ b ∨ 8 ≤ m.val)) ∧
    (∃ (s : State) (b : Nat) (addr : Nat) (m : Fin 16), masterMay b m = true ∧ bankOf (addr / 4 * 4) = some b ∧ s.work.bankFailed b = false ∧ 16 ≤ b ∧ b < 24 ∧ m.val < 8 ∧ s.flag F.MEM_COLLIDE_COLLIDE = false) ∧
    (∃ (s : State) (b : Nat) (addr : Nat) (m : Fin 16), masterMay b m = true ∧ bankOf (addr / 4 * 4) = some b ∧ s.work.bankFailed b = false) ∧
    (∃ (s : State) (b : Nat) (addr : Nat) (m : Fin 16), masterMay b m = true ∧ bankOf (addr / 4 * 4) = some b ∧ s.work.bankFailed b = false ∧ b < 16) ∧
    (∃ (s : State) (b : Nat) (addr : Nat) (m : Fin 16) (ch : Fin 8), masterMay b m = true ∧ bankOf (addr / 4 * 4) = some b ∧ s.work.bankFailed b = false ∧ b = 16 + ch.val ∧ (s.chan ch).running = true ∧ bitOf (s.get F.PAIR_STAT_ACTIVE) ch = true) ∧
    (∃ (s : State) (b : Nat) (addr : Nat) (m : Fin 16) (e : Fin 4), masterMay b m = true ∧ bankOf (addr / 4 * 4) = some b ∧ s.work.bankFailed b = false ∧ (b = 24 + 2 * e.val ∨ b = 25 + 2 * e.val)) ∧
    (∃ (s : State) (b : Nat) (x : Nat × Nat), s.dev.memsys.writeback.find? (fun y => bankOf y.1 == some b) = some x) ∧
    (∃ (s : State) (v : Word), s.accepts (R.MEM_CTL.addr 0 0) v.toNat = true ∧ bitOf v.toNat 0 = true) ∧
    (∃ (s : State) (i : Nat), s.work.steepRuns = true ∧ s.flag F.STEEP_STAT_BORROWED = false ∧ s.work.steepFrom s.dev.memsys.nextWin = some i ∧ i < sweepEnd ∧ s.work.paceDue = true) ∧
    (∃ (s : State), s.flag F.STEEP_STAT_BORROWED = true ∧ s.dev.memsys.dirty = false ∧ (s.work.steepFrom s.dev.memsys.nextWin).isSome = true) ∧
    (∃ (s : State), s.flag F.STEEP_STAT_BORROWED = true ∧ s.dev.memsys.dirty = false ∧ s.work.steepFrom s.dev.memsys.nextWin = none) ∧
    (∃ (s : State) (k : Fin 64), s.flag F.STEEP_STAT_BORROWED = true ∧ s.dev.memsys.dirty = false ∧ (s.work.steepFrom s.dev.memsys.nextWin).isSome = true ∧ tabFind s.dev.memsys.hard (s.work.windowBase + 4 * k.val) = none) ∧
    (∃ (s : State) (i : Fin 39) (j : Fin 39) (b : Nat), s.flag F.STEEP_STAT_BORROWED = true ∧ s.dev.memsys.dirty = false ∧ i < j ∧ b = s.get F.STEEP_STAT_BANK ∧ b < 16 ∧ s.work.bankFailed b = false) ∧
    (∃ (s : State), s.flag F.STEEP_STAT_BORROWED = true ∧ s.dev.memsys.dirty = true ∧ s.dev.memsys.restarts < 3) ∧
    (∃ (s : State), s.flag F.STEEP_STAT_BORROWED = true ∧ s.dev.memsys.dirty = true ∧ (s.work.steepFrom s.dev.memsys.nextWin).isSome = true ∧ 3 ≤ s.dev.memsys.restarts) :=
  ⟨⟨Tests.upAfter 2, 19, 0x01060006, 5, false, by decide +kernel⟩,
   ⟨Tests.upAfter 2, 19, 0x01060006, 5, by decide +kernel⟩,
   ⟨Tests.upAfter 2, 19, 0x01060006, 5, by decide +kernel⟩,
   ⟨Tests.upAfter 2, 3, 0x60006, 5, by decide +kernel⟩,
   ⟨Tests.upAfter 2 (fun w => (w.put F.PAIR_STAT_ACTIVE 8).modChan 3 (fun c => { c with running := true, inReset := false })), 19, 0x01060006, 5, 3, by decide +kernel⟩,
   ⟨Tests.upAfter 2 (fun w => ((w.put F.TUN_CTL_RUNNING 4 |>.put F.TUN_STAT_PROTO 1 0 2).modTun 2 (fun t => { t with code := [1, 2] }))), 28, 0x02080006, 5, 2, by decide +kernel⟩,
   ⟨Tests.upAfter 2 (fun w => w.modMem (fun m => { m with writeback := [(4, 0), (0x60004, 0)] })), 3, (0x60004, 0), by decide +kernel⟩,
   ⟨Tests.upAfter 2, 1, by decide +kernel⟩,
   ⟨Tests.upAfter 2 (fun w => (w.put F.STEEP_CFG_EN 1 |>.put F.STEEP_CFG_PACE_US 100 |>.put F.STEEP_MASK_MASK 9).modMem (fun m => { m with nextWin := 512 })), 1536, by decide +kernel⟩,
   ⟨Tests.upAfter 2 (fun w => (w.put F.STEEP_CFG_EN 1 |>.put F.STEEP_CFG_PACE_US 100 |>.put F.STEEP_MASK_MASK 9|>.put F.STEEP_STAT_BORROWED 1 |>.put F.STEEP_STAT_BANK 3 |>.put F.STEEP_STAT_WINDOW 2).modMem (fun m => { m with nextWin := 1539 })), by decide +kernel⟩,
   ⟨Tests.upAfter 2 (fun w => (w.put F.STEEP_CFG_EN 1 |>.put F.STEEP_CFG_PACE_US 100 |>.put F.STEEP_MASK_MASK 9|>.put F.STEEP_STAT_BORROWED 1 |>.put F.STEEP_STAT_BANK 3 |>.put F.STEEP_STAT_WINDOW 2|>.put F.STEEP_CFG_AON_EN 0).modMem (fun m => { m with nextWin := 9000 })), by decide +kernel⟩,
   ⟨Tests.upAfter 2 (fun w => (w.put F.STEEP_CFG_EN 1 |>.put F.STEEP_CFG_PACE_US 100 |>.put F.STEEP_MASK_MASK 9|>.put F.STEEP_STAT_BORROWED 1 |>.put F.STEEP_STAT_BANK 3 |>.put F.STEEP_STAT_WINDOW 2).modMem (fun m => { m with nextWin := 1539 })), 5, by decide +kernel⟩,
   ⟨Tests.upAfter 2 (fun w => (w.put F.STEEP_CFG_EN 1 |>.put F.STEEP_CFG_PACE_US 100 |>.put F.STEEP_MASK_MASK 9|>.put F.STEEP_STAT_BORROWED 1 |>.put F.STEEP_STAT_BANK 3 |>.put F.STEEP_STAT_WINDOW 2).modMem (fun m => { m with nextWin := 1539 })), 3, 33, 3, by decide +kernel⟩,
   ⟨Tests.upAfter 2 (fun w => (w.put F.STEEP_CFG_EN 1 |>.put F.STEEP_CFG_PACE_US 100 |>.put F.STEEP_MASK_MASK 9|>.put F.STEEP_STAT_BORROWED 1 |>.put F.STEEP_STAT_BANK 3 |>.put F.STEEP_STAT_WINDOW 2).modMem (fun m => { m with nextWin := 1539, dirty := true })), by decide +kernel⟩,
   ⟨Tests.upAfter 2 (fun w => (w.put F.STEEP_CFG_EN 1 |>.put F.STEEP_CFG_PACE_US 100 |>.put F.STEEP_MASK_MASK 9|>.put F.STEEP_STAT_BORROWED 1 |>.put F.STEEP_STAT_BANK 3 |>.put F.STEEP_STAT_WINDOW 2).modMem (fun m => { m with nextWin := 1539, dirty := true, restarts := 3 })), by decide +kernel⟩⟩

/-- The hypotheses of DeviceResets, clause by clause, are met. -/
theorem witness_DeviceResets :
    (∃ (a : Nat) (b : Nat), aonReg a = false ∧ a ∉ [R.PWR_STAT.addr 0 0, R.MEM_STAT.addr 0 0, R.SEC_STAT.addr 0 0] ∧ aonReg b = true) ∧
    (∃ (s : State) (a : Nat) (b : Nat) (rail : Nat), aonReg a = false ∧ a ∉ [R.PWR_STAT.addr 0 0, R.MEM_STAT.addr 0 0, R.SEC_STAT.addr 0 0] ∧ aonReg b = true ∧ s.dev.rst.hold ≠ .fault ∧ 0 < rail ∧ rail < 16 ∧ s.get F.PWR_STAT_STATE ≠ 4) ∧
    (∃ (a : Nat) (b : Nat), aonReg a = false ∧ a ∉ [R.PWR_STAT.addr 0 0, R.MEM_STAT.addr 0 0, R.SEC_STAT.addr 0 0] ∧ aonReg b = true) ∧
    (∃ (s : State) (a : Nat) (b : Nat), aonReg a = false ∧ a ∉ [R.PWR_STAT.addr 0 0, R.MEM_STAT.addr 0 0, R.SEC_STAT.addr 0 0] ∧ aonReg b = true ∧ s.dev.rst.hold ≠ .fault ∧ 3 ≤ s.work.relStep) ∧
    (∃ (s : State) (a : Nat) (b : Nat), aonReg a = false ∧ a ∉ [R.PWR_STAT.addr 0 0, R.MEM_STAT.addr 0 0, R.SEC_STAT.addr 0 0] ∧ aonReg b = true ∧ s.dev.rst.hold ≠ .fault ∧ s.get F.MEM_FAILED_FAILED % 65536 ≠ 0) ∧
    (∃ (s : State) (a : Nat) (b : Nat), aonReg a = false ∧ a ∉ [R.PWR_STAT.addr 0 0, R.MEM_STAT.addr 0 0, R.SEC_STAT.addr 0 0] ∧ aonReg b = true ∧ s.dev.rst.hold ≠ .fault ∧ 5 ≤ s.work.relStep) ∧
    (∃ (s : State) (a : Nat) (b : Nat), aonReg a = false ∧ a ∉ [R.PWR_STAT.addr 0 0, R.MEM_STAT.addr 0 0, R.SEC_STAT.addr 0 0] ∧ aonReg b = true ∧ s.dev.rst.hold ≠ .fault ∧ 6 ≤ s.work.relStep) ∧
    (∃ (s : State) (a : Nat) (b : Nat), aonReg a = false ∧ a ∉ [R.PWR_STAT.addr 0 0, R.MEM_STAT.addr 0 0, R.SEC_STAT.addr 0 0] ∧ aonReg b = true ∧ s.dev.rst.hold ≠ .fault ∧ s.flag F.SEC_STAT_DEBUG_OPEN = true) ∧
    (∃ (s : State) (a : Nat) (b : Nat) (v : Word), aonReg a = false ∧ a ∉ [R.PWR_STAT.addr 0 0, R.MEM_STAT.addr 0 0, R.SEC_STAT.addr 0 0] ∧ aonReg b = true ∧ s.dev.rst.hold ≠ .fault ∧ s.accepts (R.SYS_RST_CTL.addr 0 0) v.toNat = true ∧ bitOf v.toNat 0 = true) ∧
    (∃ (s : State), s.dev.rst.hold = .fault) :=
  ⟨⟨R.SYS_MODE.addr 0 0, R.RST_COUNT.addr 0 0, by decide +kernel⟩,
   ⟨Tests.upAfter 2 (fun w => { (w |> Tests.secWord 64 |>.put F.RST_COUNT_COUNT 7 |>.put F.MEM_FAILED_FAILED 1) with sec := { w.sec with keys := [(2, [7])] } }), R.SYS_MODE.addr 0 0, R.RST_COUNT.addr 0 0, 5, by decide +kernel⟩,
   ⟨R.SYS_MODE.addr 0 0, R.RST_COUNT.addr 0 0, by decide +kernel⟩,
   ⟨Tests.upAfter 2 (fun w => { (w |> Tests.secWord 64 |>.put F.RST_COUNT_COUNT 7 |>.put F.MEM_FAILED_FAILED 1) with sec := { w.sec with keys := [(2, [7])] } }), R.SYS_MODE.addr 0 0, R.RST_COUNT.addr 0 0, by decide +kernel⟩,
   ⟨Tests.upAfter 2 (fun w => { (w |> Tests.secWord 64 |>.put F.RST_COUNT_COUNT 7 |>.put F.MEM_FAILED_FAILED 1) with sec := { w.sec with keys := [(2, [7])] } }), R.SYS_MODE.addr 0 0, R.RST_COUNT.addr 0 0, by decide +kernel⟩,
   ⟨Tests.upAfter 2 (fun w => { (w |> Tests.secWord 64 |>.put F.RST_COUNT_COUNT 7 |>.put F.MEM_FAILED_FAILED 1) with sec := { w.sec with keys := [(2, [7])] } }), R.SYS_MODE.addr 0 0, R.RST_COUNT.addr 0 0, by decide +kernel⟩,
   ⟨Tests.upAfter 2 (fun w => { (w |> Tests.secWord 64 |>.put F.RST_COUNT_COUNT 7 |>.put F.MEM_FAILED_FAILED 1) with sec := { w.sec with keys := [(2, [7])] } }), R.SYS_MODE.addr 0 0, R.RST_COUNT.addr 0 0, by decide +kernel⟩,
   ⟨Tests.upAfter 2 (fun w => { (w |> Tests.secWord 64 |>.put F.RST_COUNT_COUNT 7 |>.put F.MEM_FAILED_FAILED 1) with sec := { w.sec with keys := [(2, [7])] } }), R.SYS_MODE.addr 0 0, R.RST_COUNT.addr 0 0, by decide +kernel⟩,
   ⟨Tests.upAfter 2 (fun w => { (w |> Tests.secWord 64 |>.put F.RST_COUNT_COUNT 7 |>.put F.MEM_FAILED_FAILED 1) with sec := { w.sec with keys := [(2, [7])] } }), R.SYS_MODE.addr 0 0, R.RST_COUNT.addr 0 0, 0xA5C30001, by decide +kernel⟩,
   ⟨Tests.upAfter 2 (fun w => { w with rst := { w.rst with hold := .fault } }), by decide +kernel⟩⟩

/-- The hypotheses of ReleaseAndFlash, clause by clause, are met. -/
theorem witness_ReleaseAndFlash :
    (∃ (s : State), s.dev.rst.hold = .held) ∧
    (∃ (s : State), s.dev.rst.hold = .none ∧ s.work.relStep = 0 ∧ s.dev.rst.merged = false) ∧
    (∃ (s : State), s.dev.rst.hold = .none ∧ s.work.relStep = 1) ∧
    (∃ (s : State), s.dev.rst.hold = .none ∧ s.work.relStep = 1 ∧ s.dev.rst.trimBad = 2) ∧
    (∃ (s : State), s.dev.rst.hold = .none ∧ s.work.relStep = 3) ∧
    (∃ (s : State) (bad : Nat), s.dev.rst.hold = .none ∧ s.work.relStep = 3 ∧ bad % 65536 ≠ 0 ∧ bitOf s.dev.rst.src 10 = false) ∧
    (∃ (s : State) (bad : Nat), s.dev.rst.hold = .none ∧ s.work.relStep = 3 ∧ bad % 65536 ≠ 0 ∧ bitOf s.dev.rst.src 10 = true) ∧
    (∃ (s : State) (bad : Nat) (k : Fin 4), s.dev.rst.hold = .none ∧ s.work.relStep = 7 ∧ s.dev.sec.erase = .none ∧ bad = 2 ^ k.val ∧ s.dev.sec.keys.any (fun x => x.1 == k.val + 1) = true) ∧
    (∃ (s : State) (k : Nat), s.dev.rst.hold = .none ∧ s.work.relStep = k ∧ k ∈ [2, 4, 6, 8, 9] ∧ s.dev.rst.rcMode = false) ∧
    (∃ (s : State) (m : Nat), s.dev.rst.hold = .none ∧ s.work.relStep = 5 ∧ m / 32 % 8 ≠ 0) ∧
    (∃ (s : State), s.dev.rst.hold = .none ∧ s.work.relStep = 10 ∧ s.dev.rst.rcMode = false) ∧
    (∃ (s : State) (k : Nat), s.dev.rst.hold = .none ∧ s.work.relStep = k ∧ k ≠ 1) ∧
    (∃ (s : State) (ch : Fin 8) (rest : List Nat), s.dev.rst.chLeft = ch.val :: rest ∧ s.flag F.SYS_MODE_SAFE_START = false) ∧
    (∃ (s : State) (ch : Fin 8) (rest : List Nat), s.dev.rst.chLeft = ch.val :: rest ∧ s.flag F.SYS_MODE_SAFE_START = true) ∧
    (∃ (s : State) (p : List Byte) (b : List Byte), s.dev.img.store = some (.copyFallback, b) ∧ p = flashImage s.dev.img.primary) ∧
    (∃ (s : State) (b : List Byte), s.dev.img.store = some (.writePrimary, b)) ∧
    (∃ (s : State) (b : List Byte), s.dev.img.store = some (.writePrimary, b)) :=
  ⟨⟨Tests.upAfter 0 (fun w => { w.put F.SYS_REL_STEP 0 with rst := { w.rst with hold := .held } }), by decide +kernel⟩,
   ⟨Tests.upAfter 0 (fun w => { w.put F.SYS_REL_STEP 0 with rst := { w.rst with hold := .none, src := 32 } }), by decide +kernel⟩,
   ⟨Tests.upAfter 0 (fun w => { w.put F.SYS_REL_STEP 1 with rst := { w.rst with hold := .none } }), by decide +kernel⟩,
   ⟨Tests.upAfter 0 (fun w => { w.put F.SYS_REL_STEP 1 with rst := { w.rst with hold := .none, trimBad := 2 } }), by decide +kernel⟩,
   ⟨Tests.upAfter 0 (fun w => { w.put F.SYS_REL_STEP 3|>.poke 5 7 |>.poke 0x01000000 8 |>.poke 0x03000000 9 with rst := { w.rst with hold := .none } }), by decide +kernel⟩,
   ⟨Tests.upAfter 0 (fun w => { w.put F.SYS_REL_STEP 3 with rst := { w.rst with hold := .none } }), 4, by decide +kernel⟩,
   ⟨Tests.upAfter 0 (fun w => { w.put F.SYS_REL_STEP 3 with rst := { w.rst with hold := .none, src := 1024 } }), 4, by decide +kernel⟩,
   ⟨Tests.upAfter 0 (fun w => { w.put F.SYS_REL_STEP 7 with sec := { w.sec with keys := [(2, [7]), (3, [8])] } }), 2, 1, by decide +kernel⟩,
   ⟨Tests.upAfter 0 (fun w => { w.put F.SYS_REL_STEP 6 with rst := { w.rst with hold := .none } }), 6, by decide +kernel⟩,
   ⟨Tests.upAfter 0 (fun w => { w.put F.SYS_REL_STEP 5 with rst := { w.rst with hold := .none } }), 0x40, by decide +kernel⟩,
   ⟨Tests.upAfter 0 (fun w => { w.put F.SYS_REL_STEP 10|>.put F.SYS_BOOTSEL_SRC 3 with rst := { w.rst with hold := .none } }), by decide +kernel⟩,
   ⟨Tests.upAfter 0 (fun w => { w.put F.SYS_REL_STEP 6 with rst := { w.rst with hold := .none } }), 6, by decide +kernel⟩,
   ⟨Tests.upAfter 0 (fun w => { w.put F.SYS_REL_STEP 11 with rst := { w.rst with hold := .none, chLeft := [3] } }), 3, [], by decide +kernel⟩,
   ⟨Tests.upAfter 0 (fun w => { w.put F.SYS_REL_STEP 11|>.put F.SYS_MODE_SAFE_START 1 with rst := { w.rst with hold := .none, chLeft := [3] } }), 3, [], by decide +kernel⟩,
   ⟨Tests.upAfter 2 (fun w => { w with img := { w.img with store := some (.copyFallback, [2]), primary := [1] } }), flashImage [1], [2], by decide +kernel⟩,
   ⟨Tests.upAfter 2 (fun w => { w.put F.SYS_IMG_STAT_FLASH_BUSY 1 with img := { w.img with store := some (.writePrimary, [5]) } }), [5], by decide +kernel⟩,
   ⟨Tests.upAfter 2 (fun w => { w.put F.SYS_IMG_STAT_FLASH_BUSY 1 with img := { w.img with store := some (.writePrimary, [5]) } }), [5], by decide +kernel⟩⟩

/-- The hypotheses of BlockResets, clause by clause, are met. -/
theorem witness_BlockResets :
    (∃ (s : State) (e : Fin 4), s.accepts (R.SYS_BLK_RST.addr 0 0) (setBit (s.reg (R.SYS_BLK_RST.addr 0 0)) e true) = true ∧ bitOf (s.reg (R.SYS_BLK_RST.addr 0 0)) e = false ∧ s.dev.img.sess = none ∧ s.dev.modeReq = none ∧ s.dev.pwr.cmd = none) ∧
    (∃ (s : State), s.accepts (R.SYS_BLK_RST.addr 0 0) (setBit (s.reg (R.SYS_BLK_RST.addr 0 0)) 4 true) = true ∧ bitOf (s.reg (R.SYS_BLK_RST.addr 0 0)) 4 = false ∧ s.dev.img.sess = none ∧ s.dev.modeReq = none ∧ s.dev.pwr.cmd = none) ∧
    (∃ (s : State), s.accepts (R.SYS_BLK_RST.addr 0 0) (setBit (s.reg (R.SYS_BLK_RST.addr 0 0)) 5 true) = true ∧ bitOf (s.reg (R.SYS_BLK_RST.addr 0 0)) 5 = false ∧ s.dev.img.sess = none ∧ s.dev.modeReq = none ∧ s.dev.pwr.cmd = none ∧ s.get F.SYS_TICK_CFG_LOCK_SRC ≠ 1) ∧
    (∃ (s : State), s.accepts (R.SYS_BLK_RST.addr 0 0) (setBit (s.reg (R.SYS_BLK_RST.addr 0 0)) 6 true) = true ∧ bitOf (s.reg (R.SYS_BLK_RST.addr 0 0)) 6 = false) ∧
    (∃ (s : State), s.accepts (R.SYS_BLK_RST.addr 0 0) (setBit (s.reg (R.SYS_BLK_RST.addr 0 0)) 7 true) = true ∧ bitOf (s.reg (R.SYS_BLK_RST.addr 0 0)) 7 = false ∧ s.get F.SYS_TICK_CFG_LOCK_SRC ≠ 2) ∧
    (∃ (s : State), s.accepts (R.SYS_BLK_RST.addr 0 0) (setBit (s.reg (R.SYS_BLK_RST.addr 0 0)) 7 true) = true ∧ bitOf (s.reg (R.SYS_BLK_RST.addr 0 0)) 7 = false ∧ s.get F.SYS_TICK_CFG_LOCK_SRC = 2 ∧ s.work.lockState = lkLocked) ∧
    (∃ (s : State), s.accepts (R.SYS_BLK_RST.addr 0 0) (setBit (s.reg (R.SYS_BLK_RST.addr 0 0)) 8 true) = true ∧ bitOf (s.reg (R.SYS_BLK_RST.addr 0 0)) 8 = false) ∧
    (∃ (s : State) (e : Fin 4), s.accepts (R.SYS_BLK_RST.addr 0 0) (setBit (s.reg (R.SYS_BLK_RST.addr 0 0)) e false) = true ∧ bitOf (s.reg (R.SYS_BLK_RST.addr 0 0)) e = true ∧ (s.work.tunEng e).code = []) ∧
    (∃ (s : State) (e : Fin 4), s.accepts (R.SYS_BLK_RST.addr 0 0) (setBit (s.reg (R.SYS_BLK_RST.addr 0 0)) e false) = true ∧ bitOf (s.reg (R.SYS_BLK_RST.addr 0 0)) e = true ∧ (s.work.tunEng e).code ≠ [] ∧ s.work.bankFailed (24 + 2 * e) = false ∧ s.work.bankFailed (25 + 2 * e) = false) ∧
    (∃ (s : State) (e : Fin 4), s.accepts (R.SYS_BLK_RST.addr 0 0) (setBit (s.reg (R.SYS_BLK_RST.addr 0 0)) e false) = true ∧ bitOf (s.reg (R.SYS_BLK_RST.addr 0 0)) e = true ∧ (s.work.bankFailed (24 + 2 * e) = true ∨ s.work.bankFailed (25 + 2 * e) = true)) ∧
    (∃ (s : State), s.accepts (R.SYS_BLK_RST.addr 0 0) (setBit (s.reg (R.SYS_BLK_RST.addr 0 0)) 6 false) = true ∧ bitOf (s.reg (R.SYS_BLK_RST.addr 0 0)) 6 = true) ∧
    (∃ (s : State) (bit : Fin 9), s.accepts (R.SYS_BLK_RST.addr 0 0) (setBit (s.reg (R.SYS_BLK_RST.addr 0 0)) bit false) = true ∧ bitOf (s.reg (R.SYS_BLK_RST.addr 0 0)) bit = true ∧ (bit.val = 8 ∨ (bit.val = 7 ∧ s.dev.img.whole = none))) ∧
    (∃ (s : State) (a : Nat), s.accepts (R.SYS_BLK_RST.addr 0 0) (setBit (s.reg (R.SYS_BLK_RST.addr 0 0)) 7 false) = true ∧ bitOf (s.reg (R.SYS_BLK_RST.addr 0 0)) 7 = true ∧ s.dev.img.whole.isSome = true ∧ (rowAt a).isSome = true ∧ 0x40070000 ≤ a ∧ a < 0x40080000) :=
  ⟨⟨Tests.upAfter 2 (fun w => ((w.put F.TUN_CTL_RUNNING 4 |>.put F.TUN_STAT_PROTO 1 0 2).modTun 2 (fun t => { t with code := [1, 2] }))), 2, by decide +kernel⟩,
   ⟨Tests.upAfter 2 (fun w => w.complete .host 0x7F 3 0), by decide +kernel⟩,
   ⟨Tests.upAfter 2 (fun w => ((w.put F.RHL_CFG_PORT_EN 7 |>.put F.RHL_STAT_STATE 3 |>.put F.RHL_STAT_ADDR_ACT 9|>.put F.RHL_PORT_LINK 1 0 0 |>.put F.RHL_PORT_LINK 1 0 1 |>.put F.RHL_PORT_LINK 1 0 2).modFab (fun b => { b with published := false }))), by decide +kernel⟩,
   ⟨Tests.upAfter 2 (fun w => ((w.put F.PAIR_CFG_EN 1 |>.put F.PAIR_CFG_ROLE 1 |>.put F.PAIR_CFG_PAIR_MASK 0x0C |>.put F.PAIR_STAT_LINK 1 |>.put F.PAIR_PARTNER_LO_PARTNER_UID 55|>.put F.PAIR_STAT_ACTIVE 8).modPair (fun p => { p with shadow := false, auth := .passed }))), by decide +kernel⟩,
   ⟨Tests.upAfter 2 (fun w => w.put F.NET_PORT_LINK 1 0 1 |>.put F.NET_PTP_STAT_STATE 3), by decide +kernel⟩,
   ⟨Tests.upAfter 2 (fun w => w.put F.SYS_TICK_CFG_LOCK_SRC 2 |>.put F.SYS_TICK_STAT_LOCK_STATE 2), by decide +kernel⟩,
   ⟨Tests.upAfter 2 (fun w => (w.put F.STEEP_CFG_EN 1 |>.put F.STEEP_CFG_PACE_US 100 |>.put F.STEEP_MASK_MASK 9|>.put F.STEEP_STAT_BORROWED 1 |>.put F.STEEP_STAT_BANK 3 |>.put F.STEEP_STAT_WINDOW 2).modMem (fun m => { m with dirty := false })), by decide +kernel⟩,
   ⟨Tests.upAfter 2 (fun w => (w.put F.SYS_BLK_RST_TUN 4).modTun 2 (fun t => { t with held := true })), 2, by decide +kernel⟩,
   ⟨Tests.upAfter 2 (fun w => ((w.put F.TUN_CTL_RUNNING 4 |>.put F.TUN_STAT_PROTO 1 0 2|>.put F.SYS_BLK_RST_TUN 4).modTun 2 (fun t => { t with code := [1, 2], held := true }))), 2, by decide +kernel⟩,
   ⟨Tests.upAfter 2 (fun w => ((w.put F.TUN_CTL_RUNNING 4 |>.put F.TUN_STAT_PROTO 1 0 2|>.put F.SYS_BLK_RST_TUN 4 |>.put F.MEM_FAILED_FAILED 0x20000000).modTun 2 (fun t => { t with code := [1, 2], held := true }))), 2, by decide +kernel⟩,
   ⟨Tests.upAfter 2 (fun w => ((w.put F.PAIR_CFG_EN 1 |>.put F.PAIR_CFG_ROLE 1 |>.put F.PAIR_CFG_PAIR_MASK 0x0C |>.put F.PAIR_STAT_LINK 1 |>.put F.PAIR_PARTNER_LO_PARTNER_UID 55|>.put F.SYS_BLK_RST_PAIR 1).modPair (fun p => { p with shadow := false, auth := .passed }))), by decide +kernel⟩,
   ⟨Tests.upAfter 2 (fun w => w.put F.SYS_BLK_RST_NET 1), 7, by decide +kernel⟩,
   ⟨Tests.upAfter 2 (fun w => { (w.put F.SYS_BLK_RST_NET 1 |>.put F.NET_PORT_MODE 2 0 1) with img := { w.img with whole := some ([], []), net := [(R.NET_PORT.addr 0 1, 1)] } }), R.NET_PORT.addr 0 1, by decide +kernel⟩⟩

/-- The hypotheses of ChannelResets, clause by clause, are met. -/
theorem witness_ChannelResets :
    (∃ (s : State) (ch : Fin 8) (a : Nat), s.accepts (R.CTL_RST.addr ch 0) (setBits (s.reg (R.CTL_RST.addr ch 0)) 1 0 1) = true ∧ s.flag F.CTL_RST_CH ch = false ∧ (s.chan ch).mash.queue = [] ∧ (s.chan ch).mash.waiting = [] ∧ (s.chan ch).mash.drawn = none ∧ (a < 0x40100000 + 0x10000 * ch ∨ 0x40110000 + 0x10000 * ch ≤ a) ∧ a ∉ R.SYS_CH_STATE.addr 0 0 :: R.PAIR_STAT.addr 0 0 :: ringRegs devRing) ∧
    (∃ (s : State) (ch : Fin 8), s.accepts (R.CTL_RST.addr ch 0) (setBits (s.reg (R.CTL_RST.addr ch 0)) 1 0 3) = true ∧ s.flag F.CTL_RST_CH ch = false ∧ (s.chan ch).running = true ∧ (s.chan ch).kiln.quiesce = .none) ∧
    (∃ (s : State) (ch : Fin 8), s.accepts (R.CTL_RST.addr ch 0) (setBits (s.reg (R.CTL_RST.addr ch 0)) 1 0 3) = true ∧ s.flag F.CTL_RST_CH ch = false ∧ (s.chan ch).running = false ∧ (s.chan ch).mash.queue = [] ∧ (s.chan ch).mash.waiting = [] ∧ (s.chan ch).mash.drawn = none) ∧
    (∃ (s : State) (ch : Fin 8), s.accepts (R.CTL_RST.addr ch 0) (setBits (s.reg (R.CTL_RST.addr ch 0)) 1 0 0) = true ∧ s.flag F.CTL_RST_CH ch = true ∧ (s.chan ch).inReset = true ∧ (s.chan ch).kiln.cold = false) ∧
    (∃ (s : State) (ch : Fin 8), s.accepts (R.CTL_RST.addr ch 0) (setBits (s.reg (R.CTL_RST.addr ch 0)) 1 0 0) = true ∧ s.flag F.CTL_RST_CH ch = true ∧ (s.chan ch).inReset = true ∧ (s.chan ch).kiln.cold = true ∧ (s.chan ch).kiln.faulted = false ∧ bitOf (s.get F.PWR_STAT_LATCHED) ch = false) ∧
    (∃ (s : State) (ch : Fin 8), s.accepts (R.CTL_RST.addr ch 0) (setBit (s.reg (R.CTL_RST.addr ch 0)) 2 true) = true ∧ bitOf (s.reg (R.CTL_RST.addr ch 0)) 2 = false) ∧
    (∃ (s : State) (ch : Fin 8), s.accepts (R.CTL_RST.addr ch 0) (setBit (s.reg (R.CTL_RST.addr ch 0)) 3 true) = true ∧ bitOf (s.reg (R.CTL_RST.addr ch 0)) 3 = false) ∧
    (∃ (s : State) (ch : Fin 8), s.accepts (R.CTL_RST.addr ch 0) (setBit (s.reg (R.CTL_RST.addr ch 0)) 10 true) = true ∧ bitOf (s.reg (R.CTL_RST.addr ch 0)) 10 = false) ∧
    (∃ (s : State) (ch : Fin 8), s.accepts (R.CTL_RST.addr ch 0) (setBit (s.reg (R.CTL_RST.addr ch 0)) 4 true) = true ∧ bitOf (s.reg (R.CTL_RST.addr ch 0)) 4 = false) ∧
    (∃ (s : State) (ch : Fin 8), s.accepts (R.CTL_RST.addr ch 0) (setBit (s.reg (R.CTL_RST.addr ch 0)) 5 true) = true ∧ bitOf (s.reg (R.CTL_RST.addr ch 0)) 5 = false) ∧
    (∃ (s : State) (ch : Fin 8), s.accepts (R.CTL_RST.addr ch 0) (setBit (s.reg (R.CTL_RST.addr ch 0)) 6 true) = true ∧ bitOf (s.reg (R.CTL_RST.addr ch 0)) 6 = false) ∧
    (∃ (s : State) (ch : Fin 8), s.accepts (R.CTL_RST.addr ch 0) (setBit (s.reg (R.CTL_RST.addr ch 0)) 7 true) = true ∧ bitOf (s.reg (R.CTL_RST.addr ch 0)) 7 = false) ∧
    (∃ (s : State) (ch : Fin 8), s.accepts (R.CTL_RST.addr ch 0) (setBit (s.reg (R.CTL_RST.addr ch 0)) 8 true) = true ∧ bitOf (s.reg (R.CTL_RST.addr ch 0)) 8 = false) ∧
    (∃ (s : State) (ch : Fin 8), s.accepts (R.CTL_RST.addr ch 0) (setBit (s.reg (R.CTL_RST.addr ch 0)) 9 true) = true ∧ bitOf (s.reg (R.CTL_RST.addr ch 0)) 9 = false ∧ (s.chan ch).mash.queue = [] ∧ (s.chan ch).mash.waiting = [] ∧ (s.chan ch).mash.drawn = none) ∧
    (∃ (s : State) (ch : Fin 8) (d : Delivery) (f : Flight), s.accepts (R.CTL_RST.addr ch 0) (setBit (s.reg (R.CTL_RST.addr ch 0)) 9 true) = true ∧ bitOf (s.reg (R.CTL_RST.addr ch 0)) 9 = false ∧ (s.chan ch).mash.queue = [d] ∧ (s.chan ch).mash.waiting = [] ∧ (s.chan ch).mash.drawn = none ∧ d.who = some .host ∧ s.dev.host.port.flight = some f ∧ f.late = false) ∧
    (∃ (s : State) (ch : Fin 8) (bit : Fin 9), s.accepts (R.CTL_RST.addr ch 0) (setBit (s.reg (R.CTL_RST.addr ch 0)) (bit.val + 2) false) = true ∧ bitOf (s.reg (R.CTL_RST.addr ch 0)) (bit.val + 2) = true ∧ bitOf (s.chan ch).subHeld (bit.val + 2) = true) ∧
    (∃ (s : State) (ch : Fin 8) (a : Nat), s.accepts (R.CTL_RST.addr ch 0) (setBit (s.reg (R.CTL_RST.addr ch 0)) 2 false) = true ∧ bitOf (s.reg (R.CTL_RST.addr ch 0)) 2 = true ∧ bitOf (s.chan ch).subHeld 2 = true ∧ 0x40104000 + 0x10000 * ch ≤ a ∧ a < 0x40104100 + 0x10000 * ch) ∧
    (∃ (s : State) (ch : Fin 8), s.accepts (R.CTL_RST.addr ch 0) (setBit (s.reg (R.CTL_RST.addr ch 0)) 7 false) = true ∧ bitOf (s.reg (R.CTL_RST.addr ch 0)) 7 = true ∧ bitOf (s.chan ch).subHeld 7 = true) ∧
    (∃ (s : State) (ch : Fin 8), s.accepts (R.CTL_RST.addr ch 0) (setBit (s.reg (R.CTL_RST.addr ch 0)) 4 false) = true ∧ bitOf (s.reg (R.CTL_RST.addr ch 0)) 4 = true ∧ bitOf (s.chan ch).subHeld 4 = true) :=
  ⟨⟨Tests.upAfter 1 (fun w => (w.put F.CASK_STAT_COUNT 2 3 |>.put F.KILN_STAT_READY 1 3).modChan 3 (fun c => { c with inReset := false, running := true, chMw := 5 })), 3, R.LED_CFG.addr 4 0, by decide +kernel⟩,
   ⟨Tests.upAfter 1 (fun w => (w).modChan 3 (fun c => { c with inReset := false, running := true })), 3, by decide +kernel⟩,
   ⟨Tests.upAfter 1 (fun w => (w).modChan 3 (fun c => { c with inReset := false })), 3, by decide +kernel⟩,
   ⟨Tests.upAfter 1 (fun w => (w.put F.CTL_RST_CH 1 3 |>.put F.CTL_STAT_IN_RESET 1 3).modChan 3 (fun c => { c with inReset := true, kiln := { c.kiln with cold := false } })), 3, by decide +kernel⟩,
   ⟨Tests.upAfter 1 (fun w => (w.put F.CTL_RST_CH 1 3).modChan 3 (fun c => { c with inReset := true, kiln := { c.kiln with cold := true } })), 3, by decide +kernel⟩,
   ⟨Tests.upAfter 1 (fun w => (w).modChan 3 (fun c => { c with inReset := false })), 3, by decide +kernel⟩,
   ⟨Tests.upAfter 1 (fun w => (w).modChan 3 (fun c => { c with inReset := false })), 3, by decide +kernel⟩,
   ⟨Tests.upAfter 1 (fun w => (w).modChan 3 (fun c => { c with inReset := false })), 3, by decide +kernel⟩,
   ⟨Tests.upAfter 1 (fun w => (w.put F.CASK_STAT_COUNT 2 3).modChan 3 (fun c => { c with inReset := false, cask := { c.cask with batch := [] } })), 3, by decide +kernel⟩,
   ⟨Tests.upAfter 1 (fun w => (w.put F.LAMP_STAT_SEN 1 3).modChan 3 (fun c => { c with inReset := false, lamp := { c.lamp with lamps := c.lamp.lamps.map (fun l => { l with out := 9, pump := true }) } })), 3, by decide +kernel⟩,
   ⟨Tests.upAfter 1 (fun w => (w).modChan 3 (fun c => { c with inReset := false, tap := c.tap.map (fun t => { t with await := true }) })), 3, by decide +kernel⟩,
   ⟨Tests.upAfter 1 (fun w => (w.put F.PSQ_STAT_RUNNING 5 3 |>.put F.PSQ_IMEM_INSTR 0x7058 3 9).modChan 3 (fun c => { c with inReset := false })), 3, by decide +kernel⟩,
   ⟨Tests.upAfter 1 (fun w => (w.put F.INTEG_POL_ACTIVE 1 3 9).modChan 3 (fun c => { c with inReset := false, integ := { c.integ with inForce := [9] } })), 3, by decide +kernel⟩,
   ⟨Tests.upAfter 1 (fun w => (w).modChan 3 (fun c => { c with inReset := false })), 3, by decide +kernel⟩,
   ⟨Tests.upAfter 2 (fun w => { (w.modChan 3 (fun c => { c with inReset := false, mash := { c.mash with queue := [⟨.segs [(0, 1, 1)], .host, some .host, some 0, none, false⟩] } })) with host := { w.host with port := { w.host.port with flight := some ⟨0x11, 4, false⟩ } } }), 3, ⟨.segs [(0, 1, 1)], .host, some .host, some 0, none, false⟩, ⟨0x11, 4, false⟩, by decide +kernel⟩,
   ⟨Tests.upAfter 1 (fun w => (w.setReg (R.CTL_RST.addr 3 0) 4).modChan 3 (fun c => { c with inReset := false, subHeld := 4 })), 3, 0, by decide +kernel⟩,
   ⟨Tests.upAfter 1 (fun w => (w.setReg (R.CTL_RST.addr 3 0) 4|>.put F.GRIST_STAT_SCAN 5 3).modChan 3 (fun c => { c with inReset := false, subHeld := 4 })), 3, R.GRIST_STAT.addr 3 0, by decide +kernel⟩,
   ⟨Tests.upAfter 1 (fun w => (w.setReg (R.CTL_RST.addr 3 0) 128|>.put F.PSQ_STAT_RUNNING 5 3).modChan 3 (fun c => { c with inReset := false, subHeld := 128 })), 3, by decide +kernel⟩,
   ⟨Tests.upAfter 1 (fun w => (w.setReg (R.CTL_RST.addr 3 0) 16|>.put F.CASK_STAT_DEPTH 30 3).modChan 3 (fun c => { c with inReset := false, subHeld := 16 })), 3, by decide +kernel⟩⟩

/-- The hypotheses of PowerEntryAndWake, clause by clause, are met. -/
theorem witness_PowerEntryAndWake :
    (∃ (s : State) (c : PowerCmd), s.dev.pwr.cmd = some c ∧ c.state = 2 ∧ s.dev.pwr.committed = false ∧ (List.range 8).all s.work.atRest = true ∧ s.dev.pwr.tapDone = true ∧ (List.range 8).all (fun n => (List.range 2).all (fun l => !(s.work.tapOf n l).ready)) = true ∧ s.get F.PWR_WAKE_PEND_PEND = 0) ∧
    (∃ (s : State) (c : PowerCmd), s.dev.pwr.cmd = some c ∧ c.state = 3 ∧ s.dev.pwr.committed = false ∧ (List.range 8).all s.work.atRest = true ∧ s.dev.pwr.tapDone = true ∧ (List.range 8).all (fun n => (List.range 2).all (fun l => !(s.work.tapOf n l).ready)) = true ∧ s.get F.PWR_WAKE_PEND_PEND = 0) ∧
    (∃ (s : State) (c : PowerCmd), s.dev.pwr.cmd = some c ∧ c.state = 4 ∧ s.dev.pwr.committed = false ∧ (List.range 8).all s.work.atRest = true ∧ s.dev.pwr.tapDone = true ∧ (List.range 8).all (fun n => (List.range 2).all (fun l => !(s.work.tapOf n l).ready)) = true ∧ s.get F.PWR_WAKE_PEND_PEND = 0) ∧
    (∃ (s : State) (c : PowerCmd) (x : Nat × Nat × Nat) (f : Flight), s.dev.pwr.cmd = some c ∧ c.state = 2 ∧ s.dev.pwr.committed = false ∧ (List.range 8).all s.work.atRest = true ∧ s.dev.pwr.tapDone = true ∧ (List.range 8).all (fun n => (List.range 2).all (fun l => !(s.work.tapOf n l).ready)) = true ∧ s.get F.PWR_WAKE_PEND_PEND ≠ 0 ∧ s.dev.pwr.source = some x ∧ x.1 < 16 ∧ x.2.1 < 8 ∧ x.2.2 < 4 ∧ c.origin = .host ∧ s.dev.host.port.flight = some f ∧ f.late = false) ∧
    (∃ (s : State) (c : PowerCmd) (ch : Fin 8) (j : Fin 2), s.dev.pwr.cmd = some c ∧ bitOf c.wakeMask 1 = true ∧ s.get F.PWR_STAT_STATE < 3 ∧ s.flag F.ENC_CFG_EN ch j = true) ∧
    (∃ (s : State) (c : PowerCmd), s.dev.pwr.cmd = some c ∧ bitOf c.wakeMask 1 = false ∧ s.get F.PWR_STAT_STATE < 4) ∧
    (∃ (s : State) (c : PowerCmd), s.dev.pwr.cmd = some c ∧ bitOf c.wakeMask 2 = true ∧ s.get F.PWR_STAT_STATE < 3) ∧
    (∃ (s : State) (c : PowerCmd), s.dev.pwr.cmd = some c ∧ bitOf c.wakeMask 2 = false ∧ s.get F.PWR_STAT_STATE < 4) ∧
    (∃ (s : State) (c : PowerCmd) (p : Fin 2), s.dev.pwr.cmd = some c ∧ bitOf c.wakeMask 3 = true ∧ s.get F.PWR_STAT_STATE < 3 ∧ s.dev.pwr.committed = true ∧ s.get F.NET_PORT_MODE 0 p ≠ 0) ∧
    (∃ (s : State) (c : PowerCmd), s.dev.pwr.cmd = some c ∧ bitOf c.wakeMask 3 = false ∧ s.get F.PWR_STAT_STATE < 4) ∧
    (∃ (s : State) (c : PowerCmd) (p : Fin 3), s.dev.pwr.cmd = some c ∧ bitOf c.wakeMask 4 = true ∧ s.get F.PWR_STAT_STATE < 3 ∧ s.dev.pwr.committed = true ∧ bitOf (s.get F.RHL_CFG_PORT_EN) p = true) ∧
    (∃ (s : State) (c : PowerCmd), s.dev.pwr.cmd = some c ∧ bitOf c.wakeMask 4 = false ∧ s.get F.PWR_STAT_STATE < 4) ∧
    (∃ (s : State) (c : PowerCmd), s.dev.pwr.cmd = some c ∧ bitOf c.wakeMask 5 = true ∧ s.get F.PWR_STAT_STATE < 3) ∧
    (∃ (s : State) (c : PowerCmd), s.dev.pwr.cmd = some c ∧ bitOf c.wakeMask 5 = false ∧ s.get F.PWR_STAT_STATE < 4) ∧
    (∃ (s : State) (c : PowerCmd), s.dev.pwr.cmd = some c ∧ bitOf c.wakeMask 6 = true ∧ s.get F.PWR_STAT_STATE < 3 ∧ s.dev.pwr.committed = true) ∧
    (∃ (s : State) (c : PowerCmd), s.dev.pwr.cmd = some c ∧ bitOf c.wakeMask 6 = false ∧ s.get F.PWR_STAT_STATE < 4) ∧
    (∃ (s : State) (c : PowerCmd), s.dev.pwr.cmd = some c ∧ bitOf c.wakeMask 7 = true ∧ s.get F.PWR_STAT_STATE < 3) ∧
    (∃ (s : State) (c : PowerCmd), s.dev.pwr.cmd = some c ∧ bitOf c.wakeMask 7 = false ∧ s.get F.PWR_STAT_STATE < 4) ∧
    (∃ (s : State) (c : PowerCmd), s.dev.pwr.cmd = some c ∧ bitOf c.wakeMask 8 = true ∧ s.get F.PWR_STAT_STATE < 3) ∧
    (∃ (s : State) (c : PowerCmd), s.dev.pwr.cmd = some c ∧ bitOf c.wakeMask 8 = false ∧ s.get F.PWR_STAT_STATE < 4) ∧
    (∃ (s : State) (c : PowerCmd), s.dev.pwr.cmd = some c ∧ c.state = 3 ∧ bitOf c.wakeMask 6 = true ∧ s.dev.pwr.committed = true ∧ s.get F.PWR_STAT_STATE = 3 ∧ s.dev.pwr.pmb = none ∧ s.dev.pwr.vcoreUp = false) ∧
    (∃ (s : State) (c : PowerCmd), s.dev.pwr.cmd = some c ∧ c.state = 4 ∧ bitOf c.wakeMask 5 = true ∧ s.get F.PWR_STAT_STATE = 4 ∧ s.dev.pwr.offWait = false) ∧
    (∃ (s : State) (c : PowerCmd) (ch : Fin 8) (low : Nat) (l : Nat), s.dev.pwr.cmd = some c ∧ c.state = 2 ∧ bitOf c.wakeMask 0 = true ∧ s.chState ch = stQuiesced ∧ bitOf s.dev.pwr.armed ch = true ∧ l ∈ (s.chan ch).seq.act.ladders ∧ bitOf low l = true ∧ bitOf (tabGet s.dev.pwr.masked 0 ch) l = false ∧ tabGet s.dev.pwr.lows 0 (8 * ch + l) = 1 ∧ l < 8 ∧ (s.chan ch).seq.act.ladders.Nodup ∧ s.work.pwrState ≠ 3) ∧
    (∃ (s : State) (c : PowerCmd) (ch : Fin 8) (low : Nat), s.dev.pwr.cmd = some c ∧ c.state = 2 ∧ bitOf c.wakeMask 0 = true ∧ s.chState ch = stQuiesced ∧ (s.chan ch).seq.act.ladders.all (fun l => !bitOf low l) = true) ∧
    (∃ (s : State) (c : PowerCmd) (x : Nat × Nat × Nat) (f : Flight), s.dev.pwr.cmd = some c ∧ s.get F.PWR_STAT_STATE = 1 ∧ c.state = 1 ∧ s.dev.pwr.committed = true ∧ s.dev.pwr.source = some x ∧ x.1 < 16 ∧ x.2.1 < 8 ∧ x.2.2 < 4 ∧ c.origin = .host ∧ s.dev.host.port.flight = some f ∧ f.late = false ∧ s.dev.host.held = none ∧ s.dev.fab.wrapQ = []) ∧
    (∃ (s : State) (c : PowerCmd) (x : Nat × Nat × Nat) (f : Flight), s.dev.pwr.cmd = some c ∧ s.get F.PWR_STAT_STATE = 2 ∧ c.state = 2 ∧ s.dev.pwr.committed = true ∧ s.dev.pwr.source = some x ∧ x.1 < 16 ∧ x.2.1 < 8 ∧ x.2.2 < 4 ∧ c.origin = .host ∧ s.dev.host.port.flight = some f ∧ f.late = false ∧ s.dev.host.held = none ∧ s.dev.fab.wrapQ = [] ∧ s.dev.pwr.lost = 0 ∧ s.work.member = false) ∧
    (∃ (s : State) (c : PowerCmd) (x : Nat × Nat × Nat) (f : Flight) (b : Fin 8), s.dev.pwr.cmd = some c ∧ s.get F.PWR_STAT_STATE = 3 ∧ s.dev.pwr.committed = true ∧ s.dev.pwr.source = some x ∧ x.1 < 16 ∧ x.2.1 < 8 ∧ x.2.2 < 4 ∧ c.origin = .host ∧ s.dev.host.port.flight = some f ∧ f.late = false ∧ s.dev.host.held = none ∧ s.dev.fab.wrapQ = [] ∧ s.dev.pwr.vcoreUp = true ∧ bitOf s.dev.pwr.lost (16 + b.val) = true ∧ (s.chan b).inReset = false) :=
  ⟨⟨Tests.upAfter 2 (fun w => { (w|>.put F.WAKE_REC_REG_NOACK 1 |>.put F.KILN_STAT_READY 1 3 |>.put F.TUN_STAT_STATE 2 0 1 |>.put F.RHL_PORT_LINK 1 0 2 |>.put F.STEEP_STAT_BORROWED 1 |>.put F.NET_PTP_STAT_STATE 2 |>.put F.PWR_STAT_ENTERING 1) with pwr := { Pwr.init with cmd := some ⟨.host, 2, 32, 3, 0⟩, tapDone := true } }), ⟨.host, 2, 32, 3, 0⟩, by decide +kernel⟩,
   ⟨Tests.upAfter 2 (fun w => { (w|>.put F.WAKE_REC_REG_NOACK 1 |>.put F.KILN_STAT_READY 1 3 |>.put F.TUN_STAT_STATE 2 0 1 |>.put F.RHL_PORT_LINK 1 0 2 |>.put F.STEEP_STAT_BORROWED 1 |>.put F.NET_PTP_STAT_STATE 2 |>.put F.PWR_STAT_ENTERING 1) with pwr := { Pwr.init with cmd := some ⟨.host, 3, 32, 3, 0⟩, tapDone := true } }), ⟨.host, 3, 32, 3, 0⟩, by decide +kernel⟩,
   ⟨Tests.upAfter 2 (fun w => { (w|>.put F.WAKE_REC_REG_NOACK 1 |>.put F.KILN_STAT_READY 1 3 |>.put F.TUN_STAT_STATE 2 0 1 |>.put F.RHL_PORT_LINK 1 0 2 |>.put F.STEEP_STAT_BORROWED 1 |>.put F.NET_PTP_STAT_STATE 2 |>.put F.PWR_STAT_ENTERING 1) with pwr := { Pwr.init with cmd := some ⟨.host, 4, 32, 3, 0⟩, tapDone := true } }), ⟨.host, 4, 32, 3, 0⟩, by decide +kernel⟩,
   ⟨Tests.upAfter 2 (fun w => { (w|>.put F.STEEP_STAT_BORROWED 1 |>.put F.PWR_WAKE_PEND_PEND 32) with host := { w.host with port := { w.host.port with flight := some ⟨0x31, 4, false⟩ } }, pwr := { Pwr.init with cmd := some ⟨.host, 2, 32, 0, 0⟩, tapDone := true, quiesced := 8, source := some (6, 0, 0) } }), ⟨.host, 2, 32, 0, 0⟩, (6, 0, 0), ⟨0x31, 4, false⟩, by decide +kernel⟩,
   ⟨Tests.upAfter 2 (fun w => { (w|>.put F.ENC_CFG_EN 1 3 1) with pwr := { Pwr.init with cmd := some ⟨.host, 2, 511, 0, 0⟩, committed := false } }), ⟨.host, 2, 511, 0, 0⟩, 3, 1, by decide +kernel⟩,
   ⟨Tests.upAfter 2 (fun w => { (w|>.put F.ENC_CFG_EN 1 3 1) with pwr := { Pwr.init with cmd := some ⟨.host, 2, 509, 0, 0⟩, committed := false } }), ⟨.host, 2, 509, 0, 0⟩, by decide +kernel⟩,
   ⟨Tests.upAfter 2 (fun w => { (w) with pwr := { Pwr.init with cmd := some ⟨.host, 2, 511, 0, 0⟩, committed := false } }), ⟨.host, 2, 511, 0, 0⟩, by decide +kernel⟩,
   ⟨Tests.upAfter 2 (fun w => { (w) with pwr := { Pwr.init with cmd := some ⟨.host, 2, 507, 0, 0⟩, committed := false } }), ⟨.host, 2, 507, 0, 0⟩, by decide +kernel⟩,
   ⟨Tests.upAfter 2 (fun w => { (w|>.put F.NET_PORT_MODE 1 0 1) with pwr := { Pwr.init with cmd := some ⟨.host, 2, 511, 0, 0⟩, committed := true } }), ⟨.host, 2, 511, 0, 0⟩, 1, by decide +kernel⟩,
   ⟨Tests.upAfter 2 (fun w => { (w|>.put F.NET_PORT_MODE 1 0 1) with pwr := { Pwr.init with cmd := some ⟨.host, 2, 503, 0, 0⟩, committed := true } }), ⟨.host, 2, 503, 0, 0⟩, by decide +kernel⟩,
   ⟨Tests.upAfter 2 (fun w => { (w|>.put F.RHL_CFG_PORT_EN 2) with pwr := { Pwr.init with cmd := some ⟨.host, 2, 511, 0, 0⟩, committed := true } }), ⟨.host, 2, 511, 0, 0⟩, 1, by decide +kernel⟩,
   ⟨Tests.upAfter 2 (fun w => { (w|>.put F.RHL_CFG_PORT_EN 2) with pwr := { Pwr.init with cmd := some ⟨.host, 2, 495, 0, 0⟩, committed := true } }), ⟨.host, 2, 495, 0, 0⟩, by decide +kernel⟩,
   ⟨Tests.upAfter 2 (fun w => { (w) with pwr := { Pwr.init with cmd := some ⟨.host, 2, 511, 0, 0⟩, committed := false } }), ⟨.host, 2, 511, 0, 0⟩, by decide +kernel⟩,
   ⟨Tests.upAfter 2 (fun w => { (w) with pwr := { Pwr.init with cmd := some ⟨.host, 2, 479, 0, 0⟩, committed := false } }), ⟨.host, 2, 479, 0, 0⟩, by decide +kernel⟩,
   ⟨Tests.upAfter 2 (fun w => { (w) with pwr := { Pwr.init with cmd := some ⟨.host, 2, 511, 0, 0⟩, committed := true } }), ⟨.host, 2, 511, 0, 0⟩, by decide +kernel⟩,
   ⟨Tests.upAfter 2 (fun w => { (w) with pwr := { Pwr.init with cmd := some ⟨.host, 2, 447, 0, 0⟩, committed := true } }), ⟨.host, 2, 447, 0, 0⟩, by decide +kernel⟩,
   ⟨Tests.upAfter 2 (fun w => { (w) with pwr := { Pwr.init with cmd := some ⟨.host, 2, 511, 0, 0⟩, committed := false } }), ⟨.host, 2, 511, 0, 0⟩, by decide +kernel⟩,
   ⟨Tests.upAfter 2 (fun w => { (w) with pwr := { Pwr.init with cmd := some ⟨.host, 2, 383, 0, 0⟩, committed := false } }), ⟨.host, 2, 383, 0, 0⟩, by decide +kernel⟩,
   ⟨Tests.upAfter 2 (fun w => { (w) with pwr := { Pwr.init with cmd := some ⟨.host, 2, 511, 0, 0⟩, committed := false } }), ⟨.host, 2, 511, 0, 0⟩, by decide +kernel⟩,
   ⟨Tests.upAfter 2 (fun w => { (w) with pwr := { Pwr.init with cmd := some ⟨.host, 2, 255, 0, 0⟩, committed := false } }), ⟨.host, 2, 255, 0, 0⟩, by decide +kernel⟩,
   ⟨Tests.upAfter 2 (fun w => { (w|>.put F.PWR_STAT_STATE 3) with pwr := { Pwr.init with cmd := some ⟨.host, 3, 64, 0, 0⟩, committed := true } }), ⟨.host, 3, 64, 0, 0⟩, by decide +kernel⟩,
   ⟨Tests.upAfter 2 (fun w => { (w|>.put F.PWR_STAT_STATE 4) with pwr := { Pwr.init with cmd := some ⟨.host, 4, 32, 0, 0⟩, committed := true } }), ⟨.host, 4, 32, 0, 0⟩, by decide +kernel⟩,
   ⟨Tests.upAfter 2 (fun w => { (w|>.putChState 3 stQuiesced |>.modChan 3 (fun c => { c with seq := { c.seq with act := { c.seq.act with roles := [3] } } })) with pwr := { Pwr.init with cmd := some ⟨.host, 2, 1, 0, 0⟩, armed := 8, lows := [(24, 1)] } }), ⟨.host, 2, 1, 0, 0⟩, 3, 1, 0, by decide +kernel⟩,
   ⟨Tests.upAfter 2 (fun w => { (w|>.putChState 3 stQuiesced |>.modChan 3 (fun c => { c with seq := { c.seq with act := { c.seq.act with roles := [3] } } })) with pwr := { Pwr.init with cmd := some ⟨.host, 2, 1, 0, 0⟩ } }), ⟨.host, 2, 1, 0, 0⟩, 3, 16, by decide +kernel⟩,
   ⟨Tests.upAfter 2 (fun w => { (w|>.put F.PWR_STAT_STATE 1 |>.modChan 3 (fun c => { c with seq := { c.seq with act := { c.seq.act with slots := [1] } } }) |>.put F.TUN_CTL_RUNNING 2) with host := { w.host with port := { w.host.port with flight := some ⟨0x31, 4, false⟩ } }, pwr := { Pwr.init with cmd := some ⟨.host, 1, 32, 0, 0⟩, committed := true, quiesced := 8, source := some (6, 0, 0) } }), ⟨.host, 1, 32, 0, 0⟩, (6, 0, 0), ⟨0x31, 4, false⟩, by decide +kernel⟩,
   ⟨Tests.upAfter 2 (fun w => { (w|>.put F.PWR_STAT_STATE 2 |>.modChan 3 (fun c => { c with seq := { c.seq with act := { c.seq.act with slots := [1] } } }) |>.put F.TUN_CTL_RUNNING 2) with host := { w.host with port := { w.host.port with flight := some ⟨0x31, 4, false⟩ } }, pwr := { Pwr.init with cmd := some ⟨.host, 2, 32, 0, 0⟩, committed := true, quiesced := 8, source := some (6, 0, 0) } }), ⟨.host, 2, 32, 0, 0⟩, (6, 0, 0), ⟨0x31, 4, false⟩, by decide +kernel⟩,
   ⟨Tests.upAfter 2 (fun w => { (w|>.put F.PWR_STAT_STATE 3 |>.put F.PWR_STAT_LATCHED 255) with host := { w.host with port := { w.host.port with flight := some ⟨0x31, 4, false⟩ } }, pwr := { Pwr.init with cmd := some ⟨.host, 3, 32, 0, 0⟩, committed := true, vcoreUp := true, lost := 0x80000, quiesced := 8, source := some (6, 0, 0) } }), ⟨.host, 3, 32, 0, 0⟩, (6, 0, 0), ⟨0x31, 4, false⟩, 3, by decide +kernel⟩⟩

/-- The hypotheses of RegulatorAndPads, clause by clause, are met. -/
theorem witness_RegulatorAndPads :
    (∃ (s : State) (target : Nat) (polls : Nat) (status : Nat), s.dev.pwr.pmb = some (target, polls) ∧ bitOf status 11 = false ∧ bitOf status 15 = false ∧ bitOf status 5 = false ∧ s.dev.pwr.source = none) ∧
    (∃ (s : State) (target : Nat) (polls : Nat) (status : Nat), s.dev.pwr.pmb = some (target, polls) ∧ bitOf status 11 = true ∧ polls + 1 < 40) ∧
    (∃ (s : State) (target : Nat) (polls : Nat), s.dev.pwr.pmb = some (target, polls) ∧ s.get F.PWR_PMB_STAT_ATTEMPTS < 4) ∧
    (∃ (s : State) (target : Nat) (polls : Nat) (status : Nat), s.dev.pwr.pmb = some (target, polls) ∧ bitOf status 11 = true ∧ 40 ≤ polls + 1 ∧ s.get F.PWR_PMB_STAT_ATTEMPTS < 4) ∧
    (∃ (s : State) (target : Nat) (polls : Nat) (mv : Nat), s.dev.pwr.pmb = some (target, polls) ∧ 4 ≤ s.get F.PWR_PMB_STAT_ATTEMPTS ∧ 720 ≤ mv ∧ mv ≤ 880 ∧ s.dev.pwr.source = none) ∧
    (∃ (s : State) (target : Nat) (polls : Nat) (mv : Nat), s.dev.pwr.pmb = some (target, polls) ∧ 4 ≤ s.get F.PWR_PMB_STAT_ATTEMPTS ∧ mv < 620 ∧ s.dev.rst.hold = .none) ∧
    (∃ (s : State), s.get F.PWR_STAT_STATE = 4 ∧ s.dev.pwr.offWait = true) ∧
    (∃ (s : State), s.get F.PWR_STAT_STATE ≤ 1) ∧
    (∃ (s : State), s.dev.rst.hold = .none ∧ s.work.relStep = 2) ∧
    (∃ (s : State), s.get F.PWR_STAT_LATCHED ≠ 0) :=
  ⟨⟨Tests.upAfter 2 (fun w => { (w) with pwr := { Pwr.init with pmb := some (650, 5) } }), 650, 5, 4, by decide +kernel⟩,
   ⟨Tests.upAfter 2 (fun w => { (w) with pwr := { Pwr.init with pmb := some (650, 5) } }), 650, 5, 0x800, by decide +kernel⟩,
   ⟨Tests.upAfter 2 (fun w => { (w|>.put F.PWR_PMB_STAT_ATTEMPTS 1) with pwr := { Pwr.init with pmb := some (650, 5) } }), 650, 5, by decide +kernel⟩,
   ⟨Tests.upAfter 2 (fun w => { (w|>.put F.PWR_PMB_STAT_ATTEMPTS 1) with pwr := { Pwr.init with pmb := some (650, 39) } }), 650, 39, 0x800, by decide +kernel⟩,
   ⟨Tests.upAfter 2 (fun w => { (w|>.put F.PWR_PMB_STAT_ATTEMPTS 4) with pwr := { Pwr.init with pmb := some (650, 5) } }), 650, 5, 800, by decide +kernel⟩,
   ⟨Tests.upAfter 2 (fun w => { (w|>.put F.PWR_PMB_STAT_ATTEMPTS 4) with pwr := { Pwr.init with pmb := some (650, 5) } }), 650, 5, 600, by decide +kernel⟩,
   ⟨Tests.upAfter 2 (fun w => { (w|>.put F.PWR_STAT_STATE 4) with pwr := { Pwr.init with pmb := some (650, 5), offWait := true } }), by decide +kernel⟩,
   ⟨Tests.upAfter 2, by decide +kernel⟩,
   ⟨Tests.after (fun w => { (w.put F.SYS_REL_STEP 2 |>.put F.RHL_STAT_STATE 3 |>.put F.NET_PORT_LINK 1 0 1 |>.put F.SYS_TICK_STAT_LOCK_STATE 2) with rst := { w.rst with hold := .none } }), by decide +kernel⟩,
   ⟨Tests.upAfter 2 (fun w => w.put F.PWR_STAT_LATCHED 255 |>.putChState 3 stRunning |>.modChan 3 (fun c => { c with inReset := false })), by decide +kernel⟩⟩

/-- The hypotheses of SecretsAndService, clause by clause, are met. -/
theorem witness_SecretsAndService :
    (∃ (s : State) (v : Word), s.accepts (R.SEC_CHAL.addr 0 0) v.toNat = true ∧ bitOf v.toNat 0 = true) ∧
    (∃ (s : State), s.flag F.SEC_STAT_NONCE_VALID = true ∧ s.dev.sec.nonceTick + 1024 ≤ s.dev.bounds) ∧
    (∃ (s : State), s.dev.bounds < s.dev.sec.nonceTick + 1024) ∧
    (∃ (s : State), s.flag F.SEC_STAT_LOCKOUT = true) ∧
    (∃ (s : State), s.flag F.SEC_STAT_NO_DEBUG = false ∧ s.dev.sec.erase = .none ∧ s.flag F.SEC_STAT_DEBUG_OPEN = false) ∧
    (∃ (s : State), s.flag F.SEC_STAT_NO_DEBUG = true) ∧
    (∃ (s : State) (v : Word), s.accepts (R.SEC_DBG_CTL.addr 0 0) v.toNat = true ∧ bitOf v.toNat 0 = true ∧ bitOf v.toNat 1 = false ∧ s.flag F.SEC_STAT_NO_DEBUG = false ∧ s.dev.sec.erase = .none ∧ s.flag F.SEC_STAT_DEBUG_OPEN = false) ∧
    (∃ (s : State) (v : Word), s.accepts (R.SEC_DBG_CTL.addr 0 0) v.toNat = true ∧ bitOf v.toNat 0 = false ∧ bitOf v.toNat 1 = true ∧ s.flag F.SEC_STAT_DEBUG_OPEN = true) ∧
    (∃ (s : State) (again : Bool), s.dev.sec.erase = .step 0 again ∧ (List.range 8).all s.work.atRest = true) ∧
    (∃ (s : State) (again : Bool), s.dev.sec.erase = .step 1 again ∧ 8 ≤ s.work.relStep) ∧
    (∃ (s : State) (again : Bool), s.dev.sec.erase = .step 2 again ∧ 8 ≤ s.work.relStep) ∧
    (∃ (s : State) (again : Bool) (a : Nat) (r : Nat), s.dev.sec.erase = .step 3 again ∧ 8 ≤ s.work.relStep ∧ (a < 0x200000 ∨ (0x01000000 ≤ a ∧ a < 0x01100000) ∨ (0x02000000 ≤ a ∧ a < 0x02100000)) ∧ r ≤ 8) ∧
    (∃ (s : State) (again : Bool), s.dev.sec.erase = .step 4 again ∧ 8 ≤ s.work.relStep) ∧
    (∃ (s : State) (again : Bool), s.dev.sec.erase = .step 5 again ∧ 8 ≤ s.work.relStep) :=
  ⟨⟨Tests.upAfter 2 (Tests.secWord 0), 1, by decide +kernel⟩,
   ⟨Tests.upAfter 2 (fun w => { (w |> Tests.secWord 16 |>.setReg (R.SEC_NONCE.addr 0 2) 7) with bounds := 1024 }), by decide +kernel⟩,
   ⟨Tests.upAfter 2 (fun w => { (w |> Tests.secWord 16) with bounds := 1023 }), by decide +kernel⟩,
   ⟨Tests.upAfter 2 (fun w => w |> Tests.secWord 262176), by decide +kernel⟩,
   ⟨Tests.upAfter 2 (fun w => w |> Tests.secWord 0 |>.modChan 3 (fun c => { c with running := true })), by decide +kernel⟩,
   ⟨Tests.upAfter 2 (fun w => w |> Tests.secWord 256 |>.modChan 3 (fun c => { c with running := true })), by decide +kernel⟩,
   ⟨Tests.upAfter 4 (fun w => w |> Tests.secWord 0 |>.modChan 3 (fun c => { c with running := true })), 0x5E1D0001, by decide +kernel⟩,
   ⟨Tests.upAfter 4 (fun w => w |> Tests.secWord 64), 2, by decide +kernel⟩,
   ⟨Tests.upAfter 2 (fun w => { (w.put F.SYS_REL_STEP 12) with sec := { w.sec with keys := [(2, [7])], erase := .step 0 false } }), false, by decide +kernel⟩,
   ⟨Tests.upAfter 2 (fun w => { (w |> Tests.secWord 2 |>.put F.SYS_REL_STEP 12) with sec := { w.sec with keys := [(2, [7])], erase := .step 1 false } }), false, by decide +kernel⟩,
   ⟨Tests.upAfter 2 (fun w => { (w.poke 0x03000005 9 |>.put F.SYS_REL_STEP 12) with sec := { w.sec with keys := [(2, [7])], erase := .step 2 false } }), false, by decide +kernel⟩,
   ⟨Tests.upAfter 2 (fun w => { (w.poke 0x01000005 9 |>.put F.CASK_STAT_COUNT 2 3 |>.put F.SYS_REL_STEP 12) with sec := { w.sec with keys := [(2, [7])], erase := .step 3 false } }), false, 0x01000005, 3, by decide +kernel⟩,
   ⟨Tests.upAfter 2 (fun w => { (w.put F.SYS_IMG_SERIAL_SERIAL 7 |>.put F.SYS_REL_STEP 12) with sec := { w.sec with keys := [(2, [7])], erase := .step 4 false } }), false, by decide +kernel⟩,
   ⟨Tests.upAfter 2 (fun w => { (w.put F.SYS_REL_STEP 12) with sec := { w.sec with keys := [(2, [7])], erase := .step 5 false } }), false, by decide +kernel⟩⟩

/-- The hypotheses of CountersAndTemperature, clause by clause, are met. -/
theorem witness_CountersAndTemperature :
    (∃ (s : State) (v : Word), s.accepts (R.MON_CMD.addr 0 0) v.toNat = true ∧ v.toNat % 32 = 1) ∧
    (∃ (s : State) (v : Word), s.accepts (R.MON_CMD.addr 0 0) v.toNat = true ∧ v.toNat % 32 = 2) ∧
    (∃ (s : State) (v : Word), s.accepts (R.MON_CMD.addr 0 0) v.toNat = true ∧ v.toNat % 32 = 4) ∧
    (∃ (s : State) (v : Word), s.accepts (R.MON_CMD.addr 0 0) v.toNat = true ∧ v.toNat % 32 = 8) ∧
    (∃ (s : State) (v : Word) (d : Nat), s.accepts (R.MON_CMD.addr 0 0) v.toNat = true ∧ v.toNat % 32 = 24 ∧ s.work.stampDue (s.reg (R.MON_STAMP.addr 0 0)) = some d) ∧
    (∃ (s : State) (cs : List Counter), s.get F.MON_CTL_AUTO_PER ≠ 0 ∧ s.dev.tick % s.get F.MON_CTL_AUTO_PER = 0 ∧ s.dev.mon.before = some cs) ∧
    (∃ (s : State), (s.get F.MON_CTL_AUTO_PER = 0 ∨ s.dev.tick % s.get F.MON_CTL_AUTO_PER ≠ 0)) ∧
    (∃ (s : State), 4 ≤ s.dev.temp.hot ∧ s.work.tempHalved = false) ∧
    (∃ (s : State), 1024 ≤ s.dev.temp.cool ∧ s.work.tempHalved = true) ∧
    (∃ (s : State) (ch : Fin 8), s.flag F.SYS_TEMP_OVER = false ∧ (s.chan ch).running = true ∧ (s.chan ch).kiln.quiesce = .none ∧ bitOf (s.work.activeMask &&& s.work.pairMask) ch = false) ∧
    (∃ (s : State) (ch : Fin 8), s.flag F.SYS_TEMP_OVER = false ∧ bitOf (s.work.activeMask &&& s.work.pairMask) ch = true) ∧
    (∃ (s : State) (ch : Fin 8), s.flag F.SYS_TEMP_OVER = true ∧ 1024 ≤ s.dev.temp.clear ∧ bitOf s.dev.temp.heldCh ch = true ∧ (s.chan ch).kiln.quiesce = .none) :=
  ⟨⟨Tests.upAfter 2 (fun w => w.setReg (R.MON_MASK.addr 0 0) 9), 1, by decide +kernel⟩,
   ⟨Tests.upAfter 2 (fun w => w.setReg (R.MON_MASK.addr 0 0) 9), 2, by decide +kernel⟩,
   ⟨Tests.upAfter 2 (fun w => w.setReg (R.MON_MASK.addr 0 0) 9), 4, by decide +kernel⟩,
   ⟨Tests.upAfter 2 (fun w => w.setReg (R.MON_MASK.addr 0 0) 9), 8, by decide +kernel⟩,
   ⟨Tests.upAfter 2 (fun w => w.setReg (R.MON_STAMP.addr 0 0) 20), 24, 20, by decide +kernel⟩,
   ⟨Tests.upAfter 2 (fun w => { (w.put F.MON_CTL_AUTO_PER 10) with tick := 20, mon := { w.mon with before := some [⟨0, 0x123456789, true, true, false⟩] } }), [⟨0, 0x123456789, true, true, false⟩], by decide +kernel⟩,
   ⟨Tests.upAfter 2 (fun w => { (w.put F.MON_CTL_AUTO_PER 10) with tick := 21, mon := { w.mon with before := some [] } }), by decide +kernel⟩,
   ⟨Tests.upAfter 2 (fun w => { (w.put F.SYS_TEMP_TJ 121 |>.modChan 3 (fun c => { c with running := true })) with temp := { w.temp with hot := 4 } }), by decide +kernel⟩,
   ⟨Tests.upAfter 2 (fun w => { (w.put F.SYS_TEMP_TJ 99 |>.put F.SYS_TEMP_HOT 1 |>.modChan 3 (fun c => { c with running := true })) with temp := { w.temp with cool := 1024 } }), by decide +kernel⟩,
   ⟨Tests.upAfter 2 (fun w => { (w.modChan 3 (fun c => { c with running := true })) with temp := { w.temp with clear := 9 } }), 3, by decide +kernel⟩,
   ⟨Tests.upAfter 2 (fun w => ((w.put F.PAIR_CFG_EN 1 |>.put F.PAIR_CFG_ROLE 1 |>.put F.PAIR_CFG_PAIR_MASK 0x0C |>.put F.PAIR_STAT_LINK 1 |>.put F.PAIR_PARTNER_LO_PARTNER_UID 55|>.put F.PAIR_STAT_ACTIVE 8).modPair (fun p => { p with shadow := false, auth := .passed }))), 3, by decide +kernel⟩,
   ⟨Tests.upAfter 2 (fun w => { (w.put F.SYS_TEMP_OVER 1 |>.modChan 3 (fun c => { c with running := true })) with temp := { w.temp with clear := 1024, heldCh := 8 } }), 3, by decide +kernel⟩⟩

/-- The hypotheses of EraseReadback, clause by clause, are met. -/
theorem witness_EraseReadback :
    (∃ (s : State) (n : Nat), s.dev.sec.erase = .step n false ∧ 8 ≤ s.work.relStep ∧ 1 ≤ n ∧ n ≤ 4) ∧
    (∃ (s : State) (n : Nat), s.dev.sec.erase = .step n true ∧ 8 ≤ s.work.relStep ∧ 1 ≤ n ∧ n ≤ 4) ∧
    (∃ (s : State) (n : Nat), s.dev.sec.erase = .step n true ∧ 8 ≤ s.work.relStep ∧ 1 ≤ n ∧ n ≤ 4 ∧ s.dev.rst.hold ≠ .fault) :=
  ⟨⟨Tests.upAfter 2 (fun w => { (w.put F.SYS_REL_STEP 12) with sec := { w.sec with keys := [(2, [7])], erase := .step 1 false } }), 1, by decide +kernel⟩,
   ⟨Tests.upAfter 2 (fun w => { (w.put F.SYS_REL_STEP 12) with sec := { w.sec with keys := [(2, [7])], erase := .step 1 true } }), 1, by decide +kernel⟩,
   ⟨Tests.upAfter 2 (fun w => { (w.put F.SYS_REL_STEP 12) with sec := { w.sec with keys := [], erase := .step 1 true } }), 1, by decide +kernel⟩⟩

/-- The hypotheses of StampedChangesFull, clause by clause, are met. -/
theorem witness_StampedChangesFull :
    (∃ (s : State) (ch : Fin 8) (d : Nat) (pl : List Byte) (late : Bool), s.hostReady = true ∧ s.work.modeAdmits 0x10 = true ∧ 1 ≤ byteAt pl 1 ∧ byteAt pl 1 ≤ 32 ∧ pl.length = 8 + 8 * byteAt pl 1 ∧ halfAt pl 2 ≤ 1 ∧ (List.range (byteAt pl 1)).all (fun i => decide (byteAt pl (9 + 8 * i) ≤ 1) && halfAt pl (10 + 8 * i) == 0) = true ∧ byteAt pl 0 = ch ∧ s.work.displayCheck ch = none ∧ (fieldEntries pl (byteAt pl 1)).all (fun e => (s.work.fieldDef ch e.1).isSome) = true ∧ (s.chan ch).swapPending = false ∧ (s.chan ch).mash.queue.length < 256 ∧ (if s.work.held ch then (none, false) else s.work.judgeStamp (if bitOf (halfAt pl 2) 0 then some (wordAt pl 4) else none)) = (some d, late) ∧ 64 ≤ (s.chan ch).mash.stamped) ∧
    (∃ (s : State) (ch : Fin 8) (pl : List Byte), s.hostReady = true ∧ s.work.modeAdmits 0x10 = true ∧ 1 ≤ byteAt pl 1 ∧ byteAt pl 1 ≤ 32 ∧ pl.length = 8 + 8 * byteAt pl 1 ∧ halfAt pl 2 ≤ 1 ∧ (List.range (byteAt pl 1)).all (fun i => decide (byteAt pl (9 + 8 * i) ≤ 1) && halfAt pl (10 + 8 * i) == 0) = true ∧ byteAt pl 0 = ch ∧ s.work.displayCheck ch = none ∧ (fieldEntries pl (byteAt pl 1)).all (fun e => (s.work.fieldDef ch e.1).isSome) = true ∧ (s.chan ch).swapPending = false ∧ (s.chan ch).mash.queue.length < 256 ∧ bitOf (halfAt pl 2) 0 = false ∧ 64 ≤ (s.chan ch).mash.stamped) ∧
    (∃ (s : State) (ch : Fin 8) (d : Nat) (pl : List Byte) (late : Bool), s.hostReady = true ∧ s.work.modeAdmits 0x10 = true ∧ 1 ≤ byteAt pl 1 ∧ byteAt pl 1 ≤ 32 ∧ pl.length = 8 + 8 * byteAt pl 1 ∧ halfAt pl 2 ≤ 1 ∧ (List.range (byteAt pl 1)).all (fun i => decide (byteAt pl (9 + 8 * i) ≤ 1) && halfAt pl (10 + 8 * i) == 0) = true ∧ byteAt pl 0 = ch ∧ s.work.displayCheck ch = none ∧ (fieldEntries pl (byteAt pl 1)).all (fun e => (s.work.fieldDef ch e.1).isSome) = true ∧ (s.chan ch).swapPending = false ∧ (s.chan ch).mash.queue.length < 256 ∧ (if s.work.held ch then (none, false) else s.work.judgeStamp (if bitOf (halfAt pl 2) 0 then some (wordAt pl 4) else none)) = (some d, late) ∧ (s.chan ch).mash.stamped = 63) ∧
    (∃ (s : State) (ch : Fin 8) (d : Nat) (pl : List Byte) (late : Bool), s.hostReady = true ∧ s.work.modeAdmits 0x11 = true ∧ 16 ≤ pl.length ∧ pl.length ≤ 264 ∧ pl.length % 8 = 0 ∧ byteAt pl 1 ≤ 1 ∧ byteAt pl 0 = ch ∧ s.work.displayCheck ch = none ∧ halfAt pl 2 ≤ 31 ∧ (segPairs pl).all (fun p => decide (p.1 ≤ 31) && decide (p.2.1 &&& s.get F.MASH_OWN_OWNED ch p.1 = 0)) = true ∧ (if s.work.held ch then (none, false) else s.work.judgeStamp (if bitOf (byteAt pl 1) 0 then some (wordAt pl 4) else none)) = (some d, late) ∧ (s.chan ch).swapPending = false ∧ 64 ≤ (s.chan ch).mash.stamped) ∧
    (∃ (s : State) (ch : Fin 8) (d : Nat) (pl : List Byte) (late : Bool), s.hostReady = true ∧ s.work.modeAdmits 0x12 = true ∧ pl.length = 8 ∧ byteAt pl 1 ≤ 1 ∧ halfAt pl 2 = 0 ∧ s.work.judgeStamp (if bitOf (byteAt pl 1) 0 then some (wordAt pl 4) else none) = (some d, late) ∧ bitOf (byteAt pl 0) ch = true ∧ (maskList (byteAt pl 0) 8).all (fun n => (s.work.displayCheck n).isNone && s.work.held n) = true ∧ 64 ≤ (s.chan ch).mash.stamped) ∧
    (∃ (s : State) (ch : Fin 8) (d : Nat) (pl : List Byte) (late : Bool), s.hostReady = true ∧ s.work.modeAdmits 0x18 = true ∧ pl.length = 12 ∧ byteAt pl 1 ≤ 3 ∧ halfAt pl 2 ≤ 1 ∧ halfAt pl 10 = 0 ∧ byteAt pl 0 = ch ∧ s.work.displayCheck ch = none ∧ (s.chan ch).blockHeld 10 = false ∧ s.work.judgeStamp (if bitOf (halfAt pl 2) 0 then some (wordAt pl 4) else none) = (some d, late) ∧ 64 ≤ (s.chan ch).mash.stamped ∧ halfAt pl 8 < s.work.alertN ch) ∧
    (∃ (s : State) (ch : Fin 8) (d : Nat) (pl : List Byte) (late : Bool), s.hostReady = true ∧ s.work.modeAdmits 0x18 = true ∧ pl.length = 12 ∧ byteAt pl 1 ≤ 3 ∧ halfAt pl 2 ≤ 1 ∧ halfAt pl 10 = 0 ∧ byteAt pl 0 = ch ∧ s.work.displayCheck ch = none ∧ (s.chan ch).blockHeld 10 = false ∧ s.work.judgeStamp (if bitOf (halfAt pl 2) 0 then some (wordAt pl 4) else none) = (some d, late) ∧ 64 ≤ (s.chan ch).mash.stamped ∧ halfAt pl 8 < s.work.alertN ch) ∧
    (∃ (s : State) (ch : Fin 8) (d : Nat) (pl : List Byte) (late : Bool), s.hostReady = true ∧ s.work.modeAdmits 0x18 = true ∧ pl.length = 12 ∧ byteAt pl 1 ≤ 3 ∧ halfAt pl 2 ≤ 1 ∧ halfAt pl 10 = 0 ∧ byteAt pl 0 = ch ∧ s.work.displayCheck ch = none ∧ (s.chan ch).blockHeld 10 = false ∧ s.work.judgeStamp (if bitOf (halfAt pl 2) 0 then some (wordAt pl 4) else none) = (some d, late) ∧ 64 ≤ (s.chan ch).mash.stamped ∧ halfAt pl 8 < s.work.alertN ch) ∧
    (∃ (s : State) (ch : Fin 8) (d : Nat) (pl : List Byte) (late : Bool), s.hostReady = true ∧ s.work.modeAdmits 0x18 = true ∧ pl.length = 12 ∧ byteAt pl 1 ≤ 3 ∧ halfAt pl 2 ≤ 1 ∧ halfAt pl 10 = 0 ∧ byteAt pl 0 = ch ∧ s.work.displayCheck ch = none ∧ (s.chan ch).blockHeld 10 = false ∧ s.work.judgeStamp (if bitOf (halfAt pl 2) 0 then some (wordAt pl 4) else none) = (some d, late) ∧ 64 ≤ (s.chan ch).mash.stamped) :=
  ⟨⟨Tests.upAfter 2 (fun w => w.modChan 3 (fun c => { c with inReset := false, regions := [(0, 36), (36, 36), (72, 4), (76, 2), (0, 0), (0, 0), (78, 2)], mash := { c.mash with changes := List.replicate 64 ⟨0, some 0, some 9, false, .reg 0 0⟩ } })), 3, 5, [3, 1, 1, 0, 5, 0, 0, 0, 4, 0, 0, 0, 42, 0, 0, 0], false, by decide +kernel⟩,
   ⟨Tests.upAfter 2 (fun w => w.modChan 3 (fun c => { c with inReset := false, regions := [(0, 36), (36, 36), (72, 4), (76, 2), (0, 0), (0, 0), (78, 2)], mash := { c.mash with changes := List.replicate 64 ⟨0, some 0, some 9, false, .reg 0 0⟩ } })), 3, [3, 1, 0, 0, 5, 0, 0, 0, 4, 0, 0, 0, 42, 0, 0, 0], by decide +kernel⟩,
   ⟨Tests.upAfter 2 (fun w => w.modChan 3 (fun c => { c with inReset := false, regions := [(0, 36), (36, 36), (72, 4), (76, 2), (0, 0), (0, 0), (78, 2)], mash := { c.mash with changes := List.replicate 63 ⟨0, some 0, some 9, false, .reg 0 0⟩ } })), 3, 5, [3, 1, 1, 0, 5, 0, 0, 0, 4, 0, 0, 0, 42, 0, 0, 0], false, by decide +kernel⟩,
   ⟨Tests.upAfter 2 (fun w => w.modChan 3 (fun c => { c with inReset := false, regions := [(0, 36), (36, 36), (72, 4), (76, 2), (0, 0), (0, 0), (78, 2)], mash := { c.mash with changes := List.replicate 64 ⟨0, some 0, some 9, false, .reg 0 0⟩ } })), 3, 5, [3, 1, 2, 0, 5, 0, 0, 0, 0xFF, 0, 0, 0, 1, 0, 0, 0], false, by decide +kernel⟩,
   ⟨Tests.upAfter 2 (fun w => (w.put F.MASH_CFG_SWAP_MODE 1 3).modChan 3 (fun c => { c with inReset := false, regions := [(0, 36), (36, 36), (72, 4), (76, 2), (0, 0), (0, 0), (78, 2)], mash := { c.mash with changes := List.replicate 64 ⟨0, some 0, some 9, false, .reg 0 0⟩ } })), 3, 5, [8, 1, 0, 0, 5, 0, 0, 0], false, by decide +kernel⟩,
   ⟨Tests.upAfter 2 (fun w => ((w.modChan 3 (fun c => { c with inReset := false, regions := [(0, 36), (36, 36), (72, 4), (76, 2), (0, 0), (0, 0), (78, 2)], mash := { c.mash with changes := List.replicate 64 ⟨0, some 0, some 9, false, .reg 0 0⟩ } })).poke 0x01061380 2).poke 0x01061382 16), 3, 5, [3, 0, 1, 0, 5, 0, 0, 0, 1, 0, 0, 0], false, by decide +kernel⟩,
   ⟨Tests.upAfter 2 (fun w => ((w.modChan 3 (fun c => { c with inReset := false, regions := [(0, 36), (36, 36), (72, 4), (76, 2), (0, 0), (0, 0), (78, 2)], mash := { c.mash with changes := List.replicate 64 ⟨0, some 0, some 9, false, .reg 0 0⟩ } })).poke 0x01061380 2).poke 0x01061382 16), 3, 5, [3, 0, 1, 0, 5, 0, 0, 0, 1, 0, 0, 0], false, by decide +kernel⟩,
   ⟨Tests.upAfter 2 (fun w => ((w.modChan 3 (fun c => { c with inReset := false, regions := [(0, 36), (36, 36), (72, 4), (76, 2), (0, 0), (0, 0), (78, 2)], mash := { c.mash with changes := List.replicate 64 ⟨0, some 0, some 9, false, .reg 0 0⟩ } })).poke 0x01061380 2).poke 0x01061382 16), 3, 5, [3, 0, 1, 0, 5, 0, 0, 0, 1, 0, 0, 0], false, by decide +kernel⟩,
   ⟨Tests.upAfter 2 (fun w => ((w.modChan 3 (fun c => { c with inReset := false, regions := [(0, 36), (36, 36), (72, 4), (76, 2), (0, 0), (0, 0), (78, 2)], mash := { c.mash with changes := List.replicate 64 ⟨0, some 0, some 9, false, .reg 0 0⟩ } })).poke 0x01061380 2).poke 0x01061382 16), 3, 5, [3, 0, 1, 0, 5, 0, 0, 0, 1, 0, 0, 0], false, by decide +kernel⟩⟩

/-- The hypotheses of StandbyRefusesDisplay, clause by clause, are met. -/
theorem witness_StandbyRefusesDisplay :
    (∃ (s : State) (ch : Fin 8) (pl : List Byte), s.hostReady = true ∧ s.work.modeAdmits 0x10 = true ∧ 1 ≤ byteAt pl 1 ∧ byteAt pl 1 ≤ 32 ∧ pl.length = 8 + 8 * byteAt pl 1 ∧ halfAt pl 2 ≤ 1 ∧ (List.range (byteAt pl 1)).all (fun i => decide (byteAt pl (9 + 8 * i) ≤ 1) && halfAt pl (10 + 8 * i) == 0) = true ∧ byteAt pl 0 = ch ∧ (s.chan ch).standby = true ∧ s.work.mashIsolated ch = false ∧ (s.work.mode = mdTest → s.work.inTestMask ch = false)) ∧
    (∃ (s : State) (ch : Fin 8) (pl : List Byte), s.hostReady = true ∧ s.work.modeAdmits 0x11 = true ∧ 16 ≤ pl.length ∧ pl.length ≤ 264 ∧ pl.length % 8 = 0 ∧ byteAt pl 1 ≤ 1 ∧ byteAt pl 0 = ch ∧ (s.chan ch).standby = true ∧ s.work.mashIsolated ch = false ∧ (s.work.mode = mdTest → s.work.inTestMask ch = false)) ∧
    (∃ (s : State) (ch : Fin 8) (pl : List Byte), s.hostReady = true ∧ s.work.modeAdmits 0x12 = true ∧ pl.length = 8 ∧ byteAt pl 1 ≤ 1 ∧ halfAt pl 2 = 0 ∧ bitOf (byteAt pl 0) ch = true ∧ (maskList (byteAt pl 0) 8).all (fun n => (s.work.displayCheck n).getD stState == stState) = true ∧ (s.chan ch).standby = true ∧ s.work.mashIsolated ch = false ∧ (s.work.mode = mdTest → s.work.inTestMask ch = false)) ∧
    (∃ (s : State) (ch : Fin 8) (pl : List Byte), s.hostReady = true ∧ s.work.modeAdmits 0x18 = true ∧ pl.length = 12 ∧ byteAt pl 1 ≤ 3 ∧ halfAt pl 2 ≤ 1 ∧ halfAt pl 10 = 0 ∧ byteAt pl 0 = ch ∧ (s.chan ch).standby = true ∧ s.work.mashIsolated ch = false ∧ (s.work.mode = mdTest → s.work.inTestMask ch = false)) ∧
    (∃ (s : State) (ch : Fin 8) (pl : List Byte), s.hostReady = true ∧ s.work.modeAdmits 0x18 = true ∧ pl.length = 12 ∧ byteAt pl 1 ≤ 3 ∧ halfAt pl 2 ≤ 1 ∧ halfAt pl 10 = 0 ∧ byteAt pl 0 = ch ∧ (s.chan ch).standby = true ∧ s.work.mashIsolated ch = false ∧ (s.work.mode = mdTest → s.work.inTestMask ch = false)) ∧
    (∃ (s : State) (ch : Fin 8) (pl : List Byte), s.hostReady = true ∧ s.work.modeAdmits 0x18 = true ∧ pl.length = 12 ∧ byteAt pl 1 ≤ 3 ∧ halfAt pl 2 ≤ 1 ∧ halfAt pl 10 = 0 ∧ byteAt pl 0 = ch ∧ (s.chan ch).standby = true ∧ s.work.mashIsolated ch = false ∧ (s.work.mode = mdTest → s.work.inTestMask ch = false)) ∧
    (∃ (s : State) (ch : Fin 8) (pl : List Byte), s.hostReady = true ∧ s.work.modeAdmits 0x18 = true ∧ pl.length = 12 ∧ byteAt pl 1 ≤ 3 ∧ halfAt pl 2 ≤ 1 ∧ halfAt pl 10 = 0 ∧ byteAt pl 0 = ch ∧ (s.chan ch).standby = true ∧ s.work.mashIsolated ch = false ∧ (s.work.mode = mdTest → s.work.inTestMask ch = false)) ∧
    (∃ (s : State) (ch : Fin 8) (pl : List Byte), s.hostReady = true ∧ s.work.modeAdmits 0x21 = true ∧ pl.length = 4 ∧ byteAt pl 0 = ch ∧ s.work.mode ≠ mdRecovery ∧ s.work.isolated ch = false ∧ (s.chan ch).blockHeld 4 = false ∧ s.work.ringFailed ch = false ∧ (s.chan ch).standby = true) :=
  ⟨⟨Tests.upAfter 2 (fun w => w.modChan 3 (fun c => { c with inReset := false, standby := true })), 3, [3, 1, 0, 0, 0, 0, 0, 0, 4, 0, 0, 0, 42, 0, 0, 0], by decide +kernel⟩,
   ⟨Tests.upAfter 2 (fun w => w.modChan 3 (fun c => { c with inReset := false, standby := true })), 3, [3, 0, 2, 0, 5, 0, 0, 0, 0xFF, 0, 0, 0, 1, 0, 0, 0], by decide +kernel⟩,
   ⟨Tests.upAfter 2 (fun w => w.modChan 3 (fun c => { c with inReset := false, standby := true })), 3, [8, 0, 0, 0, 0, 0, 0, 0], by decide +kernel⟩,
   ⟨Tests.upAfter 2 (fun w => w.modChan 3 (fun c => { c with inReset := false, standby := true })), 3, [3, 0, 0, 0, 0, 0, 0, 0, 1, 0, 0, 0], by decide +kernel⟩,
   ⟨Tests.upAfter 2 (fun w => w.modChan 3 (fun c => { c with inReset := false, standby := true })), 3, [3, 0, 0, 0, 0, 0, 0, 0, 1, 0, 0, 0], by decide +kernel⟩,
   ⟨Tests.upAfter 2 (fun w => w.modChan 3 (fun c => { c with inReset := false, standby := true })), 3, [3, 0, 0, 0, 0, 0, 0, 0, 1, 0, 0, 0], by decide +kernel⟩,
   ⟨Tests.upAfter 2 (fun w => w.modChan 3 (fun c => { c with inReset := false, standby := true })), 3, [3, 0, 0, 0, 0, 0, 0, 0, 1, 0, 0, 0], by decide +kernel⟩,
   ⟨Tests.upAfter 2 (fun w => w.modChan 3 (fun c => { c with inReset := false, standby := true })), 3, [3, 0, 0, 0], by decide +kernel⟩⟩

/-- The hypotheses of MemWriteModeAllOrNothing are met. -/
theorem witness_MemWriteModeAllOrNothing :
    (∃ (s : State) (k : Nat) (i : Nat) (pl : List Byte), s.hostReady = true ∧ pl.length = 4 + 4 * k ∧ i < k ∧ k ≤ 1024 ∧ accessOk (wordAt pl 0) (4 * k) = true ∧ regMapped (wordAt pl 0) = true ∧ (List.range k).all (fun j => !s.work.regHeld (wordAt pl 0 + 4 * j)) = true ∧ s.work.modeRefuses (wordAt pl 0 + 4 * i) (leAt (pl.drop 4) (4 * i) 4) = true) :=
  ⟨Tests.upAfter 2, 2, 1, [0x3C, 0, 0, 0x40, 1, 0, 0, 0, 7, 7, 7, 7], by decide +kernel⟩

/-- The hypotheses of RefusedAccesses, clause by clause, are met. -/
theorem witness_RefusedAccesses :
    (∃ (s : State) (pl : List Byte), s.hostReady = true ∧ pl.length = 6 ∧ 1 ≤ halfAt pl 4 ∧ halfAt pl 4 ≤ 4096 ∧ accessOk (wordAt pl 0) (halfAt pl 4) = false) ∧
    (∃ (s : State) (pl : List Byte), s.hostReady = true ∧ 5 ≤ pl.length ∧ pl.length ≤ 4100 ∧ accessOk (wordAt pl 0) (pl.length - 4) = false) :=
  ⟨⟨Tests.upAfter 2, [0, 0, 0, 0x50, 4, 0], by decide +kernel⟩,
   ⟨Tests.upAfter 2, [0, 0, 0, 0x50, 4], by decide +kernel⟩⟩

/-- The hypotheses of LevelPins, clause by clause, are met. -/
theorem witness_LevelPins :
    (∃ (s : State) (ch : Fin 8) (m : Fin 80), s.roleOf ch m = 0) ∧
    (∃ (s : State) (ch : Fin 8), (s.chState ch = stReset ∨ s.chState ch = stIsolated) ∧ bitOf (s.get F.PWR_STAT_LATCHED) ch = false) ∧
    (∃ (s : State) (ch : Fin 8) (m : Fin 80), (s.chState ch ≠ stReset ∧ s.chState ch ≠ stIsolated) ∧ (s.chan ch).standby = true ∧ bitOf (s.get F.PWR_STAT_LATCHED) ch = false ∧ 1 ≤ s.roleOf ch m ∧ s.roleOf ch m ≤ 4) ∧
    (∃ (s : State) (ch : Fin 8), bitOf (s.get F.PWR_STAT_LATCHED) ch = true) ∧
    (∃ (s : State) (ch : Fin 8) (m : Fin 80), s.roleOf ch m = 5 ∧ (s.chState ch ≠ stReset ∧ s.chState ch ≠ stIsolated) ∧ bitOf (s.get F.PWR_STAT_LATCHED) ch = false) ∧
    (∃ (s : State) (ch : Fin 8) (m : Fin 80) (k : Nat), (s.chState ch ≠ stReset ∧ s.chState ch ≠ stIsolated) ∧ (s.chan ch).standby = false ∧ bitOf (s.get F.PWR_STAT_LATCHED) ch = false ∧ (s.roleOf ch m = 1 ∨ s.roleOf ch m = 2) ∧ (s.chan ch).planRuns = false ∧ ((s.chan ch).kiln.quiesce = .none ∨ (s.chan ch).kiln.quiesce = .done ∨ (s.chan ch).kiln.quiesce = .discharge k)) ∧
    (∃ (s : State) (ch : Fin 8) (m : Fin 80) (k : Nat), (s.chState ch ≠ stReset ∧ s.chState ch ≠ stIsolated) ∧ (s.chan ch).standby = false ∧ bitOf (s.get F.PWR_STAT_LATCHED) ch = false ∧ (s.roleOf ch m = 1 ∨ s.roleOf ch m = 2) ∧ (s.chan ch).running = true ∧ (s.chan ch).kiln.quiesce = .settle k) ∧
    (∃ (s : State) (ch : Fin 8) (m : Fin 80) (x : SlotRun), (s.chState ch ≠ stReset ∧ s.chState ch ≠ stIsolated) ∧ (s.chan ch).standby = false ∧ bitOf (s.get F.PWR_STAT_LATCHED) ch = false ∧ (s.chan ch).planRuns = true ∧ (s.chan ch).seq.cur = some x ∧ (s.roleOf ch m = 3 ∨ s.roleOf ch m = 4)) ∧
    (∃ (s : State) (ch : Fin 8) (m : Fin 80) (x : SlotRun), (s.chState ch ≠ stReset ∧ s.chState ch ≠ stIsolated) ∧ (s.chan ch).standby = false ∧ bitOf (s.get F.PWR_STAT_LATCHED) ch = false ∧ (s.chan ch).planRuns = true ∧ (s.chan ch).seq.cur = some x ∧ (s.roleOf ch m = 1 ∨ s.roleOf ch m = 2) ∧ x.kind = kMirror) ∧
    (∃ (s : State) (ch : Fin 8) (m : Fin 80) (x : SlotRun), (s.chState ch ≠ stReset ∧ s.chState ch ≠ stIsolated) ∧ (s.chan ch).standby = false ∧ bitOf (s.get F.PWR_STAT_LATCHED) ch = false ∧ (s.chan ch).planRuns = true ∧ (s.chan ch).seq.cur = some x ∧ (s.roleOf ch m = 1 ∨ s.roleOf ch m = 2) ∧ x.kind = kKey ∧ (s.chan ch).seq.act.isLcd = true ∧ (s.work.scansNow ch = false ∨ (s.chan ch).seq.act.drives.all (fun y => y.1 != (m : Nat)) = true ∨ (s.chan ch).seq.act.drives = [((m : Nat), 0)])) ∧
    (∃ (s : State) (ch : Fin 8) (m : Fin 80) (x : SlotRun) (d : Nat), (s.chState ch ≠ stReset ∧ s.chState ch ≠ stIsolated) ∧ (s.chan ch).standby = false ∧ bitOf (s.get F.PWR_STAT_LATCHED) ch = false ∧ (s.chan ch).planRuns = true ∧ (s.chan ch).seq.cur = some x ∧ (s.roleOf ch m = 1 ∨ s.roleOf ch m = 2) ∧ x.kind = kKey ∧ s.work.scansNow ch = true ∧ (s.chan ch).seq.act.drives.find? (fun y => y.1 == (m : Nat)) = some ((m : Nat), d)) ∧
    (∃ (s : State) (ch : Fin 8) (m : Fin 80) (x : SlotRun), (s.chState ch ≠ stReset ∧ s.chState ch ≠ stIsolated) ∧ (s.chan ch).standby = false ∧ bitOf (s.get F.PWR_STAT_LATCHED) ch = false ∧ (s.chan ch).planRuns = true ∧ (s.chan ch).seq.cur = some x ∧ (s.roleOf ch m = 1 ∨ s.roleOf ch m = 2) ∧ x.kind = kDisplay ∧ (s.chan ch).seq.act.isLcd = true ∧ s.flag F.KILN_STAT_READY ch = false) ∧
    (∃ (s : State) (ch : Fin 8) (m : Fin 80) (x : SlotRun), (s.chState ch ≠ stReset ∧ s.chState ch ≠ stIsolated) ∧ (s.chan ch).standby = false ∧ bitOf (s.get F.PWR_STAT_LATCHED) ch = false ∧ (s.chan ch).planRuns = true ∧ (s.chan ch).seq.cur = some x ∧ (s.roleOf ch m = 1 ∨ s.roleOf ch m = 2) ∧ x.kind = kDisplay ∧ (s.chan ch).seq.act.isLcd = true ∧ s.flag F.KILN_STAT_READY ch = true ∧ (s.chan ch).kiln.parked.contains (m : Nat) = true) ∧
    (∃ (s : State) (ch : Fin 8) (m : Fin 80) (x : SlotRun) (step : Nat) (i : Nat), (s.chState ch ≠ stReset ∧ s.chState ch ≠ stIsolated) ∧ (s.chan ch).standby = false ∧ bitOf (s.get F.PWR_STAT_LATCHED) ch = false ∧ (s.chan ch).planRuns = true ∧ (s.chan ch).seq.cur = some x ∧ x.kind = kDisplay ∧ (s.chan ch).seq.act.isLcd = true ∧ s.flag F.KILN_STAT_READY ch = true ∧ step = (s.chan ch).seq.act.firstStep s.dev.tick + ((s.chan ch).seq.nDisp - 1) ∧ (s.chan ch).seq.act.bias ≠ 0 ∧ s.roleOf ch m = 1 ∧ i = roleIdx ((s.chan ch).seq.act.roles.getD m 0) ∧ (s.chan ch).kiln.parked.contains (m : Nat) = false) ∧
    (∃ (s : State) (ch : Fin 8) (m : Fin 80) (x : SlotRun) (step : Nat) (i : Nat), (s.chState ch ≠ stReset ∧ s.chState ch ≠ stIsolated) ∧ (s.chan ch).standby = false ∧ bitOf (s.get F.PWR_STAT_LATCHED) ch = false ∧ (s.chan ch).planRuns = true ∧ (s.chan ch).seq.cur = some x ∧ x.kind = kDisplay ∧ (s.chan ch).seq.act.isLcd = true ∧ s.flag F.KILN_STAT_READY ch = true ∧ step = (s.chan ch).seq.act.firstStep s.dev.tick + ((s.chan ch).seq.nDisp - 1) ∧ (s.chan ch).seq.act.bias ≠ 0 ∧ s.roleOf ch m = 2 ∧ i = roleIdx ((s.chan ch).seq.act.roles.getD m 0) ∧ (s.chan ch).kiln.parked.contains (m : Nat) = false) ∧
    (∃ (s : State) (ch : Fin 8) (m : Fin 80) (x : SlotRun), (s.chState ch ≠ stReset ∧ s.chState ch ≠ stIsolated) ∧ (s.chan ch).standby = false ∧ bitOf (s.get F.PWR_STAT_LATCHED) ch = false ∧ (s.chan ch).planRuns = true ∧ (s.chan ch).seq.cur = some x ∧ x.kind = kDisplay ∧ (s.chan ch).seq.act.isLcd = false ∧ s.roleOf ch m = 1) ∧
    (∃ (s : State) (ch : Fin 8) (m : Fin 80) (x : SlotRun) (e : Nat) (i : Nat), (s.chState ch ≠ stReset ∧ s.chState ch ≠ stIsolated) ∧ (s.chan ch).standby = false ∧ bitOf (s.get F.PWR_STAT_LATCHED) ch = false ∧ (s.chan ch).planRuns = true ∧ (s.chan ch).seq.cur = some x ∧ x.kind = kDisplay ∧ (s.chan ch).seq.act.isLcd = false ∧ s.roleOf ch m = 2 ∧ i = roleIdx ((s.chan ch).seq.act.roles.getD m 0) ∧ e = 64 * ((s.chan ch).seq.nDisp - 1) + i) ∧
    (∃ (s : State) (ch : Fin 8) (m : Fin 80) (x : SlotRun), (s.chState ch ≠ stReset ∧ s.chState ch ≠ stIsolated) ∧ (s.chan ch).standby = false ∧ bitOf (s.get F.PWR_STAT_LATCHED) ch = false ∧ (s.chan ch).planRuns = true ∧ (s.chan ch).seq.cur = some x ∧ (s.roleOf ch m = 1 ∨ s.roleOf ch m = 2) ∧ (x.kind = kGuard ∨ x.kind = 4 ∨ (x.kind = kDiag ∧ (s.work.chargeRuns ch = false ∨ (s.chan ch).seq.act.isLcd = false) ∧ (s.chan ch).darkRuns s.dev.tick = false))) ∧
    (∃ (s : State) (ch : Fin 8) (m : Fin 80) (x : SlotRun), (s.chState ch ≠ stReset ∧ s.chState ch ≠ stIsolated) ∧ (s.chan ch).standby = false ∧ bitOf (s.get F.PWR_STAT_LATCHED) ch = false ∧ (s.chan ch).planRuns = true ∧ (s.chan ch).seq.cur = some x ∧ (s.roleOf ch m = 1 ∨ s.roleOf ch m = 2) ∧ x.kind = kDiag ∧ (s.chan ch).seq.act.isLcd = true ∧ s.work.chargeRuns ch = true ∧ (m : Nat) ∈ (s.chan ch).chargeLines s.dev.tick) ∧
    (∃ (s : State) (ch : Fin 8) (m : Fin 80) (x : SlotRun), (s.chState ch ≠ stReset ∧ s.chState ch ≠ stIsolated) ∧ (s.chan ch).standby = false ∧ bitOf (s.get F.PWR_STAT_LATCHED) ch = false ∧ (s.chan ch).planRuns = true ∧ (s.chan ch).seq.cur = some x ∧ s.roleOf ch m = 2 ∧ x.kind = kDiag ∧ (s.chan ch).seq.act.isLcd = false ∧ (s.chan ch).darkRuns s.dev.tick = true) ∧
    (∃ (s : State), s.work.hostDeaf = true) ∧
    (∃ (s : State) (f : Flight), s.flag F.HOST_CFG_GEN = false ∧ s.dev.host.port.flight = some f) ∧
    (∃ (s : State), s.work.hostDeaf = false ∧ s.work.pwrState < 3 ∧ s.flag F.HOST_CFG_GEN = false ∧ s.dev.host.port.flight = none) ∧
    (∃ (s : State), s.work.hostDeaf = false ∧ s.work.pwrState < 3 ∧ s.flag F.HOST_CFG_GEN = true) :=
  ⟨⟨Tests.upAfter 2 (fun w => (((w.putChState 3 stRunning)).modChan 3 (fun c => { c with running := true, seq := { c.seq with act := { c.seq.act with roles := [1, 0x101, 2, 0x102, 3, 4, 0, 5, 6, 9, 0x119] } } }))), 3, 6, by decide +kernel⟩,
   ⟨Tests.after (fun w => w), 3, by decide +kernel⟩,
   ⟨Tests.upAfter 2 (fun w => (((w.putChState 3 stRunning)).modChan 3 (fun c => { c with running := true, seq := { c.seq with act := { c.seq.act with roles := [1, 0x101, 2, 0x102, 3, 4, 0, 5, 6, 9, 0x119] } }, standby := true }))), 3, 2, by decide +kernel⟩,
   ⟨Tests.upAfter 2 (fun w => (((w.putChState 3 stRunning).put F.PWR_STAT_LATCHED 8).modChan 3 (fun c => { c with running := true, seq := { c.seq with act := { c.seq.act with roles := [1, 0x101, 2, 0x102, 3, 4, 0, 5, 6, 9, 0x119] } } }))), 3, by decide +kernel⟩,
   ⟨Tests.upAfter 2 (fun w => (((w.putChState 3 stRunning)).modChan 3 (fun c => { c with running := true, seq := { c.seq with act := { c.seq.act with roles := [1, 0x101, 2, 0x102, 3, 4, 0, 5, 6, 9, 0x119] } }, psq := [{ Engine.init with dir := 1, out := 1 }] }))), 3, 7, by decide +kernel⟩,
   ⟨Tests.upAfter 2 (fun w => (((w.putChState 3 stQuiesced)).modChan 3 (fun c => { c with running := false, seq := { c.seq with act := { c.seq.act with roles := [1, 0x101, 2, 0x102, 3, 4, 0, 5, 6, 9, 0x119] } } }))), 3, 2, 0, by decide +kernel⟩,
   ⟨Tests.upAfter 2 (fun w => (((w.putChState 3 stRunning)).modChan 3 (fun c => { c with running := true, seq := { c.seq with act := { c.seq.act with roles := [1, 0x101, 2, 0x102, 3, 4, 0, 5, 6, 9, 0x119] } }, kiln := { c.kiln with quiesce := .settle 1 } }))), 3, 2, 1, by decide +kernel⟩,
   ⟨Tests.upAfter 2 (fun w => (((w.putChState 3 stRunning)).modChan 3 (fun c => { c with running := true, seq := { c.seq with act := { c.seq.act with roles := [1, 0x101, 2, 0x102, 3, 4, 0, 5, 6, 9, 0x119] }, cur := some ⟨0, kKey, 400, false⟩, nDisp := 1 }, blink := { c.blink with lit := [0] } }))), 3, 4, ⟨0, kKey, 400, false⟩, by decide +kernel⟩,
   ⟨Tests.upAfter 2 (fun w => (((w.putChState 3 stRunning)).modChan 3 (fun c => { c with running := true, seq := { c.seq with act := { c.seq.act with roles := [1, 0x101, 2, 0x102, 3, 4, 0, 5, 6, 9, 0x119] }, cur := some ⟨0, kMirror, 400, false⟩, nDisp := 1 }, blink := { c.blink with lit := [0] } }))), 3, 2, ⟨0, kMirror, 400, false⟩, by decide +kernel⟩,
   ⟨Tests.upAfter 2 (fun w => (((w.putChState 3 stRunning)).modChan 3 (fun c => { c with running := true, seq := { c.seq with act := { c.seq.act with roles := [1, 0x101, 2, 0x102, 3, 4, 0, 5, 6, 9, 0x119] }, cur := some ⟨0, kKey, 400, false⟩, nDisp := 1 }, blink := { c.blink with lit := [0] } }))), 3, 2, ⟨0, kKey, 400, false⟩, by decide +kernel⟩,
   ⟨Tests.upAfter 2 (fun w => (((w.putChState 3 stRunning)).put F.GRIST_CFG_EN 1 3 |>.modChan 3 (fun c => { c with running := true, seq := { c.seq with act := { c.seq.act with roles := [1, 0x101, 2, 0x102, 3, 4, 0, 5, 6, 9, 0x119] }, cur := some ⟨0, kKey, 400, false⟩, nDisp := 1 }, blink := { c.blink with lit := [0] } }))), 3, 10, ⟨0, kKey, 400, false⟩, 1, by decide +kernel⟩,
   ⟨Tests.upAfter 2 (fun w => (((w.putChState 3 stRunning)).modChan 3 (fun c => { c with running := true, seq := { c.seq with act := { c.seq.act with roles := [1, 0x101, 2, 0x102, 3, 4, 0, 5, 6, 9, 0x119] }, cur := some ⟨0, kDisplay, 400, false⟩, nDisp := 1 }, blink := { c.blink with lit := [0] } }))), 3, 2, ⟨0, kDisplay, 400, false⟩, by decide +kernel⟩,
   ⟨Tests.upAfter 2 (fun w => (((w.putChState 3 stRunning |>.put F.KILN_STAT_READY 1 3)).modChan 3 (fun c => { c with running := true, seq := { c.seq with act := { c.seq.act with roles := [1, 0x101, 2, 0x102, 3, 4, 0, 5, 6, 9, 0x119] }, cur := some ⟨0, kDisplay, 400, false⟩, nDisp := 1 }, kiln := { c.kiln with parked := [2] }, blink := { c.blink with lit := [0] } }))), 3, 2, ⟨0, kDisplay, 400, false⟩, by decide +kernel⟩,
   ⟨Tests.upAfter 2 (fun w => (((w.putChState 3 stRunning |>.put F.KILN_STAT_READY 1 3)).modChan 3 (fun c => { c with running := true, seq := { c.seq with act := { c.seq.act with bias := 4, roles := [1, 0x101, 2, 0x102, 3, 4, 0, 5, 6, 9, 0x119] }, cur := some ⟨0, kDisplay, 400, false⟩, nDisp := 1 }, blink := { c.blink with lit := [0] } }))), 3, 1, ⟨0, kDisplay, 400, false⟩, 0, 1, by decide +kernel⟩,
   ⟨Tests.upAfter 2 (fun w => (((w.putChState 3 stRunning |>.put F.KILN_STAT_READY 1 3)).modChan 3 (fun c => { c with running := true, seq := { c.seq with act := { c.seq.act with bias := 4, roles := [1, 0x101, 2, 0x102, 3, 4, 0, 5, 6, 9, 0x119] }, cur := some ⟨0, kDisplay, 400, false⟩, nDisp := 1 }, blink := { c.blink with lit := [0] } }))), 3, 2, ⟨0, kDisplay, 400, false⟩, 0, 0, by decide +kernel⟩,
   ⟨Tests.upAfter 2 (fun w => (((w.putChState 3 stRunning)).modChan 3 (fun c => { c with running := true, seq := { c.seq with act := { c.seq.act with cfg := 3, roles := [1, 0x101, 2, 0x102, 3, 4, 0, 5, 6, 9, 0x119] }, cur := some ⟨0, kDisplay, 400, false⟩, nDisp := 1 }, blink := { c.blink with lit := [0] } }))), 3, 0, ⟨0, kDisplay, 400, false⟩, by decide +kernel⟩,
   ⟨Tests.upAfter 2 (fun w => (((w.putChState 3 stRunning)).modChan 3 (fun c => { c with running := true, seq := { c.seq with act := { c.seq.act with cfg := 3, roles := [1, 0x101, 2, 0x102, 3, 4, 0, 5, 6, 9, 0x119] }, cur := some ⟨0, kDisplay, 400, false⟩, nDisp := 1 }, blink := { c.blink with lit := [0] } }))), 3, 2, ⟨0, kDisplay, 400, false⟩, 0, 0, by decide +kernel⟩,
   ⟨Tests.upAfter 2 (fun w => (((w.putChState 3 stRunning)).modChan 3 (fun c => { c with running := true, seq := { c.seq with act := { c.seq.act with roles := [1, 0x101, 2, 0x102, 3, 4, 0, 5, 6, 9, 0x119] }, cur := some ⟨0, kGuard, 400, false⟩, nDisp := 1 }, blink := { c.blink with lit := [0] } }))), 3, 2, ⟨0, kGuard, 400, false⟩, by decide +kernel⟩,
   ⟨Tests.upAfter 2 (fun w => (((w.putChState 3 stRunning |>.put F.KILN_STAT_READY 1 3)).modChan 3 (fun c => { c with inReset := false, running := true, seq := { c.seq with act := { c.seq.act with slots := [0x01000003], lcdEn := true, roles := [1, 0x101, 2, 0x102, 3, 4, 0, 5, 6, 9, 0x119] }, cur := some ⟨0, kDiag, 400, false⟩, nDisp := 1 }, blink := { c.blink with lit := [0] } }))), 3, 2, ⟨0, kDiag, 400, false⟩, by decide +kernel⟩,
   ⟨Tests.upAfter 2 (fun w => (((w.putChState 3 stRunning)).modChan 3 (fun c => { c with inReset := false, running := true, seq := { c.seq with act := { c.seq.act with cfg := 1, slots := [128000, 0x01000003], darkEn := true, roles := [1, 0x101, 2, 0x102, 3, 4, 0, 5, 6, 9, 0x119] }, cur := some ⟨0, kDiag, 400, false⟩, nDisp := 1 }, blink := { c.blink with lit := [0] } }))), 3, 2, ⟨0, kDiag, 400, false⟩, by decide +kernel⟩,
   ⟨State.reset, by decide +kernel⟩,
   ⟨Tests.upAfter 2 (fun w => { w with host := { w.host with port := { w.host.port with flight := some ⟨3, 4, false⟩ } } }), ⟨3, 4, false⟩, by decide +kernel⟩,
   ⟨Tests.upAfter 2, by decide +kernel⟩,
   ⟨Tests.upAfter 2 (fun w => w.put F.HOST_CFG_GEN 1), by decide +kernel⟩⟩

/-- The hypotheses of PairHandshake, clause by clause, are met. -/
theorem witness_PairHandshake :
    (∃ (s : State), s.work.pairOn = true ∧ s.get F.PAIR_CFG_ROLE = 1 ∧ s.work.pairUp = false ∧ s.dev.pair.auth = .idle ∧ (s.work.pairMac []).isSome = true) ∧
    (∃ (s : State), s.work.pairOn = true ∧ s.dev.pair.auth ≠ .passed ∧ (s.dev.pair.auth ≠ .idle ∨ s.get F.PAIR_CFG_ROLE ≠ 1 ∨ (s.work.pairMac []).isNone = true)) ∧
    (∃ (s : State), s.dev.pair.auth ≠ .passed) ∧
    (∃ (s : State) (key : List Byte), s.work.pairOn = true ∧ s.get F.PAIR_CFG_ROLE = 2 ∧ s.dev.sec.keys.find? (fun x => x.1 == 3) = some (3, key)) ∧
    (∃ (s : State), s.work.pairOn = true ∧ s.get F.PAIR_CFG_ROLE = 2 ∧ (s.work.pairMac []).isNone = true) ∧
    (∃ (s : State) (k : Shake) (key : List Byte), s.work.pairOn = true ∧ s.get F.PAIR_CFG_ROLE = 1 ∧ s.dev.pair.auth = .running k ∧ s.dev.sec.keys.find? (fun x => x.1 == 3) = some (3, key)) ∧
    (∃ (s : State) (k : Shake) (nn : List Byte) (mac : List Byte), s.work.pairOn = true ∧ s.get F.PAIR_CFG_ROLE = 1 ∧ s.dev.pair.auth = .running k ∧ s.work.pairMac (joinText rp1 s.work.partnerUid ownUid k.nr nn 0) ≠ some mac) ∧
    (∃ (s : State) (k : Shake), s.work.pairOn = true ∧ s.get F.PAIR_CFG_ROLE = 2 ∧ s.dev.pair.auth = .running k) ∧
    (∃ (s : State) (k : Shake), s.dev.pair.auth = .running k ∧ k.left = 0 ∧ s.dev.fab.shakes = []) :=
  ⟨⟨Tests.upAfter 2 (fun w => ((w.put F.PAIR_CFG_EN 1 |>.put F.PAIR_CFG_ROLE 1 |>.put F.PAIR_CFG_PAIR_MASK 0x0C |>.put F.PAIR_STAT_LINK 0 |>.put F.PAIR_PARTNER_LO_PARTNER_UID 55|>.put F.PAIR_CFG_ROLE 1).modPair (fun p => { p with auth := .idle }))|> fun w : Work => { w with sec := { w.sec with keys := [(3, [7])] } }), by decide +kernel⟩,
   ⟨Tests.upAfter 2 (fun w => ((w.put F.PAIR_CFG_EN 1 |>.put F.PAIR_CFG_ROLE 1 |>.put F.PAIR_CFG_PAIR_MASK 0x0C |>.put F.PAIR_STAT_LINK 0 |>.put F.PAIR_PARTNER_LO_PARTNER_UID 55|>.put F.PAIR_CFG_ROLE 1).modPair (fun p => { p with auth := .idle }))), by decide +kernel⟩,
   ⟨Tests.upAfter 2 (fun w => ((w.put F.PAIR_CFG_EN 1 |>.put F.PAIR_CFG_ROLE 1 |>.put F.PAIR_CFG_PAIR_MASK 0x0C |>.put F.PAIR_STAT_LINK 0 |>.put F.PAIR_PARTNER_LO_PARTNER_UID 55|>.put F.PAIR_CFG_ROLE 1).modPair (fun p => { p with auth := .failed }))|> fun w : Work => { w with sec := { w.sec with keys := [(3, [7])] } }), by decide +kernel⟩,
   ⟨Tests.upAfter 2 (fun w => ((w.put F.PAIR_CFG_EN 1 |>.put F.PAIR_CFG_ROLE 1 |>.put F.PAIR_CFG_PAIR_MASK 0x0C |>.put F.PAIR_STAT_LINK 0 |>.put F.PAIR_PARTNER_LO_PARTNER_UID 55|>.put F.PAIR_CFG_ROLE 2).modPair (fun p => { p with auth := .idle }))|> fun w : Work => { w with sec := { w.sec with keys := [(3, [7])] } }), [7], by decide +kernel⟩,
   ⟨Tests.upAfter 2 (fun w => ((w.put F.PAIR_CFG_EN 1 |>.put F.PAIR_CFG_ROLE 1 |>.put F.PAIR_CFG_PAIR_MASK 0x0C |>.put F.PAIR_STAT_LINK 0 |>.put F.PAIR_PARTNER_LO_PARTNER_UID 55|>.put F.PAIR_CFG_ROLE 2).modPair (fun p => { p with auth := .idle }))), by decide +kernel⟩,
   ⟨Tests.upAfter 2 (fun w => ((w.put F.PAIR_CFG_EN 1 |>.put F.PAIR_CFG_ROLE 1 |>.put F.PAIR_CFG_PAIR_MASK 0x0C |>.put F.PAIR_STAT_LINK 0 |>.put F.PAIR_PARTNER_LO_PARTNER_UID 55|>.put F.PAIR_CFG_ROLE 1).modPair (fun p => { p with auth := .running ⟨55, [1], [], 0, 9⟩ }))|> fun w : Work => { w with sec := { w.sec with keys := [(3, [7])] } }), ⟨55, [1], [], 0, 9⟩, [7], by decide +kernel⟩,
   ⟨Tests.upAfter 2 (fun w => ((w.put F.PAIR_CFG_EN 1 |>.put F.PAIR_CFG_ROLE 1 |>.put F.PAIR_CFG_PAIR_MASK 0x0C |>.put F.PAIR_STAT_LINK 0 |>.put F.PAIR_PARTNER_LO_PARTNER_UID 55|>.put F.PAIR_CFG_ROLE 1).modPair (fun p => { p with auth := .running ⟨55, [1], [], 0, 9⟩ }))), ⟨55, [1], [], 0, 9⟩, [2], [], by decide +kernel⟩,
   ⟨Tests.upAfter 2 (fun w => ((w.put F.PAIR_CFG_EN 1 |>.put F.PAIR_CFG_ROLE 1 |>.put F.PAIR_CFG_PAIR_MASK 0x0C |>.put F.PAIR_STAT_LINK 0 |>.put F.PAIR_PARTNER_LO_PARTNER_UID 55|>.put F.PAIR_CFG_ROLE 2).modPair (fun p => { p with auth := .running ⟨55, [1], [2], 0, 9⟩ }))|> fun w : Work => { w with sec := { w.sec with keys := [(3, [7])] } }), ⟨55, [1], [2], 0, 9⟩, by decide +kernel⟩,
   ⟨Tests.upAfter 2 (fun w => ((w.put F.PAIR_CFG_EN 1 |>.put F.PAIR_CFG_ROLE 1 |>.put F.PAIR_CFG_PAIR_MASK 0x0C |>.put F.PAIR_STAT_LINK 0 |>.put F.PAIR_PARTNER_LO_PARTNER_UID 55|>.put F.PAIR_CFG_ROLE 1).modPair (fun p => { p with auth := .running ⟨55, [1], [2], 0, 0⟩ }))|> fun w : Work => { w with sec := { w.sec with keys := [(3, [7])] } }), ⟨55, [1], [2], 0, 0⟩, by decide +kernel⟩⟩

end Sys2Proof.Tests
end

section
/-! PROOF SUPPORT. A G3 command executed at once by a host port that takes frames (R298): what its execution finds of the
state it came to, and what stands after it has answered. -/

namespace Sys2Proof.Machine

/-! ### What the execution of a host command starts from -/

section
variable (s : State) (op tag : Nat)

/-- A command in flight on the host port, and the registers that show it. -/
theorem Work.setFlight_host (w : Work) (f : Flight) :
    w.setFlight .host f = (w.setPort .host { w.host.port with flight := some f }).showHost := by rfl

@[simp] theorem Work.reg_setPort_host (w : Work) (p : Port) (a : Nat) : (w.setPort .host p).reg a = w.reg a := by rfl
@[simp] theorem Work.chan_setPort_host (w : Work) (p : Port) (n : Nat) : (w.setPort .host p).chan n = w.chan n := by rfl
@[simp] theorem Work.wr_setPort_host (w : Work) (p : Port) : (w.setPort .host p).wr = w.wr := by rfl
@[simp] theorem Work.mem_setPort_host (w : Work) (p : Port) : (w.setPort .host p).mem = w.mem := by rfl
@[simp] theorem Work.tick_setPort_host (w : Work) (p : Port) : (w.setPort .host p).tick = w.tick := by rfl
@[simp] theorem Work.mem_showHost (w : Work) : w.showHost.mem = w.mem := by
  simp only [Work.showHost, Work.putFlag, Work.put_mem]
@[simp] theorem Work.tick_showHost (w : Work) : w.showHost.tick = w.tick := by
  simp only [Work.showHost, Work.putFlag, Work.put_tick]

@[simp] theorem State.work_chan (n : Nat) : s.work.chan n = s.chan n := by rfl
@[simp] theorem State.work_tick : s.work.tick = s.dev.tick := by rfl

/-- The host port has the command in flight, and nothing else of it has changed. -/
@[simp] theorem State.hostPort_taken :
    (s.taken op tag).host.port = { s.dev.host.port with flight := some ⟨op, tag, false⟩ } := by
  unfold State.taken
  rw [Work.setFlight_host, Work.host_showHost]
  simp only [Work.setPort, Work.put_host, Work.ev_host, Work.countUp_eq]
  rfl

/-- Only registers that show the host's command have changed. -/
theorem State.reg_taken (a : Nat) (h : a ∉ hostRegs) : (s.taken op tag).reg a = s.work.reg a := by
  have hstat : a ≠ F.HOST_STAT_LAST_OP.addr 0 0 := fun e => h (by rw [e]; decide)
  have hcnt : a ≠ F.HOST_CNT_FRAMES.addr 0 0 := fun e => h (by rw [e]; decide)
  unfold State.taken
  rw [Work.setFlight_host, Work.reg_showHost _ a h, Work.reg_setPort_host, Work.reg_put_ne _ _ _ _ _ a hstat, Work.reg_ev,
    Work.countUp_eq, Work.reg_put_ne _ _ _ _ _ a hcnt]

/-- A field outside them reads as before. -/
theorem State.get_taken (f : Fld) (n k : Nat) (h : f.addr n k ∉ hostRegs) :
    (s.taken op tag).get f n k = s.work.get f n k := by
  unfold Work.get; rw [s.reg_taken op tag _ h]

/-- A channel's address is none of the host's. -/
theorem addr_notMem_hostRegs (f : Fld) (n k : Nat) (h : 0x40100000 ≤ f.base) : f.addr n k ∉ hostRegs := by
  have hlow : ∀ a ∈ hostRegs, a < 0x40100000 := by decide
  intro hm
  have := hlow _ hm
  unfold Fld.addr at this
  omega

@[simp] theorem State.chan_taken (n : Nat) : (s.taken op tag).chan n = s.chan n := by
  unfold State.taken
  rw [Work.setFlight_host, Work.chan_showHost, Work.chan_setPort_host, Work.chan_put, Work.chan_ev, Work.countUp_eq,
    Work.chan_put, State.work_chan]

@[simp] theorem State.wr_taken : (s.taken op tag).wr = [] := by
  unfold State.taken
  rw [Work.setFlight_host, Work.wr_showHost, Work.wr_setPort_host, Work.put_wr, Work.ev_wr, Work.countUp_eq, Work.put_wr,
    State.work_wr]

@[simp] theorem State.mem_taken : (s.taken op tag).mem = s.mem := by
  unfold State.taken
  rw [Work.setFlight_host, Work.mem_showHost, Work.mem_setPort_host, Work.put_mem, Work.ev_mem, Work.countUp_eq,
    Work.put_mem, State.work_mem]

@[simp] theorem State.tick_taken : (s.taken op tag).tick = s.dev.tick := by
  unfold State.taken
  rw [Work.setFlight_host, Work.tick_showHost, Work.tick_setPort_host, Work.put_tick, Work.ev_tick, Work.countUp_eq,
    Work.put_tick, State.work_tick]

/-! ### What a command reads of it -/

@[simp] theorem State.mode_taken : (s.taken op tag).mode = s.work.mode :=
  s.get_taken op tag _ 0 0 (by decide)

@[simp] theorem State.modeAdmits_taken (o : Nat) : (s.taken op tag).modeAdmits o = s.work.modeAdmits o := by
  simp only [Work.modeAdmits, State.mode_taken]

@[simp] theorem State.inTestMask_taken (n : Nat) : (s.taken op tag).inTestMask n = s.work.inTestMask n := by
  unfold Work.inTestMask; rw [s.get_taken op tag _ 0 0 (by decide)]

@[simp] theorem State.mashIsolated_taken (n : Nat) : (s.taken op tag).mashIsolated n = s.work.mashIsolated n := by
  simp only [Work.mashIsolated, State.chan_taken, State.work_chan]

@[simp] theorem State.bankFailed_taken (b : Nat) : (s.taken op tag).bankFailed b = s.work.bankFailed b := by
  unfold Work.bankFailed Work.flag
  rw [s.get_taken op tag _ 0 0 (by decide), s.get_taken op tag _ 0 0 (by decide)]

@[simp] theorem State.displayCheck_taken (n : Nat) : (s.taken op tag).displayCheck n = s.work.displayCheck n := by
  unfold Work.displayCheck
  simp only [State.mode_taken, State.inTestMask_taken, State.mashIsolated_taken, State.bankFailed_taken, State.chan_taken,
    State.work_chan]

@[simp] theorem State.region_taken (n r : Nat) : (s.taken op tag).region n r = s.work.region n r := by
  unfold Work.region; rw [State.chan_taken, State.work_chan]

@[simp] theorem State.peek_taken (a : Nat) : (s.taken op tag).peek a = s.work.peek a := by
  have hcell : (s.taken op tag).cell a = s.work.cell a := by
    unfold Work.cell; rw [State.wr_taken, State.mem_taken, State.work_wr, State.work_mem]
  unfold Work.peek
  cases bankOf a with
  | none => rfl
  | some b => simp only [hcell, State.bankFailed_taken]

@[simp] theorem State.regByte_taken (n r off : Nat) : (s.taken op tag).regByte n r off = s.work.regByte n r off := by
  simp only [Work.regByte, State.region_taken, State.peek_taken]

@[simp] theorem State.regLe_taken (n r off k : Nat) : (s.taken op tag).regLe n r off k = s.work.regLe n r off k := by
  simp only [Work.regLe, State.regByte_taken]

@[simp] theorem State.fieldDef_taken (n f : Nat) : (s.taken op tag).fieldDef n f = s.work.fieldDef n f := by
  simp only [Work.fieldDef, State.region_taken, State.regByte_taken, State.regLe_taken]

@[simp] theorem State.alertN_taken (n : Nat) : (s.taken op tag).alertN n = s.work.alertN n := by
  simp only [Work.alertN, State.regLe_taken]

@[simp] theorem State.held_taken (n : Nat) : (s.taken op tag).held n = s.work.held n := by
  simp only [Work.held, Work.curFlag, Work.cur, Work.curReg, State.chan_taken,
    s.reg_taken op tag _ (addr_notMem_hostRegs F.MASH_CFG_SWAP_MODE n 0 (by decide)), State.work_chan]

@[simp] theorem State.judgeStamp_taken (stamp : Option Nat) : (s.taken op tag).judgeStamp stamp = s.work.judgeStamp stamp := by
  have hdue : ∀ x, (s.taken op tag).stampDue x = s.work.stampDue x := fun x => by
    unfold Work.stampDue Work.tick32
    rw [State.tick_taken, State.work_tick]
  unfold Work.judgeStamp
  simp only [hdue]

@[simp] theorem State.stampedFull_taken (n : Nat) (due : Option Nat) :
    (s.taken op tag).stampedFull n due = s.work.stampedFull n due := by
  simp only [Work.stampedFull, State.chan_taken, State.work_chan]

/-- A block's reset is none of the host's registers, so the same registers are held. -/
@[simp] theorem State.regHeld_taken (a : Nat) : (s.taken op tag).regHeld a = s.work.regHeld a := by
  unfold Work.regHeld
  rw [s.get_taken op tag _ 0 0 (by decide)]
  simp only [State.chan_taken, State.work_chan]

/-- The registers that show the host's command hold no field of access RWX. -/
theorem sameRwx_hostRegs (a old old' v : Nat) (h : a ∈ hostRegs) (r : RegRow) (k : Nat) (hr : rowAt a = some (r, k)) :
    sameRwx r old v = sameRwx r old' v := by
  have hro : ∀ b ∈ hostRegs, (rowAt b).all (fun p => p.1.fields.all (fun f => f.acc != .rwx)) = true := by decide
  have hr' : ∀ f ∈ r.fields, (f.acc != .rwx) = true := by
    have := hro a h
    rw [hr] at this
    exact List.all_eq_true.mp this
  have hall : ∀ x, sameRwx r x v = true := fun x =>
    List.all_eq_true.mpr (fun f hf => by rw [hr' f hf]; rfl)
  rw [hall, hall]

/-- Mode judges a write as before the frame was counted (R19). -/
@[simp] theorem State.modeRefuses_taken (a v : Nat) : (s.taken op tag).modeRefuses a v = s.work.modeRefuses a v := by
  unfold Work.modeRefuses Work.expertOpen
  simp only [State.mode_taken, State.inTestMask_taken]
  cases hr : rowAt a with
  | none => rfl
  | some p =>
    obtain ⟨r, k⟩ := p
    have hsame : sameRwx r ((s.taken op tag).reg a) v = sameRwx r (s.work.reg a) v := by
      by_cases ha : a ∈ hostRegs
      · exact sameRwx_hostRegs a _ _ v ha r k hr
      · rw [s.reg_taken op tag a ha]
    simp only [hsame]

end

/-! ### A command that the host port takes, and one that it answers at once -/

/-- The host port takes a frame of the G3 table, counts it and executes the command (R298, HOST_CNT). -/
theorem State.command_host (s : State) (op tag : Nat) (pl : List Byte) (hready : s.hostReady = true)
    (hop : g3Ops.contains op = true) (habort : op ≠ opAbort) :
    s.work.command .host op tag pl =
      (((s.work.countUp F.HOST_CNT_FRAMES).ev 0x60).put F.HOST_STAT_LAST_OP op).execute .host op tag pl := by
  simp only [State.hostReady, Bool.and_eq_true, Bool.not_eq_true', beq_iff_eq, Option.isNone_iff_eq_none] at hready
  obtain ⟨⟨hdeaf, hrun⟩, hfree⟩ := hready
  have hfree' : s.work.host.port.flight = none := hfree
  have hframe : s.work.hostFrame op tag pl false =
      (((s.work.countUp F.HOST_CNT_FRAMES).ev 0x60).put F.HOST_STAT_LAST_OP op).serve .host op tag pl false := by
    simp only [Work.hostFrame, hdeaf, hrun, hfree', hop, Option.isSome_none, Bool.false_eq_true, false_and, if_false,
      Nat.zero_ne_one, Bool.not_true]
  have hserve : ∀ w : Work, w.serve .host op tag pl false = w.execute .host op tag pl := by
    intro w
    simp only [Work.serve, hop, Bool.not_true, Bool.false_eq_true, if_false, if_pos habort]
  change s.work.hostFrame op tag pl false = _
  rw [hframe, hserve]

/-- A command performed to its end is answered with what its performance says. -/
theorem State.command_host_done (s : State) (op tag st : Nat) (pl payload : List Byte) (w : Work)
    (hready : s.hostReady = true) (hop : g3Ops.contains op = true) (habort : op ≠ opAbort)
    (hperform : (s.taken op tag).perform .host op pl = (w, .done st payload)) :
    s.work.command .host op tag pl = w.finish .host st payload := by
  rw [s.command_host op tag pl hready hop habort]
  unfold State.taken at hperform
  unfold Work.execute
  rw [hperform]

/-- A command that stays in flight leaves what its performance left. -/
theorem State.command_host_waits (s : State) (op tag : Nat) (pl : List Byte) (w : Work) (hready : s.hostReady = true)
    (hop : g3Ops.contains op = true) (habort : op ≠ opAbort)
    (hperform : (s.taken op tag).perform .host op pl = (w, .waits)) : s.work.command .host op tag pl = w := by
  rw [s.command_host op tag pl hready hop habort]
  unfold State.taken at hperform
  unfold Work.execute
  rw [hperform]

/-- Between `s` and `t` the host's command has been answered, and nothing else but the registers that show it has changed. -/
def State.onlyAnswered (s t : State) (op tag st : Nat) (payload : List Byte) : Prop :=
  s.hostAnswered t op tag st payload ∧ (∀ n : Fin 8, t.chan n = s.chan n) ∧ s.sameRegs t hostRegs ∧ t.mem = s.mem

/-- A command that changes nothing when it is performed is answered, and nothing else is changed (R300). -/
theorem State.onlyAnswered_of_perform (s : State) (op tag st : Nat) (pl payload : List Byte) (hready : s.hostReady = true)
    (hop : g3Ops.contains op = true) (habort : op ≠ opAbort)
    (hperform : (s.taken op tag).perform .host op pl = (s.taken op tag).reply st payload) :
    s.onlyAnswered (s.run (fun w => w.command .host op tag pl)) op tag st payload := by
  have hend : s.work.command .host op tag pl = (s.taken op tag).complete .host op tag st payload := by
    rw [s.command_host_done op tag st pl payload _ hready hop habort hperform]
    exact Work.finish_host _ _ _ _ _ ⟨op, tag, false⟩ (by rw [State.hostPort_taken])
  refine ⟨?_, fun n => ?_, fun a ha => ?_, ?_⟩
  · change (s.work.command .host op tag pl).host.port = _
    rw [hend, Work.host_complete, State.hostPort_taken]
  · rw [State.run_chan, hend, Work.chan_complete_host, State.chan_taken]
  · rw [State.run_reg, hend, Work.reg_complete_host _ _ _ _ _ _ _ a ha, s.reg_taken op tag a ha]
    rfl
  · rw [State.run_mem, hend, Work.wr_complete_host, State.wr_taken, commitMem_nil]

end Sys2Proof.Machine
end

section
/-! PROOF. MEM_WRITE into a range of registers that the mode does not open (R20). -/

namespace Sys2Proof.Machine

theorem Work.perform_memWrite (w : Work) (o : Origin) (pl : List Byte) : w.perform o 0x03 pl = memWriteOp w o pl := by rfl

/-- A range without a held block that holds a word the mode refuses: ERR_MODE, and nothing is written (R20). -/
theorem Work.writeRegRange_modeRefused (w : Work) (a i : Nat) (bs : List Byte) (hi : i < bs.length / 4)
    (hheld : (List.range (bs.length / 4)).all (fun j => !w.regHeld (a + 4 * j)) = true)
    (hmode : w.modeRefuses (a + 4 * i) (leAt bs (4 * i) 4) = true) : w.writeRegRange a bs = w.reply stMode := by
  have hfree : (List.range (bs.length / 4)).any (fun j => w.regHeld (a + 4 * j)) = false := by
    simpa only [← List.not_any_eq_all_not, Bool.not_eq_true'] using hheld
  have hbarred : (List.range (bs.length / 4)).any (fun j => w.modeRefuses (a + 4 * j) (leAt bs (4 * j) 4)) = true :=
    List.any_eq_true.mpr ⟨i, List.mem_range.mpr hi, hmode⟩
  unfold Work.writeRegRange
  simp only [hfree, Bool.false_eq_true, if_false, if_pos hbarred]

/-- A MEM_WRITE of `k` words to registers is the write of their range. -/
theorem memWriteOp_regs (w : Work) (o : Origin) (pl : List Byte) (k : Nat) (hlen : pl.length = 4 + 4 * k) (hpos : 0 < k)
    (hmax : k ≤ 1024) (hok : accessOk (wordAt pl 0) (4 * k) = true) (hmapped : regMapped (wordAt pl 0) = true) :
    memWriteOp w o pl = w.writeRegRange (wordAt pl 0) (pl.drop 4) := by
  have hsize : ¬ (pl.length < 5 ∨ 4100 < pl.length) := by omega
  have hbytes : (pl.drop 4).length = 4 * k := by rw [List.length_drop]; omega
  unfold memWriteOp
  simp only [if_neg hsize, hbytes, hok, hmapped, Bool.not_true, Bool.false_eq_true, if_false, if_true]

/-- Settles O48: the mode check comes before the first word is written, so the command is answered on the state it came to. -/
theorem memWriteModeAllOrNothing : Obligations.MemWriteModeAllOrNothing := by
  unfold Obligations.MemWriteModeAllOrNothing
  intro s tag k i pl hready hlen hi hmax hok hmapped hheld hmode
  have hk : (pl.drop 4).length / 4 = k := by rw [List.length_drop]; omega
  have hperform : (s.taken 0x03 tag).perform .host 0x03 pl = (s.taken 0x03 tag).reply stMode := by
    rw [Work.perform_memWrite, memWriteOp_regs _ _ pl k hlen (by omega) hmax hok hmapped]
    refine Work.writeRegRange_modeRefused _ _ i _ (by omega) ?_ ?_
    · simpa only [hk, State.regHeld_taken] using hheld
    · rwa [State.modeRefuses_taken]
  obtain ⟨hanswer, hchan, hregs, hmem⟩ :=
    s.onlyAnswered_of_perform 0x03 tag stMode pl [] hready (by decide) (by decide) hperform
  exact ⟨_, rfl, hanswer, hregs, hchan, hmem⟩

end Sys2Proof.Machine
end

section
/-! PROOF SUPPORT. The Mash of a channel after a change or a delivery is put into it, and what is streamed to the standby. -/

namespace Sys2Proof.Machine

variable (w : Work)

@[simp] theorem Work.chan_showMash (n m : Nat) : (w.showMash n).chan m = w.chan m := by
  simp only [Work.showMash, Work.putFlag, Work.chan_put]

@[simp] theorem Work.host_showMash (n : Nat) : (w.showMash n).host = w.host := by
  simp only [Work.showMash, Work.putFlag, Work.put_host]

@[simp] theorem Work.chan_modMash (n : Fin 8) (f : Mash → Mash) :
    (w.modMash n f).chan n = { w.chan n with mash := f (w.chan n).mash } := by
  unfold Work.modMash
  rw [Work.chan_showMash, Work.chan_modChan_fin]

@[simp] theorem Work.host_modMash (n : Nat) (f : Mash → Mash) : (w.modMash n f).host = w.host := by
  unfold Work.modMash
  rw [Work.host_showMash, Work.modChan_host]

@[simp] theorem Work.chan_pairCommit (n m : Nat) (item : PairItem) : (w.pairCommit n item).chan m = w.chan m := by
  unfold Work.pairCommit
  split
  · rw [Work.chan_ev, Work.chan_send]; rfl
  · rfl

@[simp] theorem Work.host_pairCommit (n : Nat) (item : PairItem) : (w.pairCommit n item).host = w.host := by
  unfold Work.pairCommit
  split
  · rw [Work.ev_host, Work.send_host]
  · rfl

@[simp] theorem Work.chan_pairDisp (n m : Nat) (due : Option Nat) (ws : List DispWrite) :
    (w.pairDisp n due ws).chan m = w.chan m := by
  unfold Work.pairDisp
  induction ws generalizing w with
  | nil => rfl
  | cons d ds ih =>
    rw [List.foldl_cons, ih]
    cases d <;> exact w.chan_pairCommit n m _

@[simp] theorem Work.host_pairDisp (n : Nat) (due : Option Nat) (ws : List DispWrite) :
    (w.pairDisp n due ws).host = w.host := by
  unfold Work.pairDisp
  induction ws generalizing w with
  | nil => rfl
  | cons d ds ih =>
    rw [List.foldl_cons, ih]
    cases d <;> exact w.host_pairCommit n _

/-- Changes committed with a stamp take as many of the 64 places (R15). -/
theorem Mash.stamped_commit_some (m : Mash) (tick d : Nat) (ord : Option Nat) (late : Bool) (what : List Chg) :
    (m.commit tick ord (some d) late what).stamped = m.stamped + what.length := by
  simp [Mash.stamped, Mash.commit, List.filter_append, List.filter_map, Function.comp_def]

/-! ### A delivery of fields drawn (R159) -/

/-- One entry of a FIELD_SET drawn after those before it. -/
def fieldDrawn (n : Nat) (p : Work × Draw) (e : Nat × Bool × Nat) : Work × Draw :=
  (if (p.1.drawField n e.1 e.2.2 e.2.1).2 then p.1.raise F.MASH_ERR_SRC_RANGE n else p.1,
    { p.2 with disp := p.2.disp ++ (p.1.drawField n e.1 e.2.2 e.2.1).1 })

theorem Work.drawBody_fields (n : Nat) (es : List (Nat × Bool × Nat)) :
    w.drawBody n (.fields es) = es.foldl (fieldDrawn n) (w, ⟨[], [], [], []⟩) := by rfl

/-- Entries drawn only add display writes to what has been drawn. -/
theorem foldl_fieldDrawn (n : Nat) (es : List (Nat × Bool × Nat)) (p : Work × Draw) :
    (es.foldl (fieldDrawn n) p).2.alerts = p.2.alerts ∧ (es.foldl (fieldDrawn n) p).2.lamps = p.2.lamps ∧
      p.2.disp <+: (es.foldl (fieldDrawn n) p).2.disp := by
  induction es generalizing p with
  | nil => exact ⟨rfl, rfl, List.prefix_refl _⟩
  | cons e es ih =>
    obtain ⟨halerts, hlamps, hdisp⟩ := ih (fieldDrawn n p e)
    exact ⟨halerts, hlamps, (List.prefix_append _ _).trans hdisp⟩

/-- A defined field that is drawn writes at least its value record. -/
theorem Work.drawField_ne_nil (n f v : Nat) (bad : Bool) (h : (w.fieldDef n f).isSome = true) :
    (w.drawField n f v bad).1 ≠ [] := by
  obtain ⟨fd, hfd⟩ := Option.isSome_iff_exists.mp h
  unfold Work.drawField
  rw [hfd]
  simp

/-- Display writes alone commit as one change. -/
theorem Draw.changes_of_disp (x : Draw) (halerts : x.alerts = []) (hlamps : x.lamps = []) (hdisp : x.disp ≠ []) :
    x.changes = [.disp x.disp] := by
  simp [Draw.changes, halerts, hlamps, hdisp]

/-- A FIELD_SET of defined fields commits one change, whatever the number of its entries. -/
theorem Work.changes_drawBody_fields (n : Nat) (es : List (Nat × Bool × Nat)) (hne : es ≠ [])
    (hdef : es.all (fun e => (w.fieldDef n e.1).isSome) = true) :
    (w.drawBody n (.fields es)).2.changes.length = 1 := by
  cases es with
  | nil => exact absurd rfl hne
  | cons e es =>
    rw [List.all_cons, Bool.and_eq_true] at hdef
    rw [Work.drawBody_fields, List.foldl_cons]
    obtain ⟨halerts, hlamps, hdisp⟩ := foldl_fieldDrawn n es (fieldDrawn n (w, ⟨[], [], [], []⟩) e)
    have hwrites : (es.foldl (fieldDrawn n) (fieldDrawn n (w, ⟨[], [], [], []⟩) e)).2.disp ≠ [] := fun hnil =>
      w.drawField_ne_nil n e.1 e.2.2 e.2.1 hdef.1 (List.prefix_nil.mp (hnil ▸ hdisp))
    rw [Draw.changes_of_disp _ halerts hlamps hwrites, List.length_singleton]

/-! ### A delivery accepted (R15, R160, R162) -/

/-- A stamped delivery that finds all 64 places taken is answered BUSY and queued nowhere (R15). -/
theorem Work.acceptDelivery_full (n d : Nat) (o : Origin) (body : DelivBody) (stamp : Option Nat) (late : Bool)
    (hswap : (w.chan n).swapPending = false)
    (hdue : (if w.held n then (none, false) else w.judgeStamp stamp) = (some d, late))
    (hfull : 64 ≤ (w.chan n).mash.stamped) : w.acceptDelivery n o body stamp = w.reply stBusy := by
  have hplaces : w.stampedFull n (some d) = true := by simpa [Work.stampedFull] using hfull
  unfold Work.acceptDelivery
  simp only [hdue, hswap, hplaces, Bool.false_eq_true, if_false, if_true, ite_self]

/-- A delivery without a stamp enters the queue, whatever number of stamped changes waits (R15). -/
theorem Work.acceptDelivery_unstamped (n : Nat) (o : Origin) (body : DelivBody) (hswap : (w.chan n).swapPending = false)
    (hroom : (w.chan n).mash.queue.length < 256) :
    w.acceptDelivery n o body none =
      (w.modMash n (fun m => { m with queue := m.queue ++ [⟨body, o, some o, w.ordNow n, none, false⟩] }), .waits) := by
  have hdue : (if w.held n then (none, false) else w.judgeStamp none) = (none, false) := ite_self _
  unfold Work.acceptDelivery
  simp only [hdue, hswap, Nat.not_le.mpr hroom, Work.stampedFull, Delivery.stamped, Option.isSome_none, Bool.false_and,
    Bool.or_self, Bool.false_eq_true, if_false]

/-- A stamped delivery that finds a place is queued, and its changes take their places at once (R15, R160). -/
theorem Work.acceptDelivery_stamped (n : Fin 8) (d : Nat) (o : Origin) (body : DelivBody) (stamp : Option Nat) (late : Bool)
    (hswap : (w.chan n).swapPending = false) (hroom : (w.chan n).mash.queue.length < 256)
    (hdue : (if w.held n then (none, false) else w.judgeStamp stamp) = (some d, late))
    (hplace : (w.chan n).mash.stamped < 64) :
    ∃ w', w.acceptDelivery n o body stamp = (w', .waits) ∧ w'.host = w.host ∧
      (w'.chan n).mash.stamped = (w.chan n).mash.stamped + (w.drawBody n body).2.changes.length := by
  have hplaces : w.stampedFull n (some d) = false := by simpa [Work.stampedFull] using hplace
  unfold Work.acceptDelivery
  simp only [hdue, hswap, Nat.not_le.mpr hroom, hplaces, Delivery.stamped, Option.isSome_some, Bool.true_or,
    Bool.false_eq_true, if_false, if_true]
  refine ⟨_, rfl, ?_, ?_⟩
  · simp only [Work.host_pairDisp, Work.host_modMash]
  · simp only [Work.chan_pairDisp, Work.chan_modMash]
    exact Mash.stamped_commit_some _ _ _ _ _ _

end Sys2Proof.Machine
end

section
/-! PROOF. At most 64 stamped changes wait on a channel (R15): the display commands that find them all, and those that find a
place. -/

namespace Sys2Proof.Machine

/-! ### The commands of the display performed -/

section
variable (w : Work) (o : Origin) (pl : List Byte)

theorem Work.perform_fieldSet (h : w.modeAdmits 0x10 = true) : w.perform o 0x10 pl = fieldSetOp w o pl := by
  unfold Work.perform; rw [h]; rfl

theorem Work.perform_segWrite (h : w.modeAdmits 0x11 = true) : w.perform o 0x11 pl = segWriteOp w o pl := by
  unfold Work.perform; rw [h]; rfl

theorem Work.perform_imageSwap (h : w.modeAdmits 0x12 = true) : w.perform o 0x12 pl = imageSwapOp w pl := by
  unfold Work.perform; rw [h]; rfl

theorem Work.perform_alert (h : w.modeAdmits 0x18 = true) : w.perform o 0x18 pl = alertOp w o pl := by
  unfold Work.perform; rw [h]; rfl

/-- A FIELD_SET whose payload is in order hands its entries to the Mash (R162). -/
theorem fieldSetOp_accepts (n : Nat) (hmin : 1 ≤ byteAt pl 1) (hmax : byteAt pl 1 ≤ 32)
    (hlen : pl.length = 8 + 8 * byteAt pl 1) (hflags : halfAt pl 2 ≤ 1)
    (hentries : (List.range (byteAt pl 1)).all
      (fun i => decide (byteAt pl (9 + 8 * i) ≤ 1) && halfAt pl (10 + 8 * i) == 0) = true)
    (hn : byteAt pl 0 = n) (hcheck : w.displayCheck n = none)
    (hdef : (fieldEntries pl (byteAt pl 1)).all (fun e => (w.fieldDef n e.1).isSome) = true) :
    fieldSetOp w o pl = w.acceptDelivery n o (.fields (fieldEntries pl (byteAt pl 1)))
      (if bitOf (halfAt pl 2) 0 then some (wordAt pl 4) else none) := by
  have hreserved : (List.range (byteAt pl 1)).any
      (fun i => byteAt pl (9 + 8 * i) / 2 != 0 || halfAt pl (10 + 8 * i) != 0) = false := by
    rw [List.any_eq_false]
    intro i hi
    have hentry := List.all_eq_true.mp hentries i hi
    simp only [Bool.and_eq_true, decide_eq_true_eq, beq_iff_eq] at hentry
    simp only [Bool.or_eq_true, bne_iff_ne, not_or, not_not]
    omega
  have hform : ¬ (byteAt pl 1 < 1 ∨ 32 < byteAt pl 1 ∨ pl.length ≠ 8 + 8 * byteAt pl 1 ∨ halfAt pl 2 / 2 ≠ 0 ∨
      (List.range (byteAt pl 1)).any (fun i => byteAt pl (9 + 8 * i) / 2 != 0 || halfAt pl (10 + 8 * i) != 0) = true) := by
    simp only [hreserved, Bool.false_eq_true, or_false]
    omega
  have hfields : (fieldEntries pl (byteAt pl 1)).any (fun e => (w.fieldDef n e.1).isNone) = false := by
    simpa only [← List.not_any_eq_all_not, Bool.not_eq_true', ← Option.not_isNone] using hdef
  unfold fieldSetOp
  simp only [if_neg hform, hn, hcheck, hfields, Bool.false_eq_true, if_false]

/-- A SEG_WRITE whose payload is in order, and which names no owned element, hands its pairs to the Mash (R163). -/
theorem segWriteOp_accepts (n : Nat) (hmin : 16 ≤ pl.length) (hmax : pl.length ≤ 264) (hpairs : pl.length % 8 = 0)
    (hflags : byteAt pl 1 ≤ 1) (hn : byteAt pl 0 = n) (hcheck : w.displayCheck n = none) (hfirst : halfAt pl 2 ≤ 31)
    (hfree : (segPairs pl).all (fun p => decide (p.1 ≤ 31) && decide (p.2.1 &&& w.get F.MASH_OWN_OWNED n p.1 = 0)) = true) :
    segWriteOp w o pl =
      w.acceptDelivery n o (.segs (segPairs pl)) (if bitOf (byteAt pl 1) 0 then some (wordAt pl 4) else none) := by
  have hform : ¬ (pl.length < 16 ∨ 8 + 8 * 32 < pl.length ∨ pl.length % 8 ≠ 0 ∨ byteAt pl 1 / 2 ≠ 0) := by omega
  have hpair : ∀ p ∈ segPairs pl, p.1 ≤ 31 ∧ p.2.1 &&& w.get F.MASH_OWN_OWNED n p.1 = 0 := by
    simpa only [List.all_eq_true, Bool.and_eq_true, decide_eq_true_eq] using hfree
  have hunowned : (segPairs pl).any
      (fun p => decide (p.1 < 32) && decide (p.2.1 &&& w.get F.MASH_OWN_OWNED n p.1 ≠ 0)) = false := by
    rw [List.any_eq_false]
    intro p hp
    simp [(hpair p hp).2]
  have hwords : ¬ (31 < halfAt pl 2 ∨ (segPairs pl).any (fun p => decide (31 < p.1)) = true) := by
    simp only [List.any_eq_true, decide_eq_true_eq, not_or, not_exists, not_and, Nat.not_lt]
    exact ⟨hfirst, fun p hp => (hpair p hp).1⟩
  unfold segWriteOp
  simp only [if_neg hform, hn, hcheck, hunowned, if_neg hwords, Bool.false_eq_true, if_false]

/-- A stamped IMAGE_SWAP of channels in HELD, on one of which all 64 places are taken, is answered BUSY (R15, R164). -/
theorem imageSwapOp_full (n d : Nat) (late : Bool) (hlen : pl.length = 8) (hflags : byteAt pl 1 ≤ 1) (hzero : halfAt pl 2 = 0)
    (hdue : w.judgeStamp (if bitOf (byteAt pl 1) 0 then some (wordAt pl 4) else none) = (some d, late))
    (hn : n ∈ maskList (byteAt pl 0) 8)
    (hopen : (maskList (byteAt pl 0) 8).all (fun m => (w.displayCheck m).isNone && w.held m) = true)
    (hfull : 64 ≤ (w.chan n).mash.stamped) : imageSwapOp w pl = w.reply stBusy := by
  have hform : ¬ (pl.length ≠ 8 ∨ byteAt pl 1 / 2 ≠ 0 ∨ halfAt pl 2 ≠ 0) := by omega
  have hchan : ∀ m ∈ maskList (byteAt pl 0) 8, w.displayCheck m = none ∧ w.held m = true := by
    simpa only [List.all_eq_true, Bool.and_eq_true, Option.isNone_iff_eq_none] using hopen
  have hcheck : (maskList (byteAt pl 0) 8).findSome? (fun m => (w.displayCheck m).map (fun st => (m, st))) = none :=
    List.findSome?_eq_none_iff.mpr (fun m hm => by rw [(hchan m hm).1]; rfl)
  have hheld : (maskList (byteAt pl 0) 8).any (fun m => !w.held m) = false :=
    List.any_eq_false.mpr (fun m hm => by rw [(hchan m hm).2]; decide)
  have hbusy : (maskList (byteAt pl 0) 8).any (fun m => (w.chan m).swapPending || w.stampedFull m (some d)) = true :=
    List.any_eq_true.mpr ⟨n, hn, by simp [Work.stampedFull, hfull]⟩
  unfold imageSwapOp
  simp only [hdue, if_neg hform, hcheck, hheld, hbusy, Bool.false_eq_true, if_false, if_true]

/-- A stamped ALERT that finds all 64 places taken is answered BUSY (R15, R178). -/
theorem alertOp_full (n d : Nat) (late : Bool) (hlen : pl.length = 12) (hop : byteAt pl 1 ≤ 3) (hflags : halfAt pl 2 ≤ 1)
    (hzero : halfAt pl 10 = 0) (hn : byteAt pl 0 = n) (hcheck : w.displayCheck n = none)
    (hblink : (w.chan n).blockHeld 10 = false)
    (hdue : w.judgeStamp (if bitOf (halfAt pl 2) 0 then some (wordAt pl 4) else none) = (some d, late))
    (hfull : 64 ≤ (w.chan n).mash.stamped) (hindex : byteAt pl 1 ≠ 3 → halfAt pl 8 < w.alertN n) :
    alertOp w o pl = w.reply stBusy := by
  have hform : ¬ (pl.length ≠ 12 ∨ halfAt pl 2 / 2 ≠ 0 ∨ halfAt pl 10 ≠ 0) := by omega
  have hargs : ¬ (3 < byteAt pl 1 ∨ (byteAt pl 1 ≠ 3 ∧ w.alertN n ≤ halfAt pl 8)) := by
    rintro (h | ⟨h3, h⟩)
    · omega
    · exact absurd (hindex h3) (Nat.not_lt.mpr h)
  have hplaces : w.stampedFull n (some d) = true := by simpa [Work.stampedFull] using hfull
  unfold alertOp
  simp only [if_neg hform, hn, hcheck, hblink, if_neg hargs, hdue, hplaces, Bool.false_eq_true, if_false, if_true]

end

/-! ### The payload of an ALERT row -/

theorem alertPl_eq_set (op : Nat) (pl : List Byte) (h : byteAt pl 1 ≤ 3) : alertPl op pl = pl.set 1 (BitVec.ofNat 8 op) :=
  if_neg (Nat.not_lt.mpr h)

/-- A field behind byte 1 does not hold it. -/
theorem leAt_set_one (pl : List Byte) (x : Byte) (off k : Nat) (h : 1 < off) : leAt (pl.set 1 x) off k = leAt pl off k := by
  unfold leAt takeAt
  rw [List.drop_set_of_lt h]

theorem byteAt_zero_set_one (pl : List Byte) (x : Byte) : byteAt (pl.set 1 x) 0 = byteAt pl 0 := by
  cases pl <;> rfl

theorem byteAt_one_set_one (pl : List Byte) (x : Byte) (h : 1 < pl.length) : byteAt (pl.set 1 x) 1 = x.toNat := by
  match pl, h with
  | _ :: _ :: _, _ => simp [byteAt, leAt, takeAt, leVal]

/-! ### The same commands from the host -/

/-- A FIELD_SET from the host whose payload is in order hands its entries to the Mash. -/
theorem State.perform_fieldSet_taken (s : State) (ch : Fin 8) (tag : Nat) (pl : List Byte)
    (hadmits : s.work.modeAdmits 0x10 = true) (hmin : 1 ≤ byteAt pl 1) (hmax : byteAt pl 1 ≤ 32)
    (hlen : pl.length = 8 + 8 * byteAt pl 1) (hflags : halfAt pl 2 ≤ 1)
    (hentries : (List.range (byteAt pl 1)).all
      (fun i => decide (byteAt pl (9 + 8 * i) ≤ 1) && halfAt pl (10 + 8 * i) == 0) = true)
    (hn : byteAt pl 0 = ch) (hcheck : s.work.displayCheck ch = none)
    (hdef : (fieldEntries pl (byteAt pl 1)).all (fun e => (s.work.fieldDef ch e.1).isSome) = true) :
    (s.taken 0x10 tag).perform .host 0x10 pl = (s.taken 0x10 tag).acceptDelivery ch .host
      (.fields (fieldEntries pl (byteAt pl 1))) (if bitOf (halfAt pl 2) 0 then some (wordAt pl 4) else none) := by
  rw [Work.perform_fieldSet _ _ _ (by rwa [State.modeAdmits_taken])]
  exact fieldSetOp_accepts _ _ _ _ hmin hmax hlen hflags hentries hn (by rwa [State.displayCheck_taken])
    (by simpa only [State.fieldDef_taken] using hdef)

/-- A display command from the host that hands a stamped delivery to the Mash of a channel with 64 stamped changes is
answered BUSY. -/
theorem State.delivery_busy (s : State) (ch : Fin 8) (op tag d : Nat) (pl : List Byte) (body : DelivBody)
    (stamp : Option Nat) (late : Bool) (hready : s.hostReady = true) (hop : g3Ops.contains op = true) (habort : op ≠ opAbort)
    (hperform : (s.taken op tag).perform .host op pl = (s.taken op tag).acceptDelivery ch .host body stamp)
    (hswap : (s.chan ch).swapPending = false)
    (hdue : (if s.work.held ch then (none, false) else s.work.judgeStamp stamp) = (some d, late))
    (hfull : 64 ≤ (s.chan ch).mash.stamped) :
    s.onlyAnswered (s.run (fun w => w.command .host op tag pl)) op tag stBusy [] := by
  refine s.onlyAnswered_of_perform op tag stBusy pl [] hready hop habort ?_
  rw [hperform]
  exact Work.acceptDelivery_full _ ch d .host body stamp late (by rwa [State.chan_taken])
    (by rwa [State.held_taken, State.judgeStamp_taken]) (by rwa [State.chan_taken])

/-- A display command from the host that hands over a delivery without a stamp stays in flight with it queued, and takes none of the 64 places. -/
theorem State.delivery_unstamped (s : State) (ch : Fin 8) (op tag : Nat) (pl : List Byte) (body : DelivBody)
    (hready : s.hostReady = true) (hop : g3Ops.contains op = true) (habort : op ≠ opAbort)
    (hperform : (s.taken op tag).perform .host op pl = (s.taken op tag).acceptDelivery ch .host body none)
    (hswap : (s.chan ch).swapPending = false) (hroom : (s.chan ch).mash.queue.length < 256) :
    ((s.run (fun w => w.command .host op tag pl)).chan ch).mash.queue =
        (s.chan ch).mash.queue ++ [⟨body, .host, some .host, some (s.chan ch).seq.started, none, false⟩] ∧
      ((s.run (fun w => w.command .host op tag pl)).chan ch).mash.stamped = (s.chan ch).mash.stamped ∧
      (s.run (fun w => w.command .host op tag pl)).hostFlight op tag := by
  rw [Work.acceptDelivery_unstamped _ ch _ _ (by rwa [State.chan_taken]) (by rwa [State.chan_taken])] at hperform
  have hrun := s.command_host_waits op tag pl _ hready hop habort hperform
  refine ⟨?_, ?_, ?_⟩
  · rw [State.run_chan, hrun, Work.chan_modMash, State.chan_taken]
    simp only [Work.ordNow, State.chan_taken]
  · rw [State.run_chan, hrun, Work.chan_modMash, State.chan_taken]
    rfl
  · rw [State.hostFlight, State.run_dev, hrun, Work.host_modMash, State.hostPort_taken]

/-- A display command from the host that hands over a stamped delivery of one change takes the last of the 64 places, and
stays in flight. -/
theorem State.delivery_lastPlace (s : State) (ch : Fin 8) (op tag d : Nat) (pl : List Byte) (body : DelivBody)
    (stamp : Option Nat) (late : Bool) (hready : s.hostReady = true) (hop : g3Ops.contains op = true) (habort : op ≠ opAbort)
    (hperform : (s.taken op tag).perform .host op pl = (s.taken op tag).acceptDelivery ch .host body stamp)
    (hswap : (s.chan ch).swapPending = false) (hroom : (s.chan ch).mash.queue.length < 256)
    (hdue : (if s.work.held ch then (none, false) else s.work.judgeStamp stamp) = (some d, late))
    (hone : ((s.taken op tag).drawBody ch body).2.changes.length = 1) (hlast : (s.chan ch).mash.stamped = 63) :
    ((s.run (fun w => w.command .host op tag pl)).chan ch).mash.stamped = 64 ∧
      (s.run (fun w => w.command .host op tag pl)).hostFlight op tag := by
  obtain ⟨w, hw, hhost, hstamped⟩ := (s.taken op tag).acceptDelivery_stamped ch d .host body stamp late
    (by rwa [State.chan_taken]) (by rwa [State.chan_taken]) (by rwa [State.held_taken, State.judgeStamp_taken])
    (by rw [State.chan_taken, hlast]; decide)
  have hrun := s.command_host_waits op tag pl w hready hop habort (hperform.trans hw)
  refine ⟨?_, ?_⟩
  · rw [State.run_chan, hrun, hstamped, hone, State.chan_taken, hlast]
  · rw [State.hostFlight, State.run_dev, hrun, hhost, State.hostPort_taken]

/-- An ALERT of operation `op` from the host, stamped, for a channel with 64 stamped changes is answered BUSY. -/
theorem State.alert_busy (s : State) (ch : Fin 8) (op tag d : Nat) (pl : List Byte) (late : Bool) (hop : op ≤ 3)
    (hready : s.hostReady = true) (hadmits : s.work.modeAdmits 0x18 = true) (hlen : pl.length = 12)
    (hrow : byteAt pl 1 ≤ 3) (hflags : halfAt pl 2 ≤ 1) (hzero : halfAt pl 10 = 0) (hn : byteAt pl 0 = ch)
    (hcheck : s.work.displayCheck ch = none) (hblink : (s.chan ch).blockHeld 10 = false)
    (hdue : s.work.judgeStamp (if bitOf (halfAt pl 2) 0 then some (wordAt pl 4) else none) = (some d, late))
    (hfull : 64 ≤ (s.chan ch).mash.stamped) (hindex : op ≠ 3 → halfAt pl 8 < s.work.alertN ch) :
    s.onlyAnswered (s.run (fun w => w.command .host 0x18 tag (alertPl op pl))) 0x18 tag stBusy [] := by
  have hhalf : ∀ x off, 1 < off → halfAt (pl.set 1 x) off = halfAt pl off := fun x off h => leAt_set_one pl x off 2 h
  have hword : ∀ x, wordAt (pl.set 1 x) 4 = wordAt pl 4 := fun x => leAt_set_one pl x 4 4 (by decide)
  have hop' : byteAt (pl.set 1 (BitVec.ofNat 8 op)) 1 = op := by
    rw [byteAt_one_set_one _ _ (by omega), BitVec.toNat_ofNat]
    omega
  refine s.onlyAnswered_of_perform 0x18 tag stBusy _ [] hready (by decide) (by decide) ?_
  rw [alertPl_eq_set op pl hrow, Work.perform_alert _ _ _ (by rwa [State.modeAdmits_taken])]
  refine alertOp_full _ _ _ ch d late ?_ ?_ ?_ ?_ ?_ ?_ ?_ ?_ ?_ ?_
  · rwa [List.length_set]
  · rwa [hop']
  · rwa [hhalf _ 2 (by decide)]
  · rwa [hhalf _ 10 (by decide)]
  · rwa [byteAt_zero_set_one]
  · rwa [State.displayCheck_taken]
  · rwa [State.chan_taken]
  · rwa [hhalf _ 2 (by decide), hword, State.judgeStamp_taken]
  · rwa [State.chan_taken]
  · rwa [hop', hhalf _ 8 (by decide), State.alertN_taken]

/-! ### The obligation -/

/-- Settles O46, command by command: a stamped one that finds 64 changes is answered on the state it came to; of FIELD_SET,
an unstamped one adds no change, and the 64th stamped one commits its writes as one change. -/
theorem stampedChangesFull : Obligations.StampedChangesFull := by
  unfold Obligations.StampedChangesFull
  refine ⟨?fieldSetFull, ?fieldSetUnstamped, ?fieldSetLast, ?segWrite, ?imageSwap, ?alertSet, ?alertClear, ?alertAck,
    ?alertAckGroups⟩
  case fieldSetFull =>
    intro s ch tag d pl late hready hadmits hmin hmax hlen hflags hentries hn hcheck hdef hswap _ hdue hfull
    have hperform := s.perform_fieldSet_taken ch tag pl hadmits hmin hmax hlen hflags hentries hn hcheck hdef
    exact ⟨_, rfl, s.delivery_busy ch 0x10 tag d pl _ _ late hready (by decide) (by decide) hperform hswap hdue hfull⟩
  case fieldSetUnstamped =>
    intro s ch tag pl hready hadmits hmin hmax hlen hflags hentries hn hcheck hdef hswap hroom hunstamped _
    have hperform := s.perform_fieldSet_taken ch tag pl hadmits hmin hmax hlen hflags hentries hn hcheck hdef
    rw [hunstamped, if_neg Bool.false_ne_true] at hperform
    exact ⟨_, rfl, s.delivery_unstamped ch 0x10 tag pl _ hready (by decide) (by decide) hperform hswap hroom⟩
  case fieldSetLast =>
    intro s ch tag d pl late hready hadmits hmin hmax hlen hflags hentries hn hcheck hdef hswap hroom hdue hlast
    have hperform := s.perform_fieldSet_taken ch tag pl hadmits hmin hmax hlen hflags hentries hn hcheck hdef
    have hne : fieldEntries pl (byteAt pl 1) ≠ [] := by
      simp only [fieldEntries, ne_eq, List.map_eq_nil_iff, List.range_eq_nil]
      omega
    have hone := Work.changes_drawBody_fields (s.taken 0x10 tag) ch _ hne (by simpa only [State.fieldDef_taken] using hdef)
    exact ⟨_, rfl, s.delivery_lastPlace ch 0x10 tag d pl _ _ late hready (by decide) (by decide) hperform hswap hroom hdue
      hone hlast⟩
  case segWrite =>
    intro s ch tag d pl late hready hadmits hmin hmax hpairs hflags hn hcheck hfirst hfree hdue hswap hfull
    have howned : ∀ k, (s.taken 0x11 tag).get F.MASH_OWN_OWNED ch k = s.get F.MASH_OWN_OWNED ch k := fun k =>
      s.get_taken 0x11 tag _ ch k (addr_notMem_hostRegs _ _ _ (by decide))
    have hperform : (s.taken 0x11 tag).perform .host 0x11 pl = (s.taken 0x11 tag).acceptDelivery ch .host
        (.segs (segPairs pl)) (if bitOf (byteAt pl 1) 0 then some (wordAt pl 4) else none) := by
      rw [Work.perform_segWrite _ _ _ (by rwa [State.modeAdmits_taken])]
      exact segWriteOp_accepts _ _ _ ch hmin hmax hpairs hflags hn (by rwa [State.displayCheck_taken]) hfirst
        (by simpa only [howned] using hfree)
    exact ⟨_, rfl, s.delivery_busy ch 0x11 tag d pl _ _ late hready (by decide) (by decide) hperform hswap hdue hfull⟩
  case imageSwap =>
    intro s ch tag d pl late hready hadmits hlen hflags hzero hdue hnamed hopen hfull
    refine ⟨_, rfl, s.onlyAnswered_of_perform 0x12 tag stBusy pl [] hready (by decide) (by decide) ?_⟩
    rw [Work.perform_imageSwap _ _ _ (by rwa [State.modeAdmits_taken])]
    exact imageSwapOp_full _ _ ch d late hlen hflags hzero (by rwa [State.judgeStamp_taken])
      (List.mem_filter.mpr ⟨List.mem_range.mpr ch.isLt, hnamed⟩)
      (by simpa only [State.displayCheck_taken, State.held_taken] using hopen) (by rwa [State.chan_taken])
  case alertSet =>
    intro s ch tag d pl late hready hadmits hlen hrow hflags hzero hn hcheck hblink hdue hfull hindex
    exact ⟨_, rfl, s.alert_busy ch 0 tag d pl late (by decide) hready hadmits hlen hrow hflags hzero hn hcheck hblink hdue
      hfull (fun _ => hindex)⟩
  case alertClear =>
    intro s ch tag d pl late hready hadmits hlen hrow hflags hzero hn hcheck hblink hdue hfull hindex
    exact ⟨_, rfl, s.alert_busy ch 1 tag d pl late (by decide) hready hadmits hlen hrow hflags hzero hn hcheck hblink hdue
      hfull (fun _ => hindex)⟩
  case alertAck =>
    intro s ch tag d pl late hready hadmits hlen hrow hflags hzero hn hcheck hblink hdue hfull hindex
    exact ⟨_, rfl, s.alert_busy ch 2 tag d pl late (by decide) hready hadmits hlen hrow hflags hzero hn hcheck hblink hdue
      hfull (fun _ => hindex)⟩
  case alertAckGroups =>
    intro s ch tag d pl late hready hadmits hlen hrow hflags hzero hn hcheck hblink hdue hfull
    exact ⟨_, rfl, s.alert_busy ch 3 tag d pl late (by decide) hready hadmits hlen hrow hflags hzero hn hcheck hblink hdue
      hfull (fun h => absurd rfl h)⟩

end Sys2Proof.Machine
end

section
/-! PROOF. The display commands for a channel that the device holds in STANDBY (R372), and EVENT_ACK of its ring (R225). -/

namespace Sys2Proof.Machine

/-! ### A channel in STANDBY judged -/

/-- A display command finds a standby that is neither isolated nor given to TEST in the wrong state (R22, R372). -/
theorem Work.displayCheck_standby (w : Work) (ch : Fin 8) (hstandby : (w.chan ch).standby = true)
    (hmash : w.mashIsolated ch = false) (htest : w.mode = mdTest → w.inTestMask ch = false) :
    w.displayCheck ch = some stState := by
  have hopen : ¬ (w.mode = mdTest ∧ w.inTestMask ch = true) := fun ⟨hmode, hmask⟩ => by simp [htest hmode] at hmask
  unfold Work.displayCheck
  simp only [Nat.not_le.mpr ch.isLt, hopen, hmash, hstandby, Bool.false_eq_true, if_false, if_true]

/-- Only what is isolated is counted by a wrapper (R397). -/
theorem Work.refuseDisplay_state (w : Work) (n : Nat) : w.refuseDisplay n stState = w.reply stState := by rfl

/-- The ring of a channel that is open and in service passes the checks of a ring. -/
theorem Work.ringCheck_chan (w : Work) (ch : Fin 8) (pl : List Byte) (hn : byteAt pl 0 = ch) (hmode : w.mode ≠ mdRecovery)
    (hcask : (w.chan ch).blockHeld 4 = false) (hbank : w.ringFailed ch = false) : w.ringCheck pl = .ok (ch : Nat) := by
  have hring : ringOf (byteAt pl 0) = some (ch : Nat) := by rw [hn]; exact if_pos ch.isLt
  unfold Work.ringCheck
  simp only [hring, hmode, hcask, hbank, Bool.false_eq_true, false_and, and_false, if_false]

/-! ### The commands of the display refused for their channel -/

section
variable (w : Work) (o : Origin) (pl : List Byte) (n st : Nat)

/-- A FIELD_SET whose payload is in order, for a channel that the check refuses. -/
theorem fieldSetOp_refused (hmin : 1 ≤ byteAt pl 1) (hmax : byteAt pl 1 ≤ 32)
    (hlen : pl.length = 8 + 8 * byteAt pl 1) (hflags : halfAt pl 2 ≤ 1)
    (hentries : (List.range (byteAt pl 1)).all
      (fun i => decide (byteAt pl (9 + 8 * i) ≤ 1) && halfAt pl (10 + 8 * i) == 0) = true)
    (hn : byteAt pl 0 = n) (hcheck : w.displayCheck n = some st) : fieldSetOp w o pl = w.refuseDisplay n st := by
  have hreserved : ¬ (List.range (byteAt pl 1)).any
      (fun i => byteAt pl (9 + 8 * i) / 2 != 0 || halfAt pl (10 + 8 * i) != 0) = true := by
    simp only [List.all_eq_true, Bool.and_eq_true, decide_eq_true_eq, beq_iff_eq] at hentries
    simp only [List.any_eq_true, Bool.or_eq_true, bne_iff_ne]
    rintro ⟨i, hi, hset⟩
    obtain ⟨hquality, hzero⟩ := hentries i hi
    omega
  have hform : ¬ (byteAt pl 1 < 1 ∨ 32 < byteAt pl 1 ∨ pl.length ≠ 8 + 8 * byteAt pl 1 ∨ halfAt pl 2 / 2 ≠ 0 ∨
      (List.range (byteAt pl 1)).any (fun i => byteAt pl (9 + 8 * i) / 2 != 0 || halfAt pl (10 + 8 * i) != 0) = true) := by
    simp only [hreserved, Bool.false_eq_true, or_false]
    omega
  unfold fieldSetOp
  simp only [if_neg hform, hn, hcheck]

/-- A SEG_WRITE whose payload is in order, for a channel that the check refuses. -/
theorem segWriteOp_refused (hmin : 16 ≤ pl.length) (hmax : pl.length ≤ 264) (hpairs : pl.length % 8 = 0)
    (hflags : byteAt pl 1 ≤ 1) (hn : byteAt pl 0 = n) (hcheck : w.displayCheck n = some st) :
    segWriteOp w o pl = w.refuseDisplay n st := by
  have hform : ¬ (pl.length < 16 ∨ 8 + 8 * 32 < pl.length ∨ pl.length % 8 ≠ 0 ∨ byteAt pl 1 / 2 ≠ 0) := by omega
  unfold segWriteOp
  simp only [if_neg hform, hn, hcheck]

/-- An ALERT whose payload is in order, for a channel that the check refuses. -/
theorem alertOp_refused (hlen : pl.length = 12) (hflags : halfAt pl 2 ≤ 1) (hzero : halfAt pl 10 = 0)
    (hn : byteAt pl 0 = n) (hcheck : w.displayCheck n = some st) : alertOp w o pl = w.refuseDisplay n st := by
  have hform : ¬ (pl.length ≠ 12 ∨ halfAt pl 2 / 2 ≠ 0 ∨ halfAt pl 10 ≠ 0) := by omega
  unfold alertOp
  simp only [if_neg hform, hn, hcheck]

/-- An IMAGE_SWAP whose payload is in order, that names a channel in the wrong state and none that the check refuses
otherwise: whichever the check finds first, the answer is the same. -/
theorem imageSwapOp_refused (hlen : pl.length = 8) (hflags : byteAt pl 1 ≤ 1) (hzero : halfAt pl 2 = 0)
    (hn : n ∈ maskList (byteAt pl 0) 8) (hcheck : w.displayCheck n = some stState)
    (hothers : (maskList (byteAt pl 0) 8).all (fun m => (w.displayCheck m).getD stState == stState) = true) :
    imageSwapOp w pl = w.reply stState := by
  have hform : ¬ (pl.length ≠ 8 ∨ byteAt pl 1 / 2 ≠ 0 ∨ halfAt pl 2 ≠ 0) := by omega
  have hfound : ∃ m, (maskList (byteAt pl 0) 8).findSome? (fun m => (w.displayCheck m).map (fun st => (m, st))) =
      some (m, stState) := by
    cases hfirst : (maskList (byteAt pl 0) 8).findSome? (fun m => (w.displayCheck m).map (fun st => (m, st))) with
    | none => simpa [hcheck] using List.findSome?_eq_none_iff.mp hfirst n hn
    | some p =>
      obtain ⟨m, hm, hp⟩ := List.exists_of_findSome?_eq_some hfirst
      obtain ⟨st, hst, rfl⟩ := Option.map_eq_some_iff.mp hp
      have hsame : st = stState := by simpa [hst] using List.all_eq_true.mp hothers m hm
      exact ⟨m, by rw [hsame]⟩
  obtain ⟨m, hm⟩ := hfound
  unfold imageSwapOp
  simp only [if_neg hform, hm, Work.refuseDisplay_state]

/-- A standby's copy of a ring takes no acknowledge (R225). -/
theorem eventAckOp_standby (ch : Fin 8) (hlen : pl.length = 4) (hring : w.ringCheck pl = .ok (ch : Nat))
    (hstandby : (w.chan ch).standby = true) : eventAckOp w pl = w.reply stState := by
  unfold eventAckOp
  simp only [hlen, hring, hstandby, ch.isLt, ne_eq, not_true_eq_false, and_self, if_false, if_true]

theorem Work.perform_eventAck (h : w.modeAdmits 0x21 = true) : w.perform o 0x21 pl = eventAckOp w pl := by
  unfold Work.perform; rw [h]; rfl

end

/-! ### The same commands from the host -/

@[simp] theorem State.ringFailed_taken (s : State) (op tag r : Nat) : (s.taken op tag).ringFailed r = s.work.ringFailed r :=
  s.bankFailed_taken op tag _

/-- The check of a standby stands as it was once the command is in flight. -/
theorem State.displayCheck_taken_standby (s : State) (op tag : Nat) (ch : Fin 8) (hstandby : (s.chan ch).standby = true)
    (hmash : s.work.mashIsolated ch = false) (htest : s.work.mode = mdTest → s.work.inTestMask ch = false) :
    (s.taken op tag).displayCheck ch = some stState := by
  rw [State.displayCheck_taken]
  exact s.work.displayCheck_standby ch hstandby hmash htest

/-- An ALERT of operation `op` from the host, for a channel in STANDBY, is answered ERR_STATE. -/
theorem State.alert_standby (s : State) (ch : Fin 8) (op tag : Nat) (pl : List Byte) (hready : s.hostReady = true)
    (hadmits : s.work.modeAdmits 0x18 = true) (hlen : pl.length = 12) (hrow : byteAt pl 1 ≤ 3) (hflags : halfAt pl 2 ≤ 1)
    (hzero : halfAt pl 10 = 0) (hn : byteAt pl 0 = ch) (hstandby : (s.chan ch).standby = true)
    (hmash : s.work.mashIsolated ch = false) (htest : s.work.mode = mdTest → s.work.inTestMask ch = false) :
    s.onlyAnswered (s.run (fun w => w.command .host 0x18 tag (alertPl op pl))) 0x18 tag stState [] := by
  have hhalf : ∀ x off, 1 < off → halfAt (pl.set 1 x) off = halfAt pl off := fun x off h => leAt_set_one pl x off 2 h
  refine s.onlyAnswered_of_perform 0x18 tag stState _ [] hready (by decide) (by decide) ?_
  rw [alertPl_eq_set op pl hrow, Work.perform_alert _ _ _ (by rwa [State.modeAdmits_taken])]
  refine alertOp_refused _ _ _ ch stState ?_ ?_ ?_ ?_ (s.displayCheck_taken_standby _ _ ch hstandby hmash htest)
  · rwa [List.length_set]
  · rwa [hhalf _ 2 (by decide)]
  · rwa [hhalf _ 10 (by decide)]
  · rwa [byteAt_zero_set_one]

/-! ### The obligation -/

/-- Settles O47: each display command passes the check of its payload and is refused by that of its channel, EVENT_ACK by
that of its ring's copy, before anything is written; so the command is answered on the state it came to. -/
theorem standbyRefusesDisplay : Obligations.StandbyRefusesDisplay := by
  unfold Obligations.StandbyRefusesDisplay
  refine ⟨?fieldSet, ?segWrite, ?imageSwap, ?alertSet, ?alertClear, ?alertAck, ?alertAckGroups, ?eventAck⟩
  case fieldSet =>
    intro s ch tag pl hready hadmits hmin hmax hlen hflags hentries hn hstandby hmash htest
    refine ⟨_, rfl, s.onlyAnswered_of_perform 0x10 tag stState pl [] hready (by decide) (by decide) ?_⟩
    rw [Work.perform_fieldSet _ _ _ (by rwa [State.modeAdmits_taken])]
    exact fieldSetOp_refused _ _ _ ch stState hmin hmax hlen hflags hentries hn
      (s.displayCheck_taken_standby _ _ ch hstandby hmash htest)
  case segWrite =>
    intro s ch tag pl hready hadmits hmin hmax hpairs hflags hn hstandby hmash htest
    refine ⟨_, rfl, s.onlyAnswered_of_perform 0x11 tag stState pl [] hready (by decide) (by decide) ?_⟩
    rw [Work.perform_segWrite _ _ _ (by rwa [State.modeAdmits_taken])]
    exact segWriteOp_refused _ _ _ ch stState hmin hmax hpairs hflags hn
      (s.displayCheck_taken_standby _ _ ch hstandby hmash htest)
  case imageSwap =>
    intro s ch tag pl hready hadmits hlen hflags hzero hnamed hothers hstandby hmash htest
    refine ⟨_, rfl, s.onlyAnswered_of_perform 0x12 tag stState pl [] hready (by decide) (by decide) ?_⟩
    rw [Work.perform_imageSwap _ _ _ (by rwa [State.modeAdmits_taken])]
    exact imageSwapOp_refused _ _ ch hlen hflags hzero (List.mem_filter.mpr ⟨List.mem_range.mpr ch.isLt, hnamed⟩)
      (s.displayCheck_taken_standby _ _ ch hstandby hmash htest) (by simpa only [State.displayCheck_taken] using hothers)
  case alertSet =>
    intro s ch tag pl hready hadmits hlen hrow hflags hzero hn hstandby hmash htest
    exact ⟨_, rfl, s.alert_standby ch 0 tag pl hready hadmits hlen hrow hflags hzero hn hstandby hmash htest⟩
  case alertClear =>
    intro s ch tag pl hready hadmits hlen hrow hflags hzero hn hstandby hmash htest
    exact ⟨_, rfl, s.alert_standby ch 1 tag pl hready hadmits hlen hrow hflags hzero hn hstandby hmash htest⟩
  case alertAck =>
    intro s ch tag pl hready hadmits hlen hrow hflags hzero hn hstandby hmash htest
    exact ⟨_, rfl, s.alert_standby ch 2 tag pl hready hadmits hlen hrow hflags hzero hn hstandby hmash htest⟩
  case alertAckGroups =>
    intro s ch tag pl hready hadmits hlen hrow hflags hzero hn hstandby hmash htest
    exact ⟨_, rfl, s.alert_standby ch 3 tag pl hready hadmits hlen hrow hflags hzero hn hstandby hmash htest⟩
  case eventAck =>
    intro s ch tag pl hready hadmits hlen hn hmode _ hcask hbank hstandby
    refine ⟨_, rfl, s.onlyAnswered_of_perform 0x21 tag stState pl [] hready (by decide) (by decide) ?_⟩
    rw [Work.perform_eventAck _ _ _ (by rwa [State.modeAdmits_taken])]
    refine eventAckOp_standby _ _ ch hlen (Work.ringCheck_chan _ ch pl hn ?_ ?_ ?_) ?_
    · rwa [State.mode_taken]
    · rwa [State.chan_taken]
    · rwa [State.ringFailed_taken]
    · rwa [State.chan_taken]

end Sys2Proof.Machine
end

section
/-! PROOF. A readback of erase-then-open that fails again (R429): the LOCKUP reset that follows, and what it leaves of the
security block. -/

namespace Sys2Proof.Machine

/-! ### The security block after a reset that spares AON -/

section
variable (w : Work)

/-- A reset that spares AON, with no sequence running, leaves the key store (R403, R420). The rest of the block is at its
reset value: the count at which the nonce was asked for is 0, as the nonce itself is gone. -/
theorem Work.clearDevice_sec (closes : Bool) (herase : w.sec.erase = .none) :
    (w.clearDevice false closes).sec = { Sec.init with keys := w.sec.keys } := by
  unfold Work.clearDevice
  rw [herase]
  cases closes <;> rfl

/-- The same of every reset but POWER_ON_AON that a held fault does not bar (R391, R394). -/
theorem Work.deviceReset_sec (code rail : Nat) (hspares : code ≠ 2) (hhold : w.rst.hold ≠ .fault)
    (herase : w.sec.erase = .none) : (w.deviceReset code rail).sec = { Sec.init with keys := w.sec.keys } := by
  have haon : decide (code = 2) = false := decide_eq_false hspares
  unfold Work.deviceReset
  rw [if_neg (fun h => hhold h.1), haon]
  exact w.clearDevice_sec _ herase

/-! ### The second failure -/

/-- The device as the second failure of a step leaves it, before its LOCKUP reset: the sequence is over. -/
def Work.eraseAbandoned (w : Work) : Work :=
  (({ w with sec := { w.sec with erase := .none } } : Work).raise F.SEC_FLAGS_SECRETS_ERASED).putFlag F.SEC_STAT_ERASING false

@[simp] theorem Work.eraseAbandoned_sec : w.eraseAbandoned.sec = { w.sec with erase := .none } := by rfl
@[simp] theorem Work.eraseAbandoned_rst : w.eraseAbandoned.rst = w.rst := by rfl

/-- A step between 1 and 4 that has been repeated, and fails again: what it erases is erased, and the device takes a LOCKUP
reset (R429). -/
theorem eraseStep_failed_again (n : Nat) (herase : w.sec.erase = .step n true) (hrel : 8 ≤ w.relStep) (hfirst : 1 ≤ n)
    (hlast : n ≤ 4) : eraseStep w false = (w.eraseAction n).eraseAbandoned.deviceReset 9 := by
  obtain ⟨k, rfl⟩ : ∃ k, n = k + 1 := ⟨n - 1, by omega⟩
  have hready : ¬ w.relStep < 8 := by omega
  have hnotLast : k + 1 ≠ 5 := by omega
  unfold eraseStep
  rw [herase]
  simp only [if_neg hready, if_neg hnotLast]
  rfl

/-- Step 2, the wipe of retained memory, failing again leaves the security block its keys and nothing else. -/
theorem eraseStep_retained_failed_again_sec (herase : w.sec.erase = .step 2 true) (hrel : 8 ≤ w.relStep)
    (hhold : w.rst.hold ≠ .fault) : (eraseStep w false).sec = { Sec.init with keys := w.sec.keys } := by
  have hwipedHold : (w.eraseAction 2).rst.hold ≠ .fault := by simpa only [Work.eraseAction, Work.wipe_rst] using hhold
  have hwipedSec : (w.eraseAction 2).sec = w.sec := by simp only [Work.eraseAction, Work.wipe_sec]
  rw [eraseStep_failed_again w 2 herase hrel (by decide) (by decide),
    (w.eraseAction 2).eraseAbandoned.deviceReset_sec 9 0 (by decide) hwipedHold rfl, Work.eraseAbandoned_sec, hwipedSec]

end

/-! ### The obligation -/

/-- A released device in step 2 of the sequence, repeated once, that asked for a nonce at its first boundary: the keys are
gone, ERASING is set, and no reset holds. -/
def State.erasingAfterNonce : State :=
  { State.reset with dev := { Dev.init with
      regs := [(F.SYS_REL_STEP.addr 0 0, 12), (F.SEC_STAT_ERASING.addr 0 0, 2 ^ 7)]
      bounds := 2
      rst := { Rst.init with hold := .none }
      sec := { keys := [], nonceTick := 1, erase := .step 2 true } } }

theorem State.erasingAfterNonce_relStep : State.erasingAfterNonce.work.relStep = 12 := by rfl

/-- Refutes O45: its third clause has every field of the security block but the keys and the sequence kept, yet the LOCKUP
reset of R429 clears the count of boundaries at which the nonce was asked for, as every reset that spares AON does. In a device
that asked for one at boundary 1, step 2 failing again turns that count from 1 to 0. -/
theorem not_eraseReadback : ¬ Obligations.EraseReadback := by
  unfold Obligations.EraseReadback
  rintro ⟨-, -, hsecondFailure⟩
  have hrel : 8 ≤ State.erasingAfterNonce.work.relStep := by rw [State.erasingAfterNonce_relStep]; decide
  have hhold : State.erasingAfterNonce.dev.rst.hold ≠ .fault := by decide
  obtain ⟨t, hnext, hsec, -⟩ := hsecondFailure State.erasingAfterNonce 2 rfl hrel (by decide) (by decide) hhold
  obtain rfl : State.erasingAfterNonce.run (fun w => eraseStep w false) = t := Host.Outcome.next.inj hnext
  have hkept : (eraseStep State.erasingAfterNonce.work false).sec.nonceTick = 1 := congrArg Sec.nonceTick hsec
  have hcleared : (eraseStep State.erasingAfterNonce.work false).sec.nonceTick = 0 :=
    congrArg Sec.nonceTick (eraseStep_retained_failed_again_sec State.erasingAfterNonce.work rfl hrel hhold)
  exact absurd (hkept.symm.trans hcleared) (by decide)

end Sys2Proof.Machine
end

section
/-! PROOF. What every step keeps: each command is a run of its meaning on the state, so the queue stays and the memories keep
their form. -/

namespace Sys2Proof.Machine

/-! ### Every command is a run of its meaning -/

/-- The meaning of a command: what it does to the device and its memory. Each arm of `exec` runs one. -/
theorem exec_eq_run (c : Instr) (s : State) : ∃ f, exec c s = .next (s.run f) := by
  cases c <;> exact ⟨_, rfl⟩

/-- A step answers the state itself, or what a run leaves of the state without the front command. -/
theorem step_cases (s t : State) (h : step s = .next t) :
    t = s ∨ ∃ rest f, t = ({ s with pending := rest } : State).run f := by
  unfold step at h
  split at h
  · exact Or.inl (Host.Outcome.next.inj h).symm
  · next c rest _ =>
    obtain ⟨f, hf⟩ := exec_eq_run c { s with pending := rest }
    exact Or.inr ⟨rest, f, (Host.Outcome.next.inj (hf.symm.trans h)).symm⟩

/-! ### The obligations -/

/-- Settles O3: memory changes only as a run commits its changes, and each of them keeps the form. -/
theorem stepKeepsMemory : Obligations.StepKeepsMemory := by
  unfold Obligations.StepKeepsMemory
  intro s t hinv hstep
  obtain rfl | ⟨rest, f, rfl⟩ := step_cases s t hstep
  · exact hinv
  · exact State.run_memInv _ f hinv

/-- Settles O1: the front command is taken off, and the rest of the queue is the state's own. -/
theorem stepTakesFront : Obligations.StepTakesFront := by
  unfold Obligations.StepTakesFront
  refine fun s c => ⟨rfl, fun hidle => ?_⟩
  unfold step
  rw [hidle]

/-- Settles O2: a run never changes the queue. -/
theorem queueUntouched : Obligations.QueueUntouched := by
  unfold Obligations.QueueUntouched
  intro s c
  obtain ⟨f, hf⟩ := exec_eq_run c s
  exact ⟨_, hf, s.run_pending f⟩

/-- Settles O4: the reset state lists no byte. -/
theorem resetMemory : Obligations.ResetMemory := by
  unfold Obligations.ResetMemory
  exact ⟨⟨rfl, fun c hc => absurd hc List.not_mem_nil⟩, rfl, rfl⟩

/-- Settles O53: each value is read off the reset state. -/
theorem resetValues : Obligations.ResetValues := by
  unfold Obligations.ResetValues
  have hstates : State.reset.get F.SYS_CH_STATE_STATES = 0 := by rfl
  have hcounts : ∀ ch : Fin 8, State.reset.work.ringCount ch = 0 := by decide +kernel
  refine ⟨rfl, fun ch => ?_, rfl, rfl, rfl, rfl, rfl, rfl, rfl, hcounts⟩
  change bitsOf (State.reset.get F.SYS_CH_STATE_STATES) _ _ = 0
  rw [hstates, bitsOf, Nat.zero_div, Nat.zero_mod]

end Sys2Proof.Machine
end

section
/-! PROOF SUPPORT. The shared operations in the normal form of the laws of the state: each engine of a channel changed is the
channel changed, a state's view is its working state's, and an entry raised into a ring changes of the channels only what a
Cask holds. -/

namespace Sys2Proof.Machine

variable (w : Work)

/-! ### The small forms are `modChan` -/

@[simp] theorem Work.modKiln_eq (n : Nat) (f : Kiln → Kiln) : w.modKiln n f = w.modChan n (fun c => { c with kiln := f c.kiln }) := by rfl
@[simp] theorem Work.modSeq_eq (n : Nat) (f : Seq → Seq) : w.modSeq n f = w.modChan n (fun c => { c with seq := f c.seq }) := by rfl
@[simp] theorem Work.modGrist_eq (n : Nat) (f : Grist → Grist) : w.modGrist n f = w.modChan n (fun c => { c with grist := f c.grist }) := by rfl
@[simp] theorem Work.modLed_eq (n : Nat) (f : Led → Led) : w.modLed n f = w.modChan n (fun c => { c with led := f c.led }) := by rfl
@[simp] theorem Work.modInteg_eq (n : Nat) (f : Integ → Integ) : w.modInteg n f = w.modChan n (fun c => { c with integ := f c.integ }) := by rfl
@[simp] theorem Work.modStr_eq (n : Nat) (f : LampStr → LampStr) : w.modStr n f = w.modChan n (fun c => { c with lamp := f c.lamp }) := by rfl
@[simp] theorem Work.modTap_eq (n l : Nat) (f : Tap → Tap) : w.modTap n l f = w.modChan n (fun c => { c with tap := modAt c.tap l f }) := by rfl

/-! ### A state is seen as its working state -/

@[simp] theorem State.work_reg (s : State) (a : Nat) : s.work.reg a = s.reg a := by rfl
@[simp] theorem State.work_get (s : State) (f : Fld) (n k : Nat) : s.work.get f n k = s.get f n k := by rfl
@[simp] theorem State.work_flag (s : State) (f : Fld) (n k : Nat) : s.work.flag f n k = s.flag f n k := by rfl
@[simp] theorem State.work_chState (s : State) (n : Nat) : s.work.chState n = s.chState n := by rfl
@[simp] theorem State.work_toDev (s : State) : s.work.toDev = { s.dev with sent := [] } := by rfl

/-- The registers left alone by a run are those that its meaning leaves alone. -/
theorem State.sameRegs_run (s : State) (f : Work → Work) (l : List Nat) :
    s.sameRegs (s.run f) l ↔ ∀ a, a ∉ l → (f s.work).reg a = s.reg a := Iff.rfl

/-- A register outside a list is none of the list's. -/
theorem Work.reg_put_of_notMem (f : Fld) (v n k a : Nat) (l : List Nat) (ha : a ∉ l) (h : f.addr n k ∈ l) :
    (w.put f v n k).reg a = w.reg a :=
  w.reg_put_ne f v n k a (fun e => ha (e ▸ h))

/-- A field is below the power of its width. -/
theorem Work.get_lt (f : Fld) (n k : Nat) : w.get f n k < 2 ^ (f.hi - f.lo + 1) := Nat.mod_lt _ (by positivity)

theorem State.get_lt (s : State) (f : Fld) (n k : Nat) : s.get f n k < 2 ^ (f.hi - f.lo + 1) := s.work.get_lt f n k

/-- A count that stops at a field's highest value fits the field. -/
@[simp] theorem satAdd_mod (k a b : Nat) : satAdd (2 ^ k - 1) a b % 2 ^ k = Nat.min (2 ^ k - 1) (a + b) := by
  have hpos : 0 < 2 ^ k := by positivity
  exact Nat.mod_eq_of_lt (lt_of_le_of_lt (Nat.min_le_left _ _) (by omega))

/-! ### An entry raised into a ring, and the channels -/

/-- A ring's hidden part set changes of the channels only the ring of its Cask. -/
theorem Work.chan_setRing (r m : Nat) (x : Ring) :
    ∃ k, (w.setRing r x).chan m = { w.chan m with cask := k } := by
  unfold Work.setRing
  split
  · by_cases hm : m = r
    · subst hm
      exact ⟨_, w.chan_modChan_same m _ (by assumption)⟩
    · exact ⟨_, w.chan_modChan_ne r m _ hm⟩
  · exact ⟨(w.chan m).cask, rfl⟩

@[simp] theorem Work.chan_dropEntry (r m : Nat) : (w.dropEntry r).chan m = w.chan m := by
  unfold Work.dropEntry
  simp only [Work.chan_ev, Work.chan_ringPut]
  split <;> simp only [Work.countUp_eq, Work.chan_put]

@[simp] theorem Work.chan_pokes (bs : List Byte) (a m : Nat) : (w.pokes a bs).chan m = w.chan m := by
  unfold Work.chan; rw [Work.ch_pokes]

/-- An entry raised into a ring changes of the channels only what a Cask holds. -/
theorem Work.chan_raiseEntry_cask (r m : Nat) (e : Entry) :
    ∃ k, (w.raiseEntry r e).chan m = { w.chan m with cask := k } := by
  have hring : ∃ k, (w.ringEntry r e).chan m = { w.chan m with cask := k } := by
    unfold Work.ringEntry
    split
    · exact ⟨(w.chan m).cask, w.chan_dropEntry r m⟩
    · split
      · exact ⟨(w.chan m).cask, w.chan_dropEntry r m⟩
      · unfold Work.storeEntry
        simp only [Work.chan_takeAttention, Work.chan_ev, Work.setRingNext, Work.setRingCount, Work.chan_ringPut]
        obtain ⟨k, hk⟩ := (w.pokes (w.ringBase r + 16 * (w.ring r).place) _).chan_setRing r m
          { place := ((w.ring r).place + 1) % Nat.max 1 ((w.pokes (w.ringBase r + 16 * (w.ring r).place) _).ringDepth r), takeover := false }
        exact ⟨k, by rw [hk, Work.chan_pokes]⟩
  unfold Work.raiseEntry
  split
  · exact ⟨(w.chan m).cask, rfl⟩
  · split
    · by_cases hm : m = r
      · subst hm
        by_cases h8 : m < 8
        · exact ⟨_, w.chan_modChan_same m _ h8⟩
        · exact ⟨(w.chan m).cask, by simp [Work.modChan, Work.setChan, Work.chan, h8]⟩
      · exact ⟨_, w.chan_modChan_ne r m _ hm⟩
    · exact hring

section
variable (r m : Nat) (e : Entry)

/-- A part of a channel beside the Cask is as it was. -/
theorem Work.chan_raiseEntry_part {α : Type} (part : Chan → α) (h : ∀ c k, part { c with cask := k } = part c) :
    part ((w.raiseEntry r e).chan m) = part (w.chan m) := by
  obtain ⟨k, hk⟩ := w.chan_raiseEntry_cask r m e
  rw [hk, h]

@[simp] theorem Work.seq_raiseEntry : ((w.raiseEntry r e).chan m).seq = (w.chan m).seq := w.chan_raiseEntry_part r m e Chan.seq (fun _ _ => rfl)
@[simp] theorem Work.kiln_raiseEntry : ((w.raiseEntry r e).chan m).kiln = (w.chan m).kiln := w.chan_raiseEntry_part r m e Chan.kiln (fun _ _ => rfl)
@[simp] theorem Work.led_raiseEntry : ((w.raiseEntry r e).chan m).led = (w.chan m).led := w.chan_raiseEntry_part r m e Chan.led (fun _ _ => rfl)
@[simp] theorem Work.integ_raiseEntry : ((w.raiseEntry r e).chan m).integ = (w.chan m).integ := w.chan_raiseEntry_part r m e Chan.integ (fun _ _ => rfl)
@[simp] theorem Work.mash_raiseEntry : ((w.raiseEntry r e).chan m).mash = (w.chan m).mash := w.chan_raiseEntry_part r m e Chan.mash (fun _ _ => rfl)
@[simp] theorem Work.grist_raiseEntry : ((w.raiseEntry r e).chan m).grist = (w.chan m).grist := w.chan_raiseEntry_part r m e Chan.grist (fun _ _ => rfl)
@[simp] theorem Work.lamp_raiseEntry : ((w.raiseEntry r e).chan m).lamp = (w.chan m).lamp := w.chan_raiseEntry_part r m e Chan.lamp (fun _ _ => rfl)
@[simp] theorem Work.tap_raiseEntry : ((w.raiseEntry r e).chan m).tap = (w.chan m).tap := w.chan_raiseEntry_part r m e Chan.tap (fun _ _ => rfl)
@[simp] theorem Work.psq_raiseEntry : ((w.raiseEntry r e).chan m).psq = (w.chan m).psq := w.chan_raiseEntry_part r m e Chan.psq (fun _ _ => rfl)
@[simp] theorem Work.running_raiseEntry : ((w.raiseEntry r e).chan m).running = (w.chan m).running := w.chan_raiseEntry_part r m e Chan.running (fun _ _ => rfl)
@[simp] theorem Work.standby_raiseEntry : ((w.raiseEntry r e).chan m).standby = (w.chan m).standby := w.chan_raiseEntry_part r m e Chan.standby (fun _ _ => rfl)
@[simp] theorem Work.inReset_raiseEntry : ((w.raiseEntry r e).chan m).inReset = (w.chan m).inReset := w.chan_raiseEntry_part r m e Chan.inReset (fun _ _ => rfl)
@[simp] theorem Work.planRuns_raiseEntry : ((w.raiseEntry r e).chan m).planRuns = (w.chan m).planRuns := w.chan_raiseEntry_part r m e Chan.planRuns (fun _ _ => rfl)

end

/-- A channel other than the ring's is as it was. -/
theorem Work.chan_raiseEntry_ne (r m : Nat) (e : Entry) (h : m ≠ r) : (w.raiseEntry r e).chan m = w.chan m := by
  have hset : ∀ (v : Work) (x : Ring), (v.setRing r x).chan m = v.chan m := by
    intro v x
    unfold Work.setRing
    split
    · exact v.chan_modChan_ne r m _ h
    · rfl
  unfold Work.raiseEntry
  split
  · rfl
  · split
    · exact w.chan_modChan_ne r m _ h
    · unfold Work.ringEntry
      split
      · exact w.chan_dropEntry r m
      · split
        · exact w.chan_dropEntry r m
        · unfold Work.storeEntry
          simp only [Work.chan_takeAttention, Work.chan_ev, Work.setRingNext, Work.setRingCount, Work.chan_ringPut, hset,
            Work.chan_pokes]

/-! ### An entry raised into a ring, and the device -/

/-- All of the device but its registers, its channels, its counters, its memory banks, the device ring and the free counter is
as it was. -/
structure Work.SameDevice (w w' : Work) : Prop where
  tick : w'.tick = w.tick
  ended : w'.ended = w.ended
  bounds : w'.bounds = w.bounds
  nowCyc : w'.nowCyc = w.nowCyc
  lock : w'.lock = w.lock
  img : w'.img = w.img
  host : w'.host = w.host
  tun : w'.tun = w.tun
  netBoot : w'.netBoot = w.netBoot
  fab : w'.fab = w.fab
  pair : w'.pair = w.pair
  rst : w'.rst = w.rst
  pwr : w'.pwr = w.pwr
  sec : w'.sec = w.sec
  temp : w'.temp = w.temp
  dim : w'.dim = w.dim
  modeReq : w'.modeReq = w.modeReq
  sent : w'.sent = w.sent
  mem : w'.mem = w.mem

namespace Work.SameDevice

variable {w}

theorem refl (w : Work) : w.SameDevice w := by constructor <;> rfl

theorem trans {u v : Work} (h : w.SameDevice u) (h' : u.SameDevice v) : w.SameDevice v where
  tick := h'.tick.trans h.tick
  ended := h'.ended.trans h.ended
  bounds := h'.bounds.trans h.bounds
  nowCyc := h'.nowCyc.trans h.nowCyc
  lock := h'.lock.trans h.lock
  img := h'.img.trans h.img
  host := h'.host.trans h.host
  tun := h'.tun.trans h.tun
  netBoot := h'.netBoot.trans h.netBoot
  fab := h'.fab.trans h.fab
  pair := h'.pair.trans h.pair
  rst := h'.rst.trans h.rst
  pwr := h'.pwr.trans h.pwr
  sec := h'.sec.trans h.sec
  temp := h'.temp.trans h.temp
  dim := h'.dim.trans h.dim
  modeReq := h'.modeReq.trans h.modeReq
  sent := h'.sent.trans h.sent
  mem := h'.mem.trans h.mem

variable (w)

theorem put (f : Fld) (v n k : Nat) : w.SameDevice (w.put f v n k) := by constructor <;> rfl

theorem modChan (n : Nat) (f : Chan → Chan) : w.SameDevice (w.modChan n f) := by constructor <;> rfl

theorem ev (c i k : Nat) : w.SameDevice (w.ev c i k) := by
  unfold Work.ev
  split <;> constructor <;> rfl

theorem ringPut (r : Nat) (c d : Fld) (v : Nat) : w.SameDevice (w.ringPut r c d v) := by
  unfold Work.ringPut
  split <;> exact put ..

theorem setRing (r : Nat) (x : Ring) : w.SameDevice (w.setRing r x) := by
  unfold Work.setRing
  split <;> constructor <;> rfl

theorem poke (a : Nat) (b : Byte) : w.SameDevice (w.poke a b) := by
  unfold Work.poke
  (repeat' split) <;> constructor <;> rfl

theorem pokes (bs : List Byte) (a : Nat) : w.SameDevice (w.pokes a bs) := by
  induction bs generalizing w a with
  | nil => exact refl w
  | cons b bs ih => exact (poke w a b).trans (ih _ _)

theorem dropEntry (r : Nat) : w.SameDevice (w.dropEntry r) := by
  unfold Work.dropEntry
  refine SameDevice.trans ?_ (((ringPut ..).trans (ringPut ..)).trans (ev ..))
  split <;> rw [Work.countUp_eq] <;> exact put ..

theorem storeEntry (r : Nat) (e : Entry) : w.SameDevice (w.storeEntry r e) :=
  ((((pokes w _ _).trans (setRing ..)).trans (ringPut ..)).trans (ringPut ..)).trans ((ringPut ..).trans (ev ..))

theorem takeAttention (r : Nat) : w.SameDevice (w.takeAttention r) := (ringPut w ..).trans (put ..)

/-- An entry raised into a ring is nothing to the rest of the device. -/
theorem raiseEntry (r : Nat) (e : Entry) : w.SameDevice (w.raiseEntry r e) := by
  unfold Work.raiseEntry
  split
  · exact refl w
  · split
    · exact modChan ..
    · unfold Work.ringEntry
      split
      · exact dropEntry ..
      · split
        · exact dropEntry ..
        · exact (storeEntry w r e).trans (takeAttention ..)

end Work.SameDevice

/-- An entry is raised with the running tick. -/
@[simp] theorem Work.entryNow_eq (r kind code flags value : Nat) :
    w.entryNow r kind code flags value = w.raiseEntry r ⟨kind, code, flags, value, w.tick32⟩ := by rfl

/-! ### An entry raised into a ring, and the registers -/

section
variable (ch : Fin 8) (e : Entry) (g : Fld)

/-- A channel's field outside its ring's registers. -/
theorem Work.get_raiseEntry_fin (h : ringFree g = true ∧ 0x40100000 ≤ g.base) : (w.raiseEntry ch e).get g ch 0 = w.get g ch 0 :=
  w.get_raiseEntry ch e g h (le_of_lt ch.isLt)

/-- A device field outside a ring's registers, as an entry is raised into a channel's ring. -/
theorem Work.get_raiseEntry_finDev (h : ringFree g = true ∧ g.base < 0x40100000) : (w.raiseEntry ch e).get g 0 0 = w.get g 0 0 :=
  w.get_raiseEntry_dev ch e g h (le_of_lt ch.isLt)

/-- A device field outside the ring's registers, as an entry is raised into the device ring. -/
theorem Work.get_raiseEntry_devRing (h : ringFree g = true ∧ g.base < 0x40100000) : (w.raiseEntry devRing e).get g 0 0 = w.get g 0 0 :=
  w.get_raiseEntry_dev devRing e g h (le_refl 8)

/-- A channel's field, as an entry is raised into the device ring. -/
theorem Work.get_raiseEntry_devRingChan (n k : Nat) (h : 0x40100000 ≤ g.base) :
    (w.raiseEntry devRing e).get g n k = w.get g n k := by
  have haddr : g.addr n k ∉ ringRegs devRing := by
    have hlow : ∀ a ∈ ringRegs devRing, a < 0x40100000 := by decide
    intro hm
    have := hlow _ hm
    unfold Fld.addr at this
    omega
  unfold Work.get
  rw [w.reg_raiseEntry devRing e _ haddr]

theorem Work.flag_raiseEntry_fin (h : ringFree g = true ∧ 0x40100000 ≤ g.base) : (w.raiseEntry ch e).flag g ch 0 = w.flag g ch 0 := by
  unfold Work.flag; rw [w.get_raiseEntry_fin ch e g h]
theorem Work.flag_raiseEntry_finDev (h : ringFree g = true ∧ g.base < 0x40100000) : (w.raiseEntry ch e).flag g 0 0 = w.flag g 0 0 := by
  unfold Work.flag; rw [w.get_raiseEntry_finDev ch e g h]
theorem Work.flag_raiseEntry_devRing (h : ringFree g = true ∧ g.base < 0x40100000) : (w.raiseEntry devRing e).flag g 0 0 = w.flag g 0 0 := by
  unfold Work.flag; rw [w.get_raiseEntry_devRing e g h]
theorem Work.flag_raiseEntry_devRingChan (n k : Nat) (h : 0x40100000 ≤ g.base) :
    (w.raiseEntry devRing e).flag g n k = w.flag g n k := by
  unfold Work.flag; rw [w.get_raiseEntry_devRingChan e g n k h]

@[simp] theorem Work.chState_raiseEntry_fin (m : Nat) : (w.raiseEntry ch e).chState m = w.chState m := by
  unfold Work.chState; rw [w.get_raiseEntry_finDev ch e _ (by decide)]
@[simp] theorem Work.chState_raiseEntry_devRing (m : Nat) : (w.raiseEntry devRing e).chState m = w.chState m := by
  unfold Work.chState; rw [w.get_raiseEntry_devRing e _ (by decide)]

end

/-! ### An entry raised into a ring, and the memory -/

/-- Where a command changes memory by one entry raised into a ring, every byte but those of the ring's next place reads what it
read. -/
theorem State.sameMemButNext_of_raise (s : State) (f : Work → Work) (v : Work) (r : Nat) (e : Entry)
    (hwr : (f s.work).wr = (v.raiseEntry r e).wr) (hv : v.wr = []) (hbase : v.ringBase r = s.work.ringBase r)
    (hring : v.ring r = s.work.ring r) : s.sameMemButNext (s.run f) r := by
  intro a ha
  refine s.run_byte f a ?_
  have hclean : v.untouched a := by
    unfold Work.untouched
    rw [hv]
    exact fun op hop => absurd hop List.not_mem_nil
  unfold Work.untouched
  rw [hwr]
  exact v.untouched_raiseEntry r e a hclean (by rwa [hbase, hring])

@[simp] theorem Work.ringBase_put (f : Fld) (v n k r : Nat) : (w.put f v n k).ringBase r = w.ringBase r := by rfl
@[simp] theorem Work.ring_put (f : Fld) (v n k r : Nat) : (w.put f v n k).ring r = w.ring r := by rfl

/-! ### Pin engines -/

section
variable (n e : Nat)

/-- An engine shown writes its own registers. -/
theorem Work.reg_showEng (a : Nat) (h : a ∉ psqRegs n e) : (w.showEng n e).reg a = w.reg a := by
  simp only [psqRegs, List.mem_cons, List.not_mem_nil, or_false, not_or] at h
  obtain ⟨hstat, -, hstate, hgtr, hspr, hctr, -, hfstat, hrx⟩ := h
  simp (disch := with_unfolding_all (refine id ?_; assumption)) only [Work.showEng, Work.putFlag_eq, Work.reg_put_ne]

theorem Work.chan_showEng (m : Nat) : (w.showEng n e).chan m = w.chan m := by
  simp only [Work.showEng, Work.putFlag_eq, Work.chan_put]

theorem Work.wr_showEng : (w.showEng n e).wr = w.wr := by
  simp only [Work.showEng, Work.putFlag_eq, Work.put_wr]

/-- An engine set writes the registers that show it. -/
theorem Work.reg_setEng (x : Engine) (a : Nat) (h : a ∉ psqRegs n e) : (w.setEng n e x).reg a = w.reg a := by
  unfold Work.setEng
  rw [Work.reg_showEng _ _ _ _ h, Work.reg_modChan]

@[simp] theorem Work.wr_setEng (x : Engine) : (w.setEng n e x).wr = w.wr := by
  unfold Work.setEng
  rw [Work.wr_showEng, Work.modChan_wr]

/-- An engine set is set on its channel. -/
@[simp] theorem Work.chan_setEng_fin (ch : Fin 8) (x : Engine) : (w.setEng ch e x).chan ch = (w.chan ch).withEng e x := by
  unfold Work.setEng
  rw [Work.chan_showEng, Work.chan_modChan_fin]
  rfl

theorem Work.chan_setEng_ne (m : Nat) (x : Engine) (h : m ≠ n) : (w.setEng n e x).chan m = w.chan m := by
  unfold Work.setEng
  rw [Work.chan_showEng, Work.chan_modChan_ne _ _ _ _ h]

end

end Sys2Proof.Machine
end

section
/-! PROOF. The Kiln's commands: its temperature source, its readiness, its holds and faults, and the end of quiescing. -/

namespace Sys2Proof.Machine

/-! ### What each command does where its condition holds -/

section
variable (w : Work) (n : Nat)

theorem ntcFallback_of (hbad : (w.chan n).kiln.ntcBad = 4) (hdie : (w.chan n).kiln.onDie = false)
    (hsrc : w.cur F.KILN_CFG_TEMP_SRC n = 1) : ntcFallback w n =
      (w.modKiln n (fun k => { k with onDie := true, temps := [], ntcGood := [], tHold := 64 })).raise F.KILN_STAT_NTC_FAULT n := by
  unfold ntcFallback
  rw [if_pos ⟨hbad, by rw [hdie]; rfl, hsrc⟩]

theorem ntcReturn_of (hdie : (w.chan n).kiln.onDie = true) (hbad : (w.chan n).kiln.ntcBad = 4)
    (hgood : (w.chan n).kiln.ntcGood.length = 64) (hsrc : w.cur F.KILN_CFG_TEMP_SRC n = 1) : ntcReturn w n =
      (w.modKiln n (fun k => { k with onDie := false, temps := k.ntcGood, ntcGood := [], ntcBad := 0, tHold := 0 })).takeTemp n := by
  unfold ntcReturn
  rw [if_pos ⟨hdie, hbad, hgood, hsrc⟩]

/-- Where no ramp is under way, VLCD stands where it is shown. -/
theorem Work.vlcdReach_of_settled (hramp : (w.chan n).kiln.ramping = false) : w.vlcdReach n = w.vlcd n := by
  unfold Work.vlcdReach
  simp only [hramp, Bool.false_eq_true, if_false]

theorem kilnReady_of (hrun : (w.chan n).running = true) (hlcd : (w.chan n).seq.act.isLcd = true)
    (hcold : (w.chan n).kiln.cold = false) (hramp : (w.chan n).kiln.ramping = false)
    (hready : w.flag F.KILN_STAT_READY n = false) (htarget : (w.chan n).kiln.target ≠ 0)
    (hnear : nearTarget (w.vlcd n) (w.chan n).kiln.target = true) :
    kilnReady w n = (w.putFlag F.KILN_STAT_READY true n).clearLedger n := by
  unfold kilnReady
  simp only [hrun, hlcd, hcold, hramp, hready, w.vlcdReach_of_settled n hramp, hnear, htarget, true_or, ne_eq,
    not_false_eq_true, Bool.not_false, and_self, if_true, Bool.false_eq_true, if_false]

/-- The hold of a DISPLAY slot noted, and whether its levels have settled by its end. -/
def Work.noteHold (w : Work) (n h : Nat) (settled : Bool) : Work :=
  w.modChan n (fun c => { c with
    seq := { c.seq with hold := h }, kiln := { c.kiln with unsettled := if settled then 0 else c.kiln.unsettled + 1 } })

/-- A hold counted, and the longest kept. -/
def Work.countHold (w : Work) (n h : Nat) : Work :=
  let w := (w.countUp F.KILN_HOLDS_HOLDS n).ev 0x14 n
  w.put F.KILN_HOLDS_MAX_HOLD (Nat.max h (w.get F.KILN_HOLDS_MAX_HOLD n)) n

/-- A DISPLAY slot of an LCD channel that is ready and has not been held yet takes its hold; fewer than 64 unsettled in a row
are no fault. -/
theorem kilnHoldEnd_of (ts buf : Nat) (settles : Bool) (x : SlotRun) (hcur : (w.chan n).seq.cur = some x)
    (hkind : x.kind = kDisplay) (hlcd : (w.chan n).seq.act.isLcd = true) (hready : w.flag F.KILN_STAT_READY n = true)
    (hen : w.curFlag F.KILN_CFG_HOLD_EN n = true) (hhold : (w.chan n).seq.hold = 0)
    (hfew : (w.holdOf n ts settles).2 = true ∨ (w.chan n).kiln.unsettled < 63) :
    kilnHoldEnd w n ts settles buf =
      if (w.holdOf n ts settles).1 = 0 then w.noteHold n 0 (w.holdOf n ts settles).2
      else (w.noteHold n (w.holdOf n ts settles).1 (w.holdOf n ts settles).2).countHold n (w.holdOf n ts settles).1 := by
  have hledger : w.ledgerOn n = true := by unfold Work.ledgerOn; rw [hlcd, hready]; rfl
  have hnofault : ¬ ((!(w.holdOf n ts settles).2) = true ∧ 64 ≤ (w.chan n).kiln.unsettled + 1) := by
    rintro ⟨hs, h64⟩
    rcases hfew with hs' | hfew
    · rw [hs'] at hs
      cases hs
    · omega
  unfold kilnHoldEnd
  simp only [hcur, hkind, hledger, hen, hhold, and_self, if_true, if_neg hnofault]
  split
  · next h0 => rw [h0]; rfl
  · rfl

/-- An overcurrent of a warm LCD channel is a Kiln fault. -/
theorem kilnOvercurrent_of (src : Nat) (hreset : (w.chan n).inReset = false) (hcold : (w.chan n).kiln.cold = false)
    (hlcd : (w.chan n).seq.act.isLcd = true) : kilnOvercurrent w n src = w.kilnFault n 0 src := by
  unfold kilnOvercurrent
  rw [if_neg (by simp only [hreset, hcold, hlcd, Bool.false_eq_true, Bool.not_true, or_self, not_false_eq_true])]

/-- A Kiln fault detected, before it acts: BUF_FAULT, and its entry. -/
def Work.kilnFaultNoted (w : Work) (n code src : Nat) : Work :=
  (w.raise F.KILN_STAT_BUF_FAULT n).entryNow n 0x21 code 0 (src % 8 + 256 * (w.raise F.KILN_STAT_BUF_FAULT n).vlcd n)

/-- A first fault is noted; it waits for the next slot start while the plan runs, and acts at once where it does not. -/
theorem Work.kilnFault_of (code src : Nat) (hdue : (w.chan n).kiln.faultDue = false) : w.kilnFault n code src =
    if (w.chan n).planRuns then (w.kilnFaultNoted n code src).modKiln n (fun k => { k with faultDue := true })
    else (w.kilnFaultNoted n code src).kilnStop n := by
  have hruns : ((w.kilnFaultNoted n code src).chan n).planRuns = (w.chan n).planRuns := by
    simp only [Work.kilnFaultNoted, Work.raise_eq, Work.entryNow_eq, Work.planRuns_raiseEntry, Work.chan_put]
  rw [← hruns]
  unfold Work.kilnFault
  simp only [hdue, Bool.false_eq_true, if_false]
  rfl

theorem dischargeProof_of (mv : List Nat) (rep : Nat) (hq : (w.chan n).kiln.quiesce = .discharge rep) :
    dischargeProof w n mv = w.modKiln n (fun k => { k with
      proofRun := true
      proofFail := (((w.chan n).seq.act.displayLines.zip mv).filter (fun p => decide (50 ≤ p.2))).map (·.1) }) := by
  unfold dischargeProof
  rw [hq]

/-- Outside a POWER command no last Tap frames are due. -/
theorem Work.entryFrames_of_none (hcmd : w.pwr.cmd = none) : w.entryFrames = w := by
  unfold Work.entryFrames
  rw [hcmd]

/-- A channel whose quiescing has ended, before its state shows it. -/
def Work.comesToRest (w : Work) (n : Nat) : Work :=
  (w.stopPlan n).modKiln n (fun k => { k with quiesce := .none })

/-- A channel that is not to be held has quiesced; where no POWER command waits, no last Tap frames are due. -/
theorem quiesceDone_of (hq : (w.chan n).kiln.quiesce = .done) (hreset : (w.chan n).resetAfter = false)
    (hcmd : w.pwr.cmd = none) :
    quiesceDone w n =
      ((w.comesToRest n).putFlag F.SEQ_STAT_RUNNING false n).putChState n ((w.comesToRest n).restState n) := by
  have hcmd' : (((w.comesToRest n).putFlag F.SEQ_STAT_RUNNING false n).putChState n
      ((w.comesToRest n).restState n)).pwr.cmd = none := by
    simpa only [Work.comesToRest, Work.stopPlan, Work.putChState, Work.putFlag_eq, Work.modKiln_eq, Work.put_pwr, Work.modChan_pwr]
      using hcmd
  rw [← Work.entryFrames_of_none _ hcmd']
  unfold quiesceDone
  simp only [hq, hreset, Bool.false_eq_true, if_false, if_true]
  rfl

end

/-! ### A Kiln that stops -/

section
variable (w : Work) (n : Nat)

/-- A channel's windows closed write the registers of its engines. -/
theorem Work.reg_closeWindows (a : Nat) (h : ∀ e, e < 4 → a ∉ psqRegs n e) : (w.closeWindows n).reg a = w.reg a := by
  unfold Work.closeWindows
  refine List.foldlRecOn (motive := fun v : Work => v.reg a = w.reg a) (List.range 4) _ rfl (fun v hv e he => ?_)
  unfold Work.closeWindow
  split
  · rw [Work.modEng, Work.reg_setEng _ _ _ _ _ (h e (List.mem_range.mp he)), hv]
  · exact hv

/-- A device register stands outside a channel's engines. -/
theorem addr_notMem_psqRegs (f : Fld) (n m k e : Nat) (h : f.base < 0x40100000) (hm : m = 0) (hk : f.base + f.stride * k < 0x40100000) :
    f.addr m k ∉ psqRegs n e := by
  subst hm
  simp only [psqRegs, List.mem_cons, List.not_mem_nil, or_false, not_or, Fld.addr, R.PSQ_STAT, R.PSQ_LOOP, R.PSQ_STATE,
    R.PSQ_GTR, R.PSQ_SPR, R.PSQ_CTR, R.PSQ_PASSES, R.PSQ_FSTAT, R.PSQ_RX]
  omega

/-- What a resting channel reads hangs on the mode register alone. -/
theorem Work.restState_congr (v : Work) (h : v.reg (R.SYS_MODE.addr 0 0) = w.reg (R.SYS_MODE.addr 0 0)) :
    v.restState n = w.restState n := by
  have hget : ∀ f : Fld, f.base = R.SYS_MODE.base → v.get f 0 0 = w.get f 0 0 := by
    intro f hf
    have haddr : f.addr 0 0 = R.SYS_MODE.addr 0 0 := by unfold Fld.addr; rw [hf]; rfl
    unfold Work.get
    rw [haddr, h]
  unfold Work.restState Work.mode Work.inTestMask
  rw [hget F.SYS_MODE_MODE rfl, hget F.SYS_MODE_TEST_MASK rfl]

theorem Work.restState_lt : w.restState n < 16 := by
  unfold Work.restState
  split <;> decide

@[simp] theorem Work.restState_put (f : Fld) (v m k : Nat) (h : 0x40100000 ≤ f.base) :
    (w.put f v m k).restState n = w.restState n :=
  w.restState_congr n _ (w.reg_put_ne f v m k _ (by simp only [Fld.addr, R.SYS_MODE]; omega))

@[simp] theorem Work.restState_modChan (m : Nat) (f : Chan → Chan) : (w.modChan m f).restState n = w.restState n :=
  w.restState_congr n _ (w.reg_modChan m f _)

/-! What noting a channel's ladders leaves. -/

@[simp] theorem Work.reg_noteDown (a : Nat) : (w.noteDown n).reg a = w.reg a := by rfl
@[simp] theorem Work.get_noteDown (f : Fld) (m k : Nat) : (w.noteDown n).get f m k = w.get f m k := by rfl
@[simp] theorem Work.flag_noteDown (f : Fld) (m k : Nat) : (w.noteDown n).flag f m k = w.flag f m k := by rfl
@[simp] theorem Work.chan_noteDown (m : Nat) : (w.noteDown n).chan m = w.chan m := by rfl

@[simp] theorem Work.restState_raiseEntry_fin (ch : Fin 8) (e : Entry) : (w.raiseEntry ch e).restState n = w.restState n := by
  unfold Work.restState Work.mode Work.inTestMask
  rw [w.get_raiseEntry_finDev ch e _ (by decide), w.get_raiseEntry_finDev ch e _ (by decide)]

@[simp] theorem Work.restState_closeWindows (m : Nat) : (w.closeWindows m).restState n = w.restState n :=
  w.restState_congr n _ (w.reg_closeWindows m _ (fun e _ => addr_notMem_psqRegs R.SYS_MODE m 0 0 e (by decide) rfl (by decide)))

/-- A channel's register below the pin engines' block keeps its fields as windows are closed. -/
theorem Work.flag_closeWindows (f : Fld) (h : 0x40100000 ≤ f.base ∧ f.base < 0x40109000) : (w.closeWindows n).flag f n 0 = w.flag f n 0 := by
  have haddr : ∀ e, f.addr n 0 ∉ psqRegs n e := fun e => by
    simp only [psqRegs, List.mem_cons, List.not_mem_nil, or_false, not_or, Fld.addr, R.PSQ_STAT, R.PSQ_LOOP, R.PSQ_STATE,
      R.PSQ_GTR, R.PSQ_SPR, R.PSQ_CTR, R.PSQ_PASSES, R.PSQ_FSTAT, R.PSQ_RX]
    omega
  unfold Work.flag Work.get
  rw [w.reg_closeWindows n _ (fun e _ => haddr e)]

/-- A channel that shows the state it rests in. -/
@[simp] theorem Work.chState_putChState_restState (ch : Fin 8) (v : Work) (m : Nat) :
    (w.putChState ch (v.restState m)).chState ch = v.restState m :=
  w.chState_putChState ch _ ch.isLt (v.restState_lt m)

/-- A channel whose Kiln has stopped it, before its state shows it. -/
def Work.kilnStilled (w : Work) (n : Nat) : Work :=
  (((w.closeWindows n).turnCold n).stopPlan n).modChan n (fun c => { c with
    restart := none, kiln := { c.kiln with faulted := true, faultDue := false, quiesce := .none } })

/-- Where the plan does not run, no key step is owed. -/
theorem Work.kilnStop_of_still (hruns : (w.chan n).planRuns = false) :
    w.kilnStop n = ((w.kilnStilled n).noteDown n).putChState n ((w.kilnStilled n).restState n) := by
  have hhalt : w.haltSteps n = w := by
    unfold Work.haltSteps
    rw [hruns]
    rfl
  unfold Work.kilnStop
  rw [hhalt]
  rfl

end

/-! ### The obligation -/

/-- Settles O5: each command comes, where its condition holds, to the few changes that its law names, and those are read off. -/
theorem kilnCommands : Obligations.KilnCommands := by
  unfold Obligations.KilnCommands
  refine ⟨?fallback, ?back, ?ready, ?hold, ?unsettled, ?settled, ?overcurrent, ?stopped, ?discharge, ?quiesced⟩
  case fallback =>
    intro s ch hbad hdie hsrc
    refine ⟨_, rfl, ?_⟩
    simp (disch := decide) [ntcFallback_of s.work ch hbad hdie hsrc, State.sameRegs_run, Work.flag_put_same]
    intro a ha
    exact Work.reg_put_ne _ _ _ _ _ _ ha
  case back =>
    intro s ch hdie hbad hgood hsrc
    refine ⟨_, rfl, ?_⟩
    simp (disch := decide) [ntcReturn_of s.work ch hdie hbad hgood hsrc, State.sameRegs_run, Work.takeTemp, Work.flag_put_apart]
    intro a ha
    exact Work.reg_put_ne _ _ _ _ _ _ ha
  case ready =>
    intro s ch hrun hlcd hcold hramp hready htarget hnear
    refine ⟨_, rfl, ?_⟩
    simp (disch := decide) [kilnReady_of s.work ch hrun hlcd hcold hramp hready htarget hnear, State.sameRegs_run,
      Work.clearLedger, Work.flag_put_same, Work.get_put_apart]
    intro a ha
    exact Work.reg_put_ne _ _ _ _ _ _ ha
  case hold =>
    intro s ch ts buf x hcur hkind hlcd hready hen hhold hlate hwithin
    have hof : s.work.holdOf ch ts true = (ts - 20 * s.work.cur F.KILN_BOOST_BOOST_T ch, true) := by
      unfold Work.holdOf
      simp only [if_true, Nat.min_eq_right hwithin, decide_eq_true hwithin]
    have hpos : ts - 20 * s.work.cur F.KILN_BOOST_BOOST_T ch ≠ 0 := by omega
    refine ⟨_, rfl, ?_⟩
    simp (disch := decide) [kilnHoldEnd_of s.work ch ts buf true x hcur hkind hlcd hready hen hhold (Or.inl (by rw [hof])), hof,
      hpos, State.sameRegs_run, Work.noteHold, Work.countHold, Work.get_put_apart, Work.get_put_same]
    have hmax := s.get_lt F.KILN_HOLDS_MAX_HOLD ch 0
    refine ⟨rfl, Nat.mod_eq_of_lt (max_lt ?_ hmax), fun a ha => ?_⟩
    · exact lt_of_le_of_lt hwithin (by decide)
    · simp (disch := with_unfolding_all (refine id ?_; assumption)) only [Work.reg_put_ne, Work.reg_ev, Work.reg_modChan, State.work_reg]
  case unsettled =>
    intro s ch ts settles buf x hcur hkind hlcd hready hen hhold hlate hfew
    have hof : s.work.holdOf ch ts settles = (800, false) := by
      unfold Work.holdOf
      rcases hlate with rfl | hlate
      · rfl
      · simp only [Nat.min_eq_left (le_of_lt hlate), decide_eq_false (not_le.mpr hlate), ite_self]
    refine ⟨_, rfl, ?_⟩
    simp (disch := decide) [kilnHoldEnd_of s.work ch ts buf settles x hcur hkind hlcd hready hen hhold (Or.inr hfew), hof,
      State.sameRegs_run, Work.noteHold, Work.countHold]
    intro a ha
    simp (disch := with_unfolding_all (refine id ?_; assumption)) only [Work.reg_put_ne, Work.reg_ev, Work.reg_modChan, State.work_reg]
  case settled =>
    intro s ch ts buf x hcur hkind hlcd hready hen hhold hsoon
    have hof : s.work.holdOf ch ts true = (0, true) := by
      unfold Work.holdOf
      simp [Nat.sub_eq_zero_of_le hsoon]
    refine ⟨_, rfl, ?_⟩
    simp [kilnHoldEnd_of s.work ch ts buf true x hcur hkind hlcd hready hen hhold (Or.inl (by rw [hof])), hof,
      State.sameRegs_run, Work.noteHold]
  case overcurrent =>
    intro s ch src hreset hcold hlcd hdue hruns
    have hfault : kilnOvercurrent s.work ch src = (s.work.kilnFaultNoted ch 0 src).modKiln ch (fun k => { k with faultDue := true }) := by
      rw [kilnOvercurrent_of s.work ch src hreset hcold hlcd, Work.kilnFault_of s.work ch 0 src hdue]
      exact if_pos hruns
    refine ⟨_, rfl, ?_⟩
    simp (disch := decide) [hfault, State.sameRegs_run, Work.kilnFaultNoted, Work.flag_raiseEntry_fin, Work.flag_put_same, Work.chState_put]
    have hwr : (kilnOvercurrent s.work ch src).wr = (s.work.kilnFaultNoted ch 0 src).wr := by
      rw [hfault, Work.modKiln_eq, Work.modChan_wr]
    refine ⟨fun a ha hring => ?_, s.sameMemButNext_of_raise _ (s.work.put F.KILN_STAT_BUF_FAULT 1 ch) ch _ hwr rfl rfl rfl⟩
    rw [Work.reg_raiseEntry _ _ _ _ hring]
    exact Work.reg_put_ne _ _ _ _ _ _ ha
  case stopped =>
    intro s ch src hreset hcold hlcd hdue hruns
    have hstill : ((s.work.kilnFaultNoted ch 0 src).chan ch).planRuns = false := by
      simpa [Work.kilnFaultNoted] using hruns
    have hfault : kilnOvercurrent s.work ch src = (((s.work.kilnFaultNoted ch 0 src).kilnStilled ch).noteDown ch).putChState ch
        (((s.work.kilnFaultNoted ch 0 src).kilnStilled ch).restState ch) := by
      rw [kilnOvercurrent_of s.work ch src hreset hcold hlcd, Work.kilnFault_of s.work ch 0 src hdue,
        ← Work.kilnStop_of_still _ _ hstill]
      exact if_neg (by rw [State.work_chan, hruns]; exact Bool.false_ne_true)
    refine ⟨_, rfl, ?_⟩
    simp (disch := decide) [hfault, Work.kilnFaultNoted, Work.kilnStilled, Work.turnCold, Work.setVlcd, Work.clearLedger,
      Work.stopPlan, Work.get_putChState, Work.flag_putChState, Work.flag_put_same, Work.get_put_same, Work.flag_put_apart,
      Work.get_put_apart, Work.flag_closeWindows, Work.flag_raiseEntry_fin]
  case discharge =>
    intro s ch rep mv hq
    refine ⟨_, rfl, ?_⟩
    simp [dischargeProof_of s.work ch mv rep hq, State.sameRegs_run]
  case quiesced =>
    intro s ch hq hreset hcmd
    refine ⟨_, rfl, ?_⟩
    simp (disch := decide) [quiesceDone_of s.work ch hq hreset hcmd, State.sameRegs_run, Work.comesToRest, Work.stopPlan,
      Work.flag_putChState, Work.flag_put_same]
    intro a hseq hstate
    rw [Work.reg_putChState _ _ _ _ hstate]
    simp (disch := with_unfolding_all (refine id ?_; assumption)) only [Work.reg_put_ne, Work.reg_modChan, State.work_reg]

end Sys2Proof.Machine
end

section
/-! PROOF. The ports that take G3 commands: each executes the same operation. -/

namespace Sys2Proof.Machine

/-! ### The commands of the G3 table -/

/-- A command of the table is the command of its opcode, by the port of its origin. -/
theorem exec_g3Command (c : Origin → Nat → List Byte → Instr) (op : Nat) (h : (c, op) ∈ g3Commands) (o : Origin) (tag : Nat)
    (pl : List Byte) (s : State) : exec (c o tag pl) s = .next (s.run (fun w => w.command o op tag pl)) := by
  simp only [g3Commands, List.mem_cons, Prod.mk.injEq, List.not_mem_nil, or_false] at h
  rcases h with ⟨rfl, rfl⟩ | ⟨rfl, rfl⟩ | ⟨rfl, rfl⟩ | ⟨rfl, rfl⟩ | ⟨rfl, rfl⟩ | ⟨rfl, rfl⟩ | ⟨rfl, rfl⟩ | ⟨rfl, rfl⟩ |
    ⟨rfl, rfl⟩ | ⟨rfl, rfl⟩ | ⟨rfl, rfl⟩ | ⟨rfl, rfl⟩ | ⟨rfl, rfl⟩ | ⟨rfl, rfl⟩ | ⟨rfl, rfl⟩ | ⟨rfl, rfl⟩ <;> rfl

/-- Its opcode is one of the table's, and not ABORT's. -/
theorem g3Commands_op (c : Origin → Nat → List Byte → Instr) (op : Nat) (h : (c, op) ∈ g3Commands) :
    g3Ops.contains op = true ∧ op ≠ opAbort := by
  have hops : ∀ x ∈ g3Commands.map (·.2), g3Ops.contains x = true ∧ x ≠ opAbort := by decide
  exact hops op (List.mem_map.mpr ⟨_, h, rfl⟩)

/-- Two meanings that do the same to a state leave the same state. -/
theorem State.run_congr (s : State) (f g : Work → Work) (h : f s.work = g s.work) : s.run f = s.run g := by
  unfold State.run
  rw [h]

/-! ### Each port -/

section
variable (w : Work) (op tag : Nat) (pl : List Byte)

/-- An opcode of the table that is not ABORT's is executed. -/
theorem Work.serve_of_g3 (o : Origin) (atCommit : Bool) (hop : g3Ops.contains op = true) (habort : op ≠ opAbort) :
    w.serve o op tag pl atCommit = w.execute o op tag pl := by
  unfold Work.serve
  simp only [hop, Bool.not_true, Bool.false_eq_true, if_false, if_pos habort]

/-- An engine that carries vendor records and has no command in flight executes one (R326, R327). -/
theorem vendorRequest_of_free (e : Nat) (hop : g3Ops.contains op = true) (habort : op ≠ opAbort)
    (hcarries : w.carriesRecords e = true) (hfree : (w.tunEng e).port.flight = none) :
    vendorRequest w e op tag pl false = (w.ev 0x5B e).execute (.tun e) op tag pl := by
  have hfree' : ((w.ev 0x5B e).tunEng e).port.flight = none := by
    unfold Work.tunEng
    rw [Work.ev_tun]
    exact hfree
  unfold vendorRequest
  simp only [hcarries, hfree', Option.isSome_none, Bool.not_true, Bool.false_eq_true, false_and, if_false]
  exact Work.serve_of_g3 _ _ _ _ _ _ hop habort

/-- The network-boot ROM executes a command that it serves (R328). -/
theorem Work.netFrame_of_free (mac : Nat) (hop : g3Ops.contains op = true) (habort : op ≠ opAbort)
    (hserves : w.netServes = true) (hfree : w.netBoot.flight = none) (hboot : bootOps.contains op = true) :
    w.netFrame mac op tag pl false = (w.ev 0x5C 0).execute (.net mac) op tag pl := by
  have hfree' : (w.ev 0x5C 0).netBoot.flight = none := by
    rw [Work.ev_netBoot]
    exact hfree
  unfold Work.netFrame
  simp only [hserves, hfree', hboot, Option.isSome_none, Bool.not_true, Bool.false_eq_true, false_and, if_false]
  exact Work.serve_of_g3 _ _ _ _ _ _ hop habort

/-- The oldest queued command of a node that is awake and idle runs. -/
theorem Work.drainWraps_cons (q : WrapReq) (rest : List WrapReq) (fuel : Nat) (hidle : w.fab.wrapRun = none)
    (hpower : w.pwrState = 0) (hqueue : w.fab.wrapQ = q :: rest) :
    w.drainWraps (fuel + 1) = (({ w with fab := { w.fab with wrapQ := rest } } : Work).runWrap q).drainWraps fuel := by
  conv_lhs => unfold Work.drainWraps
  simp only [hidle, hpower, hqueue, Option.isSome_none, Bool.false_eq_true, ne_eq, not_true_eq_false, or_self, if_false]

/-- A wrapped command taken up by an idle node. -/
def Work.wrapTaken (w : Work) (q : WrapReq) : Work :=
  ({ w with fab := { w.fab with wrapQ := [], wrapRun := some q } } : Work).ev 0x47

/-- A node that serves a source, with nothing queued or running, executes its wrapped command, and then what has been queued
since (R353). -/
theorem Work.wrapIn_of_free (a : Nat) (hop : g3Ops.contains op = true) (habort : op ≠ opAbort)
    (hserves : w.wrapServes a = true) (hqueue : w.fab.wrapQ = []) (hidle : w.fab.wrapRun = none) (hpower : w.pwrState = 0)
    (hfits : wrapRefused op pl = false) (hboot : w.get F.RHL_STAT_STATE ≠ 5) :
    w.wrapIn ⟨a, tag, false, op, tag, pl⟩ =
      ((w.wrapTaken ⟨a, tag, false, op, tag, pl⟩).execute (.fabric a) op tag pl).drainWraps 8 := by
  have hboot' : (w.wrapTaken ⟨a, tag, false, op, tag, pl⟩).get F.RHL_STAT_STATE ≠ 5 := by
    unfold Work.wrapTaken
    rw [Work.get_ev]
    exact hboot
  have hrun : (({ w with fab := { w.fab with wrapQ := [] } } : Work).runWrap ⟨a, tag, false, op, tag, pl⟩) =
      (w.wrapTaken ⟨a, tag, false, op, tag, pl⟩).execute (.fabric a) op tag pl := by
    rw [← Work.serve_of_g3 _ op tag pl (.fabric a) false hop habort]
    unfold Work.runWrap
    simp only [hfits, Bool.false_eq_true, if_false]
    exact if_neg (fun h => hboot' h.1)
  have hroom : ¬ 8 ≤ w.fab.wrapQ.length := by rw [hqueue]; decide
  rw [← hrun]
  unfold Work.wrapIn
  simp only [hserves, hroom, Bool.not_true, Bool.false_eq_true, if_false]
  exact Work.drainWraps_cons { w with fab := { w.fab with wrapQ := w.fab.wrapQ ++ [⟨a, tag, false, op, tag, pl⟩] } } _ [] 8
    hidle hpower (by rw [hqueue]; rfl)

end

/-! ### The obligation -/

/-- Settles O7: a command of the table is the command of its opcode by the port of its origin, and each port that is free
executes it. -/
theorem portsServe : Obligations.PortsServe := by
  unfold Obligations.PortsServe
  intro s c op tag pl hc
  obtain ⟨hop, habort⟩ := g3Commands_op c op hc
  have hexec := fun o => exec_g3Command c op hc o tag pl s
  refine ⟨fun hready => ?_, fun e hcarries hfree => ?_, fun a hserves hqueue hidle hpower hfits hboot => ?_,
    fun hserves hfree hboot mac => ?_, fun e => (hexec (.tun e)).symm,
    fun mac => (hexec (.net mac)).symm, fun a => (hexec (.fabric a)).symm⟩
  · rw [hexec]
    exact congrArg _ (s.run_congr _ _ (s.command_host op tag pl hready hop habort))
  · rw [hexec]
    exact congrArg _ (s.run_congr _ _ (vendorRequest_of_free _ op tag pl e hop habort hcarries hfree))
  · rw [hexec]
    exact congrArg _ (s.run_congr _ _ (Work.wrapIn_of_free _ op tag pl a hop habort hserves hqueue hidle hpower hfits hboot))
  · rw [hexec]
    exact congrArg _ (s.run_congr _ _ (Work.netFrame_of_free _ op tag pl mac hop habort hserves hfree hboot))

end Sys2Proof.Machine
end

section
/-! PROOF. MEM_READ and MEM_WRITE outside the address map, and a MEM_READ of Tun local memory that its cells do not answer. -/

namespace Sys2Proof.Machine

theorem Work.perform_memRead (w : Work) (o : Origin) (pl : List Byte) : w.perform o 0x02 pl = memReadOp w pl := by rfl

/-- A read that reaches outside the range of its address (R25). -/
theorem memReadOp_refused (w : Work) (pl : List Byte) (hlen : pl.length = 6) (hmin : 1 ≤ halfAt pl 4) (hmax : halfAt pl 4 ≤ 4096)
    (hbad : accessOk (wordAt pl 0) (halfAt pl 4) = false) :
    memReadOp w pl = w.reply stArg (if areaOf (wordAt pl 0) = none then List.replicate (halfAt pl 4) 0 else []) := by
  have hform : ¬ (pl.length ≠ 6 ∨ halfAt pl 4 < 1 ∨ 4096 < halfAt pl 4) := by omega
  unfold memReadOp
  simp only [if_neg hform, hbad, Bool.not_false, if_true, Option.isNone_iff_eq_none]

/-- A write that reaches outside the range of its address (R25). -/
theorem memWriteOp_refused (w : Work) (o : Origin) (pl : List Byte) (hmin : 5 ≤ pl.length) (hmax : pl.length ≤ 4100)
    (hbad : accessOk (wordAt pl 0) (pl.length - 4) = false) : memWriteOp w o pl = w.reply stArg := by
  have hform : ¬ (pl.length < 5 ∨ 4100 < pl.length) := by omega
  unfold memWriteOp
  simp only [if_neg hform, List.length_drop, hbad, Bool.not_false, if_true]

/-- Settles O49: the payload's form is in order and the access is refused before anything is read or written, so the command is
answered on the state it came to. -/
theorem refusedAccesses : Obligations.RefusedAccesses := by
  unfold Obligations.RefusedAccesses
  refine ⟨fun s tag pl hready hlen hmin hmax hbad => ?_, fun s tag pl hready hmin hmax hbad => ?_⟩
  · obtain ⟨hanswer, hchan, hregs, hmem⟩ := s.onlyAnswered_of_perform 0x02 tag stArg pl _ hready (by decide) (by decide)
      ((Work.perform_memRead _ _ _).trans (memReadOp_refused _ pl hlen hmin hmax hbad))
    exact ⟨_, rfl, hanswer, hregs, hchan, hmem⟩
  · obtain ⟨hanswer, hchan, hregs, hmem⟩ := s.onlyAnswered_of_perform 0x03 tag stArg pl _ hready (by decide) (by decide)
      ((Work.perform_memWrite _ _ _).trans (memWriteOp_refused _ .host pl hmin hmax hbad))
    exact ⟨_, rfl, hanswer, hregs, hchan, hmem⟩

/-- A released device whose Tun engines have no image in force, with a byte in a cell of engine 0's local memory. -/
def State.unfittedCell : State :=
  { State.reset with
    mem := [(0x02000000, 5)]
    dev := { Dev.init with regs := [(F.SYS_REL_STEP.addr 0 0, 12)], rst := { Rst.init with hold := .none } } }

/-- A MEM_READ of one byte at the first address of Tun local memory. -/
def tunReadPayload : List Byte := [0, 0, 0, 2, 1, 0]

/-- The memory of an engine with no image in force reads 0 (R315). -/
theorem State.unfittedCell_reads : (State.unfittedCell.work.command .host 0x02 0 tunReadPayload).host.port.resp.payload = [0] := by
  decide +kernel

/-- Refutes O9: its third clause has a MEM_READ of any memory outside the registers answer the bytes of the cells, yet the local
memory of a Tun engine without an image reads 0 (R315): a cell there that holds 5 is answered 0. -/
theorem not_readCommands : ¬ Obligations.ReadCommands := by
  unfold Obligations.ReadCommands
  rintro ⟨-, -, hmemory, -⟩
  obtain ⟨t, hnext, hanswer, -⟩ := hmemory State.unfittedCell 0 tunReadPayload (by decide +kernel) rfl (by decide) (by decide)
    (by decide +kernel) (by decide +kernel) (by decide +kernel) (by decide +kernel)
  obtain rfl : State.unfittedCell.run (fun w => w.command .host 0x02 0 tunReadPayload) = t := Host.Outcome.next.inj hnext
  have hcells : (State.unfittedCell.work.command .host 0x02 0 tunReadPayload).host.port.resp.payload = [5] :=
    (congrArg (fun p : Port => p.resp.payload) hanswer).trans (by decide +kernel)
  exact absurd (State.unfittedCell_reads.symm.trans hcells) (by decide)

end Sys2Proof.Machine
end

section
/-! PROOF. What the access codes leave of a written word, field by field (R4). -/

namespace Sys2Proof.Machine

/-! ### The fields of a row -/

/-- Fields that rise from bit `b` without meeting. -/
def fieldsRise : Nat → List FieldRow → Bool
  | _, [] => true
  | b, f :: fs => decide (b ≤ f.lo) && decide (f.lo ≤ f.hi) && fieldsRise (f.hi + 1) fs

/-- The fields of every register of a block rise from bit 0. -/
def RowsRise (rows : List RegRow) : Prop := ∀ r ∈ rows, fieldsRise 0 r.fields = true

/-- The fields of every register of the map rise from bit 0. -/
theorem blockRows_rise (a : Nat) : RowsRise (blockRows a) := by
  have hrows : ∀ rows : List RegRow, rows.all (fun r => fieldsRise 0 r.fields) = true → RowsRise rows := fun _ h r hr => List.all_eq_true.mp h r hr
  have hblock : ∀ k, RowsRise (match k with
      | 0 => rowsSEQ | 1 => rowsKILN | 2 => rowsLED | 3 => rowsINTEG | 4 => rowsGRIST | 5 => rowsENC | 6 => rowsCASK | 7 => rowsLAMP
      | 8 => rowsTAP | 9 => rowsPSQ | 11 => rowsBLINK | 12 => rowsMASH | 13 => rowsLINE | 15 => rowsCTL | _ => []) := by
    intro k
    split <;> exact hrows _ (by decide +kernel)
  unfold blockRows
  refine iteInduction (fun _ => iteInduction (fun _ => hrows rowsBKP (by decide +kernel)) (fun _ => hrows [] rfl)) (fun _ => ?_)
  refine iteInduction (fun _ => hrows rowsSYS (by decide +kernel)) (fun _ => ?_)
  refine iteInduction (fun _ => hrows rowsPWR (by decide +kernel)) (fun _ => ?_)
  refine iteInduction (fun _ => hrows rowsHOST (by decide +kernel)) (fun _ => ?_)
  refine iteInduction (fun _ => hrows rowsSEC (by decide +kernel)) (fun _ => ?_)
  refine iteInduction (fun _ => hrows rowsMEM (by decide +kernel)) (fun _ => ?_)
  refine iteInduction (fun _ => hrows rowsMON (by decide +kernel)) (fun _ => ?_)
  refine iteInduction (fun _ => hrows rowsRHL (by decide +kernel)) (fun _ => ?_)
  refine iteInduction (fun _ => hrows rowsPAIR (by decide +kernel)) (fun _ => ?_)
  refine iteInduction (fun _ => hrows rowsNET (by decide +kernel)) (fun _ => ?_)
  refine iteInduction (fun _ => hrows rowsTUN (by decide +kernel)) (fun _ => ?_)
  exact iteInduction (fun _ => hrows [] rfl) (fun _ => iteInduction (fun _ => hblock _) (fun _ => hrows [] rfl))

theorem rowAt_rise (a : Nat) (r : RegRow) (k : Nat) (h : rowAt a = some (r, k)) : fieldsRise 0 r.fields = true := by
  unfold rowAt at h
  obtain ⟨r', hfind, heq⟩ := Option.map_eq_some_iff.mp h
  obtain rfl : r' = r := congrArg Prod.fst heq
  exact blockRows_rise a _ (List.mem_of_find?_eq_some hfind)

/-! ### Bits of a number and of its fields -/

theorem bitOf_eq_testBit (v i : Nat) : bitOf v i = v.testBit i := by
  rw [Nat.testBit_eq_decide_div_mod_eq]
  rfl

theorem bitsOf_lt (v hi lo : Nat) : bitsOf v hi lo < 2 ^ (hi - lo + 1) := Nat.mod_lt _ (by positivity)

theorem testBit_bitsOf (v hi lo j : Nat) : (bitsOf v hi lo).testBit j = (decide (j < hi - lo + 1) && v.testBit (lo + j)) := by
  unfold bitsOf
  rw [Nat.testBit_mod_two_pow, Nat.testBit_div_two_pow, Nat.add_comm j lo]

/-- A bit of a word is one of the field it lies in. -/
theorem bitOf_of_bitsOf (v hi lo i : Nat) (hlo : lo ≤ i) (hhi : i ≤ hi) : bitOf v i = (bitsOf v hi lo).testBit (i - lo) := by
  have hin : i - lo < hi - lo + 1 := by omega
  rw [testBit_bitsOf, bitOf_eq_testBit, decide_eq_true hin, Bool.true_and, Nat.add_sub_cancel' hlo]

/-! ### A word put together from its fields -/

/-- A field placed above all that stands is the field set. -/
theorem add_placeField (acc v : Nat) (f : FieldRow) (h : acc < 2 ^ f.lo) (hf : f.lo ≤ f.hi) :
    acc + placeField f v = setBits acc f.hi f.lo v := by
  have htop : acc < 2 ^ (f.hi + 1) := lt_of_lt_of_le h (Nat.pow_le_pow_right (by decide) (by omega))
  unfold placeField setBits
  rw [Nat.mod_eq_of_lt h, Nat.div_eq_of_lt htop, Nat.zero_mul]
  rfl

theorem setBits_lt (acc v : Nat) (f : FieldRow) (h : acc < 2 ^ f.lo) (hf : f.lo ≤ f.hi) :
    setBits acc f.hi f.lo v < 2 ^ (f.hi + 1) := by
  have htop : acc < 2 ^ (f.hi + 1) := lt_of_lt_of_le h (Nat.pow_le_pow_right (by decide) (by omega))
  have hdiv := setBits_div acc f.hi f.lo v hf
  rw [Nat.div_eq_of_lt htop] at hdiv
  exact (Nat.div_eq_zero_iff_lt (by positivity)).mp hdiv

/-- The fields of a list placed at their values over what stands below them. -/
def placeAll (x : FieldRow → Nat) (acc : Nat) (fs : List FieldRow) : Nat := fs.foldl (fun acc f => acc + placeField f (x f)) acc

section
variable (x : FieldRow → Nat)

theorem placeAll_cons (acc : Nat) (f : FieldRow) (fs : List FieldRow) (h : acc < 2 ^ f.lo) (hf : f.lo ≤ f.hi) :
    placeAll x acc (f :: fs) = placeAll x (setBits acc f.hi f.lo (x f)) fs := by
  unfold placeAll
  rw [List.foldl_cons, add_placeField acc (x f) f h hf]

/-- Fields placed above a bit keep what stands below it, each reads its value, and no other bit is set. -/
theorem placeAll_spec (fs : List FieldRow) (b acc : Nat) (hrise : fieldsRise b fs = true) (hacc : acc < 2 ^ b) :
    (∀ hi lo, lo ≤ hi → hi < b → bitsOf (placeAll x acc fs) hi lo = bitsOf acc hi lo) ∧
      (∀ f ∈ fs, bitsOf (placeAll x acc fs) f.hi f.lo = x f % 2 ^ (f.hi - f.lo + 1)) ∧
      (∀ i, b ≤ i → (∀ f ∈ fs, i < f.lo ∨ f.hi < i) → bitOf (placeAll x acc fs) i = false) := by
  induction fs generalizing b acc with
  | nil =>
    refine ⟨fun _ _ _ _ => rfl, fun f hf => absurd hf List.not_mem_nil, fun i hi _ => ?_⟩
    rw [bitOf_eq_testBit]
    exact Nat.testBit_eq_false_of_lt (lt_of_lt_of_le hacc (Nat.pow_le_pow_right (by decide) hi))
  | cons f fs ih =>
    simp only [fieldsRise, Bool.and_eq_true, decide_eq_true_eq] at hrise
    obtain ⟨⟨hb, hf⟩, hrest⟩ := hrise
    have hlow : acc < 2 ^ f.lo := lt_of_lt_of_le hacc (Nat.pow_le_pow_right (by decide) hb)
    obtain ⟨hkeep, hread, hclear⟩ := ih (f.hi + 1) _ hrest (setBits_lt acc (x f) f hlow hf)
    rw [placeAll_cons x acc f fs hlow hf]
    refine ⟨fun hi lo hle hlt => ?_, fun g hg => ?_, fun i hi hout => ?_⟩
    · rw [hkeep hi lo hle (by omega), bitsOf_setBits_below _ _ _ _ _ _ hf hle (by omega)]
    · rcases List.mem_cons.mp hg with rfl | hg
      · rw [hkeep g.hi g.lo hf (by omega), bitsOf_setBits_same _ _ _ _ hf]
      · exact hread g hg
    · rcases hout f (List.mem_cons_self ..) with hbelow | habove
      · have hbit : ∀ z, bitOf z i = (bitsOf z i i).testBit 0 := fun z => by
          rw [bitOf_of_bitsOf z i i i (le_refl i) (le_refl i), Nat.sub_self]
        rw [hbit, hkeep i i (le_refl i) (by omega), bitsOf_setBits_below _ _ _ _ _ _ hf (le_refl i) hbelow, ← hbit,
          bitOf_eq_testBit]
        exact Nat.testBit_eq_false_of_lt (lt_of_lt_of_le hacc (Nat.pow_le_pow_right (by decide) hi))
      · exact hclear i (by omega) (fun g hg => hout g (List.mem_cons_of_mem _ hg))

end

/-! ### The obligation -/

/-- Settles O50: a register's fields rise without meeting, so each reads what its own access code leaves of it, and no bit
beside them is set. -/
theorem accessCodes : Obligations.AccessCodes := by
  unfold Obligations.AccessCodes
  intro s a v r k hrow
  have hword : s.written a v = placeAll (fun f => writtenField f (s.reg a) v) 0 r.fields := by
    unfold State.written
    rw [hrow]
    rfl
  obtain ⟨-, hread, hclear⟩ :=
    placeAll_spec (fun f => writtenField f (s.reg a) v) r.fields 0 0 (rowAt_rise a r k hrow) (by decide)
  rw [← hword] at hread hclear
  refine ⟨fun f hf => ⟨fun hacc => ?rw, fun hacc => ?ro, fun hacc i hlo hhi => ?w1c, fun hacc => ?wo⟩,
    fun i hout => hclear i (Nat.zero_le i) hout⟩
  case rw =>
    rw [hread f hf, Nat.mod_eq_of_lt] <;> rcases hacc with h | h <;> simp only [writtenField, h, bitsOf_lt]
  case ro =>
    rw [hread f hf, Nat.mod_eq_of_lt] <;> simp only [writtenField, hacc, bitsOf_lt]
  case w1c =>
    have hleft : writtenField f (s.reg a) v = bitsOf (s.reg a) f.hi f.lo ^^^ (bitsOf (s.reg a) f.hi f.lo &&& bitsOf v f.hi f.lo) := by
      rcases hacc with h | h <;> simp only [writtenField, h]
    have hin : i - f.lo < f.hi - f.lo + 1 := by omega
    rw [bitOf_of_bitsOf _ _ _ _ hlo hhi, bitOf_of_bitsOf (s.reg a) _ _ _ hlo hhi, bitOf_of_bitsOf v _ _ _ hlo hhi, hread f hf,
      hleft, Nat.testBit_mod_two_pow, decide_eq_true hin, Bool.true_and, Nat.testBit_xor, Nat.testBit_and]
    cases (bitsOf (s.reg a) f.hi f.lo).testBit (i - f.lo) <;> cases (bitsOf v f.hi f.lo).testBit (i - f.lo) <;> rfl
  case wo =>
    rw [hread f hf]
    simp only [writtenField, hacc, Nat.zero_mod]

end Sys2Proof.Machine
end

section
/-! PROOF. MEM_READ tells nothing of the key store: everything it reads stands elsewhere (R26). -/

namespace Sys2Proof.Machine

/-- A device with another key store. -/
def Work.withKeys (w : Work) (keys : List (Nat × List Byte)) : Work := { w with sec := { w.sec with keys := keys } }

section
variable (w : Work) (keys : List (Nat × List Byte))

/-! ### What is read -/

@[simp] theorem Work.reg_withKeys (a : Nat) : (w.withKeys keys).reg a = w.reg a := by rfl
@[simp] theorem Work.get_withKeys (f : Fld) (n k : Nat) : (w.withKeys keys).get f n k = w.get f n k := by rfl
@[simp] theorem Work.flag_withKeys (f : Fld) (n k : Nat) : (w.withKeys keys).flag f n k = w.flag f n k := by rfl
@[simp] theorem Work.host_withKeys : (w.withKeys keys).host = w.host := by rfl
@[simp] theorem Work.mode_withKeys : (w.withKeys keys).mode = w.mode := by rfl
@[simp] theorem Work.hostDeaf_withKeys : (w.withKeys keys).hostDeaf = w.hostDeaf := by rfl
@[simp] theorem Work.g3Deaf_withKeys : (w.withKeys keys).g3Deaf = w.g3Deaf := by rfl
@[simp] theorem Work.pwrState_withKeys : (w.withKeys keys).pwrState = w.pwrState := by rfl
@[simp] theorem Work.regHeld_withKeys (a : Nat) : (w.withKeys keys).regHeld a = w.regHeld a := by rfl
@[simp] theorem Work.memHeld_withKeys (a : Nat) : (w.withKeys keys).memHeld a = w.memHeld a := by rfl
@[simp] theorem Work.bankFailed_withKeys (b : Nat) : (w.withKeys keys).bankFailed b = w.bankFailed b := by rfl
@[simp] theorem Work.diagnosed_withKeys (b : Nat) : (w.withKeys keys).diagnosed b = w.diagnosed b := by rfl
@[simp] theorem Work.readBarred_withKeys (a : Nat) : (w.withKeys keys).readBarred a = w.readBarred a := by rfl
@[simp] theorem Work.cell_withKeys (a : Nat) : (w.withKeys keys).cell a = w.cell a := by rfl

/-! ### What is written -/

@[simp] theorem Work.put_withKeys (f : Fld) (v n k : Nat) : (w.withKeys keys).put f v n k = (w.put f v n k).withKeys keys := by rfl

@[simp] theorem Work.ev_withKeys (c i k : Nat) : (w.withKeys keys).ev c i k = (w.ev c i k).withKeys keys := by
  have hstill : (w.withKeys keys).mon = w.mon := by rfl
  unfold Work.ev
  rw [hstill]
  split <;> rfl

@[simp] theorem Work.setPort_withKeys (p : Port) : (w.withKeys keys).setPort .host p = (w.setPort .host p).withKeys keys := by rfl

@[simp] theorem Work.showHost_withKeys : (w.withKeys keys).showHost = w.showHost.withKeys keys := by
  simp only [Work.showHost, Work.putFlag_eq, Work.host_withKeys, Work.put_withKeys]

theorem Work.countIso_withKeys (n : Nat) : (w.withKeys keys).countIso n = (w.countIso n).withKeys keys := by
  simp only [Work.countIso, Work.countUp_eq, Work.get_withKeys, Work.put_withKeys]

theorem Work.countIsoAt_withKeys (a : Nat) : (w.withKeys keys).countIsoAt a = (w.countIsoAt a).withKeys keys := by
  unfold Work.countIsoAt
  split
  · exact w.countIso_withKeys keys _
  · rfl

theorem Work.countMemIso_withKeys (a : Nat) : (w.withKeys keys).countMemIso a = (w.countMemIso a).withKeys keys := by
  unfold Work.countMemIso
  split
  · exact w.countIso_withKeys keys _
  · exact w.countIsoAt_withKeys keys a

theorem Work.complete_withKeys (op tag st : Nat) (pl : List Byte) (late quiet : Bool) :
    (w.withKeys keys).complete .host op tag st pl late quiet = (w.complete .host op tag st pl late quiet).withKeys keys := by
  simp only [Work.complete_host, Work.host_withKeys, Work.setPort_withKeys, Work.showHost_withKeys]

theorem Work.finish_withKeys (st : Nat) (pl : List Byte) (late quiet : Bool) :
    (w.withKeys keys).finish .host st pl late quiet = (w.finish .host st pl late quiet).withKeys keys := by
  have hport : (w.withKeys keys).port .host = w.port .host := by rfl
  unfold Work.finish
  rw [hport]
  split
  · exact w.complete_withKeys keys _ _ _ _ _ _
  · rfl

/-! ### MEM_READ -/

theorem Work.readReg_withKeys (a : Nat) :
    (w.withKeys keys).readReg a = ((w.readReg a).1.withKeys keys, (w.readReg a).2) := by
  have hrx : ∀ n e, (w.withKeys keys).rxRead n e = (w.rxRead n e).withKeys keys := fun n e => by
    have heng : (w.withKeys keys).eng n e = w.eng n e := by rfl
    unfold Work.rxRead
    rw [heng]
    split
    · simp only [Work.raise_eq, Work.put_withKeys]
    · rfl
  unfold Work.readReg
  simp only [hrx]
  split_ifs <;> rfl

theorem Work.readRegs_withKeys (a k : Nat) :
    (w.withKeys keys).readRegs a k = ((w.readRegs a k).1.withKeys keys, (w.readRegs a k).2) := by
  induction k generalizing w a with
  | zero => rfl
  | succ k ih =>
    unfold Work.readRegs
    simp only [Work.readReg_withKeys, ih]

theorem Work.tunByte_withKeys (e a : Nat) : (w.withKeys keys).tunByte e a = ((w.tunByte e a).1.withKeys keys, (w.tunByte e a).2) := by
  have hunfitted : (w.withKeys keys).unfitted e = w.unfitted e := by rfl
  have heng : (w.withKeys keys).tunEng e = w.tunEng e := by rfl
  unfold Work.tunByte
  simp only [hunfitted, heng, Work.cell_withKeys]
  split_ifs
  · rfl
  · rfl
  · split <;> rfl

theorem Work.tunBytes_withKeys (e a k : Nat) :
    (w.withKeys keys).tunBytes e a k = ((w.tunBytes e a k).1.withKeys keys, (w.tunBytes e a k).2) := by
  induction k generalizing w a with
  | zero => rfl
  | succ k ih =>
    unfold Work.tunBytes
    simp only [Work.tunByte_withKeys, ih]

/-- What MEM_READ answers, and what it leaves but for the key store, hang on no key. -/
theorem memReadOp_withKeys (pl : List Byte) :
    memReadOp (w.withKeys keys) pl = ((memReadOp w pl).1.withKeys keys, (memReadOp w pl).2) := by
  unfold memReadOp
  simp only [Work.regHeld_withKeys, Work.readBarred_withKeys, Work.memHeld_withKeys, Work.bankFailed_withKeys,
    Work.diagnosed_withKeys, Work.cell_withKeys, Work.countIsoAt_withKeys, Work.countMemIso_withKeys, Work.readRegs_withKeys,
    Work.tunBytes_withKeys]
  split_ifs <;> rfl

theorem Work.execute_memRead_withKeys (tag : Nat) (pl : List Byte) :
    (w.withKeys keys).execute .host 0x02 tag pl = (w.execute .host 0x02 tag pl).withKeys keys := by
  have hflight : (w.withKeys keys).setFlight .host ⟨0x02, tag, false⟩ = (w.setFlight .host ⟨0x02, tag, false⟩).withKeys keys := by
    simp only [Work.setFlight_host, Work.host_withKeys, Work.setPort_withKeys, Work.showHost_withKeys]
  unfold Work.execute
  rw [hflight, Work.perform_memRead, Work.perform_memRead, memReadOp_withKeys]
  obtain ⟨v, r⟩ := memReadOp (w.setFlight .host ⟨0x02, tag, false⟩) pl
  cases r with
  | done st payload => exact v.finish_withKeys keys _ _ _ _
  | waits => rfl

/-- The host port's MEM_READ on a device with another key store, whatever the port makes of it. -/
theorem Work.hostFrame_memRead_withKeys (tag : Nat) (pl : List Byte) :
    (w.withKeys keys).hostFrame 0x02 tag pl false = (w.hostFrame 0x02 tag pl false).withKeys keys := by
  have hnotAbort : (0x02 : Nat) ≠ opAbort := by decide
  have hknown : g3Ops.contains 0x02 = true := by decide
  have hserve : ∀ v : Work, v.serve .host 0x02 tag pl false = v.execute .host 0x02 tag pl := fun v =>
    v.serve_of_g3 0x02 tag pl .host false hknown hnotAbort
  unfold Work.hostFrame
  simp only [hnotAbort, hknown, false_and, and_false, ne_eq, not_false_eq_true, and_true, Bool.not_true, Bool.false_eq_true, if_false, hserve,
    Work.host_withKeys, Work.g3Deaf_withKeys, Work.pwrState_withKeys, Work.countUp_eq, Work.get_withKeys, Work.put_withKeys,
    Work.ev_withKeys, Work.execute_memRead_withKeys]
  split_ifs
  · rfl
  · rfl
  · simp only [Work.rejectFrame, Work.raise_eq, Work.put_withKeys, Work.ev_withKeys]
  · rfl

end

/-- Settles O51: MEM_READ does to a device with another key store what it does to the device, and keeps the other store. -/
theorem keysStayHidden : Obligations.KeysStayHidden := by
  unfold Obligations.KeysStayHidden
  intro s keys tag pl
  refine ⟨_, rfl, ?_⟩
  have hwork : ({ s with dev := { s.dev with sec := { s.dev.sec with keys := keys } } } : State).work = s.work.withKeys keys := by rfl
  have hframe := s.work.hostFrame_memRead_withKeys keys tag pl
  change Host.Outcome.next (State.run _ fun w => w.hostFrame 0x02 tag pl false) = _
  rw [show ∀ f s', State.run s' f = { pending := s'.pending, mem := commitMem (f s'.work).wr s'.mem, dev := (f s'.work).toDev } from
    fun _ _ => rfl, hwork]
  simp only [hframe]
  rfl

end Sys2Proof.Machine
end

section
/-! PROOF. EVENT_ACK of a channel whose Cask alone is held in reset. -/

namespace Sys2Proof.Machine

/-- A released device in OPERATE mode: channel 0 holds its Cask in reset (bit 4 of SYS_SRST) with one entry in its ring. -/
def State.heldCask : State :=
  { State.reset with
    dev := { Dev.init with
      regs := [(F.SYS_REL_STEP.addr 0 0, 12), (F.SYS_MODE_MODE.addr 0 0, mdOperate), (F.CASK_STAT_COUNT.addr 0 0, 1)]
      rst := { Rst.init with hold := .none }
      ch := Dev.init.ch.set 0 { Chan.init with inReset := false, subHeld := 16 } } }

/-- An EVENT_ACK of entry 0 of the ring of channel 0. -/
def ackPayload : List Byte := [0, 0, 0, 0]

/-- The ring of a held Cask is refused as isolated (R223, R395). -/
theorem State.heldCask_refuses : (State.heldCask.work.command .host 0x21 0 ackPayload).host.port.resp.status = stIsol := by
  decide +kernel

/-- Refutes O12: its EVENT_ACK clause asks that the channel is not held in reset, yet the ring is refused too where its Cask
alone is held. -/
theorem not_eventAndPowerCommands : ¬ Obligations.EventAndPowerCommands := by
  unfold Obligations.EventAndPowerCommands
  rintro ⟨hack, -⟩
  obtain ⟨t, hnext, -, -, -, hanswer, -⟩ := hack State.heldCask 0 ackPayload 0 0 (by decide +kernel) (by decide +kernel) rfl
    (by decide +kernel) (by decide +kernel) (by decide +kernel) (by decide +kernel) (by decide +kernel) (by decide +kernel)
  obtain rfl : State.heldCask.run (fun w => w.command .host 0x21 0 ackPayload) = t := Host.Outcome.next.inj hnext
  have hok : (State.heldCask.work.command .host 0x21 0 ackPayload).host.port.resp.status = stOk :=
    congrArg (fun p : Port => p.resp.status) hanswer
  exact absurd (State.heldCask_refuses.symm.trans hok) (by decide)

end Sys2Proof.Machine
end

section
/-! PROOF SUPPORT. A host command that its execution answers, and what the standby is told. -/

namespace Sys2Proof.Machine

/-- A command performed to its end leaves what its performance left, answered. -/
theorem State.command_answers (s : State) (op tag st : Nat) (pl payload : List Byte) (w : Work) (hready : s.hostReady = true)
    (hop : g3Ops.contains op = true) (habort : op ≠ opAbort)
    (hperform : (s.taken op tag).perform .host op pl = (w, .done st payload)) (hhost : w.host = (s.taken op tag).host) :
    s.work.command .host op tag pl = w.complete .host op tag st payload ∧
      s.hostAnswered (s.run (fun w => w.command .host op tag pl)) op tag st payload := by
  have hend : s.work.command .host op tag pl = w.complete .host op tag st payload := by
    rw [s.command_host_done op tag st pl payload w hready hop habort hperform]
    exact Work.finish_host _ _ _ _ _ ⟨op, tag, false⟩ (by rw [hhost, State.hostPort_taken])
  refine ⟨hend, ?_⟩
  change (s.work.command .host op tag pl).host.port = _
  rw [hend, Work.host_complete, hhost, State.hostPort_taken]

/-- A part of the device that no register, no counter and no port is stands as it was when a frame is taken. -/
theorem State.part_taken {α : Type} (s : State) (op tag : Nat) (part : Work → α) (hput : ∀ w f v n k, part (Work.put w f v n k) = part w)
    (hev : ∀ w c i k, part (Work.ev w c i k) = part w) (hport : ∀ w p, part (Work.setPort w .host p) = part w) :
    part (s.taken op tag) = part s.work := by
  unfold State.taken
  rw [Work.setFlight_host]
  simp only [Work.showHost, Work.putFlag_eq, Work.countUp_eq, hput, hport, hev]

section
variable (s : State) (op tag : Nat)

@[simp] theorem State.lock_taken : (s.taken op tag).lock = s.dev.lock :=
  s.part_taken op tag (fun w => w.lock) (fun _ _ _ _ _ => rfl) (fun w c i k => (Work.SameDevice.ev w c i k).lock) (fun _ _ => rfl)
@[simp] theorem State.img_taken : (s.taken op tag).img = s.dev.img :=
  s.part_taken op tag (fun w => w.img) (fun _ _ _ _ _ => rfl) (fun w c i k => (Work.SameDevice.ev w c i k).img) (fun _ _ => rfl)
@[simp] theorem State.dim_taken : (s.taken op tag).dim = s.dev.dim :=
  s.part_taken op tag (fun w => w.dim) (fun _ _ _ _ _ => rfl) (fun w c i k => (Work.SameDevice.ev w c i k).dim) (fun _ _ => rfl)
@[simp] theorem State.modeReq_taken : (s.taken op tag).modeReq = s.dev.modeReq :=
  s.part_taken op tag (fun w => w.modeReq) (fun _ _ _ _ _ => rfl) (fun w c i k => (Work.SameDevice.ev w c i k).modeReq) (fun _ _ => rfl)
@[simp] theorem State.pair_taken : (s.taken op tag).pair = s.dev.pair :=
  s.part_taken op tag (fun w => w.pair) (fun _ _ _ _ _ => rfl) (fun w c i k => (Work.SameDevice.ev w c i k).pair) (fun _ _ => rfl)
@[simp] theorem State.fab_taken : (s.taken op tag).fab = s.dev.fab :=
  s.part_taken op tag (fun w => w.fab) (fun _ _ _ _ _ => rfl) (fun w c i k => (Work.SameDevice.ev w c i k).fab) (fun _ _ => rfl)
@[simp] theorem State.sec_taken : (s.taken op tag).sec = s.dev.sec :=
  s.part_taken op tag (fun w => w.sec) (fun _ _ _ _ _ => rfl) (fun w c i k => (Work.SameDevice.ev w c i k).sec) (fun _ _ => rfl)
@[simp] theorem State.pwr_taken : (s.taken op tag).pwr = s.dev.pwr :=
  s.part_taken op tag (fun w => w.pwr) (fun _ _ _ _ _ => rfl) (fun w c i k => (Work.SameDevice.ev w c i k).pwr) (fun _ _ => rfl)
@[simp] theorem State.rst_taken : (s.taken op tag).rst = s.dev.rst :=
  s.part_taken op tag (fun w => w.rst) (fun _ _ _ _ _ => rfl) (fun w c i k => (Work.SameDevice.ev w c i k).rst) (fun _ _ => rfl)
@[simp] theorem State.tun_taken : (s.taken op tag).tun = s.dev.tun :=
  s.part_taken op tag (fun w => w.tun) (fun _ _ _ _ _ => rfl) (fun w c i k => (Work.SameDevice.ev w c i k).tun) (fun _ _ => rfl)
@[simp] theorem State.bounds_taken : (s.taken op tag).bounds = s.dev.bounds :=
  s.part_taken op tag (fun w => w.bounds) (fun _ _ _ _ _ => rfl) (fun w c i k => (Work.SameDevice.ev w c i k).bounds) (fun _ _ => rfl)

end

/-- Registers and memory of an answered command, from what its performance left. -/
theorem State.frame_of_answers (s : State) (op tag st : Nat) (pl payload : List Byte) (w : Work) (l : List Nat)
    (hend : s.work.command .host op tag pl = w.complete .host op tag st payload)
    (hregs : ∀ a, a ∉ l ++ hostRegs → w.reg a = (s.taken op tag).reg a) (hwr : w.wr = []) :
    s.sameRegs (s.run (fun w => w.command .host op tag pl)) (l ++ hostRegs) ∧
      (s.run (fun w => w.command .host op tag pl)).mem = s.mem := by
  refine ⟨fun a ha => ?_, ?_⟩
  · have hhost : a ∉ hostRegs := fun h => ha (List.mem_append_right l h)
    rw [State.run_reg, hend, Work.reg_complete_host _ _ _ _ _ _ _ a hhost, hregs a ha, s.reg_taken op tag a hhost, State.work_reg]
  · rw [State.run_mem, hend, Work.wr_complete_host, hwr, commitMem_nil]

section
variable (w : Work) (n : Nat)

@[simp] theorem Work.reg_pairCommit (item : PairItem) (a : Nat) : (w.pairCommit n item).reg a = w.reg a := by
  unfold Work.pairCommit
  split
  · rw [Work.reg_ev, Work.reg_send]; rfl
  · rfl

@[simp] theorem Work.wr_pairCommit (item : PairItem) : (w.pairCommit n item).wr = w.wr := by
  unfold Work.pairCommit
  split
  · rw [Work.ev_wr, Work.send_wr]
  · rfl

@[simp] theorem Work.reg_pairDisp (due : Option Nat) (ws : List DispWrite) (a : Nat) : (w.pairDisp n due ws).reg a = w.reg a := by
  unfold Work.pairDisp
  exact List.foldlRecOn (motive := fun v : Work => v.reg a = w.reg a) ws _ rfl
    (fun v hv d _ => by cases d <;> exact (v.reg_pairCommit n _ a).trans hv)

@[simp] theorem Work.wr_pairDisp (due : Option Nat) (ws : List DispWrite) : (w.pairDisp n due ws).wr = w.wr := by
  unfold Work.pairDisp
  exact List.foldlRecOn (motive := fun v : Work => v.wr = w.wr) ws _ rfl
    (fun v hv d _ => by cases d <;> exact (v.wr_pairCommit n _).trans hv)

/-- The Mash changed writes the register that shows it. -/
theorem Work.reg_modMash (f : Mash → Mash) (a : Nat) (h : a ≠ R.MASH_STAT.addr n 0) : (w.modMash n f).reg a = w.reg a := by
  have hput : ∀ (v : Work) (g : Fld) (x : Nat), g.addr n 0 = R.MASH_STAT.addr n 0 → (v.put g x n).reg a = v.reg a := fun v g x hg =>
    v.reg_put_ne g x n 0 a (hg ▸ h)
  unfold Work.modMash Work.showMash
  simp only [Work.putFlag_eq]
  rw [hput _ F.MASH_STAT_SWAP_PENDING _ rfl, hput _ F.MASH_STAT_QUEUE _ rfl, hput _ F.MASH_STAT_STAMPED _ rfl, Work.reg_modChan]

@[simp] theorem Work.wr_modMash (f : Mash → Mash) : (w.modMash n f).wr = w.wr := by
  simp only [Work.modMash, Work.showMash, Work.putFlag_eq, Work.put_wr, Work.modChan_wr]

theorem Work.chan_modMash_ne (f : Mash → Mash) (m : Nat) (h : m ≠ n) : (w.modMash n f).chan m = w.chan m := by
  unfold Work.modMash
  rw [Work.chan_showMash, Work.chan_modChan_ne _ _ _ _ h]

end

end Sys2Proof.Machine
end

section
/-! PROOF. The ALERT commands (R178, R179). -/

namespace Sys2Proof.Machine

/-- What an ALERT of operation `op` asks of the Mash. -/
def alertChange (op index : Nat) : Chg :=
  if op = 0 then .alertCond index true else if op = 1 then .alertCond index false
  else if op = 2 then .alertAck index 1 else .alertAckGrp (index % 256) 1

/-- What the standby is told of an ALERT from the host. -/
def Work.alertTold (w : Work) (n op index : Nat) (due : Option Nat) : Work :=
  if op = 0 then w.pairCommit n ⟨.alertCond (w.alertDef n index).id true, due⟩
  else if op = 1 then w.pairCommit n ⟨.alertCond (w.alertDef n index).id false, due⟩
  else if op = 2 then w.pairCommit n ⟨.alertAck (w.alertDef n index).id 1, due⟩
  else w.pairAcks n (index % 256) 1 due

/-- Of the device, telling the standby changes what is sent alone. -/
theorem Work.alertTold_same (w : Work) (n op index : Nat) (due : Option Nat) :
    (∀ a, (w.alertTold n op index due).reg a = w.reg a) ∧ (∀ m, (w.alertTold n op index due).chan m = w.chan m) ∧
      (w.alertTold n op index due).wr = w.wr ∧ (w.alertTold n op index due).host = w.host := by
  have hacks : ∀ mask, (∀ a, (w.pairAcks n mask 1 due).reg a = w.reg a) ∧ (∀ m, (w.pairAcks n mask 1 due).chan m = w.chan m) ∧
      (w.pairAcks n mask 1 due).wr = w.wr ∧ (w.pairAcks n mask 1 due).host = w.host := fun mask =>
    List.foldlRecOn (motive := fun v : Work => (∀ a, v.reg a = w.reg a) ∧ (∀ m, v.chan m = w.chan m) ∧ v.wr = w.wr ∧ v.host = w.host)
      _ _ ⟨fun _ => rfl, fun _ => rfl, rfl, rfl⟩
      (fun v ⟨hreg, hchan, hwr, hhost⟩ k _ => ⟨fun a => (v.reg_pairCommit n _ a).trans (hreg a),
        fun m => (v.chan_pairCommit n m _).trans (hchan m), (v.wr_pairCommit n _).trans hwr, (v.host_pairCommit n _).trans hhost⟩)
  unfold Work.alertTold
  split_ifs
  · exact ⟨w.reg_pairCommit n _, fun m => w.chan_pairCommit n m _, w.wr_pairCommit n _, w.host_pairCommit n _⟩
  · exact ⟨w.reg_pairCommit n _, fun m => w.chan_pairCommit n m _, w.wr_pairCommit n _, w.host_pairCommit n _⟩
  · exact ⟨w.reg_pairCommit n _, fun m => w.chan_pairCommit n m _, w.wr_pairCommit n _, w.host_pairCommit n _⟩
  · exact hacks _

/-- An ALERT in order adds its change to the channel and answers the tick at which it applies (R178). -/
theorem alertOp_accepts (w : Work) (pl : List Byte) (n : Nat) (due : Option Nat) (late : Bool) (hlen : pl.length = 12)
    (hop : byteAt pl 1 ≤ 3) (hflags : halfAt pl 2 ≤ 1) (hzero : halfAt pl 10 = 0) (hn : byteAt pl 0 = n)
    (hcheck : w.displayCheck n = none) (hblink : (w.chan n).blockHeld 10 = false)
    (hdue : w.judgeStamp (if bitOf (halfAt pl 2) 0 then some (wordAt pl 4) else none) = (due, late))
    (hroom : w.stampedFull n due = false) (hindex : byteAt pl 1 ≠ 3 → halfAt pl 8 < w.alertN n) :
    alertOp w .host pl = ((w.addChange n due late (alertChange (byteAt pl 1) (halfAt pl 8))).alertTold n (byteAt pl 1) (halfAt pl 8) due,
      .done stOk (leBytes 4 (w.appliesAt n due))) := by
  have hform : ¬ (pl.length ≠ 12 ∨ halfAt pl 2 / 2 ≠ 0 ∨ halfAt pl 10 ≠ 0) := by omega
  have hargs : ¬ (3 < byteAt pl 1 ∨ (byteAt pl 1 ≠ 3 ∧ w.alertN n ≤ halfAt pl 8)) := by
    rintro (h | ⟨h3, h⟩)
    · omega
    · exact absurd (hindex h3) (Nat.not_lt.mpr h)
  unfold alertOp
  simp only [if_neg hform, hn, hcheck, hblink, if_neg hargs, hdue, hroom, Bool.false_eq_true, if_false, Work.reply]
  rfl

@[simp] theorem State.appliesAt_taken (s : State) (op tag n : Nat) (due : Option Nat) :
    (s.taken op tag).appliesAt n due = s.work.appliesAt n due := by
  simp only [Work.appliesAt, Work.appliesFrom, Work.ordNow, Work.nextTick, State.chan_taken, State.work_chan, State.lock_taken,
    State.tick_taken]
  rfl

/-- An ALERT of operation `op` from the host that finds its place. -/
theorem State.alert_accepted (s : State) (ch : Fin 8) (op tag : Nat) (pl : List Byte) (due : Option Nat) (late : Bool) (hop : op ≤ 3)
    (hready : s.hostReady = true) (hadmits : s.work.modeAdmits 0x18 = true) (hlen : pl.length = 12)
    (hrow : byteAt pl 1 ≤ 3) (hflags : halfAt pl 2 ≤ 1) (hzero : halfAt pl 10 = 0) (hn : byteAt pl 0 = ch)
    (hcheck : s.work.displayCheck ch = none) (hblink : (s.chan ch).blockHeld 10 = false)
    (hdue : s.work.judgeStamp (if bitOf (halfAt pl 2) 0 then some (wordAt pl 4) else none) = (due, late))
    (hroom : s.work.stampedFull ch due = false) (hindex : op ≠ 3 → halfAt pl 8 < s.work.alertN ch)
    (t : State) (ht : t = s.run (fun w => w.command .host 0x18 tag (alertPl op pl))) :
    (t.chan ch).mash.changes =
        (s.chan ch).mash.changes ++ [⟨s.dev.tick, some (s.chan ch).seq.started, due, late, alertChange op (halfAt pl 8)⟩] ∧
      s.hostAnswered t 0x18 tag stOk (leBytes 4 (s.work.appliesAt ch due)) ∧
      s.sameRegs t (R.MASH_STAT.addr ch 0 :: hostRegs) ∧ t.mem = s.mem := by
  subst ht
  have hhalf : ∀ x off, 1 < off → halfAt (pl.set 1 x) off = halfAt pl off := fun x off h => leAt_set_one pl x off 2 h
  have hword : ∀ x, wordAt (pl.set 1 x) 4 = wordAt pl 4 := fun x => leAt_set_one pl x 4 4 (by decide)
  have hop' : byteAt (pl.set 1 (BitVec.ofNat 8 op)) 1 = op := by
    rw [byteAt_one_set_one _ _ (by omega), BitVec.toNat_ofNat]
    omega
  have hperform := alertOp_accepts (s.taken 0x18 tag) (pl.set 1 (BitVec.ofNat 8 op)) ch due late (by rwa [List.length_set])
    (by rwa [hop']) (by rwa [hhalf _ 2 (by decide)]) (by rwa [hhalf _ 10 (by decide)]) (by rwa [byteAt_zero_set_one])
    (by rwa [State.displayCheck_taken]) (by rwa [State.chan_taken])
    (by rwa [hhalf _ 2 (by decide), hword, State.judgeStamp_taken]) (by rwa [State.stampedFull_taken])
    (by rwa [hop', hhalf _ 8 (by decide), State.alertN_taken])
  rw [hop', hhalf _ 8 (by decide), State.appliesAt_taken,
    ← Work.perform_alert _ _ _ (by rwa [State.modeAdmits_taken])] at hperform
  rw [alertPl_eq_set op pl hrow]
  obtain ⟨hreg, hchan, hwr, hhost⟩ := Work.alertTold_same
    ((s.taken 0x18 tag).addChange ch due late (alertChange op (halfAt pl 8))) ch op (halfAt pl 8) due
  obtain ⟨hend, hanswer⟩ := s.command_answers 0x18 tag stOk _ _ _ hready (by decide) (by decide) hperform
    (hhost.trans (Work.host_modMash _ _ _))
  refine ⟨?_, hanswer, s.frame_of_answers 0x18 tag stOk _ _ _ [R.MASH_STAT.addr ch 0] hend (fun a ha => ?_) ?_⟩
  · rw [State.run_chan, hend, Work.chan_complete_host, hchan, Work.addChange, Work.chan_modMash]
    simp only [Mash.commit, Work.ordNow, State.chan_taken, State.tick_taken, List.map_cons, List.map_nil]
  · rw [hreg]
    exact Work.reg_modMash _ _ _ _ (fun h => ha (h ▸ List.mem_cons_self))
  · rw [hwr, Work.addChange, Work.wr_modMash, State.wr_taken]

/-- Settles O11: the four operations are one command, with the operation's change. -/
theorem alertCommands : Obligations.AlertCommands := by
  unfold Obligations.AlertCommands
  refine ⟨?set, ?clear, ?acknowledge, ?acknowledgeGroups⟩
  case set =>
    intro s ch tag pl due late hready hadmits hlen hrow hflags hzero hn hcheck hblink hdue hroom hindex
    exact ⟨_, rfl, s.alert_accepted ch 0 tag pl due late (by decide) hready hadmits hlen hrow hflags hzero hn hcheck hblink hdue hroom (fun _ => hindex) _ rfl⟩
  case clear =>
    intro s ch tag pl due late hready hadmits hlen hrow hflags hzero hn hcheck hblink hdue hroom hindex
    exact ⟨_, rfl, s.alert_accepted ch 1 tag pl due late (by decide) hready hadmits hlen hrow hflags hzero hn hcheck hblink hdue hroom (fun _ => hindex) _ rfl⟩
  case acknowledge =>
    intro s ch tag pl due late hready hadmits hlen hrow hflags hzero hn hcheck hblink hdue hroom hindex
    exact ⟨_, rfl, s.alert_accepted ch 2 tag pl due late (by decide) hready hadmits hlen hrow hflags hzero hn hcheck hblink hdue hroom (fun _ => hindex) _ rfl⟩
  case acknowledgeGroups =>
    intro s ch tag pl due late hready hadmits hlen hrow hflags hzero hn hcheck hblink hdue hroom
    exact ⟨_, rfl, s.alert_accepted ch 3 tag pl due late (by decide) hready hadmits hlen hrow hflags hzero hn hcheck hblink hdue hroom (fun h => absurd rfl h) _ rfl⟩

end Sys2Proof.Machine
end

section
/-! PROOF SUPPORT. What a message sent leaves of the device. -/

namespace Sys2Proof.Machine

/-- All that was done between two working states is messages sent: registers, channels, memory and the units beside the
fabric, the pair and the counters are as they were. -/
structure Work.OnlyTold (w v : Work) : Prop where
  regs : v.regs = w.regs
  ch : v.ch = w.ch
  wr : v.wr = w.wr
  mem : v.mem = w.mem
  host : v.host = w.host
  dim : v.dim = w.dim
  tick : v.tick = w.tick
  lock : v.lock = w.lock
  img : v.img = w.img
  tun : v.tun = w.tun
  rst : v.rst = w.rst
  pwr : v.pwr = w.pwr
  sec : v.sec = w.sec
  modeReq : v.modeReq = w.modeReq

namespace Work.OnlyTold

variable {w : Work}

theorem refl (w : Work) : w.OnlyTold w := by constructor <;> rfl

theorem trans {u v : Work} (h : w.OnlyTold u) (h' : u.OnlyTold v) : w.OnlyTold v where
  regs := h'.regs.trans h.regs
  ch := h'.ch.trans h.ch
  wr := h'.wr.trans h.wr
  mem := h'.mem.trans h.mem
  host := h'.host.trans h.host
  dim := h'.dim.trans h.dim
  tick := h'.tick.trans h.tick
  lock := h'.lock.trans h.lock
  img := h'.img.trans h.img
  tun := h'.tun.trans h.tun
  rst := h'.rst.trans h.rst
  pwr := h'.pwr.trans h.pwr
  sec := h'.sec.trans h.sec
  modeReq := h'.modeReq.trans h.modeReq

variable (w)

theorem ev (c i k : Nat) : w.OnlyTold (w.ev c i k) := by
  unfold Work.ev
  split <;> constructor <;> rfl

theorem send (m : Sent) : w.OnlyTold (w.send m) := by constructor <;> rfl

theorem modPort (p : Nat) (f : FabPort → FabPort) : w.OnlyTold (w.modPort p f) := by constructor <;> rfl

theorem pairCommit (n : Nat) (item : PairItem) : w.OnlyTold (w.pairCommit n item) := by
  unfold Work.pairCommit
  split
  · have hsent : w.OnlyTold { w with pair := { w.pair with sent := w.pair.sent ++ [(n, Config.pairItemBytes item)] } } := by
      constructor <;> rfl
    exact (hsent.trans (send _ _)).trans (ev _ _ _ _)
  · exact refl w

theorem fabOut (q : Nat × Nat) (kind dest cls : Nat) (payload : List Byte) : w.OnlyTold (w.fabOut q kind dest cls payload) := by
  unfold Work.fabOut
  exact iteInduction (fun _ => ((send ..).trans (modPort ..)).trans (ev ..)) (fun _ => (send ..).trans (modPort ..))

/-- Steps that only tell, one after another. -/
theorem foldl {α : Type} (l : List α) (f : Work → α → Work) (h : ∀ (v : Work) (x : α), v.OnlyTold (f v x)) : w.OnlyTold (l.foldl f w) :=
  List.foldlRecOn (motive := fun v => w.OnlyTold v) l f (refl w) (fun v hv x _ => hv.trans (h v x))

theorem fabCast (kind dest cls : Nat) (payload : List Byte) : w.OnlyTold (w.fabCast kind dest cls payload) :=
  foldl w _ _ (fun v q => fabOut v q kind dest cls payload)

theorem pairDisp (n : Nat) (due : Option Nat) (ws : List DispWrite) : w.OnlyTold (w.pairDisp n due ws) :=
  foldl w ws _ (fun v d => by cases d <;> exact pairCommit v n _)

variable {w}

theorem reg {v : Work} (h : w.OnlyTold v) (a : Nat) : v.reg a = w.reg a := by unfold Work.reg; rw [h.regs]
theorem get {v : Work} (h : w.OnlyTold v) (f : Fld) (n k : Nat) : v.get f n k = w.get f n k := by unfold Work.get; rw [h.reg]
theorem flag {v : Work} (h : w.OnlyTold v) (f : Fld) (n k : Nat) : v.flag f n k = w.flag f n k := by unfold Work.flag; rw [h.get]
theorem chan {v : Work} (h : w.OnlyTold v) (m : Nat) : v.chan m = w.chan m := by unfold Work.chan; rw [h.ch]

end Work.OnlyTold

/-- A part of the device that no register and no port is stands as it was when a host command completes. -/
theorem Work.part_complete_host {α : Type} (w : Work) (op tag st : Nat) (pl : List Byte) (part : Work → α)
    (hput : ∀ w f v n k, part (Work.put w f v n k) = part w) (hport : ∀ w p, part (Work.setPort w .host p) = part w) :
    part (w.complete .host op tag st pl) = part w := by
  rw [Work.complete_host]
  simp only [Work.showHost, Work.putFlag_eq, hput, hport]

end Sys2Proof.Machine
end

section
/-! PROOF SUPPORT. Bytes stored read as what was stored. -/

namespace Sys2Proof.Machine

theorem memMapped_of_sram (a : Nat) (h : a < 0x00200000) : memMapped a = true := by
  unfold memMapped
  simp [h]

/-- The byte at an address after the changes of a command. -/
def Work.after (w : Work) (x : Nat) : Byte := tabGet (commitMem w.wr w.mem) 0 x

theorem Work.after_poke_same (w : Work) (a : Nat) (b : Byte) (ha : a < 0x00200000) (hbank : w.bankFailed (a / 0x20000) = false) :
    (w.poke a b).after a = b := by
  have hk : bankOf a = some (a / 0x20000) := by unfold bankOf; rw [if_pos ha]
  unfold Work.poke
  rw [hk]
  simp only [hbank, Bool.false_eq_true, if_false, Work.after, commitMem, MemOp.apply, memMapped_of_sram a ha, if_true,
    tabGet_tabPut_same]

theorem Work.after_poke_ne (w : Work) (a x : Nat) (b : Byte) (h : a ≠ x) : (w.poke a b).after x = w.after x := by
  unfold Work.poke
  split
  · split
    · rfl
    · simp only [Work.after, commitMem, MemOp.apply]
      split
      · exact tabGet_tabPut_ne _ _ _ _ _ _ h
      · rfl
  · rfl

theorem Work.bankFailed_poke (w : Work) (a k : Nat) (b : Byte) : (w.poke a b).bankFailed k = w.bankFailed k := by
  unfold Work.bankFailed Work.flag Work.get
  simp only [Work.reg_poke]

theorem Work.after_pokes_ne (w : Work) (bs : List Byte) (a x : Nat) (h : x < a ∨ a + bs.length ≤ x) :
    (w.pokes a bs).after x = w.after x := by
  induction bs generalizing w a with
  | nil => rfl
  | cons b bs ih =>
    rw [List.length_cons] at h
    exact (ih (w.poke a b) (a + 1) (by omega)).trans (w.after_poke_ne a x b (by omega))

/-- Bytes stored in banks in service read back in their order. -/
theorem Work.after_pokes (w : Work) (bs : List Byte) (a i : Nat) (hi : i < bs.length) (htop : a + bs.length ≤ 0x00200000)
    (hbank : ∀ j < bs.length, w.bankFailed ((a + j) / 0x20000) = false) : (w.pokes a bs).after (a + i) = bs.getD i 0 := by
  induction bs generalizing w a i with
  | nil => exact absurd hi (Nat.not_lt_zero i)
  | cons b bs ih =>
    rw [List.length_cons] at hi htop hbank
    cases i with
    | zero =>
      refine ((w.poke a b).after_pokes_ne bs (a + 1) a (Or.inl (Nat.lt_succ_self a))).trans ?_
      exact w.after_poke_same a b (by omega) (hbank 0 (by omega))
    | succ i =>
      have h := ih (w.poke a b) (a + 1) i (by omega) (by omega) (fun j hj => by
        rw [Work.bankFailed_poke]
        have := hbank (j + 1) (by omega)
        rwa [show a + (j + 1) = a + 1 + j by omega] at this)
      rw [show a + (i + 1) = a + 1 + i by omega]
      exact h

end Sys2Proof.Machine
end

section
/-! PROOF. MEM_WRITE into system SRAM, and the display commands that find their place. -/

namespace Sys2Proof.Machine

/-! ### MEM_WRITE (R303) -/

/-- Two banks hold a write of no more bytes than a frame carries: that of its first byte and that of its last. -/
theorem Work.bankFailed_of_banksOf (w : Work) (a k : Nat) (hk : k ≤ 4096) (htop : a + k ≤ 0x00200000)
    (hbanks : (banksOf a k).any w.bankFailed = false) (j : Nat) (hj : j < k) : w.bankFailed ((a + j) / 0x20000) = false := by
  have hfirst : bankOf a = some (a / 0x20000) := by unfold bankOf; rw [if_pos (by omega)]
  have hlast : bankOf (a + k - 1) = some ((a + k - 1) / 0x20000) := by unfold bankOf; rw [if_pos (by omega)]
  simp only [banksOf, hfirst, hlast, List.filterMap_cons, List.filterMap_nil, id_eq, List.any_cons, List.any_nil, Bool.or_false,
    Bool.or_eq_false_iff] at hbanks
  have hone : (a + j) / 0x20000 = a / 0x20000 ∨ (a + j) / 0x20000 = (a + k - 1) / 0x20000 := by omega
  rcases hone with h | h
  · rw [h]; exact hbanks.1
  · rw [h]; exact hbanks.2

/-- A write into system SRAM below the host area stores its bytes (R303). -/
theorem memWriteOp_sram (w : Work) (o : Origin) (pl : List Byte) (a : Nat) (ha : wordAt pl 0 = a) (hmin : 5 ≤ pl.length)
    (hmax : pl.length ≤ 4100) (htop : a + (pl.length - 4) ≤ 0x001FB000)
    (hbanks : (banksOf a (pl.length - 4)).any (fun b => w.bankFailed b) = false) :
    memWriteOp w o pl = (w.pokes a (pl.drop 4)).reply stOk := by
  have hform : ¬ (pl.length < 5 ∨ 4100 < pl.length) := by omega
  have hreg : regMapped a = false := by unfold regMapped; simp only [Bool.or_eq_false_iff, Bool.and_eq_false_iff, decide_eq_false_iff_not]; omega
  have hok : accessOk a (pl.length - 4) = true := by
    unfold accessOk areaOf
    rw [if_pos (show a < 0x00200000 by omega)]
    simp only [hreg, Bool.not_false, Bool.true_or, Bool.and_true, decide_eq_true_eq]
    omega
  have hheld : w.memHeld a = false := by
    unfold Work.memHeld
    rw [if_neg (by omega), if_neg (by omega)]
  have houtside : w.writeSram a (pl.drop 4) o = (w.pokes a (pl.drop 4)).reply stOk := by
    have hlen : (pl.drop 4).length = pl.length - 4 := List.length_drop
    have hout : ¬ (meets a (pl.length - 4) hostOut 1024 = true ∨ meets a (pl.length - 4) 0x001FC000 0x4000 = true) := by
      simp only [meets, Bool.and_eq_true, decide_eq_true_eq, show hostOut = 0x001FB400 from rfl]
      omega
    have hin : ¬ meets a (pl.length - 4) hostIn 1024 = true := by
      simp only [meets, Bool.and_eq_true, decide_eq_true_eq, show hostIn = 0x001FB000 from rfl]
      omega
    unfold Work.writeSram
    simp only [hlen, if_neg hout, if_neg hin]
  unfold memWriteOp
  simp only [if_neg hform, ha, List.length_drop, hok, hreg, hheld, hbanks, if_pos (show a < 0x00200000 by omega), houtside,
    Bool.not_true, Bool.false_eq_true, if_false, Work.reply, stOk]

theorem displayCommands_memWrite (s : State) (tag : Nat) (pl : List Byte) (hready : s.hostReady = true) (hmin : 5 ≤ pl.length)
    (hmax : pl.length ≤ 4100) (htop : wordAt pl 0 + (pl.length - 4) ≤ 0x001FB000)
    (hbanks : (banksOf (wordAt pl 0) (pl.length - 4)).any s.work.bankFailed = false)
    (t : State) (ht : t = s.run (fun w => w.command .host 0x03 tag pl)) :
    s.hostAnswered t 0x03 tag stOk [] ∧ (upFrom (wordAt pl 0) (pl.length - 4)).map t.byte = pl.drop 4 ∧
      s.sameBytesBut t (wordAt pl 0) (pl.length - 4) ∧ s.sameRegs t hostRegs := by
  subst ht
  have hbank : ∀ b, (s.taken 0x03 tag).bankFailed b = s.work.bankFailed b := s.bankFailed_taken 0x03 tag
  have hperform : (s.taken 0x03 tag).perform .host 0x03 pl = (((s.taken 0x03 tag).pokes (wordAt pl 0) (pl.drop 4)), .done stOk []) :=
    (Work.perform_memWrite _ _ _).trans (memWriteOp_sram _ .host pl _ rfl hmin hmax htop (by simp only [hbank]; exact hbanks))
  obtain ⟨hend, hanswer⟩ := s.command_answers 0x03 tag stOk _ _ _ hready (by decide) (by decide) hperform (Work.SameDevice.pokes _ _ _).host
  have hlen : (pl.drop 4).length = pl.length - 4 := List.length_drop
  have hbyte : ∀ x, (s.run (fun w => w.command .host 0x03 tag pl)).byte x = ((s.taken 0x03 tag).pokes (wordAt pl 0) (pl.drop 4)).after x := by
    intro x
    have hmem : ((s.taken 0x03 tag).pokes (wordAt pl 0) (pl.drop 4)).mem = s.mem := (Work.SameDevice.pokes _ _ _).mem.trans (s.mem_taken 0x03 tag)
    unfold State.byte Work.after
    rw [State.run_mem, hend, Work.wr_complete_host, hmem]
  refine ⟨hanswer, ?_, ?_, ?_⟩
  · refine List.ext_getElem (by simp [upFrom]) (fun i hi hi' => ?_)
    simp only [upFrom, List.getElem_map, List.getElem_range, hbyte]
    rw [Work.after_pokes _ _ _ i hi' (by omega) (fun j hj => by
      rw [hbank]
      exact s.work.bankFailed_of_banksOf _ _ (by omega) (by omega) hbanks j (by omega))]
    exact (List.getElem_eq_getD 0).symm
  · intro x hx
    rw [hbyte, Work.after_pokes_ne _ _ _ _ (by omega)]
    unfold Work.after State.byte
    rw [State.wr_taken, commitMem_nil, State.mem_taken]
  · intro a ha
    rw [State.run_reg, hend, Work.reg_complete_host _ _ _ _ _ _ _ a ha, Work.reg_pokes, s.reg_taken 0x03 tag a ha, State.work_reg]

end Sys2Proof.Machine
end

section
/-! PROOF. A delivery from the host that finds its place in the queue (R160 to R163). -/

namespace Sys2Proof.Machine

/-! ### What a field's drawing reads -/

/-- Two working states show a channel the same image structures. -/
structure Work.SameImage (w v : Work) (n : Nat) : Prop where
  byte : v.regByte n = w.regByte n
  region : v.region n = w.region n

namespace Work.SameImage

variable {w v : Work} {n : Nat} (h : w.SameImage v n)
include h

theorem le : v.regLe n = w.regLe n := by
  funext r off k
  unfold Work.regLe
  rw [h.byte]

theorem posDef : v.posDef n = w.posDef n := by
  funext p
  unfold Work.posDef
  rw [h.le, h.region, h.byte]

theorem fieldDef : v.fieldDef n = w.fieldDef n := by
  funext f
  unfold Work.fieldDef
  rw [h.le, h.region, h.byte]

theorem shapeMasks : v.shapeMasks n = w.shapeMasks n := by
  funext fd ps sh
  unfold Work.shapeMasks Work.glyphMask Work.fontMask
  rw [h.le, h.byte]

/-- A field is drawn from the image structures alone. -/
theorem drawField : v.drawField n = w.drawField n := by
  funext f x bad
  unfold Work.drawField Work.fieldMasks Work.fieldDraw Work.fieldPositions
  rw [h.fieldDef, h.shapeMasks, h.posDef]

end Work.SameImage

/-- A flag of an error raised changes nothing that an image structure is read from. -/
theorem Work.sameImage_raise (w : Work) (f : Fld) (m n : Nat) (hfld : 0x40100000 ≤ f.base) : w.SameImage (w.raise f m) n := by
  have hbank : ∀ b, (w.raise f m).bankFailed b = w.bankFailed b := by
    have hne : ∀ g : Fld, g.base < 0x40100000 → g.addr 0 0 ≠ f.addr m 0 := by
      intro g hg
      unfold Fld.addr
      omega
    intro b
    rw [Work.raise_eq]
    unfold Work.bankFailed Work.flag Work.get
    rw [Work.reg_put_ne _ _ _ _ _ _ (hne F.MEM_FAILED_FAILED (by decide)),
      Work.reg_put_ne _ _ _ _ _ _ (hne F.MEM_STAT_AON_FAILED (by decide))]
  have hpeek : ∀ a, (w.raise f m).peek a = w.peek a := by
    intro a
    unfold Work.peek
    simp only [hbank]
    rw [Work.raise_eq]
    rfl
  have hregion : (w.raise f m).region n = w.region n := by
    rw [Work.raise_eq]
    rfl
  refine ⟨?_, hregion⟩
  funext r off
  unfold Work.regByte
  rw [hregion]
  simp only [hpeek]

/-- Entries of a FIELD_SET draw alike from the same image structures. -/
theorem fieldsDrawn_congr (n : Nat) (es : List (Nat × Bool × Nat)) (w v w0 : Work) (d : Draw) (hw : w0.SameImage w n)
    (hv : w0.SameImage v n) : (es.foldl (fieldDrawn n) (v, d)).2 = (es.foldl (fieldDrawn n) (w, d)).2 := by
  induction es generalizing w v d with
  | nil => rfl
  | cons e es ih =>
    have hkeep : ∀ u : Work, w0.SameImage u n →
        w0.SameImage (if (u.drawField n e.1 e.2.2 e.2.1).2 then u.raise F.MASH_ERR_SRC_RANGE n else u) n := by
      intro u hu
      have hraise := u.sameImage_raise F.MASH_ERR_SRC_RANGE n n (by decide)
      exact iteInduction (motive := fun u : Work => w0.SameImage u n)
        (fun _ => ⟨hraise.byte.trans hu.byte, hraise.region.trans hu.region⟩) (fun _ => hu)
    simp only [List.foldl_cons, fieldDrawn]
    rw [hv.drawField, ← hw.drawField]
    have h := ih _ _ { d with disp := d.disp ++ (w.drawField n e.1 e.2.2 e.2.1).1 } (hkeep w hw) (hkeep v hv)
    rwa [hv.drawField, ← hw.drawField] at h

theorem State.sameImage_taken (s : State) (op tag n : Nat) : s.work.SameImage (s.taken op tag) n := by
  refine ⟨?_, ?_⟩
  · funext r off; exact s.regByte_taken op tag n r off
  · funext r; exact s.region_taken op tag n r

/-- The fields of a command draw as they did before the frame was counted. -/
theorem State.draw_fields_taken (s : State) (op tag n : Nat) (es : List (Nat × Bool × Nat)) :
    ((s.taken op tag).drawBody n (.fields es)).2 = (s.work.drawBody n (.fields es)).2 := by
  rw [Work.drawBody_fields, Work.drawBody_fields]
  exact fieldsDrawn_congr n es s.work _ s.work _ ⟨rfl, rfl⟩ (s.sameImage_taken op tag n)

/-! ### A delivery accepted -/

/-- The Mash with a delivery in its queue, and with the changes that a stamped one takes its places by (R15, R160). -/
def Work.queued (w : Work) (n : Nat) (d : Delivery) (x : Draw) : Work :=
  let v := w.modMash n (fun m => { m with queue := m.queue ++ [d] })
  if d.stamped then (v.modMash n (fun m => m.commit v.tick (v.ordNow n) d.due d.late x.changes)).pairDisp n d.due x.disp else v

theorem Work.acceptDelivery_queued (w : Work) (n : Nat) (o : Origin) (body : DelivBody) (stamp due : Option Nat) (late : Bool)
    (hswap : (w.chan n).swapPending = false) (hroom : (w.chan n).mash.queue.length < 256)
    (hdue : (if w.held n then (none, false) else w.judgeStamp stamp) = (due, late)) (hplace : w.stampedFull n due = false) :
    w.acceptDelivery n o body stamp = (w.queued n ⟨body, o, some o, w.ordNow n, due, late⟩ (w.drawBody n body).2, .waits) := by
  unfold Work.acceptDelivery Work.queued
  simp only [hdue, hswap, Nat.not_le.mpr hroom, hplace, Bool.false_eq_true, if_false]
  exact (apply_ite (fun v : Work => (v, Reply.waits)) _ _ _).symm

theorem Work.chan_queued (w : Work) (n : Fin 8) (d : Delivery) (x : Draw) :
    ((w.queued n d x).chan n).mash.queue = (w.chan n).mash.queue ++ [d] ∧
      ((w.queued n d x).chan n).mash.changes = (w.chan n).mash.changes ++
        (if d.stamped then x.changes.map (fun c => ⟨w.tick, some (w.chan n).seq.started, d.due, d.late, c⟩) else []) := by
  unfold Work.queued
  by_cases hd : d.stamped = true
  · simp only [if_pos hd, Work.chan_pairDisp, Work.chan_modMash, Mash.commit, Work.ordNow]
    exact ⟨trivial, rfl⟩
  · simp only [if_neg hd, Work.chan_modMash, List.append_nil, and_self]

theorem Work.host_queued (w : Work) (n : Nat) (d : Delivery) (x : Draw) : (w.queued n d x).host = w.host := by
  unfold Work.queued
  split
  · rw [Work.host_pairDisp, Work.host_modMash, Work.host_modMash]
  · rw [Work.host_modMash]

theorem Work.wr_queued (w : Work) (n : Nat) (d : Delivery) (x : Draw) : (w.queued n d x).wr = w.wr := by
  unfold Work.queued
  split
  · rw [Work.wr_pairDisp, Work.wr_modMash, Work.wr_modMash]
  · rw [Work.wr_modMash]

theorem Work.reg_queued (w : Work) (n : Nat) (d : Delivery) (x : Draw) (a : Nat) (h : a ≠ R.MASH_STAT.addr n 0) :
    (w.queued n d x).reg a = w.reg a := by
  unfold Work.queued
  split
  · rw [Work.reg_pairDisp, Work.reg_modMash _ _ _ _ h, Work.reg_modMash _ _ _ _ h]
  · rw [Work.reg_modMash _ _ _ _ h]

/-- A display command from the host that hands a delivery to a Mash with room stays in flight with it queued. -/
theorem State.delivery_queued (s : State) (ch : Fin 8) (op tag : Nat) (pl : List Byte) (body : DelivBody) (stamp due : Option Nat)
    (late : Bool) (hready : s.hostReady = true) (hop : g3Ops.contains op = true) (habort : op ≠ opAbort)
    (hperform : (s.taken op tag).perform .host op pl = (s.taken op tag).acceptDelivery ch .host body stamp)
    (hswap : (s.chan ch).swapPending = false) (hroom : (s.chan ch).mash.queue.length < 256)
    (hdue : (if s.work.held ch then (none, false) else s.work.judgeStamp stamp) = (due, late))
    (hplace : s.work.stampedFull ch due = false)
    (hdraw : ((s.taken op tag).drawBody ch body).2 = (s.work.drawBody ch body).2)
    (t : State) (ht : t = s.run (fun w => w.command .host op tag pl)) :
    (t.chan ch).mash.queue = (s.chan ch).mash.queue ++ [⟨body, .host, some .host, some (s.chan ch).seq.started, due, late⟩] ∧
      (t.chan ch).mash.changes = (s.chan ch).mash.changes ++ (if due.isSome || late then (s.work.drawBody ch body).2.changes.map
        (fun x => ⟨s.dev.tick, some (s.chan ch).seq.started, due, late, x⟩) else []) ∧
      t.hostFlight op tag ∧ s.sameRegs t (R.MASH_STAT.addr ch 0 :: hostRegs) ∧ t.mem = s.mem := by
  subst ht
  rw [(s.taken op tag).acceptDelivery_queued ch .host body stamp due late (by rwa [State.chan_taken]) (by rwa [State.chan_taken])
    (by rwa [State.held_taken, State.judgeStamp_taken]) (by rwa [State.stampedFull_taken]), hdraw] at hperform
  have hrun := s.command_host_waits op tag pl _ hready hop habort hperform
  obtain ⟨hqueue, hchanges⟩ := (s.taken op tag).chan_queued ch ⟨body, .host, some .host, (s.taken op tag).ordNow ch, due, late⟩
    (s.work.drawBody ch body).2
  simp only [State.chan_taken, State.tick_taken, Work.ordNow] at hqueue hchanges
  refine ⟨?_, ?_, ?_, fun a ha => ?_, ?_⟩
  · rw [State.run_chan, hrun]
    simp only [Work.ordNow, State.chan_taken]
    exact hqueue
  · rw [State.run_chan, hrun]
    simp only [Work.ordNow, State.chan_taken]
    exact hchanges
  · rw [State.hostFlight, State.run_dev, hrun, Work.host_queued, State.hostPort_taken]
  · rw [List.mem_cons, not_or] at ha
    rw [State.run_reg, hrun, Work.reg_queued _ _ _ _ _ ha.1, s.reg_taken op tag a ha.2, State.work_reg]
  · rw [State.run_mem, hrun, Work.wr_queued, State.wr_taken, commitMem_nil]

end Sys2Proof.Machine
end

section
/-! PROOF. IMAGE_SWAP and DIM from the host (R164, R184), and the display commands together. -/

namespace Sys2Proof.Machine

/-! ### IMAGE_SWAP -/

/-- One named channel's swap put into its Mash, and told to the standby. -/
def swapStep (due : Option Nat) (late cut : Bool) (t mask : Nat) (w : Work) (n : Nat) : Work :=
  (w.modMash n (fun m => { m.commit w.tick (if cut then some afterCut else w.ordNow n) due late [.swap] with swapMask := mask })).pairCommit n
    ⟨.swap, if cut then some (t % 2 ^ 32) else due⟩

/-- The tick at which what is due applies, where `soonest` is the first that it can. -/
def dueFrom (soonest : Nat) (due : Option Nat) : Nat :=
  match due with | none => soonest | some d => Nat.max d soonest

/-- The tick that an IMAGE_SWAP of some channels is answered with. -/
def Work.swapTick (w : Work) (chs : List Nat) (due : Option Nat) : Nat :=
  dueFrom (if chs.any (fun n => (w.chan n).cutPassed) then w.nextTick + 1 else w.nextTick) due

/-- An IMAGE_SWAP of channels that all stand open to it waits on each of them (R164). -/
theorem imageSwapOp_accepts (w : Work) (pl : List Byte) (due : Option Nat) (late : Bool) (hlen : pl.length = 8)
    (hflags : byteAt pl 1 ≤ 1) (hzero : halfAt pl 2 = 0)
    (hdue : w.judgeStamp (if bitOf (byteAt pl 1) 0 then some (wordAt pl 4) else none) = (due, late))
    (hopen : ∀ n ∈ maskList (byteAt pl 0) 8, w.displayCheck n = none ∧ w.held n = true ∧ (w.chan n).swapPending = false ∧
      w.stampedFull n due = false) :
    imageSwapOp w pl = ((maskList (byteAt pl 0) 8).foldl (swapStep due late ((maskList (byteAt pl 0) 8).any (fun n => (w.chan n).cutPassed))
      (w.swapTick (maskList (byteAt pl 0) 8) due) (byteAt pl 0)) w, .done stOk (leBytes 4 (w.swapTick (maskList (byteAt pl 0) 8) due))) := by
  have hform : ¬ (pl.length ≠ 8 ∨ byteAt pl 1 / 2 ≠ 0 ∨ halfAt pl 2 ≠ 0) := by omega
  have hcheck : (maskList (byteAt pl 0) 8).findSome? (fun m => (w.displayCheck m).map (fun st => (m, st))) = none :=
    List.findSome?_eq_none_iff.mpr (fun m hm => by rw [(hopen m hm).1]; rfl)
  have hheld : (maskList (byteAt pl 0) 8).any (fun m => !w.held m) = false :=
    List.any_eq_false.mpr (fun m hm => by rw [(hopen m hm).2.1]; decide)
  have hfree : (maskList (byteAt pl 0) 8).any (fun m => (w.chan m).swapPending || w.stampedFull m due) = false :=
    List.any_eq_false.mpr (fun m hm => by
      obtain ⟨-, -, hswap, hfull⟩ := hopen m hm
      rw [hswap, hfull]; decide)
  unfold imageSwapOp
  simp only [hdue, if_neg hform, hcheck, hheld, hfree, Bool.false_eq_true, if_false]
  rfl

section
variable (due : Option Nat) (late cut : Bool) (t mask : Nat)

theorem chan_swapStep (w : Work) (n : Fin 8) :
    ((swapStep due late cut t mask w n).chan n).swapPending = true := by
  unfold swapStep
  rw [Work.chan_pairCommit, Work.chan_modMash]
  simp [Chan.swapPending, Mash.commit]

theorem chan_swapStep_ne (w : Work) (n m : Nat) (h : m ≠ n) : (swapStep due late cut t mask w n).chan m = w.chan m := by
  unfold swapStep
  rw [Work.chan_pairCommit, Work.chan_modMash_ne _ _ _ _ h]

/-- Every channel of a list waits for its swap after the list has been gone through. -/
theorem swapPending_foldl (l : List Nat) (w : Work) (n : Fin 8) (h : (w.chan n).swapPending = true ∨ (n : Nat) ∈ l) :
    ((l.foldl (swapStep due late cut t mask) w).chan n).swapPending = true := by
  induction l generalizing w with
  | nil => exact h.resolve_right List.not_mem_nil
  | cons m l ih =>
    refine ih _ ?_
    by_cases hm : (n : Nat) = m
    · subst hm
      exact Or.inl (chan_swapStep due late cut t mask w n)
    · rw [chan_swapStep_ne due late cut t mask w m n hm]
      exact h.imp id (fun hmem => (List.mem_cons.mp hmem).resolve_left hm)

/-- What the swaps of a list of channels leave alone. -/
theorem swap_foldl_same (l : List Nat) (w : Work) :
    (∀ m, m ∉ l → (l.foldl (swapStep due late cut t mask) w).chan m = w.chan m) ∧
      (∀ a, (∀ n ∈ l, a ≠ R.MASH_STAT.addr n 0) → (l.foldl (swapStep due late cut t mask) w).reg a = w.reg a) ∧
      (l.foldl (swapStep due late cut t mask) w).wr = w.wr ∧ (l.foldl (swapStep due late cut t mask) w).host = w.host := by
  refine ⟨fun m hm => ?_, fun a ha => ?_, ?_, ?_⟩
  · exact List.foldlRecOn (motive := fun v : Work => v.chan m = w.chan m) l _ rfl
      (fun v hv n hn => (chan_swapStep_ne due late cut t mask v n m (fun e => hm (e ▸ hn))).trans hv)
  · exact List.foldlRecOn (motive := fun v : Work => v.reg a = w.reg a) l _ rfl (fun v hv n hn => by
      unfold swapStep
      rw [Work.reg_pairCommit, Work.reg_modMash _ _ _ _ (ha n hn), hv])
  · exact List.foldlRecOn (motive := fun v : Work => v.wr = w.wr) l _ rfl (fun v hv n _ => by
      unfold swapStep
      rw [Work.wr_pairCommit, Work.wr_modMash, hv])
  · exact List.foldlRecOn (motive := fun v : Work => v.host = w.host) l _ rfl (fun v hv n _ => by
      unfold swapStep
      rw [Work.host_pairCommit, Work.host_modMash, hv])

end

theorem mem_maskList (m k n : Nat) : n ∈ maskList m k ↔ n < k ∧ bitOf m n = true := by
  unfold maskList
  rw [List.mem_filter, List.mem_range]

theorem displayCommands_imageSwap (s : State) (tag : Nat) (pl : List Byte) (due : Option Nat) (late : Bool) (soonest : Nat)
    (hready : s.hostReady = true) (hadmits : s.work.modeAdmits 0x12 = true) (hlen : pl.length = 8) (hflags : byteAt pl 1 ≤ 1)
    (hzero : halfAt pl 2 = 0) (hdue : s.work.judgeStamp (if bitOf (byteAt pl 1) 0 then some (wordAt pl 4) else none) = (due, late))
    (hopen : (maskList (byteAt pl 0) 8).all (fun n => (s.work.displayCheck n).isNone && s.work.held n && !(s.chan n).swapPending &&
      !s.work.stampedFull n due) = true)
    (hsoonest : soonest = if (maskList (byteAt pl 0) 8).any (fun n => (s.chan n).cutPassed) then s.work.nextTick + 1 else s.work.nextTick)
    (t : State) (ht : t = s.run (fun w => w.command .host 0x12 tag pl)) :
    (∀ n : Fin 8, bitOf (byteAt pl 0) n = true → (t.chan n).swapPending = true) ∧
      (∀ n : Fin 8, bitOf (byteAt pl 0) n = false → t.chan n = s.chan n) ∧
      s.hostAnswered t 0x12 tag stOk (leBytes 4 (dueFrom soonest due)) ∧
      s.sameRegs t ((List.range 8).map (fun n => R.MASH_STAT.addr n 0) ++ hostRegs) ∧ t.mem = s.mem := by
  subst ht
  have hopen' : ∀ n ∈ maskList (byteAt pl 0) 8, (s.taken 0x12 tag).displayCheck n = none ∧ (s.taken 0x12 tag).held n = true ∧
      ((s.taken 0x12 tag).chan n).swapPending = false ∧ (s.taken 0x12 tag).stampedFull n due = false := by
    intro n hn
    have h := List.all_eq_true.mp hopen n hn
    simp only [Bool.and_eq_true, Option.isNone_iff_eq_none, Bool.not_eq_true'] at h
    obtain ⟨⟨⟨hcheck, hheld⟩, hswap⟩, hfull⟩ := h
    exact ⟨by rwa [State.displayCheck_taken], by rwa [State.held_taken], by rwa [State.chan_taken], by rwa [State.stampedFull_taken]⟩
  have htick : (s.taken 0x12 tag).swapTick (maskList (byteAt pl 0) 8) due = dueFrom soonest due := by
    have hnext : (s.taken 0x12 tag).nextTick = s.work.nextTick := by
      unfold Work.nextTick
      rw [State.lock_taken, State.tick_taken]
      rfl
    unfold Work.swapTick
    simp only [State.chan_taken, hnext, ← hsoonest]
  have hperform := imageSwapOp_accepts (s.taken 0x12 tag) pl due late hlen hflags hzero (by rwa [State.judgeStamp_taken]) hopen'
  rw [htick, ← Work.perform_imageSwap _ .host _ (by rwa [State.modeAdmits_taken])] at hperform
  obtain ⟨hchan, hreg, hwr, hhost⟩ := swap_foldl_same due late
    ((maskList (byteAt pl 0) 8).any (fun n => ((s.taken 0x12 tag).chan n).cutPassed)) (dueFrom soonest due)
    (byteAt pl 0) (maskList (byteAt pl 0) 8) (s.taken 0x12 tag)
  obtain ⟨hend, hanswer⟩ := s.command_answers 0x12 tag stOk _ _ _ hready (by decide) (by decide) hperform hhost
  refine ⟨fun n hn => ?_, fun n hn => ?_, hanswer, s.frame_of_answers 0x12 tag stOk _ _ _ _ hend (fun a ha => hreg a ?_) (by rw [hwr, State.wr_taken])⟩
  · rw [State.run_chan, hend, Work.chan_complete_host]
    exact swapPending_foldl _ _ _ _ _ _ _ _ (Or.inr ((mem_maskList _ _ _).mpr ⟨n.isLt, hn⟩))
  · rw [State.run_chan, hend, Work.chan_complete_host, hchan, State.chan_taken]
    intro hmem
    rw [((mem_maskList _ _ _).mp hmem).2] at hn
    exact absurd hn (by decide)
  · rintro n hn rfl
    exact ha (List.mem_append_left _ (List.mem_map.mpr ⟨n, List.mem_range.mpr ((mem_maskList _ _ _).mp hn).1, rfl⟩))

/-! ### DIM -/

/-- The address a dim update is issued under: the node's own where its group is shared (R184). -/
def Work.dimAddr (w : Work) (g : Nat) (localOnly : Bool) : Nat :=
  if bitOf (w.get F.SYS_DIM_CFG_FABRIC_MASK) g && w.joined && !localOnly then w.ownAddr else 0

/-- A dim update newer than what its group holds is held in its place, and told. -/
theorem Work.issueDim_newer (w : Work) (g level tick : Nat) (cut localOnly : Bool)
    (hnewer : w.newer tick (w.dimAddr g localOnly) (w.heldDim g).tick (w.heldDim g).addr = true) :
    ∃ v, w.issueDim g level tick cut localOnly = (v, true) ∧
      Work.OnlyTold { w with dim := w.dim.set g (some ⟨level, tick % 2 ^ 32, w.dimAddr g localOnly, cut⟩) } v := by
  have hpair : ∀ u : Work, u.OnlyTold ((List.range 8).foldl
      (fun x n => x.pairCommit n ⟨.dim g level (tick % 2 ^ 32) (w.dimAddr g localOnly), none⟩) u) := fun u =>
    Work.OnlyTold.foldl _ _ _ (fun v n => Work.OnlyTold.pairCommit v n _)
  have hadopt : w.adoptDim g level tick (w.dimAddr g localOnly) cut =
      (Work.ev { w with dim := w.dim.set g (some ⟨level, tick % 2 ^ 32, w.dimAddr g localOnly, cut⟩) } 0x32, true) := by
    unfold Work.adoptDim
    simp only [hnewer, if_true]
  unfold Work.dimAddr at *
  -- unfolded as a function with an opaque callee: applied, the kernel would evaluate the comparison of the ticks
  obtain ⟨issue, hissue⟩ : ∃ f, f = Work.issueDim := ⟨_, rfl⟩
  rw [← hissue]
  delta Work.issueDim at hissue
  subst hissue
  obtain ⟨adopt, hopaque⟩ : ∃ f, f = Work.adoptDim := ⟨_, rfl⟩
  rw [← hopaque] at hadopt ⊢
  simp only [hadopt]
  refine ⟨_, rfl, ?_⟩
  refine iteInduction (fun _ => ?_) (fun _ => ?_)
  · exact ((Work.OnlyTold.ev _ _ _ _).trans (hpair _)).trans (Work.OnlyTold.fabCast _ _ _ _ _)
  · exact (Work.OnlyTold.ev _ _ _ _).trans (hpair _)

theorem Work.perform_dim (w : Work) (o : Origin) (pl : List Byte) (h : w.modeAdmits 0x19 = true) : w.perform o 0x19 pl = dimOp w pl := by
  unfold Work.perform; rw [h]; rfl

/-- One named group of a DIM, with the tick that the first lost update is answered with. -/
def dimStep (level tick : Nat) (cut localOnly : Bool) (p : Work × Option Nat) (g : Nat) : Work × Option Nat :=
  let q := p.1.issueDim g level tick cut localOnly
  (q.1, if q.2 then p.2 else p.2.orElse (fun _ => some (q.1.heldDim g).tick))

/-- A DIM whose form is in order issues an update for each group it names (R184). -/
theorem dimOp_issues (w : Work) (pl : List Byte) (tick : Nat) (hlen : pl.length = 12) (hmask : halfAt pl 0 ≠ 0) (hflags : byteAt pl 2 ≤ 3)
    (hthree : byteAt pl 3 = 0) (hzero : halfAt pl 10 = 0) (htick : tick = if bitOf (byteAt pl 2) 0 then wordAt pl 4 else w.dimLead) :
    dimOp w pl = (((maskList (halfAt pl 0) 16).foldl (dimStep (halfAt pl 8) tick w.dimCut (bitOf (byteAt pl 2) 1)) (w, none)).1,
      .done stOk (leBytes 4 ((((maskList (halfAt pl 0) 16).foldl (dimStep (halfAt pl 8) tick w.dimCut (bitOf (byteAt pl 2) 1)) (w, none)).2).getD tick))) := by
  have hform : ¬ (pl.length ≠ 12 ∨ halfAt pl 0 = 0 ∨ byteAt pl 2 / 4 ≠ 0 ∨ byteAt pl 3 ≠ 0 ∨ halfAt pl 10 ≠ 0) := by omega
  unfold dimStep
  obtain ⟨op, hop⟩ : ∃ f, f = dimOp := ⟨_, rfl⟩
  rw [← hop]
  delta dimOp at hop
  subst hop
  obtain ⟨issue, hissue⟩ : ∃ f, f = Work.issueDim := ⟨_, rfl⟩
  rw [← hissue]
  simp only [if_neg hform, ← htick, Work.reply]

/-- The updates of a list of groups, each newer than what its group holds. -/
theorem dim_foldl (level tick : Nat) (cut localOnly : Bool) (l : List Nat) (hl : l.Nodup) (w : Work)
    (hnewer : ∀ g ∈ l, w.newer tick (w.dimAddr g localOnly) (w.heldDim g).tick (w.heldDim g).addr = true) :
    ∃ v, l.foldl (dimStep level tick cut localOnly) (w, none) = (v, none) ∧
      Work.OnlyTold { w with dim := l.foldl (fun d g => d.set g (some ⟨level, tick % 2 ^ 32, w.dimAddr g localOnly, cut⟩)) w.dim } v := by
  induction l generalizing w with
  | nil => exact ⟨w, rfl, Work.OnlyTold.refl w⟩
  | cons g l ih =>
    obtain ⟨hg, hl⟩ := List.nodup_cons.mp hl
    obtain ⟨u, hu, htold⟩ := w.issueDim_newer g level tick cut localOnly (hnewer g List.mem_cons_self)
    have hget : ∀ f n k, u.get f n k = w.get f n k := htold.get
    have haddr : ∀ k, u.dimAddr k localOnly = w.dimAddr k localOnly := by
      intro k
      unfold Work.dimAddr Work.joined Work.ownAddr
      rw [hget, hget, hget]
    have hheld : ∀ k ∈ l, u.heldDim k = w.heldDim k := by
      intro k hk
      have hne : g ≠ k := fun e => hg (e ▸ hk)
      unfold Work.heldDim
      rw [htold.dim]
      simp only [hget, List.getD_eq_getElem?_getD, List.getElem?_set_ne hne]
    have hnew : ∀ k ∈ l, u.newer tick (u.dimAddr k localOnly) (u.heldDim k).tick (u.heldDim k).addr = true := by
      intro k hk
      have h := hnewer k (List.mem_cons_of_mem g hk)
      rw [haddr, hheld k hk]
      unfold Work.newer Work.ownAddr at *
      rwa [hget]
    obtain ⟨v, hv, htold'⟩ := ih hl u hnew
    refine ⟨v, ?_, ?_⟩
    · rw [List.foldl_cons, ← hv]
      unfold dimStep
      simp only [hu, if_true]
    · refine Work.OnlyTold.trans ?_ htold'
      simp only [List.foldl_cons, haddr, htold.dim]
      exact ⟨htold.regs, htold.ch, htold.wr, htold.mem, htold.host, rfl, htold.tick, htold.lock, htold.img, htold.tun, htold.rst,
        htold.pwr, htold.sec, htold.modeReq⟩

/-- What was told after the pending updates were set, seen from before. -/
theorem Work.OnlyTold.of_dim {w v : Work} {d : List (Option DimPend)} (h : Work.OnlyTold { w with dim := d } v) :
    v.host = w.host ∧ v.wr = w.wr ∧ (∀ a, v.reg a = w.reg a) ∧ v.dim = d :=
  ⟨h.host, h.wr, h.reg, h.dim⟩

/-- The places of a list written one after another. -/
theorem getD_foldl_set {α : Type} (l : List Nat) (d : List (Option α)) (x : Nat → α) (g : Nat) (hg : g < d.length) :
    (l.foldl (fun d k => d.set k (some (x k))) d).getD g none = if g ∈ l then some (x g) else d.getD g none := by
  induction l generalizing d with
  | nil => simp
  | cons k l ih =>
    rw [List.foldl_cons, ih _ (by rwa [List.length_set])]
    by_cases hk : k = g
    · subst hk
      simp [List.getD_eq_getElem?_getD, hg]
    · simp [List.getD_eq_getElem?_getD, hk, Ne.symm hk]

theorem displayCommands_dim (s : State) (tag : Nat) (pl : List Byte) (tick : Nat) (addr : Nat → Nat) (hready : s.hostReady = true)
    (hadmits : s.work.modeAdmits 0x19 = true) (hlen : pl.length = 12) (hmask : halfAt pl 0 ≠ 0) (hflags : byteAt pl 2 ≤ 3)
    (hthree : byteAt pl 3 = 0) (hzero : halfAt pl 10 = 0) (hdim : s.dev.dim.length = 16)
    (htick : tick = (if bitOf (byteAt pl 2) 0 then wordAt pl 4 else s.work.dimLead))
    (haddr : ∀ g : Fin 16, addr g = if bitOf (s.get F.SYS_DIM_CFG_FABRIC_MASK) g && s.work.joined && !bitOf (byteAt pl 2) 1 then s.work.ownAddr else 0)
    (hnewer : ∀ g : Fin 16, bitOf (halfAt pl 0) g = true → s.work.newer tick (addr g) (s.work.heldDim g).tick (s.work.heldDim g).addr = true)
    (t : State) (ht : t = s.run (fun w => w.command .host 0x19 tag pl)) :
    (∀ g : Fin 16, t.dev.dim.getD g none = if bitOf (halfAt pl 0) g then some ⟨halfAt pl 8, tick % 2 ^ 32, addr g, s.work.dimCut⟩ else s.dev.dim.getD g none) ∧
      s.hostAnswered t 0x19 tag stOk (leBytes 4 tick) ∧ s.sameRegs t hostRegs ∧ t.mem = s.mem := by
  subst ht
  have hget : ∀ f : Fld, f.addr 0 0 ∉ hostRegs → (s.taken 0x19 tag).get f = s.get f := fun f h => s.get_taken 0x19 tag f 0 0 h
  have hgetOf : ∀ (f : Fld) (g : Fin 16), f.base + 16 * f.stride < 0x40010000 → (s.taken 0x19 tag).get f 0 g = s.work.get f 0 g :=
    fun f g h => s.get_taken 0x19 tag f 0 g (by
      have hlow : ∀ a ∈ hostRegs, 0x40010000 ≤ a := by decide
      intro hm
      have := hlow _ hm
      have hk : f.stride * (g : Nat) ≤ f.stride * 16 := Nat.mul_le_mul_left _ g.isLt.le
      unfold Fld.addr at this
      omega)
  have hdimAddr : ∀ g : Fin 16, (s.taken 0x19 tag).dimAddr g (bitOf (byteAt pl 2) 1) = addr g := by
    intro g
    rw [haddr g]
    simp (disch := decide) only [Work.dimAddr, Work.joined, Work.ownAddr, hget, State.work_get]
  have hheld : ∀ g : Fin 16, (s.taken 0x19 tag).heldDim g = s.work.heldDim g := by
    intro g
    have hlevel := hgetOf F.SYS_DIM_LVL_LEVEL g (by decide)
    have hver := hgetOf F.SYS_DIM_VER_APPLY_TICK g (by decide)
    have horigin := hgetOf F.SYS_DIM_LVL_ORIGIN g (by decide)
    unfold Work.heldDim
    rw [State.dim_taken, hlevel, hver, horigin]
    rfl
  have hown : (s.taken 0x19 tag).ownAddr = s.work.ownAddr := hget _ (by decide)
  have hcut : (s.taken 0x19 tag).dimCut = s.work.dimCut := by simp only [Work.dimCut, State.chan_taken, State.work_chan]
  have hlead : (s.taken 0x19 tag).dimLead = s.work.dimLead := by
    simp (disch := decide) only [Work.dimLead, hget, State.tick_taken, State.work_get, State.work_tick]
  obtain ⟨v, hv, htold⟩ := dim_foldl (halfAt pl 8) tick s.work.dimCut (bitOf (byteAt pl 2) 1) (maskList (halfAt pl 0) 16)
    (List.nodup_range.filter _) (s.taken 0x19 tag) (fun g hg => by
      obtain ⟨hlt, hbit⟩ := (mem_maskList _ _ _).mp hg
      have h := hnewer ⟨g, hlt⟩ hbit
      rw [hdimAddr ⟨g, hlt⟩, hheld ⟨g, hlt⟩]
      simpa only [Work.newer, hown] using h)
  obtain ⟨hhost, hwr, hreg, hdims⟩ := htold.of_dim
  have hperform : (s.taken 0x19 tag).perform .host 0x19 pl = (v, .done stOk (leBytes 4 tick)) := by
    have h := dimOp_issues (s.taken 0x19 tag) pl tick hlen hmask hflags hthree hzero (by rwa [hlead])
    rw [hcut, hv] at h
    exact (Work.perform_dim _ _ _ (by rwa [State.modeAdmits_taken])).trans h
  obtain ⟨hend, hanswer⟩ := s.command_answers 0x19 tag stOk _ _ _ hready (by decide) (by decide) hperform hhost
  refine ⟨fun g => ?_, hanswer, s.frame_of_answers 0x19 tag stOk _ _ v [] hend (fun a _ => hreg a) (hwr.trans (s.wr_taken 0x19 tag))⟩
  have hpart : (s.run (fun w => w.command .host 0x19 tag pl)).dev.dim = v.dim := by
    rw [State.run_dev, hend]
    exact v.part_complete_host _ _ _ _ (fun w => w.dim) (fun _ _ _ _ _ => rfl) (fun _ _ => rfl)
  rw [hpart, hdims, State.dim_taken, getD_foldl_set _ _ _ _ (by rw [hdim]; exact g.isLt), hdimAddr g]
  simp only [mem_maskList, g.isLt, true_and]

/-- Masked words draw alike in every state. -/
theorem Work.draw_segs (w v : Work) (n : Nat) (ps : List (Nat × Nat × Nat)) :
    (w.drawBody n (.segs ps)).2 = (v.drawBody n (.segs ps)).2 := by rfl

/-! ### The obligation -/

/-- Settles O10: MEM_WRITE stores byte by byte in banks in service; FIELD_SET and SEG_WRITE queue one delivery; IMAGE_SWAP and DIM go
through the channels and the groups they name. -/
theorem displayCommands : Obligations.DisplayCommands := by
  unfold Obligations.DisplayCommands
  refine ⟨?memWrite, ?fieldSet, ?segWrite, ?imageSwap, ?dim⟩
  case memWrite =>
    intro s tag pl hready hmin hmax htop hbanks
    exact ⟨_, rfl, displayCommands_memWrite s tag pl hready hmin hmax htop hbanks _ rfl⟩
  case fieldSet =>
    intro s ch tag pl due late hready hadmits hmin hmax hlen hflags hentries hn hcheck hdef hdue hswap hroom hplace
    exact ⟨_, rfl, s.delivery_queued ch 0x10 tag pl _ _ due late hready (by decide) (by decide)
      (s.perform_fieldSet_taken ch tag pl hadmits hmin hmax hlen hflags hentries hn hcheck hdef) hswap hroom hdue hplace
      (s.draw_fields_taken 0x10 tag ch _) _ rfl⟩
  case segWrite =>
    intro s ch tag pl due late hready hadmits hmin hmax hpairs hflags hn hcheck hfirst hfree hdue hswap hroom hplace
    have howned : ∀ k, (s.taken 0x11 tag).get F.MASH_OWN_OWNED ch k = s.get F.MASH_OWN_OWNED ch k := fun k =>
      s.get_taken 0x11 tag _ ch k (addr_notMem_hostRegs _ _ _ (by decide))
    have hperform : (s.taken 0x11 tag).perform .host 0x11 pl = (s.taken 0x11 tag).acceptDelivery ch .host
        (.segs (segPairs pl)) (if bitOf (byteAt pl 1) 0 then some (wordAt pl 4) else none) := by
      rw [Work.perform_segWrite _ _ _ (by rwa [State.modeAdmits_taken])]
      exact segWriteOp_accepts _ _ _ ch hmin hmax hpairs hflags hn (by rwa [State.displayCheck_taken]) hfirst
        (by simpa only [howned] using hfree)
    exact ⟨_, rfl, s.delivery_queued ch 0x11 tag pl _ _ due late hready (by decide) (by decide) hperform hswap hroom hdue hplace
      (Work.draw_segs _ _ ch _) _ rfl⟩
  case imageSwap =>
    intro s tag pl due late soonest hready hadmits hlen hflags hzero hdue hopen hsoonest
    exact ⟨_, rfl, displayCommands_imageSwap s tag pl due late soonest hready hadmits hlen hflags hzero hdue hopen hsoonest _ rfl⟩
  case dim =>
    intro s tag pl tick addr hready hadmits hlen hmask hflags hthree hzero hdim htick haddr hnewer
    exact ⟨_, rfl, displayCommands_dim s tag pl tick addr hready hadmits hlen hmask hflags hthree hzero hdim htick haddr hnewer _ rfl⟩

end Sys2Proof.Machine
end

section
/-! PROOF. FABRIC_WRAP, its timeout, bad frames and rejected frames (R297, R298, R308). -/

namespace Sys2Proof.Machine

/-! ### What a frame cast over the fabric sends -/

/-- The frames of a cast, one for each port it leaves by, are sent in their order. -/
theorem Work.sent_foldl_fabOut (qs : List (Nat × Nat)) (w v : Work) (kind dest cls : Nat) (payload : List Byte)
    (hrec : ∀ q, v.fabRecord q kind dest cls payload = w.fabRecord q kind dest cls payload) :
    (qs.foldl (fun w q => w.fabOut q kind dest cls payload) v).sent =
      v.sent ++ qs.map (fun q => w.fabRecord q kind dest cls payload) := by
  induction qs generalizing v with
  | nil => simp
  | cons q qs ih =>
    have hout : ∀ p, (v.fabOut q kind dest cls payload).fabRecord p kind dest cls payload = v.fabRecord p kind dest cls payload := by
      intro p
      have hget := (Work.OnlyTold.fabOut v q kind dest cls payload).get
      have hring : (v.fabOut q kind dest cls payload).fab.ring = v.fab.ring := by
        unfold Work.fabOut
        exact iteInduction (motive := fun u : Work => u.fab.ring = v.fab.ring) (fun _ => by rw [Work.ev_fab]; rfl) (fun _ => rfl)
      unfold Work.fabRecord Work.ownAddr Work.ringDir
      rw [hget, hring]
    have hsent : (v.fabOut q kind dest cls payload).sent = v.sent ++ [v.fabRecord q kind dest cls payload] := by
      unfold Work.fabOut
      exact iteInduction (motive := fun u : Work => u.sent = v.sent ++ [v.fabRecord q kind dest cls payload])
        (fun _ => by rw [Work.ev_sent]; rfl) (fun _ => rfl)
    rw [List.foldl_cons, ih _ (fun p => (hout p).trans (hrec p)), hsent, hrec q, List.map_cons, List.append_assoc,
      List.singleton_append]

end Sys2Proof.Machine
end

section
namespace Sys2Proof.Machine

/-- A register above the host's is none of the host's. -/
theorem addr_notMem_hostRegs_above (f : Fld) (n k : Nat) (h : 0x40020000 ≤ f.base) : f.addr n k ∉ hostRegs := by
  have hlow : ∀ a ∈ hostRegs, a < 0x40020000 := by decide
  intro hm
  have := hlow _ hm
  unfold Fld.addr at this
  omega

/-- What a cast sends is read from registers that do not show the host port, from the fabric and from the reset controller. -/
theorem Work.castSent_congr (w v : Work) (kind dest cls : Nat) (payload : List Byte)
    (hget : ∀ (f : Fld) (n k : Nat), f.addr n k ∉ hostRegs → v.get f n k = w.get f n k) (hfab : v.fab = w.fab) (hrst : v.rst = w.rst) :
    v.castSent kind dest cls payload = w.castSent kind dest cls payload := by
  have hruns : v.fabRuns = w.fabRuns := by
    unfold Work.fabRuns Work.flag
    rw [hrst, hget F.SYS_REL_STEP 0 0 (by decide), hget F.SYS_BLK_RST_FABRIC 0 0 (by decide), hget F.PWR_STAT_STATE 0 0 (by decide)]
  have hcarries : v.carries = w.carries := by
    funext p
    unfold Work.carries Work.linked Work.portOn Work.flag
    rw [hruns, hget F.RHL_STAT_STATE 0 0 (by decide), hget F.RHL_CFG_PORT_EN 0 0 (by decide),
      hget F.RHL_PORT_LINK 0 p (addr_notMem_hostRegs_above _ _ _ (by decide)), hget F.RHL_CFG_PAIR_P2 0 0 (by decide)]
  have hports : v.portsTo dest = w.portsTo dest := by
    unfold Work.portsTo Work.castPorts Work.joined Work.routeOf
    rw [hcarries, hfab, hget F.RHL_STAT_STATE 0 0 (by decide), hget F.RHL_ROUTE_PORTS 0 _ (addr_notMem_hostRegs_above _ _ _ (by decide))]
  have hrec : v.fabRecord = w.fabRecord := by
    funext q k d c p
    unfold Work.fabRecord Work.ownAddr Work.ringDir
    rw [hfab, hget F.RHL_STAT_ADDR_ACT 0 0 (by decide)]
  unfold Work.castSent
  rw [hports, hrec]

/-- A cast sends its frames and tells of nothing else. -/
theorem Work.sent_fabCast (w : Work) (kind dest cls : Nat) (payload : List Byte) :
    (w.fabCast kind dest cls payload).sent = w.sent ++ w.castSent kind dest cls payload :=
  w.sent_foldl_fabOut _ w kind dest cls payload (fun _ => rfl)

/-! ### FABRIC_WRAP (R308) -/

/-- The payload of a FABRIC_WRAP is in order (R308). -/
structure WrapForm (pl : List Byte) : Prop where
  long : 11 ≤ pl.length
  dest : halfAt pl 0 ≤ 511
  flags : byteAt pl 2 ≤ 1
  zero : byteAt pl 3 = 0
  some : 1 ≤ halfAt pl 4
  ticks : halfAt pl 4 ≤ 4000
  inner : byteAt (pl.drop 6) 2 = 0
  length : (pl.drop 6).length = 5 + halfAt (pl.drop 6) 3
  short : halfAt (pl.drop 6) 3 ≤ 1012

/-- The working state after a WRAP_REQ has left. -/
def Work.wrapSent (w : Work) (pl : List Byte) : Work :=
  ({ w with host := { w.host with wrapTag := (w.host.wrapTag + 1) % 65536 } } : Work).fabCast 0x30 (halfAt pl 0) 1
    (leBytes 2 w.host.wrapTag ++ leBytes 1 (byteAt pl 2) ++ leBytes 1 0 ++ pl.drop 6)

section
variable (w : Work) (o : Origin) (pl : List Byte) (hform : WrapForm pl)
include hform

theorem wrapOp_isolated (hheld : w.flag F.SYS_BLK_RST_FABRIC = true) : wrapOp w o pl = w.reply stIsol := by
  obtain ⟨hlong, hdest, hflags, hzero, hsome, hticks, hinner, hlen, hshort⟩ := hform
  have hok : ¬ ((pl.drop 6).length < 5 ∨ 511 < halfAt pl 0 ∨ 1 < byteAt pl 2 ∨ byteAt pl 3 ≠ 0 ∨ halfAt pl 4 < 1 ∨ 4000 < halfAt pl 4 ∨
      byteAt (pl.drop 6) 2 ≠ 0 ∨ (pl.drop 6).length ≠ 5 + halfAt (pl.drop 6) 3 ∨ 1012 < halfAt (pl.drop 6) 3) := by omega
  unfold wrapOp
  simp only [if_neg hok, hheld, if_true]

theorem wrapOp_sends (hjoined : w.joined = true) (hdest : halfAt pl 0 ≠ 0) (hfree : w.flag F.SYS_BLK_RST_FABRIC = false) :
    wrapOp w o pl = if byteAt pl 2 = 1 ∨ halfAt pl 0 = 511 then (w.wrapSent pl).reply stOk
      else ({ w.wrapSent pl with host := { (w.wrapSent pl).host with wraps := (w.wrapSent pl).host.wraps ++ [⟨o, w.host.wrapTag, halfAt pl 4⟩] } }, .waits) := by
  obtain ⟨hlong, hmax, hflags, hzero, hsome, hticks, hinner, hlen, hshort⟩ := hform
  have hok : ¬ ((pl.drop 6).length < 5 ∨ 511 < halfAt pl 0 ∨ 1 < byteAt pl 2 ∨ byteAt pl 3 ≠ 0 ∨ halfAt pl 4 < 1 ∨ 4000 < halfAt pl 4 ∨
      byteAt (pl.drop 6) 2 ≠ 0 ∨ (pl.drop 6).length ≠ 5 + halfAt (pl.drop 6) 3 ∨ 1012 < halfAt (pl.drop 6) 3) := by omega
  have hbit : (bitOf (byteAt pl 2) 0).toNat = byteAt pl 2 ∧ (bitOf (byteAt pl 2) 0 = true ↔ byteAt pl 2 = 1) := by
    interval_cases byteAt pl 2 <;> decide
  have hgo : ¬ ((!w.joined) = true ∨ halfAt pl 0 = 0) := by simp [hjoined, hdest]
  unfold wrapOp Work.wrapSent
  simp only [if_neg hok, hfree, if_neg hgo, hbit.1, hbit.2, Bool.false_eq_true, if_false]

end

/-- What a WRAP_REQ that has left changes beside what it sends. -/
theorem Work.wrapSent_same (w : Work) (pl : List Byte) :
    (∀ a, (w.wrapSent pl).reg a = w.reg a) ∧ (w.wrapSent pl).wr = w.wr ∧
      (w.wrapSent pl).host = { w.host with wrapTag := (w.host.wrapTag + 1) % 65536 } ∧
      (w.wrapSent pl).sent = w.sent ++ w.castSent 0x30 (halfAt pl 0) 1
        (leBytes 2 w.host.wrapTag ++ leBytes 1 (byteAt pl 2) ++ leBytes 1 0 ++ pl.drop 6) := by
  have h := Work.OnlyTold.fabCast { w with host := { w.host with wrapTag := (w.host.wrapTag + 1) % 65536 } } 0x30 (halfAt pl 0) 1
    (leBytes 2 w.host.wrapTag ++ leBytes 1 (byteAt pl 2) ++ leBytes 1 0 ++ pl.drop 6)
  exact ⟨h.reg, h.wr, h.host, Work.sent_fabCast _ _ _ _ _⟩

end Sys2Proof.Machine
end

section
namespace Sys2Proof.Machine

section
variable (s : State) (op tag : Nat)

@[simp] theorem State.wraps_taken : (s.taken op tag).host.wraps = s.dev.host.wraps :=
  s.part_taken op tag (fun w => w.host.wraps) (fun _ _ _ _ _ => rfl)
    (fun w c i k => congrArg HostP.wraps (Work.SameDevice.ev w c i k).host) (fun _ _ => rfl)

@[simp] theorem State.wrapTag_taken : (s.taken op tag).host.wrapTag = s.dev.host.wrapTag :=
  s.part_taken op tag (fun w => w.host.wrapTag) (fun _ _ _ _ _ => rfl)
    (fun w c i k => congrArg HostP.wrapTag (Work.SameDevice.ev w c i k).host) (fun _ _ => rfl)

@[simp] theorem State.sent_taken : (s.taken op tag).sent = [] :=
  s.part_taken op tag (fun w => w.sent) (fun _ _ _ _ _ => rfl) (fun w c i k => (Work.SameDevice.ev w c i k).sent) (fun _ _ => rfl)

@[simp] theorem State.castSent_taken (kind dest cls : Nat) (payload : List Byte) :
    (s.taken op tag).castSent kind dest cls payload = s.work.castSent kind dest cls payload :=
  Work.castSent_congr _ _ kind dest cls payload (fun f n k h => s.get_taken op tag f n k h) (s.fab_taken op tag) (s.rst_taken op tag)

@[simp] theorem State.joined_taken : (s.taken op tag).joined = s.work.joined := by
  unfold Work.joined
  rw [s.get_taken op tag F.RHL_STAT_STATE 0 0 (by decide)]

theorem State.flag_taken (f : Fld) (n k : Nat) (h : f.addr n k ∉ hostRegs) : (s.taken op tag).flag f n k = s.flag f n k := by
  unfold Work.flag
  rw [s.get_taken op tag f n k h]
  rfl

end

theorem Work.perform_wrap (w : Work) (o : Origin) (pl : List Byte) (h : w.modeAdmits 0x60 = true) : w.perform o 0x60 pl = wrapOp w o pl := by
  unfold Work.perform; rw [h]; rfl

/-- A FABRIC_WRAP from the host that is sent. -/
theorem State.perform_wrap_sends (s : State) (tag : Nat) (pl : List Byte) (hform : WrapForm pl) (hadmits : s.work.modeAdmits 0x60 = true)
    (hjoined : s.work.joined = true) (hdest : halfAt pl 0 ≠ 0) (hfree : s.flag F.SYS_BLK_RST_FABRIC = false) :
    (s.taken 0x60 tag).perform .host 0x60 pl =
      if byteAt pl 2 = 1 ∨ halfAt pl 0 = 511 then ((s.taken 0x60 tag).wrapSent pl).reply stOk
      else ({ (s.taken 0x60 tag).wrapSent pl with host := { ((s.taken 0x60 tag).wrapSent pl).host with wraps :=
        ((s.taken 0x60 tag).wrapSent pl).host.wraps ++ [⟨.host, (s.taken 0x60 tag).host.wrapTag, halfAt pl 4⟩] } }, .waits) := by
  rw [Work.perform_wrap _ _ _ (by rwa [State.modeAdmits_taken])]
  exact wrapOp_sends _ .host pl hform (by rwa [State.joined_taken]) hdest (by rw [s.flag_taken 0x60 tag _ 0 0 (by decide)]; exact hfree)

theorem fabricWrap_waits (s : State) (tag : Nat) (pl : List Byte) (hready : s.hostReady = true) (hadmits : s.work.modeAdmits 0x60 = true)
    (hform : WrapForm pl) (hdest : halfAt pl 0 ≠ 0) (hjoined : s.work.joined = true) (hfree : s.flag F.SYS_BLK_RST_FABRIC = false)
    (hwait : byteAt pl 2 = 0) (hone : halfAt pl 0 ≠ 511) (t : State) (ht : t = s.run (fun w => w.command .host 0x60 tag pl)) :
    t.dev.host.wraps = s.dev.host.wraps ++ [⟨.host, s.dev.host.wrapTag, halfAt pl 4⟩] ∧ t.hostFlight 0x60 tag ∧
      t.dev.sent = s.work.castSent 0x30 (halfAt pl 0) 1 (leBytes 2 s.dev.host.wrapTag ++ leBytes 1 (byteAt pl 2) ++ leBytes 1 0 ++ pl.drop 6) ∧
      t.dev.host.wrapTag = (s.dev.host.wrapTag + 1) % 65536 ∧ s.sameRegs t hostRegs ∧ t.mem = s.mem := by
  subst ht
  have hperform := s.perform_wrap_sends tag pl hform hadmits hjoined hdest hfree
  rw [if_neg (by omega)] at hperform
  have hrun := s.command_host_waits 0x60 tag pl _ hready (by decide) (by decide) hperform
  obtain ⟨hreg, hwr, hhost, hsent⟩ := (s.taken 0x60 tag).wrapSent_same pl
  rw [State.sent_taken, State.castSent_taken, State.wrapTag_taken, List.nil_append] at hsent
  refine ⟨?_, ?_, ?_, ?_, fun a ha => ?_, ?_⟩
  · rw [State.run_dev, hrun]
    change ((s.taken 0x60 tag).wrapSent pl).host.wraps ++ _ = _
    rw [hhost, State.wrapTag_taken]
    exact congrArg (· ++ _) (s.wraps_taken 0x60 tag)
  · rw [State.hostFlight, State.run_dev, hrun]
    change ((s.taken 0x60 tag).wrapSent pl).host.port.flight = _
    rw [hhost, State.hostPort_taken]
  · rw [State.run_dev, hrun]
    exact hsent
  · rw [State.run_dev, hrun]
    change ((s.taken 0x60 tag).wrapSent pl).host.wrapTag = _
    rw [hhost, State.wrapTag_taken]
  · rw [State.run_reg, hrun]
    exact (hreg a).trans (s.reg_taken 0x60 tag a ha)
  · rw [State.run_mem, hrun]
    change commitMem ((s.taken 0x60 tag).wrapSent pl).wr s.mem = s.mem
    rw [hwr, State.wr_taken, commitMem_nil]

theorem fabricWrap_ends (s : State) (tag : Nat) (pl : List Byte) (hready : s.hostReady = true) (hadmits : s.work.modeAdmits 0x60 = true)
    (hform : WrapForm pl) (hdest : halfAt pl 0 ≠ 0) (hjoined : s.work.joined = true) (hfree : s.flag F.SYS_BLK_RST_FABRIC = false)
    (hends : byteAt pl 2 = 1 ∨ halfAt pl 0 = 511) (t : State) (ht : t = s.run (fun w => w.command .host 0x60 tag pl)) :
    t.dev.host.wraps = s.dev.host.wraps ∧ s.hostAnswered t 0x60 tag stOk [] ∧
      t.dev.sent = s.work.castSent 0x30 (halfAt pl 0) 1 (leBytes 2 s.dev.host.wrapTag ++ leBytes 1 (byteAt pl 2) ++ leBytes 1 0 ++ pl.drop 6) ∧
      s.sameRegs t hostRegs ∧ t.mem = s.mem := by
  subst ht
  have hperform := s.perform_wrap_sends tag pl hform hadmits hjoined hdest hfree
  rw [if_pos hends] at hperform
  obtain ⟨hreg, hwr, hhost, hsent⟩ := (s.taken 0x60 tag).wrapSent_same pl
  rw [State.sent_taken, State.castSent_taken, State.wrapTag_taken, List.nil_append] at hsent
  have hend : s.work.command .host 0x60 tag pl = ((s.taken 0x60 tag).wrapSent pl).complete .host 0x60 tag stOk [] := by
    rw [s.command_host_done 0x60 tag stOk pl [] _ hready (by decide) (by decide) hperform]
    exact Work.finish_host _ _ _ _ _ ⟨0x60, tag, false⟩ (by rw [hhost, State.hostPort_taken])
  have hframe := s.frame_of_answers 0x60 tag stOk pl [] _ [] hend (fun a _ => hreg a) (hwr.trans (s.wr_taken 0x60 tag))
  refine ⟨?_, ?_, ?_, hframe⟩
  · rw [State.run_dev, hend]
    refine (Work.part_complete_host _ _ _ _ _ (fun w => w.host.wraps) (fun _ _ _ _ _ => rfl) (fun _ _ => rfl)).trans ?_
    rw [hhost]
    exact s.wraps_taken 0x60 tag
  · change (s.work.command .host 0x60 tag pl).host.port = _
    rw [hend, Work.host_complete, hhost, State.hostPort_taken]
  · rw [State.run_dev, hend]
    exact (Work.part_complete_host _ _ _ _ _ (fun w => w.sent) (fun _ _ _ _ _ => rfl) (fun _ _ => rfl)).trans hsent

/-! ### The timeout, and frames that are not served (R297, R298, R308) -/

theorem Work.get_setPort_host (w : Work) (p : Port) (f : Fld) (n k : Nat) : (w.setPort .host p).get f n k = w.get f n k := by rfl
theorem Work.flag_setPort_host (w : Work) (p : Port) (f : Fld) (n k : Nat) : (w.setPort .host p).flag f n k = w.flag f n k := by rfl

/-- The last wait of the host runs out. -/
theorem wrapTimeout_of (w : Work) (x : WrapWait) (f : Flight) (hwraps : w.host.wraps = [x]) (hleft : x.left = 0) (hwho : x.who = .host)
    (hflight : w.host.port.flight = some f) :
    wrapTimeout w = ({ w with host := { w.host with wraps := [] } } : Work).complete .host f.op f.tag stState [] f.late true := by
  have hlate : w.host.wraps.filter (fun x => x.left == 0) = [x] := by simp [hwraps, hleft]
  have hkept : w.host.wraps.filter (fun x => x.left != 0) = [] := by simp [hwraps, hleft]
  unfold wrapTimeout
  simp only [hlate, hkept, List.foldl_cons, List.foldl_nil, hwho]
  exact Work.finish_host _ _ _ _ _ f hflight

/-- The port takes frames and is awake. -/
theorem State.hostReady_iff (s : State) :
    s.hostReady = true ↔ s.work.g3Deaf = false ∧ s.work.pwrState = 0 ∧ s.dev.host.port.flight = none := by
  unfold State.hostReady
  simp only [Bool.and_eq_true, Bool.not_eq_true', beq_iff_eq, Option.isNone_iff_eq_none, and_assoc]

/-- A bad frame at a port that is awake is judged at once. -/
theorem g3BadFrame_awake (w : Work) (why : BadFrame) (hdeaf : w.g3Deaf = false) (hawake : w.pwrState = 0) :
    g3BadFrame w why = w.badFrame why := by
  unfold g3BadFrame
  simp [hdeaf, hawake]

/-- A frame discarded raises its error. -/
theorem Work.rejectFrame_same (w : Work) :
    w.rejectFrame.flag F.HOST_ERR_REJECT = true ∧ (∀ a, a ≠ R.HOST_ERR.addr 0 0 → w.rejectFrame.reg a = w.reg a) ∧
      w.rejectFrame.wr = w.wr ∧ w.rejectFrame.host = w.host := by
  unfold Work.rejectFrame
  rw [Work.raise_eq]
  refine ⟨?_, fun a ha => ?_, ?_, ?_⟩
  · rw [Work.flag_ev, Work.flag_put_same _ _ _ _ _ rfl]; rfl
  · rw [Work.reg_ev]
    exact w.reg_put_ne F.HOST_ERR_REJECT 1 0 0 a ha
  · rw [Work.ev_wr, Work.put_wr]
  · rw [Work.ev_host, Work.put_host]

/-- Settles O15: the request of a FABRIC_WRAP is one cast, after which the command waits or is answered; the other commands of the
port are each one operation on its registers. -/
theorem fabricWrapAndFrames : Obligations.FabricWrapAndFrames := by
  unfold Obligations.FabricWrapAndFrames
  refine ⟨?waits, ?ends, ?isolated, ?timeout, ?short, ?crc, ?opcode, ?held, ?reject⟩
  case waits =>
    intro s tag pl hready hadmits hlong hmax hdest hflags hzero hsome hticks hinner hlen hshort hjoined hfree hwait hone
    exact ⟨_, rfl, fabricWrap_waits s tag pl hready hadmits ⟨hlong, hmax, hflags, hzero, hsome, hticks, hinner, hlen, hshort⟩ hdest
      hjoined hfree hwait hone _ rfl⟩
  case ends =>
    intro s tag pl hready hadmits hlong hmax hdest hflags hzero hsome hticks hinner hlen hshort hjoined hfree hends
    exact ⟨_, rfl, fabricWrap_ends s tag pl hready hadmits ⟨hlong, hmax, hflags, hzero, hsome, hticks, hinner, hlen, hshort⟩ hdest
      hjoined hfree hends _ rfl⟩
  case isolated =>
    intro s tag pl hready hadmits hlong hmax _ hflags hzero hsome hticks hinner hlen hshort hheld
    have hperform : (s.taken 0x60 tag).perform .host 0x60 pl = (s.taken 0x60 tag).reply stIsol := by
      rw [Work.perform_wrap _ _ _ (by rwa [State.modeAdmits_taken])]
      exact wrapOp_isolated _ .host pl ⟨hlong, hmax, hflags, hzero, hsome, hticks, hinner, hlen, hshort⟩
        (by rw [s.flag_taken 0x60 tag _ 0 0 (by decide)]; exact hheld)
    obtain ⟨hend, hanswer⟩ := s.command_answers 0x60 tag stIsol pl [] _ hready (by decide) (by decide) hperform rfl
    obtain ⟨hregs, hmem⟩ := s.frame_of_answers 0x60 tag stIsol pl [] _ [] hend (fun _ _ => rfl) (s.wr_taken 0x60 tag)
    refine ⟨_, rfl, hanswer, ?_, hregs, hmem⟩
    rw [State.run_dev, hend]
    exact (Work.part_complete_host _ _ _ _ _ (fun w => w.host.wraps) (fun _ _ _ _ _ => rfl) (fun _ _ => rfl)).trans (s.wraps_taken 0x60 tag)
  case timeout =>
    intro s x f hwraps hleft hwho hflight
    have hend := wrapTimeout_of s.work x f hwraps hleft hwho hflight
    refine ⟨_, rfl, ?_, ?_, fun a ha => ?_, ?_⟩
    · rw [State.run_dev, hend, Work.complete_host]
      simp only [Work.showHost, Work.putFlag_eq, Work.put_host]
      rfl
    · rw [State.run_dev, hend]
      exact Work.host_complete _ _ _ _ _ _ _
    · rw [State.run_reg, hend, Work.reg_complete_host _ _ _ _ _ _ _ a ha]
      rfl
    · rw [State.run_mem, hend, Work.wr_complete_host]
      rfl
  case short =>
    intro s hready
    obtain ⟨hdeaf, hawake, hfree⟩ := s.hostReady_iff.mp hready
    have hend : g3BadFrame s.work .short = s.work.put F.HOST_ERR_FRAME_ERR 1 := by
      rw [g3BadFrame_awake _ _ hdeaf hawake]
      simp only [Work.badFrame, show s.work.host.port.flight = none from hfree, Option.isSome_none, Bool.false_eq_true, if_false,
        Work.raise_eq]
    refine ⟨_, rfl, ?_, ?_, fun a ha => ?_, ?_⟩
    · change (g3BadFrame s.work .short).flag F.HOST_ERR_FRAME_ERR = true
      rw [hend, Work.flag_put_same _ _ _ _ _ rfl]; rfl
    · rw [State.run_dev, hend]; rfl
    · rw [State.run_reg, hend]
      exact s.work.reg_put_ne F.HOST_ERR_FRAME_ERR 1 0 0 a (fun e => ha (e ▸ List.mem_singleton.mpr rfl))
    · rw [State.run_mem, hend]; rfl
  case crc =>
    intro s op tag hready
    obtain ⟨hdeaf, hawake, hfree⟩ := s.hostReady_iff.mp hready
    have hend : g3BadFrame s.work (.crc op tag) =
        (((s.work.put F.HOST_ERR_CRC_ERR 1).countUp F.HOST_CNT_CRC_ERRS).ev 0x61).complete .host op tag stCrc := by
      rw [g3BadFrame_awake _ _ hdeaf hawake]
      simp only [Work.badFrame, show s.work.host.port.flight = none from hfree, Option.isSome_none, Bool.false_eq_true, if_false,
        false_and, Work.raise_eq]
    refine ⟨_, rfl, ?_, ?_, ?_, fun a ha => ?_, ?_⟩
    · change (g3BadFrame s.work (.crc op tag)).flag F.HOST_ERR_CRC_ERR = true
      rw [hend, Work.complete_host]
      simp (disch := decide) [Work.showHost, Work.countUp_eq, Work.flag_put_same, Work.flag_put_apart, Work.flag_setPort_host]
    · change (g3BadFrame s.work (.crc op tag)).get F.HOST_CNT_CRC_ERRS = _
      rw [hend, Work.complete_host]
      simp (disch := decide) [Work.showHost, Work.countUp_eq, Work.get_put_same, Work.get_put_apart, Work.get_setPort_host]
      rfl
    · change (g3BadFrame s.work (.crc op tag)).host.port = _
      rw [hend, Work.host_complete, Work.ev_host, Work.countUp_eq, Work.put_host, Work.put_host]
      rfl
    · rw [List.mem_cons, not_or] at ha
      obtain ⟨herr, hhost⟩ := ha
      rw [State.run_reg, hend, Work.reg_complete_host _ _ _ _ _ _ _ a hhost, Work.reg_ev, Work.countUp_eq,
        Work.reg_put_of_notMem _ _ _ _ _ _ _ hhost (by decide)]
      exact s.work.reg_put_ne F.HOST_ERR_CRC_ERR 1 0 0 a herr
    · rw [State.run_mem, hend, Work.wr_complete_host, Work.ev_wr, Work.countUp_eq]
      rfl
  case opcode =>
    intro s op tag hready
    obtain ⟨hdeaf, hawake, hfree⟩ := s.hostReady_iff.mp hready
    have hend : g3BadFrame s.work (.opcode op tag) = s.work.complete .host op tag stArg := by
      rw [g3BadFrame_awake _ _ hdeaf hawake]
      simp only [Work.badFrame, show s.work.host.port.flight = none from hfree, Option.isSome_none, Bool.false_eq_true, if_false]
    refine ⟨_, rfl, ?_, fun a ha => ?_, ?_⟩
    · change (g3BadFrame s.work (.opcode op tag)).host.port = _
      rw [hend, Work.host_complete]
      rfl
    · rw [State.run_reg, hend, Work.reg_complete_host _ _ _ _ _ _ _ a ha, State.work_reg]
    · rw [State.run_mem, hend, Work.wr_complete_host]
      rfl
  case held =>
    intro s why hdeaf hidle hheld
    have hend : g3BadFrame s.work why = { s.work with host := { s.work.host with held := some (.bad why) } } := by
      unfold g3BadFrame Work.holdFrame
      simp only [hdeaf, hidle, show s.work.host.held = none from hheld, Option.getD_none, Bool.false_eq_true, if_false, if_true]
    refine ⟨_, rfl, ?_, fun a _ => ?_, ?_⟩
    · rw [State.run_dev, hend]
    · rw [State.run_reg, hend]; rfl
    · rw [State.run_mem, hend]; rfl
  case reject =>
    intro s op tag hdeaf hawake hbusy hop hfetch
    have hend : (if s.work.g3Deaf ∨ s.work.pwrState ≠ 0 ∨ s.work.host.port.flight.isNone ∨ op = opAbort ∨ op = 0x80 then s.work
        else s.work.rejectFrame) = s.work.rejectFrame :=
      if_neg (by simp [hdeaf, hawake, hbusy, hop, hfetch])
    obtain ⟨hflag, hregs, hwr, hhost⟩ := s.work.rejectFrame_same
    refine ⟨_, rfl, ?_, ?_, fun a ha => ?_, ?_⟩
    · exact (congrArg (fun w : Work => w.flag F.HOST_ERR_REJECT) hend).trans hflag
    · exact (congrArg (fun w : Work => w.host.port) hend).trans (congrArg HostP.port hhost)
    · exact (congrArg (fun w : Work => w.reg a) hend).trans (hregs a (by simpa using ha))
    · exact (congrArg (fun w : Work => commitMem w.wr s.mem) hend).trans (by rw [hwr]; rfl)

end Sys2Proof.Machine
end

section
/-! PROOF SUPPORT. A session that ends leaves the host port and the record of refusals alone. -/

namespace Sys2Proof.Machine

/-- A table with the entries that `hit` picks taken from another. -/
def tabReplaced (t u : Tab Nat) (hit : Nat → Bool) : Tab Nat :=
  (u.filter (fun p => hit p.1)).foldl (fun t p => tabInsert t p.1 p.2) (t.filter (fun p => !hit p.1))

/-- A key outside what is replaced keeps its value. -/
theorem tabFind_replaced (t u : Tab Nat) (hit : Nat → Bool) (k : Nat) (hk : hit k = false) :
    tabFind (tabReplaced t u hit) k = tabFind t k := by
  have hkept : tabFind (t.filter (fun p => !hit p.1)) k = tabFind t k := by
    induction t with
    | nil => rfl
    | cons p t ih =>
      rw [List.filter_cons]
      by_cases hp : p.1 = k
      · subst hp
        simp [hk, tabFind]
      · split
        · simp only [tabFind, ih, hp, if_false]
        · simp only [tabFind, ih, hp, if_false]
  refine List.foldlRecOn (motive := fun v : Tab Nat => tabFind v k = tabFind t k) _ _ hkept (fun v hv p hp => ?_)
  have hne : p.1 ≠ k := by
    rintro rfl
    rw [(List.mem_filter.mp hp).2] at hk
    exact absurd hk (by decide)
  rw [tabFind_tabInsert_ne _ _ _ _ hne, hv]

/-- The registers of a mask's channels, but for those of their wrappers. -/
def imageHit (mask a : Nat) : Bool :=
  decide (0x40100000 ≤ a) && decide (a < 0x40180000) && bitOf mask (channelOf a) && decide (a % 0x10000 < 0xF000)

/-- Between two working states the host port and LAST_ERR of SYS_IMG_STAT stand. -/
structure Work.KeepsRecord (w v : Work) : Prop where
  port : v.host.port = w.host.port
  err : v.get F.SYS_IMG_STAT_LAST_ERR = w.get F.SYS_IMG_STAT_LAST_ERR

namespace Work.KeepsRecord

variable {w : Work}

theorem refl (w : Work) : w.KeepsRecord w := ⟨rfl, rfl⟩

theorem trans {u v : Work} (h : w.KeepsRecord u) (h' : u.KeepsRecord v) : w.KeepsRecord v := ⟨h'.port.trans h.port, h'.err.trans h.err⟩

/-- Nothing of the host port, and not the register of the record. -/
theorem of_reg {v : Work} (hhost : v.host = w.host) (hreg : v.reg 0x40000080 = w.reg 0x40000080) : w.KeepsRecord v := by
  refine ⟨by rw [hhost], ?_⟩
  unfold Work.get
  exact congrArg (fun x => bitsOf x 15 8) hreg

/-- Steps that keep the record, one after another. -/
theorem foldl {α : Type} (l : List α) (f : Work → α → Work) (h : ∀ (v : Work) (x : α), v.KeepsRecord (f v x)) (w : Work) :
    w.KeepsRecord (l.foldl f w) :=
  List.foldlRecOn (motive := fun v => w.KeepsRecord v) l f (refl w) (fun v hv x _ => hv.trans (h v x))

variable (w)

theorem put (f : Fld) (v n k : Nat) (h : 0x40000080 ≠ f.addr n k) : w.KeepsRecord (w.put f v n k) :=
  of_reg rfl (w.reg_put_ne f v n k _ h)

theorem modChan (n : Nat) (f : Chan → Chan) : w.KeepsRecord (w.modChan n f) := of_reg rfl rfl

theorem setReg (a v : Nat) (h : a ≠ 0x40000080) : w.KeepsRecord (w.setReg a v) := of_reg rfl (w.reg_setReg_ne a _ v (Ne.symm h))

theorem wipe (lo hi : Nat) : w.KeepsRecord (w.wipe lo hi) := of_reg (w.wipe_host lo hi) (by unfold Work.reg; rw [Work.wipe_regs])

theorem poke (a : Nat) (b : Byte) : w.KeepsRecord (w.poke a b) := of_reg (Work.SameDevice.poke w a b).host (w.reg_poke a b _)

theorem takeAttention (r : Nat) : w.KeepsRecord (w.takeAttention r) := by
  refine of_reg (Work.SameDevice.takeAttention w r).host ?_
  unfold Work.takeAttention Work.ringPut
  rw [Work.reg_put_ne _ _ _ _ _ _ (by decide)]
  refine iteInduction (motive := fun u : Work => u.reg 0x40000080 = w.reg 0x40000080) (fun _ => ?_) (fun _ => ?_)
  · exact w.reg_put_ne _ _ _ _ _ (by unfold Fld.addr; simp only [F.CASK_STAT_ATTN]; omega)
  · exact w.reg_put_ne _ _ _ _ _ (by decide)

theorem resume (n : Nat) : w.KeepsRecord (w.resume n) := by
  unfold Work.resume
  refine iteInduction (fun _ => modChan ..) (fun _ => iteInduction (fun _ => refl _) (fun _ => modChan ..))

theorem setChan (n : Nat) (c : Chan) : w.KeepsRecord (w.setChan n c) := of_reg rfl rfl

theorem putChState (n v : Nat) : w.KeepsRecord (w.putChState n v) := put w F.SYS_CH_STATE_STATES _ 0 0 (by decide)

/-- Settings taken over leave a record of what happened. -/
theorem takeSets (regs : Tab Nat) (hit : Nat → Bool) : w.KeepsRecord (w.takeSets regs hit) := by
  unfold Work.takeSets
  refine foldl _ _ (fun v a => ?_) w
  by_cases ha : a = 0x40000080
  · subst ha
    have hrow : rowAt 0x40000080 = some (⟨"SYS_IMG_STAT", 0x40000080, 1, 4,
        [⟨0, 0, .ro, 0, 0, 1⟩, ⟨3, 1, .ro, 0, 0, 7⟩, ⟨4, 4, .ro, 0, 0, 1⟩, ⟨5, 5, .rs, 0, 0, 1⟩, ⟨6, 6, .rs, 0, 0, 1⟩,
          ⟨15, 8, .ro, 0, 0, 255⟩, ⟨23, 16, .ro, 0, 0, 255⟩]⟩, 0) := by decide
    rw [hrow]
    refine ⟨rfl, ?_⟩
    unfold Work.get
    change bitsOf ((v.setReg 0x40000080 _).reg 0x40000080) 15 8 = bitsOf (v.reg 0x40000080) 15 8
    rw [Work.reg_setReg_same]
    have hro : (Access.ro == .rw || Access.ro == .rwx) = false := by decide
    have hrs : (Access.rs == .rw || Access.rs == .rwx) = false := by decide
    simp only [mergeAcc, setAcc, placeField, bitsOf, List.foldl_cons, List.foldl_nil, hro, hrs, Bool.false_eq_true, if_false]
    omega
  · cases rowAt a with
    | none => exact refl v
    | some p => exact setReg v a _ ha

theorem undoDevice (u : Undo) : w.KeepsRecord (w.undoDevice u) := by
  have hsame : ∀ (v : Work) (d : List (Option DimPend)) (l : Lock) (m : Mon) (x : Option Nat),
      v.KeepsRecord { v with dim := d, lock := l, host := { v.host with widthPend := x }, mon := m } := fun v d l m x => ⟨rfl, rfl⟩
  have hdim : ∀ (v : Work) (g : Nat), v.KeepsRecord ((v.setReg (R.SYS_DIM_LVL.addr 0 g) (tabGet u.regs (resetWord (R.SYS_DIM_LVL.addr 0 g)) (R.SYS_DIM_LVL.addr 0 g))).setReg
      (R.SYS_DIM_VER.addr 0 g) (tabGet u.regs (resetWord (R.SYS_DIM_VER.addr 0 g)) (R.SYS_DIM_VER.addr 0 g))) := by
    intro v g
    refine (setReg v _ _ ?_).trans (setReg _ _ _ ?_) <;>
    · unfold Fld.addr
      simp only [R.SYS_DIM_LVL, R.SYS_DIM_VER]
      omega
  have htun : ∀ (v : Work) (e x y : Nat) (f : TunEng → TunEng), v.KeepsRecord
      (((v.modTun e f).put F.TUN_CTL_RUNNING x).setReg (R.TUN_STAT.addr 0 e) y) := by
    intro v e x y f
    refine ((of_reg (v.modTun_host e f) rfl : v.KeepsRecord (v.modTun e f)).trans (put _ _ _ _ _ (by decide))).trans (setReg _ _ _ ?_)
    unfold Fld.addr
    simp only [R.TUN_STAT]
    omega
  unfold Work.undoDevice
  refine KeepsRecord.trans ?_ (hsame _ _ _ _ _)
  refine KeepsRecord.trans ?_ (foldl _ _ (fun v e => htun v e _ _ _) _)
  exact ((takeSets w _ _).trans (foldl _ _ (fun v g => hdim v g) _)).trans (wipe _ _ _)

/-- What a session's activation replaced is put back. -/
theorem undo (u : Undo) (mask : Nat) (whole : Bool) : w.KeepsRecord (w.undo u mask whole) := by
  have hchan : ∀ (v : Work) (n x : Nat) (c : Chan),
      v.KeepsRecord (((v.wipe (0x01000000 + 0x20000 * n) (0x01020000 + 0x20000 * n)).setChan n c).putChState n x) := by
    intro v n x c
    exact ((wipe v _ _).trans (setChan _ n c)).trans (putChState _ n x)
  have hregs : ∀ (hit : Nat → Bool), hit 0x40000080 = false → w.KeepsRecord { w with regs := tabReplaced w.regs u.regs hit } := by
    intro hit hk
    refine of_reg rfl ?_
    unfold Work.reg tabGet
    rw [tabFind_replaced _ _ _ _ hk]
  unfold Work.undo
  refine KeepsRecord.trans ?_ (foldl _ _ (fun v r => takeAttention v r) _)
  refine KeepsRecord.trans ?_ (foldl _ _ (fun v (c : Host.Cell) => poke v c.1 c.2) _)
  have hset := hregs (imageHit mask) (by simp [imageHit])
  refine iteInduction (motive := fun v => w.KeepsRecord v) (fun _ => KeepsRecord.trans ?_ (undoDevice _ u)) (fun _ => ?_)
  · exact hset.trans (foldl _ _ (fun v n => hchan v n _ _) _)
  · exact hset.trans (foldl _ _ (fun v n => hchan v n _ _) _)

/-- A session's end. -/
theorem endSession : w.KeepsRecord w.endSession := by
  have hidle : ∀ v : Work, v.KeepsRecord v.idleSess := fun v =>
    (setReg v 0x40000088 0 (by decide)).trans (of_reg rfl rfl)
  unfold Work.endSession
  cases w.img.sess with
  | none => exact refl w
  | some x =>
    have hundo : w.KeepsRecord (match x.undo with
        | some u => (w.undo u (if x.scope = 1 then 2 ^ x.channel else 0xFF) (x.scope != 1)).modRst (fun r => { r with enter := none })
        | none => w) := by
      cases x.undo with
      | none => exact refl w
      | some u => exact (undo w u _ _).trans (of_reg rfl rfl)
    have hended := hundo.trans (hidle _)
    exact iteInduction (motive := fun v => w.KeepsRecord v) (fun _ => hended.trans (foldl _ _ (fun v n => resume v n) _)) (fun _ => hended)

end Work.KeepsRecord

/-- No session stands after a session's end. -/
theorem Work.sess_endSession (w : Work) : w.endSession.img.sess = none := by
  have hresume : ∀ (v : Work) (n : Nat), (v.resume n).img = v.img := by
    intro v n
    unfold Work.resume
    exact iteInduction (motive := fun u : Work => u.img = v.img) (fun _ => by rw [Work.modKiln_eq, Work.modChan_img])
      (fun _ => iteInduction (motive := fun u : Work => u.img = v.img) (fun _ => rfl) (fun _ => v.modChan_img n _))
  unfold Work.endSession
  cases h : w.img.sess with
  | none => exact h
  | some x =>
    refine iteInduction (motive := fun v : Work => v.img.sess = none) (fun _ => ?_) (fun _ => rfl)
    exact List.foldlRecOn (motive := fun v : Work => v.img.sess = none) _ _ rfl (fun v hv n _ => by rw [hresume, hv])

end Sys2Proof.Machine
end

section
/-! PROOF. A load session from CFG_BEGIN to CFG_END, its timeout, and ABORT (R64 to R68, R305, R306). -/

namespace Sys2Proof.Machine

@[simp] theorem State.nowUs_taken (s : State) (op tag : Nat) : (s.taken op tag).nowUs = s.work.nowUs := by
  unfold Work.nowUs
  rw [show (s.taken op tag).nowCyc = s.dev.nowCyc from
    s.part_taken op tag (fun w => w.nowCyc) (fun _ _ _ _ _ => rfl) (fun w c i k => (Work.SameDevice.ev w c i k).nowCyc) (fun _ _ => rfl)]
  rfl

@[simp] theorem State.tick32_taken (s : State) (op tag : Nat) : (s.taken op tag).tick32 = s.work.tick32 := by
  unfold Work.tick32
  rw [State.tick_taken]
  rfl

@[simp] theorem State.scopeAdmitted_taken (s : State) (op tag scope : Nat) :
    (s.taken op tag).scopeAdmitted scope = s.work.scopeAdmitted scope := by
  unfold Work.scopeAdmitted
  rw [State.mode_taken]

@[simp] theorem State.sessState_taken (s : State) (op tag : Nat) : (s.taken op tag).sessState = s.work.sessState :=
  s.get_taken op tag F.SYS_CFG_SESS_STATE 0 0 (by decide)

/-! ### CFG_BEGIN (R64) -/

/-- The session that a CFG_BEGIN of the host opens. -/
def Work.begun (w : Work) (pl : List Byte) : Session :=
  { owner := .host, length := wordAt pl 0, scope := byteAt pl 4, channel := byteAt pl 5, stamp := if bitOf (byteAt pl 6) 0 then some (wordAt pl 8) else none,
    late := false, store := bitOf (byteAt pl 6) 1, staged := [], lastUs := w.nowUs, tableOk := false, plain := [], asked := false, quiesced := 0,
    undo := none, endBy := none }

/-- The working state with a session just opened. -/
def Work.opened (w : Work) (x : Session) : Work :=
  { w.setReg (R.SYS_CFG_SESS.addr 0 0) csReceiving with img := { w.img with sess := some x } }

theorem Work.host_opened (w : Work) (x : Session) : (w.opened x).host = w.host := rfl

theorem Work.wr_opened (w : Work) (x : Session) : (w.opened x).wr = w.wr := rfl

theorem Work.sess_opened (w : Work) (x : Session) : (w.opened x).img.sess = some x := rfl

theorem Work.word_opened (w : Work) (x : Session) : (w.opened x).reg (R.SYS_CFG_SESS.addr 0 0) = csReceiving := by
  change (w.setReg (R.SYS_CFG_SESS.addr 0 0) csReceiving).reg _ = _
  exact w.reg_setReg_same _ _

theorem Work.reg_opened (w : Work) (x : Session) (a : Nat) (h : a ≠ R.SYS_CFG_SESS.addr 0 0) : (w.opened x).reg a = w.reg a := by
  change (w.setReg (R.SYS_CFG_SESS.addr 0 0) csReceiving).reg a = _
  exact w.reg_setReg_ne _ a _ h

/-- The owner of no session renews nothing. -/
theorem Work.renewSess_none (w : Work) (o : Origin) (h : w.img.sess = none) : w.renewSess o = w := by
  have himg : { w.img with sess := none } = w.img := by rw [← h]
  unfold Work.renewSess Work.modSess
  simp only [h, Option.map_none, himg]

/-- A CFG_BEGIN in order opens its session (R64). -/
theorem cfgBeginOp_opens (w : Work) (pl : List Byte) (htest : w.mode ≠ mdTest) (hsess : w.img.sess = none) (hlen : pl.length = 12)
    (hscope : byteAt pl 4 ≤ 1) (hch : byteAt pl 4 = 1 → byteAt pl 5 ≤ 7) (hopts : byteAt pl 6 < 4) (hzero : byteAt pl 7 = 0)
    (hadmit : w.scopeAdmitted (byteAt pl 4) = true) (hstore : byteAt pl 4 = 1 → bitOf (byteAt pl 6) 1 = false)
    (hround : wordAt pl 0 % 16 = 0) (hmin : 224 ≤ wordAt pl 0) (hmax : wordAt pl 0 ≤ 1572864)
    (hstamp : bitOf (byteAt pl 6) 0 = true → (wordAt pl 8 + 2 ^ 32 - w.tick32) % 2 ^ 32 ≤ 4096 ∨ 2 ^ 31 ≤ (wordAt pl 8 + 2 ^ 32 - w.tick32) % 2 ^ 32) :
    cfgBeginOp w .host pl = (w.opened (w.begun pl), .done stOk []) := by
  have hform : ¬ (pl.length ≠ 12 ∨ 1 < byteAt pl 4 ∨ (byteAt pl 4 = 1 ∧ 7 < byteAt pl 5) ∨ 4 ≤ byteAt pl 6 ∨ byteAt pl 7 ≠ 0) := by omega
  have hargs : ¬ ((bitOf (byteAt pl 6) 1 = true ∧ byteAt pl 4 = 1) ∨ wordAt pl 0 % 16 ≠ 0 ∨ 1572864 < wordAt pl 0 ∨ wordAt pl 0 < 224 ∨
      (bitOf (byteAt pl 6) 0 = true ∧ 4097 ≤ (wordAt pl 8 + 2 ^ 32 - w.tick32) % 2 ^ 32 ∧ (wordAt pl 8 + 2 ^ 32 - w.tick32) % 2 ^ 32 ≤ 2 ^ 31 - 1)) := by
    rintro (⟨hbit, hone⟩ | h | h | h | ⟨hbit, h⟩)
    · rw [hstore hone] at hbit
      exact absurd hbit (by decide)
    · exact h hround
    · omega
    · omega
    · have := hstamp hbit
      omega
  unfold cfgBeginOp
  simp only [w.renewSess_none .host hsess]
  unfold byteAt wordAt at *
  simp only [if_neg htest, hsess, Option.isSome_none, if_neg hform, hadmit, if_neg hargs, Bool.not_true, Bool.false_eq_true, if_false]
  rfl

/-! ### CFG_DATA (R65) -/

/-- The owner of the session begins its 2 s anew (R66). -/
theorem Work.renewSess_owner (w : Work) (o : Origin) (x : Session) (h : w.img.sess = some x) (howner : x.owner = o) :
    w.renewSess o = { w with img := { w.img with sess := some { x with lastUs := w.nowUs } } } := by
  unfold Work.renewSess Work.modSess
  simp only [h, Option.map_some, if_pos howner]

/-- The working state with bytes staged in its session. -/
def Work.dataStaged (w : Work) (x : Session) (b : List Byte) (ok : Bool) : Work :=
  ({ w with img := { w.img with sess := some { x with staged := b, tableOk := ok, lastUs := w.nowUs } } } : Work).put F.SYS_CFG_SESS_NEXT_OFFSET b.length

theorem Work.host_dataStaged (w : Work) (x : Session) (b : List Byte) (ok : Bool) : (w.dataStaged x b ok).host = w.host := by
  unfold Work.dataStaged
  rw [Work.put_host]

theorem Work.wr_dataStaged (w : Work) (x : Session) (b : List Byte) (ok : Bool) : (w.dataStaged x b ok).wr = w.wr := by
  unfold Work.dataStaged
  rw [Work.put_wr]

theorem Work.sess_dataStaged (w : Work) (x : Session) (b : List Byte) (ok : Bool) :
    (w.dataStaged x b ok).img.sess = some { x with staged := b, tableOk := ok, lastUs := w.nowUs } := by
  unfold Work.dataStaged
  rw [Work.put_img]

theorem Work.reg_dataStaged (w : Work) (x : Session) (b : List Byte) (ok : Bool) (a : Nat) (h : a ≠ R.SYS_CFG_SESS.addr 0 0) :
    (w.dataStaged x b ok).reg a = w.reg a := Work.reg_put_ne _ F.SYS_CFG_SESS_NEXT_OFFSET b.length 0 0 a h

/-- A CFG_DATA that carries on where the session stands, and whose bytes pass what they complete, is staged (R60, R65). -/
theorem cfgDataOp_stages (w : Work) (pl : List Byte) (x : Session) (b : List Byte) (ok : Bool) (htest : w.mode ≠ mdTest)
    (hsess : w.img.sess = some x) (howner : x.owner = .host) (hstate : w.sessState = csReceiving)
    (hadmit : w.scopeAdmitted x.scope = true) (hlen : 8 ≤ pl.length) (hoff : wordAt pl 0 = x.staged.length)
    (hb : b = x.staged ++ pl.drop 4) (hroom : b.length ≤ x.length) (hmax : x.length ≤ 1572864)
    (hearly : (if x.tableOk then (0, true) else earlyCode (w.get F.SYS_ID_DIE_REV) (some x.length) b) = (0, ok))
    (hcrc : ok = true → ∀ e ∈ imgSecs b, e.off + e.len ≤ b.length → secCrcOk b e = true) :
    cfgDataOp w .host pl = (w.dataStaged x b ok, .done stOk (leBytes 4 b.length)) := by
  have hblen : b.length = x.staged.length + (pl.length - 4) := by rw [hb, List.length_append, List.length_drop]
  have hform : ¬ (pl.length < 8 ∨ x.staged.length < leAt pl 0 4 ∨ x.length < leAt pl 0 4 + (pl.length - 4)) := by
    unfold wordAt at hoff
    omega
  have hwho : ¬ (x.owner ≠ .host ∨ w.sessState ≠ csReceiving) := by simp [howner, hstate]
  have hgood : ((if ok then (imgSecs b).filter (fun s => decide (s.off + s.len ≤ b.length) && (!x.tableOk || decide (x.staged.length < s.off + s.len)))
      else []).find? (fun s => !secCrcOk b s)) = none := by
    refine List.find?_eq_none.mpr (fun e he => ?_)
    cases ok with
    | false => exact absurd he List.not_mem_nil
    | true =>
      obtain ⟨hmem, hin⟩ := List.mem_filter.mp he
      simp only [Bool.and_eq_true, decide_eq_true_eq] at hin
      rw [hcrc rfl e hmem hin.1]
      decide
  have hnext : (w.dataStaged x b ok).get F.SYS_CFG_SESS_NEXT_OFFSET = b.length := by
    unfold Work.dataStaged
    rw [Work.get_put_same _ _ _ _ _ (by decide)]
    exact Nat.mod_eq_of_lt (by change b.length < 2 ^ 21; omega)
  unfold cfgDataOp
  simp only [w.renewSess_owner .host x hsess howner]
  have hmode : ∀ y : Option Session, Work.mode { w with img := { w.img with sess := y } } = w.mode := fun _ => rfl
  have hst : ∀ y : Option Session, Work.sessState { w with img := { w.img with sess := y } } = w.sessState := fun _ => rfl
  have hadm : ∀ (y : Option Session) (k : Nat), Work.scopeAdmitted { w with img := { w.img with sess := y } } k = w.scopeAdmitted k := fun _ _ => rfl
  have hget : ∀ (y : Option Session), Work.get { w with img := { w.img with sess := y } } F.SYS_ID_DIE_REV = w.get F.SYS_ID_DIE_REV := fun _ => rfl
  unfold wordAt at hoff
  simp only [hmode, if_neg htest, hst, if_neg hwho, hadm, hadmit, List.length_drop, if_neg hform, if_pos hoff, Work.stageMore, hget, ← hb,
    hearly, hgood, Work.dataReply, Work.reply, Bool.not_true, Bool.false_eq_true, if_false, ne_eq, not_true_eq_false]
  rw [← hnext]
  rfl

/-! ### CFG_END (R67) -/

/-- The key store of an image replaced leaves the session and the host port alone. -/
theorem Work.storeKeys_same (w : Work) (b : List Byte) : (w.storeKeys b).1.img = w.img ∧ (w.storeKeys b).1.host = w.host := by
  unfold Work.storeKeys
  split
  · exact ⟨rfl, rfl⟩
  · split
    · exact ⟨rfl, rfl⟩
    · split <;> exact ⟨rfl, rfl⟩

/-- So do all the checks of an image. -/
theorem Work.checkImage_same (w : Work) (declared scope : Option Nat) (b : List Byte) :
    (w.checkImage declared scope b).1.img = w.img ∧ (w.checkImage declared scope b).1.host = w.host := by
  have hkeys := w.storeKeys_same b
  unfold Work.checkImage
  generalize w.storeKeys b = q at hkeys ⊢
  obtain ⟨v, c⟩ := q
  dsimp only at hkeys ⊢
  split
  · exact ⟨rfl, rfl⟩
  · split
    · exact hkeys
    · split
      · exact hkeys
      · split <;> exact hkeys

/-- A CFG_END that the session admits checks the image, and waits or refuses (R67). -/
theorem cfgEndOp_checks (w : Work) (x : Session) (code : Nat) (plain : List (Nat × List Byte)) (v : Work) (htest : w.mode ≠ mdTest)
    (hsess : w.img.sess = some x) (howner : x.owner = .host) (hstate : w.sessState = csReceiving)
    (hadmit : w.scopeAdmitted x.scope = true)
    (hcheck : (w.modSess (fun x => { x with lastUs := w.nowUs })).checkImage (some x.length) (if x.scope = 1 then some x.channel else none) x.staged =
      (v, code, plain)) :
    (code ≠ 0 → cfgEndOp w .host [] = (v.refuse code, .done (refusalStatus code) [])) ∧
      (code = 0 → ∃ f : Session → Session, (∀ y, (f y).plain = plain ∧ (f y).endBy = some .host) ∧
        cfgEndOp w .host [] = ((v.modSess f).put F.SYS_CFG_SESS_STATE csPending, .waits)) := by
  have hrenew : w.modSess (fun x => { x with lastUs := w.nowUs }) = { w with img := { w.img with sess := some { x with lastUs := w.nowUs } } } := by
    unfold Work.modSess
    rw [hsess, Option.map_some]
  have hwho : ¬ (x.owner ≠ .host ∨ w.sessState ≠ csReceiving) := by simp [howner, hstate]
  have hmode : ∀ y : Option Session, Work.mode { w with img := { w.img with sess := y } } = w.mode := fun _ => rfl
  have hst : ∀ y : Option Session, Work.sessState { w with img := { w.img with sess := y } } = w.sessState := fun _ => rfl
  have hadm : ∀ (y : Option Session) (k : Nat), Work.scopeAdmitted { w with img := { w.img with sess := y } } k = w.scopeAdmitted k := fun _ _ => rfl
  rw [hrenew] at hcheck
  obtain ⟨op, hop⟩ : ∃ f, f = cfgEndOp := ⟨_, rfl⟩
  rw [← hop]
  delta cfgEndOp at hop
  subst hop
  obtain ⟨check, hopaque⟩ : ∃ f, f = Work.checkImage := ⟨_, rfl⟩
  rw [← hopaque] at hcheck ⊢
  simp only [w.renewSess_owner .host x hsess howner, hmode, if_neg htest, hst, if_neg hwho, hadm, hadmit, List.isEmpty_nil, hcheck,
    Work.reply, Bool.not_true, Bool.false_eq_true, if_false]
  refine ⟨fun hcode => by rw [if_pos hcode], fun hcode => ?_⟩
  rw [if_neg (not_not.mpr hcode)]
  exact ⟨_, fun y => ⟨rfl, rfl⟩, rfl⟩

/-- A refusal records its code and ends the session (R61). -/
theorem Work.refuse_same (w : Work) (code : Nat) :
    (w.refuse code).host.port = w.host.port ∧ (w.refuse code).img.sess = none ∧ (w.refuse code).get F.SYS_IMG_STAT_LAST_ERR = code % 256 := by
  have hrecord : (w.recordRefusal code).host.port = w.host.port ∧ (w.recordRefusal code).get F.SYS_IMG_STAT_LAST_ERR = code % 256 := by
    unfold Work.recordRefusal Work.fresh
    simp only [Work.entryNow_eq]
    refine ⟨congrArg HostP.port (Work.SameDevice.raiseEntry _ _ _).host, ?_⟩
    rw [Work.get_raiseEntry_devRing _ _ _ (by decide), Work.get_put_same _ _ _ _ _ (by decide)]
    rfl
  have hend := Work.KeepsRecord.endSession (w.recordRefusal code)
  have hmode : ∀ v : Work, (v.setMode mdRecovery 0).host = v.host ∧ (v.setMode mdRecovery 0).img = v.img ∧
      (v.setMode mdRecovery 0).get F.SYS_IMG_STAT_LAST_ERR = v.get F.SYS_IMG_STAT_LAST_ERR := by
    intro v
    unfold Work.setMode
    simp (disch := decide) only [Work.countWrap_eq, Work.get_put_apart, Work.put_host, Work.put_img, and_self]
  unfold Work.refuse
  refine iteInduction (motive := fun v : Work => v.host.port = w.host.port ∧ v.img.sess = none ∧ v.get F.SYS_IMG_STAT_LAST_ERR = code % 256)
    (fun _ => ?_) (fun _ => ⟨hend.port.trans hrecord.1, Work.sess_endSession _, hend.err.trans hrecord.2⟩)
  obtain ⟨hhost, himg, hget⟩ := hmode (w.recordRefusal code).endSession
  exact ⟨(congrArg HostP.port hhost).trans (hend.port.trans hrecord.1), (congrArg Img.sess himg).trans (Work.sess_endSession _),
    hget.trans (hend.err.trans hrecord.2)⟩

end Sys2Proof.Machine
end

section
/-! PROOF. ABORT, and the obligation on load sessions (R60 to R68, R305, R306). -/

namespace Sys2Proof.Machine

/-! ### ABORT (R68, R305, R306) -/

theorem Work.host_setPort (w : Work) (p : Port) : (w.setPort .host p).host.port = p := rfl

theorem State.get_of_reg (t : State) (f : Fld) (v : Nat) (h : t.reg (f.addr 0 0) = v) : t.get f = bitsOf v f.hi f.lo := by
  subst h
  rfl

/-- What an ABORT from the host starts with: its frame counted. -/
def State.heard (s : State) : Work := ((s.work.countUp F.HOST_CNT_FRAMES).ev 0x60).put F.HOST_STAT_LAST_OP opAbort

theorem State.sameDevice_heard (s : State) : s.work.SameDevice s.heard := by
  unfold State.heard
  rw [Work.countUp_eq]
  exact ((Work.SameDevice.put ..).trans (Work.SameDevice.ev ..)).trans (Work.SameDevice.put ..)

theorem State.reg_heard (s : State) (a : Nat) (h : a ∉ hostRegs) : s.heard.reg a = s.reg a := by
  unfold State.heard
  rw [Work.reg_put_of_notMem _ _ _ _ _ _ _ h (by decide), Work.reg_ev, Work.countUp_eq, Work.reg_put_of_notMem _ _ _ _ _ _ _ h (by decide),
    State.work_reg]

theorem State.wr_heard (s : State) : s.heard.wr = [] := by
  unfold State.heard
  rw [Work.put_wr, Work.ev_wr, Work.countUp_eq, Work.put_wr, State.work_wr]

theorem State.host_heard (s : State) : s.heard.host = s.dev.host := s.sameDevice_heard.host

/-- A port that is awake takes an ABORT whether or not a command is in flight (R298, R305). -/
theorem State.command_abort (s : State) (tag : Nat) (atCommit : Bool) (hdeaf : s.work.g3Deaf = false) (hawake : s.work.pwrState = 0)
    (hasleep : s.dev.host.port.flight.isSome = true → s.work.asleep = false) :
    s.work.command .host opAbort tag [] atCommit = s.heard.abortFrom .host tag atCommit := by
  have hslept : ¬ (s.work.host.port.flight.isSome = true ∧ opAbort = opAbort ∧ s.work.asleep = true) := by
    rintro ⟨hbusy, -, hsleep⟩
    rw [hasleep hbusy] at hsleep
    exact absurd hsleep (by decide)
  change s.work.hostFrame opAbort tag [] atCommit = _
  unfold Work.hostFrame
  rw [if_neg hslept, hdeaf, hawake, if_neg (by decide : ¬ false = true), if_neg (by decide : ¬ 0 = 1), if_neg (fun h => h.2 rfl),
    if_neg (by decide : ¬ (!g3Ops.contains opAbort) = true)]
  rfl

/-- An answer to the host after an operation that left the host port alone. -/
theorem State.answers_of_complete (s : State) (f : Work → Work) (v : Work) (op tag st : Nat) (pl : List Byte) (l : List Nat)
    (hend : f s.work = v.complete .host op tag st pl) (hport : v.host.port.rseq = s.dev.host.port.rseq)
    (hreg : ∀ a, a ∉ l ++ hostRegs → v.reg a = s.reg a) (hwr : v.wr = []) :
    s.hostAnswered (s.run f) op tag st pl ∧ s.sameRegs (s.run f) (l ++ hostRegs) ∧ (s.run f).mem = s.mem := by
  refine ⟨?_, fun a ha => ?_, ?_⟩
  · change (f s.work).host.port = _
    rw [hend, Work.host_complete, hport]
  · rw [State.run_reg, hend, Work.reg_complete_host _ _ _ _ _ _ _ _ (fun h => ha (List.mem_append_right l h)), hreg a ha]
  · rw [State.run_mem, hend, Work.wr_complete_host, hwr, commitMem_nil]

/-- A session that replaced nothing and asked no channel to quiesce is forgotten. -/
theorem Work.endSession_of (w : Work) (x : Session) (hsess : w.img.sess = some x) (hundo : x.undo = none) (hasked : x.asked = false) :
    w.endSession = w.idleSess := by
  unfold Work.endSession
  simp only [hsess, hundo, hasked, Bool.false_eq_true, if_false]

theorem Work.reg_idleSess (w : Work) (a : Nat) (h : a ≠ R.SYS_CFG_SESS.addr 0 0) : w.idleSess.reg a = w.reg a := w.reg_setReg_ne _ a 0 h

theorem Work.word_idleSess (w : Work) : w.idleSess.reg (R.SYS_CFG_SESS.addr 0 0) = 0 := by
  change (w.setReg (R.SYS_CFG_SESS.addr 0 0) 0).reg _ = 0
  exact w.reg_setReg_same _ _

theorem Work.state_idleSess (w : Work) : w.idleSess.get F.SYS_CFG_SESS_STATE = 0 := by
  unfold Work.get
  exact congrArg (fun x => bitsOf x 1 0) w.word_idleSess

/-- A MODE that quiesced no channel is dropped. -/
theorem Work.dropMode_of (w : Work) (r : ModeReq) (hreq : w.modeReq = some r) (hquiesce : r.quiesce = 0) :
    w.dropMode = ({ w with modeReq := none } : Work).put F.SYS_MODE_PENDING 0 := by
  have hnone : maskList 0 8 = [] := by decide
  unfold Work.dropMode
  simp only [hreq, hquiesce, hnone, List.foldl_nil, Work.putFlag_eq]
  rfl

/-! ### The obligation -/

theorem Work.host_modSess (w : Work) (f : Session → Session) : (w.modSess f).host = w.host := rfl

theorem Work.sess_modSess (w : Work) (f : Session → Session) : (w.modSess f).img.sess = w.img.sess.map f := rfl

theorem Work.perform_cfgBegin (w : Work) (pl : List Byte) : w.perform .host 0x40 pl = cfgBeginOp w .host pl := rfl

theorem Work.perform_cfgData (w : Work) (pl : List Byte) : w.perform .host 0x41 pl = cfgDataOp w .host pl := rfl

theorem Work.perform_cfgEnd (w : Work) (pl : List Byte) : w.perform .host 0x42 pl = cfgEndOp w .host pl := rfl

theorem imageSessions_begin (s : State) (tag : Nat) (pl : List Byte) (hready : s.hostReady = true) (htest : s.work.mode ≠ mdTest)
    (hsess : s.dev.img.sess = none) (hlen : pl.length = 12) (hscope : byteAt pl 4 ≤ 1) (hch : byteAt pl 4 = 1 → byteAt pl 5 ≤ 7)
    (hopts : byteAt pl 6 < 4) (hzero : byteAt pl 7 = 0) (hadmit : s.work.scopeAdmitted (byteAt pl 4) = true)
    (hstore : byteAt pl 4 = 1 → bitOf (byteAt pl 6) 1 = false) (hround : wordAt pl 0 % 16 = 0) (hmin : 224 ≤ wordAt pl 0)
    (hmax : wordAt pl 0 ≤ 1572864)
    (hstamp : bitOf (byteAt pl 6) 0 = true → (wordAt pl 8 + 2 ^ 32 - s.work.tick32) % 2 ^ 32 ≤ 4096 ∨ 2 ^ 31 ≤ (wordAt pl 8 + 2 ^ 32 - s.work.tick32) % 2 ^ 32)
    (t : State) (ht : t = s.run (fun w => w.command .host 0x40 tag pl)) :
    t.dev.img.sess = some (s.work.begun pl) ∧ t.get F.SYS_CFG_SESS_STATE = csReceiving ∧ t.get F.SYS_CFG_SESS_OWNER = 0 ∧
      t.get F.SYS_CFG_SESS_NEXT_OFFSET = 0 ∧ s.hostAnswered t 0x40 tag stOk [] ∧
      s.sameRegs t (R.SYS_CFG_SESS.addr 0 0 :: hostRegs) ∧ t.mem = s.mem := by
  subst ht
  have hperform : (s.taken 0x40 tag).perform .host 0x40 pl = _ := (Work.perform_cfgBegin _ _).trans <| cfgBeginOp_opens (s.taken 0x40 tag) pl (by rwa [State.mode_taken])
    (by rwa [State.img_taken]) hlen hscope hch hopts hzero (by rwa [State.scopeAdmitted_taken]) hstore hround hmin hmax
    (by rwa [State.tick32_taken])
  obtain ⟨hend, hanswer⟩ := s.command_answers 0x40 tag stOk pl [] _ hready (by decide) (by decide) hperform ((s.taken 0x40 tag).host_opened _)
  have hword : (s.run (fun w => w.command .host 0x40 tag pl)).reg (R.SYS_CFG_SESS.addr 0 0) = csReceiving := by
    rw [State.run_reg, hend, Work.reg_complete_host _ _ _ _ _ _ _ _ (by decide)]
    exact (s.taken 0x40 tag).word_opened _
  refine ⟨?_, ?_, ?_, ?_, hanswer, s.frame_of_answers 0x40 tag stOk pl [] _ [R.SYS_CFG_SESS.addr 0 0] hend (fun a ha => ?_) ?_⟩
  · rw [State.run_dev, hend]
    refine (Work.part_complete_host _ _ _ _ _ (fun w => w.img.sess) (fun _ _ _ _ _ => rfl) (fun _ _ => rfl)).trans ?_
    rw [Work.sess_opened]
    unfold Work.begun
    rw [State.nowUs_taken]
  · exact State.get_of_reg _ F.SYS_CFG_SESS_STATE csReceiving hword
  · exact State.get_of_reg _ F.SYS_CFG_SESS_OWNER csReceiving hword
  · exact State.get_of_reg _ F.SYS_CFG_SESS_NEXT_OFFSET csReceiving hword
  · exact (s.taken 0x40 tag).reg_opened _ a (fun e => ha (e ▸ List.mem_cons_self))
  · rw [Work.wr_opened, State.wr_taken]

theorem imageSessions_data (s : State) (tag : Nat) (pl : List Byte) (x : Session) (b : List Byte) (ok : Bool) (hready : s.hostReady = true)
    (htest : s.work.mode ≠ mdTest) (hsess : s.dev.img.sess = some x) (howner : x.owner = .host) (hstate : s.work.sessState = csReceiving)
    (hadmit : s.work.scopeAdmitted x.scope = true) (hlen : 8 ≤ pl.length) (hoff : wordAt pl 0 = x.staged.length)
    (hb : b = x.staged ++ pl.drop 4) (hroom : b.length ≤ x.length) (hmax : x.length ≤ 1572864)
    (hearly : (if x.tableOk then (0, true) else earlyCode (s.get F.SYS_ID_DIE_REV) (some x.length) b) = (0, ok))
    (hcrc : ok = true → ∀ e ∈ imgSecs b, e.off + e.len ≤ b.length → secCrcOk b e = true)
    (t : State) (ht : t = s.run (fun w => w.command .host 0x41 tag pl)) :
    t.dev.img.sess = some { x with staged := b, tableOk := ok, lastUs := s.work.nowUs } ∧ t.get F.SYS_CFG_SESS_NEXT_OFFSET = b.length ∧
      s.hostAnswered t 0x41 tag stOk (leBytes 4 b.length) ∧ s.sameRegs t (R.SYS_CFG_SESS.addr 0 0 :: hostRegs) ∧ t.mem = s.mem := by
  subst ht
  have hperform : (s.taken 0x41 tag).perform .host 0x41 pl = _ := (Work.perform_cfgData _ _).trans <| cfgDataOp_stages (s.taken 0x41 tag) pl x b ok (by rwa [State.mode_taken])
    (by rwa [State.img_taken]) howner (by rwa [State.sessState_taken]) (by rwa [State.scopeAdmitted_taken]) hlen hoff hb hroom hmax
    (by rw [s.get_taken 0x41 tag F.SYS_ID_DIE_REV 0 0 (by decide)]; exact hearly) hcrc
  obtain ⟨hend, hanswer⟩ := s.command_answers 0x41 tag stOk pl _ _ hready (by decide) (by decide) hperform ((s.taken 0x41 tag).host_dataStaged x b ok)
  refine ⟨?_, ?_, hanswer, s.frame_of_answers 0x41 tag stOk pl _ _ [R.SYS_CFG_SESS.addr 0 0] hend (fun a ha => ?_) ?_⟩
  · rw [State.run_dev, hend]
    refine (Work.part_complete_host _ _ _ _ _ (fun w => w.img.sess) (fun _ _ _ _ _ => rfl) (fun _ _ => rfl)).trans ?_
    rw [Work.sess_dataStaged, State.nowUs_taken]
  · have hreg : (s.run (fun w => w.command .host 0x41 tag pl)).reg (R.SYS_CFG_SESS.addr 0 0) =
        ((s.taken 0x41 tag).dataStaged x b ok).reg (R.SYS_CFG_SESS.addr 0 0) := by
      rw [State.run_reg, hend, Work.reg_complete_host _ _ _ _ _ _ _ _ (by decide)]
    refine (State.get_of_reg _ F.SYS_CFG_SESS_NEXT_OFFSET _ hreg).trans ?_
    refine (Work.get_put_same _ F.SYS_CFG_SESS_NEXT_OFFSET b.length 0 0 (by decide)).trans ?_
    exact Nat.mod_eq_of_lt (by change b.length < 2 ^ 21; omega)
  · exact (s.taken 0x41 tag).reg_dataStaged x b ok a (fun e => ha (e ▸ List.mem_cons_self))
  · rw [Work.wr_dataStaged, State.wr_taken]

theorem imageSessions_end (s : State) (tag : Nat) (x : Session) (code : Nat) (plain : List (Nat × List Byte)) (hready : s.hostReady = true)
    (htest : s.work.mode ≠ mdTest) (hsess : s.dev.img.sess = some x) (howner : x.owner = .host) (hstate : s.work.sessState = csReceiving)
    (hadmit : s.work.scopeAdmitted x.scope = true)
    (hcheck : (((s.taken 0x42 tag).modSess (fun x => { x with lastUs := s.work.nowUs })).checkImage (some x.length)
      (if x.scope = 1 then some x.channel else none) x.staged).2 = (code, plain))
    (t : State) (ht : t = s.run (fun w => w.command .host 0x42 tag [])) :
    (code = 0 → t.get F.SYS_CFG_SESS_STATE = csPending ∧ t.hostFlight 0x42 tag ∧ t.dev.img.sess.map (·.plain) = some plain ∧
      t.dev.img.sess.map (·.endBy) = some (some .host)) ∧
    (code ≠ 0 → t.dev.img.sess = none ∧ t.get F.SYS_IMG_STAT_LAST_ERR = code % 256 ∧ t.dev.host.port.resp.status = refusalStatus code ∧
      t.dev.host.port.flight = none) := by
  subst ht
  obtain ⟨himg, hhost⟩ := ((s.taken 0x42 tag).modSess (fun x => { x with lastUs := s.work.nowUs })).checkImage_same (some x.length)
    (if x.scope = 1 then some x.channel else none) x.staged
  generalize hv : (((s.taken 0x42 tag).modSess (fun x => { x with lastUs := s.work.nowUs })).checkImage (some x.length)
    (if x.scope = 1 then some x.channel else none) x.staged).1 = v at himg hhost
  obtain ⟨hrefused, hwaits⟩ := cfgEndOp_checks (s.taken 0x42 tag) x code plain v (by rwa [State.mode_taken]) (by rwa [State.img_taken]) howner
    (by rwa [State.sessState_taken]) (by rwa [State.scopeAdmitted_taken]) (by
      rw [State.nowUs_taken]
      exact Prod.ext hv hcheck)
  have hsess' : v.img.sess = some { x with lastUs := s.work.nowUs } := by
    rw [himg, Work.sess_modSess, State.img_taken, hsess, Option.map_some]
  have hflight : v.host.port.flight = some ⟨0x42, tag, false⟩ := by
    rw [hhost, Work.host_modSess, State.hostPort_taken]
  refine ⟨fun hcode => ?_, fun hcode => ?_⟩
  · obtain ⟨f, hf, hend⟩ := hwaits hcode
    have hrun := s.command_host_waits 0x42 tag [] _ hready (by decide) (by decide) ((Work.perform_cfgEnd _ _).trans hend)
    refine ⟨?_, ?_, ?_, ?_⟩
    · change (s.work.command .host 0x42 tag []).get F.SYS_CFG_SESS_STATE = _
      rw [hrun, Work.get_put_same _ _ _ _ _ (by decide)]
      rfl
    · rw [State.hostFlight, State.run_dev, hrun]
      exact hflight
    · rw [State.run_dev, hrun]
      change (v.img.sess.map f).map (·.plain) = _
      rw [hsess', Option.map_some, Option.map_some, (hf _).1]
    · rw [State.run_dev, hrun]
      change (v.img.sess.map f).map (·.endBy) = _
      rw [hsess', Option.map_some, Option.map_some, (hf _).2]
  · obtain ⟨hport, hnone, herr⟩ := v.refuse_same code
    have hend : s.work.command .host 0x42 tag [] = (v.refuse code).complete .host 0x42 tag (refusalStatus code) [] := by
      rw [s.command_host_done 0x42 tag _ [] [] _ hready (by decide) (by decide) ((Work.perform_cfgEnd _ _).trans (hrefused hcode))]
      exact Work.finish_host _ _ _ _ _ ⟨0x42, tag, false⟩ (by rw [hport, hflight])
    have hanswered := (v.refuse code).host_complete 0x42 tag (refusalStatus code) [] false false
    rw [← hend] at hanswered
    refine ⟨?_, ?_, congrArg (fun p : Port => p.resp.status) hanswered, congrArg Port.flight hanswered⟩
    · rw [State.run_dev, hend]
      exact (Work.part_complete_host _ _ _ _ _ (fun w => w.img.sess) (fun _ _ _ _ _ => rfl) (fun _ _ => rfl)).trans hnone
    · have hreg : (s.run (fun w => w.command .host 0x42 tag [])).reg 0x40000080 = (v.refuse code).reg 0x40000080 := by
        rw [State.run_reg, hend, Work.reg_complete_host _ _ _ _ _ _ _ _ (by decide)]
      exact (State.get_of_reg _ F.SYS_IMG_STAT_LAST_ERR _ hreg).trans herr

theorem imageSessions_timeout (s : State) (x : Session) (hsess : s.dev.img.sess = some x) (hundo : x.undo = none) (hasked : x.asked = false)
    (hstate : s.work.sessState = csReceiving) (hlate : x.lastUs + 2000000 ≤ s.work.nowUs) (t : State) (ht : t = s.run cfgSessionTimeout) :
    t.dev.img.sess = none ∧ t.get F.SYS_CFG_SESS_STATE = 0 ∧ s.sameRegs t (R.SYS_CFG_SESS.addr 0 0 :: ringRegs devRing) ∧
      s.sameMemButNext t devRing := by
  subst ht
  have hend : cfgSessionTimeout s.work = (s.work.idleSess).entryOpen 0x80 := by
    unfold cfgSessionTimeout
    simp only [show s.work.img.sess = some x from hsess, hstate, hlate, and_self, if_true]
    rw [s.work.endSession_of x hsess hundo hasked]
  have hopen : ∃ (n : Nat) (e : Entry), (s.work.idleSess).entryOpen 0x80 = ({ s.work.idleSess with free := n } : Work).raiseEntry devRing e :=
    ⟨_, _, rfl⟩
  obtain ⟨n, e, hraise⟩ := hopen
  rw [hraise] at hend
  refine ⟨?_, ?_, fun a ha => ?_, ?_⟩
  · rw [State.run_dev, hend]
    exact congrArg Img.sess (Work.SameDevice.raiseEntry _ _ _).img
  · change (cfgSessionTimeout s.work).get F.SYS_CFG_SESS_STATE = 0
    rw [hend, Work.get_raiseEntry_devRing _ _ _ (by decide)]
    exact s.work.state_idleSess
  · rw [List.mem_cons, not_or] at ha
    obtain ⟨hreg, hring⟩ := ha
    rw [State.run_reg, hend, Work.reg_raiseEntry _ _ _ _ hring]
    exact s.work.reg_idleSess a hreg
  · exact s.sameMemButNext_of_raise cfgSessionTimeout { s.work.idleSess with free := n } devRing e (by rw [hend]) rfl rfl rfl

theorem imageSessions_abortSession (s : State) (tag : Nat) (x : Session) (hready : s.hostReady = true) (hsess : s.dev.img.sess = some x)
    (howner : x.owner = .host) (hundo : x.undo = none) (hasked : x.asked = false)
    (t : State) (ht : t = s.run (fun w => w.command .host opAbort tag [] false)) :
    t.dev.img.sess = none ∧ t.get F.SYS_CFG_SESS_STATE = 0 ∧ s.hostAnswered t 0x50 tag stOk [] ∧
      s.sameRegs t (R.SYS_CFG_SESS.addr 0 0 :: hostRegs) ∧ t.mem = s.mem := by
  subst ht
  obtain ⟨hdeaf, hawake, hfree⟩ := s.hostReady_iff.mp hready
  have hsess' : s.heard.img.sess = some x := (congrArg Img.sess s.sameDevice_heard.img).trans hsess
  have hport : (s.heard.port .host).flight = none := (congrArg (fun h : HostP => h.port.flight) s.host_heard).trans hfree
  have hend : s.work.command .host opAbort tag [] false = s.heard.idleSess.complete .host opAbort tag stOk := by
    rw [s.command_abort tag false hdeaf hawake (by rw [hfree]; exact fun h => absurd h (by decide))]
    unfold Work.abortFrom
    simp only [hport, Bool.false_and, Bool.false_eq_true, if_false, hsess', if_pos howner]
    rw [s.heard.endSession_of x hsess' hundo hasked]
  have hanswer := s.answers_of_complete (fun w => w.command .host opAbort tag [] false) s.heard.idleSess opAbort tag stOk [] [R.SYS_CFG_SESS.addr 0 0] hend
    (congrArg (fun h : HostP => h.port.rseq) s.host_heard)
    (fun a ha => (s.heard.reg_idleSess a (fun e => ha (e ▸ List.mem_cons_self))).trans (s.reg_heard a (fun h => ha (List.mem_append_right _ h))))
    s.wr_heard
  refine ⟨?_, ?_, hanswer⟩
  · rw [State.run_dev, hend]
    exact Work.part_complete_host _ _ _ _ _ (fun w => w.img.sess) (fun _ _ _ _ _ => rfl) (fun _ _ => rfl)
  · have hreg : (s.run (fun w => w.command .host opAbort tag [] false)).reg (R.SYS_CFG_SESS.addr 0 0) = 0 := by
      rw [State.run_reg, hend, Work.reg_complete_host _ _ _ _ _ _ _ _ (by decide)]
      exact s.heard.word_idleSess
    exact State.get_of_reg _ F.SYS_CFG_SESS_STATE 0 hreg

theorem imageSessions_abortMode (s : State) (tag ftag : Nat) (r : ModeReq) (hdeaf : s.work.g3Deaf = false) (hasleep : s.work.asleep = false)
    (hawake : s.work.pwrState = 0) (hflight : s.hostFlight opMode ftag) (hreq : s.dev.modeReq = some r) (hquiesce : r.quiesce = 0)
    (t : State) (ht : t = s.run (fun w => w.command .host opAbort tag [] false)) :
    t.dev.modeReq = none ∧ t.flag F.SYS_MODE_PENDING = false ∧ s.hostAnswered t opMode ftag stAborted [] ∧
      s.sameRegs t (R.SYS_MODE.addr 0 0 :: hostRegs) ∧ t.mem = s.mem := by
  subst ht
  have hport : (s.heard.port .host).flight = some ⟨opMode, ftag, false⟩ :=
    (congrArg (fun h : HostP => h.port.flight) s.host_heard).trans hflight
  have hend : s.work.command .host opAbort tag [] false =
      (({ s.heard with modeReq := none } : Work).put F.SYS_MODE_PENDING 0).complete .host opMode ftag stAborted := by
    rw [s.command_abort tag false hdeaf hawake (fun _ => hasleep)]
    have hlive : ¬ (false = true ∨ (!s.heard.uncommitted opMode) = true) := by simp [Work.uncommitted]
    unfold Work.abortFrom
    simp only [hport, if_neg hlive, if_neg (show opMode ≠ opCfgEnd by decide), if_true]
    rw [s.heard.dropMode_of r (s.sameDevice_heard.modeReq.trans hreq) hquiesce]
    exact Work.finish_host _ _ _ _ _ ⟨opMode, ftag, false⟩ hport
  have hanswer := s.answers_of_complete (fun w => w.command .host opAbort tag [] false) (({ s.heard with modeReq := none } : Work).put F.SYS_MODE_PENDING 0) opMode ftag stAborted [] [R.SYS_MODE.addr 0 0] hend
    (congrArg (fun h : HostP => h.port.rseq) s.host_heard)
    (fun a ha => (Work.reg_put_ne ({ s.heard with modeReq := none } : Work) F.SYS_MODE_PENDING 0 0 0 a (fun e => ha (e ▸ List.mem_cons_self))).trans
      (s.reg_heard a (fun h => ha (List.mem_append_right _ h))))
    s.wr_heard
  refine ⟨?_, ?_, hanswer⟩
  · rw [State.run_dev, hend]
    exact Work.part_complete_host _ _ _ _ _ (fun w => w.modeReq) (fun _ _ _ _ _ => rfl) (fun _ _ => rfl)
  · have hreg : (s.run (fun w => w.command .host opAbort tag [] false)).reg (R.SYS_MODE.addr 0 0) =
        (({ s.heard with modeReq := none } : Work).put F.SYS_MODE_PENDING 0).reg (R.SYS_MODE.addr 0 0) := by
      rw [State.run_reg, hend, Work.reg_complete_host _ _ _ _ _ _ _ _ (by decide)]
    refine Eq.trans ?_ (Work.flag_put_same ({ s.heard with modeReq := none } : Work) F.SYS_MODE_PENDING 0 0 0 rfl)
    unfold Work.flag Work.get
    exact congrArg (fun y => bitsOf y F.SYS_MODE_PENDING.hi F.SYS_MODE_PENDING.lo == 1) hreg

/-- An ABORT at the commit point marks the command in flight (R305). -/
theorem imageSessions_abortLate (s : State) (tag : Nat) (f : Flight) (hdeaf : s.work.g3Deaf = false) (hawake : s.work.pwrState = 0)
    (hflight : s.dev.host.port.flight = some f) (t : State) (ht : t = s.run (fun w => w.command .host opAbort tag [] true)) :
    t.dev.host.port = { s.dev.host.port with flight := some { f with late := true } } ∧ s.sameRegs t hostRegs ∧ t.mem = s.mem := by
  subst ht
  have hlate : ∀ w : Work, w.host.port.flight = some f →
      w.tooLate .host = (w.setPort .host { w.host.port with flight := some { f with late := true } }).showHost := by
    intro w hw
    unfold Work.tooLate
    rw [show (w.port .host).flight = some f from hw]
    exact Work.setFlight_host _ _
  have hframe : ∀ w : Work, w.host = s.dev.host → (∀ a, a ∉ hostRegs → w.reg a = s.reg a) → w.wr = [] →
      s.work.command .host opAbort tag [] true = w.tooLate .host →
      (s.run (fun w => w.command .host opAbort tag [] true)).dev.host.port = { s.dev.host.port with flight := some { f with late := true } } ∧
        s.sameRegs (s.run (fun w => w.command .host opAbort tag [] true)) hostRegs ∧
        (s.run (fun w => w.command .host opAbort tag [] true)).mem = s.mem := by
    intro w hhost hreg hwr hrun
    rw [hlate w (by rw [hhost, hflight])] at hrun
    refine ⟨?_, fun a ha => ?_, ?_⟩
    · rw [State.run_dev, hrun]
      refine (congrArg HostP.port (Work.host_showHost _)).trans ?_
      rw [Work.host_setPort]
      exact congrArg (fun h : HostP => { h.port with flight := some { f with late := true } }) hhost
    · rw [State.run_reg, hrun, Work.reg_showHost _ a ha, Work.reg_setPort_host, hreg a ha]
    · rw [State.run_mem, hrun, Work.wr_showHost, Work.wr_setPort_host, hwr, commitMem_nil]
  by_cases hasleep : s.work.asleep = true
  · have hhears : s.work.hostDeaf = false := by
      unfold Work.g3Deaf at hdeaf
      simp only [Bool.or_eq_false_iff] at hdeaf
      exact hdeaf.1.1
    refine hframe s.work rfl (fun _ _ => rfl) rfl ?_
    change s.work.hostFrame opAbort tag [] true = _
    unfold Work.hostFrame
    simp only [show s.work.host.port.flight = some f from hflight, hasleep, hhears, Option.isSome_some, and_self, if_true,
      Bool.false_eq_true, if_false]
  · refine hframe s.heard s.host_heard (fun a ha => s.reg_heard a ha) s.wr_heard ?_
    rw [s.command_abort tag true hdeaf hawake (fun _ => by simpa using hasleep)]
    unfold Work.abortFrom
    rw [show (s.heard.port .host).flight = some f from (congrArg (fun h : HostP => h.port.flight) s.host_heard).trans hflight]
    exact if_pos (Or.inl rfl)

theorem imageSessions_abortNothing (s : State) (tag : Nat) (hready : s.hostReady = true) (hsess : s.dev.img.sess = none)
    (t : State) (ht : t = s.run (fun w => w.command .host opAbort tag [] false)) :
    s.hostAnswered t 0x50 tag stState [] ∧ s.sameRegs t hostRegs ∧ t.mem = s.mem := by
  subst ht
  obtain ⟨hdeaf, hawake, hfree⟩ := s.hostReady_iff.mp hready
  have hport : (s.heard.port .host).flight = none := (congrArg (fun h : HostP => h.port.flight) s.host_heard).trans hfree
  have hsess' : s.heard.img.sess = none := (congrArg Img.sess s.sameDevice_heard.img).trans hsess
  have hend : s.work.command .host opAbort tag [] false = s.heard.complete .host opAbort tag stState := by
    rw [s.command_abort tag false hdeaf hawake (by rw [hfree]; exact fun h => absurd h (by decide))]
    unfold Work.abortFrom
    simp only [hport, Bool.false_and, Bool.false_eq_true, if_false, hsess']
  exact s.answers_of_complete (fun w => w.command .host opAbort tag [] false) s.heard opAbort tag stState [] [] hend (congrArg (fun h : HostP => h.port.rseq) s.host_heard)
    (fun a ha => s.reg_heard a ha) s.wr_heard

/-- Settles O13: each command of a session is one change of it, and an ABORT ends what has not committed. -/
theorem imageSessions : Obligations.ImageSessions := by
  unfold Obligations.ImageSessions
  refine ⟨?_, ?_, ?_, ?_, ?_, ?_, ?_, ?_⟩
  · intro s tag pl hready htest hsess hlen hscope hch hopts hzero hadmit hstore hround hmin hmax hstamp
    exact ⟨_, rfl, imageSessions_begin s tag pl hready htest hsess hlen hscope hch hopts hzero hadmit hstore hround hmin hmax hstamp _ rfl⟩
  · intro s tag pl x b ok hready htest hsess howner hstate hadmit hlen hoff hb hroom hmax hearly hcrc
    exact ⟨_, rfl, imageSessions_data s tag pl x b ok hready htest hsess howner hstate hadmit hlen hoff hb hroom hmax hearly hcrc _ rfl⟩
  · intro s tag x code plain hready htest hsess howner hstate hadmit hcheck
    exact ⟨_, rfl, imageSessions_end s tag x code plain hready htest hsess howner hstate hadmit hcheck _ rfl⟩
  · intro s x hsess hundo hasked hstate hlate
    exact ⟨_, rfl, imageSessions_timeout s x hsess hundo hasked hstate hlate _ rfl⟩
  · intro s tag x hready hsess howner hundo hasked
    exact ⟨_, rfl, imageSessions_abortSession s tag x hready hsess howner hundo hasked _ rfl⟩
  · intro s tag ftag r hdeaf hasleep hawake hflight hreq hquiesce
    exact ⟨_, rfl, imageSessions_abortMode s tag ftag r hdeaf hasleep hawake hflight hreq hquiesce _ rfl⟩
  · intro s tag f hdeaf hawake hflight
    exact ⟨_, rfl, imageSessions_abortLate s tag f hdeaf hawake hflight _ rfl⟩
  · intro s tag hready hsess
    exact ⟨_, rfl, imageSessions_abortNothing s tag hready hsess _ rfl⟩

end Sys2Proof.Machine
end

section
/-! PROOF. A learned baseline of the integrity engine, written. -/

namespace Sys2Proof.Machine

/-- A released device in RECOVERY whose channel 0 learned the baseline 0 of line 0 (bit 16 of INTEG_BASE). -/
def State.learnedBase : State :=
  { State.reset with
    dev := { Dev.init with
      regs := [(F.SYS_REL_STEP.addr 0 0, 12), (F.SYS_MODE_MODE.addr 0 0, mdRecovery), (R.INTEG_BASE.addr 0 0, 65536)]
      rst := { Rst.init with hold := .none }
      ch := Dev.init.ch.set 0 { Chan.init with inReset := false } } }

/-- A baseline that is written is no learned one (R124): its LEARNED bit reads 0. -/
theorem State.learnedBase_rewritten : (State.learnedBase.work.regWrite (R.INTEG_BASE.addr 0 0) 5).reg (R.INTEG_BASE.addr 0 0) = 5 := by
  decide +kernel

/-- Refutes O16: its clause on channel settings takes INTEG_BASE for one whose access codes alone say what it reads, yet a
write clears the read-only LEARNED with it (R124). -/
theorem not_registerWrites : ¬ Obligations.RegisterWrites := by
  unfold Obligations.RegisterWrites
  rintro ⟨-, hsetting, -⟩
  obtain ⟨t, hnext, hreg, -⟩ := hsetting State.learnedBase .host 0 (R.INTEG_BASE.addr 0 0) 5 (by decide) (by decide) (by decide)
    (by decide +kernel) (by decide +kernel) (by decide) (by decide +kernel) (by decide +kernel)
  obtain rfl : State.learnedBase.run (fun w => w.regWrite (R.INTEG_BASE.addr 0 0) 5) = t := Host.Outcome.next.inj hnext
  have hwritten : State.learnedBase.written (R.INTEG_BASE.addr 0 0) (5 : Word).toNat = 65541 := by decide +kernel
  exact absurd (State.learnedBase_rewritten.symm.trans (hreg.trans hwritten)) (by decide)

end Sys2Proof.Machine
end

section
/-! PROOF. A G1 write between an IMAGE_SWAP and its boundary. -/

namespace Sys2Proof.Machine

/-- A released device in OPERATE whose host port speaks G1: channel 0 runs as an LED channel, and an IMAGE_SWAP waits there
for its boundary. -/
def State.swapWaits : State :=
  { State.reset with
    dev := { Dev.init with
      regs := [(F.SYS_REL_STEP.addr 0 0, 12), (F.SYS_MODE_MODE.addr 0 0, mdOperate), (F.SYS_CH_STATE_STATES.addr 0 0, stRunning),
        (F.HOST_CFG_GEN.addr 0 0, 1)]
      rst := { Rst.init with hold := .none }
      ch := Dev.init.ch.set 0 { Chan.init with
        inReset := false
        seq := { Chan.init.seq with act := { Chan.init.seq.act with cfg := 1 } }
        mash := { Chan.init.mash with changes := [⟨0, none, none, false, .swap⟩] } } } }

/-- The write is refused as HELD_BUSY (R164): it queues no delivery. -/
theorem State.swapWaits_queue :
    ((g1Write State.swapWaits.work [(0, 0xFF)]).chan 0).mash.queue = [] := by
  decide +kernel

/-- Refutes O17: its clauses on G1 writes ask for room in the queue, yet between an IMAGE_SWAP and its boundary the plane is
not delivered. -/
theorem not_emulatedRegisterSets : ¬ Obligations.EmulatedRegisterSets := by
  unfold Obligations.EmulatedRegisterSets
  rintro ⟨-, -, -, -, -, -, hfixed, -⟩
  obtain ⟨t, hnext, -, hqueue, -⟩ := hfixed State.swapWaits 0 0xFF (by decide +kernel) (by decide +kernel) (by decide +kernel)
    (by decide +kernel) (by decide +kernel) (by decide +kernel)
  obtain rfl : State.swapWaits.run (fun w => g1Write w [(0, 0xFF)]) = t := Host.Outcome.next.inj hnext
  have hch : State.swapWaits.work.emuCh = 0 := by decide +kernel
  have hlen := congrArg List.length hqueue
  rw [hch, List.length_append] at hlen
  exact absurd ((congrArg List.length State.swapWaits_queue).symm.trans hlen) (Nat.ne_of_lt (Nat.succ_pos _))

end Sys2Proof.Machine
end

section
/-! PROOF. Writes of SEQ_CTL, SYS_TICK_CFG and KILN_LEDGER_CTL (R31, R47, R48, R84, R86, R93). -/

namespace Sys2Proof.Machine

/-! ### Accepted writes -/

/-- The row of the register at an address of channel 0 or of the device. -/
def rowOf (b : Nat) : RegRow := (rowAt b).elim ⟨"", 0, 0, 0, []⟩ (·.1)

/-- An accepted write of a register does with the word what its block does (R4 to R6, R19). -/
theorem State.regWrite_of_row (s : State) (a : Nat) (v : Word) (r : RegRow) (k : Nat) (h : s.accepts a v.toNat = true)
    (hrow : rowAt a = some (r, k)) : s.work.regWrite a v = (s.work.putWord (s.work.regW r k a v.toNat)).1 := by
  obtain ⟨r', k', hrow', hput⟩ := s.writeReg_of_accepts a v.toNat h
  obtain ⟨rfl, rfl⟩ := Prod.mk.inj (Option.some.inj (hrow.symm.trans hrow'))
  exact congrArg Prod.fst hput

/-- An accepted write of a channel register but SEQ_CTL is one of its channel. -/
theorem State.regWrite_chan (s : State) (a : Nat) (v : Word) (r : RegRow) (k : Nat) (h : s.accepts a v.toNat = true)
    (hrow : rowAt a = some (r, k)) (hchan : isChanReg a = true) (hbase : r.base ≠ R.SEQ_CTL.base) :
    s.work.regWrite a v = s.work.putChan (s.work.regW r k a v.toNat) := by
  rw [s.regWrite_of_row a v r k h hrow]
  unfold Work.putWord
  simp only [Work.regW, hbase, hchan, if_false, if_true]

theorem State.written_of_row (s : State) (a v : Nat) (r : RegRow) (k : Nat) (hrow : rowAt a = some (r, k)) :
    s.written a v = mergeWord r (s.reg a) v := by
  unfold State.written
  rw [hrow]

/-! ### SEQ_CTL -/

theorem rowAt_seqCtl (ch : Fin 8) : rowAt (R.SEQ_CTL.addr ch 0) = some (rowOf R.SEQ_CTL.base, 0) := by
  decide +revert +kernel

theorem channelOf_seqCtl (ch : Fin 8) : channelOf (R.SEQ_CTL.addr ch 0) = ch := by decide +revert +kernel

theorem State.regWrite_seqCtl (s : State) (ch : Fin 8) (v : Word) (h : s.accepts (R.SEQ_CTL.addr ch 0) v.toNat = true) :
    s.work.regWrite (R.SEQ_CTL.addr ch 0) v = (s.work.seqCtl ch v.toNat).1 := by
  have hbase : (rowOf R.SEQ_CTL.base).base = R.SEQ_CTL.base := by decide +kernel
  rw [s.regWrite_of_row _ v _ _ h (rowAt_seqCtl ch)]
  unfold Work.putWord
  simp only [Work.regW, hbase, if_true]
  exact congrArg (fun n => (s.work.seqCtl n v.toNat).1) (channelOf_seqCtl ch)

/-- The end of a write of SEQ_CTL: RUN as it was asked (R84, R93). -/
def Work.runAsked (w : Work) (n : Nat) (run was commit : Bool) : Work :=
  if !run then (if was then w.askQuiesce n else w)
  else if (w.chan n).kiln.faulted ∧ !commit then w
  else if !was ∨ commit then
    w.modChan n (fun c =>
      { c with restart := if c.running ∧ c.kiln.quiesce = .none then c.restart else some (c.restart.getD .plain)
               kiln := { c.kiln with faulted := if commit then false else c.kiln.faulted } })
  else w

/-- What asks for RUN is one change of the channel, beside its sequencer. -/
theorem Work.runAsked_eq (w : Work) (n : Nat) (run was commit : Bool) :
    ∃ f : Chan → Chan, w.runAsked n run was commit = w.modChan n f ∧ (∀ c, (f c).seq = c.seq) ∨ w.runAsked n run was commit = w := by
  unfold Work.runAsked Work.askQuiesce Work.modKiln
  refine iteInduction (motive := fun v : Work => ∃ f : Chan → Chan, v = w.modChan n f ∧ (∀ c, (f c).seq = c.seq) ∨ v = w)
    (fun _ => iteInduction (motive := fun v : Work => ∃ f : Chan → Chan, v = w.modChan n f ∧ (∀ c, (f c).seq = c.seq) ∨ v = w)
      (fun _ => iteInduction (motive := fun v : Work => ∃ f : Chan → Chan, v = w.modChan n f ∧ (∀ c, (f c).seq = c.seq) ∨ v = w)
        (fun _ => ⟨_, .inl ⟨rfl, fun _ => rfl⟩⟩) (fun _ => ⟨id, .inr rfl⟩)) (fun _ => ⟨id, .inr rfl⟩)) (fun _ => ?_)
  refine iteInduction (motive := fun v : Work => ∃ f : Chan → Chan, v = w.modChan n f ∧ (∀ c, (f c).seq = c.seq) ∨ v = w)
    (fun _ => ⟨id, .inr rfl⟩)
    (fun _ => iteInduction (motive := fun v : Work => ∃ f : Chan → Chan, v = w.modChan n f ∧ (∀ c, (f c).seq = c.seq) ∨ v = w)
      (fun _ => ⟨_, .inl ⟨rfl, fun _ => rfl⟩⟩) (fun _ => ⟨id, .inr rfl⟩))

theorem Work.reg_runAsked (w : Work) (n : Nat) (run was commit : Bool) (a : Nat) : (w.runAsked n run was commit).reg a = w.reg a := by
  obtain ⟨f, ⟨h, -⟩ | h⟩ := w.runAsked_eq n run was commit <;> rw [h]
  rw [Work.reg_modChan]

theorem Work.wr_runAsked (w : Work) (n : Nat) (run was commit : Bool) : (w.runAsked n run was commit).wr = w.wr := by
  obtain ⟨f, ⟨h, -⟩ | h⟩ := w.runAsked_eq n run was commit <;> rw [h]
  rfl

theorem Work.seq_runAsked (w : Work) (n : Fin 8) (run was commit : Bool) : ((w.runAsked n run was commit).chan n).seq = (w.chan n).seq := by
  obtain ⟨f, ⟨h, hf⟩ | h⟩ := w.runAsked_eq n run was commit <;> rw [h]
  rw [Work.chan_modChan_fin, hf]

/-- The working state with a checked commit captured, and a STATS_CLR kept (R31, R48). -/
def Work.planTaken (w : Work) (n v : Nat) : Work :=
  let x := if bitOf v 0 then (w.modSeq n (fun s => { s with commit := some (w.shadowPlan n) })).putFlag F.SEQ_CTL_COMMIT true n else w
  if bitOf v 31 then x.modSeq n (fun s => { s with statsClr := true }) else x

/-- A write of SEQ_CTL whose commit request, where it has one, is good. -/
theorem Work.seqCtl_takes (w : Work) (n v : Nat) (h : (if bitOf v 0 then w.commitStatus n else none) = none) :
    (w.seqCtl n v).1 = ((w.planTaken n v).put F.SEQ_CTL_RUN (bitOf v 1).toNat n).runAsked n (bitOf v 1) (w.flag F.SEQ_CTL_RUN n) (bitOf v 0) := by
  unfold Work.seqCtl
  simp only [h]
  rfl

theorem Work.reg_planTaken (w : Work) (n v a : Nat) (h : a ≠ R.SEQ_CTL.addr n 0) : (w.planTaken n v).reg a = w.reg a := by
  unfold Work.planTaken Work.modSeq
  dsimp only
  have hcommit : ∀ x : Work, x = (if bitOf v 0 then (w.modChan n (fun c => { c with seq := { c.seq with commit := some (w.shadowPlan n) } })).putFlag
      F.SEQ_CTL_COMMIT true n else w) → x.reg a = w.reg a := by
    rintro x rfl
    split
    · rw [Work.putFlag_eq, Work.reg_put_ne _ F.SEQ_CTL_COMMIT _ _ _ _ h, Work.reg_modChan]
    · rfl
  split
  · rw [Work.reg_modChan, hcommit _ rfl]
  · exact hcommit _ rfl

theorem Work.wr_planTaken (w : Work) (n v : Nat) : (w.planTaken n v).wr = w.wr := by
  unfold Work.planTaken
  cases bitOf v 0 <;> cases bitOf v 31 <;> rfl

theorem Work.commit_planTaken (w : Work) (n : Fin 8) (v : Nat) (h : bitOf v 0 = true) :
    ((w.planTaken n v).chan n).seq.commit = some (w.shadowPlan n) ∧ (w.planTaken n v).flag F.SEQ_CTL_COMMIT n = true := by
  unfold Work.planTaken Work.modSeq
  have hflag : ∀ x : Work, (x.put F.SEQ_CTL_COMMIT 1 n).flag F.SEQ_CTL_COMMIT n = true := fun x => Work.flag_put_same x _ 1 n 0 rfl
  have hkept : ∀ (x : Work) (f : Chan → Chan), (x.modChan n f).flag F.SEQ_CTL_COMMIT n = x.flag F.SEQ_CTL_COMMIT n := fun _ _ => rfl
  cases bitOf v 31 <;> simp [h, hflag, hkept]

/-- What a good write of SEQ_CTL leaves of its registers. -/
theorem State.frame_seqCtl (s : State) (ch : Fin 8) (v : Word) (haccept : s.accepts (R.SEQ_CTL.addr ch 0) v.toNat = true)
    (h : (if bitOf v.toNat 0 then s.work.commitStatus ch else none) = none) :
    (s.run (fun w => w.regWrite (R.SEQ_CTL.addr ch 0) v)).flag F.SEQ_CTL_RUN ch = bitOf v.toNat 1 ∧
      s.sameRegs (s.run (fun w => w.regWrite (R.SEQ_CTL.addr ch 0) v)) [R.SEQ_CTL.addr ch 0] ∧
      (s.run (fun w => w.regWrite (R.SEQ_CTL.addr ch 0) v)).mem = s.mem := by
  have hend := (s.regWrite_seqCtl ch v haccept).trans (s.work.seqCtl_takes ch v.toNat h)
  refine ⟨?_, fun a ha => ?_, ?_⟩
  · change (s.work.regWrite (R.SEQ_CTL.addr ch 0) v).flag F.SEQ_CTL_RUN ch = _
    rw [hend]
    unfold Work.flag Work.get
    rw [Work.reg_runAsked]
    refine (Work.flag_put_same (s.work.planTaken ch v.toNat) F.SEQ_CTL_RUN _ ch 0 rfl).trans ?_
    cases bitOf v.toNat 1 <;> rfl
  · have hne : a ≠ R.SEQ_CTL.addr ch 0 := fun e => ha (e ▸ List.mem_cons_self)
    rw [State.run_reg, hend, Work.reg_runAsked, Work.reg_put_ne _ F.SEQ_CTL_RUN _ _ _ _ hne, Work.reg_planTaken _ _ _ _ hne, State.work_reg]
  · rw [State.run_mem, hend, Work.wr_runAsked, Work.put_wr, Work.wr_planTaken, State.work_wr, commitMem_nil]

theorem sequencerRegisters_commit (s : State) (ch : Fin 8) (v : Word) (haccept : s.accepts (R.SEQ_CTL.addr ch 0) v.toNat = true)
    (hcommit : bitOf v.toNat 0 = true) (hgood : s.work.commitStatus ch = none)
    (t : State) (ht : t = s.run (fun w => w.regWrite (R.SEQ_CTL.addr ch 0) v)) :
    (t.chan ch).seq.commit = some (s.work.shadowPlan ch) ∧ t.flag F.SEQ_CTL_COMMIT ch = true ∧
      t.flag F.SEQ_CTL_RUN ch = bitOf v.toNat 1 ∧ s.sameRegs t [R.SEQ_CTL.addr ch 0] ∧ t.mem = s.mem := by
  subst ht
  have hnone : (if bitOf v.toNat 0 then s.work.commitStatus ch else none) = none := by rw [if_pos hcommit, hgood]
  have hend := (s.regWrite_seqCtl ch v haccept).trans (s.work.seqCtl_takes ch v.toNat hnone)
  obtain ⟨hplan, hflag⟩ := s.work.commit_planTaken ch v.toNat hcommit
  refine ⟨?_, ?_, s.frame_seqCtl ch v haccept hnone⟩
  · rw [State.run_chan, hend, Work.seq_runAsked, Work.chan_put, hplan]
  · change (s.work.regWrite (R.SEQ_CTL.addr ch 0) v).flag F.SEQ_CTL_COMMIT ch = _
    rw [hend]
    unfold Work.flag Work.get
    rw [Work.reg_runAsked]
    exact (Work.flag_put_apart (s.work.planTaken ch v.toNat) F.SEQ_CTL_RUN F.SEQ_CTL_COMMIT _ ch (by decide)).trans hflag

theorem sequencerRegisters_refused (s : State) (ch : Fin 8) (v : Word) (haccept : s.accepts (R.SEQ_CTL.addr ch 0) v.toNat = true)
    (hcommit : bitOf v.toNat 0 = true) (st : Nat) (hbad : s.work.commitStatus ch = some st) (hbusy : st ≠ stBusy)
    (t : State) (ht : t = s.run (fun w => w.regWrite (R.SEQ_CTL.addr ch 0) v)) :
    t.flag F.SEQ_ERR_PLAN_REFUSED ch = true ∧ (t.chan ch).seq.commit = (s.chan ch).seq.commit ∧
      s.sameRegs t [R.SEQ_ERR.addr ch 0] ∧ t.mem = s.mem := by
  subst ht
  have hend : s.work.regWrite (R.SEQ_CTL.addr ch 0) v = s.work.put F.SEQ_ERR_PLAN_REFUSED 1 ch := by
    rw [s.regWrite_seqCtl ch v haccept]
    unfold Work.seqCtl
    simp only [if_pos hcommit, hbad, if_neg hbusy]
    rfl
  refine ⟨?_, ?_, fun a ha => ?_, ?_⟩
  · change (s.work.regWrite (R.SEQ_CTL.addr ch 0) v).flag F.SEQ_ERR_PLAN_REFUSED ch = _
    rw [hend, Work.flag_put_same _ _ _ _ _ rfl]
    rfl
  · rw [State.run_chan, hend, Work.chan_put]
    rfl
  · rw [State.run_reg, hend, Work.reg_put_ne _ F.SEQ_ERR_PLAN_REFUSED _ _ _ _ (fun e => ha (e ▸ List.mem_cons_self)), State.work_reg]
  · rw [State.run_mem, hend, Work.put_wr, State.work_wr, commitMem_nil]

/-- A write of SEQ_CTL without a commit request. -/
theorem sequencerRegisters_plain (s : State) (ch : Fin 8) (v : Word) (haccept : s.accepts (R.SEQ_CTL.addr ch 0) v.toNat = true)
    (hcommit : bitOf v.toNat 0 = false) :
    s.work.regWrite (R.SEQ_CTL.addr ch 0) v =
      ((if bitOf v.toNat 31 then s.work.modSeq ch (fun x => { x with statsClr := true }) else s.work).put F.SEQ_CTL_RUN
        (bitOf v.toNat 1).toNat ch).runAsked ch (bitOf v.toNat 1) (s.flag F.SEQ_CTL_RUN ch) false := by
  have hnone : (if bitOf v.toNat 0 then s.work.commitStatus ch else none) = none := by rw [hcommit]; rfl
  rw [s.regWrite_seqCtl ch v haccept, s.work.seqCtl_takes ch v.toNat hnone, hcommit]
  unfold Work.planTaken
  rw [hcommit]
  rfl

theorem Work.kiln_statsAsked (w : Work) (n : Fin 8) (b : Bool) (v : Nat) :
    (((if b then w.modSeq n (fun x => { x with statsClr := true }) else w).put F.SEQ_CTL_RUN v n).chan n).kiln = (w.chan n).kiln ∧
      (((if b then w.modSeq n (fun x => { x with statsClr := true }) else w).put F.SEQ_CTL_RUN v n).chan n).restart = (w.chan n).restart ∧
      (((if b then w.modSeq n (fun x => { x with statsClr := true }) else w).put F.SEQ_CTL_RUN v n).chan n).running = (w.chan n).running := by
  cases b <;> simp [Work.modSeq]

theorem sequencerRegisters_run (s : State) (ch : Fin 8) (v : Word) (haccept : s.accepts (R.SEQ_CTL.addr ch 0) v.toNat = true)
    (hcommit : bitOf v.toNat 0 = false) (hrun : bitOf v.toNat 1 = true) (hwas : s.flag F.SEQ_CTL_RUN ch = false)
    (hfault : (s.chan ch).kiln.faulted = false) (hstill : (s.chan ch).running = false) :
    ((s.run (fun w => w.regWrite (R.SEQ_CTL.addr ch 0) v)).chan ch).restart = some ((s.chan ch).restart.getD .plain) := by
  obtain ⟨hkiln, hrestart, hrunning⟩ := s.work.kiln_statsAsked ch (bitOf v.toNat 31) (bitOf v.toNat 1).toNat
  rw [State.run_chan, sequencerRegisters_plain s ch v haccept hcommit]
  generalize (if bitOf v.toNat 31 = true then s.work.modSeq ch (fun x => { x with statsClr := true }) else s.work).put F.SEQ_CTL_RUN
    (bitOf v.toNat 1).toNat ch = w at hkiln hrestart hrunning
  have hhealthy : ¬ ((w.chan ch).kiln.faulted = true ∧ (!false) = true) := by
    rw [hkiln]
    exact fun h => absurd (hfault.symm.trans h.1) (by decide)
  have hnotrunning : ¬ ((w.chan ch).running = true ∧ (w.chan ch).kiln.quiesce = .none) := by
    rw [hrunning]
    exact fun h => absurd (hstill.symm.trans h.1) (by decide)
  unfold Work.runAsked
  rw [hrun, hwas, if_neg (by decide), if_neg hhealthy, if_pos (by decide), Work.chan_modChan_fin]
  dsimp only
  rw [if_neg hnotrunning, hrestart]
  rfl

theorem sequencerRegisters_stop (s : State) (ch : Fin 8) (v : Word) (haccept : s.accepts (R.SEQ_CTL.addr ch 0) v.toNat = true)
    (hcommit : bitOf v.toNat 0 = false) (hrun : bitOf v.toNat 1 = false) (hwas : s.flag F.SEQ_CTL_RUN ch = true)
    (hrunning : (s.chan ch).running = true) (hquiesce : (s.chan ch).kiln.quiesce = .none) :
    ((s.run (fun w => w.regWrite (R.SEQ_CTL.addr ch 0) v)).chan ch).kiln.quiesce = .pend := by
  obtain ⟨hkiln', -, hrunning'⟩ := s.work.kiln_statsAsked ch (bitOf v.toNat 31) (bitOf v.toNat 1).toNat
  rw [State.run_chan, sequencerRegisters_plain s ch v haccept hcommit]
  generalize (if bitOf v.toNat 31 = true then s.work.modSeq ch (fun x => { x with statsClr := true }) else s.work).put F.SEQ_CTL_RUN
    (bitOf v.toNat 1).toNat ch = w at hkiln' hrunning'
  have hruns : (w.chan ch).running = true ∧ (w.chan ch).kiln.quiesce = .none := by
    rw [hrunning', hkiln']
    exact ⟨hrunning, hquiesce⟩
  unfold Work.runAsked Work.askQuiesce Work.modKiln
  simp only [hrun, hwas, Bool.not_false, if_true, if_pos hruns, Work.chan_modChan_fin]

theorem sequencerRegisters_stats (s : State) (ch : Fin 8) (v : Word) (haccept : s.accepts (R.SEQ_CTL.addr ch 0) v.toNat = true)
    (hcommit : bitOf v.toNat 0 = false) (hclr : bitOf v.toNat 31 = true) :
    ((s.run (fun w => w.regWrite (R.SEQ_CTL.addr ch 0) v)).chan ch).seq.statsClr = true := by
  rw [State.run_chan, sequencerRegisters_plain s ch v haccept hcommit, Work.seq_runAsked, if_pos hclr, Work.chan_put]
  unfold Work.modSeq
  rw [Work.chan_modChan_fin]

/-! ### SYS_TICK_CFG and KILN_LEDGER_CTL -/

theorem rowAt_tickCfg : rowAt (R.SYS_TICK_CFG.addr 0 0) = some (rowOf R.SYS_TICK_CFG.base, 0) := by decide +kernel

theorem sequencerRegisters_tickCfg (s : State) (v : Word) (haccept : s.accepts (R.SYS_TICK_CFG.addr 0 0) v.toNat = true)
    (t : State) (ht : t = s.run (fun w => w.regWrite (R.SYS_TICK_CFG.addr 0 0) v)) :
    t.dev.lock.cfgPend = some (s.written (R.SYS_TICK_CFG.addr 0 0) v.toNat) ∧ t.dev.lock.periodUs = s.dev.lock.periodUs ∧
      s.sameRegs t [] ∧ t.mem = s.mem := by
  subst ht
  have hbase : (rowOf R.SYS_TICK_CFG.base).base = R.SYS_TICK_CFG.base := by decide +kernel
  have hend : s.work.regWrite (R.SYS_TICK_CFG.addr 0 0) v =
      s.work.modLock (fun l => { l with cfgPend := some (s.written (R.SYS_TICK_CFG.addr 0 0) v.toNat) }) := by
    rw [s.regWrite_of_row _ v _ _ haccept rowAt_tickCfg, s.written_of_row _ _ _ _ rowAt_tickCfg]
    unfold Work.putWord Work.putSys
    simp (decide := true) only [Work.regW, hbase, if_false, if_true]
    rfl
  refine ⟨?_, ?_, fun a _ => ?_, ?_⟩
  · rw [State.run_dev, hend]
    rfl
  · rw [State.run_dev, hend]
    rfl
  · rw [State.run_reg, hend]
    rfl
  · rw [State.run_mem, hend]
    rfl

theorem rowAt_ledgerCtl (ch : Fin 8) : rowAt (R.KILN_LEDGER_CTL.addr ch 0) = some (rowOf R.KILN_LEDGER_CTL.base, 0) := by
  decide +revert +kernel

theorem sequencerRegisters_maxClr (s : State) (ch : Fin 8) (v : Word) (haccept : s.accepts (R.KILN_LEDGER_CTL.addr ch 0) v.toNat = true)
    (hclr : bitOf v.toNat 0 = true) (t : State) (ht : t = s.run (fun w => w.regWrite (R.KILN_LEDGER_CTL.addr ch 0) v)) :
    (t.chan ch).kiln.maxClr = true ∧ s.sameRegs t [] ∧ t.mem = s.mem := by
  subst ht
  have hbase : (rowOf R.KILN_LEDGER_CTL.base).base = R.KILN_LEDGER_CTL.base := by decide +kernel
  have hchan : isChanReg (R.KILN_LEDGER_CTL.addr ch 0) = true := by clear hclr haccept; decide +revert +kernel
  have hch : channelOf (R.KILN_LEDGER_CTL.addr ch 0) = ch := by clear hclr haccept hchan; decide +revert +kernel
  have hend : s.work.regWrite (R.KILN_LEDGER_CTL.addr ch 0) v = s.work.modKiln ch (fun k => { k with maxClr := true }) := by
    rw [s.regWrite_chan _ v _ _ haccept (rowAt_ledgerCtl ch) hchan (by rw [hbase]; decide)]
    unfold Work.putChan
    simp (decide := true) only [Work.regW, hbase, if_false, if_true, hclr, hch]
  refine ⟨?_, fun a _ => ?_, ?_⟩
  · rw [State.run_chan, hend]
    unfold Work.modKiln
    rw [Work.chan_modChan_fin]
  · rw [State.run_reg, hend]
    rfl
  · rw [State.run_mem, hend]
    rfl

/-- Settles O18: a commit is judged as it is written, and RUN, STATS_CLR, the tick settings and MAX_CLR wait for their
boundary. -/
theorem sequencerRegisters : Obligations.SequencerRegisters := by
  unfold Obligations.SequencerRegisters
  refine ⟨?_, ?_, ?_, ?_, ?_, ?_, ?_⟩
  · intro s o ch v haccept hcommit hgood
    exact ⟨_, rfl, sequencerRegisters_commit s ch v haccept hcommit hgood _ rfl⟩
  · rintro s o ch v haccept hcommit ⟨st, hbad, hbusy⟩
    exact ⟨_, rfl, sequencerRegisters_refused s ch v haccept hcommit st hbad hbusy _ rfl⟩
  · intro s o ch v haccept hcommit hrun hwas hfault hstill
    obtain ⟨hflag, hframe⟩ := s.frame_seqCtl ch v haccept (by rw [hcommit]; rfl)
    exact ⟨_, rfl, hflag.trans hrun, sequencerRegisters_run s ch v haccept hcommit hrun hwas hfault hstill, hframe⟩
  · intro s o ch v haccept hcommit hrun hwas hrunning hquiesce
    obtain ⟨hflag, hframe⟩ := s.frame_seqCtl ch v haccept (by rw [hcommit]; rfl)
    exact ⟨_, rfl, hflag.trans hrun, sequencerRegisters_stop s ch v haccept hcommit hrun hwas hrunning hquiesce, hframe⟩
  · intro s o ch v haccept hcommit hrun hclr
    obtain ⟨hflag, hframe⟩ := s.frame_seqCtl ch v haccept (by rw [hcommit]; rfl)
    exact ⟨_, rfl, sequencerRegisters_stats s ch v haccept hcommit hclr, hflag.trans hrun, hframe⟩
  · intro s o v haccept
    exact ⟨_, rfl, sequencerRegisters_tickCfg s v haccept _ rfl⟩
  · intro s o ch v haccept hclr
    exact ⟨_, rfl, sequencerRegisters_maxClr s ch v haccept hclr _ rfl⟩

end Sys2Proof.Machine
end

section
/-! PROOF. Clears of the integrity engine and of the lamp string, governors switched off, and lamp demands (R12, R86, R127,
R248, R252). -/

namespace Sys2Proof.Machine

/-- A word written to a register of a channel, as `putChan` takes it apart. -/
theorem Work.regW_new (s : State) (r : RegRow) (k a v : Nat) (hrow : rowAt a = some (r, k)) : (s.work.regW r k a v).new = s.written a v := by
  rw [s.written_of_row a v r k hrow]
  rfl

/-! ### Settings -/

/-- A setting that is written: it reads its new value, the old one stays in force, and the new one waits (R12). -/
theorem State.setting_waits (s : State) (ch : Fin 8) (a : Nat) (v : Word) (r : RegRow) (k : Nat) (hrow : rowAt a = some (r, k))
    (hch : channelOf a = ch) (hmash : a ≠ R.MASH_STAT.addr ch 0) (hnew : s.written a v.toNat ≠ s.reg a)
    (hend : s.work.regWrite a v = s.work.putSetting (s.work.regW r k a v.toNat))
    (t : State) (ht : t = s.run (fun w => w.regWrite a v)) :
    t.reg a = s.written a v.toNat ∧ t.work.curReg ch a = s.work.curReg ch a ∧
      (t.chan ch).mash.changes = (s.chan ch).mash.changes ++ [⟨s.dev.tick, some (s.chan ch).seq.started, none, false, .reg a (s.written a v.toNat)⟩] ∧
      s.sameRegs t [a, R.MASH_STAT.addr ch 0] ∧ t.mem = s.mem := by
  subst ht
  have hsetting : (s.work.setSetting ch a (s.written a v.toNat)).OnlyTold (s.work.regWrite a v) := by
    have hold : s.written a v.toNat ≠ (s.work.regW r k a v.toNat).old := hnew
    have hn : (s.work.regW r k a v.toNat).n = ch := hch
    have ha : (s.work.regW r k a v.toNat).a = a := rfl
    rw [hend, Work.putSetting, Work.regW_new s r k a _ hrow, if_neg hold, hn, ha]
    exact Work.OnlyTold.pairCommit _ _ _
  have hreg : ∀ b, b ≠ R.MASH_STAT.addr ch 0 →
      (s.work.setSetting ch a (s.written a v.toNat)).reg b = (s.work.setReg a (s.written a v.toNat)).reg b := by
    intro b hb
    unfold Work.setSetting Work.addChange
    rw [Work.reg_modMash _ _ _ _ hb]
    rfl
  have hchan : (s.work.setSetting ch a (s.written a v.toNat)).chan ch =
      { s.chan ch with mash := { (s.chan ch).mash with
        older := tabInsert (s.chan ch).mash.older a (s.work.curReg ch a)
        changes := (s.chan ch).mash.changes ++ [⟨s.dev.tick, some (s.chan ch).seq.started, none, false, .reg a (s.written a v.toNat)⟩] } } := by
    unfold Work.setSetting Work.addChange Work.ordNow
    simp only [Work.chan_modMash, Work.chan_modChan_fin, Work.chan_setReg]
    rfl
  refine ⟨?_, ?_, ?_, fun b hb => ?_, ?_⟩
  · rw [State.run_reg, hsetting.reg, hreg a hmash, Work.reg_setReg_same]
  · have hafter : (s.run (fun w => w.regWrite a v)).work.chan ch = (s.work.setSetting ch a (s.written a v.toNat)).chan ch :=
      (State.run_chan s _ ch).trans (hsetting.chan ch)
    unfold Work.curReg at hchan ⊢
    rw [hafter, hchan, tabFind_tabInsert_same]
  · rw [State.run_chan, hsetting.chan, hchan]
  · simp only [List.mem_cons, List.not_mem_nil, or_false, not_or] at hb
    rw [State.run_reg, hsetting.reg, hreg b hb.2, Work.reg_setReg_ne _ _ _ _ hb.1, State.work_reg]
  · rw [State.run_mem, hsetting.wr]
    unfold Work.setSetting Work.addChange
    rw [Work.wr_modMash]
    rfl

theorem rowAt_ledCfg (ch : Fin 8) : rowAt (R.LED_CFG.addr ch 0) = some (rowOf R.LED_CFG.base, 0) := by decide +revert +kernel

theorem rowAt_lampCfg (ch : Fin 8) : rowAt (R.LAMP_CFG.addr ch 0) = some (rowOf R.LAMP_CFG.base, 0) := by decide +revert +kernel

theorem rowAt_lampForce (ch : Fin 8) : rowAt (R.LAMP_FORCE.addr ch 0) = some (rowOf R.LAMP_FORCE.base, 0) := by decide +revert +kernel

/-- Each of these registers is a setting, of no block that does more with a written word. -/
theorem Work.putChan_setting (w : Work) (f : Fld) (hf : f ∈ [R.LED_CFG, R.LAMP_CFG, R.LAMP_FORCE]) (ch : Fin 8) (v : Nat) :
    w.putChan (w.regW (rowOf f.base) 0 (f.addr ch 0) v) = w.putSetting (w.regW (rowOf f.base) 0 (f.addr ch 0) v) ∧
      isChanReg (f.addr ch 0) = true ∧ channelOf (f.addr ch 0) = ch ∧ (rowOf f.base).base ≠ R.SEQ_CTL.base ∧
      f.addr ch 0 ≠ R.MASH_STAT.addr ch 0 := by
  have hplace : ∀ f ∈ [R.LED_CFG, R.LAMP_CFG, R.LAMP_FORCE], ∀ ch : Fin 8,
      foldChannel (f.addr ch 0) / 4096 ≠ 0x40109 ∧ (boundaryReg (f.addr ch 0) && isSetting (f.addr ch 0)) = true ∧
        isChanReg (f.addr ch 0) = true ∧ channelOf (f.addr ch 0) = ch ∧ f.addr ch 0 ≠ R.MASH_STAT.addr ch 0 := by decide +kernel
  have hbase : ∀ f ∈ [R.LED_CFG, R.LAMP_CFG, R.LAMP_FORCE], (rowOf f.base).base ∉ [R.SEQ_CTL.base, R.CTL_RST.base, R.LINE_GPIO_OUT.base,
      R.LINE_GPIO_OE.base, R.KILN_LEDGER_CTL.base, R.INTEG_CLR.base, R.LAMP_CLR.base, R.LAMP_DEM.base, R.INTEG_BASE.base,
      R.CASK_CFG.base, R.ENC_CFG.base] := by decide +kernel
  obtain ⟨hpsq, hset, hchan, hch, hmash⟩ := hplace f hf ch
  have hb := hbase f hf
  simp only [List.mem_cons, List.not_mem_nil, or_false, not_or] at hb
  obtain ⟨h1, h2, h3, h4, h5, h6, h7, h8, h9, h10, h11⟩ := hb
  refine ⟨?_, hchan, hch, h1, hmash⟩
  unfold Work.putChan
  simp only [Work.regW, h2, h3, h4, h5, h6, h7, h8, h9, h10, h11, hpsq, hset, or_false, if_false, if_true]

/-- An accepted write of one of them that changes it. -/
theorem State.setting_written (s : State) (f : Fld) (hf : f ∈ [R.LED_CFG, R.LAMP_CFG, R.LAMP_FORCE]) (ch : Fin 8) (v : Word)
    (hrow : rowAt (f.addr ch 0) = some (rowOf f.base, 0)) (haccept : s.accepts (f.addr ch 0) v.toNat = true)
    (hnew : s.written (f.addr ch 0) v.toNat ≠ s.reg (f.addr ch 0))
    (t : State) (ht : t = s.run (fun w => w.regWrite (f.addr ch 0) v)) :
    t.reg (f.addr ch 0) = s.written (f.addr ch 0) v.toNat ∧ t.work.curReg ch (f.addr ch 0) = s.work.curReg ch (f.addr ch 0) ∧
      (t.chan ch).mash.changes = (s.chan ch).mash.changes ++
        [⟨s.dev.tick, some (s.chan ch).seq.started, none, false, .reg (f.addr ch 0) (s.written (f.addr ch 0) v.toNat)⟩] ∧
      s.sameRegs t [f.addr ch 0, R.MASH_STAT.addr ch 0] ∧ t.mem = s.mem := by
  obtain ⟨hput, hchan, hch, hbase, hmash⟩ := s.work.putChan_setting f hf ch v.toNat
  exact s.setting_waits ch _ v _ _ hrow hch hmash hnew ((s.regWrite_chan _ v _ _ haccept hrow hchan hbase).trans hput) t ht

/-- A governor's enable that is written 0 where it read 1. -/
theorem State.enable_cleared (s : State) (f : Fld) (b : Nat) (ch : Fin 8) (v : Word) (row : FieldRow) (hrow : rowAt (f.addr ch 0) = some (rowOf f.base, 0))
    (hmem : row ∈ (rowOf f.base).fields) (hacc : row.acc = .rwx) (hhi : row.hi = b) (hlo : row.lo = b) (hoff : bitOf v.toNat b = false)
    (hon : (bitsOf (s.reg (f.addr ch 0)) b b == 1) = true) :
    (bitsOf (s.written (f.addr ch 0) v.toNat) b b == 1) = false ∧ s.written (f.addr ch 0) v.toNat ≠ s.reg (f.addr ch 0) := by
  have hread := (accessCodes s (f.addr ch 0) v.toNat (rowOf f.base) 0 hrow).1 row hmem |>.1 (Or.inr hacc)
  rw [hhi, hlo] at hread
  have hbit : (bitsOf v.toNat b b == 1) = bitOf v.toNat b := by
    unfold bitOf bitsOf
    rw [Nat.sub_self]
    rfl
  have hwritten : (bitsOf (s.written (f.addr ch 0) v.toNat) b b == 1) = false := by rw [hread, hbit, hoff]
  refine ⟨hwritten, fun e => ?_⟩
  rw [e, hon] at hwritten
  exact absurd hwritten (by decide)

/-! ### The clears -/

theorem rowAt_integClr (ch : Fin 8) : rowAt (R.INTEG_CLR.addr ch 0) = some (rowOf R.INTEG_CLR.base, 0) := by decide +revert +kernel

theorem rowAt_lampClr (ch : Fin 8) : rowAt (R.LAMP_CLR.addr ch 0) = some (rowOf R.LAMP_CLR.base, 0) := by decide +revert +kernel

theorem chanReg_integClr (ch : Fin 8) : isChanReg (R.INTEG_CLR.addr ch 0) = true ∧ channelOf (R.INTEG_CLR.addr ch 0) = ch := by
  decide +revert +kernel

theorem chanReg_lampClr (ch : Fin 8) : isChanReg (R.LAMP_CLR.addr ch 0) = true ∧ channelOf (R.LAMP_CLR.addr ch 0) = ch := by
  decide +revert +kernel

/-- What an accepted write of INTEG_CLR with one of its bits keeps for the boundary (R127). -/
theorem State.integClr_waits (s : State) (ch : Fin 8) (v : Word) (x : Option Nat) (haccept : s.accepts (R.INTEG_CLR.addr ch 0) v.toNat = true)
    (hbits : (bitOf v.toNat 0 = true ∧ bitOf v.toNat 1 = false ∧ x = none) ∨
      (bitOf v.toNat 0 = false ∧ bitOf v.toNat 1 = true ∧ x = some (bitsOf v.toNat 14 8)))
    (t : State) (ht : t = s.run (fun w => w.regWrite (R.INTEG_CLR.addr ch 0) v)) :
    (t.chan ch).integ.clr = (s.chan ch).integ.clr ++ [x] ∧ s.sameRegs t [] ∧ t.mem = s.mem := by
  subst ht
  have hbase : (rowOf R.INTEG_CLR.base).base = R.INTEG_CLR.base := by decide +kernel
  obtain ⟨hchan, hch⟩ := chanReg_integClr ch
  have hend : s.work.regWrite (R.INTEG_CLR.addr ch 0) v = s.work.modInteg ch (fun i => { i with clr := i.clr ++ [x] }) := by
    rw [s.regWrite_chan _ v _ _ haccept (rowAt_integClr ch) hchan (by rw [hbase]; decide)]
    unfold Work.putChan
    rcases hbits with ⟨h0, h1, rfl⟩ | ⟨h0, h1, rfl⟩ <;>
      simp (decide := true) only [Work.regW, hbase, if_false, if_true, h0, h1, hch, Bool.false_eq_true, or_self]
  refine ⟨?_, fun a _ => ?_, ?_⟩
  · rw [State.run_chan, hend]
    unfold Work.modInteg
    rw [Work.chan_modChan_fin]
    rfl
  · rw [State.run_reg, hend]
    rfl
  · rw [State.run_mem, hend]
    rfl

/-- What an accepted write of LAMP_CLR with one of its bits keeps for the boundary (R248). -/
theorem State.lampClr_waits (s : State) (ch : Fin 8) (v : Word) (x : Option Nat) (haccept : s.accepts (R.LAMP_CLR.addr ch 0) v.toNat = true)
    (hbits : (bitOf v.toNat 0 = true ∧ bitOf v.toNat 1 = false ∧ x = none) ∨
      (bitOf v.toNat 0 = false ∧ bitOf v.toNat 1 = true ∧ x = some (bitsOf v.toNat 12 8)))
    (t : State) (ht : t = s.run (fun w => w.regWrite (R.LAMP_CLR.addr ch 0) v)) :
    (t.chan ch).lamp.clr = (s.chan ch).lamp.clr ++ [x] ∧ s.sameRegs t [] ∧ t.mem = s.mem := by
  subst ht
  have hbase : (rowOf R.LAMP_CLR.base).base = R.LAMP_CLR.base := by decide +kernel
  obtain ⟨hchan, hch⟩ := chanReg_lampClr ch
  have hend : s.work.regWrite (R.LAMP_CLR.addr ch 0) v = s.work.modStr ch (fun i => { i with clr := i.clr ++ [x] }) := by
    rw [s.regWrite_chan _ v _ _ haccept (rowAt_lampClr ch) hchan (by rw [hbase]; decide)]
    unfold Work.putChan
    rcases hbits with ⟨h0, h1, rfl⟩ | ⟨h0, h1, rfl⟩ <;>
      simp (decide := true) only [Work.regW, hbase, if_false, if_true, h0, h1, hch, Bool.false_eq_true, or_self]
  refine ⟨?_, fun a _ => ?_, ?_⟩
  · rw [State.run_chan, hend]
    unfold Work.modStr
    rw [Work.chan_modChan_fin]
    rfl
  · rw [State.run_reg, hend]
    rfl
  · rw [State.run_mem, hend]
    rfl

/-! ### Lamp demands -/

theorem rowAt_lampDem (ch : Fin 8) (f : Fin 32) : rowAt (R.LAMP_DEM.addr ch f) = some (rowOf R.LAMP_DEM.base, f.val) := by
  decide +revert +kernel

theorem mashStat_ne_lampDem (ch : Fin 8) (f : Fin 32) : R.LAMP_DEM.addr ch f ≠ R.MASH_STAT.addr ch 0 := by
  decide +revert +kernel

theorem chanReg_lampDem (ch : Fin 8) (f : Fin 32) : isChanReg (R.LAMP_DEM.addr ch f) = true ∧ channelOf (R.LAMP_DEM.addr ch f) = ch := by
  decide +revert +kernel

theorem clearAndGovernorRegisters_demand (s : State) (ch : Fin 8) (f : Fin 32) (v : Word)
    (haccept : s.accepts (R.LAMP_DEM.addr ch f) v.toNat = true)
    (t : State) (ht : t = s.run (fun w => w.regWrite (R.LAMP_DEM.addr ch f) v)) :
    t.get F.LAMP_DEM_LEVEL ch f = v.toNat % 65536 ∧
      (t.chan ch).mash.changes = (s.chan ch).mash.changes ++ [⟨s.dev.tick, some (s.chan ch).seq.started, none, false, .lamp f (v.toNat % 65536)⟩] ∧
      s.sameRegs t [R.LAMP_DEM.addr ch f, R.MASH_STAT.addr ch 0] ∧ t.mem = s.mem := by
  subst ht
  have hbase : (rowOf R.LAMP_DEM.base).base = R.LAMP_DEM.base := by decide +kernel
  obtain ⟨hchan, hch⟩ := chanReg_lampDem ch f
  have hlevel : s.written (R.LAMP_DEM.addr ch f) v.toNat % 65536 = v.toNat % 65536 := by
    have hrow : (⟨15, 0, .rw, 0, 0, 65535⟩ : FieldRow) ∈ (rowOf R.LAMP_DEM.base).fields := by decide +kernel
    have hread := (accessCodes s (R.LAMP_DEM.addr ch f) v.toNat _ _ (rowAt_lampDem ch f)).1 _ hrow |>.1 (Or.inl rfl)
    unfold bitsOf at hread
    simpa using hread
  obtain ⟨w, hw, hmark⟩ : ∃ w : Work, w = (s.work.setReg (R.LAMP_DEM.addr ch f) (s.written (R.LAMP_DEM.addr ch f) v.toNat)).addChange ch none false
      (.lamp f (v.toNat % 65536)) ∧ w.OnlyTold (s.work.regWrite (R.LAMP_DEM.addr ch f) v) := by
    refine ⟨_, rfl, ?_⟩
    rw [s.regWrite_chan _ v _ _ haccept (rowAt_lampDem ch f) hchan (by rw [hbase]; decide), ← hlevel,
      ← Work.regW_new s _ _ _ _ (rowAt_lampDem ch f)]
    unfold Work.putChan
    simp (decide := true) only [Work.regW, hbase, if_false, if_true, hch, or_self]
    split
    · exact Work.OnlyTold.pairCommit _ _ _
    · exact Work.OnlyTold.refl _
  have hreg : ∀ b, b ≠ R.MASH_STAT.addr ch 0 →
      w.reg b = (s.work.setReg (R.LAMP_DEM.addr ch f) (s.written (R.LAMP_DEM.addr ch f) v.toNat)).reg b := by
    intro b hb
    rw [hw]
    unfold Work.addChange
    rw [Work.reg_modMash _ _ _ _ hb]
  have hmash : R.LAMP_DEM.addr ch f ≠ R.MASH_STAT.addr ch 0 := mashStat_ne_lampDem ch f
  refine ⟨?_, ?_, fun b hb => ?_, ?_⟩
  · change bitsOf ((s.work.regWrite (R.LAMP_DEM.addr ch f) v).reg (R.LAMP_DEM.addr ch f)) 15 0 = _
    rw [hmark.reg, hreg _ hmash, Work.reg_setReg_same, ← hlevel]
    unfold bitsOf
    simp
  · rw [State.run_chan, hmark.chan, hw]
    unfold Work.addChange Work.ordNow
    rw [Work.chan_modMash, Work.chan_setReg]
    rfl
  · simp only [List.mem_cons, List.not_mem_nil, or_false, not_or] at hb
    rw [State.run_reg, hmark.reg, hreg b hb.2, Work.reg_setReg_ne _ _ _ _ hb.1, State.work_reg]
  · rw [State.run_mem, hmark.wr, hw]
    unfold Work.addChange
    rw [Work.wr_modMash]
    rfl

/-- Settles O19: a clear waits with what it names; a governor's enable and a lamp's demand read at once and wait for their
boundary. -/
theorem clearAndGovernorRegisters : Obligations.ClearAndGovernorRegisters := by
  unfold Obligations.ClearAndGovernorRegisters
  refine ⟨?_, ?_, ?_, ?_, ?_, ?_, ?_, ?_⟩
  · intro s o ch v haccept h0 h1
    exact ⟨_, rfl, s.integClr_waits ch v none haccept (Or.inl ⟨h0, h1, rfl⟩) _ rfl⟩
  · intro s o ch v haccept h0 h1
    exact ⟨_, rfl, s.integClr_waits ch v _ haccept (Or.inr ⟨h0, h1, rfl⟩) _ rfl⟩
  · intro s o ch v haccept h0 h1
    exact ⟨_, rfl, s.lampClr_waits ch v none haccept (Or.inl ⟨h0, h1, rfl⟩) _ rfl⟩
  · intro s o ch v haccept h0 h1
    exact ⟨_, rfl, s.lampClr_waits ch v _ haccept (Or.inr ⟨h0, h1, rfl⟩) _ rfl⟩
  · intro s o ch v haccept hoff hon
    obtain ⟨hclear, hnew⟩ := s.enable_cleared R.LED_CFG 19 ch v ⟨19, 19, .rwx, 1, 0, 1⟩ (rowAt_ledCfg ch) (by decide +kernel) rfl rfl rfl hoff hon
    obtain ⟨hreg, hrest⟩ := s.setting_written R.LED_CFG (by decide) ch v (rowAt_ledCfg ch) haccept hnew _ rfl
    exact ⟨_, rfl, (congrArg (fun x => bitsOf x 19 19 == 1) hreg).trans hclear, hrest⟩
  · intro s o ch v haccept hoff hon
    obtain ⟨hclear, hnew⟩ := s.enable_cleared R.LAMP_CFG 2 ch v ⟨2, 2, .rwx, 1, 0, 1⟩ (rowAt_lampCfg ch) (by decide +kernel) rfl rfl rfl hoff hon
    obtain ⟨hreg, hrest⟩ := s.setting_written R.LAMP_CFG (by decide) ch v (rowAt_lampCfg ch) haccept hnew _ rfl
    exact ⟨_, rfl, (congrArg (fun x => bitsOf x 2 2 == 1) hreg).trans hclear, hrest⟩
  · intro s o ch f v haccept
    exact ⟨_, rfl, clearAndGovernorRegisters_demand s ch f v haccept _ rfl⟩
  · intro s o ch v haccept hnew
    exact ⟨_, rfl, s.setting_written R.LAMP_FORCE (by decide) ch v (rowAt_lampForce ch) haccept hnew _ rfl⟩

end Sys2Proof.Machine
end

section
/-! PROOF SUPPORT. The batch of a tick stored changes the channel's Cask and its registers alone (R216, R222, R224). -/

namespace Sys2Proof.Machine

/-- The registers of a channel's Cask that a stored batch writes. -/
def caskRegs (n : Nat) : List Nat := R.CASK_COMPAT.addr n 0 :: ringRegs n

/-- Between two working states the registers outside the Cask of channel `n` stand, and all of every channel but that Cask. -/
structure Work.CaskOnly (n : Nat) (w v : Work) : Prop where
  reg : ∀ a, a ∉ caskRegs n → v.reg a = w.reg a
  chan : ∃ k : Cask, v.chan n = { w.chan n with cask := k }
  others : ∀ m, m ≠ n → v.chan m = w.chan m

namespace Work.CaskOnly

variable {n : Nat} {w : Work}

theorem refl (w : Work) : w.CaskOnly n w := ⟨fun _ _ => rfl, ⟨_, rfl⟩, fun _ _ => rfl⟩

theorem trans {u v : Work} (h : w.CaskOnly n u) (h' : u.CaskOnly n v) : w.CaskOnly n v := by
  obtain ⟨k, hk⟩ := h.chan
  obtain ⟨k', hk'⟩ := h'.chan
  exact ⟨fun a ha => (h'.reg a ha).trans (h.reg a ha), ⟨k', by rw [hk', hk]⟩, fun m hm => (h'.others m hm).trans (h.others m hm)⟩

theorem foldl {α : Type} (l : List α) (f : Work → α → Work) (h : ∀ (v : Work) (x : α), v.CaskOnly n (f v x)) (w : Work) :
    w.CaskOnly n (l.foldl f w) :=
  List.foldlRecOn (motive := fun v => w.CaskOnly n v) l f (refl w) (fun v hv x _ => hv.trans (h v x))

theorem ev (w : Work) (c i k : Nat) : w.CaskOnly n (w.ev c i k) :=
  ⟨fun _ _ => Work.reg_ev .., ⟨(w.chan n).cask, by rw [Work.chan_ev]⟩, fun _ _ => by rw [Work.chan_ev]⟩

/-- A part of the channel beside its Cask stands. -/
theorem part {v : Work} (h : w.CaskOnly n v) {α : Type} (p : Chan → α) (hp : ∀ c k, p { c with cask := k } = p c) : p (v.chan n) = p (w.chan n) := by
  obtain ⟨k, hk⟩ := h.chan
  rw [hk, hp]

theorem get {v : Work} (h : w.CaskOnly n v) (f : Fld) (m k : Nat) (hf : f.addr m k ∉ caskRegs n) : v.get f m k = w.get f m k := by
  unfold Work.get
  rw [h.reg _ hf]

theorem flag {v : Work} (h : w.CaskOnly n v) (f : Fld) (m k : Nat) (hf : f.addr m k ∉ caskRegs n) : v.flag f m k = w.flag f m k := by
  unfold Work.flag
  rw [h.get f m k hf]

variable (ch : Fin 8)

theorem modChan (w : Work) (f : Chan → Chan) (h : ∀ c, ∃ k : Cask, f c = { c with cask := k }) : w.CaskOnly ch (w.modChan ch f) :=
  ⟨fun _ _ => Work.reg_modChan .., by rw [Work.chan_modChan_fin]; exact h _, fun m hm => Work.chan_modChan_ne _ _ _ _ hm⟩

theorem put (w : Work) (f : Fld) (v : Nat) (hf : f.addr ch 0 ∈ caskRegs ch) : w.CaskOnly ch (w.put f v ch) :=
  ⟨fun a ha => Work.reg_put_of_notMem _ _ _ _ _ a _ ha hf, ⟨(w.chan ch).cask, by rw [Work.chan_put]⟩, fun m _ => by rw [Work.chan_put]⟩

theorem raiseEntry (w : Work) (e : Entry) : w.CaskOnly ch (w.raiseEntry ch e) :=
  ⟨fun a ha => w.reg_raiseEntry _ _ a (fun h => ha (List.mem_cons_of_mem _ h)), w.chan_raiseEntry_cask ch ch e,
    fun m hm => w.chan_raiseEntry_ne ch m e hm⟩

theorem compatAppend (w : Work) (k t : Nat) (pressed : Bool) : w.CaskOnly ch (w.compatAppend ch k t pressed) := by
  unfold Work.compatAppend
  refine iteInduction (motive := fun v : Work => w.CaskOnly ch v) (fun _ => put ch w F.CASK_COMPAT_QOVF 1 List.mem_cons_self)
    (fun _ => ?_)
  exact (modChan ch w _ (fun c => ⟨_, rfl⟩)).trans (put ch _ F.CASK_COMPAT_QCOUNT _ List.mem_cons_self)

theorem compatBatch (w : Work) : w.CaskOnly ch (w.compatBatch ch) := by
  unfold Work.compatBatch
  exact (modChan ch w _ (fun c => ⟨_, rfl⟩)).trans
    (foldl _ (fun (v : Work) (x : Nat × Nat × Bool) => v.compatAppend ch x.1 x.2.1 x.2.2) (fun v x => compatAppend ch v _ _ _) _)

theorem storeBatch (w : Work) : w.CaskOnly ch (w.storeBatch ch) := by
  have hbatch : ∀ (l : List Waiting) (v : Work),
      v.CaskOnly ch (l.foldl (fun v e => v.raiseEntry ch ⟨e.kind, e.code, e.flags, e.value, e.stamp⟩) v) :=
    fun l v => foldl l _ (fun v _ => raiseEntry ch v _) v
  have hlater : ∀ (l : List Entry) (v : Work), v.CaskOnly ch (l.foldl (fun v e => v.raiseEntry ch e) v) :=
    fun l v => foldl l _ (fun v _ => raiseEntry ch v _) v
  unfold Work.storeBatch
  exact (((modChan ch w _ (fun c => ⟨_, rfl⟩)).trans (hbatch _ _)).trans (compatBatch ch _)).trans (hlater _ _)

theorem entryBatch (w : Work) (e : Waiting) : w.CaskOnly ch (w.entryBatch ch e) := modChan ch w _ (fun _ => ⟨_, rfl⟩)

theorem closeBatch (w : Work) : w.CaskOnly ch (w.closeBatch ch) := by
  unfold Work.closeBatch
  exact iteInduction (motive := fun v : Work => w.CaskOnly ch v) (fun _ => refl w) (fun _ => storeBatch ch w)

end Work.CaskOnly
end Sys2Proof.Machine
end

section
/-! PROOF. The sink governor, a predriver limit and a dissipation capture (R98, R106, R108, R109, R118, R125). -/

namespace Sys2Proof.Machine

/-! ### The sink governor -/

/-- What a decision does with the gain: reduce, raise, or hold it (R108). -/
def Work.governed (w : Work) (n p cap : Nat) : Work :=
  if (w.curFlag F.LED_CFG_GOV_EN n && !(w.chan n).led.fastNow) ∧ 475 * cap < p then
    (((w.setGain n (w.get F.LED_GOV_GAIN n * 475 * cap / p)).putFlag F.LED_GOV_STATE true n).raise F.LED_STAT_GOV n).thermal n 1 p
      (w.get F.LED_GOV_GAIN n * 475 * cap / p)
  else if (w.curFlag F.LED_CFG_GOV_EN n && !(w.chan n).led.fastNow) ∧ w.flag F.LED_GOV_STATE n ∧ p < 425 * cap then
    if Nat.min 65536 (w.get F.LED_GOV_GAIN n * 17 / 16) = 65536 then
      (w.setGain n (Nat.min 65536 (w.get F.LED_GOV_GAIN n * 17 / 16))).thermal n 3 p (Nat.min 65536 (w.get F.LED_GOV_GAIN n * 17 / 16))
    else w.setGain n (Nat.min 65536 (w.get F.LED_GOV_GAIN n * 17 / 16))
  else w

/-- The warning of an average that rises past nine tenths of the budget (R109). -/
def Work.warned (w : Work) (n p cap prev : Nat) : Work :=
  if 450 * cap < p ∧ prev ≤ 450 * cap then (w.raise F.LED_STAT_WARN n).thermal n 0 p (w.get F.LED_GOV_GAIN n) else w

/-- A due decision: the gain, the warning, and the tick's batch closed. -/
theorem sinkGovDecision_of (w : Work) (n : Nat) (p cap : Nat) (hdue : (w.chan n).led.decide = true) (hp : p = meanEst (w.chan n).led.est)
    (hcap : cap = w.budget (w.cur F.LED_PWR_CFG_SINK_MW n)) :
    sinkGovDecision w n = (((w.governed n p cap).warned n p cap (w.chan n).led.prevAvg).modLed n (fun l => { l with decide := false, prevAvg := p })).closeBatch n := by
  subst hp hcap
  unfold sinkGovDecision
  simp only [hdue, Bool.not_true, Bool.false_eq_true, if_false]
  rfl

theorem Work.get_thermal (w : Work) (n code uw gain : Nat) (f : Fld) (m : Nat) : (w.thermal n code uw gain).get f m = w.get f m := rfl

theorem Work.flag_thermal (w : Work) (n code uw gain : Nat) (f : Fld) (m : Nat) : (w.thermal n code uw gain).flag f m = w.flag f m := rfl

/-- The two words that the governor writes. -/
def govRegs (n : Nat) : List Nat := [R.LED_GOV.addr n 0, R.LED_STAT.addr n 0]

/-- Between two working states all stands but the words of the governor of channel `n`, and its Cask. -/
structure Work.GovOnly (n : Nat) (w v : Work) : Prop where
  reg : ∀ a, a ∉ govRegs n → v.reg a = w.reg a
  wr : v.wr = w.wr
  chan : ∃ k : Cask, v.chan n = { w.chan n with cask := k }

namespace Work.GovOnly

variable {n : Nat} {w : Work}

theorem refl (w : Work) : w.GovOnly n w := ⟨fun _ _ => rfl, rfl, ⟨_, rfl⟩⟩

theorem trans {u v : Work} (h : w.GovOnly n u) (h' : u.GovOnly n v) : w.GovOnly n v := by
  obtain ⟨k, hk⟩ := h.chan
  obtain ⟨k', hk'⟩ := h'.chan
  exact ⟨fun a ha => (h'.reg a ha).trans (h.reg a ha), h'.wr.trans h.wr, ⟨k', by rw [hk', hk]⟩⟩

theorem put (w : Work) (n : Nat) (f : Fld) (v : Nat) (hf : f.addr n 0 ∈ govRegs n) : w.GovOnly n (w.put f v n) :=
  ⟨fun a ha => Work.reg_put_of_notMem _ _ _ _ _ a _ ha hf, rfl, ⟨(w.chan n).cask, by rw [Work.chan_put]⟩⟩

theorem setGain (w : Work) (n g : Nat) : w.GovOnly n (w.setGain n g) := by
  have hev : w.GovOnly n (if w.get F.LED_GOV_GAIN n = g then w else w.ev 0x2B n) :=
    iteInduction (motive := fun v : Work => w.GovOnly n v) (fun _ => refl w)
      (fun _ => ⟨fun a _ => Work.reg_ev .., Work.ev_wr .., ⟨(w.chan n).cask, by rw [Work.chan_ev]⟩⟩)
  unfold Work.setGain
  exact (hev.trans (put _ n F.LED_GOV_GAIN g List.mem_cons_self)).trans (put _ n F.LED_GOV_STATE _ List.mem_cons_self)

variable (ch : Fin 8)

theorem thermal (w : Work) (code uw gain : Nat) : w.GovOnly ch (w.thermal ch code uw gain) :=
  ⟨fun _ _ => Work.reg_modChan .., rfl, by unfold Work.thermal Work.entryBatch; rw [Work.chan_modChan_fin]; exact ⟨_, rfl⟩⟩

theorem governed (w : Work) (p cap : Nat) : w.GovOnly ch (w.governed ch p cap) := by
  unfold Work.governed
  refine iteInduction (motive := fun v : Work => w.GovOnly ch v) (fun _ => ?_) (fun _ => ?_)
  · exact (((setGain w ch _).trans (put _ ch F.LED_GOV_STATE _ List.mem_cons_self)).trans
      (put _ ch F.LED_STAT_GOV _ (List.mem_cons_of_mem _ List.mem_cons_self))).trans (thermal ch _ _ _ _)
  · refine iteInduction (motive := fun v : Work => w.GovOnly ch v) (fun _ => ?_) (fun _ => refl w)
    exact iteInduction (motive := fun v : Work => w.GovOnly ch v) (fun _ => (setGain w ch _).trans (thermal ch _ _ _ _))
      (fun _ => setGain w ch _)

theorem warned (w : Work) (p cap prev : Nat) : w.GovOnly ch (w.warned ch p cap prev) := by
  unfold Work.warned
  exact iteInduction (motive := fun v : Work => w.GovOnly ch v)
    (fun _ => (put w ch F.LED_STAT_WARN 1 (List.mem_cons_of_mem _ List.mem_cons_self)).trans (thermal ch _ _ _ _)) (fun _ => refl w)

end Work.GovOnly

/-! ### What a decision leaves -/

/-- The words of the governor lie outside the Cask. -/
theorem gov_notMem_caskRegs (ch : Fin 8) : ∀ f ∈ [F.LED_GOV_GAIN, F.LED_GOV_STATE, F.LED_STAT_GOV, F.LED_STAT_WARN], f.addr ch 0 ∉ caskRegs ch := by
  decide +revert

section
variable (s : State) (ch : Fin 8) (p cap : Nat) (hdue : (s.chan ch).led.decide = true) (hp : p = meanEst (s.chan ch).led.est)
  (hcap : cap = s.work.budget (s.work.cur F.LED_PWR_CFG_SINK_MW ch))
include hdue hp hcap

/-- The fields of the governor read after the decision what its steps left. -/
theorem State.sinkGov_fields (f : Fld) (hf : f ∈ [F.LED_GOV_GAIN, F.LED_GOV_STATE, F.LED_STAT_GOV, F.LED_STAT_WARN]) :
    (s.run (fun w => sinkGovDecision w ch)).get f ch = ((s.work.governed ch p cap).warned ch p cap (s.chan ch).led.prevAvg).get f ch := by
  rw [State.run_get, sinkGovDecision_of s.work ch p cap hdue hp hcap, (Work.CaskOnly.closeBatch ch _).get f ch 0 (gov_notMem_caskRegs ch f hf)]
  rfl

/-- The decision is taken, its average kept, and, where the lamp's own is still due, no batch is stored. -/
theorem State.sinkGov_rest (l : List Nat) (hl : ∀ a, a ∉ l → ((s.work.governed ch p cap).warned ch p cap (s.chan ch).led.prevAvg).reg a = s.reg a) :
    ((s.run (fun w => sinkGovDecision w ch)).chan ch).led.decide = false ∧ ((s.run (fun w => sinkGovDecision w ch)).chan ch).led.prevAvg = p ∧
      ((s.chan ch).lamp.decide = true → s.sameRegs (s.run (fun w => sinkGovDecision w ch)) l ∧ (s.run (fun w => sinkGovDecision w ch)).mem = s.mem) := by
  have hsteps := (Work.GovOnly.governed ch s.work p cap).trans (Work.GovOnly.warned ch _ p cap (s.chan ch).led.prevAvg)
  have hend := sinkGovDecision_of s.work ch p cap hdue hp hcap
  obtain ⟨k, hk⟩ := hsteps.chan
  change ∀ a, a ∉ l → ((s.work.governed ch p cap).warned ch p cap (s.work.chan ch).led.prevAvg).reg a = s.reg a at hl
  change ((s.work.governed ch p cap).warned ch p cap (s.work.chan ch).led.prevAvg).chan ch = _ at hk
  have hwr : ((s.work.governed ch p cap).warned ch p cap (s.work.chan ch).led.prevAvg).wr = [] := hsteps.wr
  generalize (s.work.governed ch p cap).warned ch p cap (s.work.chan ch).led.prevAvg = v at hend hl hk hwr
  have hled : ((sinkGovDecision s.work ch).chan ch).led = { (v.chan ch).led with decide := false, prevAvg := p } := by
    rw [hend, (Work.CaskOnly.closeBatch ch _).part Chan.led (fun _ _ => rfl)]
    unfold Work.modLed
    rw [Work.chan_modChan_fin]
  refine ⟨?_, ?_, fun hlamp => ?_⟩
  · rw [State.run_chan, hled]
  · rw [State.run_chan, hled]
  · have hopen : sinkGovDecision s.work ch = v.modLed ch (fun x => { x with decide := false, prevAvg := p }) := by
      have hdecide : ((v.modLed ch (fun x => { x with decide := false, prevAvg := p })).chan ch).lamp.decide = true := by
        unfold Work.modLed
        rw [Work.chan_modChan_fin, hk]
        exact hlamp
      rw [hend]
      unfold Work.closeBatch
      exact if_pos (Or.inr hdecide)
    refine ⟨fun a ha => ?_, ?_⟩
    · rw [State.run_reg, hopen]
      exact hl a ha
    · rw [State.run_mem, hopen]
      exact congrArg (fun x => commitMem x s.mem) hwr

theorem State.sinkGov_flag (f : Fld) (hf : f ∈ [F.LED_GOV_GAIN, F.LED_GOV_STATE, F.LED_STAT_GOV, F.LED_STAT_WARN]) :
    (s.run (fun w => sinkGovDecision w ch)).flag f ch = ((s.work.governed ch p cap).warned ch p cap (s.chan ch).led.prevAvg).flag f ch := by
  unfold State.flag Work.flag
  rw [← s.sinkGov_fields ch p cap hdue hp hcap f hf]
  rfl

omit hdue hp hcap in
/-- The two words of the governor and no other are written. -/
theorem State.sinkGov_words : ∀ a, a ∉ [R.LED_GOV.addr ch 0, R.LED_STAT.addr ch 0] →
    ((s.work.governed ch p cap).warned ch p cap (s.chan ch).led.prevAvg).reg a = s.reg a := fun a ha =>
  ((Work.GovOnly.governed ch s.work p cap).trans (Work.GovOnly.warned ch _ p cap _)).reg a ha

end

/-- A warning leaves the gain and the governor's state. -/
theorem Work.get_warned (w : Work) (n p cap prev : Nat) (f : Fld) (hf : f ∈ [F.LED_GOV_GAIN, F.LED_GOV_STATE, F.LED_STAT_GOV]) :
    (w.warned n p cap prev).get f n = w.get f n := by
  have hapart : ∀ f ∈ [F.LED_GOV_GAIN, F.LED_GOV_STATE, F.LED_STAT_GOV], fieldsApart F.LED_STAT_WARN f = true := by decide
  unfold Work.warned
  refine iteInduction (motive := fun v : Work => v.get f n = w.get f n) (fun _ => ?_) (fun _ => rfl)
  rw [Work.get_thermal]
  exact w.get_put_apart F.LED_STAT_WARN f 1 n (hapart f hf)

theorem Work.flag_warned (w : Work) (n p cap prev : Nat) (f : Fld) (hf : f ∈ [F.LED_GOV_GAIN, F.LED_GOV_STATE, F.LED_STAT_GOV]) :
    (w.warned n p cap prev).flag f n = w.flag f n := by
  unfold Work.flag
  rw [w.get_warned n p cap prev f hf]

/-- A new gain and its state, as the word shows them. -/
theorem Work.get_setGain (w : Work) (n g : Nat) : (w.setGain n g).get F.LED_GOV_GAIN n = g % 2 ^ 17 ∧ (w.setGain n g).flag F.LED_GOV_STATE n = decide (g < 65536) := by
  unfold Work.setGain
  simp only [Work.putFlag_eq]
  refine ⟨?_, ?_⟩
  · rw [Work.get_put_apart _ F.LED_GOV_STATE F.LED_GOV_GAIN _ _ (by decide), Work.get_put_same _ _ _ _ _ (by decide)]
    rfl
  · rw [Work.flag_put_same _ _ _ _ _ rfl]
    cases decide (g < 65536) <;> rfl

theorem ledAndIntegrity_reduce (s : State) (ch : Fin 8) (p cap : Nat) (hdue : (s.chan ch).led.decide = true)
    (hslow : (s.chan ch).led.fastNow = false) (hen : s.work.curFlag F.LED_CFG_GOV_EN ch = true) (hp : p = meanEst (s.chan ch).led.est)
    (hcap : cap = s.work.budget (s.work.cur F.LED_PWR_CFG_SINK_MW ch)) (hover : 475 * cap < p)
    (t : State) (ht : t = s.run (fun w => sinkGovDecision w ch)) :
    t.get F.LED_GOV_GAIN ch = s.get F.LED_GOV_GAIN ch * 475 * cap / p ∧ t.flag F.LED_GOV_STATE ch = true ∧
      t.flag F.LED_STAT_GOV ch = true ∧ (t.chan ch).led.decide = false ∧ (t.chan ch).led.prevAvg = p ∧
      ((s.chan ch).lamp.decide = true → s.sameRegs t [R.LED_GOV.addr ch 0, R.LED_STAT.addr ch 0] ∧ t.mem = s.mem) := by
  subst ht
  have hgov : (s.work.curFlag F.LED_CFG_GOV_EN ch && !(s.work.chan ch).led.fastNow) = true := by
    rw [hen, show (s.work.chan ch).led.fastNow = false from hslow]
    rfl
  have hreduced : s.work.governed ch p cap = (((s.work.setGain ch (s.get F.LED_GOV_GAIN ch * 475 * cap / p)).put F.LED_GOV_STATE 1 ch).put
      F.LED_STAT_GOV 1 ch).thermal ch 1 p (s.get F.LED_GOV_GAIN ch * 475 * cap / p) := by
    unfold Work.governed
    rw [if_pos ⟨hgov, hover⟩]
    rfl
  have hsmall : s.get F.LED_GOV_GAIN ch * 475 * cap / p < 2 ^ 17 := by
    have hgain : s.get F.LED_GOV_GAIN ch < 2 ^ 17 := s.get_lt F.LED_GOV_GAIN ch 0
    refine lt_of_le_of_lt (Nat.div_le_of_le_mul ?_) hgain
    rw [Nat.mul_assoc, Nat.mul_comm p]
    exact Nat.mul_le_mul_left _ (le_of_lt hover)
  refine ⟨?_, ?_, ?_, s.sinkGov_rest ch p cap hdue hp hcap _ (s.sinkGov_words ch p cap)⟩
  · rw [s.sinkGov_fields ch p cap hdue hp hcap _ (by decide), Work.get_warned _ _ _ _ _ _ (by decide), hreduced, Work.get_thermal,
      Work.get_put_apart _ F.LED_STAT_GOV F.LED_GOV_GAIN _ _ (by decide), Work.get_put_apart _ F.LED_GOV_STATE F.LED_GOV_GAIN _ _ (by decide),
      (s.work.get_setGain ch _).1, Nat.mod_eq_of_lt hsmall]
  · rw [s.sinkGov_flag ch p cap hdue hp hcap _ (by decide), Work.flag_warned _ _ _ _ _ _ (by decide), hreduced, Work.flag_thermal,
      Work.flag_put_apart _ F.LED_STAT_GOV F.LED_GOV_STATE _ _ (by decide), Work.flag_put_same _ _ _ _ _ rfl]
    rfl
  · rw [s.sinkGov_flag ch p cap hdue hp hcap _ (by decide), Work.flag_warned _ _ _ _ _ _ (by decide), hreduced, Work.flag_thermal,
      Work.flag_put_same _ _ _ _ _ rfl]
    rfl

theorem ledAndIntegrity_raise (s : State) (ch : Fin 8) (p cap : Nat) (hdue : (s.chan ch).led.decide = true)
    (hslow : (s.chan ch).led.fastNow = false) (hen : s.work.curFlag F.LED_CFG_GOV_EN ch = true) (hp : p = meanEst (s.chan ch).led.est)
    (hcap : cap = s.work.budget (s.work.cur F.LED_PWR_CFG_SINK_MW ch)) (hlimiting : s.flag F.LED_GOV_STATE ch = true) (hunder : p < 425 * cap)
    (t : State) (ht : t = s.run (fun w => sinkGovDecision w ch)) :
    t.get F.LED_GOV_GAIN ch = Nat.min 65536 (s.get F.LED_GOV_GAIN ch * 17 / 16) ∧
      t.flag F.LED_GOV_STATE ch = decide (s.get F.LED_GOV_GAIN ch * 17 / 16 < 65536) ∧
      (t.chan ch).led.decide = false ∧ (t.chan ch).led.prevAvg = p ∧
      ((s.chan ch).lamp.decide = true → s.sameRegs t [R.LED_GOV.addr ch 0, R.LED_STAT.addr ch 0] ∧ t.mem = s.mem) := by
  subst ht
  have hgov : (s.work.curFlag F.LED_CFG_GOV_EN ch && !(s.work.chan ch).led.fastNow) = true := by
    rw [hen, show (s.work.chan ch).led.fastNow = false from hslow]
    rfl
  have hnot : ¬ ((s.work.curFlag F.LED_CFG_GOV_EN ch && !(s.work.chan ch).led.fastNow) = true ∧ 475 * cap < p) := fun h => by omega
  have hfields : ∀ f, (s.work.governed ch p cap).get f ch = (s.work.setGain ch (Nat.min 65536 (s.get F.LED_GOV_GAIN ch * 17 / 16))).get f ch := by
    intro f
    unfold Work.governed
    rw [if_neg hnot, if_pos ⟨hgov, hlimiting, hunder⟩]
    exact iteInduction (motive := fun v : Work => v.get f ch = (s.work.setGain ch (Nat.min 65536 (s.get F.LED_GOV_GAIN ch * 17 / 16))).get f ch)
      (fun _ => Work.get_thermal _ _ _ _ _ f ch) (fun _ => rfl)
  obtain ⟨hgain, hstate⟩ := s.work.get_setGain ch (Nat.min 65536 (s.get F.LED_GOV_GAIN ch * 17 / 16))
  have hmin : Nat.min 65536 (s.get F.LED_GOV_GAIN ch * 17 / 16) ≤ 65536 := Nat.min_le_left _ _
  refine ⟨?_, ?_, s.sinkGov_rest ch p cap hdue hp hcap _ (s.sinkGov_words ch p cap)⟩
  · rw [s.sinkGov_fields ch p cap hdue hp hcap _ (by decide), Work.get_warned _ _ _ _ _ _ (by decide), hfields, hgain]
    exact Nat.mod_eq_of_lt (by omega)
  · rw [s.sinkGov_flag ch p cap hdue hp hcap _ (by decide), Work.flag_warned _ _ _ _ _ _ (by decide)]
    refine (congrArg (· == 1) (hfields F.LED_GOV_STATE)).trans (hstate.trans ?_)
    refine decide_eq_decide.mpr ?_
    change min 65536 _ < 65536 ↔ _
    omega

theorem ledAndIntegrity_hold (s : State) (ch : Fin 8) (p cap : Nat) (hdue : (s.chan ch).led.decide = true) (hp : p = meanEst (s.chan ch).led.est)
    (hcap : cap = s.work.budget (s.work.cur F.LED_PWR_CFG_SINK_MW ch))
    (hhold : s.work.curFlag F.LED_CFG_GOV_EN ch = false ∨ (s.chan ch).led.fastNow = true ∨ (425 * cap ≤ p ∧ p ≤ 475 * cap))
    (hcalm : p ≤ 450 * cap ∨ 450 * cap < (s.chan ch).led.prevAvg)
    (t : State) (ht : t = s.run (fun w => sinkGovDecision w ch)) :
    t.get F.LED_GOV_GAIN ch = s.get F.LED_GOV_GAIN ch ∧ t.flag F.LED_GOV_STATE ch = s.flag F.LED_GOV_STATE ch ∧
      (t.chan ch).led.decide = false ∧ (t.chan ch).led.prevAvg = p ∧
      ((s.chan ch).lamp.decide = true → s.sameRegs t [] ∧ t.mem = s.mem) := by
  subst ht
  have hoff : (s.work.curFlag F.LED_CFG_GOV_EN ch && !(s.work.chan ch).led.fastNow) = true → 425 * cap ≤ p ∧ p ≤ 475 * cap := by
    intro hgov
    simp only [Bool.and_eq_true, Bool.not_eq_true'] at hgov
    rcases hhold with h | h | h
    · exact absurd (h.symm.trans hgov.1) (by decide)
    · exact absurd ((show (s.work.chan ch).led.fastNow = true from h).symm.trans hgov.2) (by decide)
    · exact h
  have hsame : (s.work.governed ch p cap).warned ch p cap (s.chan ch).led.prevAvg = s.work := by
    have hgoverned : s.work.governed ch p cap = s.work := by
      unfold Work.governed
      rw [if_neg (fun h => absurd h.2 (by have := (hoff h.1).2; omega)), if_neg (fun h => absurd h.2.2 (by have := (hoff h.1).1; omega))]
    rw [hgoverned]
    unfold Work.warned
    exact if_neg (by omega)
  refine ⟨?_, ?_, s.sinkGov_rest ch p cap hdue hp hcap [] (fun a _ => by rw [hsame]; rfl)⟩
  · rw [s.sinkGov_fields ch p cap hdue hp hcap _ (by decide), hsame]
    rfl
  · rw [s.sinkGov_flag ch p cap hdue hp hcap _ (by decide), hsame]
    rfl

theorem ledAndIntegrity_warn (s : State) (ch : Fin 8) (p cap : Nat) (hdue : (s.chan ch).led.decide = true) (hp : p = meanEst (s.chan ch).led.est)
    (hcap : cap = s.work.budget (s.work.cur F.LED_PWR_CFG_SINK_MW ch)) (hhigh : 450 * cap < p) (hlow : (s.chan ch).led.prevAvg ≤ 450 * cap)
    (t : State) (ht : t = s.run (fun w => sinkGovDecision w ch)) :
    t.flag F.LED_STAT_WARN ch = true ∧ (t.chan ch).led.decide = false ∧ (t.chan ch).led.prevAvg = p ∧
      ((s.chan ch).lamp.decide = true → s.sameRegs t [R.LED_GOV.addr ch 0, R.LED_STAT.addr ch 0] ∧ t.mem = s.mem) := by
  subst ht
  refine ⟨?_, s.sinkGov_rest ch p cap hdue hp hcap _ (s.sinkGov_words ch p cap)⟩
  rw [s.sinkGov_flag ch p cap hdue hp hcap _ (by decide)]
  unfold Work.warned
  rw [if_pos ⟨hhigh, hlow⟩, Work.flag_thermal]
  unfold Work.raise
  rw [Work.flag_put_same _ _ _ _ _ rfl]
  rfl

/-! ### A predriver limit and a dissipation capture -/

theorem ledAndIntegrity_limit (s : State) (ch : Fin 8) (x : SlotRun) (hcur : (s.chan ch).seq.cur = some x) (hkind : x.kind = kDisplay)
    (hled : (s.chan ch).seq.act.isLcd = false) (t : State) (ht : t = s.run (fun w => predriverCurrentLimit w ch)) :
    t.flag F.LED_STAT_COM_OC ch = true ∧ t.get F.LED_STAT_COM_OC_DIG ch = ((s.chan ch).seq.nDisp - 1) % 16 ∧
      (t.chan ch).led.ocNow = true ∧ s.sameRegs t [R.LED_STAT.addr ch 0] ∧ t.mem = s.mem := by
  subst ht
  have hend : predriverCurrentLimit s.work ch = ((s.work.modLed ch (fun l => { l with ocNow := true })).put F.LED_STAT_COM_OC 1 ch).put
      F.LED_STAT_COM_OC_DIG ((s.chan ch).seq.nDisp - 1) ch := by
    unfold predriverCurrentLimit
    simp only [show (s.work.chan ch).seq.cur = some x from hcur, hkind, show (s.work.chan ch).seq.act.isLcd = false from hled, Bool.not_false,
      and_self, if_true]
    rfl
  refine ⟨?_, ?_, ?_, fun a ha => ?_, ?_⟩
  · rw [State.run_flag, hend, Work.flag_put_apart _ F.LED_STAT_COM_OC_DIG F.LED_STAT_COM_OC _ _ (by decide), Work.flag_put_same _ _ _ _ _ rfl]
    rfl
  · rw [State.run_get, hend, Work.get_put_same _ _ _ _ _ (by decide)]
    rfl
  · rw [State.run_chan, hend, Work.chan_put, Work.chan_put]
    unfold Work.modLed
    rw [Work.chan_modChan_fin]
  · have hne : a ≠ R.LED_STAT.addr ch 0 := fun e => ha (e ▸ List.mem_cons_self)
    rw [State.run_reg, hend, Work.reg_put_ne _ F.LED_STAT_COM_OC_DIG _ _ _ _ hne, Work.reg_put_ne _ F.LED_STAT_COM_OC _ _ _ _ hne]
    rfl
  · rw [State.run_mem, hend]
    rfl

/-- The count of failing results after a result (R125). -/
def failsAfter (fails : Tab Nat) (key : Nat) (pass : Bool) : Tab Nat :=
  if pass then tabErase fails key else tabInsert fails key (tabGet fails 0 key + 1)

theorem tabFind_failsAfter_same (fails : Tab Nat) (key : Nat) (pass : Bool) :
    tabFind (failsAfter fails key pass) key = if pass then none else some (tabGet fails 0 key + 1) := by
  unfold failsAfter
  cases pass
  · exact tabFind_tabInsert_same _ _ _
  · exact tabFind_tabErase_same _ _

theorem tabFind_failsAfter_ne (fails : Tab Nat) (key k : Nat) (pass : Bool) (h : key ≠ k) :
    tabFind (failsAfter fails key pass) k = tabFind fails k := by
  unfold failsAfter
  cases pass
  · exact tabFind_tabInsert_ne _ _ _ _ h
  · exact tabFind_tabErase_ne _ _ _ h

/-- A result in an element's recheck counts no failing result. -/
theorem Integ.fails_recheckOne (g : Integ) (key : Nat) (pass : Bool) (e : Nat) : (g.recheckOne key pass e).fails = g.fails := by
  unfold Integ.recheckOne
  split
  · rfl
  · split
    · rfl
    · exact iteInduction (motive := fun x : Integ => x.fails = g.fails) (fun _ => rfl)
        (fun _ => iteInduction (motive := fun x : Integ => x.fails = g.fails) (fun _ => rfl) (fun _ => rfl))

/-- Between two working states stands all but the integrity engine of channel `n`, in registers, memory and the other parts of
its channel. -/
structure Work.IntegOnly (n : Fin 8) (w v : Work) : Prop where
  regs : v.regs = w.regs
  wr : v.wr = w.wr
  chan : ∃ g : Integ, v.chan n = { w.chan n with integ := g }

namespace Work.IntegOnly

variable {n : Fin 8} {w : Work}

theorem refl (w : Work) : w.IntegOnly n w := ⟨rfl, rfl, ⟨_, rfl⟩⟩

theorem trans {u v : Work} (h : w.IntegOnly n u) (h' : u.IntegOnly n v) : w.IntegOnly n v := by
  obtain ⟨g, hg⟩ := h.chan
  obtain ⟨g', hg'⟩ := h'.chan
  exact ⟨h'.regs.trans h.regs, h'.wr.trans h.wr, ⟨g', by rw [hg', hg]⟩⟩

theorem ev (w : Work) (c i k : Nat) : w.IntegOnly n (w.ev c i k) := ⟨Work.ev_regs .., Work.ev_wr .., ⟨(w.chan n).integ, by rw [Work.chan_ev]⟩⟩

theorem modInteg (w : Work) (f : Integ → Integ) : w.IntegOnly n (w.modInteg n f) := by
  unfold Work.modInteg
  exact ⟨rfl, rfl, by rw [Work.chan_modChan_fin]; exact ⟨_, rfl⟩⟩

/-- A setting in force is the same. -/
theorem cur {v : Work} (h : w.IntegOnly n v) (f : Fld) : v.cur f n = w.cur f n := by
  obtain ⟨g, hg⟩ := h.chan
  have hreg : ∀ a, v.reg a = w.reg a := fun a => by unfold Work.reg; rw [h.regs]
  unfold Work.cur Work.curReg
  rw [hg]
  dsimp only
  split
  · rfl
  · rw [hreg]

end Work.IntegOnly

theorem Work.fails_modInteg (w : Work) (n : Fin 8) (f : Integ → Integ) : ((w.modInteg n f).chan n).integ.fails = (f (w.chan n).integ).fails := by
  unfold Work.modInteg
  rw [Work.chan_modChan_fin]

/-- A result of a check that stands for no line changes the integrity engine alone, and of the counts its own (R125). -/
theorem Work.result_noLine (w : Work) (n : Fin 8) (key : Nat) (pass : Bool) (elems : List Nat) (state : Nat) :
    w.IntegOnly n (w.result n key pass elems state none) ∧
      ((w.result n key pass elems state none).chan n).integ.fails = failsAfter (w.chan n).integ.fails key pass := by
  obtain ⟨u, hu, honly, hfails⟩ : ∃ u : Work, u = (if pass then w.ev 0x21 n else (w.ev 0x21 n).ev 0x22 n).recheckResult n key pass elems ∧
      w.IntegOnly n u ∧ (u.chan n).integ.fails = (w.chan n).integ.fails := by
    have hev : w.IntegOnly n (if pass then w.ev 0x21 n else (w.ev 0x21 n).ev 0x22 n) ∧
        (if pass then w.ev 0x21 n else (w.ev 0x21 n).ev 0x22 n).chan n = w.chan n :=
      iteInduction (motive := fun v : Work => w.IntegOnly n v ∧ v.chan n = w.chan n) (fun _ => ⟨.ev .., Work.chan_ev ..⟩)
        (fun _ => ⟨.trans (.ev ..) (.ev ..), by rw [Work.chan_ev, Work.chan_ev]⟩)
    refine ⟨_, rfl, hev.1.trans (.modInteg _ _), ?_⟩
    unfold Work.recheckResult
    rw [Work.fails_modInteg, hev.2]
    exact List.foldlRecOn (motive := fun g : Integ => g.fails = (w.chan n).integ.fails) elems _ rfl
      (fun g hg e _ => (g.fails_recheckOne key pass e).trans hg)
  unfold Work.result Work.setLineState
  dsimp only
  rw [← hu, ← hfails]
  unfold failsAfter
  refine iteInduction (motive := fun v : Work => w.IntegOnly n v ∧ (v.chan n).integ.fails = if pass then _ else _) (fun hpass => ?_)
    (fun hfail => iteInduction (motive := fun v : Work => w.IntegOnly n v ∧ (v.chan n).integ.fails = if pass then _ else _) (fun _ => ?_)
      (fun _ => ?_))
  · rw [if_pos hpass]
    exact ⟨honly.trans (.modInteg _ _), Work.fails_modInteg _ _ _⟩
  · rw [if_neg hfail]
    refine ⟨(honly.trans (.modInteg _ _)).trans (.ev ..), ?_⟩
    rw [Work.chan_ev]
    exact Work.fails_modInteg _ _ _
  · rw [if_neg hfail]
    exact ⟨honly.trans (.modInteg _ _), Work.fails_modInteg _ _ _⟩

/-- The chain measurements of a capture, one after another (R118). -/
def Work.chained (w : Work) (n : Nat) (vs : List (Nat × Nat)) : Work :=
  vs.foldl (fun w x => w.result n (1024 + x.1) (decide (x.2 ≤ 50 * w.cur F.INTEG_CHAIN_CHAIN_HI n)) [x.1] 1 none) w

theorem Work.IntegOnly.chained {n : Fin 8} (w : Work) (vs : List (Nat × Nat)) : w.IntegOnly n (w.chained n vs) :=
  List.foldlRecOn (motive := fun v => w.IntegOnly n v) vs _ (refl w) (fun v hv _ _ => hv.trans (v.result_noLine n _ _ _ _).1)

/-- A count whose element is not measured stands. -/
theorem Work.fails_chained_ne (w : Work) (n : Fin 8) (vs : List (Nat × Nat)) (e : Nat) (h : ∀ x ∈ vs, x.1 ≠ e) :
    tabFind ((w.chained n vs).chan n).integ.fails (1024 + e) = tabFind (w.chan n).integ.fails (1024 + e) :=
  List.foldlRecOn (motive := fun v : Work => tabFind (v.chan n).integ.fails (1024 + e) = tabFind (w.chan n).integ.fails (1024 + e)) vs _ rfl
    (fun v hv x hx => by
      rw [(v.result_noLine n _ _ _ _).2, tabFind_failsAfter_ne _ _ _ _ (fun heq => h x hx (Nat.add_left_cancel heq)), hv])

/-- The count of an element measured once. -/
theorem Work.fails_chained (w : Work) (n : Fin 8) (vs : List (Nat × Nat)) (e v : Nat) (hnodup : (vs.map Prod.fst).Nodup) (hmem : (e, v) ∈ vs) :
    tabFind ((w.chained n vs).chan n).integ.fails (1024 + e) =
      if v ≤ 50 * w.cur F.INTEG_CHAIN_CHAIN_HI n then none else some (tabGet (w.chan n).integ.fails 0 (1024 + e) + 1) := by
  induction vs generalizing w with
  | nil => exact absurd hmem List.not_mem_nil
  | cons x vs ih =>
    rw [List.map_cons, List.nodup_cons] at hnodup
    obtain ⟨hfresh, hnodup⟩ := hnodup
    obtain ⟨honly, hfails⟩ := w.result_noLine n (1024 + x.1) (decide (x.2 ≤ 50 * w.cur F.INTEG_CHAIN_CHAIN_HI n)) [x.1] 1
    change tabFind (((w.result n (1024 + x.1) (decide (x.2 ≤ 50 * w.cur F.INTEG_CHAIN_CHAIN_HI n)) [x.1] 1 none).chained n vs).chan n).integ.fails _ = _
    rcases List.mem_cons.mp hmem with rfl | hrest
    · have hothers : ∀ y ∈ vs, y.1 ≠ e := fun y hy he => hfresh (List.mem_map.mpr ⟨y, hy, he⟩)
      rw [Work.fails_chained_ne _ n vs e hothers, hfails, tabFind_failsAfter_same]
      simp only [decide_eq_true_eq]
    · have hne : 1024 + x.1 ≠ 1024 + e := fun heq => hfresh (List.mem_map.mpr ⟨(e, v), hrest, (Nat.add_left_cancel heq).symm⟩)
      rw [ih _ hnodup hrest, honly.cur, hfails]
      unfold tabGet
      rw [tabFind_failsAfter_ne _ _ _ _ hne]

/-- Places that rise, paired with what was measured there. -/
theorem zip_pairwise_lt (l : List Nat) (mv : List Nat) (h : l.Pairwise (· < ·)) : (l.zip mv).Pairwise (fun x y => x.1 < y.1) := by
  induction l generalizing mv with
  | nil => exact List.Pairwise.nil
  | cons a l ih =>
    cases mv with
    | nil => exact List.Pairwise.nil
    | cons b mv =>
      obtain ⟨ha, hl⟩ := List.pairwise_cons.mp h
      exact List.pairwise_cons.mpr ⟨fun x hx => ha x.1 (List.of_mem_zip hx).1, ih mv hl⟩

/-- A capture lists each element once: the places of one group (R106). -/
theorem Work.captured_nodup (w : Work) (n : Nat) (mv : List Nat) : ((w.captured n mv).map Prod.fst).Nodup := by
  have hzip := zip_pairwise_lt (List.range 16) mv List.pairwise_lt_range
  unfold Work.captured
  dsimp only
  split
  · refine iteInduction (motive := fun l : List (Nat × Nat) => (l.map Prod.fst).Nodup) (fun _ => ?_) (fun _ => List.nodup_nil)
    refine List.pairwise_map.mpr (hzip.filterMap _ (fun x y hlt b hb b' hb' => ?_))
    split at hb
    · split at hb'
      · obtain rfl := Option.some.inj hb
        obtain rfl := Option.some.inj hb'
        intro he
        dsimp only at he
        omega
      · exact absurd hb' (by simp)
    · exact absurd hb (by simp)
  · exact List.nodup_nil

/-- The voltages kept change the LED engine alone (R106). -/
theorem Work.keepVolts_same (w : Work) (n : Fin 8) (vs : List (Nat × Nat)) :
    (w.keepVolts n vs).regs = w.regs ∧ (w.keepVolts n vs).wr = w.wr ∧
      (w.keepVolts n vs).chan n = { w.chan n with led := { (w.chan n).led with volts := vs.foldl (fun t x => tabInsert t x.1 x.2) (w.chan n).led.volts } } := by
  unfold Work.keepVolts Work.modLed
  exact ⟨rfl, rfl, Work.chan_modChan_fin ..⟩

theorem ledAndIntegrity_capture (s : State) (ch : Fin 8) (mv : List Nat) (t : State) (ht : t = s.run (fun w => dissipationCapture w ch mv)) :
    (t.chan ch).led.volts = (s.work.captured ch mv).foldl (fun v x => tabInsert v x.1 x.2) (s.chan ch).led.volts ∧ s.sameRegs t [] ∧
      t.mem = s.mem := by
  subst ht
  obtain ⟨hregs, hwr, hchan⟩ := s.work.keepVolts_same ch (s.work.captured ch mv)
  have honly : (s.work.keepVolts ch (s.work.captured ch mv)).IntegOnly ch (dissipationCapture s.work ch mv) := by
    unfold dissipationCapture
    exact iteInduction (motive := fun v : Work => (s.work.keepVolts ch (s.work.captured ch mv)).IntegOnly ch v)
      (fun _ => Work.IntegOnly.chained _ _) (fun _ => .refl _)
  obtain ⟨g, hg⟩ := honly.chan
  refine ⟨?_, fun a _ => ?_, ?_⟩
  · rw [State.run_chan, hg, hchan]
    rfl
  · rw [State.run_reg]
    unfold Work.reg
    rw [honly.regs, hregs]
    rfl
  · rw [State.run_mem, honly.wr, hwr]
    rfl

theorem ledAndIntegrity_chain (s : State) (ch : Fin 8) (mv : List Nat) (e v : Nat) (hchecks : (s.chan ch).checks = true)
    (hen : s.work.curFlag F.INTEG_CFG_CHAIN_EN ch = true) (hmem : (e, v) ∈ s.work.captured ch mv) :
    tabFind ((s.run (fun w => dissipationCapture w ch mv)).chan ch).integ.fails (1024 + e) =
      if v ≤ 50 * s.work.cur F.INTEG_CHAIN_CHAIN_HI ch then none else some (tabGet (s.chan ch).integ.fails 0 (1024 + e) + 1) := by
  obtain ⟨hregs, -, hchan⟩ := s.work.keepVolts_same ch (s.work.captured ch mv)
  have hcur : ∀ f, (s.work.keepVolts ch (s.work.captured ch mv)).cur f ch = s.work.cur f ch := by
    intro f
    unfold Work.cur Work.curReg Work.reg
    rw [hchan, hregs]
  have hchained : dissipationCapture s.work ch mv = (s.work.keepVolts ch (s.work.captured ch mv)).chained ch (s.work.captured ch mv) := by
    unfold dissipationCapture
    refine if_pos ⟨?_, ?_⟩
    · exact (congrArg (· == 1) (hcur F.INTEG_CFG_CHAIN_EN)).trans hen
    · rw [hchan]
      exact hchecks
  rw [State.run_chan, hchained, Work.fails_chained _ ch _ e v (s.work.captured_nodup ch mv) hmem, hcur, hchan]
  rfl

/-- Settles O20: the governor's decision by its four cases, a limit flagged, and a capture kept and counted. -/
theorem ledAndIntegrityCommands : Obligations.LedAndIntegrityCommands := by
  unfold Obligations.LedAndIntegrityCommands
  refine ⟨?_, ?_, ?_, ?_, ?_, ?_, ?_⟩
  · intro s ch p cap hdue hslow hen hp hcap hover
    exact ⟨_, rfl, ledAndIntegrity_reduce s ch p cap hdue hslow hen hp hcap hover _ rfl⟩
  · intro s ch p cap hdue hslow hen hp hcap hlimiting hunder
    exact ⟨_, rfl, ledAndIntegrity_raise s ch p cap hdue hslow hen hp hcap hlimiting hunder _ rfl⟩
  · intro s ch p cap hdue hp hcap hhold hcalm
    exact ⟨_, rfl, ledAndIntegrity_hold s ch p cap hdue hp hcap hhold hcalm _ rfl⟩
  · intro s ch p cap hdue hp hcap hhigh hlow
    exact ⟨_, rfl, ledAndIntegrity_warn s ch p cap hdue hp hcap hhigh hlow _ rfl⟩
  · intro s ch x hcur hkind hled
    exact ⟨_, rfl, ledAndIntegrity_limit s ch x hcur hkind hled _ rfl⟩
  · intro s ch mv
    exact ⟨_, rfl, ledAndIntegrity_capture s ch mv _ rfl⟩
  · intro s ch mv e v hchecks hen hmem
    exact ⟨_, rfl, ledAndIntegrity_chain s ch mv e v hchecks hen hmem⟩

end Sys2Proof.Machine
end

section
/-! PROOF. An emulated plane drawn between an IMAGE_SWAP and its boundary. -/

namespace Sys2Proof.Machine

/-- The delivery of an emulated plane: it carries no command, yet counts as one (R163, R164). -/
def planeDelivery : Delivery := { body := .plane [(0, true)], src := .host, who := none, ord := none, due := none, late := false }

/-- A released device in OPERATE with a HELD channel 0: a plane stands drawn, and an IMAGE_SWAP waits for its boundary. -/
def State.planeDrawn : State :=
  { State.reset with
    dev := { Dev.init with
      regs := [(F.SYS_REL_STEP.addr 0 0, 12), (F.SYS_MODE_MODE.addr 0 0, mdOperate), (F.MASH_CFG_SWAP_MODE.addr 0 0, setBits 0 F.MASH_CFG_SWAP_MODE.hi F.MASH_CFG_SWAP_MODE.lo 1)]
      rst := { Rst.init with hold := .none }
      ch := Dev.init.ch.set 0 { Chan.init with
        inReset := false
        mash := { Chan.init.mash with
          changes := [⟨0, none, none, false, .swap⟩], drawn := some ⟨planeDelivery, [.elem 0 true], [], [], []⟩ } } } }

/-- It commits (R163): it does not go back to the queue. -/
theorem State.planeDrawn_queue :
    ((State.planeDrawn.run (fun w => (mashBurstCommit w 0).drainWraps 9)).chan 0).mash.queue = [] := by
  decide +kernel

/-- Refutes O22: its clause on a burst between an IMAGE_SWAP and its boundary names the deliveries without a command, yet an
emulated plane among them commits. -/
theorem not_mashCommands : ¬ Obligations.MashCommands := by
  unfold Obligations.MashCommands
  rintro ⟨-, -, -, hback, -⟩
  obtain ⟨t, hnext, -, hqueue, -⟩ := hback State.planeDrawn 0 _ rfl rfl (by decide +kernel) (by decide +kernel) (by decide)
  obtain rfl : State.planeDrawn.run (fun w => (mashBurstCommit w 0).drainWraps 9) = t := Host.Outcome.next.inj hnext
  exact absurd (State.planeDrawn_queue.symm.trans hqueue) (List.cons_ne_nil _ _).symm

end Sys2Proof.Machine
end

section
/-! PROOF. One observation of a key (R203, R204). -/

namespace Sys2Proof.Machine

/-! ### What an entry, an acknowledge and the compatible queue leave of the key scanner -/

section
variable (w : Work) (n : Fin 8)

@[simp] theorem Work.grist_modGrist (f : Grist → Grist) : ((w.modGrist n f).chan n).grist = f (w.chan n).grist := by
  unfold Work.modGrist
  rw [Work.chan_modChan_fin]

theorem Work.get_modGrist (f : Grist → Grist) (g : Fld) (m : Nat) : (w.modGrist n f).get g m = w.get g m := rfl

/-- A change of the channel beside its key scanner. -/
theorem Work.grist_modChan (f : Chan → Chan) (h : ∀ c, (f c).grist = c.grist) : ((w.modChan n f).chan n).grist = (w.chan n).grist := by
  rw [Work.chan_modChan_fin, h]

@[simp] theorem Work.grist_entryBatch (e : Waiting) : ((w.entryBatch n e).chan n).grist = (w.chan n).grist := w.grist_modChan n _ (fun _ => rfl)

@[simp] theorem Work.grist_modMash (f : Mash → Mash) : ((w.modMash n f).chan n).grist = (w.chan n).grist := by rw [Work.chan_modMash]

@[simp] theorem Work.grist_compatDeclare (key t : Nat) (pressed : Bool) : ((w.compatDeclare n key t pressed).chan n).grist = (w.chan n).grist := by
  unfold Work.compatDeclare
  split
  · rfl
  · exact w.grist_modChan n _ (fun _ => rfl)

@[simp] theorem Work.grist_deliverPress (key t : Nat) : ((w.deliverPress n key t).chan n).grist = (w.chan n).grist := by
  unfold Work.deliverPress
  rw [Work.grist_compatDeclare, Work.grist_entryBatch]
  exact w.grist_modChan n _ (fun _ => rfl)

@[simp] theorem Work.grist_deliverRelease (key r : Nat) : ((w.deliverRelease n key r).chan n).grist = (w.chan n).grist := by
  unfold Work.deliverRelease
  rw [Work.grist_compatDeclare]
  split
  · rfl
  · exact iteInduction (motive := fun v : Work => (v.chan n).grist = (w.chan n).grist)
      (fun _ => (Work.grist_entryBatch _ n _).trans (w.grist_modChan n _ (fun _ => rfl))) (fun _ => w.grist_modChan n _ (fun _ => rfl))

theorem Work.OnlyTold.pairAcks (mask origin : Nat) (due : Option Nat) (m : Nat) : w.OnlyTold (w.pairAcks m mask origin due) :=
  Work.OnlyTold.foldl w _ _ (fun v _ => Work.OnlyTold.pairCommit v _ _)

/-- The scanner's record of a key declared (R204). -/
def Grist.declared (g : Grist) (key : Nat) (pressed : Bool) : Grist :=
  { g with
    down := if pressed then g.down ++ [key] else g.down.filter (fun k => k != key)
    press := tabErase g.press key, release := tabErase g.release key
    decl := g.decl ++ [(key, pressed)] }

/-- A declaration is the scanner's record of it, with entries and acknowledges beside it. -/
theorem Work.grist_declareKey (key : Nat) (pressed : Bool) :
    ((w.declareKey n key pressed).chan n).grist = (w.chan n).grist.declared key pressed := by
  have hdeclared : ((w.modGrist n (fun g => g.declared key pressed)).ev 0x1F n).chan n = (w.modGrist n (fun g => g.declared key pressed)).chan n :=
    Work.chan_ev ..
  unfold Work.declareKey
  cases pressed with
  | false =>
    exact ((Work.grist_deliverRelease _ n _ _).trans (congrArg Chan.grist hdeclared)).trans (w.grist_modGrist n _)
  | true =>
    have hpress := ((Work.grist_deliverPress _ n key ((w.modGrist n (fun g => g.declared key true)).ev 0x1F n).tick).trans
      (congrArg Chan.grist hdeclared)).trans (w.grist_modGrist n _)
    refine iteInduction (motive := fun v : Work => (v.chan n).grist = (w.chan n).grist.declared key true) (fun _ => ?_) (fun h => absurd rfl h)
    refine iteInduction (motive := fun v : Work => (v.chan n).grist = (w.chan n).grist.declared key true) (fun _ => hpress) (fun _ => ?_)
    refine List.foldlRecOn (motive := fun v : Work => (v.chan n).grist = (w.chan n).grist.declared key true) _ _ hpress (fun v hv mask _ => ?_)
    rw [(Work.OnlyTold.pairAcks _ mask 0 none n).chan, Work.grist_modMash, hv]

end

/-! ### One observation -/

/-- The keys observed frozen, after an observation (R203). -/
def frozenAfter (l : List Nat) (key : Nat) (o : Obs) : List Nat :=
  if o = .frozen then (if l.contains key then l else l ++ [key]) else l.filter (fun k => k != key)

/-- The working state with an observation noted: who is frozen, and HIDDEN_FROZEN. -/
def Work.noted (w : Work) (n key : Nat) (o : Obs) : Work :=
  let v := w.modGrist n (fun g => { g with frozen := frozenAfter g.frozen key o })
  v.put F.GRIST_HIDDEN_FROZEN (setBit (v.get F.GRIST_HIDDEN_FROZEN n (key / 32)) (key % 32) (decide (o = .frozen))) n (key / 32)

section
variable (w : Work) (n : Fin 8) (key : Nat)

theorem Work.grist_noted (o : Obs) : ((w.noted n key o).chan n).grist = { (w.chan n).grist with frozen := frozenAfter (w.chan n).grist.frozen key o } := by
  unfold Work.noted
  rw [Work.chan_put, Work.grist_modGrist]

theorem Work.reg_noted (o : Obs) (a : Nat) (h : a ≠ F.GRIST_HIDDEN_FROZEN.addr n (key / 32)) : (w.noted n key o).reg a = w.reg a := by
  unfold Work.noted
  rw [Work.reg_put_ne _ _ _ _ _ _ h]
  rfl

/-- A setting in force is the same once an observation is noted: HIDDEN_FROZEN is no setting. -/
theorem Work.cur_noted (o : Obs) (f : Fld) (h : f.addr n 0 ≠ F.GRIST_HIDDEN_FROZEN.addr n (key / 32)) :
    (w.noted n key o).cur f n = w.cur f n := by
  have hmash : ((w.noted n key o).chan n).mash = (w.chan n).mash := by
    unfold Work.noted Work.modGrist
    rw [Work.chan_put, Work.chan_modChan_fin]
  unfold Work.cur Work.curReg
  rw [hmash, w.reg_noted n key o _ h]

theorem Work.observe_frozen : w.observe n key .frozen = w.noted n key .frozen := by
  unfold Work.observe Work.noted
  cases (w.chan n).grist.down.contains key <;> rfl

/-- A key not debounced down, observed DOWN: its press is declared, or counted (R203). -/
theorem Work.observe_down (hup : (w.chan n).grist.down.contains key = false) :
    w.observe n key .down =
      if (w.noted n key .down).cur F.GRIST_DEB_PRESS_N n ≤ tabGet (w.chan n).grist.press 0 key + 1 then (w.noted n key .down).declareKey n key true
      else (w.noted n key .down).modGrist n (fun g => { g with press := tabInsert g.press key (tabGet g.press 0 key + 1) }) := by
  obtain ⟨v, hv⟩ : ∃ v, v = w.noted n key .down := ⟨_, rfl⟩
  rw [← hv]
  unfold Work.noted frozenAfter at hv
  unfold Work.observe
  dsimp only at hv ⊢
  rw [hup, ← hv]

/-- A key not debounced down, observed UP: a press begun is a reject (R203). -/
theorem Work.observe_up (hup : (w.chan n).grist.down.contains key = false) (hbegun : tabGet (w.chan n).grist.press 0 key ≠ 0) :
    w.observe n key .up =
      (((w.noted n key .up).modGrist n (fun g => { g with press := tabErase g.press key })).countUp F.GRIST_CNT_REJECTS n).ev 0x1A n := by
  unfold Work.observe
  dsimp only
  rw [hup]
  exact if_neg hbegun

/-- A key debounced down, observed UP: its release is declared, or counted (R203). -/
theorem Work.observe_release (hdown : (w.chan n).grist.down.contains key = true) :
    w.observe n key .up =
      if (w.noted n key .up).cur F.GRIST_DEB_RELEASE_N n ≤ tabGet (w.chan n).grist.release 0 key + 1 then (w.noted n key .up).declareKey n key false
      else (w.noted n key .up).modGrist n (fun g => { g with release := tabInsert g.release key (tabGet g.release 0 key + 1) }) := by
  obtain ⟨v, hv⟩ : ∃ v, v = w.noted n key .up := ⟨_, rfl⟩
  rw [← hv]
  unfold Work.noted frozenAfter at hv
  unfold Work.observe
  dsimp only at hv ⊢
  rw [hdown, ← hv]

end

/-- A register below another of the same channel. -/
theorem addr_ne_of_below (f g : Fld) (n k : Nat) (h : f.base < g.base) : f.addr n 0 ≠ g.addr n k := by
  unfold Fld.addr
  rw [Nat.mul_zero]
  have := Nat.zero_le (g.stride * k)
  omega

/-- Settles O24: an observation is noted, and then declared, counted or rejected as its key stands. -/
theorem keyDebounce : Obligations.KeyDebounce := by
  unfold Obligations.KeyDebounce
  intro w n key k
  have hword : ∀ f ∈ [F.GRIST_DEB_PRESS_N, F.GRIST_DEB_RELEASE_N], f.addr n 0 ≠ F.GRIST_HIDDEN_FROZEN.addr n ((key : Nat) / 32) := by
    intro f hf
    have hbelow : ∀ f ∈ [F.GRIST_DEB_PRESS_N, F.GRIST_DEB_RELEASE_N], f.base < F.GRIST_HIDDEN_FROZEN.base := by decide
    exact addr_ne_of_below f _ n _ (hbelow f hf)
  have hcount : F.GRIST_CNT_REJECTS.addr n 0 ≠ F.GRIST_HIDDEN_FROZEN.addr n ((key : Nat) / 32) :=
    addr_ne_of_below _ _ n _ (by decide)
  have hcur : ∀ o, ∀ f ∈ [F.GRIST_DEB_PRESS_N, F.GRIST_DEB_RELEASE_N], (w.noted n key o).cur f n = w.cur f n :=
    fun o f hf => w.cur_noted n key o f (hword f hf)
  refine ⟨fun hk hup => ⟨fun hfew => ?_, fun hmany => ?_, fun hbegun => ?_⟩, fun hk hdown => ⟨fun hfew => ?_, fun hmany => ?_⟩, ?_⟩
  · rw [w.observe_down n key hup, hcur .down _ (by decide), ← hk, if_neg (by omega), Work.grist_modGrist, Work.grist_noted]
    refine ⟨?_, rfl⟩
    unfold tabGet at hk ⊢
    rw [tabFind_tabInsert_same, Option.getD_some, hk]
  · rw [w.observe_down n key hup, hcur .down _ (by decide), ← hk, if_pos hmany, Work.grist_declareKey, Work.grist_noted]
    refine ⟨rfl, ?_⟩
    unfold Grist.declared
    simp
  · rw [w.observe_up n key hup (by omega)]
    refine ⟨?_, ?_⟩
    · rw [Work.chan_ev, Work.countUp_eq, Work.chan_put, Work.grist_modGrist]
      exact tabFind_tabErase_same _ _
    · have hget : ((w.noted n key .up).modGrist n (fun g => { g with press := tabErase g.press key })).get F.GRIST_CNT_REJECTS n =
          w.get F.GRIST_CNT_REJECTS n := by
        rw [Work.get_modGrist]
        unfold Work.get
        rw [w.reg_noted n key .up _ hcount]
      rw [Work.get_ev, Work.countUp_eq, Work.get_put_same _ _ _ _ _ (by decide), hget]
      exact satAdd_mod 12 _ _
  · rw [w.observe_release n key hdown, hcur .up _ (by decide), ← hk, if_neg (by omega), Work.grist_modGrist, Work.grist_noted]
    refine ⟨?_, rfl⟩
    unfold tabGet at hk ⊢
    rw [tabFind_tabInsert_same, Option.getD_some, hk]
  · rw [w.observe_release n key hdown, hcur .up _ (by decide), ← hk, if_pos hmany, Work.grist_declareKey, Work.grist_noted]
    refine ⟨rfl, ?_⟩
    unfold Grist.declared
    simp
  · rw [w.observe_frozen n key, Work.grist_noted]
    refine ⟨rfl, rfl, rfl, ?_⟩
    change (frozenAfter (w.chan n).grist.frozen key .frozen).contains (key : Nat) = true
    unfold frozenAfter
    by_cases h : (w.chan n).grist.frozen.contains (key : Nat) = true
    · rw [if_pos rfl, if_pos h, h]
    · rw [if_pos rfl, if_neg h]
      simp

end Sys2Proof.Machine
end

section
/-! PROOF SUPPORT. What a key step leaves alone once its readings are shown (R194 to R209). -/

namespace Sys2Proof.Machine

/-- A register that a key step may write beside its readings: those of GRIST below GRIST_DRV, and two that show the ledger and
the Mash. -/
def scanReg (n a : Nat) : Prop :=
  (∃ i, i < 192 ∧ a = 0x40104000 + 0x10000 * n + 4 * i) ∨ a = R.KILN_LEDGER_STAT.addr n 0 ∨ a = R.MASH_STAT.addr n 0

/-- Between two working states stand the registers that no key step writes, the memory, and whether the step has run. -/
structure Work.ScanOnly (n : Fin 8) (w v : Work) : Prop where
  reg : ∀ a, ¬ scanReg n a → v.reg a = w.reg a
  wr : v.wr = w.wr
  run : (v.chan n).grist.stepRun = (w.chan n).grist.stepRun

namespace Work.ScanOnly

variable {w : Work} {n : Fin 8}

theorem refl (w : Work) : w.ScanOnly n w := ⟨fun _ _ => rfl, rfl, rfl⟩

theorem trans {u v : Work} (h : w.ScanOnly n u) (h' : u.ScanOnly n v) : w.ScanOnly n v :=
  ⟨fun a ha => (h'.reg a ha).trans (h.reg a ha), h'.wr.trans h.wr, h'.run.trans h.run⟩

/-- A step after others. -/
theorem after {u v : Work} (h' : u.ScanOnly n v) (h : w.ScanOnly n u) : w.ScanOnly n v := h.trans h'

theorem foldl {α : Type} (l : List α) (f : Work → α → Work) (h : ∀ (v : Work), ∀ x ∈ l, v.ScanOnly n (f v x)) (w : Work) :
    w.ScanOnly n (l.foldl f w) :=
  List.foldlRecOn (motive := fun v => w.ScanOnly n v) l f (refl w) (fun v hv x hx => hv.trans (h v x hx))

theorem ite {c : Prop} [Decidable c] {u v : Work} (hu : c → w.ScanOnly n u) (hv : ¬ c → w.ScanOnly n v) : w.ScanOnly n (if c then u else v) :=
  iteInduction (motive := fun x : Work => w.ScanOnly n x) hu hv

variable (w) (n)

theorem ev (c i k : Nat) : w.ScanOnly n (w.ev c i k) := ⟨fun _ _ => Work.reg_ev .., Work.ev_wr .., by rw [Work.chan_ev]⟩

/-- A field of GRIST below GRIST_DRV. -/
theorem put (f : Fld) (v k i : Nat) (hi : f.base + f.stride * k = 0x40104000 + 4 * i) (hlt : i < 192) : w.ScanOnly n (w.put f v n k) :=
  ⟨fun a ha => w.reg_put_ne f v n k a (fun e => ha (Or.inl ⟨i, hlt, by rw [e]; unfold Fld.addr; omega⟩)), Work.put_wr .., by rw [Work.chan_put]⟩

theorem modGrist (f : Grist → Grist) (h : ∀ g, (f g).stepRun = g.stepRun) : w.ScanOnly n (w.modGrist n f) :=
  ⟨fun _ _ => rfl, rfl, by rw [Work.grist_modGrist, h]⟩

theorem entryBatch (e : Waiting) : w.ScanOnly n (w.entryBatch n e) := ⟨fun _ _ => rfl, rfl, by rw [Work.grist_entryBatch]⟩

theorem told {v : Work} (h : w.OnlyTold v) : w.ScanOnly n v := ⟨fun a _ => h.reg a, h.wr, by rw [h.chan]⟩

/-! ### Entries, ghosts and spans -/

theorem gristEntryAt (t kind code : Nat) (fin : Bool) (value : Nat) : w.ScanOnly n (w.gristEntryAt n t kind code fin value) := entryBatch w n _

theorem gristEntry (kind code : Nat) (fin : Bool) (value : Nat) : w.ScanOnly n (w.gristEntry n kind code fin value) := entryBatch w n _

theorem raise (f : Fld) (hf : f ∈ [F.GRIST_ERR_GHOST_SHIFT, F.GRIST_ERR_LADDER_SPLIT, F.GRIST_ERR_GHOST_AMBIG, F.GRIST_ERR_CABLE_BREAK]) :
    w.ScanOnly n (w.raise f n) := by
  have hbase : ∀ f ∈ [F.GRIST_ERR_GHOST_SHIFT, F.GRIST_ERR_LADDER_SPLIT, F.GRIST_ERR_GHOST_AMBIG, F.GRIST_ERR_CABLE_BREAK],
      f.base + f.stride * 0 = 0x40104000 + 4 * 9 := by decide
  exact put w n f 1 0 9 (hbase f hf) (by decide)

theorem pickOpen (l : List Nat) (k : Nat) : w.ScanOnly n (w.pickOpen l k).2 := by
  unfold Work.pickOpen
  split
  · exact ⟨fun _ _ => rfl, rfl, rfl⟩
  · exact refl w
  · exact ⟨fun _ _ => rfl, rfl, rfl⟩

theorem countGhost : w.ScanOnly n (w.countUp F.GRIST_CNT_GHOSTS n) := put w n _ _ 0 10 (by decide) (by decide)

theorem ghostShift (d : Nat) (r : LadderRead) (relays : List Nat) : w.ScanOnly n (w.ghostShift n d r relays) := by
  have hraise : ∀ b : Bool, w.ScanOnly n (if b = true then w.raise F.GRIST_ERR_GHOST_SHIFT n else w) :=
    fun b => ite (fun _ => raise w n _ (by decide)) (fun _ => refl w)
  unfold Work.ghostShift
  dsimp only
  split
  · exact ite (fun _ => hraise _) (fun _ => after (gristEntry _ n _ _ _ _) (after (modGrist _ n _ (fun _ => rfl)) (hraise _)))
  · refine ite (fun _ => ?_) (fun _ => hraise _)
    refine after (gristEntry _ n _ _ _ _) (after (ev _ n _ _ _) (after (countGhost _ n) (after (modGrist _ n _ (fun _ => rfl)) ?_)))
    exact after (pickOpen _ n _ 3) (hraise _)

theorem ladderSplit (d : Nat) (r : LadderRead) : w.ScanOnly n (w.ladderSplit n d r) := by
  have hraise : ∀ b : Bool, w.ScanOnly n (if b = true then w.raise F.GRIST_ERR_LADDER_SPLIT n else w) :=
    fun b => ite (fun _ => raise w n _ (by decide)) (fun _ => refl w)
  unfold Work.ladderSplit
  dsimp only
  split
  · exact ite (fun _ => hraise _) (fun _ => after (gristEntry _ n _ _ _ _) (after (modGrist _ n _ (fun _ => rfl)) (hraise _)))
  · refine ite (fun _ => ?_) (fun _ => hraise _)
    exact after (gristEntry _ n _ _ _ _) (after (ev _ n _ _ _) (after (modGrist _ n _ (fun _ => rfl)) (hraise _)))

/-! ### Cables -/

theorem putSingle (v : Nat) : w.ScanOnly n (w.put F.GRIST_LADDER_SINGLE v n) := put w n _ v 0 1 (by decide) (by decide)

theorem cableBreak (t l cause code : Nat) : w.ScanOnly n (w.cableBreak n t l cause code) := by
  unfold Work.cableBreak
  exact after (gristEntryAt _ n _ _ _ _ _) (after (raise _ n _ (by decide)) (after (modGrist _ n _ (fun _ => rfl)) (putSingle w n _)))

theorem cableWhole (t l : Nat) : w.ScanOnly n (w.cableWhole n t l) := by
  unfold Work.cableWhole
  exact after (gristEntryAt _ n _ _ _ _ _) (after (modGrist _ n _ (fun _ => rfl)) (putSingle w n _))

theorem oneEnds (r : LadderRead) : w.ScanOnly n (w.oneEnds n r) := by
  unfold Work.oneEnds
  refine ite (fun _ => refl w) (fun _ => ite (fun _ => modGrist w n _ (fun _ => rfl)) (fun _ => ?_))
  have hcode : w.ScanOnly n (if r.p = 0 then w.modGrist n (fun g => { g with contCode := tabInsert g.contCode r.ladder r.head }) else w) :=
    ite (fun _ => modGrist w n _ (fun _ => rfl)) (fun _ => refl w)
  exact ite (fun _ => after (cableBreak _ n _ _ _ _) hcode) (fun _ => after (modGrist _ n _ (fun _ => rfl)) hcode)

theorem continuityResults (t : Nat) (codes : List Nat) : w.ScanOnly n (w.continuityResults n t codes) := by
  unfold Work.continuityResults
  refine foldl _ _ (fun v l _ => ?_) w
  refine ite (fun _ => ite (fun _ => cableWhole v n _ _) (fun _ => modGrist v n _ (fun _ => rfl))) (fun _ => ?_)
  exact ite (fun _ => after (cableBreak _ n _ _ _ _) (modGrist v n _ (fun _ => rfl)))
    (fun _ => after (modGrist _ n _ (fun _ => rfl)) (modGrist v n _ (fun _ => rfl)))

/-! ### Candidates -/

theorem endAmbig (d : Nat) : w.ScanOnly n (w.endAmbig n d) := by
  unfold Work.endAmbig
  exact after (foldl _ _ (fun v _ _ => gristEntry v n _ _ _ _) _) (modGrist w n _ (fun _ => rfl))

theorem startAmbig (key rect : Nat) (other : Bool) : w.ScanOnly n (w.startAmbig n key rect other) := by
  unfold Work.startAmbig
  refine ite (fun _ => raise w n _ (by decide)) (fun _ => ?_)
  exact after (gristEntry _ n _ _ _ _) (after (ev _ n _ _ _) (after (countGhost _ n) (after (modGrist _ n _ (fun _ => rfl))
    (raise w n _ (by decide)))))

theorem choose (d key rect back : Nat) : w.ScanOnly n (w.choose n d key rect back) := by
  unfold Work.choose
  exact after (startAmbig _ n _ _ _) (after (foldl _ _ (fun v _ _ => gristEntry v n _ _ _ _) _) (modGrist w n _ (fun _ => rfl)))

theorem judgeCandidate (d : Nat) (rs : List LadderRead) (ds : List DriveRead) (before : Nat) (r : LadderRead) (k : Nat) :
    w.ScanOnly n (w.judgeCandidate n d rs ds before r k) := by
  unfold Work.judgeCandidate
  dsimp only
  split
  · exact refl w
  · refine ite (fun _ => refl w) (fun _ => ?_)
    split
    · exact ite (fun _ => choose w n _ _ _ _) (fun _ => choose w n _ _ _ _)
    · exact startAmbig w n _ _ _

/-! ### Observations -/

theorem modChan (f : Chan → Chan) (h : ∀ c, (f c).grist = c.grist) : w.ScanOnly n (w.modChan n f) :=
  ⟨fun _ _ => rfl, rfl, by rw [w.grist_modChan n f h]⟩

theorem modMash (f : Mash → Mash) : w.ScanOnly n (w.modMash n f) :=
  ⟨fun a ha => w.reg_modMash n f a (fun e => ha (Or.inr (Or.inr e))), w.wr_modMash n f, by rw [Work.grist_modMash]⟩

theorem compatDeclare (key t : Nat) (pressed : Bool) : w.ScanOnly n (w.compatDeclare n key t pressed) := by
  unfold Work.compatDeclare
  split
  · exact refl w
  · exact modChan w n _ (fun _ => rfl)

theorem deliverPress (key t : Nat) : w.ScanOnly n (w.deliverPress n key t) := by
  unfold Work.deliverPress
  exact after (compatDeclare _ n _ _ _) (after (entryBatch _ n _) (modChan w n _ (fun _ => rfl)))

theorem deliverRelease (key r : Nat) : w.ScanOnly n (w.deliverRelease n key r) := by
  unfold Work.deliverRelease
  refine after (compatDeclare _ n _ _ _) ?_
  split
  · exact refl w
  · exact ite (fun _ => after (entryBatch _ n _) (modChan w n _ (fun _ => rfl))) (fun _ => modChan w n _ (fun _ => rfl))

theorem declareKey (key : Nat) (pressed : Bool) : w.ScanOnly n (w.declareKey n key pressed) := by
  have hdeclared : w.ScanOnly n ((w.modGrist n (fun g => g.declared key pressed)).ev 0x1F n) :=
    after (ev _ n _ _ _) (modGrist w n _ (fun _ => rfl))
  unfold Work.declareKey
  refine ite (fun _ => ?_) (fun _ => after (deliverRelease _ n _ _) hdeclared)
  refine ite (fun _ => after (deliverPress _ n _ _) hdeclared) (fun _ => ?_)
  refine after (foldl _ _ (fun v mask _ => ?_) _) (after (deliverPress _ n _ _) hdeclared)
  exact after (told _ n (Work.OnlyTold.pairAcks _ mask 0 none n)) (modMash v n _)

/-- HIDDEN_FROZEN of a key of the matrix is a register of GRIST. -/
theorem noted (key : Nat) (hkey : key < 512) (o : Obs) : w.ScanOnly n (w.noted n key o) := by
  unfold Work.noted
  refine after (put _ n F.GRIST_HIDDEN_FROZEN _ (key / 32) (80 + key / 32) ?_ (by omega)) (modGrist w n _ (fun _ => rfl))
  have hbase : F.GRIST_HIDDEN_FROZEN.base = 0x40104140 := rfl
  have hstride : F.GRIST_HIDDEN_FROZEN.stride = 4 := rfl
  rw [hbase, hstride]
  omega

theorem observe (key : Nat) (hkey : key < 512) (o : Obs) : w.ScanOnly n (w.observe n key o) := by
  obtain ⟨v, hv⟩ : ∃ v, v = w.noted n key o := ⟨_, rfl⟩
  have hnoted : w.ScanOnly n v := hv ▸ noted w n key hkey o
  unfold Work.noted frozenAfter at hv
  unfold Work.observe
  dsimp only at hv ⊢
  rw [← hv]
  split
  · exact hnoted
  · exact ite (fun _ => after (declareKey _ n _ _) hnoted) (fun _ => after (modGrist _ n _ (fun _ => rfl)) hnoted)
  · exact ite (fun _ => hnoted) (fun _ => after (ev _ n _ _ _) (after (put _ n F.GRIST_CNT_REJECTS _ 0 10 (by decide) (by decide))
      (after (modGrist _ n _ (fun _ => rfl)) hnoted)))
  · exact ite (fun _ => after (declareKey _ n _ _) hnoted) (fun _ => after (modGrist _ n _ (fun _ => rfl)) hnoted)
  · exact after (modGrist _ n _ (fun _ => rfl)) hnoted

end Work.ScanOnly
end Sys2Proof.Machine
end

section
/-! PROOF. A key step, the continuity test, a repeat and an encoder's input (R194 to R197, R206, R223, R226, R227). -/

namespace Sys2Proof.Machine

/-! ### The parts of a key step -/

theorem Work.mem_taps_le (w : Work) (n l t : Nat) (h : t ∈ w.taps n l) : t ≤ 8 := by
  unfold Work.taps upFrom at h
  obtain ⟨i, hi, rfl⟩ := List.mem_map.mp h
  have := List.mem_range.mp hi
  split at this <;> omega

namespace Work.ScanOnly

variable {w : Work} {n : Fin 8}

variable (w) (n)

theorem freezeLadder (d l : Nat) (hd : d < 8) (hl : l < 8) : w.ScanOnly n (w.freezeLadder n d l) := by
  unfold Work.freezeLadder
  refine foldl _ _ (fun v t ht => observe v n _ ?_ _) w
  have htap : t ≤ 8 := Work.mem_taps_le w n l t ht
  omega

theorem observeLadder (d : Nat) (r : LadderRead) (hd : d < 8) (hl : r.ladder < 8) : w.ScanOnly n (w.observeLadder n d r) := by
  unfold Work.observeLadder
  refine foldl _ _ (fun v t ht => observe v n _ ?_ _) w
  have htap : t ≤ 8 := Work.mem_taps_le w n r.ladder t ht
  omega

end Work.ScanOnly

/-- What a key step makes of its readings: ghosts, candidates, observations and one-end results (R198 to R208). -/
def Work.stepObserved (w : Work) (n d : Nat) (rs : List LadderRead) (ds : List DriveRead) : Work :=
  let g := (w.chan n).grist
  let relays := (ds.filter (fun x => x.band == 1)).map (·.drive)
  let shifted := fun (r : LadderRead) => r.shiftedByReading || !(g.relaysOn relays r.ladder).isEmpty
  let good := rs.filter (fun r => !shifted r)
  let before := tabGet g.relay 0 d
  let w := rs.foldl (fun w r => w.ghostShift n d r relays) w
  let w := w.modGrist n (fun g => { g with
    raw := rs.foldl (fun t r => tabPut t 0 (8 * d + r.ladder) (if shifted r then 0 else r.named)) g.raw
    relay := tabPut g.relay 0 d (listMask relays)
    scanBusy := g.scanBusy || rs.any (fun r => r.p != 0 || r.q != 0) })
  let w := good.foldl (fun w r => w.ladderSplit n d r) w
  let w := w.endAmbig n d
  let w := good.foldl (fun w r =>
    (w.taps n r.ladder).foldl (fun w t =>
      if r.obs (w.single n r.ladder) t = .down then w.judgeCandidate n d good ds before r t else w) w) w
  let w := rs.foldl (fun w r => if shifted r then w.freezeLadder n d r.ladder else w.observeLadder n d r) w
  good.foldl (fun w r => w.oneEnds n r) w

/-- A continuity test confirmed by a key step, where one waits for it (R206). -/
def Work.contConfirmed (w : Work) (n : Nat) (named : Bool) : Work :=
  match (w.chan n).grist.contRes with
  | some (t, codes) =>
    let w := w.modGrist n (fun g => { g with contRes := none })
    if named then w else w.continuityResults n t codes
  | none => w

theorem Work.runStep_eq (w : Work) (n d : Nat) (rs : List LadderRead) (ds : List DriveRead) :
    w.runStep n d rs ds =
      ((((w.showStep n d rs ds).stepObserved n d rs ds).contConfirmed n (rs.any (fun r => r.p != 0 || r.q != 0))).passStep n d).showGrist n := rfl

namespace Work.ScanOnly

variable (w : Work) (n : Fin 8)

theorem stepObserved (d : Nat) (rs : List LadderRead) (ds : List DriveRead) (hd : d < 8) (hl : ∀ r ∈ rs, r.ladder < 8) :
    w.ScanOnly n (w.stepObserved n d rs ds) := by
  unfold Work.stepObserved
  refine after (foldl _ _ (fun v r _ => oneEnds v n r) _) (after (foldl _ _ (fun v r hr => ?_) _) ?_)
  · exact ite (fun _ => freezeLadder v n d _ hd (hl r hr)) (fun _ => observeLadder v n d r hd (hl r hr))
  · refine after (foldl _ _ (fun v r _ => foldl _ _ (fun u t _ => ?_) v) _) (after (endAmbig _ n d) ?_)
    · exact ite (fun _ => judgeCandidate u n d _ _ _ _ _) (fun _ => refl u)
    · refine after (foldl _ _ (fun v r _ => ladderSplit v n d r) _) (after (modGrist _ n _ (fun _ => rfl)) ?_)
      exact foldl _ _ (fun v r _ => ghostShift v n d r _) w

theorem contConfirmed (named : Bool) : w.ScanOnly n (w.contConfirmed n named) := by
  unfold Work.contConfirmed
  split
  · exact ite (fun _ => modGrist w n _ (fun _ => rfl)) (fun _ => after (continuityResults _ n _ _) (modGrist w n _ (fun _ => rfl)))
  · exact refl w

theorem putStat (f : Fld) (v : Nat) (hf : f.base + f.stride * 0 = 0x40104000 + 4 * 8) : w.ScanOnly n (w.put f v n) := put w n f v 0 8 hf (by decide)

theorem passStep (d : Nat) : w.ScanOnly n (w.passStep n d) := by
  have hdue : ∀ (v : Work) (b : Bool), v.ScanOnly n (if b = true then v.putFlag F.GRIST_STAT_CONT_WAIT true n else v) :=
    fun v b => ite (fun _ => putStat v n _ _ (by decide)) (fun _ => refl v)
  unfold Work.passStep
  refine ite (fun _ => ?_) (fun _ => putStat w n _ _ (by decide))
  exact after (modGrist _ n _ (fun _ => rfl)) (after (hdue _ _) (after (putStat _ n F.GRIST_STAT_SCAN _ (by decide)) (putStat w n _ _ (by decide))))

theorem showGrist : w.ScanOnly n (w.showGrist n) := by
  unfold Work.showGrist
  exact after (putStat _ n F.GRIST_STAT_SPLIT_ACT _ (by decide)) (after (putStat _ n F.GRIST_STAT_AMBIG_ACT _ (by decide))
    (putStat w n F.GRIST_STAT_SHIFT_ACT _ (by decide)))

theorem bookFloat (x : DriveRead) : w.ScanOnly n (w.bookFloat n x) := by
  have hput : ∀ (v : Work) (f : Fld) (y : Nat), f.addr n 0 = R.KILN_LEDGER_STAT.addr n 0 → v.ScanOnly n (v.put f y n) := fun v f y hf =>
    ⟨fun a ha => v.reg_put_ne f y n 0 a (fun e => ha (Or.inr (Or.inl (e.trans hf)))), Work.put_wr .., by rw [Work.chan_put]⟩
  have hbook : ∀ (m : Nat) (amount : Int), w.ScanOnly n (w.book n m amount) := by
    intro m amount
    unfold Work.book Work.noteMax Work.modKiln
    refine ite (fun _ => ?_) (fun _ => modChan w n _ (fun _ => rfl))
    exact after (hput _ F.KILN_LEDGER_STAT_MAX_LINE _ rfl) (after (hput _ F.KILN_LEDGER_STAT_MAX_ABS _ rfl) (modChan w n _ (fun _ => rfl)))
  unfold Work.bookFloat
  dsimp only
  split
  · exact ite (fun _ => hbook _ _) (fun _ => refl w)
  · exact refl w

end Work.ScanOnly

/-! ### What a step shows -/

/-- The word that GRIST_READ shows of a ladder read. -/
def LadderRead.word (r : LadderRead) : Nat := r.head + 2 ^ 12 * r.foot + 2 ^ 24 * r.hc + 2 ^ 28 * r.fc

theorem Work.reg_showStep (w : Work) (n d : Nat) (rs : List LadderRead) (ds : List DriveRead) (a : Nat)
    (hr : ∀ r ∈ rs, a ≠ R.GRIST_READ.addr n (8 * d + r.ladder)) (hd : ∀ x ∈ ds, a ≠ R.GRIST_DRV.addr n x.drive) :
    (w.showStep n d rs ds).reg a = w.reg a := by
  unfold Work.showStep
  refine List.foldlRecOn (motive := fun v : Work => v.reg a = w.reg a) ds _ ?_ (fun v hv x hx => (v.reg_setReg_ne _ a _ (hd x hx)).trans hv)
  exact List.foldlRecOn (motive := fun v : Work => v.reg a = w.reg a) rs _ rfl (fun v hv r hrs => (v.reg_setReg_ne _ a _ (hr r hrs)).trans hv)

/-- A ladder that the step reads shows its word. -/
theorem Work.read_showStep (w : Work) (n d : Nat) (rs : List LadderRead) (ds : List DriveRead) (r : LadderRead) (hr : r ∈ rs)
    (hsame : ∀ x ∈ rs, R.GRIST_READ.addr n (8 * d + x.ladder) = R.GRIST_READ.addr n (8 * d + r.ladder) → x.word = r.word)
    (hd : ∀ x ∈ ds, R.GRIST_READ.addr n (8 * d + r.ladder) ≠ R.GRIST_DRV.addr n x.drive) :
    (w.showStep n d rs ds).reg (R.GRIST_READ.addr n (8 * d + r.ladder)) = r.word := by
  have hread : ∀ (l : List LadderRead) (v : Work), (∀ x ∈ l, x ∈ rs) → (r ∈ l ∨ v.reg (R.GRIST_READ.addr n (8 * d + r.ladder)) = r.word) →
      (l.foldl (fun w x => w.setReg (R.GRIST_READ.addr n (8 * d + x.ladder)) x.word) v).reg (R.GRIST_READ.addr n (8 * d + r.ladder)) = r.word := by
    intro l
    induction l with
    | nil => exact fun v _ h => h.resolve_left List.not_mem_nil
    | cons x l ih =>
      intro v hl h
      refine ih _ (fun y hy => hl y (List.mem_cons_of_mem _ hy)) ?_
      dsimp only
      by_cases hx : R.GRIST_READ.addr n (8 * d + x.ladder) = R.GRIST_READ.addr n (8 * d + r.ladder)
      · rw [hx, Work.reg_setReg_same]
        exact Or.inr (hsame x (hl x List.mem_cons_self) hx)
      · rw [Work.reg_setReg_ne _ _ _ _ (Ne.symm hx)]
        exact h.imp_left (fun hmem => (List.mem_cons.mp hmem).resolve_left (fun e => hx (by rw [e])))
  unfold Work.showStep
  refine List.foldlRecOn (motive := fun v : Work => v.reg (R.GRIST_READ.addr n (8 * d + r.ladder)) = r.word) ds _ ?_
    (fun v hv x hx => (v.reg_setReg_ne _ _ _ (hd x hx)).trans hv)
  exact hread rs w (fun _ h => h) (Or.inl hr)

theorem Work.same_showStep (w : Work) (n d : Nat) (rs : List LadderRead) (ds : List DriveRead) (m : Nat) :
    (w.showStep n d rs ds).wr = w.wr ∧ (w.showStep n d rs ds).chan m = w.chan m := by
  unfold Work.showStep
  refine List.foldlRecOn (motive := fun v : Work => v.wr = w.wr ∧ v.chan m = w.chan m) ds _ ?_ (fun v hv _ _ => hv)
  exact List.foldlRecOn (motive := fun v : Work => v.wr = w.wr ∧ v.chan m = w.chan m) rs _ ⟨rfl, rfl⟩ (fun v hv _ _ => hv)

/-- GRIST_STAT names the drive of the step that passed. -/
theorem Work.drive_passStep (w : Work) (n : Fin 8) (d : Nat) (hd : d < 8) : ((w.passStep n d).showGrist n).get F.GRIST_STAT_DRIVE n = d := by
  have hapart : ∀ (v : Work) (f : Fld) (x : Nat), fieldsApart f F.GRIST_STAT_DRIVE = true → (v.put f x n).get F.GRIST_STAT_DRIVE n = v.get F.GRIST_STAT_DRIVE n :=
    fun v f x hf => v.get_put_apart f F.GRIST_STAT_DRIVE x n hf
  have hput : (w.put F.GRIST_STAT_DRIVE d n).get F.GRIST_STAT_DRIVE n = d := by
    rw [Work.get_put_same _ _ _ _ _ (by decide)]
    exact Nat.mod_eq_of_lt hd
  unfold Work.showGrist
  simp only [Work.putFlag_eq]
  rw [hapart _ F.GRIST_STAT_SPLIT_ACT _ (by decide), hapart _ F.GRIST_STAT_AMBIG_ACT _ (by decide), hapart _ F.GRIST_STAT_SHIFT_ACT _ (by decide)]
  unfold Work.passStep
  refine iteInduction (motive := fun v : Work => v.get F.GRIST_STAT_DRIVE n = d) (fun _ => ?_) (fun _ => hput)
  rw [Work.get_modGrist]
  refine iteInduction (motive := fun v : Work => v.get F.GRIST_STAT_DRIVE n = d) (fun _ => ?_) (fun _ => ?_)
  · rw [Work.putFlag_eq, hapart _ F.GRIST_STAT_CONT_WAIT _ (by decide), Work.countWrap_eq, hapart _ F.GRIST_STAT_SCAN _ (by decide), hput]
  · rw [Work.countWrap_eq, hapart _ F.GRIST_STAT_SCAN _ (by decide), hput]

end Sys2Proof.Machine
end

section
/-! PROOF. A key step, the continuity test, a repeat and an encoder's input (R194 to R197, R206, R223, R226, R227). -/

namespace Sys2Proof.Machine

/-! ### The key step -/

/-- The ladders of a plan read in a step. -/
def Work.ladderReads (w : Work) (n : Nat) (heads feet : List Nat) : List LadderRead :=
  (w.chan n).seq.act.ladders.map (fun l => w.readLadder n l (heads.getD l 4095) (feet.getD l 4095))

/-- The floating drives of a plan read in a step of drive `d`. -/
def Work.driveReads (w : Work) (n d : Nat) (dh df : List Nat) : List DriveRead :=
  ((List.range (w.chan n).seq.act.nDrive).filter (fun j => j != d)).map (fun j =>
    { drive := j, head := dh.getD j 4095, foot := df.getD j 4095, hb := w.band n (dh.getD j 4095), fb := w.band n (df.getD j 4095) : DriveRead })

/-- The ledger booked, and the step marked as run, before its readings are judged. -/
def Work.stepBegun (w : Work) (n : Nat) (ds : List DriveRead) : Work :=
  (ds.foldl (fun w x => w.bookFloat n x) w).modGrist n (fun g => { g with stepRun := true })

theorem keyStep_of (w : Work) (n : Nat) (heads feet dh df : List Nat) (x : SlotRun) (d : Nat) (hcur : (w.chan n).seq.cur = some x)
    (hkind : x.kind = kKey) (hscans : w.scans n = true) (hfresh : (w.chan n).grist.stepRun = false) (hheld : (w.chan n).blockHeld 2 = false)
    (hd : d = (w.chan n).seq.act.stepNo w.tick x.idx % (w.chan n).seq.act.nDrive) :
    keyStep w n heads feet dh df =
      (w.stepBegun n (w.driveReads n d dh df)).runStep n d (w.ladderReads n heads feet) (w.driveReads n d dh df) := by
  subst hd
  unfold keyStep
  simp only [hcur, hkind, hscans, hfresh, hheld, Bool.not_false, and_self, if_true]
  rfl

/-- What a key step may write lies among the registers that its frame names. -/
theorem scanReg_frame (ch : Fin 8) (a : Nat)
    (ha : a ∉ (List.range 1024).map (fun (i : Nat) => 0x40104000 + 0x10000 * (ch : Nat) + 4 * i) ++
      [R.KILN_LEDGER_STAT.addr ch 0, R.CASK_COMPAT.addr ch 0, R.MASH_STAT.addr ch 0, R.PWR_WAKE_PEND.addr 0 0, R.PWR_PMB_STAT.addr 0 0]) :
    ¬ scanReg ch a ∧ (∀ i, i < 1024 → a ≠ 0x40104000 + 0x10000 * (ch : Nat) + 4 * i) := by
  rw [List.mem_append, not_or] at ha
  obtain ⟨hblock, hrest⟩ := ha
  have hgrist : ∀ i, i < 1024 → a ≠ 0x40104000 + 0x10000 * (ch : Nat) + 4 * i :=
    fun i hi e => hblock (List.mem_map.mpr ⟨i, List.mem_range.mpr hi, e.symm⟩)
  refine ⟨?_, hgrist⟩
  rintro (⟨i, hi, e⟩ | e | e)
  · exact hgrist i (by omega) e
  · exact hrest (e ▸ List.mem_cons_self)
  · exact hrest (e ▸ List.mem_cons_of_mem _ (List.mem_cons_of_mem _ List.mem_cons_self))

/-- The readings of a step, as places in the registers of GRIST. -/
theorem gristRead_addr (n d l : Nat) : R.GRIST_READ.addr n (8 * d + l) = 0x40104000 + 0x10000 * n + 4 * (256 + 8 * d + l) := by
  unfold Fld.addr
  have hbase : R.GRIST_READ.base = 0x40104400 := rfl
  have hstride : R.GRIST_READ.stride = 4 := rfl
  rw [hbase, hstride]
  omega

theorem gristDrv_addr (n j : Nat) : R.GRIST_DRV.addr n j = 0x40104000 + 0x10000 * n + 4 * (192 + j) := by
  unfold Fld.addr
  have hbase : R.GRIST_DRV.base = 0x40104300 := rfl
  have hstride : R.GRIST_DRV.stride = 4 := rfl
  rw [hbase, hstride]
  omega

/-- The registers of GRIST are not those that show the ledger and the Mash. -/
theorem gristBlock_ne (n i : Nat) (hi : i < 1024) :
    0x40104000 + 0x10000 * n + 4 * i ≠ R.KILN_LEDGER_STAT.addr n 0 ∧ 0x40104000 + 0x10000 * n + 4 * i ≠ R.MASH_STAT.addr n 0 := by
  have hledger : R.KILN_LEDGER_STAT.base = 0x40101024 := rfl
  have hmash : R.MASH_STAT.base = 0x4010c004 := rfl
  unfold Fld.addr
  rw [hledger, hmash]
  omega

/-- A wake source that fires writes WAKE_PEND and the state of the regulator's bus, and no channel (R407, R416). -/
theorem Work.fireWake_same (w : Work) (bit ch port : Nat) :
    (∀ m, (w.fireWake bit ch port).chan m = w.chan m) ∧ (w.fireWake bit ch port).wr = w.wr ∧
      (∀ a, a ≠ R.PWR_WAKE_PEND.addr 0 0 → a ≠ R.PWR_PMB_STAT.addr 0 0 → (w.fireWake bit ch port).reg a = w.reg a) := by
  have hrise : ∀ v : Work, (∀ m, v.startRise.chan m = v.chan m) ∧ v.startRise.wr = v.wr ∧
      (∀ a, a ≠ R.PWR_PMB_STAT.addr 0 0 → v.startRise.reg a = v.reg a) := by
    intro v
    unfold Work.startRise
    refine iteInduction (motive := fun u : Work => (∀ m, u.chan m = v.chan m) ∧ u.wr = v.wr ∧ (∀ a, a ≠ R.PWR_PMB_STAT.addr 0 0 → u.reg a = v.reg a))
      (fun _ => ⟨fun _ => rfl, rfl, fun a ha => ?_⟩) (fun _ => ⟨fun _ => rfl, rfl, fun _ _ => rfl⟩)
    exact Work.reg_put_ne (v.modPwr (fun p => { p with pmb := some (v.get F.PWR_VOUT_RUN_MV, 0) })) F.PWR_PMB_STAT_ATTEMPTS 1 0 0 a ha
  unfold Work.fireWake
  split
  · exact ⟨fun _ => rfl, rfl, fun _ _ _ => rfl⟩
  · refine iteInduction (motive := fun u : Work => (∀ m, u.chan m = w.chan m) ∧ u.wr = w.wr ∧
      (∀ a, a ≠ R.PWR_WAKE_PEND.addr 0 0 → a ≠ R.PWR_PMB_STAT.addr 0 0 → u.reg a = w.reg a))
      (fun _ => ⟨fun _ => rfl, rfl, fun _ _ _ => rfl⟩) (fun _ => ⟨fun m => ?_, ?_, fun a hpend hpmb => ?_⟩)
    · rw [(hrise _).1]
      rfl
    · rw [(hrise _).2.1]
      rfl
    · rw [(hrise _).2.2 a hpmb]
      exact Work.reg_put_ne w F.PWR_WAKE_PEND_PEND _ 0 0 a hpend

/-- A press that a step declares may fire KEY (R407). -/
theorem Work.pressWakes_same (w : Work) (n before : Nat) :
    (∀ m, (w.pressWakes n before).chan m = w.chan m) ∧ (w.pressWakes n before).wr = w.wr ∧
      (∀ a, a ≠ R.PWR_WAKE_PEND.addr 0 0 → a ≠ R.PWR_PMB_STAT.addr 0 0 → (w.pressWakes n before).reg a = w.reg a) := by
  unfold Work.pressWakes
  exact iteInduction (motive := fun u : Work => (∀ m, u.chan m = w.chan m) ∧ u.wr = w.wr ∧
      (∀ a, a ≠ R.PWR_WAKE_PEND.addr 0 0 → a ≠ R.PWR_PMB_STAT.addr 0 0 → u.reg a = w.reg a))
    (fun _ => w.fireWake_same 0 n 0) (fun _ => ⟨fun _ => rfl, rfl, fun _ _ _ => rfl⟩)

theorem keyAndEncoder_step (s : State) (ch : Fin 8) (x : SlotRun) (heads feet dh df : List Nat) (d l : Nat)
    (hcur : (s.chan ch).seq.cur = some x) (hkind : x.kind = kKey) (hscans : s.work.scans ch = true) (hfresh : (s.chan ch).grist.stepRun = false)
    (hheld : (s.chan ch).blockHeld 2 = false) (hdrives : (s.chan ch).seq.act.nDrive ≤ 8) (hladders : ∀ i ∈ (s.chan ch).seq.act.ladders, i < 8)
    (hd : d = (s.chan ch).seq.act.stepNo s.dev.tick x.idx % (s.chan ch).seq.act.nDrive) (hl : l ∈ (s.chan ch).seq.act.ladders)
    (t : State) (ht : t = s.run (fun w => (keyStep w ch heads feet dh df).pressWakes ch (w.chan ch).grist.decl.length)) :
    t.reg (R.GRIST_READ.addr ch (8 * d + l)) = heads.getD l 4095 + 2 ^ 12 * feet.getD l 4095 +
        2 ^ 24 * s.work.classOf ch l (heads.getD l 4095) + 2 ^ 28 * s.work.classOf ch l (feet.getD l 4095) ∧
      t.get F.GRIST_STAT_DRIVE ch = d ∧ (t.chan ch).grist.stepRun = true ∧
      s.sameRegs t ((List.range 1024).map (fun (i : Nat) => 0x40104000 + 0x10000 * (ch : Nat) + 4 * i) ++
        [R.KILN_LEDGER_STAT.addr ch 0, R.CASK_COMPAT.addr ch 0, R.MASH_STAT.addr ch 0, R.PWR_WAKE_PEND.addr 0 0, R.PWR_PMB_STAT.addr 0 0]) ∧
      t.mem = s.mem := by
  subst ht
  have hpos : 0 < (s.chan ch).seq.act.nDrive := by
    unfold Work.scans at hscans
    simp only [Bool.and_eq_true, decide_eq_true_eq] at hscans
    exact hscans.2
  have hd8 : d < 8 := lt_of_lt_of_le (hd ▸ Nat.mod_lt _ hpos) hdrives
  have hend := keyStep_of s.work ch heads feet dh df x d hcur hkind hscans hfresh hheld hd
  have hrs : ∀ r ∈ s.work.ladderReads ch heads feet, r.ladder < 8 := by
    intro r hr
    obtain ⟨i, hi, rfl⟩ := List.mem_map.mp hr
    exact hladders i hi
  have hds : ∀ y ∈ s.work.driveReads ch d dh df, y.drive < 8 := by
    intro y hy
    obtain ⟨j, hj, rfl⟩ := List.mem_map.mp hy
    exact lt_of_lt_of_le (List.mem_range.mp (List.mem_filter.mp hj).1) hdrives
  have hl8 : l < 8 := hladders l hl
  have hbooked : s.work.ScanOnly ch ((s.work.driveReads ch d dh df).foldl (fun w x => w.bookFloat ch x) s.work) :=
    Work.ScanOnly.foldl _ _ (fun v y _ => Work.ScanOnly.bookFloat v ch y) _
  have hbegun : (∀ a, (s.work.stepBegun ch (s.work.driveReads ch d dh df)).reg a = ((s.work.driveReads ch d dh df).foldl (fun w x => w.bookFloat ch x) s.work).reg a) ∧
      (s.work.stepBegun ch (s.work.driveReads ch d dh df)).wr = [] ∧
      ((s.work.stepBegun ch (s.work.driveReads ch d dh df)).chan ch).grist.stepRun = true := by
    refine ⟨fun _ => rfl, hbooked.wr, ?_⟩
    unfold Work.stepBegun
    rw [Work.grist_modGrist]
  rw [Work.runStep_eq] at hend
  generalize hrsdef : s.work.ladderReads ch heads feet = rs at hend hrs
  generalize s.work.driveReads ch d dh df = ds at hend hds hbooked hbegun
  obtain ⟨hbreg, hbwr, hbrun⟩ := hbegun
  generalize s.work.stepBegun ch ds = b at hend hbreg hbwr hbrun
  obtain ⟨hswr, hschan⟩ := b.same_showStep ch d rs ds ch
  have hread : ∀ a, (∃ i, 192 ≤ i ∧ i < 1024 ∧ a = 0x40104000 + 0x10000 * (ch : Nat) + 4 * i) → ¬ scanReg ch a := by
    rintro a ⟨i, hlo, hhi, rfl⟩ (⟨j, hj, e⟩ | e | e)
    · omega
    · exact (gristBlock_ne ch i hhi).1 e
    · exact (gristBlock_ne ch i hhi).2 e
  have hword : (b.showStep ch d rs ds).reg (R.GRIST_READ.addr ch (8 * d + l)) = heads.getD l 4095 + 2 ^ 12 * feet.getD l 4095 +
        2 ^ 24 * s.work.classOf ch l (heads.getD l 4095) + 2 ^ 28 * s.work.classOf ch l (feet.getD l 4095) := by
    have hmem : s.work.readLadder ch l (heads.getD l 4095) (feet.getD l 4095) ∈ rs := hrsdef ▸ List.mem_map_of_mem hl
    refine b.read_showStep ch d rs ds _ hmem (fun y hy haddr => ?_) (fun y hy => ?_)
    · subst hrsdef
      obtain ⟨i, hi, rfl⟩ := List.mem_map.mp hy
      have hil : i = l := by
        rw [gristRead_addr, gristRead_addr] at haddr
        change 0x40104000 + 0x10000 * (ch : Nat) + 4 * (256 + 8 * d + i) = 0x40104000 + 0x10000 * (ch : Nat) + 4 * (256 + 8 * d + l) at haddr
        omega
      rw [hil]
    · rw [gristRead_addr, gristDrv_addr]
      have := hds y hy
      omega
  have hjudged := ((Work.ScanOnly.stepObserved (b.showStep ch d rs ds) ch d rs ds hd8 hrs).trans (Work.ScanOnly.contConfirmed _ ch
    (rs.any (fun r => r.p != 0 || r.q != 0))))
  have hdrive := Work.drive_passStep (((b.showStep ch d rs ds).stepObserved ch d rs ds).contConfirmed ch (rs.any (fun r => r.p != 0 || r.q != 0))) ch d hd8
  have hall := hjudged.trans ((Work.ScanOnly.passStep _ ch d).trans (Work.ScanOnly.showGrist _ ch))
  rw [← hend] at hall hdrive
  obtain ⟨hwchan, hwwr, hwreg⟩ := (keyStep s.work ch heads feet dh df).pressWakes_same ch (s.chan ch).grist.decl.length
  have hkept : ∀ f : Fld, 0x40100000 ≤ f.base → ∀ n k : Nat, ((keyStep s.work ch heads feet dh df).pressWakes ch (s.chan ch).grist.decl.length).reg (f.addr n k) =
      (keyStep s.work ch heads feet dh df).reg (f.addr n k) := by
    intro f hf n k
    have hdev : R.PWR_WAKE_PEND.addr 0 0 < 0x40100000 ∧ R.PWR_PMB_STAT.addr 0 0 < 0x40100000 := by decide
    have hle : f.base ≤ f.addr n k := Nat.le_trans (Nat.le_add_right _ _) (Nat.le_add_right _ _)
    exact hwreg _ (by omega) (by omega)
  refine ⟨?_, ?_, ?_, fun a ha => ?_, ?_⟩
  · rw [State.run_reg]
    refine (hkept R.GRIST_READ (by decide) ch (8 * d + l)).trans ?_
    rw [hall.reg _ (hread _ ⟨256 + 8 * d + l, by omega, by omega, gristRead_addr ch d l⟩), hword]
  · rw [State.run_get]
    refine Eq.trans ?_ hdrive
    unfold Work.get
    exact congrArg (fun y => bitsOf y F.GRIST_STAT_DRIVE.hi F.GRIST_STAT_DRIVE.lo) (hkept F.GRIST_STAT_DRIVE (by decide) ch 0)
  · rw [State.run_chan]
    refine (congrArg (fun c : Chan => c.grist.stepRun) (hwchan ch)).trans ?_
    rw [hall.run, hschan, hbrun]
  · obtain ⟨hfree, hblock⟩ := scanReg_frame ch a ha
    obtain ⟨hpend, hpmb⟩ : a ≠ R.PWR_WAKE_PEND.addr 0 0 ∧ a ≠ R.PWR_PMB_STAT.addr 0 0 :=
      ⟨fun e => ha (List.mem_append_right _ (by simp [e])), fun e => ha (List.mem_append_right _ (by simp [e]))⟩
    rw [State.run_reg]
    refine (hwreg a hpend hpmb).trans ?_
    rw [hall.reg a hfree, b.reg_showStep ch d rs ds a (fun r hr e => ?_) (fun y hy e => ?_), hbreg, hbooked.reg a hfree, State.work_reg]
    · have := hrs r hr
      exact hblock (256 + 8 * d + r.ladder) (by omega) (e.trans (gristRead_addr ch d r.ladder))
    · have := hds y hy
      exact hblock (192 + y.drive) (by omega) (e.trans (gristDrv_addr ch y.drive))
  · rw [State.run_mem]
    refine (congrArg (fun x => commitMem x s.mem) (hwwr.trans (hall.wr.trans (hswr.trans hbwr)))).trans ?_
    exact commitMem_nil _

/-! ### The continuity test and a repeat -/

theorem Work.flag_modSeq (w : Work) (n : Nat) (f : Seq → Seq) (g : Fld) (m : Nat) : (w.modSeq n f).flag g m = w.flag g m := rfl

theorem Work.reg_modSeq (w : Work) (n : Nat) (f : Seq → Seq) (a : Nat) : (w.modSeq n f).reg a = w.reg a := rfl

theorem keyAndEncoder_continuity (s : State) (ch : Fin 8) (x : SlotRun) (heads : List Nat) (hcur : (s.chan ch).seq.cur = some x)
    (hkind : x.kind = kDiag) (hready : s.work.contReady ch = true) (hgroup : 1 ≤ (s.chan ch).seq.act.diagG) (hphase : (s.chan ch).seq.diagPhase < 3)
    (t : State) (ht : t = s.run (fun w => continuityTest w ch heads)) :
    (t.chan ch).grist.contRes = some (s.dev.tick, heads) ∧ t.flag F.GRIST_STAT_CONT_WAIT ch = false ∧
      s.sameRegs t [R.GRIST_STAT.addr ch 0] ∧ t.mem = s.mem := by
  subst ht
  have hend : continuityTest s.work ch heads =
      ((s.work.modGrist ch (fun g => { g with contRes := some (s.dev.tick, heads) })).put F.GRIST_STAT_CONT_WAIT 0 ch).modSeq ch
        (fun y => { y with diagPhase := 3 }) := by
    unfold continuityTest
    simp only [show (s.work.chan ch).seq.cur = some x from hcur, hkind, hready, true_and]
    exact if_pos ⟨hgroup, hphase⟩
  refine ⟨?_, ?_, fun a ha => ?_, ?_⟩
  · rw [State.run_chan, hend]
    unfold Work.modSeq
    rw [Work.chan_modChan_fin, Work.chan_put]
    dsimp only
    rw [Work.grist_modGrist]
  · rw [State.run_flag, hend]
    rw [Work.flag_modSeq, Work.flag_put_same _ _ _ _ _ rfl]
    rfl
  · rw [State.run_reg, hend, Work.reg_modSeq, Work.reg_put_ne _ F.GRIST_STAT_CONT_WAIT _ _ _ _ (fun e => ha (e ▸ List.mem_cons_self))]
    rfl
  · rw [State.run_mem, hend]
    rfl

theorem keyAndEncoder_repeat (s : State) (ch : Fin 8) (key : Fin 512) (h : Held)
    (hheld : (s.chan ch).cask.held.find? (fun x => x.key == (key : Nat)) = some h) (hrep : h.rep = true) (hdue : h.nextRepeat = s.dev.tick)
    (t : State) (ht : t = s.run (fun w => keyRepeat w ch key)) :
    (t.chan ch).cask.batch = (s.chan ch).cask.batch ++ [⟨4, 2, key, h.ackKey.toNat + 2 * (decide ((key : Nat) ∈ (s.chan ch).grist.frozen)).toNat, h.count + 1, s.work.tick32⟩] ∧
      (t.chan ch).cask.held = (s.chan ch).cask.held.map (fun x => if x.key == (key : Nat) then { x with count := x.count + 1 } else x) ∧
      s.sameRegs t [] ∧ t.mem = s.mem := by
  subst ht
  have hend : keyRepeat s.work ch key = (s.work.modChan ch (fun c => { c with cask := { c.cask with
      held := c.cask.held.map (fun x => if x.key == (key : Nat) then { x with count := x.count + 1 } else x) } })).entryBatch ch
        ⟨4, 0x02, key, h.ackKey.toNat + 2 * (decide ((key : Nat) ∈ (s.chan ch).grist.frozen)).toNat, h.count + 1, s.work.tick32⟩ := by
    unfold keyRepeat
    rw [show (s.work.chan ch).cask.held.find? (fun x => x.key == (key : Nat)) = some h from hheld]
    exact if_pos ⟨hrep, hdue⟩
  unfold Work.entryBatch at hend
  refine ⟨?_, ?_, fun a _ => ?_, ?_⟩
  · rw [State.run_chan, hend, Work.chan_modChan_fin, Work.chan_modChan_fin]
    rfl
  · rw [State.run_chan, hend, Work.chan_modChan_fin, Work.chan_modChan_fin]
    rfl
  · rw [State.run_reg, hend]
    rfl
  · rw [State.run_mem, hend]
    rfl

/-! ### An encoder's input -/

theorem Work.encAnchor_same (w : Work) (n j : Nat) (e : Encoder) :
    (w.encAnchor n j e).a = e.a ∧ (w.encAnchor n j e).b = e.b ∧ (w.encAnchor n j e).x = e.x := by
  unfold Work.encAnchor
  exact iteInduction (motive := fun y : Encoder => y.a = e.a ∧ y.b = e.b ∧ y.x = e.x) (fun _ => ⟨rfl, rfl, rfl⟩) (fun _ => ⟨rfl, rfl, rfl⟩)

/-- A fine position moved: the levels stand, and beside the encoder nothing but what is told. -/
theorem Work.encMove_same (w : Work) (n j : Nat) (e : Encoder) (d : Int) (us : Nat) :
    w.OnlyTold (w.encMove n j e d us).1 ∧ (w.encMove n j e d us).2.a = e.a ∧ (w.encMove n j e d us).2.b = e.b ∧
      (w.encMove n j e d us).2.x = e.x + d := by
  unfold Work.encMove
  dsimp only
  split
  · exact ⟨Work.OnlyTold.refl w, rfl, rfl, rfl⟩
  · exact iteInduction (motive := fun p : Work × Encoder => w.OnlyTold p.1 ∧ p.2.a = e.a ∧ p.2.b = e.b ∧ p.2.x = e.x + d)
      (fun _ => ⟨Work.OnlyTold.ev w _ _ _, rfl, rfl, rfl⟩) (fun _ => ⟨Work.OnlyTold.refl w, rfl, rfl, rfl⟩)

/-- What an accepted level change does with an encoder, and what it tells or flags (R226). -/
def Work.encTurned (w : Work) (n j : Nat) (e : Encoder) (a b : Bool) (us : Nat) : Work × Encoder :=
  if quad a b = (quad e.a e.b + 1) % 4 then w.encMove n j { e with a := a, b := b } (if w.flag F.ENC_CFG_DIR n j then -1 else 1) us
  else if quad a b = (quad e.a e.b + 3) % 4 then w.encMove n j { e with a := a, b := b } (-(if w.flag F.ENC_CFG_DIR n j then -1 else 1)) us
  else if quad a b = quad e.a e.b then (w, { e with a := a, b := b })
  else (w.raise (if j = 0 then F.ENC_STAT_ENC_ERR0 else F.ENC_STAT_ENC_ERR1) n, { e with a := a, b := b, err := true })

theorem encoderInput_of (w : Work) (n j : Nat) (a b : Bool) (us : Nat) (hen : w.flag F.ENC_CFG_EN n j = true) (hheld : (w.chan n).blockHeld 3 = false) :
    encoderInput w n j a b us = (w.encTurned n j (w.encAnchor n j (w.encOf n j)) a b (w.nowUs + us)).1.setEnc n j
      ((w.encTurned n j (w.encAnchor n j (w.encOf n j)) a b (w.nowUs + us)).1.encAnchor n j
        (w.encTurned n j (w.encAnchor n j (w.encOf n j)) a b (w.nowUs + us)).2) := by
  unfold encoderInput
  rw [if_neg (by rw [hen, hheld]; decide)]
  rfl

theorem quad_lt (a b : Bool) : quad a b < 4 := by cases a <;> cases b <;> decide

section
variable (w : Work) (n : Nat) (j : Fin 2) (e : Encoder) (a b : Bool) (us : Nat)

/-- The turn taken apart: it moves the position by its direction, and a jump over a state is flagged (R226). -/
theorem Work.encTurned_spec :
    let p := w.encTurned n j e a b us
    let q := (quad a b + 4 - quad e.a e.b) % 4
    let sign : Int := if w.flag F.ENC_CFG_DIR n j then -1 else 1
    p.2.a = a ∧ p.2.b = b ∧ p.2.x = (if q = 1 then e.x + sign else if q = 3 then e.x - sign else e.x) ∧
      (q ≠ 2 → w.OnlyTold p.1) ∧ (q = 2 → p.1 = w.raise (if (j : Nat) = 0 then F.ENC_STAT_ENC_ERR0 else F.ENC_STAT_ENC_ERR1) n) := by
  have ha := quad_lt a b
  have he := quad_lt e.a e.b
  dsimp only
  unfold Work.encTurned
  generalize quad a b = x at ha
  generalize quad e.a e.b = y at he
  by_cases hup : x = (y + 1) % 4
  · obtain ⟨htold, hla, hlb, hx⟩ := w.encMove_same n j { e with a := a, b := b } (if w.flag F.ENC_CFG_DIR n j then -1 else 1) us
    rw [if_pos hup, if_pos (show (x + 4 - y) % 4 = 1 by omega)]
    exact ⟨hla, hlb, hx, fun _ => htold, fun h => by omega⟩
  · by_cases hdown : x = (y + 3) % 4
    · obtain ⟨htold, hla, hlb, hx⟩ := w.encMove_same n j { e with a := a, b := b } (-(if w.flag F.ENC_CFG_DIR n j then -1 else 1)) us
      rw [if_neg hup, if_pos hdown, if_neg (show ¬ (x + 4 - y) % 4 = 1 by omega), if_pos (show (x + 4 - y) % 4 = 3 by omega)]
      exact ⟨hla, hlb, hx.trans (Int.sub_eq_add_neg).symm, fun _ => htold, fun h => by omega⟩
    · rw [if_neg hup, if_neg hdown, if_neg (show ¬ (x + 4 - y) % 4 = 1 by omega), if_neg (show ¬ (x + 4 - y) % 4 = 3 by omega)]
      by_cases hsame : x = y
      · rw [if_pos hsame]
        exact ⟨rfl, rfl, rfl, fun _ => Work.OnlyTold.refl w, fun h => by omega⟩
      · rw [if_neg hsame]
        exact ⟨rfl, rfl, rfl, fun h => by omega, fun _ => rfl⟩

end

/-- An encoder that is set reads what it was set to; only ENC_STAT shows it. -/
theorem Work.setEnc_spec (w : Work) (n : Fin 8) (j : Fin 2) (e : Encoder) (hlen : (w.chan n).enc.length = 2) :
    (w.setEnc n j e).encOf n j = e ∧ (∀ a, a ≠ R.ENC_STAT.addr n 0 → (w.setEnc n j e).reg a = w.reg a) ∧ (w.setEnc n j e).wr = w.wr ∧
      (∀ f ∈ [F.ENC_STAT_ENC_ERR0, F.ENC_STAT_ENC_ERR1], (w.setEnc n j e).flag f n = w.flag f n) := by
  have hchan : ∀ v : Work, (v.showEnc n j).chan n = v.chan n := fun v => by
    unfold Work.showEnc
    rw [Work.chan_put, Work.putFlag_eq, Work.chan_put]
  have hanchor : (if (j : Nat) = 0 then F.ENC_STAT_ANCHOR0 else F.ENC_STAT_ANCHOR1).addr n 0 = R.ENC_STAT.addr n 0 := by
    split <;> rfl
  refine ⟨?_, fun a ha => ?_, ?_, fun f hf => ?_⟩
  · unfold Work.encOf Work.setEnc
    rw [hchan, Work.chan_modChan_fin]
    have hj : (j : Nat) < (w.chan n).enc.length := by omega
    simp [List.getD_eq_getElem?_getD, hj]
  · unfold Work.setEnc Work.showEnc
    rw [Work.reg_put_ne _ F.ENC_STAT_LEVELS _ _ _ _ ha, Work.putFlag_eq, Work.reg_put_ne _ _ _ _ _ _ (by rw [hanchor]; exact ha)]
    rfl
  · unfold Work.setEnc Work.showEnc
    rw [Work.put_wr, Work.putFlag_eq, Work.put_wr]
    rfl
  · have hapart : ∀ f ∈ [F.ENC_STAT_ENC_ERR0, F.ENC_STAT_ENC_ERR1], fieldsApart F.ENC_STAT_LEVELS f = true ∧
        fieldsApart F.ENC_STAT_ANCHOR0 f = true ∧ fieldsApart F.ENC_STAT_ANCHOR1 f = true := by decide
    obtain ⟨hlevels, h0, h1⟩ := hapart f hf
    unfold Work.setEnc Work.showEnc
    rw [Work.flag_put_apart _ _ _ _ _ hlevels, Work.putFlag_eq]
    split
    · rw [Work.flag_put_apart _ _ _ _ _ h0]
      rfl
    · rw [Work.flag_put_apart _ _ _ _ _ h1]
      rfl

theorem keyAndEncoder_encoder (s : State) (ch : Fin 8) (j : Fin 2) (a b : Bool) (us q : Nat) (sign : Int) (hen : s.flag F.ENC_CFG_EN ch j = true)
    (hheld : (s.chan ch).blockHeld 3 = false) (hlen : (s.chan ch).enc.length = 2)
    (hq : q = (quad a b + 4 - quad (s.work.encOf ch j).a (s.work.encOf ch j).b) % 4) (hsign : sign = if s.flag F.ENC_CFG_DIR ch j then -1 else 1)
    (t : State) (ht : t = s.run (fun w => encoderInput w ch j a b us)) :
    (t.work.encOf ch j).a = a ∧ (t.work.encOf ch j).b = b ∧
      ((t.work.encOf ch j).x = if q = 1 then (s.work.encOf ch j).x + sign else if q = 3 then (s.work.encOf ch j).x - sign else (s.work.encOf ch j).x) ∧
      (q = 2 → t.flag (if (j : Nat) = 0 then F.ENC_STAT_ENC_ERR0 else F.ENC_STAT_ENC_ERR1) ch = true) ∧
      s.sameRegs t [R.ENC_STAT.addr ch 0] ∧ t.mem = s.mem := by
  subst ht
  have hend := encoderInput_of s.work ch j a b us hen hheld
  obtain ⟨hla, hlb, hx0⟩ := s.work.encAnchor_same ch j (s.work.encOf ch j)
  obtain ⟨ha, hb, hx, htold, hjump⟩ := s.work.encTurned_spec ch j (s.work.encAnchor ch j (s.work.encOf ch j)) a b (s.work.nowUs + us)
  rw [hla, hlb, ← hq] at htold hjump hx
  rw [hx0] at hx
  generalize s.work.encTurned ch j (s.work.encAnchor ch j (s.work.encOf ch j)) a b (s.work.nowUs + us) = p at hend ha hb hx htold hjump
  obtain ⟨hpa, hpb, hpx⟩ := p.1.encAnchor_same ch j p.2
  have herr : (if (j : Nat) = 0 then F.ENC_STAT_ENC_ERR0 else F.ENC_STAT_ENC_ERR1).addr ch 0 = R.ENC_STAT.addr ch 0 := by split <;> rfl
  have hside : p.1.chan ch = s.work.chan ch ∧ (∀ r, r ≠ R.ENC_STAT.addr ch 0 → p.1.reg r = s.reg r) ∧ p.1.wr = [] := by
    by_cases h2 : q = 2
    · rw [hjump h2]
      unfold Work.raise
      exact ⟨Work.chan_put .., fun r hr => Work.reg_put_ne _ _ _ _ _ _ (by rw [herr]; exact hr), Work.put_wr ..⟩
    · exact ⟨(htold h2).chan ch, fun r _ => (htold h2).reg r, (htold h2).wr⟩
  obtain ⟨hchan, hreg, hwr⟩ := hside
  obtain ⟨hset, hsreg, hswr, hsflag⟩ := p.1.setEnc_spec ch j (p.1.encAnchor ch j p.2) (by rw [hchan]; exact hlen)
  have hnow : (s.run (fun w => encoderInput w ch j a b us)).work.encOf ch j = p.1.encAnchor ch j p.2 := by
    have hrun : (s.run (fun w => encoderInput w ch j a b us)).work.encOf ch j = (encoderInput s.work ch j a b us).encOf ch j :=
      congrArg (fun c : Chan => c.enc.getD j Encoder.init) (State.run_chan s _ ch)
    rw [hrun, hend, hset]
  refine ⟨?_, ?_, ?_, fun h2 => ?_, fun r hr => ?_, ?_⟩
  · rw [hnow, hpa, ha]
  · rw [hnow, hpb, hb]
  · rw [hnow, hpx, hx, hsign]
    rfl
  · rw [State.run_flag, hend, hsflag _ (by split <;> decide), hjump h2]
    unfold Work.raise
    rw [Work.flag_put_same _ _ _ _ _ (by split <;> rfl)]
    rfl
  · have hne : r ≠ R.ENC_STAT.addr ch 0 := fun e => hr (e ▸ List.mem_cons_self)
    rw [State.run_reg, hend, hsreg r hne, hreg r hne]
  · rw [State.run_mem, hend, hswr, hwr, commitMem_nil]

/-- Settles O23: a step shows its readings and judges them, a test keeps its codes, a repeat its entry, and an encoder moves
by at most one. -/
theorem keyAndEncoderCommands : Obligations.KeyAndEncoderCommands := by
  unfold Obligations.KeyAndEncoderCommands
  refine ⟨?_, ?_, ?_, ?_⟩
  · intro s ch x heads feet dh df d l hcur hkind hscans hfresh hheld hdrives hladders hd hl _ _
    exact ⟨_, rfl, keyAndEncoder_step s ch x heads feet dh df d l hcur hkind hscans hfresh hheld hdrives hladders hd hl _ rfl⟩
  · intro s ch x heads hcur hkind hready hgroup hphase
    exact ⟨_, rfl, keyAndEncoder_continuity s ch x heads hcur hkind hready hgroup hphase _ rfl⟩
  · intro s ch key h hheld hrep hdue
    exact ⟨_, rfl, keyAndEncoder_repeat s ch key h hheld hrep hdue _ rfl⟩
  · intro s ch j a b us q sign hen hheld hlen hq hsign
    exact ⟨_, rfl, keyAndEncoder_encoder s ch j a b us q sign hen hheld hlen hq hsign _ rfl⟩

end Sys2Proof.Machine
end

section
/-! PROOF. A TX word for a channel that lists no pin engine. -/

namespace Sys2Proof.Machine

/-- A released device in OPERATE whose channel 0 lists no pin engine. -/
def State.noEngines : State :=
  { State.reset with
    dev := { Dev.init with
      regs := [(F.SYS_REL_STEP.addr 0 0, 12), (F.SYS_MODE_MODE.addr 0 0, mdOperate)]
      rst := { Rst.init with hold := .none }
      ch := Dev.init.ch.set 0 { Chan.init with inReset := false, psq := [] } } }

/-- A word written to engine 0 is kept nowhere: TX_LEVEL shows none. -/
theorem State.noEngines_txLevel :
    (State.noEngines.run (fun w => w.regWrite (R.PSQ_TX.addr 0 0) 0)).get F.PSQ_FSTAT_TX_LEVEL 0 0 = 0 := by
  decide +kernel

/-- Refutes O29: its clause on a word that fits the TX FIFO holds of a channel with four engines; where the channel lists
none, the word is not kept. -/
theorem not_pinEngineWords : ¬ Obligations.PinEngineWords := by
  unfold Obligations.PinEngineWords
  rintro ⟨htx, -⟩
  obtain ⟨t, hnext, -, hlevel, -⟩ := htx State.noEngines .host 0 0 0 (by decide +kernel) (by decide +kernel)
  obtain rfl : State.noEngines.run (fun w => w.regWrite (R.PSQ_TX.addr 0 0) 0) = t := Host.Outcome.next.inj hnext
  exact absurd (State.noEngines_txLevel.symm.trans hlevel) (Nat.succ_ne_zero _).symm

end Sys2Proof.Machine
end

section
/-! PROOF. A file transfer over FoE while its own engine's session is open. -/

namespace Sys2Proof.Machine

/-- An open session of engine 0, whose last command came at 0 µs. -/
def foeSession : Session :=
  { owner := .tun 0, length := 224, scope := 0, channel := 0, stamp := none, late := false, store := false, staged := []
    lastUs := 0, tableOk := false, plain := [], asked := false, quiesced := 0, undo := none, endBy := none }

/-- A released device in OPERATE, one microsecond after its reset: engine 0 runs EtherCAT and owns the open session. -/
def State.foeOwnSession : State :=
  { State.reset with
    dev := { Dev.init with
      nowCyc := 200
      regs := [(F.SYS_REL_STEP.addr 0 0, 12), (F.SYS_MODE_MODE.addr 0 0, mdOperate), (F.TUN_CTL_RUNNING.addr 0 0, 1),
        (F.TUN_STAT_PROTO.addr 0 0, 2)]
      rst := { Rst.init with hold := .none }
      tun := Dev.init.tun.set 0 { TunEng.init with held := false }
      img := { Dev.init.img with sess := some foeSession } } }

/-- The CFG_BEGIN of the transfer is refused, yet the session's owner has spoken: its timeout starts anew (R66). -/
theorem State.foeOwnSession_lastUs :
    ((State.foeOwnSession.run (fun w => foeImageWrite w 0 [])).dev.img.sess.map (·.lastUs)) = some 1 := by
  decide +kernel

/-- Refutes O30: its clause on a transfer while a session is open says that the session stays as it is, yet one of the
engine itself is renewed by the refused CFG_BEGIN. -/
theorem not_tunCommands : ¬ Obligations.TunCommands := by
  unfold Obligations.TunCommands
  rintro ⟨-, -, -, -, -, -, -, -, -, -, hopen, -⟩
  obtain ⟨t, hnext, -, -, -, hsess⟩ := hopen State.foeOwnSession 0 [] (by decide +kernel) (by decide +kernel) rfl
    (Option.some_ne_none _)
  obtain rfl : State.foeOwnSession.run (fun w => foeImageWrite w 0 []) = t := Host.Outcome.next.inj hnext
  have hlast := State.foeOwnSession_lastUs
  rw [hsess] at hlast
  exact absurd hlast (by decide)

end Sys2Proof.Machine
end

section
/-! PROOF. The handshake of a pair (R342, R358, R422). -/

namespace Sys2Proof.Machine

/-! ### Runs that write nothing -/

/-- A run that puts nothing into a register and writes no byte leaves both. -/
theorem State.frame_of_regs (s : State) (f : Work → Work) (hregs : (f s.work).regs = s.work.regs) (hwr : (f s.work).wr = []) :
    s.sameRegs (s.run f) [] ∧ (s.run f).mem = s.mem := by
  refine ⟨fun a _ => ?_, by rw [State.run_mem, hwr, commitMem_nil]⟩
  rw [State.run_reg, ← State.work_reg]
  unfold Work.reg
  rw [hregs]

/-- A run that does nothing. -/
theorem State.run_of_idle (s : State) (f : Work → Work) (h : f s.work = s.work) :
    s.run f = { s with dev := { s.dev with sent := [] } } := by
  unfold State.run
  rw [h]
  rfl

/-! ### The handshake, case by case -/

section
variable (w : Work)

theorem Work.pairChallenge_starts (hon : w.pairOn = true) (hrole : w.get F.PAIR_CFG_ROLE = 1) (hidle : w.pair.auth = .idle)
    (hkey : (w.pairMac []).isSome = true) :
    w.pairChallenge = ((w.fresh 128).2.setAuth (.running ⟨w.partnerUid, leBytes 16 (w.fresh 128).1, [], 0, 64⟩)).send
      ⟨1, 2, 0x03, 0, leBytes 16 (w.fresh 128).1⟩ :=
  if_pos ⟨hon, hrole, hidle, hkey⟩

theorem Work.pairChallenge_barred (h : w.pair.auth ≠ .idle ∨ w.get F.PAIR_CFG_ROLE ≠ 1 ∨ (w.pairMac []).isNone = true) :
    w.pairChallenge = w := by
  refine if_neg fun ⟨_, hrole, hidle, hkey⟩ => ?_
  obtain h | h | h := h
  · exact h hidle
  · exact h hrole
  · rw [Option.isNone_iff_eq_none] at h
    rw [h] at hkey
    cases hkey

theorem helloSend_challenges (hon : w.pairOn = true) (hdue : w.tick % 1024 = 0 ∨ w.pairUp = false) (hauth : w.pair.auth ≠ .passed) :
    helloSend w = w.pairChallenge := by
  unfold helloSend
  rw [if_pos ⟨hon, hdue.imp_right fun h => by rw [h]; rfl⟩, if_pos hauth]

theorem helloSend_unpassed (hauth : w.pair.auth ≠ .passed) : helloSend w = w.pairChallenge ∨ helloSend w = w := by
  unfold helloSend
  refine iteInduction (motive := fun v : Work => v = w.pairChallenge ∨ v = w) (fun _ => .inl (if_pos hauth)) (fun _ => .inr rfl)

theorem hello_unpassed (uid mask serial : Nat) (hauth : w.pair.auth ≠ .passed) : hello w uid mask serial = w :=
  if_pos (.inr (.inr hauth))

theorem Work.pairMac_of_key (key : List Byte) (hkey : w.sec.keys.find? (fun x => x.1 == 3) = some (3, key)) (text : List Byte) :
    w.pairMac text = some (Config.hmacSha256 key text) := by
  unfold Work.pairMac
  rw [hkey]
  rfl

theorem Work.pairMac_none (h : (w.pairMac []).isNone = true) (text : List Byte) : w.pairMac text = none := by
  unfold Work.pairMac at h ⊢
  cases hkey : w.sec.keys.find? (fun k => k.1 == 3) with
  | none => rfl
  | some x =>
    rw [hkey] at h
    cases h

/-- A device that is not of the role, or works in no pair. -/
theorem Work.pairRole_barred {role : Nat} (hon : w.pairOn = true) (hrole : w.get F.PAIR_CFG_ROLE = role) :
    ¬ ((!w.pairOn) = true ∨ w.get F.PAIR_CFG_ROLE ≠ role) := by
  rintro (h | h)
  · rw [hon] at h
    cases h
  · exact h hrole

theorem pairChal_answers (nr nn mac : List Byte) (hon : w.pairOn = true) (hrole : w.get F.PAIR_CFG_ROLE = 2)
    (hmac : w.pairMac (joinText rp1 ownUid w.partnerUid nr nn 0) = some mac) :
    pairChal w nr nn = (w.setAuth (.running ⟨w.partnerUid, nr, nn, 0, 64⟩)).send ⟨1, 2, 0x04, 0, nn ++ mac⟩ := by
  unfold pairChal
  rw [if_neg (w.pairRole_barred hon hrole), hmac]

theorem pairChal_keyless (nr nn : List Byte) (hon : w.pairOn = true) (hrole : w.get F.PAIR_CFG_ROLE = 2)
    (hmac : w.pairMac (joinText rp1 ownUid w.partnerUid nr nn 0) = none) : pairChal w nr nn = w.setAuth .failed := by
  unfold pairChal
  rw [if_neg (w.pairRole_barred hon hrole), hmac]

theorem pairRsp_accepts (nn mac m : List Byte) (k : Shake) (hon : w.pairOn = true) (hrole : w.get F.PAIR_CFG_ROLE = 1)
    (hauth : w.pair.auth = .running k) (hmac : w.pairMac (joinText rp1 w.partnerUid ownUid k.nr nn 0) = some mac)
    (hown : w.pairMac (joinText rp2 w.partnerUid ownUid k.nr nn 0) = some m) :
    pairRsp w nn mac = (w.setAuth .passed).send ⟨1, 2, 0x05, 0, m⟩ := by
  unfold pairRsp
  rw [if_neg (w.pairRole_barred hon hrole), hauth]
  dsimp only
  rw [if_pos hmac, hown]
  rfl

theorem pairRsp_refuses (nn mac : List Byte) (k : Shake) (hon : w.pairOn = true) (hrole : w.get F.PAIR_CFG_ROLE = 1)
    (hauth : w.pair.auth = .running k) (hmac : w.pairMac (joinText rp1 w.partnerUid ownUid k.nr nn 0) ≠ some mac) :
    pairRsp w nn mac = w.setAuth .failed := by
  unfold pairRsp
  rw [if_neg (w.pairRole_barred hon hrole), hauth]
  exact if_neg hmac

theorem pairAccept_ends (mac : List Byte) (k : Shake) (hon : w.pairOn = true) (hrole : w.get F.PAIR_CFG_ROLE = 2)
    (hauth : w.pair.auth = .running k) :
    pairAccept w mac = w.setAuth
      (if w.pairMac (joinText rp2 ownUid w.partnerUid k.nr k.nn 0) = some mac then .passed else .failed) := by
  unfold pairAccept
  rw [if_neg (w.pairRole_barred hon hrole), hauth]

theorem joinTimeout_pair (k : Shake) (hauth : w.pair.auth = .running k) (hleft : k.left = 0) (hfab : w.fab.shakes = []) :
    joinTimeout w = w.setAuth .failed := by
  have hpair : w.pairTimeout = w.setAuth .failed := by
    unfold Work.pairTimeout
    rw [hauth]
    exact if_pos hleft
  have hlate : ((w.setAuth .failed).fab.shakes.filter (fun x => x.left == 0)).isEmpty = true := by
    rw [show (w.setAuth .failed).fab.shakes = [] from hfab]
    rfl
  unfold joinTimeout
  rw [hpair]
  exact if_pos hlate

end

/-! ### What the steps leave -/

/-- A step that sets the handshake, and sends what `ms` lists. -/
theorem State.shaken (s : State) (f : Work → Work) (a : PairAuth) (ms : List Sent) (free : Nat)
    (h : f s.work = { s.work.setAuth a with sent := ms, free := free }) :
    (s.run f).dev.pair = { s.dev.pair with auth := a } ∧ (s.run f).dev.sent = ms ∧ s.sameRegs (s.run f) [] ∧
      (s.run f).mem = s.mem := by
  refine ⟨?_, ?_, s.frame_of_regs f (by rw [h]; rfl) (by rw [h]; rfl)⟩ <;> rw [State.run_dev, h]
  rfl

/-- Settles O55: each case of the handshake sets PAIR's handshake and sends at most one frame. -/
theorem pairHandshake : Obligations.PairHandshake := by
  unfold Obligations.PairHandshake
  refine ⟨fun s hon hrole hup hidle hkey => ?_, fun s hon hauth hbar => ?_, fun s uid role mask serial hauth => ?_,
    fun s nr nn key hon hrole hkey => ?_, fun s nr nn hon hrole hkey => ?_, fun s k nn key hon hrole hauth hkey => ?_,
    fun s k nn mac hon hrole hauth hmac => ?_, fun s k mac words ring hon hrole hauth => ?_, fun s k hauth hleft hfab => ?_⟩
  · refine ⟨_, rfl, s.shaken helloSend _ _ _ ((helloSend_challenges s.work hon (.inr hup) ?_).trans
      (s.work.pairChallenge_starts hon hrole hidle hkey))⟩
    rw [show s.work.pair.auth = .idle from hidle]
    exact fun h => PairAuth.noConfusion h
  · refine ⟨_, rfl, s.run_of_idle _ ?_⟩
    obtain h | h := helloSend_unpassed s.work hauth
    · exact h.trans (s.work.pairChallenge_barred hbar)
    · exact h
  · refine ⟨_, rfl, s.run_of_idle _ ?_⟩
    exact iteInduction (motive := fun v : Work => v = s.work) (fun _ => rfl) (fun _ => hello_unpassed s.work uid mask serial hauth)
  · exact ⟨_, rfl, s.shaken _ _ _ _ (pairChal_answers s.work nr nn _ hon hrole (s.work.pairMac_of_key key hkey _))⟩
  · exact ⟨_, rfl, s.shaken _ _ _ _ (pairChal_keyless s.work nr nn hon hrole (s.work.pairMac_none hkey _))⟩
  · exact ⟨_, rfl, s.shaken _ _ _ _ (pairRsp_accepts s.work nn _ _ k hon hrole hauth (s.work.pairMac_of_key key hkey _)
      (s.work.pairMac_of_key key hkey _))⟩
  · exact ⟨_, rfl, s.shaken _ _ _ _ (pairRsp_refuses s.work nn mac k hon hrole hauth hmac)⟩
  · exact ⟨_, rfl, s.shaken _ _ _ _ (pairAccept_ends s.work mac k hon hrole hauth)⟩
  · exact ⟨_, rfl, s.shaken _ _ _ _ (joinTimeout_pair s.work k hauth hleft hfab)⟩

end Sys2Proof.Machine
end

section
/-! PROOF. A ring link reported broken while route tables wait for the next boundary. -/

namespace Sys2Proof.Machine

/-- What a node knows of a ring of two nodes, itself the first. -/
def twoRing : RingInfo := { len := 2, pos := 0, fwd := 0, back := 1, members := [1, 2], owners := [], broken := [] }

/-- A released device on that ring, with fresh route tables to be adopted at the next boundary. -/
def State.routesWait : State :=
  { State.reset with
    dev := { Dev.init with
      regs := [(F.SYS_REL_STEP.addr 0 0, 12), (F.RHL_STAT_STATE.addr 0 0, fsJoined)]
      rst := { Rst.init with hold := .none }
      fab := { Dev.init.fab with ring := some twoRing, broken := [], routes := some ([], some twoRing) } } }

/-- The waiting tables learn of the break too (R345, R346). -/
theorem State.routesWait_routes :
    (State.routesWait.run (fun w => linkState w 0 ⟨2, 1⟩ 0 false)).dev.fab.routes = some ([], some (ringBreaks twoRing 1)) := by
  decide +kernel

/-- Refutes O32: its clause on a break names all that it changes of the fabric's state, yet route tables that wait for the
boundary change too. -/
theorem not_joiningTheFabric : ¬ Obligations.JoiningTheFabric := by
  unfold Obligations.JoiningTheFabric
  rintro ⟨-, -, -, -, -, -, -, -, -, -, -, hbreak, -⟩
  obtain ⟨t, hnext, hfab, -⟩ := hbreak State.routesWait 0 2 1 0 twoRing 1 (by decide +kernel) (by decide +kernel) rfl (by decide)
    (by decide) rfl (by decide) rfl (by decide)
  obtain rfl : State.routesWait.run (fun w => linkState w 0 ⟨2, 1⟩ 0 false) = t := Host.Outcome.next.inj hnext
  have hroutes := State.routesWait_routes
  rw [hfab] at hroutes
  exact absurd hroutes (by decide)

end Sys2Proof.Machine
end

section
/-! PROOF. A state delta whose integrity elements reach another register. -/

namespace Sys2Proof.Machine

/-- A delta whose one element index lies past the elements, at CASK_STAT: it gives the ring four places. Two entries come with
it. -/
def farElement : PairDelta :=
  { fields := [], alerts := [], accounts := [], gov := (0, []), govAvg := 0, volts := [], elems := [(2689, 4 * 2 ^ 16)]
    failedBy := [], recheck := [], policies := [], lamps := [], lampRe := [], fnOff := [], swGov := (0, []), tapFailed := []
    tapFault := [], tapCrc := [], tapStat := [], entries := [[1], [1]], oldest := 0, next := 2, keys := [] }

/-- A standby of channel 0, whose ring has one place. -/
def State.smallRing : State :=
  { State.reset with
    dev := { Dev.init with
      regs := [(F.SYS_REL_STEP.addr 0 0, 12), (F.SYS_MODE_MODE.addr 0 0, mdOperate), (R.PAIR_CFG.addr 0 0, 1 + 2 * 2 + 2 ^ 8),
        (R.PAIR_STAT.addr 0 0, 1), (R.CASK_STAT.addr 0 0, 2 ^ 16)]
      rst := { Rst.init with hold := .none }
      pair := { Dev.init.pair with scanAt := [(0, 1)] }
      ch := Dev.init.ch.set 0 { Chan.init with inReset := false, standby := true } } }

theorem State.smallRing_base : State.smallRing.work.ringBase 0 = 0x01000000 := by decide +kernel

/-- What a delta leaves before its digest is compared. -/
def Work.deltaTaken (w : Work) (n : Nat) (d : PairDelta) : Work :=
  ((w.modPair (fun p => { p with stateGot := setBit p.stateGot n true })).copyDelta n d).compareKeys n d.keys

/-- The digest of a channel without a whole copy is compared with nothing. -/
theorem stateRecv_unsynced (w : Work) (n : Nat) (d : PairDelta) (digest : Nat) (hfollows : w.follows n = true)
    (hsynced : bitOf (w.deltaTaken n d).pair.synced n = false) : stateRecv w n d digest = w.deltaTaken n d := by
  refine (if_neg (by rw [hfollows]; exact Bool.false_ne_true)).trans (if_pos (.inr ?_))
  exact (congrArg Bool.not hsynced).trans rfl

/-- The second entry goes into a place that the ring did not have. -/
theorem State.smallRing_byte : (State.smallRing.run (fun w => stateRecv w 0 farElement 0)).byte 0x01000010 = 1 := by
  have htaken : stateRecv State.smallRing.work 0 farElement 0 = State.smallRing.work.deltaTaken 0 farElement :=
    stateRecv_unsynced _ 0 farElement 0 (by decide +kernel) (by decide +kernel)
  rw [State.run_congr _ _ (fun w => w.deltaTaken 0 farElement) htaken]
  decide +kernel

/-- Refutes O35: its clause on a delta keeps every byte outside the ring as deep as it was, yet the indices of a delta's
elements are bounded by nothing, and one that reaches CASK_STAT deepens the ring. -/
theorem not_pairCopyAndHandover : ¬ Obligations.PairCopyAndHandover := by
  unfold Obligations.PairCopyAndHandover
  rintro ⟨-, -, -, -, hstate, -⟩
  obtain ⟨t, hnext, -, -, -, -, -, -, -, -, -, -, -, -, hbytes⟩ := hstate State.smallRing 0 farElement 0 (by decide +kernel)
    (by decide +kernel) (by decide +kernel) (by decide +kernel) (by decide +kernel)
  obtain rfl : State.smallRing.run (fun w => stateRecv w 0 farElement 0) = t := Host.Outcome.next.inj hnext
  have hdepth : State.smallRing.work.ringDepth 0 = 1 := by decide +kernel
  have hkept := hbytes 0x01000010 (.inr (by
    change State.smallRing.work.ringBase 0 + 16 * State.smallRing.work.ringDepth 0 ≤ _
    rw [State.smallRing_base, hdepth]))
  exact absurd (State.smallRing_byte.symm.trans hkept) (by decide +kernel)

end Sys2Proof.Machine
end

section
/-! PROOF. A brown-out of VIO while the Bung holds pads. -/

namespace Sys2Proof.Machine

/-- A device that wakes from DEEP: the pads of channel 0 are latched. -/
def State.latchedPads : State :=
  { State.reset with
    dev := { Dev.init with regs := [(F.SYS_REL_STEP.addr 0 0, 12), (R.PWR_STAT.addr 0 0, setBits 0 F.PWR_STAT_LATCHED.hi F.PWR_STAT_LATCHED.lo 1)] } }

/-- The loss of the latches leaves none (R413). -/
theorem latched_latchLost (w : Work) : (latchLost w).get F.PWR_STAT_LATCHED = 0 := by
  unfold latchLost
  dsimp only
  split
  · assumption
  · refine List.foldlRecOn (motive := fun v : Work => v.get F.PWR_STAT_LATCHED = 0) _ _ ?_ fun v hv n _ => ?_
    · exact (Work.get_put_apart _ F.PWR_STAT_LATCH_LOST F.PWR_STAT_LATCHED 1 0 (by decide)).trans
        (Work.get_put_same w F.PWR_STAT_LATCHED 0 0 0 (by decide))
    · refine iteInduction (motive := fun u : Work => u.get F.PWR_STAT_LATCHED = 0) (fun _ => hv) (fun _ => ?_)
      unfold Work.putChState
      exact (Work.get_put_addr _ F.SYS_CH_STATE_STATES F.PWR_STAT_LATCHED _ 0 0 0 0 (by decide)).trans hv

/-- A brown-out of VIO takes the latches with it. -/
theorem brownOut_vio (w : Work) (h : w.get F.PWR_STAT_STATE ≠ 4) : brownOut w 8 = latchLost (w.deviceReset 3 8) := by
  unfold brownOut
  rw [if_neg h]
  rfl

theorem State.latchedPads_latched :
    (State.latchedPads.run (fun w => brownOut w 8)).flag F.PWR_STAT_LATCHED = false := by
  rw [State.run_flag, brownOut_vio _ (by decide +kernel)]
  unfold Work.flag
  rw [latched_latchLost]
  rfl

/-- Refutes O37: its clause on a brown-out keeps LATCHED for every set of rails, yet VIO is among them. -/
theorem not_deviceResets : ¬ Obligations.DeviceResets := by
  unfold Obligations.DeviceResets
  rintro ⟨-, -, hbrown, -⟩
  obtain ⟨t, hnext, -, -, -, -, -, -, -, -, hlatched, -⟩ := hbrown State.latchedPads 0 0x03002000 8 (by decide +kernel)
    (by decide +kernel) (by decide +kernel) (by decide +kernel) (by decide) (by decide) (by decide +kernel)
  obtain rfl : State.latchedPads.run (fun w => brownOut w 8) = t := Host.Outcome.next.inj hnext
  have hset : State.latchedPads.flag F.PWR_STAT_LATCHED = true := by decide +kernel
  exact Bool.false_ne_true (State.latchedPads_latched.symm.trans (hlatched.trans hset))

end Sys2Proof.Machine
end

section
/-! PROOF. A held Cask with entries that a compatible host would read next. -/

namespace Sys2Proof.Machine

/-- A released device in OPERATE whose channel 0 keeps a next compatible entry. -/
def State.compatWaits : State :=
  { State.reset with
    dev := { Dev.init with
      regs := [(F.SYS_REL_STEP.addr 0 0, 12), (F.SYS_MODE_MODE.addr 0 0, mdOperate)]
      rst := { Rst.init with hold := .none }
      ch := Dev.init.ch.set 0 { Chan.init with inReset := false, cask := { Chan.init.cask with compatNext := [(0, 0, true)] } } } }

/-- The reset of the Cask forgets it. -/
theorem State.compatWaits_next :
    ((State.compatWaits.run (fun w => w.bitWrite (R.CTL_RST.addr 0 0) 4 true)).chan 0).cask.compatNext = [] := by
  decide +kernel

/-- Refutes O40: its clause on the reset of a Cask names all that it changes of the channel, yet what is to enter the
compatible queue next is forgotten too. -/
theorem not_channelResets : ¬ Obligations.ChannelResets := by
  unfold Obligations.ChannelResets
  rintro ⟨-, -, -, -, -, -, -, -, hcask, -⟩
  obtain ⟨t, hnext, hchan, -⟩ := hcask State.compatWaits .host 0 (by decide +kernel) (by decide +kernel)
  obtain rfl : State.compatWaits.run (fun w => w.bitWrite (R.CTL_RST.addr 0 0) 4 true) = t := Host.Outcome.next.inj hnext
  have hgone := State.compatWaits_next
  rw [show ((0 : Fin 8) : Nat) = 0 from rfl] at hchan
  rw [hchan] at hgone
  exact absurd hgone (by decide +kernel)

end Sys2Proof.Machine
end

section
/-! PROOF. An entry to SLEEP that is cancelled, with a key held down. -/

namespace Sys2Proof.Machine

/-- A released device on its way to SLEEP, its channels at rest, a wake of the timer pending; a key of channel 0 was down as
quiescing began. -/
def State.keyDownEntry : State :=
  { State.reset with
    dev := { Dev.init with
      regs := [(F.SYS_REL_STEP.addr 0 0, 12), (F.SYS_MODE_MODE.addr 0 0, mdOperate), (F.PWR_WAKE_PEND_PEND.addr 0 0, 64)]
      rst := { Rst.init with hold := .none }
      host := { Dev.init.host with port := { Port.init with flight := some ⟨opPower, 0, false⟩ } }
      pwr := { Pwr.init with cmd := some ⟨.host, 2, 64, 0, 1⟩, source := some (7, 0, 0), tapDone := true, downAt := [(0, 1)] } } }

/-- What the any-key detector is to pass over outlives the command. -/
theorem State.keyDownEntry_downAt : (State.keyDownEntry.run powerEntryCommit).dev.pwr.downAt = [(0, 1)] := by
  decide +kernel

/-- Refutes O41: its clause on a cancelled entry leaves two fields of the power controller, yet the keys that were down, and
the pads, outlive it too. -/
theorem not_powerEntryAndWake : ¬ Obligations.PowerEntryAndWake := by
  unfold Obligations.PowerEntryAndWake
  rintro ⟨-, -, -, hcancel, -⟩
  obtain ⟨t, hnext, -, -, -, -, -, -, -, hpwr, -⟩ := hcancel State.keyDownEntry ⟨.host, 2, 64, 0, 1⟩ (7, 0, 0) ⟨opPower, 0, false⟩
    rfl rfl rfl (by decide +kernel) rfl (by decide +kernel) (by decide +kernel) rfl (by decide) (by decide) (by decide) rfl rfl rfl
  obtain rfl : State.keyDownEntry.run powerEntryCommit = t := Host.Outcome.next.inj hnext
  have hdown := State.keyDownEntry_downAt
  rw [hpwr] at hdown
  exact absurd hdown (by decide)

end Sys2Proof.Machine
end

section
/-! PROOF. The erasing of retained memory whose bank has failed, and the end of an overtemperature for a channel that a Kiln
fault stopped. -/

namespace Sys2Proof.Machine

/-! ### Step 2 of erase-then-open (R376, R429) -/

/-- A released device whose AON bank has failed, in step 2 of erase-then-open; a byte of retained memory is 1. -/
def State.eraseFailedBank : State :=
  { State.reset with
    mem := [(0x03000000, 1)]
    dev := { Dev.init with
      regs := [(F.SYS_REL_STEP.addr 0 0, 12), (R.MEM_STAT.addr 0 0, setBits 0 F.MEM_STAT_AON_FAILED.hi F.MEM_STAT_AON_FAILED.lo 1)]
      rst := { Rst.init with hold := .none }
      sec := { Sec.init with erase := .step 2 false } } }

/-- The failed bank takes no write. -/
theorem State.eraseFailedBank_byte : (State.eraseFailedBank.run (fun w => eraseStep w true)).byte 0x03000000 = 1 := by
  decide +kernel

/-- Refutes O43: its clause on step 2 reads 0 in all of retained memory, yet a failed AON bank keeps what it has. -/
theorem not_secretsAndService : ¬ Obligations.SecretsAndService := by
  unfold Obligations.SecretsAndService
  rintro ⟨-, -, -, -, -, -, -, -, -, -, hstep, -⟩
  obtain ⟨t, hnext, hzero, -⟩ := hstep State.eraseFailedBank false rfl (by decide +kernel)
  obtain rfl : State.eraseFailedBank.run (fun w => eraseStep w true) = t := Host.Outcome.next.inj hnext
  exact absurd (State.eraseFailedBank_byte.symm.trans (hzero 0)) (by decide)

/-! ### TEMP_OVER_CLEAR (R84, R458) -/

/-- A released device after an overtemperature that held channel 0, whose Kiln has faulted since. -/
def State.faultedHeld : State :=
  { State.reset with
    dev := { Dev.init with
      regs := [(F.SYS_REL_STEP.addr 0 0, 12), (R.SYS_TEMP.addr 0 0, setBits 0 F.SYS_TEMP_OVER.hi F.SYS_TEMP_OVER.lo 1)]
      rst := { Rst.init with hold := .none }
      temp := { Dev.init.temp with heldCh := 1, clear := 1024 }
      ch := Dev.init.ch.set 0 { Chan.init with inReset := false, kiln := { Chan.init.kiln with faulted := true } } } }

/-- The channel does not restart by itself. -/
theorem State.faultedHeld_restart : ((State.faultedHeld.run tempOverClear).chan 0).restart = none := by decide +kernel

/-- Refutes O44: its clause on the end of an overtemperature restarts every channel held for it, yet one that a Kiln fault
stopped meanwhile stays. -/
theorem not_countersAndTemperature : ¬ Obligations.CountersAndTemperature := by
  unfold Obligations.CountersAndTemperature
  rintro ⟨-, -, -, -, -, -, -, -, -, -, -, hclear⟩
  obtain ⟨t, hnext, -, -, hrestart, -⟩ := hclear State.faultedHeld 0 (by decide +kernel) (by decide +kernel) (by decide +kernel)
    (by decide +kernel)
  obtain rfl : State.faultedHeld.run tempOverClear = t := Host.Outcome.next.inj hnext
  exact hrestart State.faultedHeld_restart

end Sys2Proof.Machine
end

section
/-! PROOF. A slot start of a channel whose Kiln fault waits. -/

namespace Sys2Proof.Machine

/-- A channel whose plan runs with one diagnosis slot to come, and whose Kiln fault waits for the next slot start. -/
def State.faultWaits : State :=
  { State.reset with
    dev := { Dev.init with
      regs := [(F.SYS_REL_STEP.addr 0 0, 12), (F.SYS_MODE_MODE.addr 0 0, mdOperate)]
      rst := { Rst.init with hold := .none }
      ch := Dev.init.ch.set 0 { Chan.init with
        inReset := false
        running := true
        seq := { Chan.init.seq with todo := [⟨0, kDiag, 10, false⟩] }
        kiln := { Chan.init.kiln with faultDue := true } } } }

/-- The fault stops the plan at the slot start, and no slot runs. -/
theorem State.faultWaits_cur : ((State.faultWaits.run (fun w => slotStart w 0)).chan 0).seq.cur = none := by decide +kernel

/-- Refutes O6: its clause on a slot start has the slot run, yet a Kiln fault that waits for the slot start stops the plan
there (R129). -/
theorem not_tickSlotLock : ¬ Obligations.TickSlotLock := by
  unfold Obligations.TickSlotLock
  rintro ⟨-, -, hslot, -⟩
  obtain ⟨t, hnext, -, -, -, hcur, -⟩ := hslot State.faultWaits 0 ⟨0, kDiag, 10, false⟩ [] (by decide +kernel)
    (by decide +kernel) (by decide +kernel) (by decide +kernel) rfl (by decide +kernel)
  obtain rfl : State.faultWaits.run (fun w => slotStart w 0) = t := Host.Outcome.next.inj hnext
  exact absurd (State.faultWaits_cur.symm.trans hcur) (by decide)

end Sys2Proof.Machine
end

section
/-! PROOF. The regulator's polling and its failures, the fall-back of the crystal, and pads whose latch is lost (R413, R416 to
R419). -/

namespace Sys2Proof.Machine

/-! ### Memory that no write reaches -/

/-- A run that writes no byte leaves the memory. -/
theorem State.run_mem_of_wr (s : State) (f : Work → Work) (h : (f s.work).wr = []) : (s.run f).mem = s.mem := by
  rw [State.run_mem, h, commitMem_nil]

/-- The same, said of every byte but those of a ring's next place. -/
theorem State.sameMemButNext_of_wr (s : State) (f : Work → Work) (r : Nat) (h : (f s.work).wr = []) :
    s.sameMemButNext (s.run f) r := by
  intro a _
  unfold State.byte
  rw [s.run_mem_of_wr f h]

/-! ### Fields put one after the other -/

/-- The fields of a list put in its order: field, value, channel and element. -/
def Work.puts (w : Work) (l : List (Fld × Nat × Nat × Nat)) : Work := l.foldl (fun w p => w.put p.1 p.2.1 p.2.2.1 p.2.2.2) w

/-- A field shares no bit with the one put. -/
def putApart (f : Fld) (n k : Nat) (p : Fld × Nat × Nat × Nat) : Bool :=
  f.addr n k ≠ p.1.addr p.2.2.1 p.2.2.2 || (p.1.lo ≤ p.1.hi && f.lo ≤ f.hi && (f.hi < p.1.lo || p.1.hi < f.lo))

section
variable (w : Work) (l : List (Fld × Nat × Nat × Nat))

@[simp] theorem Work.puts_wr : (w.puts l).wr = w.wr :=
  List.foldlRecOn (motive := fun v : Work => v.wr = w.wr) _ _ rfl fun _ h _ _ => h

@[simp] theorem Work.puts_rst : (w.puts l).rst = w.rst :=
  List.foldlRecOn (motive := fun v : Work => v.rst = w.rst) _ _ rfl fun _ h _ _ => h

/-- A register that none of the fields lies in. -/
theorem Work.reg_puts (a : Nat) (h : ∀ p ∈ l, a ≠ p.1.addr p.2.2.1 p.2.2.2) : (w.puts l).reg a = w.reg a :=
  List.foldlRecOn (motive := fun v : Work => v.reg a = w.reg a) _ _ rfl fun v hv p hp => (v.reg_put_ne _ _ _ _ a (h p hp)).trans hv

/-- A field that shares no bit with any of them. -/
theorem Work.get_puts_apart (f : Fld) (n k : Nat) (h : ∀ p ∈ l, putApart f n k p = true) : (w.puts l).get f n k = w.get f n k := by
  refine List.foldlRecOn (motive := fun v : Work => v.get f n k = w.get f n k) _ _ rfl fun v hv p hp => Eq.trans ?_ hv
  have hp := h p hp
  simp only [putApart, Bool.or_eq_true, Bool.and_eq_true, decide_eq_true_eq] at hp
  obtain haddr | ⟨⟨hput, hget⟩, hbits⟩ := hp
  · exact v.get_put_addr _ _ _ _ _ _ _ haddr
  · exact v.get_put_bits _ _ _ _ _ _ _ hput hget (by omega)

/-- The field at place `i`, where none of the later ones touches it. -/
theorem Work.get_puts (i : Nat) (f : Fld) (v n k : Nat) (hi : l[i]? = some (f, v, n, k)) (hf : f.lo ≤ f.hi)
    (h : ∀ p ∈ l.drop (i + 1), putApart f n k p = true) : (w.puts l).get f n k = v % 2 ^ (f.hi - f.lo + 1) := by
  obtain ⟨hlt, hget⟩ := List.getElem?_eq_some_iff.mp hi
  have hsplit : w.puts l = ((w.puts (l.take i)).put f v n k).puts (l.drop (i + 1)) := by
    conv_lhs => rw [← List.take_append_drop i l, ← List.cons_getElem_drop_succ (h := hlt), hget]
    unfold Work.puts
    rw [List.foldl_append, List.foldl_cons]
  rw [hsplit, Work.get_puts_apart _ _ _ _ _ h, Work.get_put_same _ _ _ _ _ hf]

end

/-! ### The regulator, case by case -/

section
variable (w : Work)

@[simp] theorem Work.reg_modPwr (f : Pwr → Pwr) (a : Nat) : (w.modPwr f).reg a = w.reg a := by rfl
@[simp] theorem Work.get_modPwr (f : Pwr → Pwr) (g : Fld) (n k : Nat) : (w.modPwr f).get g n k = w.get g n k := by rfl
@[simp] theorem Work.flag_modPwr (f : Pwr → Pwr) (g : Fld) (n k : Nat) : (w.modPwr f).flag g n k = w.flag g n k := by rfl
@[simp] theorem Work.modPwr_wr (f : Pwr → Pwr) : (w.modPwr f).wr = w.wr := by rfl
@[simp] theorem Work.modPwr_sent (f : Pwr → Pwr) : (w.modPwr f).sent = w.sent := by rfl
@[simp] theorem Work.modPwr_pwr (f : Pwr → Pwr) : (w.modPwr f).pwr = f w.pwr := by rfl
@[simp] theorem Work.toDev_pwr : w.toDev.pwr = w.pwr := by rfl
@[simp] theorem Work.toDev_rst : w.toDev.rst = w.rst := by rfl
@[simp] theorem Work.toDev_sent : w.toDev.sent = w.sent := by rfl
@[simp] theorem Work.reg_modLock (f : Lock → Lock) (a : Nat) : (w.modLock f).reg a = w.reg a := by rfl
@[simp] theorem Work.get_modLock (f : Lock → Lock) (g : Fld) (n k : Nat) : (w.modLock f).get g n k = w.get g n k := by rfl
@[simp] theorem Work.modLock_wr (f : Lock → Lock) : (w.modLock f).wr = w.wr := by rfl
@[simp] theorem Work.modLock_rst (f : Lock → Lock) : (w.modLock f).rst = w.rst := by rfl
@[simp] theorem Work.reg_modRst (f : Rst → Rst) (a : Nat) : (w.modRst f).reg a = w.reg a := by rfl
@[simp] theorem Work.get_modRst (f : Rst → Rst) (g : Fld) (n k : Nat) : (w.modRst f).get g n k = w.get g n k := by rfl
@[simp] theorem Work.flag_modRst (f : Rst → Rst) (g : Fld) (n k : Nat) : (w.modRst f).flag g n k = w.flag g n k := by rfl
@[simp] theorem Work.modRst_wr (f : Rst → Rst) : (w.modRst f).wr = w.wr := by rfl
@[simp] theorem Work.modRst_rst (f : Rst → Rst) : (w.modRst f).rst = f w.rst := by rfl

/-- The status word shown (R416). -/
theorem Work.get_statusWord (status : Nat) :
    (w.put F.PWR_PMB_STAT_STATUS_WORD (status % 65536)).get F.PWR_PMB_STAT_STATUS_WORD = status % 65536 := by
  have hwidth : F.PWR_PMB_STAT_STATUS_WORD.hi - F.PWR_PMB_STAT_STATUS_WORD.lo + 1 = 16 := rfl
  have hpow : 2 ^ 16 = 65536 := rfl
  rw [Work.get_put_same _ _ _ _ _ (by decide), hwidth, hpow, Nat.mod_mod]

/-- With no wake recorded, a change of VCORE that is over starts no other (R416). -/
theorem Work.vcoreDone_awake (target : Nat) (hsource : w.pwr.source = none) :
    w.vcoreDone target = w.modPwr (fun p => { p with pmb := none, vcoreUp := false }) := by
  have hup : decide (w.pwrState = 3 ∧ w.pwr.source.isSome = true ∧ target = w.get F.PWR_VOUT_RUN_MV) = false := by
    rw [hsource]
    exact decide_eq_false fun h => Bool.false_ne_true h.2.1
  unfold Work.vcoreDone Work.startRise
  dsimp only
  rw [hup]
  refine if_neg fun h => ?_
  have hsome : w.pwr.source.isSome = true := h.2.1
  rw [hsource] at hsome
  cases hsome

/-- The next of four attempts (R416). -/
theorem Work.nextAttempt_again (target mv : Nat) (h : w.get F.PWR_PMB_STAT_ATTEMPTS < 4) :
    w.nextAttempt target mv =
      (((w.put F.PWR_PMB_STAT_ATTEMPTS (w.get F.PWR_PMB_STAT_ATTEMPTS + 1)).modPwr (fun p => { p with pmb := some (target, 0) })).send
        ⟨5, w.get F.PWR_CFG_PMB_ADDR, 0x21, w.get F.PWR_CFG_PEC_EN, leBytes 2 (w.voutWord target)⟩) := by
  have hcfg : ∀ g : Fld, g.addr 0 0 ≠ R.PWR_PMB_STAT.addr 0 0 → ∀ v, ((w.put F.PWR_PMB_STAT_ATTEMPTS v).modPwr
      (fun p => { p with pmb := some (target, 0) })).get g = w.get g :=
    fun g hg v => w.get_put_addr F.PWR_PMB_STAT_ATTEMPTS g v 0 0 0 0 hg
  unfold Work.nextAttempt
  dsimp only
  rw [if_neg (by omega)]
  unfold Work.pmbWrite
  rw [hcfg _ (by decide), hcfg _ (by decide)]
  rfl

theorem Work.nextAttempt_last (target mv : Nat) (h : 4 ≤ w.get F.PWR_PMB_STAT_ATTEMPTS) :
    w.nextAttempt target mv = w.vcoreFailed target mv := if_pos h

/-- After four attempts, a VCORE that the monitor reads in order is taken for reached (R417). -/
theorem Work.vcoreFailed_good (target mv : Nat) (hlow : 720 ≤ mv) (hhigh : mv ≤ 880) (hsource : w.pwr.source = none) :
    w.vcoreFailed target mv = ((w.put F.WAKE_REC_REG_NOACK 1).put F.PWR_PMB_STAT_REG_NOACK 1).modPwr
      (fun p => { p with pmb := none, vcoreUp := false }) := by
  unfold Work.vcoreFailed
  exact (if_pos (.inl ⟨hlow, hhigh⟩)).trans (Work.vcoreDone_awake _ target hsource)

/-- One that it reads too low resets the device (R417). -/
theorem Work.vcoreFailed_low (target mv : Nat) (h : mv < 620) :
    w.vcoreFailed target mv = (w.deviceReset 3 1).put F.WAKE_REC_WAKE_FAIL_REG 1 := by
  unfold Work.vcoreFailed
  refine if_neg ?_
  rintro (⟨hlow, -⟩ | ⟨-, hlow, -⟩) <;> omega

/-- A transaction without acknowledgement ends the attempt. -/
theorem pmbusPoll_nack (target polls status mv : Nat) (hpmb : w.pwr.pmb = some (target, polls)) :
    pmbusPoll w false status mv = w.nextAttempt target mv := by
  unfold pmbusPoll
  rw [hpmb]
  exact if_pos rfl

theorem pmbusPoll_done (target polls status mv : Nat) (hpmb : w.pwr.pmb = some (target, polls)) (h11 : bitOf status 11 = false)
    (h15 : bitOf status 15 = false) (h5 : bitOf status 5 = false) :
    pmbusPoll w true status mv = (w.put F.PWR_PMB_STAT_STATUS_WORD (status % 65536)).vcoreDone target := by
  unfold pmbusPoll
  rw [hpmb]
  refine (if_neg Bool.false_ne_true).trans (if_pos ⟨?_, ?_, ?_⟩)
  · rw [h11]; rfl
  · rw [h15]; rfl
  · rw [h5]; rfl

/-- A poll that shows the change still in progress, below 40 polls or at them. -/
theorem pmbusPoll_busy (target polls status mv : Nat) (hpmb : w.pwr.pmb = some (target, polls)) (h11 : bitOf status 11 = true) :
    pmbusPoll w true status mv =
      if 40 ≤ polls + 1 then (w.put F.PWR_PMB_STAT_STATUS_WORD (status % 65536)).nextAttempt target mv
      else (w.put F.PWR_PMB_STAT_STATUS_WORD (status % 65536)).modPwr (fun p => { p with pmb := some (target, polls + 1) }) := by
  unfold pmbusPoll
  rw [hpmb]
  refine (if_neg Bool.false_ne_true).trans (if_neg fun h => ?_)
  rw [h11] at h
  exact Bool.false_ne_true h.1

theorem offWakeTimeout_waits (hstate : w.get F.PWR_STAT_STATE = 4) (hwait : w.pwr.offWait = true) :
    offWakeTimeout w = (((w.put F.WAKE_REC_WAKE_FAIL_REG 1).put F.PWR_PMB_STAT_WAKE_FAIL_REG 1).modPwr
      (fun p => { p with offWait := false })).send ⟨5, w.get F.PWR_CFG_PMB_ADDR, 0x01, w.get F.PWR_CFG_PEC_EN, [0, 0]⟩ := by
  have hcfg : ∀ g : Fld, g.addr 0 0 ≠ R.PWR_PMB_STAT.addr 0 0 → g.addr 0 0 ≠ R.WAKE_REC.addr 0 0 →
      (((w.put F.WAKE_REC_WAKE_FAIL_REG 1).put F.PWR_PMB_STAT_WAKE_FAIL_REG 1).modPwr (fun p => { p with offWait := false })).get g =
        w.get g :=
    fun g hpmb hrec => (Work.get_put_addr _ F.PWR_PMB_STAT_WAKE_FAIL_REG g 1 0 0 0 0 hpmb).trans
      (w.get_put_addr F.WAKE_REC_WAKE_FAIL_REG g 1 0 0 0 0 hrec)
  unfold offWakeTimeout
  rw [if_pos ⟨hstate, hwait⟩]
  simp only [Work.raise_eq]
  unfold Work.pmbWrite
  rw [hcfg _ (by decide) (by decide), hcfg _ (by decide) (by decide)]
  rfl

theorem pmbAlert_awake (status : Nat) (h : w.get F.PWR_STAT_STATE ≤ 1) :
    ∃ e, pmbAlert w status =
      ((w.put F.PWR_PMB_STAT_STATUS_WORD (status % 65536)).put F.PWR_PMB_STAT_ALERT 1).raiseEntry devRing e := by
  unfold pmbAlert Work.powerEntry
  simp only [Work.pwrState, if_pos h, Work.raise_eq, Work.entryNow_eq]
  exact ⟨_, rfl⟩

end

/-! ### What a reset that spares AON leaves (R391, R403) -/

section
variable (w : Work)

/-- A device reset at a rail, with no held fault. -/
theorem Work.deviceReset_rail (rail : Nat) (hhold : w.rst.hold = .none) :
    (w.deviceReset 3 rail).rst.hold = .held ∧ bitOf (w.deviceReset 3 rail).rst.src 3 = true ∧
      (w.deviceReset 3 rail).ch = Dev.init.ch ∧ (w.deviceReset 3 rail).wr = w.wr := by
  have hbit : bitOf (if decide (w.relStep < 5) = true then setBit w.rst.src 3 true else 2 ^ 3) 3 = true := by
    split
    · exact bitOf_setBit_same ..
    · decide
  unfold Work.deviceReset
  rw [hhold]
  exact ⟨rfl, hbit, rfl, rfl⟩

end

/-! ### The crystal and the latches -/

/-- What CRYSTAL_FALLBACK writes, in its order: field, value, channel and element. -/
def crystalPuts : List (Fld × Nat × Nat × Nat) :=
  [(F.WAKE_REC_OSC_FALLBACK, 1, 0, 0), (F.SYS_REL_RC_FALLBACK, 1, 0, 0), (F.NET_PORT_LINK, 0, 0, 0), (F.NET_PORT_LINK, 0, 0, 1),
    (F.RHL_PORT_LINK, 0, 0, 0), (F.RHL_PORT_HOLD, 0, 0, 0), (F.RHL_PORT_LINK, 0, 0, 1), (F.RHL_PORT_HOLD, 0, 0, 1),
    (F.RHL_PORT_LINK, 0, 0, 2), (F.RHL_PORT_HOLD, 0, 0, 2), (F.RHL_STAT_STATE, 0, 0, 0), (F.NET_PTP_STAT_STATE, 0, 0, 0),
    (F.SYS_TICK_STAT_LOCK_STATE, lkFree, 0, 0)]

section
variable (w : Work)

/-- CRYSTAL_FALLBACK at release step 3 (R419). -/
theorem crystalFallback_released (hhold : w.rst.hold = .none) (hstep : w.relStep = 2) :
    crystalFallback w = ((w.puts crystalPuts).modLock (fun l => { l with inRow := 0 })).modRst (fun r => { r with rcMode := true }) := by
  have htwo : List.range 2 = [0, 1] := rfl
  have hthree : List.range 3 = [0, 1, 2] := rfl
  unfold crystalFallback
  rw [if_pos ⟨hhold, .inl hstep⟩]
  simp only [htwo, hthree, List.foldl_cons, List.foldl_nil, Work.putFlag_eq, Work.setLock, Work.puts, crystalPuts, Bool.toNat_true,
    Bool.toNat_false]

/-- The state of another channel set. -/
theorem Work.chState_putChState_ne (ch n v : Nat) (hch : ch < 8) (h : n ≠ ch) : (w.putChState n v).chState ch = w.chState ch := by
  have hword : ∀ z x : Nat, bitsOf (setBits z (4 * n + 3) (4 * n) x) (4 * ch + 3) (4 * ch) = bitsOf z (4 * ch + 3) (4 * ch) := by
    intro z x
    obtain hlt | hlt := Nat.lt_or_gt_of_ne h
    · exact bitsOf_setBits_above _ _ _ _ _ _ (by omega) (by omega)
    · exact bitsOf_setBits_below _ _ _ _ _ _ (by omega) (by omega) (by omega)
  have hwidth : F.SYS_CH_STATE_STATES.hi - F.SYS_CH_STATE_STATES.lo + 1 = 32 := by decide
  have hsmall : ∀ z : Nat, bitsOf (z % 2 ^ 32) (4 * ch + 3) (4 * ch) = bitsOf z (4 * ch + 3) (4 * ch) := by
    intro z
    have hpow : (2 : Nat) ^ 32 = 2 ^ (4 * ch) * 2 ^ (32 - 4 * ch) := by rw [← pow_add]; congr 1; omega
    unfold bitsOf
    rw [hpow, Nat.mod_mul_right_div_self, Nat.mod_mod_of_dvd _ (pow_dvd_pow 2 (by omega))]
  unfold Work.chState Work.putChState
  rw [Work.get_put_same _ _ _ _ _ (by decide), hwidth, hsmall, hword]

theorem Work.ch_putChState (n v : Nat) : (w.putChState n v).ch = w.ch := by
  unfold Work.putChState
  rw [Work.put_ch]

theorem Work.flag_putChState_dev (n v : Nat) (g : Fld) (h : g.addr 0 0 ≠ R.SYS_CH_STATE.addr 0 0) :
    (w.putChState n v).flag g = w.flag g := by
  unfold Work.flag Work.putChState
  rw [Work.get_put_addr _ F.SYS_CH_STATE_STATES g _ 0 0 0 0 h]

/-- The latched channels named are put to RESET one by one, those in reset apart. -/
theorem chState_latchLost (h : w.get F.PWR_STAT_LATCHED ≠ 0) (ch : Fin 8) (hch : bitOf (w.get F.PWR_STAT_LATCHED) ch = true)
    (hreset : (w.chan ch).inReset = false) : (latchLost w).chState ch = stReset := by
  have key : ∀ (l : List Nat) (v : Work), (∀ i ∈ l, i < 8) → (∀ i, v.chan i = w.chan i) → (ch.val ∈ l ∨ v.chState ch = stReset) →
      (l.foldl (fun w n => if (w.chan n).inReset then w else w.putChState n stReset) v).chState ch = stReset := by
    intro l
    induction l with
    | nil => exact fun v _ _ h => h.resolve_left (List.not_mem_nil)
    | cons i l ih =>
      intro v hlt hsame hor
      refine ih _ (fun j hj => hlt j (List.mem_cons_of_mem _ hj)) (fun j => ?_) ?_ <;> dsimp only
      · split
        · exact hsame j
        · rw [Work.chan_putChState, hsame]
      · by_cases hi : i = ch
        · subst hi
          right
          rw [hsame, hreset]
          exact v.chState_putChState ch stReset ch.isLt (by decide)
        · obtain hmem | hdone := hor
          · exact .inl ((List.mem_cons.mp hmem).resolve_left (fun e => hi e.symm))
          · right
            split
            · exact hdone
            · exact (v.chState_putChState_ne ch i stReset ch.isLt hi).trans hdone
  unfold latchLost
  dsimp only
  rw [if_neg h]
  refine key _ _ (fun i hi => ((mem_maskList ..).mp hi).1) (fun i => rfl) (.inl ?_)
  exact (mem_maskList ..).mpr ⟨ch.isLt, hch⟩

/-- The loss of the latches is told in PWR_STAT and SYS_CH_STATE alone. -/
theorem latchLost_frame (h : w.get F.PWR_STAT_LATCHED ≠ 0) :
    (latchLost w).flag F.PWR_STAT_LATCH_LOST = true ∧ (latchLost w).ch = w.ch ∧ (latchLost w).wr = w.wr ∧
      (∀ a, a ≠ R.PWR_STAT.addr 0 0 → a ≠ R.SYS_CH_STATE.addr 0 0 → (latchLost w).reg a = w.reg a) := by
  unfold latchLost
  simp only [if_neg h, Work.raise_eq]
  refine List.foldlRecOn (motive := fun v : Work => v.flag F.PWR_STAT_LATCH_LOST = true ∧ v.ch = w.ch ∧ v.wr = w.wr ∧
      (∀ a, a ≠ R.PWR_STAT.addr 0 0 → a ≠ R.SYS_CH_STATE.addr 0 0 → v.reg a = w.reg a)) _ _ ?_ ?_
  · refine ⟨Work.flag_put_same _ F.PWR_STAT_LATCH_LOST 1 0 0 rfl, rfl, rfl, fun a ha _ => ?_⟩
    exact (Work.reg_put_ne _ F.PWR_STAT_LATCH_LOST 1 0 0 a ha).trans (w.reg_put_ne F.PWR_STAT_LATCHED 0 0 0 a ha)
  · rintro v ⟨hlost, hch, hwr, hreg⟩ n -
    split
    · exact ⟨hlost, hch, hwr, hreg⟩
    · refine ⟨?_, (v.ch_putChState n stReset).trans hch, (v.wr_putChState n stReset).trans hwr,
        fun a ha hst => (v.reg_putChState n stReset a hst).trans (hreg a ha hst)⟩
      exact (v.flag_putChState_dev n stReset F.PWR_STAT_LATCH_LOST (by decide)).trans hlost

end

/-! ### The obligation -/

/-- A new attempt, after a NACK or after 40 polls: the work is `v`, whose regulator counters are those of the state. -/
theorem State.attempted (s : State) (f : Work → Work) (v : Work) (target mv : Nat) (h : f s.work = v.nextAttempt target mv)
    (hpwr : v.pwr = s.dev.pwr) (hrst : v.rst = s.dev.rst) (hsent : v.sent = []) (hwr : v.wr = [])
    (hreg : ∀ a, a ≠ R.PWR_PMB_STAT.addr 0 0 → v.reg a = s.reg a)
    (hattempts : v.get F.PWR_PMB_STAT_ATTEMPTS = s.get F.PWR_PMB_STAT_ATTEMPTS) (hfew : s.get F.PWR_PMB_STAT_ATTEMPTS < 4) :
    (s.run f).dev.pwr = { s.dev.pwr with pmb := some (target, 0) } ∧
      (s.run f).get F.PWR_PMB_STAT_ATTEMPTS = s.get F.PWR_PMB_STAT_ATTEMPTS + 1 ∧
      (s.run f).dev.sent = [⟨5, s.get F.PWR_CFG_PMB_ADDR, 0x21, s.get F.PWR_CFG_PEC_EN, leBytes 2 (s.work.voutWord target)⟩] ∧
      s.sameRegs (s.run f) [R.PWR_PMB_STAT.addr 0 0] ∧ (s.run f).mem = s.mem := by
  have hcfg : ∀ g : Fld, g.addr 0 0 ≠ R.PWR_PMB_STAT.addr 0 0 → v.get g = s.get g := fun g hg => by
    unfold Work.get
    rw [hreg _ hg]
    rfl
  have hword : v.voutWord target = s.work.voutWord target := by
    unfold Work.voutWord
    rw [hrst]
    rfl
  rw [v.nextAttempt_again target mv (by rwa [hattempts]), hattempts, hcfg _ (by decide), hcfg _ (by decide), hword] at h
  refine ⟨?_, ?_, ?_, ?_, s.run_mem_of_wr f ?_⟩
  · rw [State.run_dev, h, ← hpwr]
    rfl
  · rw [State.run_get, h, Work.get_send, Work.get_modPwr]
    refine (Work.get_put_same v F.PWR_PMB_STAT_ATTEMPTS _ 0 0 (by decide)).trans (Nat.mod_eq_of_lt ?_)
    have hwidth : F.PWR_PMB_STAT_ATTEMPTS.hi - F.PWR_PMB_STAT_ATTEMPTS.lo + 1 = 3 := rfl
    rw [hwidth]
    omega
  · rw [State.run_dev, h]
    show v.sent ++ _ = _
    rw [hsent, List.nil_append]
  · intro a ha
    rw [State.run_reg, h, Work.reg_send, Work.reg_modPwr]
    exact (v.reg_put_of_notMem F.PWR_PMB_STAT_ATTEMPTS _ 0 0 a _ ha List.mem_cons_self).trans (hreg a (fun e => ha (e ▸ List.mem_cons_self)))
  · rw [h]
    exact hwr

/-- Settles O42: the regulator's polls end a change, go on or try again, the monitor decides after four attempts, and the
failures are told in the registers named. -/
theorem regulatorAndPads : Obligations.RegulatorAndPads := by
  unfold Obligations.RegulatorAndPads
  refine ⟨?done, ?busy, ?nack, ?spent, ?good, ?low, ?off, ?alert, ?crystal, ?latch⟩
  case done =>
    intro s target polls status mv hpmb h11 h15 h5 hsource
    refine ⟨_, rfl, ?_⟩
    have hput := Work.SameDevice.put s.work F.PWR_PMB_STAT_STATUS_WORD (status % 65536) 0 0
    have hrun := (pmbusPoll_done s.work target polls status mv hpmb h11 h15 h5).trans
      (Work.vcoreDone_awake _ target (by rw [hput.pwr]; exact hsource))
    refine ⟨?_, ?_, ?_, ?_, s.run_mem_of_wr _ ?_⟩
    · rw [State.run_dev, hrun, Work.toDev_pwr, Work.modPwr_pwr, (Work.SameDevice.put s.work F.PWR_PMB_STAT_STATUS_WORD _ 0 0).pwr]
      rfl
    · rw [State.run_get, hrun, Work.get_modPwr]
      exact s.work.get_statusWord status
    · rw [State.run_dev, hrun, Work.toDev_sent, Work.modPwr_sent, (Work.SameDevice.put s.work F.PWR_PMB_STAT_STATUS_WORD _ 0 0).sent]
      rfl
    · intro a ha
      rw [State.run_reg, hrun, Work.reg_modPwr]
      exact s.work.reg_put_of_notMem F.PWR_PMB_STAT_STATUS_WORD _ 0 0 a _ ha List.mem_cons_self
    · rw [hrun, Work.modPwr_wr, Work.put_wr]
      rfl
  case busy =>
    intro s target polls status mv hpmb h11 hpolls
    refine ⟨_, rfl, ?_⟩
    have hrun := (pmbusPoll_busy s.work target polls status mv hpmb h11).trans (if_neg (by omega))
    refine ⟨?_, ?_, ?_, ?_, s.run_mem_of_wr _ ?_⟩
    · rw [State.run_dev, hrun, Work.toDev_pwr, Work.modPwr_pwr, (Work.SameDevice.put s.work F.PWR_PMB_STAT_STATUS_WORD _ 0 0).pwr]
      rfl
    · rw [State.run_get, hrun, Work.get_modPwr]
      exact s.work.get_statusWord status
    · rw [State.run_dev, hrun, Work.toDev_sent, Work.modPwr_sent, (Work.SameDevice.put s.work F.PWR_PMB_STAT_STATUS_WORD _ 0 0).sent]
      rfl
    · intro a ha
      rw [State.run_reg, hrun, Work.reg_modPwr]
      exact s.work.reg_put_of_notMem F.PWR_PMB_STAT_STATUS_WORD _ 0 0 a _ ha List.mem_cons_self
    · rw [hrun, Work.modPwr_wr, Work.put_wr]
      rfl
  case nack =>
    intro s target polls status mv hpmb hfew
    exact ⟨_, rfl, s.attempted _ s.work target mv (pmbusPoll_nack s.work target polls status mv hpmb) rfl rfl rfl rfl (fun _ _ => rfl) rfl hfew⟩
  case spent =>
    intro s target polls status mv hpmb h11 hpolls hfew
    have hput := Work.SameDevice.put s.work F.PWR_PMB_STAT_STATUS_WORD (status % 65536) 0 0
    refine ⟨_, rfl, s.attempted _ _ target mv ((pmbusPoll_busy s.work target polls status mv hpmb h11).trans (if_pos hpolls)) hput.pwr hput.rst hput.sent
      ((s.work.put_wr ..).trans rfl) ?_ ?_ hfew⟩
    · exact fun a ha => s.work.reg_put_ne F.PWR_PMB_STAT_STATUS_WORD _ 0 0 a ha
    · exact s.work.get_put_apart F.PWR_PMB_STAT_STATUS_WORD F.PWR_PMB_STAT_ATTEMPTS _ 0 (by decide)
  case good =>
    intro s target polls status mv hpmb hmany hlow hhigh hsource
    refine ⟨_, rfl, ?_⟩
    have hrun := ((pmbusPoll_nack s.work target polls status mv hpmb).trans (Work.nextAttempt_last _ target mv hmany)).trans
      (Work.vcoreFailed_good _ target mv hlow hhigh hsource)
    refine ⟨?_, ?_, ?_, ?_, s.run_mem_of_wr _ ?_⟩
    · rw [State.run_flag, hrun, Work.flag_modPwr]
      exact (Work.flag_put_apart _ F.PWR_PMB_STAT_REG_NOACK F.WAKE_REC_REG_NOACK 1 0 (by decide)).trans
        (s.work.flag_put_same F.WAKE_REC_REG_NOACK 1 0 0 rfl)
    · rw [State.run_flag, hrun, Work.flag_modPwr]
      exact Work.flag_put_same _ F.PWR_PMB_STAT_REG_NOACK 1 0 0 rfl
    · rw [State.run_dev, hrun]
      rfl
    · intro a ha
      simp only [List.mem_cons, List.not_mem_nil, or_false, not_or] at ha
      obtain ⟨hstat, hrec⟩ := ha
      rw [State.run_reg, hrun, Work.reg_modPwr]
      exact (Work.reg_put_ne _ F.PWR_PMB_STAT_REG_NOACK 1 0 0 a hstat).trans (s.work.reg_put_ne F.WAKE_REC_REG_NOACK 1 0 0 a hrec)
    · rw [hrun]
      rfl
  case low =>
    intro s target polls status mv hpmb hmany hlow hhold
    refine ⟨_, rfl, ?_⟩
    have hrun := ((pmbusPoll_nack s.work target polls status mv hpmb).trans (Work.nextAttempt_last _ target mv hmany)).trans
      (Work.vcoreFailed_low _ target mv hlow)
    obtain ⟨hheld, hsrc, hch, hwr⟩ := s.work.deviceReset_rail 1 hhold
    refine ⟨?_, ?_, ?_, ?_, s.run_mem_of_wr _ ?_⟩
    · rw [State.run_flag, hrun]
      exact Work.flag_put_same _ F.WAKE_REC_WAKE_FAIL_REG 1 0 0 rfl
    · rw [State.run_dev, hrun]
      exact hheld
    · rw [State.run_dev, hrun]
      exact hsrc
    · rw [State.run_dev, hrun]
      exact hch
    · rw [hrun]
      exact hwr
  case off =>
    intro s hstate hwait
    refine ⟨_, rfl, ?_⟩
    have hrun := offWakeTimeout_waits s.work hstate hwait
    refine ⟨?_, ?_, ?_, ?_, ?_, s.run_mem_of_wr _ ?_⟩
    · rw [State.run_flag, hrun, Work.flag_send, Work.flag_modPwr]
      exact (Work.flag_put_apart _ F.PWR_PMB_STAT_WAKE_FAIL_REG F.WAKE_REC_WAKE_FAIL_REG 1 0 (by decide)).trans
        (s.work.flag_put_same F.WAKE_REC_WAKE_FAIL_REG 1 0 0 rfl)
    · rw [State.run_flag, hrun, Work.flag_send, Work.flag_modPwr]
      exact Work.flag_put_same _ F.PWR_PMB_STAT_WAKE_FAIL_REG 1 0 0 rfl
    · rw [State.run_dev, hrun]
      rfl
    · rw [State.run_dev, hrun]
      rfl
    · intro a ha
      simp only [List.mem_cons, List.not_mem_nil, or_false, not_or] at ha
      obtain ⟨hstat, hrec⟩ := ha
      rw [State.run_reg, hrun, Work.reg_send, Work.reg_modPwr]
      exact (Work.reg_put_ne _ F.PWR_PMB_STAT_WAKE_FAIL_REG 1 0 0 a hstat).trans (s.work.reg_put_ne F.WAKE_REC_WAKE_FAIL_REG 1 0 0 a hrec)
    · rw [hrun]
      rfl
  case alert =>
    intro s status hstate
    refine ⟨_, rfl, ?_⟩
    obtain ⟨e, hrun⟩ := pmbAlert_awake s.work status hstate
    refine ⟨?_, ?_, ?_, ?_, s.sameMemButNext_of_raise _ _ devRing e (congrArg Work.wr hrun) ?_ ?_ ?_⟩
    · rw [State.run_get, hrun, Work.get_raiseEntry_devRing _ e F.PWR_PMB_STAT_STATUS_WORD (by decide),
        Work.get_put_apart _ F.PWR_PMB_STAT_ALERT F.PWR_PMB_STAT_STATUS_WORD 1 0 (by decide)]
      exact s.work.get_statusWord status
    · rw [State.run_flag, hrun, Work.flag_raiseEntry_devRing _ e F.PWR_PMB_STAT_ALERT (by decide)]
      exact Work.flag_put_same _ F.PWR_PMB_STAT_ALERT 1 0 0 rfl
    · rw [State.run_dev, hrun, Work.toDev_pwr, (Work.SameDevice.raiseEntry _ devRing e).pwr,
        (Work.SameDevice.put _ F.PWR_PMB_STAT_ALERT 1 0 0).pwr, (Work.SameDevice.put s.work F.PWR_PMB_STAT_STATUS_WORD _ 0 0).pwr]
      rfl
    · intro a ha
      simp only [List.mem_cons, not_or] at ha
      obtain ⟨hstat, hring⟩ := ha
      rw [State.run_reg, hrun, Work.reg_raiseEntry _ devRing e a hring]
      exact (Work.reg_put_ne _ F.PWR_PMB_STAT_ALERT 1 0 0 a hstat).trans (s.work.reg_put_ne F.PWR_PMB_STAT_STATUS_WORD _ 0 0 a hstat)
    · rw [Work.put_wr, Work.put_wr]
      rfl
    · rw [Work.ringBase_put, Work.ringBase_put]
    · rw [Work.ring_put, Work.ring_put]
  case crystal =>
    intro s hhold hstep
    refine ⟨_, rfl, ?_⟩
    have hrun := crystalFallback_released s.work hhold hstep
    have hget : ∀ (f : Fld) (n k i v : Nat), crystalPuts[i]? = some (f, v, n, k) → f.lo ≤ f.hi →
        (∀ p ∈ crystalPuts.drop (i + 1), putApart f n k p = true) →
        (s.run crystalFallback).get f n k = v % 2 ^ (f.hi - f.lo + 1) := fun f n k i v hi hf hlater => by
      rw [State.run_get, hrun, Work.get_modRst, Work.get_modLock]
      exact s.work.get_puts crystalPuts i f v n k hi hf hlater
    have hflag : ∀ (f : Fld) (n k i v : Nat), crystalPuts[i]? = some (f, v, n, k) → f.lo = f.hi →
        (∀ p ∈ crystalPuts.drop (i + 1), putApart f n k p = true) →
        (s.run crystalFallback).flag f n k = (v % 2 == 1) := fun f n k i v hi hf hlater => by
      unfold State.flag Work.flag
      rw [State.work_get, hget f n k i v hi (le_of_eq hf) hlater, hf, Nat.sub_self]
      rfl
    have hwr : (crystalFallback s.work).wr = [] := by
      rw [hrun, Work.modRst_wr, Work.modLock_wr, Work.puts_wr]
      rfl
    refine ⟨hflag F.WAKE_REC_OSC_FALLBACK 0 0 0 1 rfl rfl (by decide), hflag F.SYS_REL_RC_FALLBACK 0 0 1 1 rfl rfl (by decide), ?_,
      fun p => ?_, fun p => ?_, hget F.RHL_STAT_STATE 0 0 10 0 rfl (by decide) (by decide),
      hget F.SYS_TICK_STAT_LOCK_STATE 0 0 12 lkFree rfl (by decide) (by decide), ?_, s.sameMemButNext_of_wr _ devRing hwr⟩
    · rw [State.run_dev, hrun, Work.toDev_rst, Work.modRst_rst, Work.modLock_rst, Work.puts_rst]
      rfl
    · match p with
      | 0 => exact hflag F.RHL_PORT_LINK 0 0 4 0 rfl rfl (by decide)
      | 1 => exact hflag F.RHL_PORT_LINK 0 1 6 0 rfl rfl (by decide)
      | 2 => exact hflag F.RHL_PORT_LINK 0 2 8 0 rfl rfl (by decide)
    · match p with
      | 0 => exact hflag F.NET_PORT_LINK 0 0 2 0 rfl rfl (by decide)
      | 1 => exact hflag F.NET_PORT_LINK 0 1 3 0 rfl rfl (by decide)
    · intro a ha
      rw [State.run_reg, hrun, Work.reg_modRst, Work.reg_modLock]
      refine s.work.reg_puts crystalPuts a fun p hp e => ha ?_
      have hall : ∀ p ∈ crystalPuts, p.1.addr p.2.2.1 p.2.2.2 ∈ ([R.WAKE_REC.addr 0 0, R.SYS_REL.addr 0 0, R.NET_PORT.addr 0 0,
          R.NET_PORT.addr 0 1, R.RHL_STAT.addr 0 0, R.NET_PTP_STAT.addr 0 0, R.SYS_TICK_STAT.addr 0 0] ++
          (List.range 3).map (fun p => R.RHL_PORT.addr 0 p) ++ ringRegs devRing) := by decide
      rw [e]
      exact hall p hp
  case latch =>
    intro s hheld
    obtain ⟨hlost, hch, hwr, hreg⟩ := latchLost_frame s.work hheld
    refine ⟨_, rfl, latched_latchLost s.work, hlost, ?_, ?_, ?_, s.run_mem_of_wr _ hwr⟩
    · intro ch hlatched hreset
      rw [State.run_chState]
      exact chState_latchLost s.work hheld ch hlatched hreset
    · rw [State.run_dev]
      exact hch
    · intro a ha
      simp only [List.mem_cons, List.not_mem_nil, or_false, not_or] at ha
      rw [State.run_reg]
      exact hreg a ha.1 ha.2

end Sys2Proof.Machine
end

section
/-! PROOF SUPPORT. The pair block's shared operations: what a change of its hidden state reads, the records of a kind, READY dropped,
and an entry raised beside them. -/

namespace Sys2Proof.Machine

variable (w : Work)

/-! ### The hidden state changed -/

@[simp] theorem Work.modPair_regs (f : Pair → Pair) : (w.modPair f).regs = w.regs := by rfl
@[simp] theorem Work.reg_modPair (f : Pair → Pair) (a : Nat) : (w.modPair f).reg a = w.reg a := by rfl
@[simp] theorem Work.get_modPair (f : Pair → Pair) (g : Fld) (n k : Nat) : (w.modPair f).get g n k = w.get g n k := by rfl
@[simp] theorem Work.flag_modPair (f : Pair → Pair) (g : Fld) (n k : Nat) : (w.modPair f).flag g n k = w.flag g n k := by rfl
@[simp] theorem Work.chan_modPair (f : Pair → Pair) (m : Nat) : (w.modPair f).chan m = w.chan m := by rfl
@[simp] theorem Work.modPair_wr (f : Pair → Pair) : (w.modPair f).wr = w.wr := by rfl
@[simp] theorem Work.modPair_sent (f : Pair → Pair) : (w.modPair f).sent = w.sent := by rfl
@[simp] theorem Work.modPair_tick (f : Pair → Pair) : (w.modPair f).tick = w.tick := by rfl
@[simp] theorem Work.modPair_pair (f : Pair → Pair) : (w.modPair f).pair = f w.pair := by rfl
@[simp] theorem Work.modPair_modPair (f g : Pair → Pair) : (w.modPair f).modPair g = w.modPair (fun p => g (f p)) := by rfl
@[simp] theorem Work.ringBase_modPair (f : Pair → Pair) (r : Nat) : (w.modPair f).ringBase r = w.ringBase r := by rfl
@[simp] theorem Work.ring_modPair (f : Pair → Pair) (r : Nat) : (w.modPair f).ring r = w.ring r := by rfl
@[simp] theorem Work.toDev_pair : w.toDev.pair = w.pair := by rfl
@[simp] theorem Work.raiseEntry_pair (r : Nat) (e : Entry) : (w.raiseEntry r e).pair = w.pair := (Work.SameDevice.raiseEntry w r e).pair
@[simp] theorem Work.raiseEntry_tick (r : Nat) (e : Entry) : (w.raiseEntry r e).tick = w.tick := (Work.SameDevice.raiseEntry w r e).tick

/-- An entry of kind 0x84 goes to the device's own ring (R358). -/
theorem Work.pairEntry_eq (code mask line key : Nat) : w.pairEntry code mask line key =
    w.raiseEntry devRing ⟨0x84, code, 0, mask % 256 + 2 ^ 8 * line + 2 ^ 16 * key, w.tick32⟩ := by rfl

@[simp] theorem Work.pairEntry_pair (code mask line key : Nat) : (w.pairEntry code mask line key).pair = w.pair := by
  rw [Work.pairEntry_eq, Work.raiseEntry_pair]

@[simp] theorem Work.chan_pairEntry_fin (code mask line key : Nat) (m : Fin 8) : (w.pairEntry code mask line key).chan m = w.chan m := by
  rw [Work.pairEntry_eq, Work.chan_raiseEntry_ne _ devRing _ _ (ne_of_lt m.isLt)]

theorem Work.get_pairEntry (code mask line key : Nat) (g : Fld) (h : ringFree g = true ∧ g.base < 0x40100000) :
    (w.pairEntry code mask line key).get g 0 0 = w.get g 0 0 := by
  rw [Work.pairEntry_eq, Work.get_raiseEntry_devRing _ _ _ h]

theorem Work.flag_pairEntry (code mask line key : Nat) (g : Fld) (h : ringFree g = true ∧ g.base < 0x40100000) :
    (w.pairEntry code mask line key).flag g 0 0 = w.flag g 0 0 := by
  rw [Work.pairEntry_eq, Work.flag_raiseEntry_devRing _ _ _ h]

theorem Work.reg_pairEntry (code mask line key a : Nat) (h : a ∉ ringRegs devRing) : (w.pairEntry code mask line key).reg a = w.reg a := by
  rw [Work.pairEntry_eq, Work.reg_raiseEntry _ _ _ _ h]

@[simp] theorem Work.modPair_dring (f : Pair → Pair) : (w.modPair f).dring = w.dring := by rfl
@[simp] theorem Work.pairEntry_wr (code mask line key : Nat) : (w.pairEntry code mask line key).wr =
    (w.raiseEntry devRing ⟨0x84, code, 0, mask % 256 + 2 ^ 8 * line + 2 ^ 16 * key, w.tick32⟩).wr := by rfl

/-- Where a command changes memory by one entry of the device's ring, no byte but those of the ring's next place changes. -/
theorem State.sameMemButNext_devRing (s : State) (f : Work → Work) (v : Work) (e : Entry)
    (hwr : (f s.work).wr = (v.raiseEntry devRing e).wr) (hv : v.wr = []) (hring : v.dring = s.dev.dring) :
    s.sameMemButNext (s.run f) devRing :=
  s.sameMemButNext_of_raise f v devRing e hwr hv rfl hring

/-! ### Records sent on the pair link -/

theorem pieces_ne_nil (fuel : Nat) (bs : List Byte) : pieces fuel bs ≠ [] := by
  cases fuel with
  | zero => exact List.cons_ne_nil _ _
  | succ n =>
    unfold pieces
    split <;> exact List.cons_ne_nil _ _

theorem length_of_mem_pieces (fuel : Nat) (bs : List Byte) (h : bs.length ≤ 64 * (fuel + 1)) : ∀ p ∈ pieces fuel bs, p.length ≤ 64 := by
  induction fuel generalizing bs with
  | zero =>
    intro p hp
    rw [List.mem_singleton.mp hp]
    omega
  | succ n ih =>
    intro p hp
    unfold pieces at hp
    split at hp
    · rw [List.mem_singleton.mp hp]
      assumption
    · obtain rfl | hp := List.mem_cons.mp hp
      · exact List.length_take_le ..
      · exact ih (bs.drop 64) (by rw [List.length_drop]; omega) p hp

/-- Every record is on the pair link, of its kind and destination, and of at most 64 bytes (R358). -/
theorem mem_pairRecords {kind dest : Nat} {contents : List Nat} {m : Sent} (h : m ∈ pairRecords kind dest contents) :
    m.via = 1 ∧ m.kind = kind ∧ m.dest = dest ∧ m.bytes.length ≤ 64 := by
  obtain ⟨p, hp, rfl⟩ := List.mem_map.mp h
  exact ⟨rfl, rfl, rfl, length_of_mem_pieces _ _ (by omega) p hp⟩

theorem pairRecords_ne_nil (kind dest : Nat) (contents : List Nat) : pairRecords kind dest contents ≠ [] := by
  unfold pairRecords
  exact fun h => pieces_ne_nil _ _ (List.map_eq_nil_iff.mp h)

/-- Some record there is. -/
theorem any_pairRecords (kind dest : Nat) (contents : List Nat) (p : Sent → Bool)
    (h : ∀ m, m.kind = kind → m.dest = dest → p m = true) : (pairRecords kind dest contents).any p = true := by
  obtain ⟨m, hm⟩ := List.exists_mem_of_ne_nil _ (pairRecords_ne_nil kind dest contents)
  obtain ⟨-, hkind, hdest, -⟩ := mem_pairRecords hm
  exact List.any_eq_true.mpr ⟨m, hm, h m hkind hdest⟩

theorem Work.onlyTold_pairSend (kind dest : Nat) (contents : List Nat) : w.OnlyTold (w.pairSend kind dest contents) :=
  Work.OnlyTold.foldl w _ _ fun v _ => (Work.OnlyTold.send v _).trans (Work.OnlyTold.ev _ _ _ _)

@[simp] theorem Work.pairSend_pair (kind dest : Nat) (contents : List Nat) : (w.pairSend kind dest contents).pair = w.pair :=
  List.foldlRecOn (motive := fun v : Work => v.pair = w.pair) _ _ rfl fun _ h _ _ => (Work.ev_pair _ _ _ _).trans h

/-- The records are sent in their order. -/
@[simp] theorem Work.pairSend_sent (kind dest : Nat) (contents : List Nat) :
    (w.pairSend kind dest contents).sent = w.sent ++ pairRecords kind dest contents := by
  have key : ∀ (ps : List (List Byte)) (v : Work),
      (ps.foldl (fun w p => w.pairFrame kind dest p) v).sent = v.sent ++ ps.map (fun p => ⟨1, 2, kind, dest, p⟩) := by
    intro ps
    induction ps with
    | nil => exact fun v => (List.append_nil _).symm
    | cons p ps ih =>
      intro v
      rw [List.foldl_cons, ih, List.map_cons, Work.pairFrame, (Work.SameDevice.ev _ _ _ _).sent]
      exact List.append_assoc v.sent [_] _
  exact key ..

/-! ### READY dropped (R360) -/

theorem bitOf_foldl_setBit (l : List Nat) (m i : Nat) : bitOf (l.foldl (fun m i => setBit m i true) m) i = (l.contains i || bitOf m i) := by
  induction l generalizing m with
  | nil => rfl
  | cons j l ih =>
    rw [List.foldl_cons, ih, List.contains_cons]
    by_cases hi : j = i
    · subst hi
      rw [bitOf_setBit_same, beq_self_eq_true, Bool.true_or, Bool.true_or, Bool.or_true]
    · rw [bitOf_setBit_ne _ _ _ _ hi, beq_false_of_ne (fun e => hi e.symm), Bool.false_or]

theorem bitOf_zero (i : Nat) : bitOf 0 i = false := by
  unfold bitOf
  rw [Nat.zero_div]
  rfl

/-- A bit of a mask of places. -/
theorem bitOf_listMask (l : List Nat) (i : Nat) : bitOf (listMask l) i = l.contains i := by
  unfold listMask
  rw [bitOf_foldl_setBit, bitOf_zero, Bool.or_false]

theorem bitOf_mod (v k i : Nat) (h : i < k) : bitOf (v % 2 ^ k) i = bitOf v i := by
  rw [bitOf_eq_testBit, bitOf_eq_testBit, Nat.testBit_mod_two_pow, decide_eq_true h, Bool.true_and]

section
variable (n : Nat)

theorem Work.reg_dropReady (a : Nat) (h : a ≠ R.PAIR_STAT.addr 0 0) : w.dropReady.reg a = w.reg a :=
  w.reg_put_ne F.PAIR_STAT_READY _ 0 0 a h

theorem Work.get_dropReady (g : Fld) (h : fieldsApart F.PAIR_STAT_READY g = true) : w.dropReady.get g 0 0 = w.get g 0 0 :=
  w.get_put_apart F.PAIR_STAT_READY g _ 0 h

theorem Work.flag_dropReady (g : Fld) (h : fieldsApart F.PAIR_STAT_READY g = true) : w.dropReady.flag g 0 0 = w.flag g 0 0 :=
  w.flag_put_apart F.PAIR_STAT_READY g _ 0 h

@[simp] theorem Work.dropReady_pair : w.dropReady.pair = w.pair := by
  unfold Work.dropReady
  rw [Work.put_pair]

@[simp] theorem Work.dropReady_wr : w.dropReady.wr = w.wr := by
  unfold Work.dropReady
  rw [Work.put_wr]

@[simp] theorem Work.chan_dropReady : w.dropReady.chan n = w.chan n := by
  unfold Work.dropReady
  rw [Work.chan_put]

@[simp] theorem Work.pairOn_dropReady : w.dropReady.pairOn = w.pairOn := by
  simp (disch := decide) only [Work.pairOn, Work.flag_dropReady, Work.get_dropReady]

@[simp] theorem Work.pairUp_dropReady : w.dropReady.pairUp = w.pairUp := by
  simp (disch := decide) only [Work.pairUp, Work.pairOn_dropReady, Work.flag_dropReady]

@[simp] theorem Work.pairMask_dropReady : w.dropReady.pairMask = w.pairMask := by
  simp (disch := decide) only [Work.pairMask, Work.flag_dropReady, Work.get_dropReady]

@[simp] theorem Work.lead_dropReady : w.dropReady.lead = w.lead := by
  simp (disch := decide) only [Work.lead, Work.flag_dropReady]

@[simp] theorem Work.activeMask_dropReady : w.dropReady.activeMask = w.activeMask := by
  simp (disch := decide) only [Work.activeMask, Work.get_dropReady]

/-- What READY asks is not told in READY. -/
@[simp] theorem Work.readyNow_dropReady : w.dropReady.readyNow n = w.readyNow n := by
  simp (disch := decide) only [Work.readyNow, Work.pairUp_dropReady, Work.paired, Work.pairMask_dropReady, Work.chan_dropReady,
    Work.dropReady_pair, Work.get_dropReady]

/-- READY dropped shows only channels that are ready. -/
theorem Work.readyNow_of_dropReady (h8 : n < 8) (h : bitOf (w.dropReady.get F.PAIR_STAT_READY) n = true) : w.readyNow n = true := by
  have hwidth : F.PAIR_STAT_READY.hi - F.PAIR_STAT_READY.lo + 1 = 8 := rfl
  unfold Work.dropReady at h
  rw [Work.get_put_same _ _ _ _ _ (by decide), hwidth, bitOf_mod _ _ _ h8, bitOf_listMask, List.contains_iff_mem] at h
  exact (List.mem_filter.mp h).2

/-- No channel is ready on a link that is down. -/
theorem Work.get_dropReady_down (h : w.pairUp = false) : w.dropReady.get F.PAIR_STAT_READY = 0 := by
  have hnone : (maskList (w.get F.PAIR_STAT_READY) 8).filter w.readyNow = [] := by
    refine List.filter_eq_nil_iff.mpr fun i _ => ?_
    unfold Work.readyNow
    simp only [h, Bool.false_and, Bool.false_eq_true, not_false_eq_true]
  unfold Work.dropReady
  rw [hnone, Work.get_put_same _ _ _ _ _ (by decide)]
  rfl

end

end Sys2Proof.Machine
end

section
/-! PROOF. The pair link, its leader and its heartbeats (R358 to R360, R366, R367). -/

namespace Sys2Proof.Machine

section
variable (w : Work)

/-! ### The pair block's reads beside an entry and other fields -/

@[simp] theorem Work.pairOn_modPair (f : Pair → Pair) : (w.modPair f).pairOn = w.pairOn := by rfl
@[simp] theorem Work.pairUp_modPair (f : Pair → Pair) : (w.modPair f).pairUp = w.pairUp := by rfl
@[simp] theorem Work.pairMask_modPair (f : Pair → Pair) : (w.modPair f).pairMask = w.pairMask := by rfl
@[simp] theorem Work.lead_modPair (f : Pair → Pair) : (w.modPair f).lead = w.lead := by rfl
@[simp] theorem Work.activeMask_modPair (f : Pair → Pair) : (w.modPair f).activeMask = w.activeMask := by rfl

section
variable (code mask line key : Nat)

@[simp] theorem Work.pairOn_pairEntry : (w.pairEntry code mask line key).pairOn = w.pairOn := by
  simp (disch := decide) only [Work.pairOn, Work.flag_pairEntry, Work.get_pairEntry]
@[simp] theorem Work.pairUp_pairEntry : (w.pairEntry code mask line key).pairUp = w.pairUp := by
  simp (disch := decide) only [Work.pairUp, Work.pairOn_pairEntry, Work.flag_pairEntry]
@[simp] theorem Work.pairMask_pairEntry : (w.pairEntry code mask line key).pairMask = w.pairMask := by
  simp (disch := decide) only [Work.pairMask, Work.flag_pairEntry, Work.get_pairEntry]
@[simp] theorem Work.lead_pairEntry : (w.pairEntry code mask line key).lead = w.lead := by
  simp (disch := decide) only [Work.lead, Work.flag_pairEntry]
@[simp] theorem Work.activeMask_pairEntry : (w.pairEntry code mask line key).activeMask = w.activeMask := by
  simp (disch := decide) only [Work.activeMask, Work.get_pairEntry]

end

section
variable (f : Fld) (v : Nat)

/-- A field beside the configuration and the block reset leaves the block working, or not. -/
theorem Work.pairOn_put (h : f.base ≠ R.PAIR_CFG.base ∧ f.base ≠ R.SYS_BLK_RST.base) : (w.put f v 0 0).pairOn = w.pairOn := by
  have hcfg : ∀ g : Fld, f.base ≠ g.base → fieldsApart f g = true := fun g hg => by simp [fieldsApart, hg]
  unfold Work.pairOn
  rw [w.flag_put_apart f F.PAIR_CFG_EN v 0 (hcfg _ h.1), w.get_put_apart f F.PAIR_CFG_ROLE v 0 (hcfg _ h.1),
    w.flag_put_apart f F.SYS_BLK_RST_PAIR v 0 (hcfg _ h.2)]

theorem Work.pairMask_put (h : f.base ≠ R.PAIR_CFG.base) : (w.put f v 0 0).pairMask = w.pairMask := by
  have hcfg : ∀ g : Fld, f.base ≠ g.base → fieldsApart f g = true := fun g hg => by simp [fieldsApart, hg]
  unfold Work.pairMask
  rw [w.flag_put_apart f F.PAIR_CFG_EN v 0 (hcfg _ h), w.get_put_apart f F.PAIR_CFG_PAIR_MASK v 0 (hcfg _ h)]

theorem Work.pairUp_put (h : f.base ≠ R.PAIR_CFG.base ∧ f.base ≠ R.SYS_BLK_RST.base) (hlink : fieldsApart f F.PAIR_STAT_LINK = true) :
    (w.put f v 0 0).pairUp = w.pairUp := by
  unfold Work.pairUp
  rw [w.pairOn_put f v h, w.flag_put_apart f F.PAIR_STAT_LINK v 0 hlink]

theorem Work.lead_put (h : fieldsApart f F.PAIR_STAT_LEAD = true) : (w.put f v 0 0).lead = w.lead :=
  w.flag_put_apart f F.PAIR_STAT_LEAD v 0 h

theorem Work.activeMask_put (h : fieldsApart f F.PAIR_STAT_ACTIVE = true) : (w.put f v 0 0).activeMask = w.activeMask :=
  w.get_put_apart f F.PAIR_STAT_ACTIVE v 0 h

end

/-! ### The commands, case by case -/

theorem pairOwnClaim_takes (hon : w.pairOn = true) (hlead : w.lead = false) :
    pairOwnClaim w = ((w.put F.PAIR_STAT_LEAD 1).pairEntry 10 w.pairMask).modPair (fun p => { p with
      leadOut := false
      takeover := union p.takeover
        (without (if w.pairUp then without w.pairMask w.pair.partner.drive else w.pairMask) w.activeMask) }) := by
  unfold pairOwnClaim
  rw [if_neg (by simp [hon, hlead])]
  simp (disch := decide) only [Work.putFlag_eq, Bool.toNat_true, Work.takeNext, Work.modPair_modPair, Work.activeMask_modPair,
    Work.activeMask_pairEntry, Work.activeMask_put, Work.pairUp_modPair, Work.pairUp_pairEntry, Work.pairUp_put,
    Work.pairMask_modPair, Work.pairMask_pairEntry, Work.pairMask_put, Work.modPair_pair, Work.pairEntry_pair, Work.put_pair]

/-- The identities that HELLO tells (R360). -/
def Pair.told (p : Pair) (uid mask serial missed : Nat) : Pair :=
  { p with missed := missed, partner := { p.partner with uid := uid, mask := mask, serial := serial } }

theorem hello_links (uid mask serial : Nat) (hon : w.pairOn = true) (hauth : w.pair.auth = .passed) (huid : uid = w.partnerUid)
    (hlink : w.flag F.PAIR_STAT_LINK = false) (hmask : mask = w.pairMask) (hserial : serial = w.get F.SYS_IMG_SERIAL_SERIAL) :
    ∃ m, hello w uid mask serial =
      (((w.modPair (fun p => p.told uid mask serial 0)).put F.PAIR_STAT_LINK 1).pairEntry 1 m).dropReady := by
  unfold hello
  rw [if_neg (by simp [hon, hauth, huid])]
  simp (disch := decide) only [hlink, if_false, Bool.false_eq_true, Work.putFlag_eq, Bool.toNat_true, Work.pairMask_pairEntry,
    Work.pairMask_put, Work.pairMask_modPair, Work.get_pairEntry, Work.get_put_apart, Work.get_modPair, hmask, hserial, ne_eq,
    not_true_eq_false, or_self]
  exact ⟨_, rfl⟩

theorem hello_differs (uid mask serial : Nat) (hon : w.pairOn = true) (hauth : w.pair.auth = .passed) (huid : uid = w.partnerUid)
    (hlink : w.flag F.PAIR_STAT_LINK = true) (hdiffers : mask ≠ w.pairMask ∨ serial ≠ w.get F.SYS_IMG_SERIAL_SERIAL) :
    ∃ m, hello w uid mask serial =
      ((((w.modPair (fun p => p.told uid mask serial p.missed)).put F.PAIR_STAT_LINK 1).put F.PAIR_ERR_MISMATCH 1).pairEntry 9 m).dropReady := by
  unfold hello
  rw [if_neg (by simp [hon, hauth, huid])]
  simp (disch := decide) only [hlink, if_true, Work.putFlag_eq, Bool.toNat_true, Work.raise_eq, Work.pairMask_put, Work.pairMask_modPair,
    Work.get_put_apart, Work.get_modPair, if_pos hdiffers]
  exact ⟨_, rfl⟩

/-- A channel's identity, as the partner tells it (R360). -/
def Pair.identified (p : Pair) (n ser crc : Nat) : Pair :=
  { p with partner := { p.partner with chIds := tabInsert p.partner.chIds n (ser, crc) } }

theorem chId_agrees (n ser crc : Nat) (hup : w.pairUp = true) (hpaired : w.paired n = true) (hcrc : crc = (w.chan n).structCrc) :
    chId w n ser crc = (w.modPair (fun p => p.identified n ser crc)).dropReady := by
  unfold chId
  rw [if_neg (by simp [hup, hpaired])]
  exact congrArg Work.dropReady (if_pos hcrc)

theorem chId_differs (n ser crc : Nat) (hup : w.pairUp = true) (hpaired : w.paired n = true) (hcrc : crc ≠ (w.chan n).structCrc) :
    chId w n ser crc =
      (((w.modPair (fun p => p.identified n ser crc)).put F.PAIR_ERR_MISMATCH 1).pairEntry 9 (2 ^ n) n).dropReady := by
  unfold chId
  rw [if_neg (by simp [hup, hpaired])]
  dsimp only
  rw [Work.raise_eq]
  exact congrArg Work.dropReady (if_neg hcrc)

theorem heartbeatSend_on (hon : w.pairOn = true) :
    heartbeatSend w = (w.pairSend 0x42 0 [w.tick % 65536, w.pair.partner.tick, w.activeMask, w.get F.PAIR_STAT_READY, w.lead.toNat,
      w.pair.shadow.toNat]).modPair (fun p => { p with shadow := false }) := if_pos hon

/-- A heartbeat kept (R359). -/
def Pair.beat (p : Pair) (warm tick drive ready : Nat) (lead : Bool) : Pair :=
  { p with
    hbJudged := true, heard := true, missed := 0, warm := warm
    partner := { p.partner with drive := drive, ready := ready, lead := lead, tick := tick % 65536 } }

section
variable (tick echo drive ready : Nat) (lead : Bool) (hup : w.pairUp = true) (hjudged : w.pair.hbJudged = false)
  (htick : tick % 65536 = w.tick % 65536)
include hup hjudged htick

theorem heartbeat_echoed (hlead : w.lead = false) (hecho : echo % 65536 = (w.tick + 65535) % 65536) :
    heartbeat w tick echo drive ready lead false = w.modPair (fun p => p.beat (w.get F.PAIR_STAT_READY) tick drive ready lead) := by
  unfold heartbeat
  rw [if_neg (by simp [hup, hjudged, htick])]
  simp only [Bool.false_eq_true, if_false, Work.lead_modPair, hlead, Work.modPair_tick, hecho, beq_self_eq_true, Bool.not_true,
    and_false]
  rfl

theorem heartbeat_unechoed (hlead : w.lead = false) (hecho : echo % 65536 ≠ (w.tick + 65535) % 65536) :
    heartbeat w tick echo drive ready lead false = w.modPair (fun p =>
      { p.beat (w.get F.PAIR_STAT_READY) tick drive ready lead with release := union p.release w.activeMask }) := by
  unfold heartbeat
  rw [if_neg (by simp [hup, hjudged, htick])]
  simp only [Bool.false_eq_true, if_false, Work.lead_modPair, hlead, Work.modPair_tick, beq_false_of_ne hecho, Bool.not_false,
    and_self, if_true, Work.releaseAll, Work.modPair_modPair, Work.activeMask_modPair]
  rfl

theorem heartbeat_leads (hlead : w.lead = true) :
    heartbeat w tick echo drive ready lead false = w.modPair (fun p =>
      { p.beat (w.get F.PAIR_STAT_READY) tick drive ready lead with
        takeover := union p.takeover (without (without (without w.pairMask drive) w.pair.releaseNext) w.activeMask) }) := by
  unfold heartbeat
  rw [if_neg (by simp [hup, hjudged, htick])]
  simp only [Bool.false_eq_true, if_false, Work.lead_modPair, hlead, Bool.not_true, false_and, if_true, Work.takeNext,
    Work.modPair_modPair, Work.activeMask_modPair, Work.pairMask_modPair, Work.modPair_pair]
  rfl

end

/-- A heartbeat missed (R359, R367): it is counted, and a device that does not lead releases what it drives. -/
def Work.missedBeat (w : Work) : Work :=
  ((((w.modPair (fun p => { p with hbJudged := true, missed := p.missed + 1 })).put F.PAIR_ERR_HB_MISS 1).countUp F.PAIR_CNT_HB_MISSED).ev
    0x50).modPair (fun p => { p with release := if w.lead then p.release else union p.release w.activeMask })

theorem heartbeatMissed_judges (hup : w.pairUp = true) (hjudged : w.pair.hbJudged = false) :
    heartbeatMissed w = if 2 ≤ w.pair.missed + 1 then w.missedBeat.linkLost else w.missedBeat := by
  have hbeat : ∀ v : Work, v.lead = w.lead → v.activeMask = w.activeMask →
      (if v.lead = true then v else v.releaseAll) =
        v.modPair (fun p => { p with release := if w.lead then p.release else union p.release w.activeMask }) := by
    intro v hlead hactive
    rw [hlead]
    split
    · rfl
    · rw [Work.releaseAll, hactive]
  unfold heartbeatMissed
  rw [if_neg (by simp [hup, hjudged])]
  dsimp only
  rw [Work.raise_eq, hbeat]
  · rfl
  · unfold Work.lead
    rw [Work.flag_ev, Work.countUp_eq, Work.flag_put_apart _ F.PAIR_CNT_HB_MISSED F.PAIR_STAT_LEAD _ 0 (by decide),
      Work.flag_put_apart _ F.PAIR_ERR_HB_MISS F.PAIR_STAT_LEAD _ 0 (by decide), Work.flag_modPair]
  · unfold Work.activeMask
    rw [Work.get_ev, Work.countUp_eq, Work.get_put_apart _ F.PAIR_CNT_HB_MISSED F.PAIR_STAT_ACTIVE _ 0 (by decide),
      Work.get_put_apart _ F.PAIR_ERR_HB_MISS F.PAIR_STAT_ACTIVE _ 0 (by decide), Work.get_modPair]

/-- A field that a missed beat does not count in. -/
theorem Work.get_missedBeat (g : Fld) (h : fieldsApart F.PAIR_ERR_HB_MISS g = true ∧ fieldsApart F.PAIR_CNT_HB_MISSED g = true) :
    w.missedBeat.get g = w.get g := by
  unfold Work.missedBeat
  rw [Work.get_modPair, Work.get_ev, Work.countUp_eq, Work.get_put_apart _ F.PAIR_CNT_HB_MISSED g _ 0 h.2,
    Work.get_put_apart _ F.PAIR_ERR_HB_MISS g _ 0 h.1, Work.get_modPair]

theorem Work.flag_missedBeat (g : Fld) (h : fieldsApart F.PAIR_ERR_HB_MISS g = true ∧ fieldsApart F.PAIR_CNT_HB_MISSED g = true) :
    w.missedBeat.flag g = w.flag g := by
  unfold Work.flag
  rw [Work.get_missedBeat w g h]

theorem Work.missedBeat_flag : w.missedBeat.flag F.PAIR_ERR_HB_MISS = true := by
  unfold Work.missedBeat
  rw [Work.flag_modPair, Work.flag_ev, Work.countUp_eq, Work.flag_put_apart _ F.PAIR_CNT_HB_MISSED F.PAIR_ERR_HB_MISS _ 0 (by decide),
    Work.flag_put_same _ _ _ _ _ rfl]
  rfl

theorem Work.missedBeat_count : w.missedBeat.get F.PAIR_CNT_HB_MISSED = Nat.min 65535 (w.get F.PAIR_CNT_HB_MISSED + 1) := by
  unfold Work.missedBeat
  rw [Work.get_modPair, Work.get_ev, Work.countUp_eq, Work.get_put_same _ _ _ _ _ (by decide), satAdd_mod,
    Work.get_put_apart _ F.PAIR_ERR_HB_MISS F.PAIR_CNT_HB_MISSED 1 0 (by decide), Work.get_modPair]
  rfl

theorem Work.reg_missedBeat (a : Nat) (herr : a ≠ R.PAIR_ERR.addr 0 0) (hcnt : a ≠ R.PAIR_CNT.addr 0 0) :
    w.missedBeat.reg a = w.reg a := by
  unfold Work.missedBeat
  rw [Work.reg_modPair, Work.reg_ev, Work.countUp_eq, Work.reg_put_ne _ F.PAIR_CNT_HB_MISSED _ 0 0 a hcnt,
    Work.reg_put_ne _ F.PAIR_ERR_HB_MISS 1 0 0 a herr, Work.reg_modPair]

theorem Work.missedBeat_wr : w.missedBeat.wr = w.wr := by
  unfold Work.missedBeat
  rw [Work.modPair_wr, Work.ev_wr, Work.countUp_eq, Work.put_wr, Work.put_wr, Work.modPair_wr]

theorem Work.missedBeat_pair : w.missedBeat.pair = { w.pair with
    hbJudged := true
    missed := w.pair.missed + 1
    release := if w.lead then w.pair.release else union w.pair.release w.activeMask } := by
  unfold Work.missedBeat
  rw [Work.modPair_pair, Work.ev_pair, Work.countUp_eq, Work.put_pair, Work.put_pair, Work.modPair_pair]

theorem Work.missedBeat_dring : w.missedBeat.dring = w.dring := by
  unfold Work.missedBeat
  rw [Work.modPair_dring, Work.ev_dring, Work.countUp_eq, Work.put_dring, Work.put_dring, Work.modPair_dring]

/-- The link lost, on the pair block's hidden state (R359, R367). -/
def Pair.lost (p : Pair) (lead : Bool) : Pair :=
  { p with synced := 0, asked := 0, desync := 0, open_ := [], closed := [], missed := 0, hand := if lead then p.hand else [] }

/-- A lost link as it is shown, before who drives is settled. -/
def Work.linkDown (w : Work) : Work :=
  ((((w.put F.PAIR_STAT_LINK 0).put F.PAIR_ERR_LINK_LOST 1).modPair (fun p => p.lost w.lead)).pairEntry 2 w.pairMask).dropReady

theorem Work.linkLost_eq : w.linkLost =
    if w.lead then w.linkDown.modPair (fun p => { p with takeover := union p.takeover (without w.pairMask w.activeMask) })
    else w.linkDown.modPair (fun p => { p with release := union p.release w.activeMask }) := by
  unfold Work.linkLost Work.linkDown
  simp (disch := decide) only [Work.putFlag_eq, Bool.toNat_false, Work.raise_eq, Work.lead_put, Work.lead_modPair, Work.pairMask_modPair,
    Work.pairMask_put, Work.lead_dropReady, Work.lead_pairEntry, Work.takeNext, Work.releaseAll, Work.pairMask_dropReady,
    Work.pairMask_pairEntry, Work.activeMask_dropReady, Work.activeMask_pairEntry, Work.activeMask_modPair, Work.activeMask_put, Pair.lost]

/-! ### What a lost link leaves -/

theorem Work.reg_linkDown (a : Nat) (hstat : a ≠ R.PAIR_STAT.addr 0 0) (herr : a ≠ R.PAIR_ERR.addr 0 0) (hring : a ∉ ringRegs devRing) :
    w.linkDown.reg a = w.reg a := by
  unfold Work.linkDown
  rw [Work.reg_dropReady _ _ hstat, Work.reg_pairEntry _ _ _ _ _ _ hring, Work.reg_modPair,
    Work.reg_put_ne _ F.PAIR_ERR_LINK_LOST 1 0 0 a herr, Work.reg_put_ne _ F.PAIR_STAT_LINK 0 0 0 a hstat]

theorem Work.linkDown_link : w.linkDown.flag F.PAIR_STAT_LINK = false := by
  unfold Work.linkDown
  rw [Work.flag_dropReady _ _ (by decide), Work.flag_pairEntry _ _ _ _ _ _ (by decide), Work.flag_modPair,
    Work.flag_put_apart _ F.PAIR_ERR_LINK_LOST F.PAIR_STAT_LINK 1 0 (by decide), Work.flag_put_same _ _ _ _ _ rfl]
  rfl

theorem Work.linkDown_lost : w.linkDown.flag F.PAIR_ERR_LINK_LOST = true := by
  unfold Work.linkDown
  rw [Work.flag_dropReady _ _ (by decide), Work.flag_pairEntry _ _ _ _ _ _ (by decide), Work.flag_modPair,
    Work.flag_put_same _ _ _ _ _ rfl]
  rfl

/-- No channel is ready (R360). -/
theorem Work.linkDown_ready : w.linkDown.get F.PAIR_STAT_READY = 0 := by
  unfold Work.linkDown
  refine Work.get_dropReady_down _ ?_
  rw [Work.pairUp_pairEntry, Work.pairUp_modPair]
  unfold Work.pairUp
  rw [Work.flag_put_apart _ F.PAIR_ERR_LINK_LOST F.PAIR_STAT_LINK 1 0 (by decide), Work.flag_put_same _ _ _ _ _ rfl]
  exact Bool.and_false _

theorem Work.linkDown_pair : w.linkDown.pair = w.pair.lost w.lead := by
  unfold Work.linkDown
  rw [Work.dropReady_pair, Work.pairEntry_pair, Work.modPair_pair, Work.put_pair, Work.put_pair]

end

/-! ### The obligation -/

/-- What a lost link leaves, whoever leads. -/
theorem Work.linkLost_same (w : Work) : w.linkLost.regs = w.linkDown.regs ∧ w.linkLost.wr = w.linkDown.wr := by
  rw [Work.linkLost_eq]
  split <;> exact ⟨Work.modPair_regs .., Work.modPair_wr ..⟩

theorem Work.OnlyTold.pairMask {w v : Work} (h : w.OnlyTold v) : v.pairMask = w.pairMask := by
  unfold Work.pairMask
  rw [h.flag, h.get]

/-- HELLO and the identities sent (R358, R360). -/
theorem helloSend_passed (w : Work) (hon : w.pairOn = true) (hauth : w.pair.auth = .passed)
    (hdue : w.tick % 1024 = 0 ∨ w.pairUp = false) :
    w.OnlyTold (helloSend w) ∧ ∃ (cs : List Nat) (id : Nat → List Nat), (helloSend w).sent =
      w.sent ++ pairRecords 0x40 0 cs ++ (maskList w.pairMask 8).flatMap (fun n => pairRecords 0x41 n (id n)) := by
  have key : ∀ (l : List Nat) (v : Work), ∃ id : Nat → List Nat,
      (l.foldl (fun w n => w.pairSend 0x41 n [n, w.get F.SYS_IMG_CHSER_SERIAL 0 n, (w.chan n).structCrc]) v).sent =
        v.sent ++ l.flatMap (fun n => pairRecords 0x41 n (id n)) := by
    intro l v
    refine ⟨fun n => [n, v.get F.SYS_IMG_CHSER_SERIAL 0 n, (v.chan n).structCrc], ?_⟩
    induction l generalizing v with
    | nil => exact (List.append_nil _).symm
    | cons n l ih =>
      have htold := v.onlyTold_pairSend 0x41 n [n, v.get F.SYS_IMG_CHSER_SERIAL 0 n, (v.chan n).structCrc]
      rw [List.foldl_cons, ih, List.flatMap_cons, Work.pairSend_sent, ← List.append_assoc]
      simp only [htold.get, htold.chan]
  unfold helloSend
  rw [if_pos ⟨hon, hdue.imp_right fun h => by rw [h]; rfl⟩, if_neg (fun h => h hauth)]
  have htold := w.onlyTold_pairSend 0x40 0 [ownUid, w.get F.PAIR_CFG_ROLE, w.pairMask, w.get F.SYS_IMG_SERIAL_SERIAL]
  refine ⟨htold.trans (Work.OnlyTold.foldl _ _ _ fun v n => v.onlyTold_pairSend ..),
    [ownUid, w.get F.PAIR_CFG_ROLE, w.pairMask, w.get F.SYS_IMG_SERIAL_SERIAL], ?_⟩
  dsimp only
  rw [htold.pairMask]
  obtain ⟨id, hid⟩ := key (maskList w.pairMask 8) (w.pairSend 0x40 0 [ownUid, w.get F.PAIR_CFG_ROLE, w.pairMask, w.get F.SYS_IMG_SERIAL_SERIAL])
  exact ⟨id, by rw [hid, Work.pairSend_sent]⟩

/-- READY asks what a run leaves, in its next state too. -/
theorem State.run_readyNow (s : State) (f : Work → Work) (n : Nat) : (s.run f).work.readyNow n = (f s.work).readyNow n := by rfl

/-- A run that leaves all but the pair block's hidden state. -/
theorem State.paired_of_modPair (s : State) (f : Work → Work) (g : Pair → Pair) (h : f s.work = s.work.modPair g) :
    (s.run f).dev.pair = g s.dev.pair ∧ s.sameRegs (s.run f) [] ∧ (s.run f).mem = s.mem := by
  refine ⟨?_, s.frame_of_regs f (by rw [h]; rfl) (by rw [h]; rfl)⟩
  rw [State.run_dev, h]
  rfl

/-- Settles O34: each command of the pair link changes its hidden state as told, and PAIR_STAT, PAIR_ERR and the device's ring where
it says so. -/
theorem pairIdentityAndHeartbeats : Obligations.PairIdentityAndHeartbeats := by
  unfold Obligations.PairIdentityAndHeartbeats
  refine ⟨?claim, ?send, ?links, ?differs, ?identity, ?beatSend, ?echoed, ?unechoed, ?leads, ?missed, ?lost⟩
  case claim =>
    intro s hon hlead
    have hrun := pairOwnClaim_takes s.work hon hlead
    refine ⟨_, rfl, ?_, ?_, ?_, ?_, s.sameMemButNext_devRing _ _ _ ((congrArg Work.wr hrun).trans ((Work.modPair_wr ..).trans (Work.pairEntry_wr ..))) ?_ ?_⟩
    · rw [State.run_flag, hrun, Work.flag_modPair, Work.flag_pairEntry _ _ _ _ _ _ (by decide), Work.flag_put_same _ _ _ _ _ rfl]
      rfl
    · rw [State.run_dev, hrun, Work.toDev_pair, Work.modPair_pair, Work.pairEntry_pair, Work.put_pair]
      rfl
    · rw [State.run_get, hrun, Work.get_modPair, Work.get_pairEntry _ _ _ _ _ _ (by decide),
        Work.get_put_apart _ F.PAIR_STAT_LEAD F.PAIR_STAT_ACTIVE 1 0 (by decide), State.work_get]
    · intro a ha
      simp only [List.mem_cons, not_or] at ha
      rw [State.run_reg, hrun, Work.reg_modPair, Work.reg_pairEntry _ _ _ _ _ _ ha.2, Work.reg_put_ne _ F.PAIR_STAT_LEAD 1 0 0 a ha.1,
        State.work_reg]
    · rw [Work.put_wr, State.work_wr]
    · rw [Work.put_dring]
      rfl
  case send =>
    intro s hon hauth hdue
    obtain ⟨htold, cs, id, hsent⟩ := helloSend_passed s.work hon hauth hdue
    have hsent : (s.run helloSend).dev.sent = pairRecords 0x40 0 cs ++ (maskList s.work.pairMask 8).flatMap (fun n => pairRecords 0x41 n (id n)) := by
      rw [State.run_dev, Work.toDev_sent, hsent, State.work_sent, List.nil_append]
    refine ⟨_, rfl, ?_, ?_, fun n hn => ?_, s.frame_of_regs helloSend htold.regs htold.wr⟩
    · rw [hsent, List.all_eq_true]
      intro m hm
      obtain hm | hm := List.mem_append.mp hm
      · obtain ⟨hvia, hkind, hdest, hlen⟩ := mem_pairRecords hm
        simp [hvia, hkind, hdest, hlen]
      · obtain ⟨n, hn, hm⟩ := List.mem_flatMap.mp hm
        obtain ⟨hvia, hkind, hdest, hlen⟩ := mem_pairRecords hm
        simp [hvia, hkind, hdest, hlen, hn]
    · rw [hsent, List.any_append, any_pairRecords _ _ _ _ (fun m hkind _ => by rw [hkind]; rfl), Bool.true_or]
    · have hlisted : n.val ∈ maskList s.work.pairMask 8 := (mem_maskList ..).mpr ⟨n.isLt, hn⟩
      have hany := any_pairRecords 0x41 n.val (id n) (fun m => m.kind == 0x41 && m.dest == n.val)
        (fun m hkind hdest => by rw [hkind, hdest, beq_self_eq_true, beq_self_eq_true]; rfl)
      obtain ⟨m, hm, hp⟩ := List.any_eq_true.mp hany
      rw [hsent]
      exact List.any_eq_true.mpr ⟨m, List.mem_append_right _ (List.mem_flatMap.mpr ⟨n, hlisted, hm⟩), hp⟩
  case links =>
    intro s uid role mask serial hon hauth hrole huid hlink hmask hserial
    obtain ⟨m, hrun⟩ := hello_links s.work uid mask serial hon hauth huid hlink hmask hserial
    replace hrun : (if role = 0 then s.work else hello s.work uid mask serial) = _ := (if_neg hrole).trans hrun
    refine ⟨_, rfl, ?_, ?_, ?_, s.sameMemButNext_devRing _ _ _ ((congrArg Work.wr hrun).trans ((Work.dropReady_wr _).trans (Work.pairEntry_wr ..))) ?_ ?_⟩
    · rw [State.run_flag, hrun, Work.flag_dropReady _ _ (by decide), Work.flag_pairEntry _ _ _ _ _ _ (by decide), Work.flag_put_same _ _ _ _ _ rfl]
      rfl
    · rw [State.run_dev, hrun, Work.toDev_pair, Work.dropReady_pair, Work.pairEntry_pair, Work.put_pair, Work.modPair_pair]
      rfl
    · intro a ha
      simp only [List.mem_cons, not_or] at ha
      rw [State.run_reg, hrun, Work.reg_dropReady _ _ ha.1, Work.reg_pairEntry _ _ _ _ _ _ ha.2, Work.reg_put_ne _ F.PAIR_STAT_LINK 1 0 0 a ha.1,
        Work.reg_modPair, State.work_reg]
    · rw [Work.put_wr, Work.modPair_wr, State.work_wr]
    · rw [Work.put_dring, Work.modPair_dring]
      rfl
  case differs =>
    intro s uid role mask serial hon hauth hrole huid hlink hdiffers
    obtain ⟨m, hrun⟩ := hello_differs s.work uid mask serial hon hauth huid hlink hdiffers
    replace hrun : (if role = 0 then s.work else hello s.work uid mask serial) = _ := (if_neg hrole).trans hrun
    have hpair : (s.run (fun w => if role = 0 then w else hello w uid mask serial)).dev.pair =
        s.dev.pair.told uid mask serial s.dev.pair.missed := by
      rw [State.run_dev, hrun, Work.toDev_pair, Work.dropReady_pair, Work.pairEntry_pair, Work.put_pair, Work.put_pair, Work.modPair_pair]
      rfl
    refine ⟨_, rfl, ?_, congrArg (fun p : Pair => p.partner.mask) hpair, congrArg (fun p : Pair => p.partner.serial) hpair, fun n hn => ?_, ?_,
      s.sameMemButNext_devRing _ _ _ ((congrArg Work.wr hrun).trans ((Work.dropReady_wr _).trans (Work.pairEntry_wr ..))) ?_ ?_⟩
    · rw [State.run_flag, hrun, Work.flag_dropReady _ _ (by decide), Work.flag_pairEntry _ _ _ _ _ _ (by decide), Work.flag_put_same _ _ _ _ _ rfl]
      rfl
    · rw [State.run_get, hrun] at hn
      rw [State.run_readyNow, hrun, Work.readyNow_dropReady]
      exact Work.readyNow_of_dropReady _ n n.isLt hn
    · intro a ha
      simp only [List.mem_cons, not_or] at ha
      obtain ⟨hstat, herr, hring⟩ := ha
      rw [State.run_reg, hrun, Work.reg_dropReady _ _ hstat, Work.reg_pairEntry _ _ _ _ _ _ hring, Work.reg_put_ne _ F.PAIR_ERR_MISMATCH 1 0 0 a herr,
        Work.reg_put_ne _ F.PAIR_STAT_LINK 1 0 0 a hstat, Work.reg_modPair, State.work_reg]
    · rw [Work.put_wr, Work.put_wr, Work.modPair_wr, State.work_wr]
    · rw [Work.put_dring, Work.put_dring, Work.modPair_dring]
      rfl
  case identity =>
    intro s ch ser crc hup hpaired
    by_cases hcrc : crc = (s.chan ch).structCrc
    · have hrun := chId_agrees s.work ch ser crc hup hpaired hcrc
      have hmem : (s.run (fun w => chId w ch ser crc)).mem = s.mem :=
        s.run_mem_of_wr _ (by rw [hrun, Work.dropReady_wr, Work.modPair_wr, State.work_wr])
      have hregs : ∀ a, a ≠ R.PAIR_STAT.addr 0 0 → (s.run (fun w => chId w ch ser crc)).reg a = s.reg a := by
        intro a ha
        rw [State.run_reg, hrun, Work.reg_dropReady _ _ ha, Work.reg_modPair, State.work_reg]
      refine ⟨_, rfl, ?_, fun h => absurd hcrc h, fun _ => ⟨fun a ha => hregs a (fun e => ha (e ▸ List.mem_cons_self)), hmem⟩,
        fun a ha => hregs a (fun e => ha (e ▸ List.mem_cons_self)), s.sameMemButNext_of_wr _ devRing ?_⟩
      · rw [State.run_dev, hrun, Work.toDev_pair, Work.dropReady_pair, Work.modPair_pair]
        exact tabFind_tabInsert_same ..
      · rw [hrun, Work.dropReady_wr, Work.modPair_wr, State.work_wr]
    · have hrun := chId_differs s.work ch ser crc hup hpaired hcrc
      refine ⟨_, rfl, ?_, fun _ => ?_, fun h => absurd h hcrc, ?_,
        s.sameMemButNext_devRing _ _ _ ((congrArg Work.wr hrun).trans ((Work.dropReady_wr _).trans (Work.pairEntry_wr ..))) ?_ ?_⟩
      · rw [State.run_dev, hrun, Work.toDev_pair, Work.dropReady_pair, Work.pairEntry_pair, Work.put_pair, Work.modPair_pair]
        exact tabFind_tabInsert_same ..
      · rw [State.run_flag, hrun, Work.flag_dropReady _ _ (by decide), Work.flag_pairEntry _ _ _ _ _ _ (by decide), Work.flag_put_same _ _ _ _ _ rfl]
        rfl
      · intro a ha
        simp only [List.mem_cons, not_or] at ha
        obtain ⟨hstat, herr, hring⟩ := ha
        rw [State.run_reg, hrun, Work.reg_dropReady _ _ hstat, Work.reg_pairEntry _ _ _ _ _ _ hring,
          Work.reg_put_ne _ F.PAIR_ERR_MISMATCH 1 0 0 a herr, Work.reg_modPair, State.work_reg]
      · rw [Work.put_wr, Work.modPair_wr, State.work_wr]
      · rw [Work.put_dring, Work.modPair_dring]
        rfl
  case beatSend =>
    intro s hon
    have hrun := heartbeatSend_on s.work hon
    have htold := s.work.onlyTold_pairSend 0x42 0 [s.dev.tick % 65536, s.dev.pair.partner.tick, s.work.activeMask, s.get F.PAIR_STAT_READY,
      s.work.lead.toNat, s.dev.pair.shadow.toNat]
    refine ⟨_, rfl, ?_, ?_, s.frame_of_regs heartbeatSend ?_ ?_⟩
    · rw [State.run_dev, hrun, Work.toDev_sent, Work.modPair_sent, Work.pairSend_sent]
      rfl
    · rw [State.run_dev, hrun, Work.toDev_pair, Work.modPair_pair, Work.pairSend_pair]
      rfl
    · rw [hrun]
      exact htold.regs
    · rw [hrun]
      exact htold.wr
  case echoed =>
    intro s tick echo drive ready lead hup hjudged htick hlead hecho
    have hkept := s.paired_of_modPair (fun w => heartbeat w tick echo drive ready lead false) _
      (heartbeat_echoed s.work tick echo drive ready lead hup hjudged htick hlead hecho)
    exact ⟨_, rfl, hkept⟩
  case unechoed =>
    intro s tick echo drive ready lead hup hjudged htick hlead hecho
    have hkept := s.paired_of_modPair (fun w => heartbeat w tick echo drive ready lead false) _
      (heartbeat_unechoed s.work tick echo drive ready lead hup hjudged htick hlead hecho)
    exact ⟨_, rfl, hkept⟩
  case leads =>
    intro s tick echo drive ready lead hup hjudged htick hlead
    have hkept := s.paired_of_modPair (fun w => heartbeat w tick echo drive ready lead false) _
      (heartbeat_leads s.work tick echo drive ready lead hup hjudged htick hlead)
    exact ⟨_, rfl, hkept⟩
  case missed =>
    intro s hup hjudged hfirst
    have hrun : heartbeatMissed s.work = s.work.missedBeat :=
      (heartbeatMissed_judges s.work hup hjudged).trans (if_neg (by rw [show s.work.pair.missed = 0 from hfirst]; decide))
    have hlink : s.flag F.PAIR_STAT_LINK = true := (Bool.and_eq_true_iff.mp hup).2
    refine ⟨_, rfl, ?_, ?_, ?_, ?_, ?_, s.run_mem_of_wr _ ?_⟩
    · rw [State.run_flag, hrun, Work.missedBeat_flag]
    · rw [State.run_get, hrun, Work.missedBeat_count, State.work_get]
    · rw [State.run_dev, hrun, Work.toDev_pair, Work.missedBeat_pair, show s.work.pair.missed = 0 from hfirst]
      rfl
    · rw [State.run_flag, hrun, Work.flag_missedBeat _ _ (by decide), State.work_flag, hlink]
    · intro a ha
      simp only [List.mem_cons, List.not_mem_nil, or_false, not_or] at ha
      rw [State.run_reg, hrun, Work.reg_missedBeat _ _ ha.1 ha.2, State.work_reg]
    · rw [hrun, Work.missedBeat_wr, State.work_wr]
  case lost =>
    intro s hup hjudged hsecond
    have hrun : heartbeatMissed s.work = s.work.missedBeat.linkLost :=
      (heartbeatMissed_judges s.work hup hjudged).trans (if_pos (by rw [show s.work.pair.missed = s.dev.pair.missed from rfl]; omega))
    obtain ⟨hregs, hwr⟩ := s.work.missedBeat.linkLost_same
    have hreg : ∀ a, s.work.missedBeat.linkLost.reg a = s.work.missedBeat.linkDown.reg a := fun a => by unfold Work.reg; rw [hregs]
    have hget : ∀ g : Fld, s.work.missedBeat.linkLost.get g = s.work.missedBeat.linkDown.get g := fun g => by unfold Work.get; rw [hreg]
    have hleads : s.work.missedBeat.lead = s.work.lead := s.work.flag_missedBeat F.PAIR_STAT_LEAD (by decide)
    have hactive : s.work.missedBeat.activeMask = s.work.activeMask := s.work.get_missedBeat F.PAIR_STAT_ACTIVE (by decide)
    have hmask : s.work.missedBeat.pairMask = s.work.pairMask := by
      unfold Work.pairMask
      rw [Work.flag_missedBeat _ _ (by decide), Work.get_missedBeat _ _ (by decide)]
    refine ⟨_, rfl, ?_, ?_, ?_, fun hlead => ?_, fun hlead => ?_, fun a ha => ?_,
      s.sameMemButNext_devRing _ _ _ ((congrArg Work.wr hrun).trans (hwr.trans ((Work.dropReady_wr _).trans (Work.pairEntry_wr ..)))) ?_ ?_⟩
    · rw [State.run_flag, hrun]
      unfold Work.flag
      rw [hget]
      exact Work.linkDown_link _
    · rw [State.run_flag, hrun]
      unfold Work.flag
      rw [hget]
      exact Work.linkDown_lost _
    · rw [State.run_get, hrun, hget, Work.linkDown_ready]
    · rw [State.run_dev, hrun, Work.toDev_pair, Work.linkLost_eq, if_pos (hleads.trans hlead), Work.modPair_pair, Work.linkDown_pair,
        Work.missedBeat_pair, hmask, hactive]
      rfl
    · rw [State.run_dev, hrun, Work.toDev_pair, Work.linkLost_eq, hleads, hlead, if_neg Bool.false_ne_true, Work.modPair_pair,
        Work.linkDown_pair, Work.missedBeat_pair, hlead, hactive]
      rfl
    · simp only [List.mem_cons, not_or] at ha
      obtain ⟨hstat, herr, hcnt, hring⟩ := ha
      rw [State.run_reg, hrun, hreg, Work.reg_linkDown _ _ hstat herr hring, Work.reg_missedBeat _ _ herr hcnt, State.work_reg]
    · rw [Work.modPair_wr, Work.put_wr, Work.put_wr, Work.missedBeat_wr, State.work_wr]
    · rw [Work.modPair_dring, Work.put_dring, Work.put_dring, Work.missedBeat_dring]
      rfl

end Sys2Proof.Machine
end

section
/-! PROOF SUPPORT. Pin engines: what a step of one engine leaves of another, and what an engine started, stopped or restarted
holds. -/

namespace Sys2Proof.Machine

/-! ### Fields of one bank -/

/-- Fields of registers of one stride that share no bit are apart in each of their copies. -/
theorem Work.get_put_bank (w : Work) (f g : Fld) (v n k : Nat) (h : fieldsApart f g = true ∧ f.stride = g.stride) :
    (w.put f v n k).get g n k = w.get g n k := by
  obtain ⟨hapart, hstride⟩ := h
  by_cases hbase : f.base = g.base
  · simp only [fieldsApart, hbase, ne_eq, not_true_eq_false, decide_false, Bool.false_or, Bool.and_eq_true, Bool.or_eq_true,
      decide_eq_true_eq] at hapart
    obtain ⟨⟨hf, hg⟩, hbits⟩ := hapart
    exact w.get_put_bits f g v n k n k hf hg (by omega)
  · refine w.get_put_addr f g v n k n k ?_
    unfold Fld.addr
    rw [hstride]
    omega

/-- The fields of PSQ_STAT that starts, stops and loop pairs set. -/
def statFields : List Fld := [F.PSQ_STAT_RUNNING, F.PSQ_STAT_PENDING, F.PSQ_STAT_LOOP_PEND]

/-- The registers that a write of PSQ_CTL may change. -/
def engineRegs (ch : Nat) : List Nat := R.PSQ_CTL.addr ch 0 :: ((List.range 4).map (psqRegs ch)).flatten

/-- The fields that show an engine in its own registers. -/
def shownFields : List Fld :=
  [F.PSQ_STATE_PARTIAL, F.PSQ_STATE_STEPS_LEFT, F.PSQ_STATE_FLAGS, F.PSQ_STATE_GHELD, F.PSQ_STATE_SREM, F.PSQ_GTR_GTR, F.PSQ_SPR_SPR,
    F.PSQ_CTR_CTR, F.PSQ_FSTAT_TX_LEVEL, F.PSQ_FSTAT_RX_LEVEL, F.PSQ_FSTAT_RX_SEQ, F.PSQ_RX_RX]

theorem shownFields_stride : ∀ g ∈ shownFields, g.stride = 64 := by decide

section
variable (ch : Fin 8) (e j : Fin 4)

theorem shownFields_addr : ∀ g ∈ shownFields, g.addr ch e ∈ (psqRegs ch e).tail := by decide +revert +kernel

theorem psqRegs_apart (h : e ≠ j) : ∀ a ∈ (psqRegs ch e).tail, a ∉ psqRegs ch j := by decide +revert +kernel

theorem psqCtl_notMem : R.PSQ_CTL.addr ch 0 ∉ psqRegs ch e := by decide +revert +kernel

theorem psqStat_notMem : R.PSQ_STAT.addr ch 0 ∉ (psqRegs ch e).tail := by decide +revert +kernel

theorem psqRegs_engineRegs : ∀ a ∈ psqRegs ch e, a ∈ engineRegs ch := fun _ ha =>
  List.mem_cons_of_mem _ (List.mem_flatten.mpr ⟨psqRegs ch e, List.mem_map.mpr ⟨e, List.mem_range.mpr e.isLt, rfl⟩, ha⟩)

theorem statFields_apart : ∀ f ∈ statFields, ∀ g ∈ statFields, f = g ∨ fieldsApart f g = true := by decide

theorem statFields_shape : ∀ f ∈ statFields, f.base = R.PSQ_STAT.base ∧ f.stride = 4 ∧ f.lo ≤ f.hi ∧ f.hi - f.lo + 1 = 4 ∧
    fieldsApart F.PSQ_STAT_STALLED f = true ∧ fieldsApart F.PSQ_STAT_FROZEN f = true := by decide

theorem statFields_addr (f : Fld) (h : f ∈ statFields) (n : Nat) : f.addr n 0 = R.PSQ_STAT.addr n 0 := by
  obtain ⟨hbase, -⟩ := statFields_shape f h
  unfold Fld.addr
  rw [hbase, Nat.mul_zero, Nat.mul_zero]

end

section
variable (w : Work) (ch : Fin 8) (e : Fin 4)

/-- A bit of PSQ_STAT set. -/
theorem Work.statBit_put (f : Fld) (hf : f ∈ statFields) (j : Fin 4) (b : Bool) :
    bitOf ((w.put f (setBit (w.get f ch) j b) ch).get f ch) e = if e = j then b else bitOf (w.get f ch) e := by
  obtain ⟨-, -, hle, hwidth, -⟩ := statFields_shape f hf
  rw [Work.get_put_same _ _ _ _ _ hle, hwidth, bitOf_mod _ _ _ e.isLt]
  split
  case isTrue h =>
    subst h
    exact bitOf_setBit_same ..
  case isFalse h => exact bitOf_setBit_ne _ _ _ _ (fun h' => h (Fin.ext h'.symm))

/-- A field of PSQ_STAT that shows no engine's part is as it was when an engine is shown. -/
theorem Work.get_showEng_stat (f : Fld) (hf : f ∈ statFields) : (w.showEng ch e).get f ch = w.get f ch := by
  obtain ⟨-, -, -, -, hstalled, hfrozen⟩ := statFields_shape f hf
  have hother : ∀ (v : Work) (g : Fld) (x : Nat), g ∈ shownFields → (v.put g x ch e).get f ch = v.get f ch := by
    intro v g x hg
    refine v.get_put_addr g f x ch e ch 0 fun h => psqStat_notMem ch e ?_
    rw [← statFields_addr f hf, h]
    exact shownFields_addr ch e g hg
  unfold Work.showEng
  simp only [Work.putFlag_eq]
  simp (disch := decide) only [hother]
  rw [Work.get_put_apart _ _ _ _ _ hfrozen, Work.get_put_apart _ _ _ _ _ hstalled]

@[simp] theorem Work.get_setEng_stat (x : Engine) (f : Fld) (hf : f ∈ statFields) : (w.setEng ch e x).get f ch = w.get f ch := by
  unfold Work.setEng
  rw [Work.get_showEng_stat _ _ _ f hf, Work.get_modChan]

/-- A field that shows nothing of an engine, in the engine's own registers. -/
theorem Work.get_setEng_own (x : Engine) (f : Fld) (hf : f.stride = 64)
    (h : ∀ g ∈ F.PSQ_STAT_STALLED :: F.PSQ_STAT_FROZEN :: shownFields, fieldsApart g f = true) (hstat : f.addr ch e ≠ R.PSQ_STAT.addr ch 0) :
    (w.setEng ch e x).get f ch e = w.get f ch e := by
  have hother : ∀ (v : Work) (g : Fld) (x : Nat), g ∈ shownFields → (v.put g x ch e).get f ch e = v.get f ch e := fun v g x hg =>
    v.get_put_bank g f x ch e ⟨h g (by simp [hg]), (shownFields_stride g hg).trans hf.symm⟩
  unfold Work.setEng Work.showEng
  simp only [Work.putFlag_eq]
  simp (disch := decide) only [hother]
  rw [Work.get_put_addr _ F.PSQ_STAT_FROZEN f _ _ _ _ _ hstat, Work.get_put_addr _ F.PSQ_STAT_STALLED f _ _ _ _ _ hstat, Work.get_modChan]

theorem Work.eng_setEng_same (x : Engine) (h : e < (w.chan ch).psq.length) : (w.setEng ch e x).eng ch e = x := by
  unfold Work.eng
  rw [Work.chan_setEng_fin]
  simp [Chan.withEng, List.getD, h]

theorem Work.eng_setEng_ne (x : Engine) (j : Fin 4) (h : e ≠ j) : (w.setEng ch j x).eng ch e = w.eng ch e := by
  unfold Work.eng
  rw [Work.chan_setEng_fin]
  simp [Chan.withEng, List.getD, List.getElem?_set_ne (fun h' => h (Fin.ext h'.symm) : (j : Nat) ≠ e)]

end

/-! ### The engines of one channel, and one engine among them -/

/-- Beside the pin engines of a channel, a step leaves the registers and the memory; the channel has as many engines. -/
structure Work.EnginesOnly (ch : Fin 8) (w v : Work) : Prop where
  reg : ∀ a, a ∉ engineRegs ch → v.reg a = w.reg a
  wr : v.wr = w.wr
  len : (v.chan ch).psq.length = (w.chan ch).psq.length

/-- A step leaves engine `e`: what it holds, its registers, and its bits of PSQ_STAT. -/
structure Work.EngineApart (ch : Fin 8) (e : Fin 4) (w v : Work) : Prop extends w.EnginesOnly ch v where
  own : ∀ a ∈ (psqRegs ch e).tail, v.reg a = w.reg a
  eng : v.eng ch e = w.eng ch e
  stat : ∀ f ∈ statFields, bitOf (v.get f ch) e = bitOf (w.get f ch) e

namespace Work.EnginesOnly

variable {ch : Fin 8} {w : Work}

theorem refl (w : Work) : w.EnginesOnly ch w := ⟨fun _ _ => rfl, rfl, rfl⟩

theorem trans {u v : Work} (h : w.EnginesOnly ch u) (h' : u.EnginesOnly ch v) : w.EnginesOnly ch v :=
  ⟨fun a ha => (h'.reg a ha).trans (h.reg a ha), h'.wr.trans h.wr, h'.len.trans h.len⟩

variable (w)

theorem put (f : Fld) (x k : Nat) (j : Fin 4) (h : f.addr ch k ∈ psqRegs ch j) : w.EnginesOnly ch (w.put f x ch k) :=
  ⟨fun a ha => w.reg_put_of_notMem f x ch k a _ ha (psqRegs_engineRegs ch j _ h), rfl, by rw [Work.chan_put]⟩

theorem setEng (j : Fin 4) (x : Engine) : w.EnginesOnly ch (w.setEng ch j x) where
  reg a ha := w.reg_setEng ch j x a fun h => ha (psqRegs_engineRegs ch j a h)
  wr := w.wr_setEng ch j x
  len := by
    rw [Work.chan_setEng_fin]
    exact List.length_set

variable {w}

/-- A field of no engine's registers. -/
theorem get {v : Work} (h : w.EnginesOnly ch v) (f : Fld) (n k : Nat) (hf : f.addr n k ∉ engineRegs ch) :
    v.get f n k = w.get f n k := by
  unfold Work.get
  rw [h.reg _ hf]

end Work.EnginesOnly

namespace Work.EngineApart

variable {ch : Fin 8} {e : Fin 4} {w : Work}

theorem refl (w : Work) : w.EngineApart ch e w := ⟨.refl w, fun _ _ => rfl, rfl, fun _ _ => rfl⟩

theorem trans {u v : Work} (h : w.EngineApart ch e u) (h' : u.EngineApart ch e v) : w.EngineApart ch e v :=
  ⟨h.toEnginesOnly.trans h'.toEnginesOnly, fun a ha => (h'.own a ha).trans (h.own a ha), h'.eng.trans h.eng,
    fun f hf => (h'.stat f hf).trans (h.stat f hf)⟩

/-- A field of the engine's own registers. -/
theorem get {v : Work} (h : w.EngineApart ch e v) (f : Fld) (hf : f.addr ch e ∈ (psqRegs ch e).tail) : v.get f ch e = w.get f ch e := by
  unfold Work.get
  rw [h.own _ hf]

theorem foldl (l : List Nat) (f : Work → Nat → Work) (h : ∀ (v : Work), ∀ i ∈ l, v.EngineApart ch e (f v i)) (w : Work) :
    w.EngineApart ch e (l.foldl f w) :=
  List.foldlRecOn (motive := fun v => w.EngineApart ch e v) l f (refl w) fun v hv i hi => hv.trans (h v i hi)

section
variable (w) {j : Fin 4} (hj : e ≠ j)
include hj

theorem statBit (f : Fld) (hf : f ∈ statFields) (b : Bool) : w.EngineApart ch e (w.put f (setBit (w.get f ch) j b) ch) where
  toEnginesOnly := .put w f _ 0 j (by rw [statFields_addr f hf]; exact List.mem_cons_self)
  own a ha := w.reg_put_ne f _ ch 0 a fun h => psqStat_notMem ch e (by rwa [← statFields_addr f hf, ← h])
  eng := by
    unfold Work.eng
    rw [Work.chan_put]
  stat g hg := by
    obtain rfl | hapart := statFields_apart f hf g hg
    · rw [Work.statBit_put _ _ _ _ hf, if_neg hj]
    · rw [Work.get_put_apart _ _ _ _ _ hapart]

theorem put (f : Fld) (x : Nat) (h : f.addr ch j ∈ (psqRegs ch j).tail) : w.EngineApart ch e (w.put f x ch j) where
  toEnginesOnly := .put w f x j j (List.mem_of_mem_tail h)
  own a ha := w.reg_put_ne f x ch j a fun h' => psqRegs_apart ch e j hj a ha (h' ▸ List.mem_of_mem_tail h)
  eng := by
    unfold Work.eng
    rw [Work.chan_put]
  stat g hg := by
    rw [w.get_put_addr f g x ch j ch 0 fun h' => psqStat_notMem ch j (by rw [← statFields_addr g hg, h']; exact h)]

theorem setEng (x : Engine) : w.EngineApart ch e (w.setEng ch j x) where
  toEnginesOnly := .setEng w j x
  own a ha := w.reg_setEng ch j x a (psqRegs_apart ch e j hj a ha)
  eng := w.eng_setEng_ne ch e x j hj
  stat g hg := by rw [w.get_setEng_stat ch j x g hg]

theorem modEng (g : Engine → Engine) : w.EngineApart ch e (w.modEng ch j g) := setEng w hj _

theorem startEng : w.EngineApart ch e (w.startEng ch j) :=
  ((statBit w hj F.PSQ_STAT_RUNNING (by decide) true).trans (statBit _ hj F.PSQ_STAT_PENDING (by decide) false)).trans (modEng _ hj _)

theorem adoptLoop : w.EngineApart ch e (w.adoptLoop ch j) :=
  ((put w hj F.PSQ_LOOP_HEAD_ACT _ (by simp [psqRegs, Fld.addr, F.PSQ_LOOP_HEAD_ACT, R.PSQ_LOOP])).trans
    (put _ hj F.PSQ_LOOP_TAIL_ACT _ (by simp [psqRegs, Fld.addr, F.PSQ_LOOP_TAIL_ACT, R.PSQ_LOOP]))).trans
    (statBit _ hj F.PSQ_STAT_LOOP_PEND (by decide) false)

theorem stopEng : w.EngineApart ch e (w.stopEng ch j) := by
  unfold Work.stopEng
  dsimp only
  refine EngineApart.trans ?_ (modEng _ hj _)
  have hstopped := (statBit (ch := ch) w hj F.PSQ_STAT_RUNNING (by decide) false).trans (statBit _ hj F.PSQ_STAT_PENDING (by decide) false)
  split
  · exact hstopped.trans (adoptLoop _ hj)
  · exact hstopped

theorem dropShift : w.EngineApart ch e (w.dropShift ch j) := by
  unfold Work.dropShift
  split
  · exact modEng w hj _
  · exact (put w hj F.PSQ_FSTAT_SHIFT_LOST 1 (by simp [psqRegs, Fld.addr, F.PSQ_FSTAT_SHIFT_LOST, R.PSQ_FSTAT])).trans (modEng _ hj _)
  · exact refl w

theorem restartEng : w.EngineApart ch e (w.restartEng ch j) :=
  (((dropShift w hj).trans (modEng _ hj _)).trans
    (put _ hj F.PSQ_PASSES_PASSES 0 (by simp [psqRegs, Fld.addr, F.PSQ_PASSES_PASSES, R.PSQ_PASSES]))).trans
    (put _ hj F.PSQ_STATE_PC _ (by simp [psqRegs, Fld.addr, F.PSQ_STATE_PC, R.PSQ_STATE]))

end

end Work.EngineApart

end Sys2Proof.Machine
end

section
/-! PROOF. Starts, stops and restarts of pin engines by PSQ_CTL (R285, R287, R288). -/

namespace Sys2Proof.Machine

section
variable (w : Work) (ch : Fin 8) (e : Fin 4)

/-! ### An engine's own step -/

/-- A field of an engine's bank is none of PSQ_STAT. -/
theorem bank_ne_stat (f : Fld) (h : f.stride = 64 ∧ 0x40109040 ≤ f.base) : f.addr ch e ≠ R.PSQ_STAT.addr ch 0 := by
  have hstat : R.PSQ_STAT.base = 0x40109004 := rfl
  unfold Fld.addr
  rw [hstat, h.1]
  omega

theorem Work.get_statBit_bank (f g : Fld) (hf : f ∈ statFields) (h : g.stride = 64 ∧ 0x40109040 ≤ g.base) (x : Nat) :
    (w.put f x ch).get g ch e = w.get g ch e :=
  w.get_put_addr f g x ch 0 ch e (by rw [statFields_addr f hf]; exact bank_ne_stat ch e g h)

theorem Work.eng_put (f : Fld) (x n k : Nat) : (w.put f x n k).eng ch e = w.eng ch e := by
  unfold Work.eng
  rw [Work.chan_put]

/-- The engine of a start, its clock pin driven (PSQ_SHCFG). -/
def Work.started (w : Work) (n e : Nat) : Engine :=
  if w.flag F.PSQ_SHCFG_CLK_EN n e then
    { w.eng n e with
      dir := setBit (w.eng n e).dir (w.get F.PSQ_SHCFG_CLK_PIN n e) true
      out := setBit (w.eng n e).out (w.get F.PSQ_SHCFG_CLK_PIN n e) (w.flag F.PSQ_SHCFG_CLK_POL n e) }
  else w.eng n e

/-- The working state with two bits of PSQ_STAT set for an engine: RUNNING and PENDING. -/
def Work.runBits (w : Work) (n e : Nat) (run pending : Bool) : Work :=
  let v := w.put F.PSQ_STAT_RUNNING (setBit (w.get F.PSQ_STAT_RUNNING n) e run) n
  v.put F.PSQ_STAT_PENDING (setBit (v.get F.PSQ_STAT_PENDING n) e pending) n

theorem Work.get_runBits_bank (run pending : Bool) (g : Fld) (h : g.stride = 64 ∧ 0x40109040 ≤ g.base) :
    (w.runBits ch e run pending).get g ch e = w.get g ch e := by
  unfold Work.runBits
  dsimp only
  rw [Work.get_statBit_bank _ _ _ _ _ (by decide) h, Work.get_statBit_bank _ _ _ _ _ (by decide) h]

theorem Work.flag_runBits_bank (run pending : Bool) (g : Fld) (h : g.stride = 64 ∧ 0x40109040 ≤ g.base) :
    (w.runBits ch e run pending).flag g ch e = w.flag g ch e := by
  unfold Work.flag
  rw [Work.get_runBits_bank _ _ _ _ _ g h]

theorem Work.eng_runBits (run pending : Bool) : (w.runBits ch e run pending).eng ch e = w.eng ch e := by
  unfold Work.runBits
  dsimp only
  rw [Work.eng_put, Work.eng_put]

/-- What PSQ_STAT shows of the engine then. -/
theorem Work.runBits_stat (run pending : Bool) :
    bitOf ((w.runBits ch e run pending).get F.PSQ_STAT_RUNNING ch) e = run ∧
      bitOf ((w.runBits ch e run pending).get F.PSQ_STAT_PENDING ch) e = pending ∧
      (w.runBits ch e run pending).get F.PSQ_STAT_LOOP_PEND ch = w.get F.PSQ_STAT_LOOP_PEND ch := by
  unfold Work.runBits
  dsimp only
  refine ⟨?_, ?_, ?_⟩
  · rw [Work.get_put_apart _ _ _ _ _ (by decide), Work.statBit_put _ _ _ _ (by decide), if_pos rfl]
  · rw [Work.statBit_put _ _ _ _ (by decide), if_pos rfl]
  · rw [Work.get_put_apart _ _ _ _ _ (by decide), Work.get_put_apart _ _ _ _ _ (by decide)]

theorem Work.EnginesOnly.runBits (run pending : Bool) : w.EnginesOnly ch (w.runBits ch e run pending) :=
  (EnginesOnly.put w F.PSQ_STAT_RUNNING _ 0 e List.mem_cons_self).trans (.put _ F.PSQ_STAT_PENDING _ 0 e List.mem_cons_self)

theorem Work.startEng_eq : w.startEng ch e = (w.runBits ch e true false).setEng ch e (w.started ch e) := by
  have hengine : (if (w.runBits ch e true false).flag F.PSQ_SHCFG_CLK_EN ch e then
      { (w.runBits ch e true false).eng ch e with
        dir := setBit ((w.runBits ch e true false).eng ch e).dir ((w.runBits ch e true false).get F.PSQ_SHCFG_CLK_PIN ch e) true
        out := setBit ((w.runBits ch e true false).eng ch e).out ((w.runBits ch e true false).get F.PSQ_SHCFG_CLK_PIN ch e)
          ((w.runBits ch e true false).flag F.PSQ_SHCFG_CLK_POL ch e) }
      else (w.runBits ch e true false).eng ch e) = w.started ch e := by
    simp (disch := decide) only [Work.eng_runBits, Work.get_runBits_bank, Work.flag_runBits_bank, Work.started]
  rw [← hengine]
  rfl

/-- Where an engine stands: its PC and its passes. -/
def placeFields : List Fld := [F.PSQ_STATE_PC, F.PSQ_PASSES_PASSES]

theorem placeFields_shape : ∀ f ∈ placeFields, (f.stride = 64 ∧ 0x40109040 ≤ f.base) ∧
    (∀ g ∈ F.PSQ_STAT_STALLED :: F.PSQ_STAT_FROZEN :: shownFields, fieldsApart g f = true) ∧
    (fieldsApart F.PSQ_LOOP_HEAD_ACT f = true ∧ F.PSQ_LOOP_HEAD_ACT.stride = f.stride) ∧
    (fieldsApart F.PSQ_LOOP_TAIL_ACT f = true ∧ F.PSQ_LOOP_TAIL_ACT.stride = f.stride) := by decide

/-- That is as it was when an engine is set. -/
theorem Work.get_setEng_place (x : Engine) (f : Fld) (hf : f ∈ placeFields) : (w.setEng ch e x).get f ch e = w.get f ch e := by
  obtain ⟨hbank, hshown, -, -⟩ := placeFields_shape f hf
  exact w.get_setEng_own ch e x f hbank.1 hshown (bank_ne_stat ch e f hbank)

/-- A started engine (R285). -/
theorem Work.startEng_shows (h : e < (w.chan ch).psq.length) :
    bitOf ((w.startEng ch e).get F.PSQ_STAT_RUNNING ch) e = true ∧ bitOf ((w.startEng ch e).get F.PSQ_STAT_PENDING ch) e = false ∧
      (w.startEng ch e).eng ch e = w.started ch e ∧ (w.startEng ch e).get F.PSQ_STATE_PC ch e = w.get F.PSQ_STATE_PC ch e ∧
      w.EnginesOnly ch (w.startEng ch e) := by
  obtain ⟨hrun, hpending, -⟩ := w.runBits_stat ch e true false
  have honly := Work.EnginesOnly.runBits w ch e true false
  rw [Work.startEng_eq, Work.get_setEng_stat _ _ _ _ _ (by decide), Work.get_setEng_stat _ _ _ _ _ (by decide),
    Work.get_setEng_place _ _ _ _ _ (by decide), Work.get_runBits_bank _ _ _ _ _ _ (by decide)]
  exact ⟨hrun, hpending, Work.eng_setEng_same _ _ _ _ (by rw [honly.len]; exact h), rfl, honly.trans (.setEng _ e _)⟩

/-- The loop pair of an engine adopted (R288). -/
theorem Work.adoptLoop_shows :
    bitOf ((w.adoptLoop ch e).get F.PSQ_STAT_LOOP_PEND ch) e = false ∧
      (w.adoptLoop ch e).get F.PSQ_STAT_RUNNING ch = w.get F.PSQ_STAT_RUNNING ch ∧
      (w.adoptLoop ch e).get F.PSQ_STAT_PENDING ch = w.get F.PSQ_STAT_PENDING ch ∧
      (∀ f ∈ placeFields, (w.adoptLoop ch e).get f ch e = w.get f ch e) ∧ (w.adoptLoop ch e).eng ch e = w.eng ch e ∧
      w.EnginesOnly ch (w.adoptLoop ch e) := by
  have hloop : ∀ f g : Fld, g ∈ statFields → (f.stride = 64 ∧ 0x40109040 ≤ f.base) → ∀ (v : Work) (x : Nat), (v.put f x ch e).get g ch = v.get g ch :=
    fun f g hg hf v x => v.get_put_addr f g x ch e ch 0 (by rw [statFields_addr g hg]; exact (bank_ne_stat ch e f hf).symm)
  have honly : ∀ (v : Work) (f : Fld) (x : Nat), f.addr ch e = R.PSQ_LOOP.addr ch e → v.EnginesOnly ch (v.put f x ch e) := fun v f x hf =>
    .put v f x e e (by rw [hf]; exact List.mem_cons_of_mem _ List.mem_cons_self)
  unfold Work.adoptLoop
  dsimp only
  refine ⟨?_, ?_, ?_, fun f hf => ?_, ?_, ((honly w F.PSQ_LOOP_HEAD_ACT _ rfl).trans (honly _ F.PSQ_LOOP_TAIL_ACT _ rfl)).trans
    (.put _ F.PSQ_STAT_LOOP_PEND _ 0 e List.mem_cons_self)⟩
  · rw [Work.statBit_put _ _ _ _ (by decide), if_pos rfl]
  · rw [Work.get_put_apart _ _ _ _ _ (by decide), hloop _ _ (by decide) (by decide), hloop _ _ (by decide) (by decide)]
  · rw [Work.get_put_apart _ _ _ _ _ (by decide), hloop _ _ (by decide) (by decide), hloop _ _ (by decide) (by decide)]
  · obtain ⟨hbank, -, hhead, htail⟩ := placeFields_shape f hf
    rw [Work.get_statBit_bank _ _ _ _ _ (by decide) hbank, Work.get_put_bank _ _ _ _ _ _ htail, Work.get_put_bank _ _ _ _ _ _ hhead]
  · rw [Work.eng_put, Work.eng_put, Work.eng_put]

/-- A stopped engine (R285, R288). -/
theorem Work.stopEng_shows (h : e < (w.chan ch).psq.length) :
    bitOf ((w.stopEng ch e).get F.PSQ_STAT_RUNNING ch) e = false ∧ bitOf ((w.stopEng ch e).get F.PSQ_STAT_PENDING ch) e = false ∧
      bitOf ((w.stopEng ch e).get F.PSQ_STAT_LOOP_PEND ch) e = false ∧ (w.stopEng ch e).eng ch e = (w.eng ch e).pause ∧
      (∀ f ∈ placeFields, (w.stopEng ch e).get f ch e = w.get f ch e) ∧ w.EnginesOnly ch (w.stopEng ch e) := by
  have hend : ∀ v : Work, v.EnginesOnly ch (v.modEng ch e Engine.pause) := fun v => .setEng v e _
  obtain ⟨hrun, hpending, hloop⟩ := w.runBits_stat ch e false false
  have honly := Work.EnginesOnly.runBits w ch e false false
  have hstop : w.stopEng ch e = (if bitOf ((w.runBits ch e false false).get F.PSQ_STAT_LOOP_PEND ch) e then
      (w.runBits ch e false false).adoptLoop ch e else w.runBits ch e false false).modEng ch e Engine.pause := rfl
  have heng := w.eng_runBits ch e false false
  have hplace : ∀ f ∈ placeFields, (w.runBits ch e false false).get f ch e = w.get f ch e := fun f hf =>
    w.get_runBits_bank ch e false false f (placeFields_shape f hf).1
  have hlen : e < ((w.runBits ch e false false).chan ch).psq.length := by rwa [honly.len]
  generalize w.runBits ch e false false = v at *
  rw [hstop]
  unfold Work.modEng
  rw [Work.get_setEng_stat _ _ _ _ _ (by decide), Work.get_setEng_stat _ _ _ _ _ (by decide), Work.get_setEng_stat _ _ _ _ _ (by decide)]
  split
  case isTrue =>
    obtain ⟨hadopted, hrun', hpending', hplace', heng', honly'⟩ := v.adoptLoop_shows ch e
    rw [hrun', hpending', heng', Work.eng_setEng_same _ _ _ _ (by rwa [honly'.len]), heng]
    exact ⟨hrun, hpending, hadopted, rfl,
      fun f hf => by rw [Work.get_setEng_place _ _ _ _ f hf, hplace' f hf, hplace f hf], (honly.trans honly').trans (.setEng _ e _)⟩
  case isFalse hnone =>
    rw [Work.eng_setEng_same _ _ _ _ hlen, heng]
    exact ⟨hrun, hpending, Bool.eq_false_iff.mpr hnone, rfl, fun f hf => by rw [Work.get_setEng_place _ _ _ _ f hf, hplace f hf], honly.trans (.setEng _ e _)⟩

/-- What an instruction left behind keeps of an engine: its FIFOs (R286, R287). -/
theorem Work.dropShift_shows (h : e < (w.chan ch).psq.length) :
    ((w.dropShift ch e).eng ch e).rx = (w.eng ch e).rx ∧ ((w.dropShift ch e).eng ch e).rxSeq = (w.eng ch e).rxSeq ∧
      (∀ f ∈ statFields, (w.dropShift ch e).get f ch = w.get f ch) ∧
      (w.dropShift ch e).get F.PSQ_LOOP_HEAD_ACT ch e = w.get F.PSQ_LOOP_HEAD_ACT ch e ∧ w.EnginesOnly ch (w.dropShift ch e) := by
  have hhead : ∀ (v : Work) (x : Engine), (v.setEng ch e x).get F.PSQ_LOOP_HEAD_ACT ch e = v.get F.PSQ_LOOP_HEAD_ACT ch e := fun v x =>
    v.get_setEng_own ch e x F.PSQ_LOOP_HEAD_ACT rfl (by decide) (bank_ne_stat ch e _ (by decide))
  unfold Work.dropShift Work.modEng
  split
  · rw [Work.eng_setEng_same _ _ _ _ h, hhead]
    exact ⟨rfl, rfl, fun f hf => w.get_setEng_stat ch e _ f hf, rfl, .setEng w e _⟩
  · have hlost : w.EnginesOnly ch (w.put F.PSQ_FSTAT_SHIFT_LOST 1 ch e) := .put w _ 1 e e (by simp [psqRegs, Fld.addr, F.PSQ_FSTAT_SHIFT_LOST, R.PSQ_FSTAT])
    rw [Work.raise_eq, Work.eng_setEng_same _ _ _ _ (by rwa [hlost.len]), hhead, Work.eng_put, Work.get_put_bank _ _ _ _ _ _ (by decide)]
    refine ⟨rfl, rfl, fun f hf => ?_, rfl, hlost.trans (.setEng _ e _)⟩
    rw [Work.get_setEng_stat _ _ _ _ f hf]
    exact w.get_put_addr _ f 1 ch e ch 0 (by rw [statFields_addr f hf]; exact (bank_ne_stat ch e _ (by decide)).symm)
  · exact ⟨rfl, rfl, fun _ _ => rfl, rfl, .refl w⟩

/-- An engine with nothing in its FIFOs and nothing begun, whose next RX word is `seq` (R280, R287). -/
structure Engine.Emptied (x : Engine) (seq : Nat) : Prop where
  tx : x.tx = []
  rx : x.rx = []
  ctr : x.ctr = 0
  flags : x.flags = 0
  doing : x.doing = .idle
  rxSeq : x.rxSeq = seq

/-- A restarted engine (R287). -/
theorem Work.restartEng_shows (h : e < (w.chan ch).psq.length) :
    ((w.restartEng ch e).eng ch e).Emptied (((w.eng ch e).rxSeq + (w.eng ch e).rx.length) % 256) ∧
      (∀ f ∈ statFields, (w.restartEng ch e).get f ch = w.get f ch) ∧
      (w.restartEng ch e).get F.PSQ_STATE_PC ch e = w.get F.PSQ_LOOP_HEAD_ACT ch e ∧ (w.restartEng ch e).get F.PSQ_PASSES_PASSES ch e = 0 ∧
      w.EnginesOnly ch (w.restartEng ch e) := by
  obtain ⟨hrx, hseq, hstat, hhead, honly⟩ := w.dropShift_shows ch e h
  have hlen : e < ((w.dropShift ch e).chan ch).psq.length := by rwa [honly.len]
  unfold Work.restartEng Work.modEng
  generalize w.dropShift ch e = v at *
  have hbank : ∀ (u : Work) (g f : Fld) (x : Nat), g.stride = 64 ∧ 0x40109040 ≤ g.base → f ∈ statFields → (u.put g x ch e).get f ch = u.get f ch :=
    fun u g f x hg hf => u.get_put_addr g f x ch e ch 0 (by rw [statFields_addr f hf]; exact (bank_ne_stat ch e g hg).symm)
  have hwidth : F.PSQ_LOOP_HEAD_ACT.hi - F.PSQ_LOOP_HEAD_ACT.lo + 1 = F.PSQ_STATE_PC.hi - F.PSQ_STATE_PC.lo + 1 := rfl
  dsimp only
  refine ⟨?_, fun f hf => ?_, ?_, ?_, ?_⟩
  · rw [Work.eng_put, Work.eng_put, Work.eng_setEng_same _ _ _ _ hlen, hrx, hseq]
    exact ⟨rfl, rfl, rfl, rfl, rfl, rfl⟩
  · rw [hbank _ _ _ _ (by decide) hf, hbank _ _ _ _ (by decide) hf, Work.get_setEng_stat _ _ _ _ f hf, hstat f hf]
  · rw [Work.get_put_same _ _ _ _ _ (by decide),
      Work.get_setEng_own _ _ _ _ F.PSQ_LOOP_HEAD_ACT rfl (by decide) (bank_ne_stat ch e _ (by decide)), hhead, ← hwidth]
    exact Nat.mod_eq_of_lt (w.get_lt F.PSQ_LOOP_HEAD_ACT ch e)
  · rw [Work.get_put_bank _ _ _ _ _ _ (by decide), Work.get_put_same _ _ _ _ _ (by decide)]
    rfl
  · refine ((honly.trans (.setEng v e _)).trans (.put _ F.PSQ_PASSES_PASSES 0 e e ?_)).trans (.put _ F.PSQ_STATE_PC _ e e ?_)
    · simp [psqRegs, Fld.addr, F.PSQ_PASSES_PASSES, R.PSQ_PASSES]
    · simp [psqRegs, Fld.addr, F.PSQ_STATE_PC, R.PSQ_STATE]

/-! ### PSQ_CTL written -/

/-- A write of RUN and BOUNDARY, for one engine. -/
def Work.engineRun (run boundary n : Nat) (w : Work) (e : Nat) : Work :=
  if !bitOf run e then w.stopEng n e
  else if bitOf (w.get F.PSQ_STAT_RUNNING n) e then w
  else if bitOf boundary e then w.put F.PSQ_STAT_PENDING (setBit (w.get F.PSQ_STAT_PENDING n) e true) n
  else w.startEng n e

theorem Work.psqRun_eq (run boundary : Nat) : w.psqRun ch run boundary = (List.range 4).foldl (Work.engineRun run boundary ch) w := by rfl

/-- A write of RESTART, for one engine of its mask. -/
def Work.engineRestart (n : Nat) (w : Work) (e : Nat) : Work :=
  if bitOf (w.get F.PSQ_STAT_RUNNING n) e then w else w.restartEng n e

theorem Work.psqRestart_eq (restart : Nat) : w.psqRestart ch restart = (maskList restart 4).foldl (Work.engineRestart ch) w := by rfl

section
variable {e}

theorem Work.EngineApart.engineRun (run boundary : Nat) (j : Nat) (hj : j < 4) (h : j ≠ e) : w.EngineApart ch e (w.engineRun run boundary ch j) := by
  have hne : e ≠ (⟨j, hj⟩ : Fin 4) := fun h' => h (by rw [h'])
  have hstop := EngineApart.stopEng (ch := ch) w hne
  have hwait := EngineApart.statBit (ch := ch) w hne F.PSQ_STAT_PENDING (by decide) true
  have hstart := EngineApart.startEng (ch := ch) w hne
  unfold Work.engineRun
  exact iteInduction (fun _ => hstop) fun _ => iteInduction (fun _ => .refl w) fun _ => iteInduction (fun _ => hwait) fun _ => hstart

theorem Work.EngineApart.engineRestart (j : Nat) (hj : j < 4) (h : j ≠ e) : w.EngineApart ch e (w.engineRestart ch j) := by
  have hne : e ≠ (⟨j, hj⟩ : Fin 4) := fun h' => h (by rw [h'])
  have hrestart := EngineApart.restartEng (ch := ch) w hne
  unfold Work.engineRestart
  exact iteInduction (fun _ => .refl w) fun _ => hrestart

end

/-- A pass over engines, one of them `e`: what comes before it and what comes after leaves it. -/
theorem Work.foldl_engine (l : List Nat) (hl : l.Nodup) (hlt : ∀ i ∈ l, i < 4) (he : e.val ∈ l) (f : Work → Nat → Work)
    (hf : ∀ (v : Work) (j : Nat), j < 4 → j ≠ e → v.EngineApart ch e (f v j)) :
    ∃ v, w.EngineApart ch e v ∧ (f v e).EngineApart ch e (l.foldl f w) := by
  obtain ⟨before, after, rfl⟩ := List.append_of_mem he
  obtain ⟨-, hafter, hbefore⟩ := List.nodup_append.mp hl
  have hnotAfter : e.val ∉ after := (List.nodup_cons.mp hafter).1
  refine ⟨before.foldl f w, .foldl before f (fun v i hi => hf v i (hlt i (List.mem_append_left _ hi)) ?_) w, ?_⟩
  · exact hbefore i hi e List.mem_cons_self
  · rw [List.foldl_append, List.foldl_cons]
    refine .foldl after f (fun v i hi => hf v i (hlt i (List.mem_append_right _ (List.mem_cons_of_mem _ hi))) ?_) _
    exact fun h => hnotAfter (h ▸ hi)

theorem Work.psqRun_at (run boundary : Nat) :
    ∃ v, w.EngineApart ch e v ∧ (v.engineRun run boundary ch e).EngineApart ch e (w.psqRun ch run boundary) :=
  w.foldl_engine ch e (List.range 4) List.nodup_range (fun _ => List.mem_range.mp) (List.mem_range.mpr e.isLt) _ fun v j hj h =>
    .engineRun v ch run boundary j hj h

theorem Work.psqRestart_at (restart : Nat) (h : bitOf restart e = true) :
    ∃ v, w.EngineApart ch e v ∧ (v.engineRestart ch e).EngineApart ch e (w.psqRestart ch restart) :=
  w.foldl_engine ch e (maskList restart 4) (List.nodup_range.filter _) (fun _ hi => ((mem_maskList ..).mp hi).1)
    ((mem_maskList ..).mpr ⟨e.isLt, h⟩) _ fun v j hj h => .engineRestart v ch j hj h

/-- An engine outside RESTART's mask. -/
theorem Work.psqRestart_apart (restart : Nat) (h : bitOf restart e = false) : w.EngineApart ch e (w.psqRestart ch restart) := by
  refine .foldl _ _ (fun v i hi => .engineRestart v ch i ((mem_maskList ..).mp hi).1 fun he => ?_) w
  have hbit := ((mem_maskList ..).mp hi).2
  rw [he, h] at hbit
  cases hbit

end

theorem rowAt_psqCtl (ch : Fin 8) : rowAt (R.PSQ_CTL.addr ch 0) = some (rowOf R.PSQ_CTL.base, 0) := by decide +revert +kernel

theorem isChanReg_psqCtl (ch : Fin 8) : isChanReg (R.PSQ_CTL.addr ch 0) = true := by decide +revert +kernel

theorem channelOf_psqCtl (ch : Fin 8) : channelOf (R.PSQ_CTL.addr ch 0) = ch := by decide +revert +kernel

theorem foldChannel_psqCtl (ch : Fin 8) : foldChannel (R.PSQ_CTL.addr ch 0) / 0x1000 = 0x40109 := by decide +revert +kernel

theorem sysMode_notMem (ch : Fin 8) : R.SYS_MODE.addr 0 0 ∉ engineRegs ch := by decide +revert +kernel

/-- The mode that decides which bits of a write act is told elsewhere. -/
theorem Work.EnginesOnly.expertOpen {ch : Fin 8} {w v : Work} (h : w.EnginesOnly ch v) (a : Nat) : v.expertOpen a = w.expertOpen a := by
  unfold Work.expertOpen Work.inTestMask Work.mode
  rw [h.get F.SYS_MODE_MODE 0 0 (sysMode_notMem ch), h.get F.SYS_MODE_TEST_MASK 0 0 (sysMode_notMem ch)]

/-- A register written, on every engine. -/
theorem Work.EngineApart.setCtl (w : Work) (ch : Fin 8) (e : Fin 4) (v : Nat) : w.EngineApart ch e (w.setReg (R.PSQ_CTL.addr ch 0) v) where
  reg a ha := w.reg_setReg_ne _ a v fun h => ha (h ▸ List.mem_cons_self)
  wr := rfl
  len := by rw [Work.chan_setReg]
  own a ha := w.reg_setReg_ne _ a v fun h => psqCtl_notMem ch e (h ▸ List.mem_of_mem_tail ha)
  eng := by
    unfold Work.eng
    rw [Work.chan_setReg]
  stat f hf := by
    have hne : f.addr ch 0 ≠ R.PSQ_CTL.addr ch 0 := by
      rw [statFields_addr f hf]
      exact fun h => psqCtl_notMem ch e (h ▸ List.mem_cons_self)
    unfold Work.get
    rw [w.reg_setReg_ne _ _ v hne]

/-- A restart of any engine stays with the engines. -/
theorem Work.EnginesOnly.psqRestart (w : Work) (ch : Fin 8) (restart : Nat) : w.EnginesOnly ch (w.psqRestart ch restart) := by
  have hother : ∀ j : Nat, ∃ e : Fin 4, j ≠ e := fun j => if h : j = 0 then ⟨1, by rw [h]; decide⟩ else ⟨0, h⟩
  refine List.foldlRecOn (motive := fun v => w.EnginesOnly ch v) _ _ (.refl w) fun v hv j hj => hv.trans ?_
  obtain ⟨e, he⟩ := hother j
  exact (EngineApart.engineRestart v ch j ((mem_maskList ..).mp hj).1 he).toEnginesOnly

/-- A write of PSQ_CTL restarts, and then starts and stops (R284 to R287). -/
theorem Work.putChan_psqCtl (w : Work) (ch : Fin 8) (v : Nat) (hopen : w.expertOpen (R.PSQ_CTL.addr ch 0) = true) :
    w.putChan (w.regW (rowOf R.PSQ_CTL.base) 0 (R.PSQ_CTL.addr ch 0) v) =
      ((w.setReg (R.PSQ_CTL.addr ch 0) (mergeWord (rowOf R.PSQ_CTL.base) (w.reg (R.PSQ_CTL.addr ch 0)) v)).psqRestart ch
        (bitsOf v 11 8)).psqRun ch (bitsOf v 3 0) (bitsOf v 7 4) := by
  have hbase : (rowOf R.PSQ_CTL.base).base = R.PSQ_CTL.base := by decide +kernel
  have hfold := foldChannel_psqCtl ch
  have hch := channelOf_psqCtl ch
  have hset : ∀ x, ((w.setReg (R.PSQ_CTL.addr ch 0) x).psqRestart ch (bitsOf v 11 8)).expertOpen (R.PSQ_CTL.addr ch 0) = true := fun x =>
    ((Work.EnginesOnly.psqRestart _ ch _).expertOpen _).trans (((EngineApart.setCtl w ch 0 x).toEnginesOnly.expertOpen _).trans hopen)
  unfold Work.putChan Work.putPsq
  simp (decide := true) only [Work.regW, hbase, hfold, hch, hset, if_false, if_true]

/-- An accepted write of PSQ_CTL in a mode that opens its RUN bits, for one engine: what has come before its restart leaves it. -/
theorem State.regWrite_psqCtl (s : State) (ch : Fin 8) (v : Word) (haccept : s.accepts (R.PSQ_CTL.addr ch 0) v.toNat = true)
    (hopen : s.work.expertOpen (R.PSQ_CTL.addr ch 0) = true) (e : Fin 4) :
    ∃ u : Work, s.work.EngineApart ch e u ∧
      s.work.regWrite (R.PSQ_CTL.addr ch 0) v =
        (u.psqRestart ch (bitsOf v.toNat 11 8)).psqRun ch (bitsOf v.toNat 3 0) (bitsOf v.toNat 7 4) := by
  have hbase : (rowOf R.PSQ_CTL.base).base ≠ R.SEQ_CTL.base := by decide +kernel
  exact ⟨_, .setCtl s.work ch e _,
    (s.regWrite_chan _ v _ _ haccept (rowAt_psqCtl ch) (isChanReg_psqCtl ch) hbase).trans (s.work.putChan_psqCtl ch v.toNat hopen)⟩

/-- A bit of a field of a word. -/
theorem bitOf_bitsOf (v hi lo i : Nat) (h : lo + i ≤ hi) : bitOf (bitsOf v hi lo) i = bitOf v (lo + i) := by
  rw [bitOf_of_bitsOf v hi lo (lo + i) (Nat.le_add_right ..) h, Nat.add_sub_cancel_left, bitOf_eq_testBit]

/-- A write of PSQ_CTL that does not restart an engine, and what its RUN and BOUNDARY do with it. -/
theorem State.psqCtl_run (s : State) (ch : Fin 8) (e : Fin 4) (v : Word) (haccept : s.accepts (R.PSQ_CTL.addr ch 0) v.toNat = true)
    (hopen : s.work.expertOpen (R.PSQ_CTL.addr ch 0) = true) (hrestart : bitOf v.toNat (8 + e) = false) :
    ∃ u : Work, s.work.EngineApart ch e u ∧
      (u.engineRun (bitsOf v.toNat 3 0) (bitsOf v.toNat 7 4) ch e).EngineApart ch e (s.work.regWrite (R.PSQ_CTL.addr ch 0) v) := by
  obtain ⟨u, hu, hwrite⟩ := s.regWrite_psqCtl ch v haccept hopen e
  have hmask : bitOf (bitsOf v.toNat 11 8) e = false := (bitOf_bitsOf _ 11 8 e (by omega)).trans hrestart
  obtain ⟨x, hx, hend⟩ := (u.psqRestart ch (bitsOf v.toNat 11 8)).psqRun_at ch e (bitsOf v.toNat 3 0) (bitsOf v.toNat 7 4)
  exact ⟨x, (hu.trans (u.psqRestart_apart ch e _ hmask)).trans hx, hwrite ▸ hend⟩

/-- What a run of a write leaves beside the engines. -/
theorem State.frame_of_engines (s : State) (f : Work → Work) (ch : Fin 8) (h : s.work.EnginesOnly ch (f s.work)) :
    s.sameRegs (s.run f) (engineRegs ch) ∧ (s.run f).mem = s.mem :=
  ⟨fun a ha => by rw [State.run_reg, h.reg a ha, State.work_reg], s.run_mem_of_wr f h.wr⟩

theorem State.run_eng (s : State) (f : Work → Work) (n e : Nat) : (s.run f).work.eng n e = (f s.work).eng n e := by rfl

/-- Settles O28: a write of PSQ_CTL does with each engine what its own bits say, and what it does with the others leaves it. -/
theorem pinEngineRuns : Obligations.PinEngineRuns := by
  have hown : ∀ (ch : Fin 8) (e : Fin 4), ∀ f ∈ [F.PSQ_STATE_PC, F.PSQ_LOOP_HEAD_ACT, F.PSQ_PASSES_PASSES], f.addr ch e ∈ (psqRegs ch e).tail := by
    decide +kernel
  have hcfg : ∀ (ch : Fin 8) (e : Fin 4), R.PSQ_SHCFG.addr ch e ∉ engineRegs ch := by decide +kernel
  unfold Obligations.PinEngineRuns
  refine ⟨?run, ?boundary, ?stop, ?restart⟩
  case run =>
    intro s _ ch e v haccept hopen hlen hrun hboundary hrestart hstopped
    obtain ⟨u, hu, hend⟩ := s.psqCtl_run ch e v haccept hopen hrestart
    have hbit : bitOf (bitsOf v.toNat 3 0) e = true := (bitOf_bitsOf _ 3 0 e (by omega)).trans ((Nat.zero_add e.val).symm ▸ hrun)
    have hnow : bitOf (bitsOf v.toNat 7 4) e = false := (bitOf_bitsOf _ 7 4 e (by omega)).trans hboundary
    have hidle : bitOf (u.get F.PSQ_STAT_RUNNING ch) e = false := (hu.stat _ (by decide)).trans hstopped
    have hstart : u.engineRun (bitsOf v.toNat 3 0) (bitsOf v.toNat 7 4) ch e = u.startEng ch e := by
      unfold Work.engineRun
      rw [hbit, hnow, hidle]
      rfl
    obtain ⟨hrunning, hpending, heng, hpc, honly⟩ := u.startEng_shows ch e (by rw [hu.len, State.work_chan, hlen]; exact e.isLt)
    rw [hstart] at hend
    have hstarted : u.started ch e = s.work.started ch e := by
      have hget : ∀ f : Fld, f.addr ch e = R.PSQ_SHCFG.addr ch e → u.get f ch e = s.work.get f ch e := fun f hf =>
        hu.toEnginesOnly.get f ch e (by rw [hf]; exact hcfg ch e)
      unfold Work.started Work.flag
      rw [hget F.PSQ_SHCFG_CLK_EN rfl, hget F.PSQ_SHCFG_CLK_PIN rfl, hget F.PSQ_SHCFG_CLK_POL rfl, hu.eng]
    have hengine : (s.work.regWrite (R.PSQ_CTL.addr ch 0) v).eng ch e = s.work.started ch e := (hend.eng.trans heng).trans hstarted
    refine ⟨_, rfl, ?_, ?_, fun hoff => ?_, fun hon => ?_, ?_, s.frame_of_engines _ ch ((hu.toEnginesOnly.trans honly).trans hend.toEnginesOnly)⟩
    · rw [State.run_get, hend.stat _ (by decide), hrunning]
    · rw [State.run_get, hend.stat _ (by decide), hpending]
    · rw [State.run_eng, hengine]
      exact if_neg (by rw [State.work_flag, hoff]; exact Bool.false_ne_true)
    · rw [State.run_eng, hengine]
      exact if_pos hon
    · rw [State.run_get, hend.get _ (hown ch e _ (by decide)), hpc, hu.get _ (hown ch e _ (by decide)), State.work_get]
  case boundary =>
    intro s _ ch e v haccept hopen hlen hrun hboundary hrestart hstopped
    obtain ⟨u, hu, hend⟩ := s.psqCtl_run ch e v haccept hopen hrestart
    have hbit : bitOf (bitsOf v.toNat 3 0) e = true := (bitOf_bitsOf _ 3 0 e (by omega)).trans ((Nat.zero_add e.val).symm ▸ hrun)
    have hlater : bitOf (bitsOf v.toNat 7 4) e = true := (bitOf_bitsOf _ 7 4 e (by omega)).trans hboundary
    have hidle : bitOf (u.get F.PSQ_STAT_RUNNING ch) e = false := (hu.stat _ (by decide)).trans hstopped
    have hwait : u.engineRun (bitsOf v.toNat 3 0) (bitsOf v.toNat 7 4) ch e =
        u.put F.PSQ_STAT_PENDING (setBit (u.get F.PSQ_STAT_PENDING ch) e true) ch := by
      unfold Work.engineRun
      rw [hbit, hlater, hidle]
      rfl
    rw [hwait] at hend
    have honly := Work.EnginesOnly.put (ch := ch) u F.PSQ_STAT_PENDING (setBit (u.get F.PSQ_STAT_PENDING ch) e true) 0 e List.mem_cons_self
    refine ⟨_, rfl, ?_, ?_, ?_, s.frame_of_engines _ ch ((hu.toEnginesOnly.trans honly).trans hend.toEnginesOnly)⟩
    · rw [State.run_get, hend.stat _ (by decide), Work.get_put_apart _ _ _ _ _ (by decide), hidle]
    · rw [State.run_get, hend.stat _ (by decide), Work.statBit_put _ _ _ _ (by decide), if_pos rfl]
    · rw [State.run_eng, hend.eng, Work.eng_put, hu.eng]
  case stop =>
    intro s _ ch e v haccept hopen hlen hrun hrestart
    obtain ⟨u, hu, hend⟩ := s.psqCtl_run ch e v haccept hopen hrestart
    have hbit : bitOf (bitsOf v.toNat 3 0) e = false := (bitOf_bitsOf _ 3 0 e (by omega)).trans ((Nat.zero_add e.val).symm ▸ hrun)
    have hstop : u.engineRun (bitsOf v.toNat 3 0) (bitsOf v.toNat 7 4) ch e = u.stopEng ch e := by
      unfold Work.engineRun
      rw [hbit]
      rfl
    obtain ⟨hrunning, hpending, hloop, heng, hplace, honly⟩ := u.stopEng_shows ch e (by rw [hu.len, State.work_chan, hlen]; exact e.isLt)
    rw [hstop] at hend
    refine ⟨_, rfl, ?_, ?_, ?_, ?_, ?_, s.frame_of_engines _ ch ((hu.toEnginesOnly.trans honly).trans hend.toEnginesOnly)⟩
    · rw [State.run_get, hend.stat _ (by decide), hrunning]
    · rw [State.run_get, hend.stat _ (by decide), hpending]
    · rw [State.run_get, hend.stat _ (by decide), hloop]
    · rw [State.run_eng, hend.eng, heng, hu.eng]
    · rw [State.run_get, hend.get _ (hown ch e _ (by decide)), hplace _ (by decide), hu.get _ (hown ch e _ (by decide)), State.work_get]
  case restart =>
    intro s _ ch e v haccept hopen hlen hrun hrestart hstopped hloop
    obtain ⟨u, hu, hwrite⟩ := s.regWrite_psqCtl ch v haccept hopen e
    have hmask : bitOf (bitsOf v.toNat 11 8) e = true := (bitOf_bitsOf _ 11 8 e (by omega)).trans hrestart
    have hbit : bitOf (bitsOf v.toNat 3 0) e = false := (bitOf_bitsOf _ 3 0 e (by omega)).trans ((Nat.zero_add e.val).symm ▸ hrun)
    obtain ⟨x, hx, hafter⟩ := u.psqRestart_at ch e (bitsOf v.toNat 11 8) hmask
    obtain ⟨y, hy, hend⟩ := (u.psqRestart ch (bitsOf v.toNat 11 8)).psqRun_at ch e (bitsOf v.toNat 3 0) (bitsOf v.toNat 7 4)
    have hux := hu.trans hx
    have hidle : bitOf (x.get F.PSQ_STAT_RUNNING ch) e = false := (hux.stat _ (by decide)).trans hstopped
    have hagain : x.engineRestart ch e = x.restartEng ch e := if_neg (by rw [hidle]; exact Bool.false_ne_true)
    have hstop : y.engineRun (bitsOf v.toNat 3 0) (bitsOf v.toNat 7 4) ch e = y.stopEng ch e := by
      unfold Work.engineRun
      rw [hbit]
      rfl
    rw [hagain] at hafter
    rw [hstop, ← hwrite] at hend
    have hxy := hafter.trans hy
    obtain ⟨hempty, -, hpc, hpasses, honly⟩ := x.restartEng_shows ch e (by rw [hux.len, State.work_chan, hlen]; exact e.isLt)
    obtain ⟨hrunning, -, -, heng, hplace, honly'⟩ := y.stopEng_shows ch e
      (by rw [hxy.len, honly.len, hux.len, State.work_chan, hlen]; exact e.isLt)
    have hpause : (y.eng ch e).pause = (x.restartEng ch e).eng ch e := by
      rw [hxy.eng]
      unfold Engine.pause
      rw [hempty.doing]
    have hengine : (s.work.regWrite (R.PSQ_CTL.addr ch 0) v).eng ch e = (x.restartEng ch e).eng ch e := (hend.eng.trans heng).trans hpause
    refine ⟨_, rfl, ?_, ?_, ?_, ?_, ?_, ?_, ?_, ?_, ?_,
      s.frame_of_engines _ ch ((((hux.toEnginesOnly.trans honly).trans hxy.toEnginesOnly).trans honly').trans hend.toEnginesOnly)⟩
    · rw [State.run_eng, hengine, hempty.tx]
    · rw [State.run_eng, hengine, hempty.rx]
    · rw [State.run_eng, hengine, hempty.ctr]
    · rw [State.run_eng, hengine, hempty.flags]
    · rw [State.run_eng, hengine, hempty.doing]
    · rw [State.run_eng, hengine, hempty.rxSeq, hux.eng]
    · rw [State.run_get, hend.get _ (hown ch e _ (by decide)), hplace _ (by decide), hxy.get _ (hown ch e _ (by decide)), hpc,
        hux.get _ (hown ch e _ (by decide)), State.work_get]
    · rw [State.run_get, hend.get _ (hown ch e _ (by decide)), hplace _ (by decide), hxy.get _ (hown ch e _ (by decide)), hpasses]
    · rw [State.run_get, hend.stat _ (by decide), hrunning]

end Sys2Proof.Machine
end

section
/-! PROOF SUPPORT. A port that is reset rolls back what waits for it (R68, R305, R307, R410), and leaves every register that no
activation and no command of the port sets. -/

namespace Sys2Proof.Machine

/-- A device register that neither an activation put back nor a port rolled back sets. -/
def rollApart (a : Nat) : Bool :=
  decide (a < 0x40100000) && !imageArea a && (a ∉ ringRegs devRing) && (a ∉ hostRegs) &&
    (a ∉ [R.SYS_CH_STATE.addr 0 0, R.SYS_CFG_SESS.addr 0 0, R.SYS_MODE.addr 0 0, R.PWR_STAT.addr 0 0])

/-- Steps that leave a register, one after another. -/
theorem Work.reg_foldl_same {α : Type} (w : Work) (a : Nat) (l : List α) (f : Work → α → Work)
    (hf : ∀ (v : Work), ∀ x ∈ l, (f v x).reg a = v.reg a) : (l.foldl f w).reg a = w.reg a :=
  List.foldlRecOn (motive := fun v : Work => v.reg a = w.reg a) _ _ rfl fun v hv x hx => (hf v x hx).trans hv

section
variable (w : Work) {a : Nat}

theorem Work.reg_resume (n : Nat) : (w.resume n).reg a = w.reg a := by
  unfold Work.resume
  exact iteInduction (motive := fun v : Work => v.reg a = w.reg a) (fun _ => rfl)
    (fun _ => iteInduction (motive := fun v : Work => v.reg a = w.reg a) (fun _ => rfl) (fun _ => rfl))

/-- Settings taken over are those of an activation. -/
theorem Work.reg_takeSets (regs : Tab Nat) (hit : Nat → Bool) (hout : hit a = false) : (w.takeSets regs hit).reg a = w.reg a := by
  refine w.reg_foldl_same a _ _ fun v b hb => ?_
  have hne : a ≠ b := by
    rintro rfl
    rw [(List.mem_filter.mp hb).2] at hout
    cases hout
  split
  · exact v.reg_setReg_ne b a _ hne
  · rfl

end

/-- A session of a port ends (R68). -/
def Work.rollSession (w : Work) (o : Origin) : Work :=
  match w.img.sess with | some x => if samePort x.owner o then w.endSession else w | none => w

/-- A MODE of a port that waits is dropped (R305). -/
def Work.rollMode (w : Work) (o : Origin) : Work :=
  match w.modeReq with | some r => if samePort r.origin o then w.dropMode else w | none => w

/-- A power entry of a port that has not committed is called off (R410). -/
def Work.rollEntry (w : Work) (o : Origin) : Work :=
  match w.pwr.cmd with
  | some c => if samePort c.origin o ∧ !w.pwr.committed then w.dropEntryToSleep else w
  | none => w

theorem Work.rollBack_eq (w : Work) (o : Origin) : w.rollBack o = ((w.rollSession o).rollMode o).rollEntry o := by rfl

section
variable (w : Work) {a : Nat} (h : rollApart a = true)
include h

theorem rollApart_spec : a < 0x40100000 ∧ imageArea a = false ∧ a ∉ ringRegs devRing ∧ a ∉ hostRegs ∧ a ≠ R.SYS_CH_STATE.addr 0 0 ∧
    a ≠ R.SYS_CFG_SESS.addr 0 0 ∧ a ≠ R.SYS_MODE.addr 0 0 ∧ a ≠ R.PWR_STAT.addr 0 0 := by
  simpa [rollApart, and_assoc] using h

theorem Work.reg_takeAttention_apart (r : Nat) : (w.takeAttention r).reg a = w.reg a := by
  obtain ⟨hlow, -, hring, -⟩ := rollApart_spec h
  refine w.reg_takeAttention r a fun hmem => ?_
  by_cases hr : r < 8
  · unfold ringRegs at hmem hring
    simp only [hr, if_true, devRing, Nat.lt_irrefl, if_false, List.mem_cons, List.not_mem_nil, or_false, not_or] at hmem hring
    have hstat : R.CASK_STAT.base = 0x40106004 := rfl
    have hseq : R.CASK_SEQ.base = 0x40106008 := rfl
    have hdrops : R.CASK_DROPS.base = 0x4010600c := rfl
    unfold Fld.addr at hmem hring
    rw [hstat, hseq, hdrops] at hmem
    omega
  · refine hring ?_
    unfold ringRegs at hmem ⊢
    rwa [if_neg hr] at hmem

theorem imageArea_of_dim (g : Nat) (hg : g < 16) : a ≠ R.SYS_DIM_LVL.addr 0 g ∧ a ≠ R.SYS_DIM_VER.addr 0 g := by
  have hall : ∀ g : Fin 16, imageArea (R.SYS_DIM_LVL.addr 0 g) = true ∧ imageArea (R.SYS_DIM_VER.addr 0 g) = true := by decide
  obtain ⟨-, hout, -⟩ := rollApart_spec h
  obtain ⟨hlvl, hver⟩ := hall ⟨g, hg⟩
  constructor
  · rintro rfl
    exact Bool.false_ne_true (hout.symm.trans hlvl)
  · rintro rfl
    exact Bool.false_ne_true (hout.symm.trans hver)

theorem imageArea_of_tun (e : Nat) (he : e < 4) : a ≠ R.TUN_STAT.addr 0 e ∧ a ≠ R.TUN_CTL.addr 0 0 := by
  have hall : ∀ e : Fin 4, imageArea (R.TUN_STAT.addr 0 e) = true ∧ imageArea (R.TUN_CTL.addr 0 0) = true := by decide
  obtain ⟨-, hout, -⟩ := rollApart_spec h
  obtain ⟨hstat, hctl⟩ := hall ⟨e, he⟩
  constructor
  · rintro rfl
    exact Bool.false_ne_true (hout.symm.trans hstat)
  · rintro rfl
    exact Bool.false_ne_true (hout.symm.trans hctl)

theorem Work.reg_undoDevice_apart (u : Undo) : (w.undoDevice u).reg a = w.reg a := by
  obtain ⟨-, hout, -⟩ := rollApart_spec h
  have hsets : (w.takeSets u.regs (fun a => imageArea a && a != R.SYS_TICK_CFG.base)).reg a = w.reg a :=
    w.reg_takeSets u.regs _ (by rw [hout, Bool.false_and])
  have hdim : ∀ (v : Work) (g x y : Nat), g < 16 → ((v.setReg (R.SYS_DIM_LVL.addr 0 g) x).setReg (R.SYS_DIM_VER.addr 0 g) y).reg a = v.reg a := by
    intro v g x y hg
    obtain ⟨hlvl, hver⟩ := imageArea_of_dim h g hg
    rw [Work.reg_setReg_ne _ _ _ _ hver, Work.reg_setReg_ne _ _ _ _ hlvl]
  have htun : ∀ (v : Work) (e x y : Nat) (f : TunEng → TunEng), e < 4 →
      (((v.modTun e f).put F.TUN_CTL_RUNNING x).setReg (R.TUN_STAT.addr 0 e) y).reg a = v.reg a := by
    intro v e x y f he
    obtain ⟨hstat, hctl⟩ := imageArea_of_tun h e he
    rw [Work.reg_setReg_ne _ _ _ _ hstat, Work.reg_put_ne _ F.TUN_CTL_RUNNING _ _ _ _ hctl]
    rfl
  have hbeside : ∀ (v : Work) (d : List (Option DimPend)) (l : Lock) (m : Mon) (x : HostP),
      ({ v with dim := d, lock := l, host := x, mon := m } : Work).reg a = v.reg a := fun _ _ _ _ _ => rfl
  unfold Work.undoDevice
  refine (hbeside _ _ _ _ _).trans ?_
  refine (Work.reg_foldl_same _ a _ _ fun v e he => htun v e _ _ _ (List.mem_range.mp he)).trans ?_
  rw [Work.reg_wipe]
  exact (Work.reg_foldl_same _ a _ _ fun v g hg => hdim v g _ _ (List.mem_range.mp hg)).trans hsets

/-- What a session's activation replaced is put back. -/
theorem Work.reg_undo_apart (u : Undo) (mask : Nat) (whole : Bool) : (w.undo u mask whole).reg a = w.reg a := by
  obtain ⟨hlow, -, -, -, hstate, -⟩ := rollApart_spec h
  have hchan : ∀ (v : Work) (n x : Nat) (c : Chan),
      (((v.wipe (0x01000000 + 0x20000 * n) (0x01020000 + 0x20000 * n)).setChan n c).putChState n x).reg a = v.reg a := by
    intro v n x c
    rw [Work.reg_putChState _ _ _ _ hstate]
    exact v.reg_wipe _ _ _
  have hset : ({ w with regs := tabReplaced w.regs u.regs (imageHit mask) } : Work).reg a = w.reg a := by
    unfold Work.reg tabGet
    rw [tabFind_replaced _ _ _ _ (by simp only [imageHit]; rw [decide_eq_false (by omega), Bool.false_and, Bool.false_and, Bool.false_and])]
  have hback : ∀ hit : Nat → Bool, (∀ x, hit x = imageHit mask x) → ({ w with regs := tabReplaced w.regs u.regs hit } : Work).reg a = w.reg a := by
    intro hit hhit
    rw [funext hhit]
    exact hset
  have hchans : ((maskList mask 8).foldl (fun w n =>
      ((w.wipe (0x01000000 + 0x20000 * n) (0x01020000 + 0x20000 * n)).setChan n (u.ch.getD n Chan.init)).putChState n
        ((bitsOf (tabGet u.regs (resetWord R.SYS_CH_STATE.base) R.SYS_CH_STATE.base)) (4 * n + 3) (4 * n)))
      ({ w with regs := tabReplaced w.regs u.regs (imageHit mask) } : Work)).reg a = w.reg a :=
    (Work.reg_foldl_same _ a _ _ fun v n _ => hchan v n _ _).trans hset
  unfold Work.undo
  refine (Work.reg_foldl_same _ a _ _ fun v r _ => v.reg_takeAttention_apart h r).trans ?_
  refine (Work.reg_foldl_same _ a _ _ fun v (c : Host.Cell) _ => v.reg_poke c.1 c.2 a).trans ?_
  refine iteInduction (motive := fun v : Work => v.reg a = w.reg a) (fun _ => (Work.reg_undoDevice_apart _ h u).trans hchans) (fun _ => hchans)

/-- A session's end. -/
theorem Work.reg_endSession_apart : w.endSession.reg a = w.reg a := by
  obtain ⟨-, -, -, -, -, hsess, -⟩ := rollApart_spec h
  unfold Work.endSession
  split
  · rfl
  · have hidle : ∀ v : Work, v.reg a = w.reg a → v.idleSess.reg a = w.reg a := fun v hv => (v.reg_setReg_ne _ a 0 hsess).trans hv
    have hundo : ∀ (x : Session), (match x.undo with
        | some u => (w.undo u (if x.scope = 1 then 2 ^ x.channel else 0xFF) (x.scope != 1)).modRst (fun r => { r with enter := none })
        | none => w).reg a = w.reg a := by
      intro x
      split
      · exact w.reg_undo_apart h _ _ _
      · rfl
    refine iteInduction (motive := fun v : Work => v.reg a = w.reg a) (fun _ => ?_) (fun _ => hidle _ (hundo _))
    exact (Work.reg_foldl_same _ a _ _ fun v n _ => v.reg_resume n).trans (hidle _ (hundo _))

theorem Work.reg_dropMode_apart : w.dropMode.reg a = w.reg a := by
  obtain ⟨-, -, -, -, -, -, hmode, -⟩ := rollApart_spec h
  unfold Work.dropMode
  split
  · rfl
  · exact (Work.reg_foldl_same _ a _ _ fun v n _ => v.reg_resume n).trans (Work.reg_put_ne _ F.SYS_MODE_PENDING _ 0 0 a hmode)

theorem Work.reg_dropEntryToSleep_apart : w.dropEntryToSleep.reg a = w.reg a := by
  obtain ⟨-, -, -, -, -, -, -, hpwr⟩ := rollApart_spec h
  unfold Work.dropEntryToSleep
  exact (Work.reg_put_ne _ F.PWR_STAT_ENTERING _ 0 0 a hpwr).trans (Work.reg_foldl_same _ a _ _ fun v n _ => v.reg_resume n)

/-- What waits for a port is rolled back. -/
theorem Work.reg_rollBack_apart (o : Origin) : (w.rollBack o).reg a = w.reg a := by
  have hsess : (w.rollSession o).reg a = w.reg a := by
    unfold Work.rollSession
    split
    · exact iteInduction (motive := fun v : Work => v.reg a = w.reg a) (fun _ => w.reg_endSession_apart h) (fun _ => rfl)
    · rfl
  have hmode : ∀ v : Work, (v.rollMode o).reg a = v.reg a := by
    intro v
    unfold Work.rollMode
    split
    · exact iteInduction (motive := fun u : Work => u.reg a = v.reg a) (fun _ => v.reg_dropMode_apart h) (fun _ => rfl)
    · rfl
  have hentry : ∀ v : Work, (v.rollEntry o).reg a = v.reg a := by
    intro v
    unfold Work.rollEntry
    split
    · exact iteInduction (motive := fun u : Work => u.reg a = v.reg a) (fun _ => v.reg_dropEntryToSleep_apart h) (fun _ => rfl)
    · rfl
  rw [Work.rollBack_eq]
  exact ((hentry _).trans (hmode _)).trans hsess

theorem Work.reg_orphans_apart (o : Origin) : (w.orphans o).reg a = w.reg a := by
  obtain ⟨hlow, -⟩ := rollApart_spec h
  have hstat : ∀ n, a ≠ R.MASH_STAT.addr n 0 := by
    intro n
    have hbase : R.MASH_STAT.base = 0x4010c004 := rfl
    unfold Fld.addr
    rw [hbase]
    omega
  have hhost : ∀ (v : Work) (x : HostP), ({ v with host := x } : Work).reg a = v.reg a := fun _ _ => rfl
  unfold Work.orphans Work.eachChan
  rw [hhost]
  exact Work.reg_foldl_same _ a _ _ fun v n _ => v.reg_modMash n _ a (hstat n)

theorem imageArea_of_stat (e : Fin 4) : a ≠ R.TUN_STAT.addr 0 e := (imageArea_of_tun h e e.isLt).1

/-- A port at rest, its commands and its frames forgotten (R307). -/
theorem Work.reg_portReset_tun (e : Fin 4) : (w.portReset (.tun e)).reg a = w.reg a := by
  have hport : ∀ (v : Work) (p : Port), (v.setPort (.tun e) p).reg a = v.reg a := fun _ _ => rfl
  have hshow : ∀ v : Work, (v.showPort (.tun e)).reg a = v.reg a := fun v =>
    v.reg_put_ne F.TUN_STAT_VR_BUSY _ 0 e a (imageArea_of_stat h e)
  unfold Work.portReset
  rw [hshow, hport]
  exact (Work.reg_orphans_apart _ h _).trans (w.reg_rollBack_apart h _)

end

end Sys2Proof.Machine
end

section
/-! PROOF SUPPORT. One access to a memory bank: what it counts, a word corrected, and a bank that fails (R375 to R382). -/

namespace Sys2Proof.Machine

section
variable (w : Work)

/-! ### The memory system's hidden state -/

@[simp] theorem Work.reg_modMem (f : MemSys → MemSys) (a : Nat) : (w.modMem f).reg a = w.reg a := by rfl
@[simp] theorem Work.get_modMem (f : MemSys → MemSys) (g : Fld) (n k : Nat) : (w.modMem f).get g n k = w.get g n k := by rfl
@[simp] theorem Work.flag_modMem (f : MemSys → MemSys) (g : Fld) (n k : Nat) : (w.modMem f).flag g n k = w.flag g n k := by rfl
@[simp] theorem Work.chan_modMem (f : MemSys → MemSys) (m : Nat) : (w.modMem f).chan m = w.chan m := by rfl
@[simp] theorem Work.modMem_wr (f : MemSys → MemSys) : (w.modMem f).wr = w.wr := by rfl
@[simp] theorem Work.modMem_dring (f : MemSys → MemSys) : (w.modMem f).dring = w.dring := by rfl
@[simp] theorem Work.modMem_pair (f : MemSys → MemSys) : (w.modMem f).pair = w.pair := by rfl
@[simp] theorem Work.modMem_memsys (f : MemSys → MemSys) : (w.modMem f).memsys = f w.memsys := by rfl
@[simp] theorem Work.toDev_memsys : w.toDev.memsys = w.memsys := by rfl

/-- A MEMORY entry goes to the device's own ring (R377). -/
theorem Work.memEntry_eq (b code : Nat) (steep : Bool) (addr : Nat) :
    w.memEntry b code steep addr = w.raiseEntry devRing ⟨0x85, b, 256 * code + steep.toNat, addr, w.tick32⟩ := by rfl

/-! ### An entry raised, and Steep's window (R385) -/

/-- A byte written marks the borrowed window dirty where it lies in it. -/
theorem Work.memsys_pokes (bs : List Byte) (a : Nat) :
    ∃ d, (w.pokes a bs).memsys = { w.memsys with dirty := d } ∧ (w.flag F.STEEP_STAT_BORROWED = false → d = w.memsys.dirty) := by
  induction bs generalizing w a with
  | nil => exact ⟨w.memsys.dirty, rfl, fun _ => rfl⟩
  | cons b bs ih =>
    have hone : ∃ d, (w.poke a b).memsys = { w.memsys with dirty := d } ∧ (w.flag F.STEEP_STAT_BORROWED = false → d = w.memsys.dirty) := by
      unfold Work.poke
      split
      · split
        · exact ⟨w.memsys.dirty, rfl, fun _ => rfl⟩
        · refine ⟨w.memsys.dirty || w.borrowed a, rfl, fun hfree => ?_⟩
          unfold Work.borrowed
          simp only [hfree, Bool.false_and, Bool.or_false]
      · exact ⟨w.memsys.dirty, rfl, fun _ => rfl⟩
    obtain ⟨d, hd, hfree⟩ := hone
    obtain ⟨d', hd', hfree'⟩ := ih (w.poke a b) (a + 1)
    have hflag : (w.poke a b).flag F.STEEP_STAT_BORROWED = w.flag F.STEEP_STAT_BORROWED := by
      unfold Work.flag Work.get
      rw [Work.reg_poke]
    refine ⟨d', by rw [show w.pokes a (b :: bs) = (w.poke a b).pokes (a + 1) bs from rfl, hd', hd], fun h => ?_⟩
    rw [hfree' (by rw [hflag, h]), hd]
    exact hfree h

/-- An entry raised into a ring, and the memory system: its bytes may mark a borrowed window dirty. -/
theorem Work.memsys_raiseEntry (r : Nat) (e : Entry) :
    ∃ d, (w.raiseEntry r e).memsys = { w.memsys with dirty := d } ∧ (w.flag F.STEEP_STAT_BORROWED = false → d = w.memsys.dirty) := by
  have hput : ∀ (v : Work) (c d : Fld) (x : Nat), (v.ringPut r c d x).memsys = v.memsys := by
    intro v c d x
    unfold Work.ringPut
    split <;> exact Work.put_memsys ..
  have hring : ∀ (v : Work) (x : Ring), (v.setRing r x).memsys = v.memsys := by
    intro v x
    unfold Work.setRing
    split
    · exact Work.modChan_memsys ..
    · rfl
  have hdrop : (w.dropEntry r).memsys = w.memsys := by
    unfold Work.dropEntry
    rw [Work.ev_memsys, hput, hput]
    split <;> rw [Work.countUp_eq, Work.put_memsys]
  have hsame : ∃ d, w.memsys = { w.memsys with dirty := d } ∧ (w.flag F.STEEP_STAT_BORROWED = false → d = w.memsys.dirty) :=
    ⟨w.memsys.dirty, rfl, fun _ => rfl⟩
  unfold Work.raiseEntry
  split
  · exact hsame
  · split
    · rw [Work.modChan_memsys]
      exact hsame
    · unfold Work.ringEntry
      split
      · rwa [hdrop]
      · split
        · rwa [hdrop]
        · unfold Work.takeAttention Work.storeEntry Work.setRingNext Work.setRingCount
          rw [Work.put_memsys, hput, Work.ev_memsys, hput, hput, hput, hring]
          exact w.memsys_pokes _ _

/-! ### An access counted (R379, R380) -/

/-- The banks of the address map are 0 to 32 (R23). -/
theorem bankOf_le {a b : Nat} (h : bankOf a = some b) : b ≤ 32 := by
  unfold bankOf at h
  split at h
  · cases h; omega
  · split at h
    · cases h; omega
    · split at h
      · cases h; omega
      · split at h
        · cases h; omega
        · cases h

/-- An access of a master that took so many cycles (R379, R381). -/
def Work.accessed (w : Work) (b m cycles : Nat) : Work :=
  let w := w.countUp F.MEM_CNT_CYCLES 0 m cycles
  (if cycles = 0 then w else w.ev (1 + m) 0 cycles).modMem (fun x => { x with rr := tabInsert x.rr b m })

/-- The cycles of an access: those it waited, one where Steep has borrowed its window, and one where it met another write (R379,
R382, R384). -/
def Work.accessCycles (w : Work) (word wait : Nat) (met : Bool) : Nat := wait + (w.borrowed word).toNat + met.toNat

section
variable (b m cycles : Nat)

theorem Work.reg_accessed (a : Nat) (h : a ≠ R.MEM_CNT.addr 0 m) : (w.accessed b m cycles).reg a = w.reg a := by
  unfold Work.accessed
  rw [Work.reg_modMem, Work.countUp_eq]
  split
  · exact w.reg_put_ne F.MEM_CNT_CYCLES _ 0 m a h
  · rw [Work.reg_ev]
    exact w.reg_put_ne F.MEM_CNT_CYCLES _ 0 m a h

theorem Work.get_accessed (f : Fld) (n k : Nat) (h : f.addr n k ≠ R.MEM_CNT.addr 0 m) : (w.accessed b m cycles).get f n k = w.get f n k := by
  unfold Work.get
  rw [Work.reg_accessed _ _ _ _ _ h]

theorem Work.accessed_count : (w.accessed b m cycles).get F.MEM_CNT_CYCLES 0 m = Nat.min (2 ^ 32 - 1) (w.get F.MEM_CNT_CYCLES 0 m + cycles) := by
  have hput : (w.countUp F.MEM_CNT_CYCLES 0 m cycles).get F.MEM_CNT_CYCLES 0 m = Nat.min (2 ^ 32 - 1) (w.get F.MEM_CNT_CYCLES 0 m + cycles) := by
    have hwidth : F.MEM_CNT_CYCLES.hi - F.MEM_CNT_CYCLES.lo + 1 = 32 := rfl
    rw [Work.countUp_eq, Work.get_put_same _ _ _ _ _ (by decide), satAdd_mod, hwidth]
  unfold Work.accessed
  rw [Work.get_modMem]
  split
  · exact hput
  · rw [Work.get_ev, hput]

theorem Work.accessed_memsys : (w.accessed b m cycles).memsys = { w.memsys with rr := tabInsert w.memsys.rr b m } := by
  have hev : ∀ v : Work, (if cycles = 0 then v else v.ev (1 + m) 0 cycles).memsys = v.memsys := fun v =>
    iteInduction (motive := fun u : Work => u.memsys = v.memsys) (fun _ => rfl) (fun _ => v.ev_memsys _ _ _)
  unfold Work.accessed
  rw [Work.modMem_memsys, hev, Work.countUp_eq, Work.put_memsys]

/-- The rest of the device is nothing to an access. -/
theorem Work.accessed_same : (w.accessed b m cycles).wr = w.wr ∧ (w.accessed b m cycles).dring = w.dring ∧
    (w.accessed b m cycles).pair = w.pair ∧ ∀ n, (w.accessed b m cycles).chan n = w.chan n := by
  unfold Work.accessed
  rw [Work.countUp_eq, Work.modMem_wr, Work.modMem_dring, Work.modMem_pair]
  split
  · exact ⟨Work.put_wr .., Work.put_dring .., Work.put_pair .., fun n => (Work.chan_modMem _ _ n).trans (Work.chan_put _ _ _ _ _ n)⟩
  · refine ⟨?_, ?_, ?_, fun n => ?_⟩
    · rw [Work.ev_wr, Work.put_wr]
    · rw [Work.ev_dring, Work.put_dring]
    · rw [Work.ev_pair, Work.put_pair]
    · rw [Work.chan_modMem, Work.chan_ev, Work.chan_put]

theorem memCnt_ne (k : Nat) (f : Fld) (h : f.base ∈ [R.MEM_FAILED.base, R.MEM_STAT.base, R.MEM_COLLIDE.base, R.PAIR_STAT.base]) (hm : m < 16)
    (hk : k = 0) : f.addr 0 k ≠ R.MEM_CNT.addr 0 m := by
  have hbase : R.MEM_CNT.base = 0x40030000 := rfl
  have hstride : R.MEM_CNT.stride = 4 := rfl
  have hsome : ∀ x ∈ [R.MEM_FAILED.base, R.MEM_STAT.base, R.MEM_COLLIDE.base, R.PAIR_STAT.base], 0x40030040 ≤ x := by decide
  have := hsome _ h
  subst hk
  unfold Fld.addr
  rw [hbase, hstride]
  omega

theorem memEcc_ne_cnt (hm : m < 16) : R.MEM_ECC.addr 0 b ≠ R.MEM_CNT.addr 0 m := by
  have hecc : R.MEM_ECC.base = 0x40030100 := rfl
  have hbase : R.MEM_CNT.base = 0x40030000 := rfl
  have hstride : R.MEM_CNT.stride = 4 := rfl
  unfold Fld.addr
  rw [hecc, hbase, hstride]
  omega

theorem memEcc_ne (a : Nat) (ha : a ∈ [R.MEM_FAILED.addr 0 0, R.MEM_STAT.addr 0 0, R.MEM_COLLIDE.addr 0 0] ++ ringRegs devRing ∨ 0x40060000 ≤ a)
    (hb : b ≤ 32) : R.MEM_ECC.addr 0 b ≠ a := by
  have hecc : R.MEM_ECC.base = 0x40030100 := rfl
  have hstride : R.MEM_ECC.stride = 4 := rfl
  have hall : ∀ x ∈ [R.MEM_FAILED.addr 0 0, R.MEM_STAT.addr 0 0, R.MEM_COLLIDE.addr 0 0] ++ ringRegs devRing, x < 0x40030100 ∨ 0x40030200 ≤ x := by
    decide
  rintro rfl
  have hrange : R.MEM_ECC.addr 0 b < 0x40030100 ∨ 0x40030200 ≤ R.MEM_ECC.addr 0 b := ha.elim (hall _) (fun h => .inr (by omega))
  unfold Fld.addr at hrange
  rw [hecc, hstride] at hrange
  omega

theorem Work.bankFailed_accessed (b' : Nat) (hm : m < 16) : (w.accessed b m cycles).bankFailed b' = w.bankFailed b' := by
  unfold Work.bankFailed Work.flag
  rw [Work.get_accessed _ _ _ _ F.MEM_FAILED_FAILED 0 0 (memCnt_ne m 0 _ (by decide) hm rfl),
    Work.get_accessed _ _ _ _ F.MEM_STAT_AON_FAILED 0 0 (memCnt_ne m 0 _ (by decide) hm rfl)]

end

/-! ### The access, case by case -/

section
variable (b m addr wait : Nat) (hmay : masterMay b m = true) (hbank : bankOf (addr / 4 * 4) = some b) (hgood : w.bankFailed b = false)
include hmay hbank hgood

omit hgood in
theorem bankAccess_eq (flips : Nat) (hit met : Bool)
    (hmet : (!w.bankFailed b && hit && decide (16 ≤ b) && decide (b < 24) && decide (m < 8)) = met) :
    bankAccess w b m addr wait flips hit =
      (let u := w.accessed b m (w.accessCycles (addr / 4 * 4) wait met)
      let u := if !met then u
        else if u.flag F.MEM_COLLIDE_COLLIDE then u.putFlag F.MEM_COLLIDE_MORE true
        else (u.raise F.MEM_COLLIDE_COLLIDE).put F.MEM_COLLIDE_OFFSET (addr / 4 * 4 - 0x01000000)
      if flips = 0 ∨ !(!w.bankFailed b) then u
      else if flips = 1 then u.correctWord b (addr / 4 * 4) (m == 7)
      else u.failBank b (addr / 4 * 4) (m == 7)) := by
  subst hmet
  unfold bankAccess
  rw [if_neg (by simp [hmay, hbank])]
  rfl

/-- An access that meets no other write. -/
theorem bankAccess_alone (flips : Nat) (hit : Bool) (hmet : hit = false ∨ b < 16 ∨ 24 ≤ b ∨ 8 ≤ m) :
    bankAccess w b m addr wait flips hit =
      if flips = 0 then w.accessed b m (w.accessCycles (addr / 4 * 4) wait false)
      else if flips = 1 then (w.accessed b m (w.accessCycles (addr / 4 * 4) wait false)).correctWord b (addr / 4 * 4) (m == 7)
      else (w.accessed b m (w.accessCycles (addr / 4 * 4) wait false)).failBank b (addr / 4 * 4) (m == 7) := by
  have hnot : (!w.bankFailed b && hit && decide (16 ≤ b) && decide (b < 24) && decide (m < 8)) = false := by
    obtain h | h | h | h := hmet
    · rw [h, Bool.and_false]; rfl
    · rw [decide_eq_false (show ¬ 16 ≤ b by omega), Bool.and_false]; rfl
    · rw [decide_eq_false (show ¬ b < 24 by omega), Bool.and_false]; rfl
    · rw [decide_eq_false (show ¬ m < 8 by omega), Bool.and_false]
  rw [bankAccess_eq w b m addr wait hmay hbank flips hit false hnot, hgood]
  simp only [Bool.not_false, Bool.not_true, Bool.false_eq_true, or_false, if_true]

/-- The first write on port A that meets one of port B (R382). -/
theorem bankAccess_meets (hlow : 16 ≤ b) (hhigh : b < 24) (hm : m < 8) (hfirst : w.flag F.MEM_COLLIDE_COLLIDE = false) :
    bankAccess w b m addr wait 0 true =
      ((w.accessed b m (w.accessCycles (addr / 4 * 4) wait true)).put F.MEM_COLLIDE_COLLIDE 1).put F.MEM_COLLIDE_OFFSET (addr / 4 * 4 - 0x01000000) := by
  have hmet : (!w.bankFailed b && true && decide (16 ≤ b) && decide (b < 24) && decide (m < 8)) = true := by
    simp [hgood, hlow, hhigh, hm]
  have hflag : (w.accessed b m (w.accessCycles (addr / 4 * 4) wait true)).flag F.MEM_COLLIDE_COLLIDE = false := by
    unfold Work.flag at hfirst ⊢
    rw [Work.get_accessed _ _ _ _ _ _ _ (memCnt_ne m 0 _ (by decide) (by omega) rfl), hfirst]
  rw [bankAccess_eq w b m addr wait hmay hbank 0 true true hmet]
  simp only [Bool.not_true, Bool.false_eq_true, if_false, hflag, true_or, if_true, Work.raise_eq]

end

/-! ### A corrected word (R375, R377) -/

/-- A word corrected, before its entry. -/
def Work.corrected (w : Work) (b addr : Nat) : Work :=
  (((w.countUp F.MEM_ECC_CORR 0 b).put F.MEM_STAT_ECC_CORR 1).ev 0x68).modMem (fun m => { m with writeback := m.writeback ++ [(addr, 0)] })

/-- The first of a bank's corrections in 1,024 boundaries is told in an entry. -/
theorem Work.correctWord_cases (b addr : Nat) (steep : Bool) :
    w.correctWord b addr steep = w.corrected b addr ∨
      ∃ (g : MemSys → MemSys) (e : Entry), (∀ x, (g x).writeback = x.writeback) ∧
        w.correctWord b addr steep = ((w.corrected b addr).modMem g).raiseEntry devRing e := by
  have hcases : ∀ (u : Work) (first : Bool) (run : MemSys → Tab Nat),
      (if first then (u.modMem (fun m => { m with corrRun := run m })).memEntry b 1 steep addr else u) = u ∨
        ∃ (g : MemSys → MemSys) (e : Entry), (∀ x, (g x).writeback = x.writeback) ∧
          (if first then (u.modMem (fun m => { m with corrRun := run m })).memEntry b 1 steep addr else u) =
            (u.modMem g).raiseEntry devRing e := by
    intro u first run
    cases first with
    | false => exact .inl rfl
    | true =>
      rw [if_pos rfl, Work.memEntry_eq]
      exact .inr ⟨fun m => { m with corrRun := run m }, _, fun _ => rfl, rfl⟩
  unfold Work.correctWord Work.corrected
  rw [Work.raise_eq]
  generalize ((w.countUp F.MEM_ECC_CORR 0 b).put F.MEM_STAT_ECC_CORR 1).ev 0x68 = u
  exact hcases (u.modMem (fun m => { m with writeback := m.writeback ++ [(addr, 0)] })) _ _

section
variable (b addr : Nat)

theorem Work.reg_corrected (a : Nat) (hecc : a ≠ R.MEM_ECC.addr 0 b) (hstat : a ≠ R.MEM_STAT.addr 0 0) : (w.corrected b addr).reg a = w.reg a := by
  unfold Work.corrected
  rw [Work.reg_modMem, Work.reg_ev, Work.reg_put_ne _ F.MEM_STAT_ECC_CORR 1 0 0 a hstat, Work.countUp_eq,
    Work.reg_put_ne _ F.MEM_ECC_CORR _ 0 b a hecc]

theorem Work.corrected_shows (hb : b ≤ 32) :
    (w.corrected b addr).get F.MEM_ECC_CORR 0 b = Nat.min 65535 (w.get F.MEM_ECC_CORR 0 b + 1) ∧
      (w.corrected b addr).flag F.MEM_STAT_ECC_CORR = true ∧
      (w.corrected b addr).get F.MEM_STAT_AON_FAILED = w.get F.MEM_STAT_AON_FAILED ∧
      (w.corrected b addr).memsys.writeback = w.memsys.writeback ++ [(addr, 0)] ∧ (w.corrected b addr).wr = w.wr ∧
      (w.corrected b addr).dring = w.dring := by
  have hecc : R.MEM_ECC.addr 0 b ≠ R.MEM_STAT.addr 0 0 := memEcc_ne b _ (.inl (by decide)) hb
  unfold Work.corrected
  refine ⟨?_, ?_, ?_, ?_, ?_, ?_⟩
  · rw [Work.get_modMem, Work.get_ev, Work.get_put_addr _ F.MEM_STAT_ECC_CORR F.MEM_ECC_CORR 1 0 0 0 b hecc, Work.countUp_eq,
      Work.get_put_same _ _ _ _ _ (by decide), satAdd_mod]
    rfl
  · rw [Work.flag_modMem, Work.flag_ev, Work.flag_put_same _ _ _ _ _ rfl]
    rfl
  · rw [Work.get_modMem, Work.get_ev, Work.get_put_apart _ _ _ _ _ (by decide), Work.countUp_eq,
      Work.get_put_addr _ F.MEM_ECC_CORR F.MEM_STAT_AON_FAILED _ 0 b 0 0 hecc.symm]
  · rw [Work.modMem_memsys, Work.ev_memsys, Work.put_memsys, Work.countUp_eq, Work.put_memsys]
  · rw [Work.modMem_wr, Work.ev_wr, Work.put_wr, Work.countUp_eq, Work.put_wr]
  · rw [Work.modMem_dring, Work.ev_dring, Work.put_dring, Work.countUp_eq, Work.put_dring]

end

/-! ### A bank that fails (R376, R377) -/

/-- A bank marked failed, as it is shown before the device's ring tells it. -/
def Work.marked (w : Work) (b : Nat) : Work :=
  ((w.countUp F.MEM_ECC_UNCORR 0 b).put F.MEM_STAT_ECC_UNCORR 1).put F.MEM_FAILED_FAILED
    (setBit (((w.countUp F.MEM_ECC_UNCORR 0 b).put F.MEM_STAT_ECC_UNCORR 1).get F.MEM_FAILED_FAILED) b true)

theorem Work.failBank_marks (b addr : Nat) (steep : Bool) (hgood : w.bankFailed b = false) (hb : b < 32) :
    ∃ e, w.failBank b addr steep = ((w.marked b).raiseEntry devRing e).bankReaction b := by
  unfold Work.failBank Work.markFailed
  rw [if_neg (by rw [hgood]; exact Bool.false_ne_true)]
  dsimp only
  rw [Work.raise_eq, if_pos hb, Work.entryNow_eq]
  exact ⟨_, rfl⟩

section
variable (b : Nat)

theorem Work.reg_marked (a : Nat) (hecc : a ≠ R.MEM_ECC.addr 0 b) (hstat : a ≠ R.MEM_STAT.addr 0 0) (hfailed : a ≠ R.MEM_FAILED.addr 0 0) :
    (w.marked b).reg a = w.reg a := by
  unfold Work.marked
  rw [Work.reg_put_ne _ F.MEM_FAILED_FAILED _ 0 0 a hfailed, Work.reg_put_ne _ F.MEM_STAT_ECC_UNCORR 1 0 0 a hstat, Work.countUp_eq,
    Work.reg_put_ne _ F.MEM_ECC_UNCORR _ 0 b a hecc]

theorem Work.marked_shows (hb : b < 32) :
    (w.marked b).get F.MEM_ECC_UNCORR 0 b = Nat.min 255 (w.get F.MEM_ECC_UNCORR 0 b + 1) ∧
      (w.marked b).flag F.MEM_STAT_ECC_UNCORR = true ∧ bitOf ((w.marked b).get F.MEM_FAILED_FAILED) b = true := by
  have hecc : R.MEM_ECC.addr 0 b ≠ R.MEM_STAT.addr 0 0 := memEcc_ne b _ (.inl (by decide)) (by omega)
  have hfailed : R.MEM_ECC.addr 0 b ≠ R.MEM_FAILED.addr 0 0 := memEcc_ne b _ (.inl (by decide)) (by omega)
  have hwidth : F.MEM_FAILED_FAILED.hi - F.MEM_FAILED_FAILED.lo + 1 = 32 := rfl
  unfold Work.marked
  refine ⟨?_, ?_, ?_⟩
  · rw [Work.get_put_addr _ F.MEM_FAILED_FAILED F.MEM_ECC_UNCORR _ 0 0 0 b hfailed,
      Work.get_put_addr _ F.MEM_STAT_ECC_UNCORR F.MEM_ECC_UNCORR 1 0 0 0 b hecc, Work.countUp_eq, Work.get_put_same _ _ _ _ _ (by decide), satAdd_mod]
    rfl
  · rw [Work.flag_put_apart _ _ _ _ _ (by decide), Work.flag_put_same _ _ _ _ _ rfl]
    rfl
  · rw [Work.get_put_same _ _ _ _ _ (by decide), hwidth, bitOf_mod _ _ _ hb, bitOf_setBit_same]

theorem Work.marked_same : (w.marked b).wr = w.wr ∧ (w.marked b).dring = w.dring ∧ (w.marked b).pair = w.pair ∧
    (w.marked b).memsys = w.memsys ∧ ∀ n, (w.marked b).chan n = w.chan n := by
  unfold Work.marked
  simp only [Work.countUp_eq, Work.put_wr, Work.put_dring, Work.put_pair, Work.put_memsys, Work.chan_put, implies_true, and_self]

end

/-! ### What the rest of the device does then (R376) -/

theorem Work.bankReaction_system (b : Nat) (hb : b < 16) : w.bankReaction b = w := by
  unfold Work.bankReaction
  rw [if_neg (by omega), if_neg (by omega)]

theorem Work.bankReaction_channel (ch : Fin 8) (hrun : (w.chan ch).running = true) (hactive : bitOf w.activeMask ch = true) :
    w.bankReaction (16 + ch.val) = (w.askQuiesce ch).modPair (fun p => { p with release := setBit p.release ch true }) := by
  have hch : 16 + ch.val - 16 = ch.val := by omega
  have hmask : (w.askQuiesce ch).activeMask = w.activeMask := by
    unfold Work.askQuiesce
    exact iteInduction (motive := fun v : Work => v.activeMask = w.activeMask) (fun _ => rfl) (fun _ => rfl)
  unfold Work.bankReaction
  rw [if_pos (by omega), hch]
  dsimp only
  rw [if_pos hrun, hmask, if_pos hactive]

theorem Work.bankReaction_engine (b e : Nat) (he : e < 4) (hb : b = 24 + 2 * e ∨ b = 25 + 2 * e) : w.bankReaction b = w.failEngine e := by
  have hindex : (b - 24) / 2 = e := by omega
  unfold Work.bankReaction
  rw [if_neg (by omega), if_pos (by omega), hindex]

/-- What asks a channel to quiesce is nothing but the channel's. -/
theorem Work.askQuiesce_same (ch : Fin 8) : (w.askQuiesce ch).wr = w.wr ∧ (∀ a, (w.askQuiesce ch).reg a = w.reg a) ∧
    ∀ v : Work, v.chan ch = w.chan ch → (w.askQuiesce ch).chan ch = (v.askQuiesce ch).chan ch := by
  refine ⟨?_, fun a => ?_, fun v hv => ?_⟩
  · unfold Work.askQuiesce
    exact iteInduction (motive := fun v : Work => v.wr = w.wr) (fun _ => rfl) (fun _ => rfl)
  · unfold Work.askQuiesce
    exact iteInduction (motive := fun v : Work => v.reg a = w.reg a) (fun _ => rfl) (fun _ => rfl)
  · unfold Work.askQuiesce
    dsimp only
    rw [hv]
    split
    · rw [Work.modKiln_eq, Work.modKiln_eq, Work.chan_modChan_fin, Work.chan_modChan_fin, hv]
    · exact hv.symm

/-- A Tun engine changed. -/
theorem Work.tunEng_modTun (e : Fin 4) (f : TunEng → TunEng) : (w.modTun e f).tunEng e = f (w.tunEng e) := by
  unfold Work.modTun Work.tunEng
  simp

/-- A Tun engine whose bank failed (R376). -/
theorem Work.failEngine_shows (e : Fin 4) :
    bitOf ((w.failEngine e).get F.TUN_CTL_RUNNING) e = false ∧ (w.failEngine e).get F.TUN_STAT_STATE 0 e = 0 ∧
      ((w.failEngine e).tunEng e).wdog = some false ∧ ((w.failEngine e).tunEng e).port = Port.init ∧
      (∀ {a : Nat}, rollApart a = true → (w.failEngine e).reg a = w.reg a) := by
  have hctl : ∀ e : Fin 4, F.TUN_CTL_RUNNING.addr 0 0 ≠ F.TUN_STAT_STATE.addr 0 e := by decide
  have hwidth : F.TUN_CTL_RUNNING.hi - F.TUN_CTL_RUNNING.lo + 1 = 4 := rfl
  have htun : ∀ (v : Work) (f : Fld) (x n k : Nat), (v.put f x n k).tunEng e = v.tunEng e := fun _ _ _ _ _ => rfl
  have hset : ∀ (v : Work) (p : Port), ((v.setPort (.tun e) p).tunEng e).port = p := fun v p =>
    congrArg TunEng.port (v.tunEng_modTun e (fun t => { t with port := p }))
  have hshow : ∀ v : Work, (v.showPort (.tun e)).tunEng e = v.tunEng e := fun _ => rfl
  have hport : ((w.portReset (.tun e)).tunEng e).port = Port.init := by
    unfold Work.portReset
    rw [hshow, hset]
  have hmod : ∀ (v : Work) (f : TunEng → TunEng) (a : Nat), (v.modTun e f).reg a = v.reg a := fun _ _ _ => rfl
  unfold Work.failEngine
  dsimp only
  refine ⟨?_, ?_, ?_, ?_, fun {a} ha => ?_⟩
  · rw [Work.get_put_addr _ _ _ _ _ _ _ _ (hctl e), Work.get_put_same _ _ _ _ _ (by decide), hwidth, bitOf_mod _ _ _ e.isLt, bitOf_setBit_same]
  · rw [Work.get_put_same _ _ _ _ _ (by decide)]
    rfl
  · rw [htun, htun, Work.tunEng_modTun]
  · rw [htun, htun, Work.tunEng_modTun]
    exact hport
  · obtain ⟨hstat, hrun⟩ := imageArea_of_tun ha e e.isLt
    rw [Work.reg_put_ne _ F.TUN_STAT_STATE _ 0 e a hstat, Work.reg_put_ne _ F.TUN_CTL_RUNNING _ 0 0 a hrun, hmod, Work.reg_portReset_tun _ ha]

end

end Sys2Proof.Machine
end

section
/-! PROOF. The memory banks and Steep (R375 to R389). -/

namespace Sys2Proof.Machine

section
variable (w : Work)

/-! ### Windows (R383) -/

/-- What decides which banks Steep tests. -/
def testFields : List Fld := [F.MEM_FAILED_FAILED, F.MEM_STAT_AON_FAILED, F.STEEP_MASK_MASK, F.STEEP_CFG_AON_EN]

theorem Work.steepFrom_congr {v w : Work} (h : ∀ f ∈ testFields, v.get f = w.get f) (i : Nat) : v.steepFrom i = w.steepFrom i := by
  have htests : v.steepTests = w.steepTests := by
    funext b
    unfold Work.steepTests Work.bankFailed Work.flag
    rw [h F.MEM_FAILED_FAILED (by decide), h F.MEM_STAT_AON_FAILED (by decide), h F.STEEP_MASK_MASK (by decide),
      h F.STEEP_CFG_AON_EN (by decide)]
  unfold Work.steepFrom
  rw [htests]

/-- The next window is borrowed. -/
theorem steepWindowStart_borrows (i : Nat) (hruns : w.steepRuns = true) (hfree : w.flag F.STEEP_STAT_BORROWED = false)
    (hnext : w.steepFrom w.memsys.nextWin = some i) (hdue : w.paceDue = true) :
    ∃ cyc us : MemSys → Nat, steepWindowStart w =
      ((((w.modMem (fun m => { m with nextWin := i + 1, dirty := false, restarts := 0, startCyc := cyc m, sweepUs := us m })).put
        F.STEEP_STAT_BANK (i / 512)).put F.STEEP_STAT_WINDOW (i % 512)).put F.STEEP_STAT_PHASE 2).put F.STEEP_STAT_BORROWED 1 := by
  unfold steepWindowStart
  rw [if_neg (by simp [hruns, hfree, hdue]), hnext]
  exact ⟨_, _, rfl⟩

/-- The window that is borrowed, returned. -/
def Work.returned (w : Work) : Work := (w.put F.STEEP_STAT_BORROWED 0).put F.STEEP_STAT_PHASE 0

theorem Work.reg_returned (a : Nat) (h : a ≠ R.STEEP_STAT.addr 0 0) : w.returned.reg a = w.reg a := by
  unfold Work.returned
  rw [Work.reg_put_ne _ F.STEEP_STAT_PHASE 0 0 0 a h, Work.reg_put_ne _ F.STEEP_STAT_BORROWED 0 0 0 a h]

theorem Work.get_returned (f : Fld) (h : f.addr 0 0 ≠ R.STEEP_STAT.addr 0 0) : w.returned.get f = w.get f := by
  unfold Work.get
  rw [Work.reg_returned _ _ h]

theorem Work.returned_shows : w.returned.flag F.STEEP_STAT_BORROWED = false ∧ w.returned.get F.STEEP_STAT_PHASE = 0 := by
  unfold Work.returned
  rw [Work.flag_put_apart _ _ _ _ _ (by decide), Work.flag_put_same _ _ _ _ _ rfl, Work.get_put_same _ _ _ _ _ (by decide)]
  exact ⟨rfl, rfl⟩

theorem Work.returned_same : w.returned.wr = w.wr ∧ w.returned.memsys = w.memsys ∧ w.returned.dring = w.dring := by
  unfold Work.returned
  simp only [Work.put_wr, Work.put_memsys, Work.put_dring, and_self]

theorem Work.windowReturn_eq : w.windowReturn =
    match w.steepFrom w.memsys.nextWin with
    | some _ => w.returned
    | none => ((w.returned.countUp F.STEEP_CNT_SWEEPS).put F.STEEP_SKIP_SWEEP_S
        (Nat.min 65535 (roundOpen ((w.nowUs : Int) - w.memsys.sweepUs) 1000000).toNat)).modMem (fun m => { m with nextWin := 0 }) := by
  have hfields : ∀ f ∈ testFields, f.addr 0 0 ≠ R.STEEP_STAT.addr 0 0 := by decide
  have hfrom : w.returned.steepFrom w.returned.memsys.nextWin = w.steepFrom w.memsys.nextWin := by
    rw [w.returned_same.2.1]
    exact Work.steepFrom_congr (fun f hf => w.get_returned f (hfields f hf)) _
  have hus : w.returned.nowUs = w.nowUs ∧ w.returned.memsys.sweepUs = w.memsys.sweepUs := by
    unfold Work.nowUs Work.returned
    simp only [Work.put_nowCyc, Work.put_memsys, and_self]
  rw [← hfrom, ← hus.1, ← hus.2]
  unfold Work.windowReturn
  rw [Work.putFlag_eq]
  generalize hv : w.returned = v
  unfold Work.returned at hv
  rw [← hv]
  rfl

theorem Work.windowReturn_more (h : (w.steepFrom w.memsys.nextWin).isSome = true) : w.windowReturn = w.returned := by
  obtain ⟨i, hi⟩ := Option.isSome_iff_exists.mp h
  rw [Work.windowReturn_eq, hi]

theorem Work.windowReturn_last (h : w.steepFrom w.memsys.nextWin = none) :
    ∃ x, w.windowReturn = ((w.returned.countUp F.STEEP_CNT_SWEEPS).put F.STEEP_SKIP_SWEEP_S x).modMem (fun m => { m with nextWin := 0 }) := by
  rw [Work.windowReturn_eq, h]
  exact ⟨_, rfl⟩

/-- Whether or not it was the last window. -/
theorem Work.windowReturn_shows :
    w.windowReturn.flag F.STEEP_STAT_BORROWED = false ∧ w.windowReturn.wr = w.wr ∧ w.windowReturn.memsys.steepFailed = w.memsys.steepFailed ∧
      ∀ a, a ∉ [R.STEEP_STAT.addr 0 0, R.STEEP_CNT.addr 0 0, R.STEEP_SKIP.addr 0 0] → w.windowReturn.reg a = w.reg a := by
  obtain ⟨hwr, hmemsys, -⟩ := w.returned_same
  rw [Work.windowReturn_eq]
  split
  · refine ⟨w.returned_shows.1, hwr, by rw [hmemsys], fun a ha => ?_⟩
    exact w.reg_returned a (fun e => ha (e ▸ List.mem_cons_self))
  · refine ⟨?_, ?_, ?_, fun a ha => ?_⟩
    · rw [Work.flag_modMem, Work.flag_put_apart _ _ _ _ _ (by decide), Work.countUp_eq, Work.flag_put_apart _ _ _ _ _ (by decide), w.returned_shows.1]
    · rw [Work.modMem_wr, Work.put_wr, Work.countUp_eq, Work.put_wr, hwr]
    · rw [Work.modMem_memsys, Work.put_memsys, Work.countUp_eq, Work.put_memsys, hmemsys]
    · simp only [List.mem_cons, List.not_mem_nil, or_false, not_or] at ha
      obtain ⟨hstat, hcnt, hskip⟩ := ha
      rw [Work.reg_modMem, Work.reg_put_ne _ F.STEEP_SKIP_SWEEP_S _ 0 0 a hskip, Work.countUp_eq, Work.reg_put_ne _ F.STEEP_CNT_SWEEPS _ 0 0 a hcnt,
        Work.reg_returned _ _ hstat]

/-! ### What the March found (R387) -/

/-- The March is through and its window restored. -/
def Work.marched (w : Work) : Work := (w.put F.STEEP_STAT_BORROWED 0).ev 0x69

theorem steepMarchEnd_judges (bad : List (Nat × Nat)) (hborrowed : w.flag F.STEEP_STAT_BORROWED = true) (hclean : w.memsys.dirty = false) :
    steepMarchEnd w bad = (bad.foldl (fun v x => v.judgeWord (w.windowBase + 4 * (x.1 % 64)) x.2) w.marched).windowReturn := by
  unfold steepMarchEnd
  rw [if_neg (by simp [hborrowed, hclean])]
  rfl

theorem Work.reg_marched (a : Nat) (h : a ≠ R.STEEP_STAT.addr 0 0) : w.marched.reg a = w.reg a := by
  unfold Work.marched
  rw [Work.reg_ev, Work.reg_put_ne _ F.STEEP_STAT_BORROWED 0 0 0 a h]

theorem Work.get_marched (f : Fld) (h : fieldsApart F.STEEP_STAT_BORROWED f = true) : w.marched.get f = w.get f := by
  unfold Work.marched
  rw [Work.get_ev, Work.get_put_apart _ _ _ _ _ h]

theorem Work.marched_same : w.marched.wr = w.wr ∧ w.marched.memsys = w.memsys ∧ w.marched.dring = w.dring := by
  unfold Work.marched
  rw [Work.ev_wr, Work.ev_memsys, Work.ev_dring, Work.put_wr, Work.put_memsys, Work.put_dring]
  exact ⟨rfl, rfl, rfl⟩

/-- The failing bits of a word of 39. -/
def failingBits (bits : Nat) : List Nat := (List.range 39).filter (fun i => bitOf bits i)

theorem failingBits_one (i : Fin 39) : failingBits (2 ^ i.val) = [i.val] := by decide +revert +kernel

theorem failingBits_two (i j : Fin 39) (h : i < j) : failingBits (2 ^ i.val + 2 ^ j.val) = [i.val, j.val] := by decide +revert +kernel

/-- One bit of a word fails for the first time. -/
theorem Work.judgeWord_new (addr bits i : Nat) (hbits : failingBits bits = [i]) (hnew : tabFind w.memsys.hard addr = none) :
    ∃ e, w.judgeWord addr bits = (((w.setReg (R.STEEP_FAULT.addr 0 0) addr).modMem (fun m => { m with hard := tabInsert m.hard addr i })).put
      F.STEEP_ERR_HARD_BIT 1).raiseEntry devRing e := by
  unfold failingBits at hbits
  unfold Work.judgeWord
  simp only [hbits, Work.setReg_memsys, hnew, Work.memEntry_eq, Work.raise_eq]
  exact ⟨_, rfl⟩

/-- Two bits of a word fail. -/
theorem Work.judgeWord_fails (addr bits i j : Nat) (hbits : failingBits bits = [i, j]) :
    w.judgeWord addr bits = (((w.setReg (R.STEEP_FAULT.addr 0 0) addr).modMem
      (fun m => { m with steepFailed := setBit m.steepFailed (w.get F.STEEP_STAT_BANK) true })).put F.STEEP_ERR_FAIL 1).failBank
        (w.get F.STEEP_STAT_BANK) addr true := by
  unfold failingBits at hbits
  unfold Work.judgeWord
  simp only [hbits, Work.raise_eq]

/-! ### Restarts (R385, R386) -/

/-- A restart counted. -/
def Work.restarted (w : Work) : Work :=
  ((w.countUp F.STEEP_CNT_RESTARTS).ev 0x6A).modMem (fun m => { m with dirty := false, restarts := m.restarts + 1 })

theorem Work.restarted_shows :
    w.restarted.get F.STEEP_CNT_RESTARTS = Nat.min 65535 (w.get F.STEEP_CNT_RESTARTS + 1) ∧
      w.restarted.memsys = { w.memsys with dirty := false, restarts := w.memsys.restarts + 1 } ∧ w.restarted.wr = w.wr ∧
      w.restarted.dring = w.dring ∧ ∀ a, a ≠ R.STEEP_CNT.addr 0 0 → w.restarted.reg a = w.reg a := by
  unfold Work.restarted
  refine ⟨?_, ?_, ?_, ?_, fun a ha => ?_⟩
  · rw [Work.get_modMem, Work.get_ev, Work.countUp_eq, Work.get_put_same _ _ _ _ _ (by decide), satAdd_mod]
    rfl
  · rw [Work.modMem_memsys, Work.ev_memsys, Work.countUp_eq, Work.put_memsys]
  · rw [Work.modMem_wr, Work.ev_wr, Work.countUp_eq, Work.put_wr]
  · rw [Work.modMem_dring, Work.ev_dring, Work.countUp_eq, Work.put_dring]
  · rw [Work.reg_modMem, Work.reg_ev, Work.countUp_eq, Work.reg_put_ne _ F.STEEP_CNT_RESTARTS _ 0 0 a ha]

section
variable (hborrowed : w.flag F.STEEP_STAT_BORROWED = true) (hdirty : w.memsys.dirty = true)
include hborrowed hdirty

theorem steepRestart_again (h : w.memsys.restarts < 3) : steepRestart w = w.restarted := by
  have hfew : w.restarted.memsys.restarts < 4 := by
    rw [w.restarted_shows.2.1]
    exact Nat.succ_lt_succ h
  unfold steepRestart
  rw [if_neg (by simp [hborrowed, hdirty])]
  exact if_pos hfew

/-- The fourth restart skips the window. -/
theorem steepRestart_skips (h : 3 ≤ w.memsys.restarts) :
    ∃ e, steepRestart w = ((((w.restarted.countUp F.STEEP_SKIP_SKIPS).put F.STEEP_ERR_SKIP 1).ev 0x6B).raiseEntry devRing e).windowReturn := by
  have hmany : ¬ w.restarted.memsys.restarts < 4 := by
    rw [w.restarted_shows.2.1]
    exact fun h' => absurd (Nat.lt_of_succ_lt_succ h') (Nat.not_lt.mpr h)
  unfold steepRestart
  rw [if_neg (by simp [hborrowed, hdirty])]
  show ∃ e, (if w.restarted.memsys.restarts < 4 then w.restarted else
    (let v := ((w.restarted.countUp F.STEEP_SKIP_SKIPS).raise F.STEEP_ERR_SKIP).ev 0x6B
     (v.memEntry (v.get F.STEEP_STAT_BANK) 5 false v.windowBase).windowReturn)) = _
  rw [if_neg hmany]
  simp only [Work.raise_eq, Work.memEntry_eq]
  exact ⟨_, rfl⟩

end

end

end Sys2Proof.Machine
end

section
/-! PROOF. The obligation on the memory banks and Steep (R375 to R389). -/

namespace Sys2Proof.Machine

/-! ### A bank fails at an access -/

/-- The state after an access that finds two wrong bits, but for what the rest of the device does. -/
theorem bankAccess_fails (w : Work) (b m addr wait : Nat) (hmay : masterMay b m = true) (hbank : bankOf (addr / 4 * 4) = some b)
    (hgood : w.bankFailed b = false) (hm : m < 16) (hb : b < 32) :
    ∃ (cycles : Nat) (e : Entry), bankAccess w b m addr wait 2 false = (((w.accessed b m cycles).marked b).raiseEntry devRing e).bankReaction b := by
  refine ⟨w.accessCycles (addr / 4 * 4) wait false, ?_⟩
  rw [bankAccess_alone w b m addr wait hmay hbank hgood 2 false (.inl rfl), if_neg (by decide), if_neg (by decide)]
  exact Work.failBank_marks _ b _ _ (by rw [Work.bankFailed_accessed _ _ _ _ _ hm]; exact hgood) hb

/-- MEM_FAILED shows the bank after its entry, too. -/
theorem Work.failed_raised (w : Work) (b : Nat) (e : Entry) (hb : b < 32) :
    bitOf (((w.marked b).raiseEntry devRing e).get F.MEM_FAILED_FAILED) b = true := by
  rw [Work.get_raiseEntry_devRing _ e F.MEM_FAILED_FAILED (by decide)]
  exact (w.marked_shows b hb).2.2

section
variable (s : State) (b m addr wait : Nat) (hmay : masterMay b m = true) (hbank : bankOf (addr / 4 * 4) = some b)
  (hgood : s.work.bankFailed b = false)
include hmay hbank hgood

theorem memoryAndSteep_alone (hit : Bool) (hmet : hit = false ∨ b < 16 ∨ 24 ≤ b ∨ 8 ≤ m)
    (t : State) (ht : t = s.run (fun w => bankAccess w b m addr wait 0 hit)) :
    t.get F.MEM_CNT_CYCLES 0 m = Nat.min (2 ^ 32 - 1) (s.get F.MEM_CNT_CYCLES 0 m + wait + (s.work.borrowed (addr / 4 * 4)).toNat) ∧
      t.dev.memsys = { s.dev.memsys with rr := tabInsert s.dev.memsys.rr b m } ∧ s.sameRegs t [R.MEM_CNT.addr 0 m] ∧ t.mem = s.mem := by
  subst ht
  have hrun := (bankAccess_alone s.work b m addr wait hmay hbank hgood 0 hit hmet).trans (if_pos rfl)
  have hsum : ∀ x : Nat, x + s.work.accessCycles (addr / 4 * 4) wait false = x + wait + (s.work.borrowed (addr / 4 * 4)).toNat := fun x => by
    unfold Work.accessCycles
    rw [Bool.toNat_false]
    omega
  refine ⟨?_, ?_, fun a ha => ?_, s.run_mem_of_wr _ ?_⟩
  · rw [State.run_get, hrun, Work.accessed_count, hsum, State.work_get]
  · rw [State.run_dev, hrun, Work.toDev_memsys, Work.accessed_memsys]
    rfl
  · rw [State.run_reg, hrun, Work.reg_accessed _ _ _ _ _ (fun e => ha (e ▸ List.mem_cons_self)), State.work_reg]
  · rw [hrun, (s.work.accessed_same b m _).1, State.work_wr]

variable (hm : m < 16)
include hm

theorem memoryAndSteep_meets (hlow : 16 ≤ b) (hhigh : b < 24) (hm8 : m < 8) (hfirst : s.flag F.MEM_COLLIDE_COLLIDE = false)
    (t : State) (ht : t = s.run (fun w => bankAccess w b m addr wait 0 true)) :
    t.get F.MEM_CNT_CYCLES 0 m = Nat.min (2 ^ 32 - 1) (s.get F.MEM_CNT_CYCLES 0 m + wait + (s.work.borrowed (addr / 4 * 4)).toNat + 1) ∧
      t.flag F.MEM_COLLIDE_COLLIDE = true ∧ t.get F.MEM_COLLIDE_OFFSET = addr / 4 * 4 - 0x01000000 ∧
      s.sameRegs t [R.MEM_CNT.addr 0 m, R.MEM_COLLIDE.addr 0 0] ∧ t.mem = s.mem := by
  subst ht
  have hrun := bankAccess_meets s.work b m addr wait hmay hbank hgood hlow hhigh hm8 hfirst
  have hne : R.MEM_CNT.addr 0 m ≠ R.MEM_COLLIDE.addr 0 0 := (memCnt_ne m 0 R.MEM_COLLIDE (by decide) hm rfl).symm
  have hsum : ∀ x : Nat, x + s.work.accessCycles (addr / 4 * 4) wait true = x + wait + (s.work.borrowed (addr / 4 * 4)).toNat + 1 := fun x => by
    unfold Work.accessCycles
    rw [Bool.toNat_true]
    omega
  have hwidth : F.MEM_COLLIDE_OFFSET.hi - F.MEM_COLLIDE_OFFSET.lo + 1 = 20 := rfl
  have hoffset : addr / 4 * 4 - 0x01000000 < 2 ^ 20 := by
    unfold bankOf at hbank
    split at hbank
    · cases hbank; omega
    · split at hbank
      · omega
      · split at hbank
        · cases hbank; omega
        · split at hbank
          · cases hbank; omega
          · cases hbank
  refine ⟨?_, ?_, ?_, fun a ha => ?_, s.run_mem_of_wr _ ?_⟩
  · rw [State.run_get, hrun, Work.get_put_addr _ F.MEM_COLLIDE_OFFSET F.MEM_CNT_CYCLES _ 0 0 0 m hne,
      Work.get_put_addr _ F.MEM_COLLIDE_COLLIDE F.MEM_CNT_CYCLES 1 0 0 0 m hne, Work.accessed_count, hsum, State.work_get]
  · rw [State.run_flag, hrun, Work.flag_put_apart _ _ _ _ _ (by decide), Work.flag_put_same _ _ _ _ _ rfl]
    rfl
  · rw [State.run_get, hrun, Work.get_put_same _ _ _ _ _ (by decide), hwidth]
    exact Nat.mod_eq_of_lt hoffset
  · simp only [List.mem_cons, List.not_mem_nil, or_false, not_or] at ha
    rw [State.run_reg, hrun, Work.reg_put_ne _ F.MEM_COLLIDE_OFFSET _ 0 0 a ha.2, Work.reg_put_ne _ F.MEM_COLLIDE_COLLIDE 1 0 0 a ha.2,
      Work.reg_accessed _ _ _ _ _ ha.1, State.work_reg]
  · rw [hrun, Work.put_wr, Work.put_wr, (s.work.accessed_same b m _).1, State.work_wr]

theorem memoryAndSteep_corrects (t : State) (ht : t = s.run (fun w => bankAccess w b m addr wait 1 false)) :
    t.get F.MEM_ECC_CORR 0 b = Nat.min 65535 (s.get F.MEM_ECC_CORR 0 b + 1) ∧ t.flag F.MEM_STAT_ECC_CORR = true ∧
      t.dev.memsys.writeback = s.dev.memsys.writeback ++ [(addr / 4 * 4, 0)] ∧ s.work.bankFailed b = t.work.bankFailed b ∧
      s.sameRegs t (R.MEM_CNT.addr 0 m :: R.MEM_ECC.addr 0 b :: R.MEM_STAT.addr 0 0 :: ringRegs devRing) ∧ s.sameMemButNext t devRing := by
  subst ht
  have hb := bankOf_le hbank
  obtain ⟨cycles, hcycles⟩ : ∃ c, s.work.accessCycles (addr / 4 * 4) wait false = c := ⟨_, rfl⟩
  obtain ⟨u, hu⟩ : ∃ u, u = (s.work.accessed b m cycles).corrected b (addr / 4 * 4) := ⟨_, rfl⟩
  have hrun : bankAccess s.work b m addr wait 1 false = (s.work.accessed b m cycles).correctWord b (addr / 4 * 4) (m == 7) := by
    rw [bankAccess_alone s.work b m addr wait hmay hbank hgood 1 false (.inl rfl), if_neg (by decide), if_pos rfl, hcycles]
  obtain ⟨hcorr, hflag, haon, hback, hwr, hdring⟩ := (s.work.accessed b m cycles).corrected_shows b (addr / 4 * 4) hb
  obtain ⟨hwr', hdring', -, -⟩ := s.work.accessed_same b m cycles
  have hecc : ∀ a ∈ [R.MEM_FAILED.addr 0 0, R.MEM_STAT.addr 0 0, R.MEM_COLLIDE.addr 0 0] ++ ringRegs devRing, R.MEM_ECC.addr 0 b ≠ a :=
    fun a ha => memEcc_ne b a (.inl ha) hb
  rw [← hu] at hcorr hflag haon hback hwr hdring
  have hreg : ∀ a, a ≠ R.MEM_CNT.addr 0 m → a ≠ R.MEM_ECC.addr 0 b → a ≠ R.MEM_STAT.addr 0 0 → u.reg a = s.reg a := by
    intro a hcnt hecc hstat
    rw [hu, Work.reg_corrected _ _ _ _ hecc hstat, Work.reg_accessed _ _ _ _ _ hcnt, State.work_reg]
  have hfailed : u.get F.MEM_FAILED_FAILED = s.get F.MEM_FAILED_FAILED := by
    unfold Work.get
    rw [hreg _ (memCnt_ne m 0 _ (by decide) hm rfl) (hecc _ (by decide)).symm (by decide)]
    rfl
  have haon' : u.get F.MEM_STAT_AON_FAILED = s.get F.MEM_STAT_AON_FAILED :=
    haon.trans (s.work.get_accessed b m cycles F.MEM_STAT_AON_FAILED 0 0 (memCnt_ne m 0 _ (by decide) hm rfl))
  have hcount : u.get F.MEM_ECC_CORR 0 b = Nat.min 65535 (s.get F.MEM_ECC_CORR 0 b + 1) := by
    rw [hcorr, s.work.get_accessed b m cycles F.MEM_ECC_CORR 0 b (memEcc_ne_cnt b m hm), State.work_get]
  have hshown : ∀ v : Work, v.get F.MEM_FAILED_FAILED = u.get F.MEM_FAILED_FAILED → v.get F.MEM_STAT_AON_FAILED = u.get F.MEM_STAT_AON_FAILED →
      s.work.bankFailed b = v.bankFailed b := by
    intro v hv hv'
    unfold Work.bankFailed Work.flag
    rw [hv, hv', hfailed, haon', State.work_get, State.work_get]
  have hwriteback : u.memsys.writeback = s.dev.memsys.writeback ++ [(addr / 4 * 4, 0)] := by
    rw [hback, Work.accessed_memsys]
    rfl
  obtain hcase | ⟨g, e, hg, hcase⟩ := (s.work.accessed b m cycles).correctWord_cases b (addr / 4 * 4) (m == 7)
  · have hend : bankAccess s.work b m addr wait 1 false = u := hrun.trans (hcase.trans hu.symm)
    refine ⟨?_, ?_, ?_, ?_, fun a ha => ?_, s.sameMemButNext_of_wr _ devRing ?_⟩
    · rw [State.run_get, hend, hcount]
    · rw [State.run_flag, hend, hflag]
    · rw [State.run_dev, hend, Work.toDev_memsys, hwriteback]
    · refine hshown _ ?_ ?_
      · rw [State.work_get, State.run_get, hend]
      · rw [State.work_get, State.run_get, hend]
    · simp only [List.mem_cons, not_or] at ha
      obtain ⟨hcnt, hecc', hstat, -⟩ := ha
      rw [State.run_reg, hend, hreg a hcnt hecc' hstat]
    · rw [hend, hwr, hwr', State.work_wr]
  · have hend : bankAccess s.work b m addr wait 1 false = (u.modMem g).raiseEntry devRing e := hrun.trans (hcase.trans (by rw [hu]))
    have hring : ∀ f : Fld, ringFree f = true ∧ f.base < 0x40100000 → ((u.modMem g).raiseEntry devRing e).get f = u.get f := fun f hf => by
      rw [Work.get_raiseEntry_devRing _ e f hf, Work.get_modMem]
    refine ⟨?_, ?_, ?_, ?_, fun a ha => ?_, s.sameMemButNext_devRing _ _ e (congrArg Work.wr hend) ?_ ?_⟩
    · have hout : R.MEM_ECC.addr 0 b ∉ ringRegs devRing := fun h => hecc _ (List.mem_append_right _ h) rfl
      rw [State.run_get, hend]
      rw [← hcount]
      exact congrArg (fun x => bitsOf x F.MEM_ECC_CORR.hi F.MEM_ECC_CORR.lo) (Work.reg_raiseEntry (u.modMem g) devRing e _ hout)
    · rw [State.run_flag, hend, Work.flag_raiseEntry_devRing _ e F.MEM_STAT_ECC_CORR (by decide), Work.flag_modMem, hflag]
    · obtain ⟨d, hd, -⟩ := (u.modMem g).memsys_raiseEntry devRing e
      rw [State.run_dev, hend, Work.toDev_memsys, hd]
      exact (hg u.memsys).trans hwriteback
    · refine hshown _ ?_ ?_
      · rw [State.work_get, State.run_get, hend, hring _ (by decide)]
      · rw [State.work_get, State.run_get, hend, hring _ (by decide)]
    · simp only [List.mem_cons, not_or] at ha
      obtain ⟨hcnt, hecc', hstat, hout⟩ := ha
      rw [State.run_reg, hend, Work.reg_raiseEntry _ devRing e _ hout, Work.reg_modMem, hreg a hcnt hecc' hstat]
    · rw [Work.modMem_wr, hwr, hwr', State.work_wr]
    · rw [Work.modMem_dring, hdring, hdring']
      rfl

theorem memoryAndSteep_failsSystem (hb : b < 16) (t : State) (ht : t = s.run (fun w => bankAccess w b m addr wait 2 false)) :
    t.get F.MEM_ECC_UNCORR 0 b = Nat.min 255 (s.get F.MEM_ECC_UNCORR 0 b + 1) ∧ t.flag F.MEM_STAT_ECC_UNCORR = true ∧
      bitOf (t.get F.MEM_FAILED_FAILED) b = true ∧
      s.sameRegs t ([R.MEM_CNT.addr 0 m, R.MEM_ECC.addr 0 b, R.MEM_STAT.addr 0 0, R.MEM_FAILED.addr 0 0] ++ ringRegs devRing) ∧
      s.sameMemButNext t devRing := by
  subst ht
  obtain ⟨cycles, e, hrun⟩ := bankAccess_fails s.work b m addr wait hmay hbank hgood hm (by omega)
  rw [Work.bankReaction_system _ b hb] at hrun
  obtain ⟨huncorr, hflag, -⟩ := (s.work.accessed b m cycles).marked_shows b (by omega)
  obtain ⟨hwr, hdring, -, -, -⟩ := (s.work.accessed b m cycles).marked_same b
  obtain ⟨hwr', hdring', -, -⟩ := s.work.accessed_same b m cycles
  have hout : R.MEM_ECC.addr 0 b ∉ ringRegs devRing := fun h => memEcc_ne b _ (.inl (List.mem_append_right _ h)) (by omega) rfl
  refine ⟨?_, ?_, ?_, fun a ha => ?_, s.sameMemButNext_devRing _ _ e (congrArg Work.wr hrun) ?_ ?_⟩
  · rw [State.run_get, hrun, ← State.work_get, ← s.work.get_accessed b m cycles F.MEM_ECC_UNCORR 0 b (memEcc_ne_cnt b m hm), ← huncorr]
    exact congrArg (fun x => bitsOf x F.MEM_ECC_UNCORR.hi F.MEM_ECC_UNCORR.lo) (Work.reg_raiseEntry _ devRing e _ hout)
  · rw [State.run_flag, hrun, Work.flag_raiseEntry_devRing _ e F.MEM_STAT_ECC_UNCORR (by decide), hflag]
  · rw [State.run_get, hrun]
    exact Work.failed_raised _ b e (by omega)
  · simp only [List.mem_append, List.mem_cons, List.not_mem_nil, or_false, not_or] at ha
    obtain ⟨⟨hcnt, hecc, hstat, hfailed⟩, hring⟩ := ha
    rw [State.run_reg, hrun, Work.reg_raiseEntry _ devRing e _ hring, Work.reg_marked _ _ _ hecc hstat hfailed,
      Work.reg_accessed _ _ _ _ _ hcnt, State.work_reg]
  · rw [hwr, hwr', State.work_wr]
  · rw [hdring, hdring']
    rfl

theorem memoryAndSteep_failsChannel (ch : Fin 8) (hb : b = 16 + ch.val) (hrunning : (s.chan ch).running = true)
    (hactive : bitOf (s.get F.PAIR_STAT_ACTIVE) ch = true) (t : State) (ht : t = s.run (fun w => bankAccess w b m addr wait 2 false)) :
    bitOf (t.get F.MEM_FAILED_FAILED) b = true ∧ bitOf t.dev.pair.release ch = true ∧ t.chan ch = (s.work.askQuiesce ch).chan ch ∧
      s.sameMemButNext t devRing := by
  subst ht
  obtain ⟨cycles, e, hrun⟩ := bankAccess_fails s.work b m addr wait hmay hbank hgood hm (by omega)
  obtain ⟨hwr, hdring, hpair, -, hchan⟩ := (s.work.accessed b m cycles).marked_same b
  obtain ⟨hwr', hdring', hpair', hchan'⟩ := s.work.accessed_same b m cycles
  obtain ⟨u, hu⟩ : ∃ u, u = ((s.work.accessed b m cycles).marked b).raiseEntry devRing e := ⟨_, rfl⟩
  have hsame : u.chan ch = s.work.chan ch := by
    rw [hu, Work.chan_raiseEntry_ne _ devRing _ _ (ne_of_lt ch.isLt), hchan, hchan']
  have hstat : R.PAIR_STAT.addr 0 0 ≠ R.MEM_ECC.addr 0 b := (memEcc_ne b _ (.inr (by decide)) (by omega)).symm
  have hmask : u.activeMask = s.get F.PAIR_STAT_ACTIVE := by
    unfold Work.activeMask
    rw [hu, Work.get_raiseEntry_devRing _ e F.PAIR_STAT_ACTIVE (by decide)]
    exact congrArg (fun x => bitsOf x F.PAIR_STAT_ACTIVE.hi F.PAIR_STAT_ACTIVE.lo)
      ((Work.reg_marked _ b _ hstat (by decide) (by decide)).trans (s.work.reg_accessed b m cycles _ (memCnt_ne m 0 R.PAIR_STAT (by decide) hm rfl)))
  rw [← hu, hb, Work.bankReaction_channel u ch (by rw [hsame]; exact hrunning) (by rw [hmask]; exact hactive), ← hb] at hrun
  obtain ⟨hquiesceWr, hquiesceReg, hquiesceChan⟩ := u.askQuiesce_same ch
  refine ⟨?_, ?_, ?_, s.sameMemButNext_devRing _ _ e (((congrArg Work.wr hrun).trans ((Work.modPair_wr ..).trans hquiesceWr)).trans (congrArg Work.wr hu)) ?_ ?_⟩
  · rw [State.run_get, hrun, Work.get_modPair]
    refine (congrArg (fun x => bitOf (bitsOf x F.MEM_FAILED_FAILED.hi F.MEM_FAILED_FAILED.lo) b) (hquiesceReg _)).trans ?_
    rw [hu]
    exact Work.failed_raised _ b e (by omega)
  · rw [State.run_dev, hrun, Work.toDev_pair, Work.modPair_pair]
    exact bitOf_setBit_same ..
  · rw [State.run_chan, hrun, Work.chan_modPair]
    exact hquiesceChan s.work hsame.symm
  · rw [hwr, hwr', State.work_wr]
  · rw [hdring, hdring']
    rfl

theorem memoryAndSteep_failsEngine (e : Fin 4) (hb : b = 24 + 2 * e.val ∨ b = 25 + 2 * e.val)
    (t : State) (ht : t = s.run (fun w => bankAccess w b m addr wait 2 false)) :
    bitOf (t.get F.MEM_FAILED_FAILED) b = true ∧ bitOf (t.get F.TUN_CTL_RUNNING) e = false ∧ t.get F.TUN_STAT_STATE 0 e = 0 ∧
      (t.work.tunEng e).wdog = some false ∧ (t.work.tunEng e).port = Port.init := by
  subst ht
  obtain ⟨cycles, entry, hrun⟩ := bankAccess_fails s.work b m addr wait hmay hbank hgood hm (by omega)
  rw [Work.bankReaction_engine _ b e e.isLt hb] at hrun
  obtain ⟨hstopped, hstate, hwdog, hport, hreg⟩ := (((s.work.accessed b m cycles).marked b).raiseEntry devRing entry).failEngine_shows e
  have htun : ∀ f : Work → Work, (s.run f).work.tunEng e = (f s.work).tunEng e := fun _ => rfl
  refine ⟨?_, ?_, ?_, ?_, ?_⟩
  · rw [State.run_get, hrun]
    refine (congrArg (fun x => bitOf (bitsOf x F.MEM_FAILED_FAILED.hi F.MEM_FAILED_FAILED.lo) b) (hreg (by decide))).trans ?_
    exact Work.failed_raised _ b entry (by omega)
  · rw [State.run_get, hrun, hstopped]
  · rw [State.run_get, hrun, hstate]
  · rw [htun, hrun, hwdog]
  · rw [htun, hrun, hport]

end

/-! ### Steep -/

theorem testFields_march : ∀ f ∈ testFields, fieldsApart F.STEEP_STAT_BORROWED f = true := by decide

theorem testFields_steep : ∀ f ∈ testFields, (ringFree f = true ∧ f.base < 0x40100000) ∧ f.addr 0 0 ≠ R.STEEP_STAT.addr 0 0 ∧
    f.addr 0 0 ≠ R.STEEP_ERR.addr 0 0 ∧ f.addr 0 0 ≠ R.STEEP_FAULT.addr 0 0 := by decide

section
variable (s : State) (hborrowed : s.flag F.STEEP_STAT_BORROWED = true)
include hborrowed

theorem memoryAndSteep_clean (hclean : s.dev.memsys.dirty = false) (hmore : (s.work.steepFrom s.dev.memsys.nextWin).isSome = true)
    (t : State) (ht : t = s.run (fun w => steepMarchEnd w [])) :
    t.flag F.STEEP_STAT_BORROWED = false ∧ t.get F.STEEP_STAT_PHASE = 0 ∧ t.dev.memsys = s.dev.memsys ∧
      s.sameRegs t [R.STEEP_STAT.addr 0 0] ∧ t.mem = s.mem := by
  subst ht
  obtain ⟨hwr, hmemsys, -⟩ := s.work.marched_same
  obtain ⟨hwr', hmemsys', -⟩ := s.work.marched.returned_same
  have hrun : steepMarchEnd s.work [] = s.work.marched.returned := by
    rw [steepMarchEnd_judges s.work [] hborrowed hclean]
    refine Work.windowReturn_more _ ?_
    rw [List.foldl_nil, hmemsys, Work.steepFrom_congr (fun f hf => s.work.get_marched f (testFields_march f hf))]
    exact hmore
  obtain ⟨hfree, hphase⟩ := s.work.marched.returned_shows
  refine ⟨?_, ?_, ?_, fun a ha => ?_, s.run_mem_of_wr _ ?_⟩
  · rw [State.run_flag, hrun, hfree]
  · rw [State.run_get, hrun, hphase]
  · rw [State.run_dev, hrun, Work.toDev_memsys, hmemsys', hmemsys]
    rfl
  · have hne : a ≠ R.STEEP_STAT.addr 0 0 := fun e => ha (e ▸ List.mem_cons_self)
    rw [State.run_reg, hrun, Work.reg_returned _ _ hne, Work.reg_marched _ _ hne, State.work_reg]
  · rw [hrun, hwr', hwr, State.work_wr]

theorem memoryAndSteep_sweep (hclean : s.dev.memsys.dirty = false) (hlast : s.work.steepFrom s.dev.memsys.nextWin = none)
    (t : State) (ht : t = s.run (fun w => steepMarchEnd w [])) :
    t.flag F.STEEP_STAT_BORROWED = false ∧ t.get F.STEEP_CNT_SWEEPS = Nat.min 65535 (s.get F.STEEP_CNT_SWEEPS + 1) ∧
      t.dev.memsys = { s.dev.memsys with nextWin := 0 } ∧
      s.sameRegs t [R.STEEP_STAT.addr 0 0, R.STEEP_CNT.addr 0 0, R.STEEP_SKIP.addr 0 0] ∧ t.mem = s.mem := by
  subst ht
  obtain ⟨hwr, hmemsys, -⟩ := s.work.marched_same
  have hnone : s.work.marched.steepFrom s.work.marched.memsys.nextWin = none := by
    rw [hmemsys, Work.steepFrom_congr (fun f hf => s.work.get_marched f (testFields_march f hf))]
    exact hlast
  have hjudged := steepMarchEnd_judges s.work [] hborrowed hclean
  rw [List.foldl_nil] at hjudged
  obtain ⟨x, hreturn⟩ := s.work.marched.windowReturn_last hnone
  have hrun := hjudged.trans hreturn
  obtain ⟨hfree, hwr', -, hreg⟩ := s.work.marched.windowReturn_shows
  obtain ⟨-, hmemsys', -⟩ := s.work.marched.returned_same
  refine ⟨?_, ?_, ?_, fun a ha => ?_, s.run_mem_of_wr _ ?_⟩
  · rw [State.run_flag, hjudged, hfree]
  · rw [State.run_get, hrun, Work.get_modMem, Work.get_put_addr _ F.STEEP_SKIP_SWEEP_S F.STEEP_CNT_SWEEPS _ 0 0 0 0 (by decide), Work.countUp_eq,
      Work.get_put_same _ _ _ _ _ (by decide), satAdd_mod, Work.get_returned _ _ (by decide), Work.get_marched _ _ (by decide), State.work_get]
    rfl
  · rw [State.run_dev, hrun, Work.toDev_memsys, Work.modMem_memsys, Work.put_memsys, Work.countUp_eq, Work.put_memsys, hmemsys', hmemsys]
    rfl
  · have hne : a ≠ R.STEEP_STAT.addr 0 0 := fun e => ha (e ▸ List.mem_cons_self)
    rw [State.run_reg, hjudged, hreg a ha, Work.reg_marched _ _ hne, State.work_reg]
  · rw [hjudged, hwr', hwr, State.work_wr]

theorem memoryAndSteep_hardBit (hclean : s.dev.memsys.dirty = false) (hmore : (s.work.steepFrom s.dev.memsys.nextWin).isSome = true)
    (k : Fin 64) (i : Fin 39) (hnew : tabFind s.dev.memsys.hard (s.work.windowBase + 4 * k.val) = none)
    (t : State) (ht : t = s.run (fun w => steepMarchEnd w [(k.val, 2 ^ i.val)])) :
    t.flag F.STEEP_ERR_HARD_BIT = true ∧ t.reg (R.STEEP_FAULT.addr 0 0) = s.work.windowBase + 4 * k.val ∧
      t.dev.memsys = { s.dev.memsys with hard := tabInsert s.dev.memsys.hard (s.work.windowBase + 4 * k.val) i } ∧
      t.get F.MEM_FAILED_FAILED = s.get F.MEM_FAILED_FAILED ∧
      s.sameRegs t (R.STEEP_STAT.addr 0 0 :: R.STEEP_ERR.addr 0 0 :: R.STEEP_FAULT.addr 0 0 :: ringRegs devRing) ∧
      s.sameMemButNext t devRing := by
  subst ht
  obtain ⟨hwr, hmemsys, hdring⟩ := s.work.marched_same
  have hk : k.val % 64 = k.val := Nat.mod_eq_of_lt k.isLt
  obtain ⟨addr, haddr⟩ : ∃ a, a = s.work.windowBase + 4 * k.val := ⟨_, rfl⟩
  rw [← haddr] at hnew ⊢
  obtain ⟨e, hjudge⟩ := s.work.marched.judgeWord_new addr (2 ^ i.val) i (failingBits_one i) (by rw [hmemsys]; exact hnew)
  obtain ⟨u, hu⟩ : ∃ u, u = ((s.work.marched.setReg (R.STEEP_FAULT.addr 0 0) addr).modMem
      (fun m => { m with hard := tabInsert m.hard addr i })).put F.STEEP_ERR_HARD_BIT 1 := ⟨_, rfl⟩
  rw [← hu] at hjudge
  have hjudged : steepMarchEnd s.work [(k.val, 2 ^ i.val)] = (u.raiseEntry devRing e).windowReturn := by
    rw [steepMarchEnd_judges s.work _ hborrowed hclean, List.foldl_cons, List.foldl_nil, hk, ← haddr, hjudge]
  have hreg : ∀ a, a ≠ R.STEEP_STAT.addr 0 0 → a ≠ R.STEEP_ERR.addr 0 0 → a ≠ R.STEEP_FAULT.addr 0 0 → u.reg a = s.reg a := by
    intro a hstat herr hfault
    rw [hu, Work.reg_put_ne _ F.STEEP_ERR_HARD_BIT 1 0 0 a herr, Work.reg_modMem, Work.reg_setReg_ne _ _ _ _ hfault, Work.reg_marched _ _ hstat,
      State.work_reg]
  have hfree : u.flag F.STEEP_STAT_BORROWED = false := by
    rw [hu, Work.flag_put_apart _ _ _ _ _ (by decide), Work.flag_modMem]
    unfold Work.flag Work.get
    rw [Work.reg_setReg_ne _ _ _ _ (by decide)]
    exact (Work.flag_ev ..).trans (Work.flag_put_same _ F.STEEP_STAT_BORROWED 0 0 0 rfl)
  have hmem : u.memsys = { s.dev.memsys with hard := tabInsert s.dev.memsys.hard addr i } := by
    rw [hu, Work.put_memsys, Work.modMem_memsys, Work.setReg_memsys, hmemsys]
    rfl
  obtain ⟨d, hd, hdirty⟩ := u.memsys_raiseEntry devRing e
  have hraised : (u.raiseEntry devRing e).memsys = u.memsys := by rw [hd, hdirty hfree]
  have hfields : ∀ f ∈ testFields, (u.raiseEntry devRing e).get f = s.work.get f := by
    intro f hf
    obtain ⟨hring, hstat, herr, hfault⟩ := testFields_steep f hf
    rw [Work.get_raiseEntry_devRing _ e f hring]
    exact congrArg (fun x => bitsOf x f.hi f.lo) (hreg _ hstat herr hfault)
  have hreturn : (u.raiseEntry devRing e).windowReturn = (u.raiseEntry devRing e).returned := by
    refine Work.windowReturn_more _ ?_
    rw [hraised, hmem, Work.steepFrom_congr hfields]
    exact hmore
  have hrun := hjudged.trans hreturn
  obtain ⟨hwr', hmemsys', -⟩ := (u.raiseEntry devRing e).returned_same
  refine ⟨?_, ?_, ?_, ?_, fun a ha => ?_, s.sameMemButNext_devRing _ u e ((congrArg Work.wr hrun).trans hwr') ?_ ?_⟩
  · rw [State.run_flag, hrun]
    unfold Work.flag
    rw [Work.get_returned _ _ (by decide), Work.get_raiseEntry_devRing _ e _ (by decide), hu, Work.get_put_same _ _ _ _ _ (by decide)]
    rfl
  · rw [State.run_reg, hrun, Work.reg_returned _ _ (by decide), Work.reg_raiseEntry _ devRing e _ (by decide), hu,
      Work.reg_put_ne _ F.STEEP_ERR_HARD_BIT 1 0 0 _ (by decide), Work.reg_modMem, Work.reg_setReg_same]
  · rw [State.run_dev, hrun, Work.toDev_memsys, hmemsys', hraised, hmem]
  · rw [State.run_get, hrun, Work.get_returned _ _ (by decide), hfields F.MEM_FAILED_FAILED (by decide), State.work_get]
  · simp only [List.mem_cons, not_or] at ha
    obtain ⟨hstat, herr, hfault, hring⟩ := ha
    rw [State.run_reg, hrun, Work.reg_returned _ _ hstat, Work.reg_raiseEntry _ devRing e _ hring, hreg a hstat herr hfault]
  · rw [hu, Work.put_wr, Work.modMem_wr, Work.setReg_wr, hwr, State.work_wr]
  · rw [hu, Work.put_dring, Work.modMem_dring, Work.setReg_dring, hdring]
    rfl

theorem memoryAndSteep_bankFails (hclean : s.dev.memsys.dirty = false) (k : Fin 64) (i j : Fin 39) (hij : i < j) (b : Nat)
    (hbank : b = s.get F.STEEP_STAT_BANK) (hb : b < 16) (hgood : s.work.bankFailed b = false)
    (t : State) (ht : t = s.run (fun w => steepMarchEnd w [(k.val, 2 ^ i.val + 2 ^ j.val)])) :
    t.flag F.STEEP_ERR_FAIL = true ∧ t.reg (R.STEEP_FAULT.addr 0 0) = s.work.windowBase + 4 * k.val ∧
      bitOf (t.get F.MEM_FAILED_FAILED) b = true ∧ bitOf t.dev.memsys.steepFailed b = true ∧ t.flag F.STEEP_STAT_BORROWED = false ∧
      s.sameRegs t ([R.STEEP_STAT.addr 0 0, R.STEEP_ERR.addr 0 0, R.STEEP_FAULT.addr 0 0, R.STEEP_CNT.addr 0 0, R.STEEP_SKIP.addr 0 0,
        R.MEM_ECC.addr 0 b, R.MEM_STAT.addr 0 0, R.MEM_FAILED.addr 0 0] ++ ringRegs devRing) ∧
      s.sameMemButNext t devRing := by
  subst ht
  obtain ⟨hwr, hmemsys, hdring⟩ := s.work.marched_same
  have hk : k.val % 64 = k.val := Nat.mod_eq_of_lt k.isLt
  obtain ⟨addr, haddr⟩ : ∃ a, a = s.work.windowBase + 4 * k.val := ⟨_, rfl⟩
  rw [← haddr]
  have hnamed : s.work.marched.get F.STEEP_STAT_BANK = b := (s.work.get_marched _ (by decide)).trans hbank.symm
  obtain ⟨u, hu⟩ : ∃ u, u = ((s.work.marched.setReg (R.STEEP_FAULT.addr 0 0) addr).modMem
      (fun m => { m with steepFailed := setBit m.steepFailed b true })).put F.STEEP_ERR_FAIL 1 := ⟨_, rfl⟩
  have hjudge := s.work.marched.judgeWord_fails addr (2 ^ i.val + 2 ^ j.val) i j (failingBits_two i j hij)
  rw [hnamed, ← hu] at hjudge
  have hreg : ∀ a, a ≠ R.STEEP_STAT.addr 0 0 → a ≠ R.STEEP_ERR.addr 0 0 → a ≠ R.STEEP_FAULT.addr 0 0 → u.reg a = s.reg a := by
    intro a hstat herr hfault
    rw [hu, Work.reg_put_ne _ F.STEEP_ERR_FAIL 1 0 0 a herr, Work.reg_modMem, Work.reg_setReg_ne _ _ _ _ hfault, Work.reg_marched _ _ hstat,
      State.work_reg]
  have hgood' : u.bankFailed b = false := by
    unfold Work.bankFailed at hgood ⊢
    rw [if_pos (by omega)] at hgood ⊢
    rw [← hgood]
    exact congrArg (fun x => bitOf (bitsOf x F.MEM_FAILED_FAILED.hi F.MEM_FAILED_FAILED.lo) b) (hreg _ (by decide) (by decide) (by decide))
  obtain ⟨e, hfail⟩ := u.failBank_marks b addr true hgood' (by omega)
  rw [Work.bankReaction_system _ b hb] at hfail
  have hrun : steepMarchEnd s.work [(k.val, 2 ^ i.val + 2 ^ j.val)] = ((u.marked b).raiseEntry devRing e).windowReturn := by
    rw [steepMarchEnd_judges s.work _ hborrowed hclean, List.foldl_cons, List.foldl_nil, hk, ← haddr, hjudge, hfail]
  obtain ⟨hfree, hwr', hsteep, hframe⟩ := ((u.marked b).raiseEntry devRing e).windowReturn_shows
  obtain ⟨hmwr, hmdring, -, hmmem, -⟩ := u.marked_same b
  have hecc : ∀ f ∈ [R.STEEP_ERR, R.STEEP_FAULT], f.addr 0 0 ≠ R.MEM_ECC.addr 0 b := by
    intro f hf h
    have hrange : ∀ f ∈ [R.STEEP_ERR, R.STEEP_FAULT], 0x40030400 ≤ f.addr 0 0 := by decide
    have := hrange f hf
    rw [h] at this
    have hbase : R.MEM_ECC.base = 0x40030100 := rfl
    have hstride : R.MEM_ECC.stride = 4 := rfl
    unfold Fld.addr at this
    rw [hbase, hstride] at this
    omega
  obtain ⟨d, hd, -⟩ := (u.marked b).memsys_raiseEntry devRing e
  refine ⟨?_, ?_, ?_, ?_, ?_, fun a ha => ?_, s.sameMemButNext_devRing _ _ e ((congrArg Work.wr hrun).trans hwr') ?_ ?_⟩
  · rw [State.run_flag, hrun]
    have hput : u.flag F.STEEP_ERR_FAIL = true := by
      rw [hu, Work.flag_put_same _ _ _ _ _ rfl]
      rfl
    rw [← hput]
    refine congrArg (fun x => bitsOf x F.STEEP_ERR_FAIL.hi F.STEEP_ERR_FAIL.lo == 1) ?_
    rw [hframe _ (by decide), Work.reg_raiseEntry _ devRing e _ (by decide)]
    exact Work.reg_marked u b _ (hecc R.STEEP_ERR (by decide)) (by decide) (by decide)
  · rw [State.run_reg, hrun, hframe _ (by decide), Work.reg_raiseEntry _ devRing e _ (by decide),
      Work.reg_marked _ b _ (hecc R.STEEP_FAULT (by decide)) (by decide) (by decide), hu, Work.reg_put_ne _ F.STEEP_ERR_FAIL 1 0 0 _ (by decide),
      Work.reg_modMem, Work.reg_setReg_same]
  · rw [State.run_get, hrun]
    refine (congrArg (fun x => bitOf (bitsOf x F.MEM_FAILED_FAILED.hi F.MEM_FAILED_FAILED.lo) b) (hframe _ (by decide))).trans ?_
    exact u.failed_raised b e (by omega)
  · rw [State.run_dev, hrun, Work.toDev_memsys, hsteep, hd]
    show bitOf (u.marked b).memsys.steepFailed b = true
    rw [hmmem, hu, Work.put_memsys, Work.modMem_memsys]
    exact bitOf_setBit_same ..
  · rw [State.run_flag, hrun, hfree]
  · simp only [List.mem_append, List.mem_cons, List.not_mem_nil, or_false, not_or] at ha
    obtain ⟨⟨hstat, herr, hfault, hcnt, hskip, hecc, hmstat, hfailed⟩, hring⟩ := ha
    rw [State.run_reg, hrun, hframe a (by simp [hstat, hcnt, hskip]), Work.reg_raiseEntry _ devRing e _ hring,
      Work.reg_marked _ b _ hecc hmstat hfailed, hreg a hstat herr hfault]
  · rw [hmwr, hu, Work.put_wr, Work.modMem_wr, Work.setReg_wr, hwr, State.work_wr]
  · rw [hmdring, hu, Work.put_dring, Work.modMem_dring, Work.setReg_dring, hdring]
    rfl

end

end Sys2Proof.Machine
end


section
/-! PROOF: the write-back, the counters' clear, and Steep's windows and restarts (R375, R380, R383 to R387). -/
namespace Sys2Proof.Machine

section
variable (s : State)

theorem memoryAndSteep_writeback (b : Nat) (x : Nat × Nat) (hx : s.dev.memsys.writeback.find? (fun y => bankOf y.1 == some b) = some x)
    (t : State) (ht : t = s.run (fun w => eccWriteback w b)) :
    t.dev.memsys = { s.dev.memsys with writeback := s.dev.memsys.writeback.erase x } ∧ s.sameRegs t [] ∧ t.mem = s.mem := by
  subst ht
  have hrun : eccWriteback s.work b = s.work.modMem (fun m => { m with writeback := m.writeback.erase x }) := by
    have hfound : s.work.memsys.writeback.find? (fun y => bankOf y.1 == some b) = some x := hx
    unfold eccWriteback
    rw [hfound]
  refine ⟨?_, fun a _ => ?_, s.run_mem_of_wr _ ?_⟩
  · rw [State.run_dev, hrun, Work.toDev_memsys, Work.modMem_memsys]
    rfl
  · rw [State.run_reg, hrun, Work.reg_modMem, State.work_reg]
  · rw [hrun, Work.modMem_wr, State.work_wr]

theorem rowAt_memCtl : rowAt (R.MEM_CTL.addr 0 0) = some (rowOf R.MEM_CTL.base, 0) := by decide +kernel

theorem memCtl_apart : (rowOf R.MEM_CTL.base).base = R.MEM_CTL.base ∧ R.MEM_CTL.base ≠ R.SEQ_CTL.base ∧ isChanReg (R.MEM_CTL.addr 0 0) = false ∧
    ¬ (R.MEM_CTL.addr 0 0 < 0x40008000 ∧ 0x40000000 ≤ R.MEM_CTL.addr 0 0) ∧
    ¬ (0x40020000 ≤ R.MEM_CTL.addr 0 0 ∧ R.MEM_CTL.addr 0 0 < 0x40030000) ∧
    ¬ (0x40040000 ≤ R.MEM_CTL.addr 0 0 ∧ R.MEM_CTL.addr 0 0 < 0x40050000) ∧
    R.MEM_CTL.base ≠ R.HOST_CFG.base ∧ R.MEM_CTL.base ≠ R.PAIR_HAND.base := by decide +kernel

theorem memoryAndSteep_cntClr (v : Word) (haccept : s.accepts (R.MEM_CTL.addr 0 0) v.toNat = true) (hclr : bitOf v.toNat 0 = true)
    (t : State) (ht : t = s.run (fun w => w.regWrite (R.MEM_CTL.addr 0 0) v)) :
    t.dev.memsys = { s.dev.memsys with cntClr := true } ∧ s.sameRegs t [] ∧ t.mem = s.mem := by
  subst ht
  obtain ⟨hbase, hseq, hchan, hsys, hsec, hmon, hhost, hhand⟩ := memCtl_apart
  have hrun : s.work.regWrite (R.MEM_CTL.addr 0 0) v = s.work.modMem (fun m => { m with cntClr := true }) := by
    rw [s.regWrite_of_row _ v _ _ haccept rowAt_memCtl]
    unfold Work.putWord Work.putDev Work.regW
    simp only [hbase, hseq, hchan, hsys, hsec, hmon, hhost, hhand, hclr, if_false, if_true, Bool.false_eq_true]
    rfl
  refine ⟨?_, fun a _ => ?_, s.run_mem_of_wr _ ?_⟩
  · rw [State.run_dev, hrun, Work.toDev_memsys, Work.modMem_memsys]
    rfl
  · rw [State.run_reg, hrun, Work.reg_modMem, State.work_reg]
  · rw [hrun, Work.modMem_wr, State.work_wr]

theorem testFields_skip : ∀ f ∈ testFields, f.addr 0 0 ∉ [R.STEEP_CNT.addr 0 0, R.STEEP_SKIP.addr 0 0, R.STEEP_ERR.addr 0 0] := by decide

theorem memoryAndSteep_windowStart (i : Nat) (hruns : s.work.steepRuns = true) (hfree : s.flag F.STEEP_STAT_BORROWED = false)
    (hnext : s.work.steepFrom s.dev.memsys.nextWin = some i) (hi : i < sweepEnd) (hdue : s.work.paceDue = true)
    (t : State) (ht : t = s.run steepWindowStart) :
    t.get F.STEEP_STAT_BANK = i / 512 ∧ t.get F.STEEP_STAT_WINDOW = i % 512 ∧ t.get F.STEEP_STAT_PHASE = 2 ∧
      t.flag F.STEEP_STAT_BORROWED = true ∧ t.dev.memsys.nextWin = i + 1 ∧ t.dev.memsys.dirty = false ∧
      t.dev.memsys.restarts = 0 ∧ s.sameRegs t [R.STEEP_STAT.addr 0 0] ∧ t.mem = s.mem := by
  subst ht
  obtain ⟨cyc, us, hrun⟩ := steepWindowStart_borrows s.work i hruns hfree hnext hdue
  have hbank : i / 512 < 2 ^ (F.STEEP_STAT_BANK.hi - F.STEEP_STAT_BANK.lo + 1) := by
    unfold sweepEnd at hi
    have hwidth : F.STEEP_STAT_BANK.hi - F.STEEP_STAT_BANK.lo + 1 = 6 := rfl
    rw [hwidth]
    omega
  have hwindow : i % 512 < 2 ^ (F.STEEP_STAT_WINDOW.hi - F.STEEP_STAT_WINDOW.lo + 1) := Nat.mod_lt _ (by decide)
  have hmemsys : (steepWindowStart s.work).memsys =
      { s.work.memsys with nextWin := i + 1, dirty := false, restarts := 0, startCyc := cyc s.work.memsys, sweepUs := us s.work.memsys } := by
    rw [hrun, Work.put_memsys, Work.put_memsys, Work.put_memsys, Work.put_memsys, Work.modMem_memsys]
  refine ⟨?_, ?_, ?_, ?_, ?_, ?_, ?_, fun a ha => ?_, s.run_mem_of_wr _ ?_⟩
  · rw [State.run_get, hrun, Work.get_put_apart _ F.STEEP_STAT_BORROWED F.STEEP_STAT_BANK 1 0 (by decide),
      Work.get_put_apart _ F.STEEP_STAT_PHASE F.STEEP_STAT_BANK 2 0 (by decide),
      Work.get_put_apart _ F.STEEP_STAT_WINDOW F.STEEP_STAT_BANK _ 0 (by decide), Work.get_put_same _ _ _ _ _ (by decide), Nat.mod_eq_of_lt hbank]
  · rw [State.run_get, hrun, Work.get_put_apart _ F.STEEP_STAT_BORROWED F.STEEP_STAT_WINDOW 1 0 (by decide),
      Work.get_put_apart _ F.STEEP_STAT_PHASE F.STEEP_STAT_WINDOW 2 0 (by decide), Work.get_put_same _ _ _ _ _ (by decide),
      Nat.mod_eq_of_lt hwindow]
  · rw [State.run_get, hrun, Work.get_put_apart _ F.STEEP_STAT_BORROWED F.STEEP_STAT_PHASE 1 0 (by decide), Work.get_put_same _ _ _ _ _ (by decide)]
    rfl
  · rw [State.run_flag, hrun, Work.flag_put_same _ _ _ _ _ rfl]
    rfl
  · rw [State.run_dev, Work.toDev_memsys, hmemsys]
  · rw [State.run_dev, Work.toDev_memsys, hmemsys]
  · rw [State.run_dev, Work.toDev_memsys, hmemsys]
  · have hne : a ≠ R.STEEP_STAT.addr 0 0 := fun e => ha (e ▸ List.mem_cons_self)
    rw [State.run_reg, hrun, Work.reg_put_ne _ F.STEEP_STAT_BORROWED 1 0 0 a hne, Work.reg_put_ne _ F.STEEP_STAT_PHASE 2 0 0 a hne,
      Work.reg_put_ne _ F.STEEP_STAT_WINDOW _ 0 0 a hne, Work.reg_put_ne _ F.STEEP_STAT_BANK _ 0 0 a hne, Work.reg_modMem, State.work_reg]
  · rw [hrun, Work.put_wr, Work.put_wr, Work.put_wr, Work.put_wr, Work.modMem_wr, State.work_wr]

end

section
variable (s : State) (hborrowed : s.flag F.STEEP_STAT_BORROWED = true) (hdirty : s.dev.memsys.dirty = true)
include hborrowed hdirty

theorem memoryAndSteep_again (hfew : s.dev.memsys.restarts < 3) (t : State) (ht : t = s.run steepRestart) :
    t.get F.STEEP_CNT_RESTARTS = Nat.min 65535 (s.get F.STEEP_CNT_RESTARTS + 1) ∧
      t.dev.memsys = { s.dev.memsys with dirty := false, restarts := s.dev.memsys.restarts + 1 } ∧
      t.flag F.STEEP_STAT_BORROWED = true ∧ s.sameRegs t [R.STEEP_CNT.addr 0 0] ∧ t.mem = s.mem := by
  subst ht
  have hrun := steepRestart_again s.work hborrowed hdirty hfew
  obtain ⟨hcount, hmemsys, hwr, -, hreg⟩ := s.work.restarted_shows
  refine ⟨?_, ?_, ?_, fun a ha => ?_, s.run_mem_of_wr _ ?_⟩
  · rw [State.run_get, hrun, hcount, State.work_get]
  · rw [State.run_dev, hrun, Work.toDev_memsys, hmemsys]
    rfl
  · rw [State.run_flag, hrun, ← hborrowed]
    exact congrArg (fun x => bitsOf x F.STEEP_STAT_BORROWED.hi F.STEEP_STAT_BORROWED.lo == 1) ((hreg _ (by decide)).trans (s.work_reg _))
  · rw [State.run_reg, hrun, hreg a (fun e => ha (e ▸ List.mem_cons_self)), State.work_reg]
  · rw [hrun, hwr, State.work_wr]

theorem memoryAndSteep_skips (hmore : (s.work.steepFrom s.dev.memsys.nextWin).isSome = true) (hmany : 3 ≤ s.dev.memsys.restarts)
    (t : State) (ht : t = s.run steepRestart) :
    t.get F.STEEP_CNT_RESTARTS = Nat.min 65535 (s.get F.STEEP_CNT_RESTARTS + 1) ∧
      t.get F.STEEP_SKIP_SKIPS = Nat.min 65535 (s.get F.STEEP_SKIP_SKIPS + 1) ∧ t.flag F.STEEP_ERR_SKIP = true ∧
      t.flag F.STEEP_STAT_BORROWED = false ∧
      s.sameRegs t ([R.STEEP_STAT.addr 0 0, R.STEEP_CNT.addr 0 0, R.STEEP_SKIP.addr 0 0, R.STEEP_ERR.addr 0 0] ++ ringRegs devRing) ∧
      s.sameMemButNext t devRing := by
  subst ht
  obtain ⟨e, hskip⟩ := steepRestart_skips s.work hborrowed hdirty hmany
  obtain ⟨hcount, hmemsys, hwr, hdring, hreg⟩ := s.work.restarted_shows
  obtain ⟨u, hu⟩ : ∃ u, u = ((s.work.restarted.countUp F.STEEP_SKIP_SKIPS).put F.STEEP_ERR_SKIP 1).ev 0x6B := ⟨_, rfl⟩
  rw [← hu] at hskip
  have hframe : ∀ a, a ∉ [R.STEEP_CNT.addr 0 0, R.STEEP_SKIP.addr 0 0, R.STEEP_ERR.addr 0 0] → u.reg a = s.reg a := by
    intro a ha
    simp only [List.mem_cons, List.not_mem_nil, or_false, not_or] at ha
    obtain ⟨hcnt, hskips, herr⟩ := ha
    rw [hu, Work.reg_ev, Work.reg_put_ne _ F.STEEP_ERR_SKIP 1 0 0 a herr, Work.countUp_eq, Work.reg_put_ne _ F.STEEP_SKIP_SKIPS _ 0 0 a hskips,
      hreg a hcnt, State.work_reg]
  have hfrom : (u.raiseEntry devRing e).steepFrom (u.raiseEntry devRing e).memsys.nextWin = s.work.steepFrom s.dev.memsys.nextWin := by
    have hfields : ∀ f ∈ testFields, (u.raiseEntry devRing e).get f = s.work.get f := by
      intro f hf
      obtain ⟨hring, -, -, -⟩ := testFields_steep f hf
      rw [Work.get_raiseEntry_devRing _ e f hring]
      exact congrArg (fun x => bitsOf x f.hi f.lo) (hframe _ (testFields_skip f hf))
    have hmem : u.memsys = s.work.restarted.memsys := by rw [hu, Work.ev_memsys, Work.put_memsys, Work.countUp_eq, Work.put_memsys]
    obtain ⟨d, hd, -⟩ := u.memsys_raiseEntry devRing e
    rw [Work.steepFrom_congr hfields, hd, hmem, hmemsys]
    rfl
  have hrun : steepRestart s.work = (u.raiseEntry devRing e).returned := hskip.trans (Work.windowReturn_more _ (by rw [hfrom]; exact hmore))
  have hout : ∀ a ∈ [R.STEEP_CNT.addr 0 0, R.STEEP_SKIP.addr 0 0, R.STEEP_ERR.addr 0 0],
      a ≠ R.STEEP_STAT.addr 0 0 ∧ a ∉ ringRegs devRing := by decide
  have hend : ∀ a ∈ [R.STEEP_CNT.addr 0 0, R.STEEP_SKIP.addr 0 0, R.STEEP_ERR.addr 0 0], (s.run steepRestart).reg a = u.reg a := by
    intro a ha
    obtain ⟨hstat, hring⟩ := hout a ha
    rw [State.run_reg, hrun, Work.reg_returned _ _ hstat, Work.reg_raiseEntry _ devRing e _ hring]
  refine ⟨?_, ?_, ?_, ?_, fun a ha => ?_, s.sameMemButNext_devRing _ _ e (congrArg Work.wr hrun |>.trans (Work.returned_same _).1) ?_ ?_⟩
  · have hu' : u.get F.STEEP_CNT_RESTARTS = Nat.min 65535 (s.get F.STEEP_CNT_RESTARTS + 1) := by
      rw [hu, Work.get_ev, Work.get_put_addr _ F.STEEP_ERR_SKIP F.STEEP_CNT_RESTARTS 1 0 0 0 0 (by decide), Work.countUp_eq,
        Work.get_put_addr _ F.STEEP_SKIP_SKIPS F.STEEP_CNT_RESTARTS _ 0 0 0 0 (by decide), hcount, State.work_get]
    rw [← hu']
    exact congrArg (fun x => bitsOf x F.STEEP_CNT_RESTARTS.hi F.STEEP_CNT_RESTARTS.lo) (hend _ (by decide))
  · have hu' : u.get F.STEEP_SKIP_SKIPS = Nat.min 65535 (s.get F.STEEP_SKIP_SKIPS + 1) := by
      rw [hu, Work.get_ev, Work.get_put_addr _ F.STEEP_ERR_SKIP F.STEEP_SKIP_SKIPS 1 0 0 0 0 (by decide), Work.countUp_eq,
        Work.get_put_same _ _ _ _ _ (by decide), satAdd_mod]
      have hkept : s.work.restarted.get F.STEEP_SKIP_SKIPS = s.work.get F.STEEP_SKIP_SKIPS :=
        congrArg (fun x => bitsOf x F.STEEP_SKIP_SKIPS.hi F.STEEP_SKIP_SKIPS.lo) (hreg _ (by decide))
      rw [hkept, State.work_get]
      rfl
    rw [← hu']
    exact congrArg (fun x => bitsOf x F.STEEP_SKIP_SKIPS.hi F.STEEP_SKIP_SKIPS.lo) (hend _ (by decide))
  · have hu' : u.flag F.STEEP_ERR_SKIP = true := by
      rw [hu, Work.flag_ev, Work.flag_put_same _ _ _ _ _ rfl]
      rfl
    rw [← hu']
    exact congrArg (fun x => bitsOf x F.STEEP_ERR_SKIP.hi F.STEEP_ERR_SKIP.lo == 1) (hend _ (by decide))
  · rw [State.run_flag, hrun, (Work.returned_shows _).1]
  · simp only [List.mem_append, List.mem_cons, List.not_mem_nil, or_false, not_or] at ha
    obtain ⟨⟨hstat, hcnt, hskips, herr⟩, hring⟩ := ha
    rw [State.run_reg, hrun, Work.reg_returned _ _ hstat, Work.reg_raiseEntry _ devRing e _ hring, hframe a (by simp [hcnt, hskips, herr])]
  · rw [hu, Work.ev_wr, Work.put_wr, Work.countUp_eq, Work.put_wr, hwr, State.work_wr]
  · rw [hu, Work.ev_dring, Work.put_dring, Work.countUp_eq, Work.put_dring, hdring]
    rfl

end

/-- Settles O36. -/
theorem memoryAndSteep : Obligations.MemoryAndSteep := by
  unfold Obligations.MemoryAndSteep
  refine ⟨?_, ?_, ?_, ?_, ?_, ?_, ?_, ?_, ?_, ?_, ?_, ?_, ?_, ?_, ?_⟩
  case refine_1 =>
    intro s b addr wait m hit hmay hbank hgood hmet
    exact ⟨_, rfl, memoryAndSteep_alone s b m addr wait hmay hbank hgood hit hmet _ rfl⟩
  case refine_2 =>
    intro s b addr wait m hmay hbank hgood hlow hhigh hm hfirst
    exact ⟨_, rfl, memoryAndSteep_meets s b m addr wait hmay hbank hgood m.isLt hlow hhigh hm hfirst _ rfl⟩
  case refine_3 =>
    intro s b addr wait m hmay hbank hgood
    exact ⟨_, rfl, memoryAndSteep_corrects s b m addr wait hmay hbank hgood m.isLt _ rfl⟩
  case refine_4 =>
    intro s b addr wait m hmay hbank hgood hb
    exact ⟨_, rfl, memoryAndSteep_failsSystem s b m addr wait hmay hbank hgood m.isLt hb _ rfl⟩
  case refine_5 =>
    intro s b addr wait m ch hmay hbank hgood hb hrunning hactive
    exact ⟨_, rfl, memoryAndSteep_failsChannel s b m addr wait hmay hbank hgood m.isLt ch hb hrunning hactive _ rfl⟩
  case refine_6 =>
    intro s b addr wait m e hmay hbank hgood hb
    exact ⟨_, rfl, memoryAndSteep_failsEngine s b m addr wait hmay hbank hgood m.isLt e hb _ rfl⟩
  case refine_7 =>
    intro s b x hx
    exact ⟨_, rfl, memoryAndSteep_writeback s b x hx _ rfl⟩
  case refine_8 =>
    intro s o v haccept hclr
    exact ⟨_, rfl, memoryAndSteep_cntClr s v haccept hclr _ rfl⟩
  case refine_9 =>
    intro s i hruns hfree hnext hi hdue
    exact ⟨_, rfl, memoryAndSteep_windowStart s i hruns hfree hnext hi hdue _ rfl⟩
  case refine_10 =>
    intro s hborrowed hclean hmore
    exact ⟨_, rfl, memoryAndSteep_clean s hborrowed hclean hmore _ rfl⟩
  case refine_11 =>
    intro s hborrowed hclean hlast
    exact ⟨_, rfl, memoryAndSteep_sweep s hborrowed hclean hlast _ rfl⟩
  case refine_12 =>
    intro s k i hborrowed hclean hmore hnew
    exact ⟨_, rfl, memoryAndSteep_hardBit s hborrowed hclean hmore k i hnew _ rfl⟩
  case refine_13 =>
    intro s k i j b hborrowed hclean hij hbank hb hgood
    exact ⟨_, rfl, memoryAndSteep_bankFails s hborrowed hclean k i j hij b hbank hb hgood _ rfl⟩
  case refine_14 =>
    intro s hborrowed hdirty hfew
    exact ⟨_, rfl, memoryAndSteep_again s hborrowed hdirty hfew _ rfl⟩
  case refine_15 =>
    intro s hborrowed hdirty hmore hmany
    exact ⟨_, rfl, memoryAndSteep_skips s hborrowed hdirty hmore hmany _ rfl⟩

end Sys2Proof.Machine
end


section
/-! PROOF SUPPORT. What a channel's own work leaves alone: the other channels, the Tun engines, the loaded image, the key store
and the reset controller (R8, R9). -/
namespace Sys2Proof.Machine

/-- All that does not belong to channel `n` and that its work must leave alone. -/
@[irreducible] def Work.others (w : Work) (n : Nat) : (Fin 8 → Option Chan) × Vector TunEng 4 × Img × Sec × Rst :=
  (fun m => if m.val = n then none else some (w.chan m), w.tun, w.img, w.sec, w.rst)

/-- Two working states with the same other channels and the same device beside the channels. -/
theorem Work.others_congr {v w : Work} {n : Nat} (hchan : ∀ m : Fin 8, m.val ≠ n → v.chan m = w.chan m)
    (htun : v.tun = w.tun) (himg : v.img = w.img) (hsec : v.sec = w.sec) (hrst : v.rst = w.rst) : v.others n = w.others n := by
  unfold Work.others
  rw [htun, himg, hsec, hrst]
  refine Prod.ext (funext fun m => ?_) rfl
  by_cases h : m.val = n
  · simp only [h, if_true]
  · simp only [h, if_false, hchan m h]

section
variable (w : Work) (n : Nat)

/-! ### The state's operations -/

theorem Work.others_of_sameDevice {w v : Work} (h : w.SameDevice v) (hchan : ∀ m : Fin 8, m.val ≠ n → v.chan m = w.chan m) :
    v.others n = w.others n := Work.others_congr hchan h.tun h.img h.sec h.rst

@[simp] theorem Work.others_put (f : Fld) (v m k : Nat) : (w.put f v m k).others n = w.others n :=
  Work.others_congr (fun _ _ => rfl) rfl rfl rfl rfl

@[simp] theorem Work.others_putFlag (f : Fld) (b : Bool) (m k : Nat) : (w.putFlag f b m k).others n = w.others n :=
  Work.others_congr (fun _ _ => rfl) rfl rfl rfl rfl

@[simp] theorem Work.others_raise (f : Fld) (m k : Nat) : (w.raise f m k).others n = w.others n :=
  Work.others_congr (fun _ _ => rfl) rfl rfl rfl rfl

@[simp] theorem Work.others_countUp (f : Fld) (m k x : Nat) : (w.countUp f m k x).others n = w.others n :=
  Work.others_congr (fun _ _ => rfl) rfl rfl rfl rfl

@[simp] theorem Work.others_countWrap (f : Fld) (m k x : Nat) : (w.countWrap f m k x).others n = w.others n :=
  Work.others_congr (fun _ _ => rfl) rfl rfl rfl rfl

@[simp] theorem Work.others_send (x : Sent) : (w.send x).others n = w.others n :=
  Work.others_congr (fun _ _ => rfl) rfl rfl rfl rfl

@[simp] theorem Work.others_fresh (k : Nat) : (w.fresh k).2.others n = w.others n :=
  Work.others_congr (fun _ _ => rfl) rfl rfl rfl rfl

@[simp] theorem Work.others_noteDown (m : Nat) : (w.noteDown m).others n = w.others n :=
  Work.others_congr (fun _ _ => rfl) rfl rfl rfl rfl

@[simp] theorem Work.others_ev (c i k : Nat) : (w.ev c i k).others n = w.others n :=
  Work.others_of_sameDevice n (Work.SameDevice.ev w c i k) (fun m _ => by rw [Work.chan_ev])

@[simp] theorem Work.others_modChan (f : Chan → Chan) : (w.modChan n f).others n = w.others n :=
  Work.others_of_sameDevice n (Work.SameDevice.modChan w n f) (fun m h => Work.chan_modChan_ne w n m f h)

@[simp] theorem Work.others_raiseEntry (e : Entry) : (w.raiseEntry n e).others n = w.others n :=
  Work.others_of_sameDevice n (Work.SameDevice.raiseEntry w n e) (fun m h => w.chan_raiseEntry_ne n m e h)

@[simp] theorem Work.others_raiseEntry_devRing (e : Entry) : (w.raiseEntry devRing e).others n = w.others n :=
  Work.others_of_sameDevice n (Work.SameDevice.raiseEntry w devRing e) (fun m _ => w.chan_raiseEntry_ne devRing m e (ne_of_lt m.isLt))

@[simp] theorem Work.others_ite {p : Prop} [Decidable p] (u v : Work) : (if p then u else v).others n = if p then u.others n else v.others n :=
  apply_ite (fun x : Work => x.others n) p u v

@[simp] theorem Work.others_foldl {α : Type} (l : List α) (f : Work → α → Work) (h : ∀ v x, (f v x).others n = v.others n) :
    (l.foldl f w).others n = w.others n := by
  induction l generalizing w with
  | nil => rfl
  | cons x l ih => rw [List.foldl_cons, ih, h]

@[simp] theorem Work.others_modSeq (f : Seq → Seq) : (w.modSeq n f).others n = w.others n := Work.others_modChan ..

@[simp] theorem Work.others_modKiln (f : Kiln → Kiln) : (w.modKiln n f).others n = w.others n := Work.others_modChan ..

@[simp] theorem Work.others_modGrist (f : Grist → Grist) : (w.modGrist n f).others n = w.others n := Work.others_modChan ..

@[simp] theorem Work.others_modLed (f : Led → Led) : (w.modLed n f).others n = w.others n := Work.others_modChan ..

@[simp] theorem Work.others_modInteg (f : Integ → Integ) : (w.modInteg n f).others n = w.others n := Work.others_modChan ..

@[simp] theorem Work.others_modStr (f : LampStr → LampStr) : (w.modStr n f).others n = w.others n := Work.others_modChan ..

@[simp] theorem Work.others_modLamp (k : Nat) (f : Lamp → Lamp) : (w.modLamp n k f).others n = w.others n := Work.others_modStr ..

@[simp] theorem Work.others_modTap (l : Nat) (f : Tap → Tap) : (w.modTap n l f).others n = w.others n := Work.others_modChan ..

@[simp] theorem Work.others_entryBatch (e : Waiting) : (w.entryBatch n e).others n = w.others n := Work.others_modChan ..

@[simp] theorem Work.others_entryNow (k c f v : Nat) : (w.entryNow n k c f v).others n = w.others n := Work.others_raiseEntry ..

@[simp] theorem Work.others_thermal (c u g : Nat) : (w.thermal n c u g).others n = w.others n := Work.others_entryBatch ..

@[simp] theorem Work.others_integEntry (c f v s : Nat) : (w.integEntry n c f v s).others n = w.others n := Work.others_entryBatch ..

@[simp] theorem Work.others_lineGroups : (w.lineGroups n).others n = w.others n := Work.others_modSeq ..

@[simp] theorem Work.others_modMash (f : Mash → Mash) : (w.modMash n f).others n = w.others n := by
  unfold Work.modMash Work.showMash
  simp only [Work.others_putFlag, Work.others_put, Work.others_modChan]

@[simp] theorem Work.others_pairCommit (m : Nat) (x : PairItem) : (w.pairCommit m x).others n = w.others n := by
  have hpair : ∀ x : Pair, ({ w with pair := x } : Work).others n = w.others n := fun _ =>
    Work.others_congr (fun _ _ => rfl) rfl rfl rfl rfl
  unfold Work.pairCommit
  simp [hpair]

@[simp] theorem Work.others_pairAcks (m a o : Nat) (d : Option Nat) : (w.pairAcks m a o d).others n = w.others n := by
  unfold Work.pairAcks
  simp

@[simp] theorem Work.others_raiseShadow (m l : Nat) : (w.raiseShadow m l).others n = w.others n := by
  have hpair : ∀ x : Pair, ({ w with pair := x } : Work).others n = w.others n := fun _ =>
    Work.others_congr (fun _ _ => rfl) rfl rfl rfl rfl
  unfold Work.raiseShadow Work.pairEntry Work.entryNow
  simp [hpair]

/-! ### The key ladders, the ring's batch and the kiln -/

@[simp] theorem Work.others_compatAppend (k t : Nat) (p : Bool) : (w.compatAppend n k t p).others n = w.others n := by
  unfold Work.compatAppend
  dsimp only
  simp

@[simp] theorem Work.others_compatBatch : (w.compatBatch n).others n = w.others n := by
  unfold Work.compatBatch
  simp

@[simp] theorem Work.others_storeBatch : (w.storeBatch n).others n = w.others n := by
  unfold Work.storeBatch
  simp

@[simp] theorem Work.others_closeBatch : (w.closeBatch n).others n = w.others n := by
  unfold Work.closeBatch
  simp

@[simp] theorem Work.others_compatDeclare (k t : Nat) (p : Bool) : (w.compatDeclare n k t p).others n = w.others n := by
  unfold Work.compatDeclare
  cases (if (w.chan n).standby then none else w.compatKey n k) <;> simp

@[simp] theorem Work.others_deliverPress (k t : Nat) : (w.deliverPress n k t).others n = w.others n := by
  unfold Work.deliverPress
  simp

@[simp] theorem Work.others_deliverRelease (k r : Nat) : (w.deliverRelease n k r).others n = w.others n := by
  unfold Work.deliverRelease
  cases (w.chan n).cask.held.find? (fun x => x.key == k) <;> simp

@[simp] theorem Work.others_declareKey (k : Nat) (p : Bool) : (w.declareKey n k p).others n = w.others n := by
  unfold Work.declareKey
  cases p <;> simp

@[simp] theorem Work.others_observe (k : Nat) (o : Obs) : (w.observe n k o).others n = w.others n := by
  unfold Work.observe
  dsimp only
  generalize (w.chan n).grist.down.contains k = down
  cases down <;> cases o <;> simp

@[simp] theorem Work.others_freezeStep (i : Nat) : (w.freezeStep n i).others n = w.others n := by
  unfold Work.freezeStep Work.freezeLadder
  simp

@[simp] theorem Work.others_skipStep (i : Nat) : (w.skipStep n i).others n = w.others n := by
  unfold Work.skipStep
  simp

@[simp] theorem Work.others_passStep (d : Nat) : (w.passStep n d).others n = w.others n := by
  unfold Work.passStep
  simp

@[simp] theorem Work.others_missStep (i : Nat) : (w.missStep n i).others n = w.others n := by
  unfold Work.missStep Work.loseStep
  simp

@[simp] theorem Work.others_haltSteps : (w.haltSteps n).others n = w.others n := by
  unfold Work.haltSteps Work.passLost
  simp

/-! ### The pin engines -/

@[simp] theorem Work.others_setEng (e : Nat) (x : Engine) : (w.setEng n e x).others n = w.others n := by
  unfold Work.setEng Work.showEng
  simp

@[simp] theorem Work.others_modEng (e : Nat) (f : Engine → Engine) : (w.modEng n e f).others n = w.others n := Work.others_setEng ..

@[simp] theorem Work.others_closeWindow (e : Nat) : (w.closeWindow n e).others n = w.others n := by
  unfold Work.closeWindow
  simp

@[simp] theorem Work.others_closeWindows : (w.closeWindows n).others n = w.others n := by
  unfold Work.closeWindows
  simp

@[simp] theorem Work.others_pulse (i : Nat) : (w.pulse n i).others n = w.others n := by
  unfold Work.pulse
  refine Work.others_foldl _ _ _ _ (fun v e => ?_)
  dsimp only
  split <;> simp

@[simp] theorem Work.others_pastStart (e : Nat) : (w.pastStart n e).others n = w.others n := by
  unfold Work.pastStart
  simp

@[simp] theorem Work.others_pcNext (e : Nat) : (w.pcNext n e).others n = w.others n := by
  unfold Work.pcNext Work.adoptLoop
  simp

@[simp] theorem Work.others_jump (e a : Nat) : (w.jump n e a).others n = w.others n := by
  unfold Work.jump
  simp

@[simp] theorem Work.others_setEngFlag (e i : Nat) (b : Bool) : (w.setEngFlag n e i b).others n = w.others n := Work.others_modEng ..

@[simp] theorem Work.others_stepCycles (e i : Nat) (x : Engine) : (w.stepCycles n e i x).others n = w.others n := by
  unfold Work.stepCycles
  simp

theorem Work.others_onOp (e op : Nat) (f : Work → Nat → Work) (h : ∀ v i, (f v i).others n = v.others n) :
    (w.onOp n e op f).others n = w.others n := by
  unfold Work.onOp
  split
  · exact h ..
  · rfl

theorem Work.others_onCmd (e op c : Nat) (f : Work → Nat → Work) (h : ∀ v i, (f v i).others n = v.others n) :
    (w.onCmd n e op c f).others n = w.others n := by
  refine Work.others_onOp w n e op _ (fun v i => ?_)
  split
  · exact h ..
  · rfl

@[simp] theorem Work.others_gather (e i k : Nat) (pins : List Nat) : (w.gather n e i k pins).others n = w.others n := by
  induction k generalizing w pins with
  | zero => unfold Work.gather; simp
  | succ k ih =>
    unfold Work.gather
    cases pins <;> simp [ih]

@[simp] theorem Work.others_spill (e i k : Nat) : (w.spill n e i k).others n = w.others n := by
  induction k generalizing w with
  | zero => unfold Work.spill; simp
  | succ k ih =>
    unfold Work.spill Work.spillOne
    simp [ih]

@[simp] theorem Work.others_take (e i : Nat) : (w.take n e i).others n = w.others n := by
  unfold Work.take
  simp

@[simp] theorem Work.others_give (e i : Nat) : (w.give n e i).others n = w.others n := by
  unfold Work.give
  simp

@[simp] theorem Work.others_move (e i l : Nat) : (w.move n e i l).others n = w.others n := by
  unfold Work.move
  dsimp only
  split <;> simp

end

end Sys2Proof.Machine
end


section
/-! PROOF: a channel's measurements and the instructions of its pin engines leave the other channels, the Tun engines, the loaded
image, the key store and the reset controller alone (R8, R9). -/
namespace Sys2Proof.Machine

section
variable (w : Work) (n : Nat)

/-! ### The Kiln -/

theorem others_ntcFallback : (ntcFallback w n).others n = w.others n := by
  unfold ntcFallback
  simp

theorem others_ntcReturn : (ntcReturn w n).others n = w.others n := by
  unfold ntcReturn Work.takeTemp
  simp

@[simp] theorem Work.others_putChState (m v : Nat) : (w.putChState m v).others n = w.others n := Work.others_put ..

@[simp] theorem Work.others_turnCold : (w.turnCold n).others n = w.others n := by
  unfold Work.turnCold Work.setVlcd Work.clearLedger
  simp

@[simp] theorem Work.others_stopPlan : (w.stopPlan n).others n = w.others n := by
  unfold Work.stopPlan
  simp

@[simp] theorem Work.others_kilnFault (c x : Nat) : (w.kilnFault n c x).others n = w.others n := by
  unfold Work.kilnFault Work.kilnStop
  simp

theorem others_kilnHoldEnd (ts : Nat) (settles : Bool) (buf : Nat) : (kilnHoldEnd w n ts settles buf).others n = w.others n := by
  unfold kilnHoldEnd
  dsimp only
  split <;> simp

theorem others_dischargeProof (mv : List Nat) : (dischargeProof w n mv).others n = w.others n := by
  unfold dischargeProof
  split <;> simp

/-! ### The governors -/

@[simp] theorem Work.others_setGain (g : Nat) : (w.setGain n g).others n = w.others n := by
  unfold Work.setGain
  simp

theorem others_sinkGovDecision : (sinkGovDecision w n).others n = w.others n := by
  unfold sinkGovDecision
  simp

@[simp] theorem Work.others_setSwGain (g : Nat) : (w.setSwGain n g).others n = w.others n := by
  unfold Work.setSwGain
  simp

@[simp] theorem Work.others_reduceSw (c p x : Nat) : (w.reduceSw n c p x).others n = w.others n := by
  unfold Work.reduceSw
  simp

theorem others_switchGovDecision : (switchGovDecision w n).others n = w.others n := by
  unfold switchGovDecision
  simp

theorem others_predriverCurrentLimit : (predriverCurrentLimit w n).others n = w.others n := by
  unfold predriverCurrentLimit
  dsimp only
  split <;> simp

/-! ### The integrity checks -/

@[simp] theorem Work.others_setLineState (l : Option Nat) (v : Nat) : (w.setLineState n l v).others n = w.others n := by
  unfold Work.setLineState
  cases l <;> simp

@[simp] theorem Work.others_recheckResult (k : Nat) (p : Bool) (es : List Nat) : (w.recheckResult n k p es).others n = w.others n :=
  Work.others_modInteg ..

@[simp] theorem Work.others_result (k : Nat) (p : Bool) (es : List Nat) (x : Nat) (l : Option Nat) :
    (w.result n k p es x l).others n = w.others n := by
  unfold Work.result
  cases p <;> simp

theorem others_litCheck (mv : List Nat) : (litCheck w n mv).others n = w.others n := by
  unfold litCheck
  dsimp only
  split
  · split
    · refine Work.others_foldl _ _ _ _ (fun v x => ?_)
      cases mv[x.2]? <;> simp
    · rfl
  · rfl

theorem others_dissipationCapture (mv : List Nat) : (dissipationCapture w n mv).others n = w.others n := by
  unfold dissipationCapture Work.keepVolts
  simp

theorem others_comWatch (mv : List Nat) : (comWatch w n mv).others n = w.others n := by
  unfold comWatch
  dsimp only
  split
  · split
    · refine Work.others_foldl _ _ _ _ (fun v x => ?_)
      cases mv[x.2]? <;> simp
    · rfl
  · rfl

theorem others_darkCheck (mv : List Nat) : (darkCheck w n mv).others n = w.others n := by
  unfold darkCheck
  simp

@[simp] theorem Work.others_lineMeasured (m c : Nat) : (w.lineMeasured n m c).others n = w.others n := by
  unfold Work.lineMeasured
  dsimp only
  split <;> simp

theorem others_lineChargeCheck (c : List Nat) : (lineChargeCheck w n c).others n = w.others n := by
  unfold lineChargeCheck
  simp

theorem others_litUnverified : (litUnverified w n).others n = w.others n := by
  unfold litUnverified
  dsimp only
  split
  · rw [Work.others_modInteg]
    refine Work.others_foldl _ _ _ _ (fun v e => ?_)
    split
    · simp
    · split <;> simp
  · rfl

/-! ### The display -/

@[simp] theorem Work.others_policyStep (f t : Nat) : (w.policyStep n f t).others n = w.others n := by
  unfold Work.policyStep
  cases w.fieldDef n f <;> simp

@[simp] theorem Work.others_markFallback : (w.markFallback n).others n = w.others n := by
  unfold Work.markFallback
  simp

@[simp] theorem Work.others_showInteg : (w.showInteg n).others n = w.others n := by
  unfold Work.showInteg
  simp

@[simp] theorem Work.others_buildLit : (w.buildLit n).others n = w.others n := by
  unfold Work.buildLit
  dsimp only
  rw [Work.others_modChan]
  simp

@[simp] theorem others_fieldStale (f : Nat) : (fieldStale w n f).others n = w.others n := by
  unfold fieldStale
  cases w.fieldDef n f <;> simp

theorem others_continuityTest (ns : List Nat) : (continuityTest w n ns).others n = w.others n := by
  unfold continuityTest
  split <;> simp

/-! ### The lamp string -/

@[simp] theorem Work.others_closeSwitch (k : Nat) : (w.closeSwitch n k).others n = w.others n := Work.others_modLamp ..

@[simp] theorem Work.others_showLamps : (w.showLamps n).others n = w.others n := by
  unfold Work.showLamps
  simp

@[simp] theorem Work.others_holdOff (f : Option Nat) (c t : Nat) : (w.holdOff n f c t).others n = w.others n := by
  unfold Work.holdOff
  cases f <;> simp

@[simp] theorem Work.others_declareLamp (k x v : Nat) : (w.declareLamp n k x v).others n = w.others n := by
  unfold Work.declareLamp
  simp

@[simp] theorem Work.others_lampOk (k v : Nat) : (w.lampOk n k v).others n = w.others n := by
  unfold Work.lampOk
  simp

theorem others_lampOpenTrip (k : Nat) : (lampOpenTrip w n k).others n = w.others n := by
  unfold lampOpenTrip
  simp

@[simp] theorem Work.others_measureLamp (k v : Nat) : (w.measureLamp n k v).others n = w.others n := by
  unfold Work.measureLamp
  simp

theorem others_lampWindowCapture (mv : List Nat) : (lampWindowCapture w n mv).others n = w.others n := by
  unfold lampWindowCapture
  dsimp only
  split
  · rfl
  · have hdue : ∀ (v : Work) (k : Nat), (v.modLamp n k (fun l => { l with due := false })).others n = v.others n := fun v k => v.others_modLamp ..
    split
    · refine (Work.others_foldl _ _ _ _ hdue).trans ?_
      rw [Work.others_raise]
      refine (Work.others_foldl _ _ _ _ (fun v k => ?_)).trans ?_
      · split <;> simp
      · simp
    · rw [Work.others_showLamps]
      refine (Work.others_foldl _ _ _ _ (fun v k => ?_)).trans ((Work.others_foldl _ _ _ _ (fun v k => v.others_measureLamp ..)).trans ?_)
      · simp
      refine (Work.others_foldl _ _ _ _ (fun v k => ?_)).trans ?_
      · split <;> simp
      · simp

theorem others_lampDiagPeriod : (lampDiagPeriod w n).others n = w.others n := by
  unfold lampDiagPeriod
  simp

theorem others_pumpReady (k : Nat) : (pumpReady w n k).others n = w.others n := by
  unfold pumpReady
  simp

/-! ### The Tap -/

theorem others_rawBytes (off k : Nat) : (w.rawBytes n off k).2.others n = w.others n := by
  unfold Work.rawBytes
  dsimp only
  refine List.foldlRecOn (motive := fun p : List Byte × Work => p.2.others n = w.others n) _ _ rfl (fun p hp i _ => ?_)
  split
  · exact hp
  · refine Eq.trans ?_ hp
    exact Work.others_fresh p.2 n 8

theorem others_tapFrameNow (l : Nat) : (w.tapFrameNow n l).2.others n = w.others n := others_rawBytes ..

theorem others_tapFrameSend (l : Nat) : (tapFrameSend w n l).others n = w.others n := by
  unfold tapFrameSend
  dsimp only
  cases (w.tapOf n l).hold <;> simp [others_tapFrameNow]

@[simp] theorem Work.others_storeStatuses (l : Nat) (ss : List Nat) : (w.storeStatuses n l ss).others n = w.others n := by
  unfold Work.storeStatuses
  simp

theorem others_tapReturnReceive (l : Nat) (r : TapRet) : (tapReturnReceive w n l r).others n = w.others n := by
  unfold tapReturnReceive
  dsimp only
  split
  · rfl
  · split <;> simp

theorem others_orphanStreamReceive (l : Nat) (ss : List Nat) : (orphanStreamReceive w n l ss).others n = w.others n := by
  unfold orphanStreamReceive
  simp

/-! ### The pin engines -/

theorem others_awaitEnd (e pins : Nat) : (awaitEnd w n e pins).others n = w.others n := by
  unfold awaitEnd
  dsimp only
  split <;> simp

theorem others_psqStallEnd (e : Nat) (pins : List Nat) : (psqStallEnd w n e pins).others n = w.others n := by
  unfold psqStallEnd
  dsimp only
  split
  · rfl
  · split <;> simp

end

/-- A command that works on its own channel alone. -/
def State.ownCommand (s : State) (n : Nat) (c : Instr) : Prop :=
  ∃ f : Work → Work, exec c s = .next (s.run f) ∧ (f s.work).others n = s.work.others n

theorem State.apart_of_ownCommand (s : State) (ch m : Fin 8) (h : m ≠ ch) (c : Instr) (hown : s.ownCommand ch c) :
    ∃ t, exec c s = .next t ∧ t.chan m = s.chan m ∧ t.dev.tun = s.dev.tun ∧ t.dev.img = s.dev.img ∧ t.dev.sec = s.dev.sec ∧
      t.dev.rst = s.dev.rst := by
  obtain ⟨f, hexec, hothers⟩ := hown
  unfold Work.others at hothers
  obtain ⟨hchan, hrest⟩ := Prod.mk.inj hothers
  obtain ⟨htun, hrest⟩ := Prod.mk.inj hrest
  obtain ⟨himg, hrest⟩ := Prod.mk.inj hrest
  obtain ⟨hsec, hrst⟩ := Prod.mk.inj hrest
  have hm := congrFun hchan m
  simp only [Fin.val_inj, h, if_false, Option.some.injEq] at hm
  exact ⟨_, hexec, hm, htun, himg, hsec, hrst⟩

section
variable (s : State) (n : Fin 8)

theorem State.own_fieldStale (f : Fin 128) : s.ownCommand n (.fieldStale n f) := by
  refine ⟨_, rfl, ?_⟩
  dsimp only
  split <;> simp

theorem State.own_measurement (e : Fin 4) (k : Fin 12) (l : Fin 2) (x : Nat) (ns : List Nat) (r : TapRet) :
    ∀ c ∈ [Instr.ntcFallback n, .ntcReturn n, .kilnHoldEnd n x r.idle x, .dischargeProof n ns, .sinkGovDecision n,
      .switchGovDecision n, .predriverCurrentLimit n, .litCheck n ns, .dissipationCapture n ns, .comWatch n ns, .darkCheck n ns,
      .lineChargeCheck n ns, .litUnverified n, .continuityTest n ns, .lampOpenTrip n k, .lampWindowCapture n ns,
      .lampDiagPeriod n, .pumpReady n k, .tapFrameSend n l, .tapReturnReceive n l r, .orphanStreamReceive n l ns,
      .awaitEnd n e x, .psqStallEnd n e ns, .psqWindowEnd n e], s.ownCommand n c := by
  simp only [List.forall_mem_cons, List.not_mem_nil, false_imp_iff, implies_true, and_true]
  exact ⟨⟨_, rfl, others_ntcFallback ..⟩, ⟨_, rfl, others_ntcReturn ..⟩, ⟨_, rfl, others_kilnHoldEnd ..⟩, ⟨_, rfl, others_dischargeProof ..⟩,
    ⟨_, rfl, others_sinkGovDecision ..⟩, ⟨_, rfl, others_switchGovDecision ..⟩, ⟨_, rfl, others_predriverCurrentLimit ..⟩,
    ⟨_, rfl, others_litCheck ..⟩, ⟨_, rfl, others_dissipationCapture ..⟩, ⟨_, rfl, others_comWatch ..⟩, ⟨_, rfl, others_darkCheck ..⟩,
    ⟨_, rfl, others_lineChargeCheck ..⟩, ⟨_, rfl, others_litUnverified ..⟩, ⟨_, rfl, others_continuityTest ..⟩,
    ⟨_, rfl, others_lampOpenTrip ..⟩, ⟨_, rfl, others_lampWindowCapture ..⟩, ⟨_, rfl, others_lampDiagPeriod ..⟩,
    ⟨_, rfl, others_pumpReady ..⟩, ⟨_, rfl, others_tapFrameSend ..⟩, ⟨_, rfl, others_tapReturnReceive ..⟩,
    ⟨_, rfl, others_orphanStreamReceive ..⟩, ⟨_, rfl, others_awaitEnd ..⟩, ⟨_, rfl, others_psqStallEnd ..⟩,
    ⟨_, rfl, Work.others_closeWindow ..⟩⟩

theorem State.own_instruction (e : Fin 4) (x : Nat) (ns : List Nat) :
    ∀ c ∈ [Instr.nopInstruction n e, .await n e x, .emit n e, .gather n e ns, .spill n e, .take n e, .give n e, .countLoad n e,
      .countRepeat n e, .countInc n e, .raiseSet n e, .raiseClear n e, .raiseEntry n e, .raiseEvent n e, .goto n e x, .move n e x,
      .psqWindowStart n e], s.ownCommand n c := by
  simp only [List.forall_mem_cons, List.not_mem_nil, false_imp_iff, implies_true, and_true]
  refine ⟨⟨_, rfl, Work.others_onOp _ _ _ _ _ fun v i => ?_⟩, ⟨_, rfl, Work.others_onOp _ _ _ _ _ fun v i => ?_⟩,
    ⟨_, rfl, Work.others_onOp _ _ _ _ _ fun v i => ?_⟩, ⟨_, rfl, Work.others_onOp _ _ _ _ _ fun v i => ?_⟩,
    ⟨_, rfl, Work.others_onOp _ _ _ _ _ fun v i => ?_⟩, ⟨_, rfl, Work.others_onOp _ _ _ _ _ fun v i => ?_⟩,
    ⟨_, rfl, Work.others_onOp _ _ _ _ _ fun v i => ?_⟩, ⟨_, rfl, Work.others_onCmd _ _ _ _ _ _ fun v i => ?_⟩,
    ⟨_, rfl, Work.others_onCmd _ _ _ _ _ _ fun v i => ?_⟩, ⟨_, rfl, Work.others_onCmd _ _ _ _ _ _ fun v i => ?_⟩,
    ⟨_, rfl, Work.others_onCmd _ _ _ _ _ _ fun v i => ?_⟩, ⟨_, rfl, Work.others_onCmd _ _ _ _ _ _ fun v i => ?_⟩,
    ⟨_, rfl, Work.others_onCmd _ _ _ _ _ _ fun v i => ?_⟩, ⟨_, rfl, Work.others_onCmd _ _ _ _ _ _ fun v i => ?_⟩,
    ⟨_, rfl, Work.others_onOp _ _ _ _ _ fun v i => ?_⟩, ⟨_, rfl, Work.others_onOp _ _ _ _ _ fun v i => ?_⟩, ⟨_, rfl, ?_⟩⟩
  all_goals simp

end

/-- Settles O52. -/
theorem channelsStayApart : Obligations.ChannelsStayApart := by
  unfold Obligations.ChannelsStayApart
  intro s ch m e k l f n ns r h c hc
  refine s.apart_of_ownCommand ch m h c ?_
  have hmeasure := s.own_measurement ch e k l n ns r
  have hinstr := s.own_instruction ch e n ns
  have hstale := s.own_fieldStale ch f
  simp only [List.forall_mem_cons, List.not_mem_nil, false_imp_iff, implies_true, and_true] at hmeasure hinstr
  revert c
  simp only [List.forall_mem_cons, List.not_mem_nil, false_imp_iff, implies_true, and_true, hmeasure, hinstr, hstale]

end Sys2Proof.Machine
end


section
/-! PROOF SUPPORT. TIME frames: what the lock does with one, and a member whose period is not the root's (R46, R348, R349). -/
namespace Sys2Proof.Machine

section
variable (w : Work)

theorem Work.toDev_lock : w.toDev.lock = w.lock := rfl

theorem Work.toDev_fab : w.toDev.fab = w.fab := rfl

theorem Work.modLock_lock (f : Lock → Lock) : (w.modLock f).lock = f w.lock := rfl

theorem Work.modLock_congr (f g : Lock → Lock) (h : f w.lock = g w.lock) : w.modLock f = w.modLock g := by
  unfold Work.modLock
  rw [h]

theorem Work.modLock_dring (f : Lock → Lock) : (w.modLock f).dring = w.dring := rfl

theorem Work.modLock_fab (f : Lock → Lock) : (w.modLock f).fab = w.fab := rfl

theorem Work.lockState_modLock (f : Lock → Lock) : (w.modLock f).lockState = w.lockState := rfl

theorem Work.lock_raiseEntry (r : Nat) (e : Entry) : (w.raiseEntry r e).lock = w.lock := (Work.SameDevice.raiseEntry w r e).lock

/-- The entry of a lock transition, with what the spec leaves open. -/
theorem Work.lockEntry_eq : ∃ e, w.lockEntry = ({ w with free := w.free + 2 } : Work).raiseEntry devRing e := ⟨_, rfl⟩

/-! ### A source event -/

/-- The phase error shown, and the cycle measured. -/
def Work.phaseShown (cycleNs : Nat) (errNs : Int) : Work :=
  (w.put F.SYS_TICK_STAT_PHASE_ERR_NS (unsigned 16 (max (-32767) (min 32767 errNs)))).modLock (fun l => { l with measured := cycleNs })

theorem Work.phaseShown_same (cycleNs : Nat) (errNs : Int) :
    (w.phaseShown cycleNs errNs).lockState = w.lockState ∧ (w.phaseShown cycleNs errNs).lock = { w.lock with measured := cycleNs } ∧
      (w.phaseShown cycleNs errNs).wr = w.wr ∧ (w.phaseShown cycleNs errNs).dring = w.dring ∧
      ∀ a, a ≠ R.SYS_TICK_STAT.addr 0 0 → (w.phaseShown cycleNs errNs).reg a = w.reg a := by
  unfold Work.phaseShown
  refine ⟨?_, ?_, ?_, ?_, fun a ha => ?_⟩
  · rw [Work.lockState_modLock]
    exact Work.get_put_apart _ F.SYS_TICK_STAT_PHASE_ERR_NS F.SYS_TICK_STAT_LOCK_STATE _ 0 (by decide)
  · rw [Work.modLock_lock, Work.put_lock]
  · rw [Work.modLock_wr, Work.put_wr]
  · rw [Work.modLock_dring, Work.put_dring]
  · rw [Work.reg_modLock, Work.reg_put_ne _ F.SYS_TICK_STAT_PHASE_ERR_NS _ 0 0 a ha]

/-- A source event in LOCKED, near enough (R46). -/
theorem Work.lockEvent_locked (cycleNs : Nat) (errNs : Int) (hlocked : w.lockState = lkLocked) (hnear : errNs.natAbs ≤ 2000) :
    w.lockEvent cycleNs errNs = (w.phaseShown cycleNs errNs).modLock (fun l => { l with corr := roundOpen errNs 5 }) := by
  unfold Work.lockEvent
  simp only [hlocked]
  rw [if_neg (by decide), if_neg (by decide), if_pos trivial, if_neg (by omega)]
  rfl

/-- The sixteenth event in a row of an acquisition (R46). -/
theorem Work.lockEvent_acquired (cycleNs : Nat) (errNs : Int) (hacquire : w.lockState = lkAcquire) (hrow : w.lock.inRow = 15)
    (hnear : errNs.natAbs ≤ 100) (hratio : (w.phaseShown cycleNs errNs).ratioOk cycleNs = true) :
    ∃ (e : Entry) (d : Nat), w.lockEvent cycleNs errNs =
      ((({ ((w.phaseShown cycleNs errNs).modLock (fun l => { l with corr := roundOpen errNs 5, inRow := 16 })).setLock lkLocked with free := d } : Work).raiseEntry
        devRing e).modLock (fun l => { l with everLocked := true })) := by
  obtain ⟨-, hlock, -⟩ := w.phaseShown_same cycleNs errNs
  obtain ⟨u, hu⟩ : ∃ u, u = (w.phaseShown cycleNs errNs).modLock (fun l => { l with corr := roundOpen errNs 5, inRow := 16 }) := ⟨_, rfl⟩
  have hcount : (w.phaseShown cycleNs errNs).modLock
      (fun l => { l with corr := roundOpen errNs 5, inRow := if errNs.natAbs ≤ 100 then l.inRow + 1 else 0 }) = u := by
    have hrow' : (w.phaseShown cycleNs errNs).lock.inRow = 15 := by rw [hlock, ← hrow]
    rw [hu]
    refine Work.modLock_congr _ _ _ ?_
    rw [if_pos hnear, hrow']
  have hfull : 16 ≤ u.lock.inRow := by
    rw [hu, Work.modLock_lock]
  have hevent : w.lockEvent cycleNs errNs = (w.phaseShown cycleNs errNs).acquireEvent cycleNs errNs := by
    unfold Work.lockEvent
    simp only [hacquire]
    rw [if_neg (by decide), if_pos trivial]
    rfl
  obtain ⟨e, he⟩ := (u.setLock lkLocked).lockEntry_eq
  refine ⟨e, (u.setLock lkLocked).free + 2, ?_⟩
  rw [hevent, ← hu, ← he]
  unfold Work.acquireEvent
  simp only [hratio, Bool.not_true, Bool.false_eq_true, if_false, hcount]
  rw [if_neg (by omega), if_pos hfull]

/-! ### What a source event leaves alone -/

/-- All that a source event leaves of the fabric and of the period. -/
structure Work.LockOnly (w v : Work) : Prop where
  fab : v.fab = w.fab
  period : v.periodUs = w.periodUs
  state : v.fabState = w.fabState

namespace Work.LockOnly

variable {w}

theorem refl (w : Work) : w.LockOnly w := ⟨rfl, rfl, rfl⟩

theorem trans {u v : Work} (h : w.LockOnly u) (h' : u.LockOnly v) : w.LockOnly v :=
  ⟨h'.fab.trans h.fab, h'.period.trans h.period, h'.state.trans h.state⟩

theorem put (w : Work) (f : Fld) (v n k : Nat) (h : F.RHL_STAT_STATE.addr 0 0 ≠ f.addr n k) : w.LockOnly (w.put f v n k) :=
  ⟨Work.put_fab .., rfl, by unfold Work.fabState Work.get; rw [Work.reg_put_ne _ f v n k _ h]⟩

theorem modLock (w : Work) (f : Lock → Lock) (h : (f w.lock).periodUs = w.lock.periodUs) : w.LockOnly (w.modLock f) := ⟨rfl, h, rfl⟩

theorem ev (w : Work) (c i k : Nat) : w.LockOnly (w.ev c i k) :=
  ⟨Work.ev_fab .., by unfold Work.periodUs; rw [(Work.SameDevice.ev w c i k).lock], by unfold Work.fabState; rw [Work.get_ev]⟩

theorem raiseEntry (w : Work) (e : Entry) : w.LockOnly (w.raiseEntry devRing e) := by
  have hsame := Work.SameDevice.raiseEntry w devRing e
  refine ⟨hsame.fab, ?_, ?_⟩
  · unfold Work.periodUs
    rw [hsame.lock]
  · unfold Work.fabState
    rw [Work.get_raiseEntry_devRing w e F.RHL_STAT_STATE (by decide)]

theorem foldl {α : Type} (l : List α) (f : Work → α → Work) (h : ∀ (v : Work) (x : α), x ∈ l → v.LockOnly (f v x)) (w : Work) : w.LockOnly (l.foldl f w) :=
  List.foldlRecOn (motive := fun v => w.LockOnly v) l f (refl w) (fun v hv x hx => hv.trans (h v x hx))

theorem setLock (w : Work) (st : Nat) : w.LockOnly (w.setLock st) := (put w F.SYS_TICK_STAT_LOCK_STATE st 0 0 (by decide)).trans (modLock _ _ rfl)

theorem lockEntry (w : Work) : w.LockOnly w.lockEntry := by
  obtain ⟨e, he⟩ := w.lockEntry_eq
  have hdrawn : ∀ k, w.LockOnly ({ w with free := k } : Work) := fun _ => ⟨rfl, rfl, rfl⟩
  rw [he]
  exact (hdrawn _).trans (raiseEntry _ e)

theorem phaseShown (w : Work) (c : Nat) (e : Int) : w.LockOnly (w.phaseShown c e) :=
  (put w F.SYS_TICK_STAT_PHASE_ERR_NS _ 0 0 (by decide)).trans (modLock _ _ rfl)

theorem phaseStep (w : Work) (e : Int) : w.LockOnly (w.phaseStep e) := by
  have hchan : ∀ n ∈ List.range 8, F.RHL_STAT_STATE.addr 0 0 ≠ F.SEQ_ERR_STRETCH.addr n 0 := by decide
  unfold Work.phaseStep Work.eachChan
  refine trans ?_ (foldl _ _ (fun v n hn => put v F.SEQ_ERR_STRETCH 1 n 0 (hchan n hn)) _)
  refine trans ?_ (ev ..)
  exact trans (modLock _ _ rfl) (put _ F.SYS_TICK_STAT_STEPS _ 0 0 (by decide))

theorem acquireEvent (w : Work) (c : Nat) (e : Int) : w.LockOnly (w.acquireEvent c e) := by
  unfold Work.acquireEvent
  split
  · exact ((put w F.SYS_TICK_STAT_LOCK_MISMATCH 1 0 0 (by decide)).trans (setLock ..)).trans (modLock _ _ rfl)
  split
  · exact phaseStep ..
  dsimp only
  generalize hv : w.modLock _ = v
  have hcounted : w.LockOnly v := by
    rw [← hv]
    exact modLock _ _ rfl
  split
  · exact ((hcounted.trans (setLock ..)).trans (lockEntry _)).trans (modLock _ _ rfl)
  · exact hcounted

theorem lockEvent (w : Work) (c : Nat) (e : Int) : w.LockOnly (w.lockEvent c e) := by
  have hshown := phaseShown w c e
  have hcases : w.lockEvent c e = w.phaseShown c e ∨ (∃ st, w.lockEvent c e = ((w.phaseShown c e).setLock st)) ∨
      w.lockEvent c e = ((w.phaseShown c e).setLock lkAcquire).acquireEvent c e ∨ w.lockEvent c e = (w.phaseShown c e).acquireEvent c e ∨
      w.lockEvent c e = ((w.phaseShown c e).setLock lkAcquire).lockEntry ∨
      w.lockEvent c e = (w.phaseShown c e).modLock (fun l => { l with corr := roundOpen e 5 }) := by
    have hshape : w.lockEvent c e = if w.lockState = lkFree then
          match (w.phaseShown c e).lock.retryAt with
          | some _ => w.phaseShown c e
          | none => ((w.phaseShown c e).setLock lkAcquire).acquireEvent c e
        else if w.lockState = lkAcquire then (w.phaseShown c e).acquireEvent c e
        else if w.lockState = lkLocked then
          if 2000 < e.natAbs then ((w.phaseShown c e).setLock lkAcquire).lockEntry
          else (w.phaseShown c e).modLock (fun l => { l with corr := roundOpen e 5 })
        else (w.phaseShown c e).setLock lkAcquire := rfl
    rw [hshape]
    (repeat' split) <;> simp
  rcases hcases with h | ⟨st, h⟩ | h | h | h | h <;> rw [h]
  · exact hshown
  · exact hshown.trans (setLock ..)
  · exact (hshown.trans (setLock ..)).trans (acquireEvent ..)
  · exact hshown.trans (acquireEvent ..)
  · exact (hshown.trans (setLock ..)).trans (lockEntry _)
  · exact hshown.trans (modLock _ _ rfl)

end Work.LockOnly

/-! ### A TIME frame -/

/-- The offset of a TIME frame shown (R348). -/
def Work.offsetShown (errNs : Int) : Work := w.put F.RHL_TIME_OFFSET_NS (unsigned 16 (max (-32767) (min 32767 errNs)))

theorem Work.pairTime_joined (h : w.fabState = fsJoined) : w.pairTime = false := by
  have hjoined : w.joined = true := by
    have hstate : w.get F.RHL_STAT_STATE = 3 := h
    unfold Work.joined
    rw [hstate]
    rfl
  unfold Work.pairTime
  rw [hjoined, Bool.not_true, Bool.and_false, Bool.false_and]

/-- The tick counted from the root's at the first lock to it (R349). -/
def Work.tickGiven (first : Bool) (count : Nat) : Work :=
  if first = true ∧ w.lockState = lkLocked ∧ (w.fabState = fsJoined ∨ w.pairTime) then
    w.modLock (fun l => { l with everLocked := true, adopt := some ((count + 1) % 2 ^ 48) })
  else w

/-- The period of a node that joins held against the root's (R348). -/
def Work.periodJudged (per : Nat) : Work :=
  match w.fab.shakes with
  | k :: _ => if w.fabState = fsJoining ∧ per ≠ w.periodUs then w.unjoin 2 k.addr else w
  | [] => w

/-- A TIME frame that a node of the fabric takes. -/
theorem timeRecv_taken (count per : Nat) (err : Int)
    (hlistens : (w.fabRuns && [fsListen, fsJoining, fsJoined, fsUnjoined].contains w.fabState && decide (w.get F.SYS_TICK_CFG_LOCK_SRC = 1)) = true)
    (hpair : w.pairTime = false) :
    timeRecv w count per err =
      ((((w.offsetShown err).lockEvent (1000 * per) err).tickGiven (!(w.offsetShown err).lock.everLocked) count).periodJudged per) := by
  have hshape : timeRecv w count per err = if !((w.fabRuns && [fsListen, fsJoining, fsJoined, fsUnjoined].contains w.fabState &&
      decide (w.get F.SYS_TICK_CFG_LOCK_SRC = 1)) || w.pairTime) then w
    else (((((if w.pairTime then w.pairPeriod per else w).offsetShown err).lockEvent (1000 * per) err).tickGiven
      (!((if w.pairTime then w.pairPeriod per else w).offsetShown err).lock.everLocked) count).periodJudged per) := rfl
  rw [hshape, hlistens, hpair]
  rfl

theorem Work.listens_of (st : Nat) (hst : st = fsJoined ∨ st = fsJoining) (hruns : w.fabRuns = true) (hstate : w.fabState = st)
    (hsrc : w.get F.SYS_TICK_CFG_LOCK_SRC = 1) :
    (w.fabRuns && [fsListen, fsJoining, fsJoined, fsUnjoined].contains w.fabState && decide (w.get F.SYS_TICK_CFG_LOCK_SRC = 1)) = true := by
  rw [hruns, hstate, hsrc]
  rcases hst with rfl | rfl <;> decide

theorem Work.lockOnly_offsetShown (err : Int) : w.LockOnly (w.offsetShown err) := Work.LockOnly.put w F.RHL_TIME_OFFSET_NS _ 0 0 (by decide)

theorem Work.lockOnly_tickGiven (first : Bool) (count : Nat) : w.LockOnly (w.tickGiven first count) := by
  unfold Work.tickGiven
  split
  · exact Work.LockOnly.modLock _ _ rfl
  · exact Work.LockOnly.refl w

/-- A joined member takes a TIME frame for its lock; the first that locks it gives the tick (R348, R349). -/
theorem timeRecv_joined (count per : Nat) (err : Int) (hruns : w.fabRuns = true) (hjoined : w.fabState = fsJoined)
    (hsrc : w.get F.SYS_TICK_CFG_LOCK_SRC = 1) (v : Work) (hv : v = (w.offsetShown err).lockEvent (1000 * per) err) :
    timeRecv w count per err =
      if w.lock.everLocked = false ∧ v.lockState = lkLocked then
        v.modLock (fun l => { l with everLocked := true, adopt := some ((count + 1) % 2 ^ 48) })
      else v := by
  have hkept : w.LockOnly v := by
    rw [hv]
    exact (w.lockOnly_offsetShown err).trans (Work.LockOnly.lockEvent ..)
  have hever : (w.offsetShown err).lock.everLocked = w.lock.everLocked := by
    unfold Work.offsetShown
    rw [Work.put_lock]
  have hstate : v.fabState = fsJoined := hkept.state.trans hjoined
  rw [timeRecv_taken w count per err (w.listens_of _ (.inl rfl) hruns hjoined hsrc) (w.pairTime_joined hjoined), ← hv, hever]
  have hgiven : (v.tickGiven (!w.lock.everLocked) count).fabState = fsJoined := (v.lockOnly_tickGiven _ count).state.trans hstate
  have hjudged : ∀ x : Work, x.fabState = fsJoined → x.periodJudged per = x := by
    intro x hx
    unfold Work.periodJudged
    cases x.fab.shakes with
    | nil => rfl
    | cons k l => exact if_neg (fun h => absurd (hx.symm.trans h.1) (by decide))
  rw [hjudged _ hgiven]
  unfold Work.tickGiven
  simp only [hstate, true_or, and_true, Bool.not_eq_true']

/-- A node that joins and has not the root's period leaves (R348). -/
theorem timeRecv_leaves (count per : Nat) (err : Int) (k : Shake) (hruns : w.fabRuns = true) (hjoining : w.fabState = fsJoining)
    (hsrc : w.get F.SYS_TICK_CFG_LOCK_SRC = 1) (hpair : w.pairTime = false) (hshakes : w.fab.shakes = [k]) (hper : per ≠ w.periodUs) :
    ∃ v : Work, timeRecv w count per err = v.unjoin 2 k.addr := by
  rw [timeRecv_taken w count per err (w.listens_of _ (.inr rfl) hruns hjoining hsrc) hpair]
  generalize hv : ((w.offsetShown err).lockEvent (1000 * per) err).tickGiven (!(w.offsetShown err).lock.everLocked) count = v
  have hkept : w.LockOnly v := by
    rw [← hv]
    exact ((w.lockOnly_offsetShown err).trans (Work.LockOnly.lockEvent ..)).trans (Work.lockOnly_tickGiven ..)
  refine ⟨v, ?_⟩
  unfold Work.periodJudged
  rw [hkept.fab, hshakes]
  exact if_pos ⟨hkept.state.trans hjoining, by rw [hkept.period]; exact hper⟩

end

end Sys2Proof.Machine
end


section
/-! PROOF: TIME frames taken by a joined member and by a node that joins (R348, R349). -/
namespace Sys2Proof.Machine

/-- The registers that a TIME frame shows. -/
def timeRegs : List Nat := [R.RHL_TIME.addr 0 0, R.SYS_TICK_STAT.addr 0 0]

section
variable (w : Work) (err : Int)

theorem Work.lockState_eq : w.lockState = w.get F.SYS_TICK_STAT_LOCK_STATE := rfl

theorem Work.unsigned_near (h : err.natAbs ≤ 2000) : unsigned 16 (max (-32767) (min 32767 err)) = unsigned 16 err := by
  congr 1
  omega

theorem Work.unsigned_lt : unsigned 16 err < 2 ^ (F.RHL_TIME_OFFSET_NS.hi - F.RHL_TIME_OFFSET_NS.lo + 1) := by
  have hwidth : F.RHL_TIME_OFFSET_NS.hi - F.RHL_TIME_OFFSET_NS.lo + 1 = 16 := rfl
  rw [hwidth]
  unfold unsigned
  omega

theorem Work.offsetShown_same :
    (w.offsetShown err).lockState = w.lockState ∧ (w.offsetShown err).lock = w.lock ∧ (w.offsetShown err).wr = w.wr ∧
      (w.offsetShown err).dring = w.dring ∧ ∀ a, a ≠ R.RHL_TIME.addr 0 0 → (w.offsetShown err).reg a = w.reg a := by
  unfold Work.offsetShown
  refine ⟨?_, Work.put_lock .., Work.put_wr .., Work.put_dring .., fun a ha => Work.reg_put_ne _ F.RHL_TIME_OFFSET_NS _ 0 0 a ha⟩
  exact Work.get_put_apart _ F.RHL_TIME_OFFSET_NS F.SYS_TICK_STAT_LOCK_STATE _ 0 (by decide)

theorem Work.offsetShown_near (h : err.natAbs ≤ 2000) : (w.offsetShown err).get F.RHL_TIME_OFFSET_NS = unsigned 16 err := by
  unfold Work.offsetShown
  rw [Work.get_put_same _ _ _ _ _ (by decide), Work.unsigned_near err h, Nat.mod_eq_of_lt (Work.unsigned_lt err)]

/-- What stands once a TIME frame's offset and phase error are shown. -/
theorem Work.timeShown_same (c : Nat) (a : Nat) (ha : a ∉ timeRegs) : ((w.offsetShown err).phaseShown c err).reg a = w.reg a := by
  simp only [timeRegs, List.mem_cons, List.not_mem_nil, or_false, not_or] at ha
  obtain ⟨htime, hstat⟩ := ha
  obtain ⟨-, -, -, -, hphase⟩ := (w.offsetShown err).phaseShown_same c err
  obtain ⟨-, -, -, -, hoffset⟩ := w.offsetShown_same err
  rw [hphase a hstat, hoffset a htime]

/-- A field outside the registers that a TIME frame shows. -/
theorem Work.get_timeShown (c : Nat) (f : Fld) (h : f.addr 0 0 ∉ timeRegs) : ((w.offsetShown err).phaseShown c err).get f = w.get f := by
  unfold Work.get
  rw [w.timeShown_same err c _ h]

theorem Work.ratioOk_congr {v w : Work} (c : Nat) (hratio : v.get F.SYS_TICK_CFG_RATIO = w.get F.SYS_TICK_CFG_RATIO)
    (hdir : v.flag F.SYS_TICK_CFG_RATIO_DIR = w.flag F.SYS_TICK_CFG_RATIO_DIR) (hperiod : v.periodUs = w.periodUs) :
    v.ratioOk c = w.ratioOk c := by
  unfold Work.ratioOk
  rw [hratio, hdir, hperiod]

theorem Work.ratioOk_timeShown (c : Nat) : ((w.offsetShown err).phaseShown c err).ratioOk c = w.ratioOk c := by
  have hperiod := ((w.lockOnly_offsetShown err).trans (Work.LockOnly.phaseShown _ c err)).period
  have hratio := w.get_timeShown err c F.SYS_TICK_CFG_RATIO (by decide)
  have hdir := w.get_timeShown err c F.SYS_TICK_CFG_RATIO_DIR (by decide)
  generalize (w.offsetShown err).phaseShown c err = v at hratio hdir hperiod ⊢
  exact Work.ratioOk_congr c hratio (by unfold Work.flag; rw [hdir]) hperiod

/-- The sixteenth event in a row sets the lock (R46). -/
theorem Work.lockedNow_shows (d : Nat) (u : Work)
    (hu : u = ({ (w.modLock (fun l => { l with corr := roundOpen err 5, inRow := 16 })).setLock lkLocked with free := d } : Work)) :
    u.get F.SYS_TICK_STAT_LOCK_STATE = lkLocked ∧ u.wr = w.wr ∧ u.dring = w.dring ∧
      ∀ a, a ≠ R.SYS_TICK_STAT.addr 0 0 → u.reg a = w.reg a := by
  have hdrawn : ∀ (v : Work) (k : Nat), ({ v with free := k } : Work).get F.SYS_TICK_STAT_LOCK_STATE = v.get F.SYS_TICK_STAT_LOCK_STATE ∧
      ({ v with free := k } : Work).wr = v.wr ∧ ({ v with free := k } : Work).dring = v.dring ∧
      ∀ a, ({ v with free := k } : Work).reg a = v.reg a := fun _ _ => ⟨rfl, rfl, rfl, fun _ => rfl⟩
  obtain ⟨hget, hwr, hdring, hreg⟩ := hdrawn ((w.modLock (fun l => { l with corr := roundOpen err 5, inRow := 16 })).setLock lkLocked) d
  rw [← hu] at hget hwr hdring hreg
  unfold Work.setLock at hget hwr hdring hreg
  refine ⟨?_, ?_, ?_, fun a ha => ?_⟩
  · rw [hget, Work.get_modLock, Work.get_put_same _ _ _ _ _ (by decide)]
    rfl
  · rw [hwr, Work.modLock_wr, Work.put_wr, Work.modLock_wr]
  · rw [hdring, Work.modLock_dring, Work.put_dring, Work.modLock_dring]
  · rw [hreg, Work.reg_modLock, Work.reg_put_ne _ F.SYS_TICK_STAT_LOCK_STATE _ 0 0 a ha, Work.reg_modLock]

/-- The lock near enough to its source, LOCKED (R46). -/
def Work.corrected46 (c : Nat) : Work := ((w.offsetShown err).phaseShown c err).modLock (fun l => { l with corr := roundOpen err 5 })

theorem Work.corrected46_shows (c : Nat) (hnear : err.natAbs ≤ 2000) :
    (w.corrected46 err c).get F.RHL_TIME_OFFSET_NS = unsigned 16 err ∧
      (w.corrected46 err c).lock = { w.lock with measured := c, corr := roundOpen err 5 } ∧
      (w.corrected46 err c).lockState = w.lockState ∧ (w.corrected46 err c).wr = w.wr ∧
      ∀ a, a ∉ timeRegs → (w.corrected46 err c).reg a = w.reg a := by
  obtain ⟨hstate, hlock, hwr, -, hphase⟩ := (w.offsetShown err).phaseShown_same c err
  obtain ⟨hstate', hlock', hwr', -, -⟩ := w.offsetShown_same err
  unfold Work.corrected46
  refine ⟨?_, ?_, ?_, ?_, fun a ha => ?_⟩
  · rw [Work.get_modLock, ← w.offsetShown_near err hnear]
    unfold Work.get
    rw [hphase _ (by decide)]
  · rw [Work.modLock_lock, hlock, hlock']
  · rw [Work.lockState_modLock, hstate, hstate']
  · rw [Work.modLock_wr, hwr, hwr']
  · rw [Work.reg_modLock, w.timeShown_same err c a ha]

theorem Work.lockEvent_near (per : Nat) (hlocked : w.lockState = lkLocked) (hnear : err.natAbs ≤ 2000) :
    (w.offsetShown err).lockEvent (1000 * per) err = w.corrected46 err (1000 * per) :=
  (w.offsetShown err).lockEvent_locked (1000 * per) err ((w.offsetShown_same err).1.trans hlocked) hnear

end

section
variable (s : State) (count per : Nat) (err : Int) (hruns : s.work.fabRuns = true) (hjoined : s.work.fabState = fsJoined)
  (hsrc : s.get F.SYS_TICK_CFG_LOCK_SRC = 1)
include hruns hjoined hsrc

theorem fabricTime_corrects (hlocked : s.work.lockState = lkLocked) (hever : s.dev.lock.everLocked = true) (hnear : err.natAbs ≤ 2000)
    (t : State) (ht : t = s.run (fun w => timeRecv w count per err)) :
    t.get F.RHL_TIME_OFFSET_NS = unsigned 16 err ∧ t.dev.lock.corr = roundOpen err 5 ∧
      t.get F.SYS_TICK_STAT_LOCK_STATE = lkLocked ∧ t.dev.lock.adopt = s.dev.lock.adopt ∧ s.sameRegs t timeRegs ∧ t.mem = s.mem := by
  subst ht
  obtain ⟨hoffset, hlock, hstate, hwr, hreg⟩ := s.work.corrected46_shows err (1000 * per) hnear
  have hrun := timeRecv_joined s.work count per err hruns hjoined hsrc _ (s.work.lockEvent_near err per hlocked hnear).symm
  rw [if_neg (fun h => absurd (hever.symm.trans h.1) (by decide))] at hrun
  refine ⟨?_, ?_, ?_, ?_, fun a ha => ?_, s.run_mem_of_wr _ ?_⟩
  · rw [State.run_get, hrun, hoffset]
  · rw [State.run_dev, hrun, Work.toDev_lock, hlock]
  · rw [State.run_get, hrun, ← Work.lockState_eq, hstate, hlocked]
  · rw [State.run_dev, hrun, Work.toDev_lock, hlock]
    rfl
  · rw [State.run_reg, hrun, hreg a ha, State.work_reg]
  · rw [hrun, hwr, State.work_wr]

theorem fabricTime_locksAgain (hlocked : s.work.lockState = lkLocked) (hever : s.dev.lock.everLocked = false) (hnear : err.natAbs ≤ 2000)
    (t : State) (ht : t = s.run (fun w => timeRecv w count per err)) :
    t.get F.SYS_TICK_STAT_LOCK_STATE = lkLocked ∧ t.dev.lock.everLocked = true ∧ t.dev.lock.adopt = some ((count + 1) % 2 ^ 48) ∧
      s.sameRegs t timeRegs ∧ t.mem = s.mem := by
  subst ht
  obtain ⟨-, hlock, hstate, hwr, hreg⟩ := s.work.corrected46_shows err (1000 * per) hnear
  have hrun := timeRecv_joined s.work count per err hruns hjoined hsrc _ (s.work.lockEvent_near err per hlocked hnear).symm
  rw [if_pos ⟨hever, hstate.trans hlocked⟩] at hrun
  refine ⟨?_, ?_, ?_, fun a ha => ?_, s.run_mem_of_wr _ ?_⟩
  · rw [State.run_get, hrun, Work.get_modLock, ← Work.lockState_eq, hstate, hlocked]
  · rw [State.run_dev, hrun, Work.toDev_lock, Work.modLock_lock]
  · rw [State.run_dev, hrun, Work.toDev_lock, Work.modLock_lock]
  · rw [State.run_reg, hrun, Work.reg_modLock, hreg a ha, State.work_reg]
  · rw [hrun, Work.modLock_wr, hwr, State.work_wr]

theorem fabricTime_locks (hacquire : s.work.lockState = lkAcquire) (hever : s.dev.lock.everLocked = false) (hrow : s.dev.lock.inRow = 15)
    (hnear : err.natAbs ≤ 100) (hratio : s.work.ratioOk (1000 * per) = true)
    (t : State) (ht : t = s.run (fun w => timeRecv w count per err)) :
    t.get F.SYS_TICK_STAT_LOCK_STATE = lkLocked ∧ t.dev.lock.everLocked = true ∧ t.dev.lock.adopt = some ((count + 1) % 2 ^ 48) ∧
      s.sameRegs t (R.RHL_TIME.addr 0 0 :: R.SYS_TICK_STAT.addr 0 0 :: ringRegs devRing) ∧ s.sameMemButNext t devRing := by
  subst ht
  obtain ⟨hstate, hlock, hwr, hdring, -⟩ := s.work.offsetShown_same err
  obtain ⟨-, -, hwr', hdring', -⟩ := (s.work.offsetShown err).phaseShown_same (1000 * per) err
  have hphase := s.work.timeShown_same err (1000 * per)
  obtain ⟨e, d, hevent⟩ := (s.work.offsetShown err).lockEvent_acquired (1000 * per) err (hstate.trans hacquire) (by rw [hlock]; exact hrow)
    hnear (by rw [Work.ratioOk_timeShown]; exact hratio)
  obtain ⟨u, hu⟩ : ∃ u, u = ({ (((s.work.offsetShown err).phaseShown (1000 * per) err).modLock
    (fun l => { l with corr := roundOpen err 5, inRow := 16 })).setLock lkLocked with free := d } : Work) := ⟨_, rfl⟩
  rw [← hu] at hevent
  generalize (s.work.offsetShown err).phaseShown (1000 * per) err = v at hu hwr' hdring' hphase
  obtain ⟨hlocked, huwr, hudring, hureg⟩ := v.lockedNow_shows err d u hu
  have hlocked' : (((u.raiseEntry devRing e).modLock (fun l => { l with everLocked := true }))).lockState = lkLocked := by
    rw [Work.lockState_modLock]
    unfold Work.lockState
    rw [Work.get_raiseEntry_devRing u e F.SYS_TICK_STAT_LOCK_STATE (by decide), hlocked]
  have hreg : ∀ a, a ∉ timeRegs → u.reg a = s.reg a := by
    intro a ha
    rw [hureg a (fun h => ha (h ▸ by decide)), hphase a ha, State.work_reg]
  have hrun := timeRecv_joined s.work count per err hruns hjoined hsrc _ hevent.symm
  rw [if_pos ⟨hever, hlocked'⟩] at hrun
  refine ⟨?_, ?_, ?_, fun a ha => ?_, s.sameMemButNext_devRing _ u e ?_ ?_ ?_⟩
  · rw [State.run_get, hrun, ← Work.lockState_eq, Work.lockState_modLock, hlocked']
  · rw [State.run_dev, hrun, Work.toDev_lock, Work.modLock_lock]
  · rw [State.run_dev, hrun, Work.toDev_lock, Work.modLock_lock]
  · simp only [List.mem_cons, not_or] at ha
    obtain ⟨htime, hstat, hring⟩ := ha
    rw [State.run_reg, hrun, Work.reg_modLock, Work.reg_modLock, Work.reg_raiseEntry _ devRing e _ hring,
      hreg a (by simp [timeRegs, htime, hstat])]
  · rw [hrun, Work.modLock_wr, Work.modLock_wr]
  · rw [huwr, hwr', hwr, State.work_wr]
  · rw [hudring, hdring', hdring]
    rfl

end

/-! ### A node that leaves (R348) -/

section
variable (w : Work)

theorem Work.noAddress_shows : w.noAddress.get F.RHL_STAT_ADDR_ACT = 0 := by
  unfold Work.noAddress
  dsimp only
  generalize List.foldl _ _ (List.range 3) = v
  have hfab : ∀ (u : Work) (f : Fab → Fab), (u.modFab f).get F.RHL_STAT_ADDR_ACT = u.get F.RHL_STAT_ADDR_ACT := fun _ _ => rfl
  rw [hfab, Work.putFlag_eq, Work.get_put_apart _ F.RHL_STAT_RING F.RHL_STAT_ADDR_ACT _ 0 (by decide), Work.get_put_same _ _ _ _ _ (by decide)]
  rfl

theorem Work.unjoin_shows (addr : Nat) :
    (w.unjoin 2 addr).get F.RHL_STAT_STATE = fsUnjoined ∧ (w.unjoin 2 addr).get F.RHL_STAT_REASON = 2 ∧
      (w.unjoin 2 addr).get F.RHL_STAT_ADDR_ACT = 0 ∧ (w.unjoin 2 addr).fab.shakes = [] := by
  have hshape : w.unjoin 2 addr = (((w.leaveFabric.noAddress.put F.RHL_STAT_STATE fsUnjoined).put F.RHL_STAT_REASON 2).modFab
      (fun b => { b with shakes := [] })).fabEntry 2 addr 2 := rfl
  have hno := w.leaveFabric.noAddress_shows
  have hfab : ∀ (u : Work) (g : Fab → Fab) (f : Fld), (u.modFab g).get f = u.get f := fun _ _ _ => rfl
  have hshakes : ∀ (u : Work) (g : Fab → Fab), (u.modFab g).fab = g u.fab := fun _ _ => rfl
  rw [hshape]
  generalize w.leaveFabric.noAddress = u at hno ⊢
  unfold Work.fabEntry Work.entryNow
  refine ⟨?_, ?_, ?_, ?_⟩
  · rw [Work.get_raiseEntry_devRing _ _ F.RHL_STAT_STATE (by decide), hfab, Work.get_put_apart _ F.RHL_STAT_REASON F.RHL_STAT_STATE _ 0 (by decide),
      Work.get_put_same _ _ _ _ _ (by decide)]
    rfl
  · rw [Work.get_raiseEntry_devRing _ _ F.RHL_STAT_REASON (by decide), hfab, Work.get_put_same _ _ _ _ _ (by decide)]
    rfl
  · rw [Work.get_raiseEntry_devRing _ _ F.RHL_STAT_ADDR_ACT (by decide), hfab,
      Work.get_put_apart _ F.RHL_STAT_REASON F.RHL_STAT_ADDR_ACT _ 0 (by decide),
      Work.get_put_apart _ F.RHL_STAT_STATE F.RHL_STAT_ADDR_ACT _ 0 (by decide), hno]
  · rw [(Work.SameDevice.raiseEntry _ devRing _).fab, hshakes]

end

theorem fabricTime_leaves (s : State) (count per : Nat) (err : Int) (k : Shake) (hruns : s.work.fabRuns = true)
    (hjoining : s.work.fabState = fsJoining) (hsrc : s.get F.SYS_TICK_CFG_LOCK_SRC = 1) (hpair : s.work.pairTime = false)
    (hshakes : s.dev.fab.shakes = [k]) (hper : per ≠ s.work.periodUs) (t : State) (ht : t = s.run (fun w => timeRecv w count per err)) :
    t.get F.RHL_STAT_STATE = fsUnjoined ∧ t.get F.RHL_STAT_REASON = 2 ∧ t.get F.RHL_STAT_ADDR_ACT = 0 ∧ t.dev.fab.shakes = [] := by
  subst ht
  obtain ⟨v, hrun⟩ := timeRecv_leaves s.work count per err k hruns hjoining hsrc hpair hshakes hper
  obtain ⟨hstate, hreason, haddr, hempty⟩ := v.unjoin_shows k.addr
  exact ⟨by rw [State.run_get, hrun, hstate], by rw [State.run_get, hrun, hreason], by rw [State.run_get, hrun, haddr],
    by rw [State.run_dev, hrun, Work.toDev_fab, hempty]⟩

end Sys2Proof.Machine
end


section
/-! PROOF SUPPORT. What a delivery to the channels that bind it changes, and what it is read from (R351, R163). -/
namespace Sys2Proof.Machine

/-! ### Folds over the channels and over the published sets -/

/-- A fold in which one element alone acts. -/
theorem List.foldl_only {α β : Type} (l : List α) (k : α) (hnodup : l.Nodup) (hk : k ∈ l) (f : β → α → β) (w : β)
    (hbefore : ∀ j ∈ l, j ≠ k → f w j = w) (hafter : ∀ j ∈ l, j ≠ k → f (f w k) j = f w k) : l.foldl f w = f w k := by
  have hfix : ∀ (m : List α) (x : β), (∀ j ∈ m, f x j = x) → m.foldl f x = x := by
    intro m x h
    induction m with
    | nil => rfl
    | cons j m ih => rw [List.foldl_cons, h j List.mem_cons_self, ih (fun i hi => h i (List.mem_cons_of_mem _ hi))]
  obtain ⟨l₁, l₂, rfl⟩ := List.append_of_mem hk
  obtain ⟨-, hcons, hdisj⟩ := List.nodup_append.mp hnodup
  have hne₁ : ∀ j ∈ l₁, j ≠ k := fun j hj h => hdisj j hj k List.mem_cons_self h
  have hne₂ : ∀ j ∈ l₂, j ≠ k := fun j hj h => (List.nodup_cons.mp hcons).1 (h ▸ hj)
  rw [List.foldl_append, List.foldl_cons,
    hfix l₁ w (fun j hj => hbefore j (List.mem_append_left _ hj) (hne₁ j hj)),
    hfix l₂ (f w k) (fun j hj => hafter j (List.mem_append_right _ (List.mem_cons_of_mem _ hj)) (hne₂ j hj))]

/-- The registers of a channel that a delivery may change. -/
def deliverRegs (n : Nat) : List Nat := [R.CTL_STAT.addr n 0, R.MASH_STAT.addr n 0, R.MASH_ERR.addr n 0]

/-- Those of every channel. -/
def deliverAll : List Nat := ((List.range 8).map deliverRegs).flatten

theorem deliverRegs_all (n : Nat) (h : n < 8) : ∀ a ∈ deliverRegs n, a ∈ deliverAll := fun _ ha =>
  List.mem_flatten.mpr ⟨_, List.mem_map.mpr ⟨n, List.mem_range.mpr h, rfl⟩, ha⟩

/-- All that a delivery to channels leaves alone. -/
structure Work.DeliversOnly (w v : Work) : Prop where
  reg : ∀ a, a ∉ deliverAll → v.reg a = w.reg a
  wr : v.wr = w.wr
  mem : v.mem = w.mem
  fab : v.fab = w.fab
  regions : ∀ m, (v.chan m).regions = (w.chan m).regions

namespace Work.DeliversOnly

variable {w : Work}

theorem refl (w : Work) : w.DeliversOnly w := ⟨fun _ _ => rfl, rfl, rfl, rfl, fun _ => rfl⟩

theorem trans {u v : Work} (h : w.DeliversOnly u) (h' : u.DeliversOnly v) : w.DeliversOnly v :=
  ⟨fun a ha => (h'.reg a ha).trans (h.reg a ha), h'.wr.trans h.wr, h'.mem.trans h.mem, h'.fab.trans h.fab,
    fun m => (h'.regions m).trans (h.regions m)⟩

theorem get {v : Work} (h : w.DeliversOnly v) (f : Fld) (n k : Nat) (hf : f.addr n k ∉ deliverAll) : v.get f n k = w.get f n k := by
  unfold Work.get
  rw [h.reg _ hf]

theorem ev (w : Work) (c i k : Nat) : w.DeliversOnly (w.ev c i k) :=
  ⟨fun _ _ => Work.reg_ev .., Work.ev_wr .., (Work.SameDevice.ev w c i k).mem, Work.ev_fab .., fun m => by rw [Work.chan_ev]⟩

theorem put (w : Work) (f : Fld) (v n k : Nat) (h : f.addr n k ∈ deliverAll) : w.DeliversOnly (w.put f v n k) :=
  ⟨fun a ha => Work.reg_put_ne w f v n k a (fun e => ha (e ▸ h)), Work.put_wr .., rfl, Work.put_fab .., fun _ => rfl⟩

theorem modChan (w : Work) (n : Nat) (f : Chan → Chan) (h : ∀ c, (f c).regions = c.regions) : w.DeliversOnly (w.modChan n f) := by
  refine ⟨fun _ _ => rfl, rfl, rfl, rfl, fun m => ?_⟩
  by_cases hm : m = n
  · subst hm
    by_cases hlt : m < 8
    · have := Work.chan_modChan_fin w ⟨m, hlt⟩ f
      dsimp only at this
      rw [this, h]
    · unfold Work.modChan Work.setChan Work.chan
      simp [hlt]
  · rw [Work.chan_modChan_ne w n m f hm]

theorem modMash (w : Work) (n : Nat) (hn : n < 8) (f : Mash → Mash) : w.DeliversOnly (w.modMash n f) := by
  have hall := deliverRegs_all n hn
  have hstat : ∀ g : Fld, g.addr n 0 = R.MASH_STAT.addr n 0 → g.addr n 0 ∈ deliverAll := fun g hg =>
    hall _ (hg ▸ List.mem_cons_of_mem _ List.mem_cons_self)
  unfold Work.modMash Work.showMash
  exact ((modChan w n (fun c => { c with mash := f c.mash }) (fun _ => rfl)).trans (put _ F.MASH_STAT_STAMPED _ n 0 (hstat _ rfl))).trans
    ((put _ F.MASH_STAT_QUEUE _ n 0 (hstat _ rfl)).trans (put _ F.MASH_STAT_SWAP_PENDING _ n 0 (hstat _ rfl)))

theorem deliverBody (w : Work) (n : Nat) (hn : n < 8) (b : DelivBody) (o : Origin) : w.DeliversOnly (w.deliverBody n b o) := by
  have hall := deliverRegs_all n hn
  unfold Work.deliverBody Work.deliver Work.countIso
  split
  · exact put w F.CTL_STAT_ISO_ERRS _ n 0 (hall _ List.mem_cons_self)
  · dsimp only
    split
    · exact (put w F.MASH_ERR_QFULL 1 n 0 (hall _ (List.mem_cons_of_mem _ (List.mem_cons_of_mem _ List.mem_cons_self)))).trans (modMash _ n hn _)
    · exact modMash w n hn _

theorem foldl (l : List Nat) (f : Work → Nat → Work) (h : ∀ (v : Work) (x : Nat), x ∈ l → v.DeliversOnly (f v x)) (w : Work) :
    w.DeliversOnly (l.foldl f w) :=
  List.foldlRecOn (motive := fun v => w.DeliversOnly v) l f (refl w) (fun v hv x hx => hv.trans (h v x hx))

end Work.DeliversOnly

/-! ### The bindings of a channel -/

/-- The bindings of a channel are read from its region and its bank's health alone. -/
theorem Work.bindings_congr {v w : Work} (n : Nat) (hregions : (v.chan n).regions = (w.chan n).regions) (hmem : v.mem = w.mem)
    (hwr : v.wr = w.wr) (hfailed : v.get F.MEM_FAILED_FAILED = w.get F.MEM_FAILED_FAILED)
    (haon : v.get F.MEM_STAT_AON_FAILED = w.get F.MEM_STAT_AON_FAILED) : v.bindings n = w.bindings n := by
  have hregion : v.region n = w.region n := by
    funext r
    unfold Work.region
    rw [hregions]
  have hpeek : v.peek = w.peek := by
    funext a
    unfold Work.peek Work.bankFailed Work.cell Work.flag
    rw [hmem, hwr, hfailed, haon]
  have hbyte : v.regByte n = w.regByte n := by
    funext r off
    unfold Work.regByte
    rw [hregion, hpeek]
  unfold Work.bindings Work.binding Work.regLe
  rw [hregion, hbyte]

theorem Work.DeliversOnly.bindings {w v : Work} (h : w.DeliversOnly v) (n : Nat) : v.bindings n = w.bindings n :=
  Work.bindings_congr n (h.regions n) h.mem h.wr (h.get _ 0 0 (by decide +kernel)) (h.get _ 0 0 (by decide +kernel))

/-! ### A delivery to every channel that binds it -/

section
variable (w : Work) (n m : Nat) (b : DelivBody) (o : Origin)

theorem Work.chan_deliverBody_ne (h : m ≠ n) : (w.deliverBody n b o).chan m = w.chan m := by
  have hput : ∀ (v : Work) (f : Fld) (x i k : Nat), (v.put f x i k).chan m = v.chan m := fun _ _ _ _ _ => rfl
  unfold Work.deliverBody Work.deliver Work.countIso
  split
  · exact hput ..
  · dsimp only
    split
    · rw [Work.chan_modMash_ne _ _ _ _ h, Work.raise_eq, hput]
    · exact Work.chan_modMash_ne _ _ _ _ h

/-- A channel whose delivery queue has room takes the delivery at its end (R163). -/
theorem Work.queue_deliverBody (ch : Fin 8) (hfree : w.mashIsolated ch = false) (hroom : (w.chan ch).mash.queue.length < 256)
    (hnone : (w.chan ch).mash.waiting = []) :
    ((w.deliverBody ch b o).chan ch).mash.queue = (w.chan ch).mash.queue ++ [⟨b, o, none, some (w.chan ch).seq.started, none, false⟩] := by
  have hgo : ¬ (256 ≤ (w.chan ch).mash.queue.length ∨ (!(w.chan ch).mash.waiting.isEmpty) = true) := by
    rw [hnone]
    simpa using hroom
  unfold Work.deliverBody Work.deliver
  simp only [hfree, Bool.false_eq_true, if_false]
  rw [if_neg hgo]
  rw [Work.chan_modMash]
  rfl

end

section
variable (w : Work) (kind engine set : Nat) (data : List Byte) (o : Origin)

/-- One channel's share of a delivery. -/
def Work.boundBody (n : Nat) : Work :=
  if (w.bindings n).any (fun b => b.fits kind engine set) then w.deliverBody n (.area kind engine set data) o else w

theorem Work.deliverArea_eq : w.deliverArea kind engine set data o = (List.range 8).foldl (fun v n => v.boundBody kind engine set data o n) w := rfl

theorem Work.deliversOnly_boundBody (n : Nat) (hn : n < 8) : w.DeliversOnly (w.boundBody kind engine set data o n) := by
  unfold Work.boundBody
  split
  · exact Work.DeliversOnly.deliverBody w n hn _ _
  · exact Work.DeliversOnly.refl w

theorem Work.deliversOnly_deliverArea : w.DeliversOnly (w.deliverArea kind engine set data o) := by
  rw [Work.deliverArea_eq]
  exact Work.DeliversOnly.foldl _ _ (fun v x hx => v.deliversOnly_boundBody kind engine set data o x (List.mem_range.mp hx)) w

/-- A channel that binds the area takes it once. -/
theorem Work.queue_deliverArea (ch : Fin 8) (hbinds : (w.bindings ch).any (fun b => b.fits kind engine set) = true)
    (hfree : w.mashIsolated ch = false) (hroom : (w.chan ch).mash.queue.length < 256) (hnone : (w.chan ch).mash.waiting = []) :
    ((w.deliverArea kind engine set data o).chan ch).mash.queue =
      (w.chan ch).mash.queue ++ [⟨.area kind engine set data, o, none, some (w.chan ch).seq.started, none, false⟩] := by
  have hapart : ∀ (l : List Nat) (v : Work), ch.val ∉ l → (l.foldl (fun v n => v.boundBody kind engine set data o n) v).chan ch = v.chan ch := by
    intro l v hl
    refine List.foldlRecOn (motive := fun u : Work => u.chan ch = v.chan ch) l _ rfl (fun u hu n hn => ?_)
    rw [← hu]
    unfold Work.boundBody
    split
    · exact Work.chan_deliverBody_ne _ _ _ _ _ (fun h => hl (h ▸ hn))
    · rfl
  have hmem : ch.val ∈ List.range 8 := List.mem_range.mpr ch.isLt
  have hnodup : (List.range 8).Nodup := List.nodup_range
  obtain ⟨l₁, l₂, hl⟩ := List.append_of_mem hmem
  rw [hl] at hnodup
  obtain ⟨-, hcons, hdisj⟩ := List.nodup_append.mp hnodup
  have hlt : ∀ x ∈ l₁, x < 8 := fun x hx => List.mem_range.mp (hl ▸ List.mem_append_left _ hx)
  rw [Work.deliverArea_eq, hl, List.foldl_append, List.foldl_cons, hapart l₂ _ (List.nodup_cons.mp hcons).1]
  obtain ⟨v, hv⟩ : ∃ v, v = l₁.foldl (fun v n => v.boundBody kind engine set data o n) w := ⟨_, rfl⟩
  have honly : w.DeliversOnly v := by
    rw [hv]
    exact Work.DeliversOnly.foldl _ _ (fun u x hx => u.deliversOnly_boundBody kind engine set data o x (hlt x hx)) w
  have hchan : v.chan ch = w.chan ch := by
    rw [hv]
    exact hapart l₁ w (fun h => hdisj _ h _ List.mem_cons_self rfl)
  have hfree' : v.mashIsolated ch = false := by
    unfold Work.mashIsolated at hfree ⊢
    rw [hchan, hfree]
  rw [← hv]
  unfold Work.boundBody
  rw [honly.bindings, if_pos hbinds, v.queue_deliverBody _ _ ch hfree' (by rw [hchan]; exact hroom) (by rw [hchan]; exact hnone), hchan]

/-- Where no channel binds it, nothing is delivered. -/
theorem Work.deliverArea_none (h : ∀ ch : Fin 8, (w.bindings ch).any (fun b => b.fits kind engine set) = false) :
    w.deliverArea kind engine set data o = w := by
  rw [Work.deliverArea_eq]
  refine List.foldlRecOn (motive := fun u : Work => u = w) _ _ rfl (fun u hu n hn => ?_)
  rw [hu]
  unfold Work.boundBody
  rw [h ⟨n, List.mem_range.mp hn⟩]
  rfl

end

end Sys2Proof.Machine
end


section
/-! PROOF: data sets published and received (R351). -/
namespace Sys2Proof.Machine

/-! ### Casts beside a change of the fabric's own record -/

section
variable (w : Work)

theorem Work.modFab_fab (f : Fab → Fab) : (w.modFab f).fab = f w.fab := rfl

theorem Work.modFab_sent (f : Fab → Fab) : (w.modFab f).sent = w.sent := rfl

theorem Work.modFab_wr (f : Fab → Fab) : (w.modFab f).wr = w.wr := rfl

theorem Work.reg_modFab (f : Fab → Fab) (a : Nat) : (w.modFab f).reg a = w.reg a := rfl

theorem Work.get_modFab (f : Fab → Fab) (g : Fld) (n k : Nat) : (w.modFab f).get g n k = w.get g n k := rfl

theorem Work.flag_modFab (f : Fab → Fab) (g : Fld) (n k : Nat) : (w.modFab f).flag g n k = w.flag g n k := rfl

theorem Work.chan_modFab (f : Fab → Fab) (n : Nat) : (w.modFab f).chan n = w.chan n := rfl

theorem Work.bindings_modFab (f : Fab → Fab) (n : Nat) : (w.modFab f).bindings n = w.bindings n :=
  Work.bindings_congr n rfl rfl rfl rfl rfl

/-- What a cast sends is read from the tree, the ring and its breaks. -/
theorem Work.castSent_modFab (f : Fab → Fab) (hring : (f w.fab).ring = w.fab.ring) (hbroken : (f w.fab).broken = w.fab.broken)
    (hup : (f w.fab).upPort = w.fab.upPort) (kind dest cls : Nat) (payload : List Byte) :
    (w.modFab f).castSent kind dest cls payload = w.castSent kind dest cls payload := by
  have hcarries : (w.modFab f).carries = w.carries := rfl
  have hroute : (w.modFab f).routeOf = w.routeOf := rfl
  have hjoined : (w.modFab f).joined = w.joined := rfl
  have haddr : (w.modFab f).ownAddr = w.ownAddr := rfl
  have hports : (w.modFab f).portsTo dest = w.portsTo dest := by
    unfold Work.portsTo Work.castPorts
    rw [hcarries, hroute, hjoined, Work.modFab_fab, hring, hbroken, hup]
  have hrecord : (w.modFab f).fabRecord = w.fabRecord := by
    funext q k d c p
    unfold Work.fabRecord Work.ringDir
    rw [haddr, Work.modFab_fab, hring]
  unfold Work.castSent
  rw [hports, hrecord]

theorem Work.castSent_ev (c i n kind dest cls : Nat) (payload : List Byte) :
    (w.ev c i n).castSent kind dest cls payload = w.castSent kind dest cls payload :=
  Work.castSent_congr w (w.ev c i n) kind dest cls payload (fun _ _ _ _ => Work.get_ev ..) (Work.ev_fab ..) (Work.SameDevice.ev w c i n).rst

/-- A cast changes nothing of the fabric's record but its ports. -/
theorem Work.fab_fabCast (kind dest cls : Nat) (payload : List Byte) :
    ∃ ps, (w.fabCast kind dest cls payload).fab = { w.fab with ports := ps } := by
  unfold Work.fabCast
  refine List.foldlRecOn (motive := fun v : Work => ∃ ps, v.fab = { w.fab with ports := ps }) _ _ ⟨_, rfl⟩ (fun v hv q _ => ?_)
  obtain ⟨ps, hps⟩ := hv
  have hout : ∃ ps', (v.fabOut q kind dest cls payload).fab = { v.fab with ports := ps' } := by
    unfold Work.fabOut
    refine iteInduction (motive := fun u : Work => ∃ ps', u.fab = { v.fab with ports := ps' }) (fun _ => ?_) (fun _ => ⟨_, rfl⟩)
    rw [Work.ev_fab]
    exact ⟨_, rfl⟩
  obtain ⟨ps', hps'⟩ := hout
  exact ⟨ps', by rw [hps', hps]⟩

end

/-- Two nodes with the same channels, one by one. -/
theorem Work.ch_of_chan {v w : Work} (h : ∀ m : Fin 8, v.chan m = w.chan m) : v.ch = w.ch := by
  refine Vector.ext (fun i hi => ?_)
  have hi' := h ⟨i, hi⟩
  unfold Work.chan at hi'
  simpa [hi] using hi'

/-! ### A set received (R351) -/

section
variable (w : Work) (src id seq : Nat) (data : List Byte)

/-- The working state when a newer set has been noted. -/
def Work.setNoted : Work := w.modFab (fun b => { b with seqs := tabInsert b.seqs id (seq, src) })

/-- The set's data kept, and its arrival counted. -/
def Work.dataKept : Work :=
  (w.modFab (fun b => { b with lastData := b.lastData.filter (fun x => x.1 != id) ++ [(id, data)] })).ev 0x45

theorem Work.deliverSet_eq : w.deliverSet id data src = (w.dataKept id data).deliverArea 2 0 id data (.fabric src) := rfl

theorem Work.dataKept_same :
    (w.dataKept id data).fab = { w.fab with lastData := w.fab.lastData.filter (fun x => x.1 != id) ++ [(id, data)] } ∧
      (w.dataKept id data).wr = w.wr ∧ (w.dataKept id data).sent = w.sent ∧ (∀ a, (w.dataKept id data).reg a = w.reg a) ∧
      (∀ n, (w.dataKept id data).chan n = w.chan n) ∧ ∀ n, (w.dataKept id data).bindings n = w.bindings n := by
  unfold Work.dataKept
  refine ⟨?_, ?_, ?_, fun a => ?_, fun n => ?_, fun n => ?_⟩
  · rw [Work.ev_fab, Work.modFab_fab]
  · rw [Work.ev_wr, Work.modFab_wr]
  · rw [Work.ev_sent, Work.modFab_sent]
  · rw [Work.reg_ev, Work.reg_modFab]
  · rw [Work.chan_ev, Work.chan_modFab]
  · rw [(Work.DeliversOnly.ev _ _ _ _).bindings, Work.bindings_modFab]

variable (hjoined : w.joined = true) (hruns : w.fabRuns = true)
include hjoined hruns

theorem dataSet_conflict (last pub : Nat) (hlast : tabFind w.fab.seqs id = some (last, pub)) (hpub : pub ≠ src) :
    dataSet w src id seq data = (w.put F.RHL_ERR_SET_CONFLICT 1).fabEntry 8 id := by
  unfold dataSet
  rw [if_neg (by simp [hjoined, hruns])]
  simp only [hlast]
  exact if_pos (.inl hpub)

variable (hnone : ∀ j : Fin 64, w.flag F.RHL_PUB_A_EN 0 j = false)
include hnone

omit hjoined hruns in
theorem Work.notMine : ((List.range 64).any (fun k => w.flag F.RHL_PUB_A_EN 0 k && w.get F.RHL_PUB_A_SET_ID 0 k == id) && src != w.ownAddr) = false := by
  have hany : (List.range 64).any (fun k => w.flag F.RHL_PUB_A_EN 0 k && w.get F.RHL_PUB_A_SET_ID 0 k == id) = false := by
    refine List.any_eq_false.mpr (fun k hk => ?_)
    rw [hnone ⟨k, List.mem_range.mp hk⟩]
    simp
  rw [hany, Bool.false_and]

theorem dataSet_old (last : Nat) (hlast : tabFind w.fab.seqs id = some (last, src)) (hold : newer16 seq last = false) :
    dataSet w src id seq data = w.ev 0x46 := by
  have hmine := w.notMine src id hnone
  unfold dataSet
  rw [if_neg (by simp [hjoined, hruns])]
  simp only [hlast, hmine, hold, ne_eq, not_true_eq_false, Bool.false_eq_true, or_self, if_false, Bool.not_false, if_true]

theorem dataSet_newer (hnew : ∀ x ∈ tabFind w.fab.seqs id, x.2 = src ∧ newer16 seq x.1 = true) :
    dataSet w src id seq data = (w.setNoted src id seq).deliverSet id data src := by
  have hmine := w.notMine src id hnone
  unfold dataSet
  rw [if_neg (by simp [hjoined, hruns])]
  cases hlast : tabFind w.fab.seqs id with
  | none =>
    simp only [hmine, Bool.false_eq_true, if_false]
    rfl
  | some x =>
    obtain ⟨last, pub⟩ := x
    obtain ⟨hpub, hseq⟩ := hnew _ hlast
    dsimp only at hpub hseq
    simp only [hmine, hpub, hseq, ne_eq, not_true_eq_false, Bool.false_eq_true, or_self, if_false, Bool.not_true]
    rfl

end

section
variable (s : State) (src id seq : Nat) (data : List Byte) (hjoined : s.work.joined = true) (hruns : s.work.fabRuns = true)
include hjoined hruns

theorem dataSet_delivers (ch : Fin 8) (hnone : ∀ j : Fin 64, s.flag F.RHL_PUB_A_EN 0 j = false)
    (hnew : ∀ x ∈ tabFind s.dev.fab.seqs id, x.2 = src ∧ newer16 seq x.1 = true)
    (hbinds : (s.work.bindings ch).any (fun b => b.fits 2 0 id) = true) (hfree : s.work.mashIsolated ch = false)
    (hroom : (s.chan ch).mash.queue.length < 256) (hwaiting : (s.chan ch).mash.waiting = [])
    (t : State) (ht : t = s.run (fun w => dataSet w src id seq data)) :
    tabFind t.dev.fab.seqs id = some (seq, src) ∧
      t.dev.fab.lastData = s.dev.fab.lastData.filter (fun x => x.1 != id) ++ [(id, data)] ∧
      (t.chan ch).mash.queue = (s.chan ch).mash.queue ++ [⟨.area 2 0 id data, .fabric src, none, some (s.chan ch).seq.started, none, false⟩] ∧
      s.sameRegs t deliverAll ∧ t.mem = s.mem := by
  subst ht
  have hrun := dataSet_newer s.work src id seq data hjoined hruns hnone hnew
  rw [Work.deliverSet_eq] at hrun
  obtain ⟨hfab, hwr, -, hreg, hchan, hbind⟩ := (s.work.setNoted src id seq).dataKept_same id data
  obtain ⟨u, hu⟩ : ∃ u, u = (s.work.setNoted src id seq).dataKept id data := ⟨_, rfl⟩
  rw [← hu] at hrun hfab hwr hreg hchan hbind
  have honly := u.deliversOnly_deliverArea 2 0 id data (.fabric src)
  have hchan' : u.chan ch = s.work.chan ch := (hchan ch).trans (Work.chan_modFab ..)
  have hbinds' : (u.bindings ch).any (fun b => b.fits 2 0 id) = true := by
    have hsame : (s.work.setNoted src id seq).bindings ch = s.work.bindings ch := Work.bindings_modFab ..
    rw [hbind, hsame, hbinds]
  have hfree' : u.mashIsolated ch = false := by
    unfold Work.mashIsolated at hfree ⊢
    rw [hchan', hfree]
  have hqueue := u.queue_deliverArea 2 0 id data (.fabric src) ch hbinds' hfree' (by rw [hchan']; exact hroom) (by rw [hchan']; exact hwaiting)
  refine ⟨?_, ?_, ?_, fun a ha => ?_, s.run_mem_of_wr _ ?_⟩
  · rw [State.run_dev, hrun, Work.toDev_fab, honly.fab, hfab]
    exact tabFind_tabInsert_same ..
  · rw [State.run_dev, hrun, Work.toDev_fab, honly.fab, hfab]
    rfl
  · rw [State.run_chan, hrun, hqueue, hchan']
    rfl
  · rw [State.run_reg, hrun, honly.reg a ha, hreg]
    rfl
  · rw [hrun, honly.wr, hwr]
    rfl

theorem dataSet_dropped (hnone : ∀ j : Fin 64, s.flag F.RHL_PUB_A_EN 0 j = false) (last : Nat)
    (hlast : tabFind s.dev.fab.seqs id = some (last, src)) (hold : newer16 seq last = false)
    (t : State) (ht : t = s.run (fun w => dataSet w src id seq data)) :
    t.dev.fab = s.dev.fab ∧ t.dev.ch = s.dev.ch ∧ s.sameRegs t [] ∧ t.mem = s.mem := by
  subst ht
  have hrun := dataSet_old s.work src id seq data hjoined hruns hnone last hlast hold
  refine ⟨?_, ?_, fun a _ => ?_, s.run_mem_of_wr _ ?_⟩
  · rw [State.run_dev, hrun, Work.toDev_fab, Work.ev_fab]
    rfl
  · rw [State.run_dev, hrun]
    exact Work.ev_ch ..
  · rw [State.run_reg, hrun, Work.reg_ev, State.work_reg]
  · rw [hrun, Work.ev_wr, State.work_wr]

theorem dataSet_clashes (last pub : Nat) (hlast : tabFind s.dev.fab.seqs id = some (last, pub)) (hpub : pub ≠ src)
    (t : State) (ht : t = s.run (fun w => dataSet w src id seq data)) :
    t.flag F.RHL_ERR_SET_CONFLICT = true ∧ t.dev.fab = s.dev.fab ∧ t.dev.ch = s.dev.ch ∧
      s.sameRegs t (R.RHL_ERR.addr 0 0 :: ringRegs devRing) ∧ s.sameMemButNext t devRing := by
  subst ht
  have hrun := dataSet_conflict s.work src id seq data hjoined hruns last pub hlast hpub
  obtain ⟨e, he⟩ : ∃ e, (s.work.put F.RHL_ERR_SET_CONFLICT 1).fabEntry 8 id = (s.work.put F.RHL_ERR_SET_CONFLICT 1).raiseEntry devRing e := ⟨_, rfl⟩
  rw [he] at hrun
  refine ⟨?_, ?_, ?_, fun a ha => ?_, s.sameMemButNext_devRing _ _ e (congrArg Work.wr hrun) ?_ ?_⟩
  · rw [State.run_flag, hrun, Work.flag_raiseEntry_devRing _ e _ (by decide), Work.flag_put_same _ _ _ _ _ rfl]
    rfl
  · rw [State.run_dev, hrun, Work.toDev_fab, (Work.SameDevice.raiseEntry _ devRing e).fab, Work.put_fab]
    rfl
  · rw [State.run_dev, hrun]
    exact (Work.ch_of_chan fun m => Work.chan_raiseEntry_ne _ devRing m e (ne_of_lt m.isLt)).trans (Work.put_ch ..)
  · simp only [List.mem_cons, not_or] at ha
    obtain ⟨herr, hring⟩ := ha
    rw [State.run_reg, hrun, Work.reg_raiseEntry _ devRing e _ hring, Work.reg_put_ne _ F.RHL_ERR_SET_CONFLICT 1 0 0 a herr, State.work_reg]
  · rw [Work.put_wr, State.work_wr]
  · rw [Work.put_dring]
    rfl

end

/-! ### A set published (R351) -/

section
variable (w : Work) (k : Nat) (data : List Byte)

theorem Work.publish_shows (id seq : Nat) (hid : id = w.get F.RHL_PUB_A_SET_ID 0 k) (hseq : seq = (tabGet w.fab.pubSeq 0 k + 1) % 65536) :
    (∃ ps, (w.publish k data).fab = { w.fab with pubSeq := tabInsert w.fab.pubSeq k seq, ports := ps }) ∧
      (w.publish k data).sent = w.sent ++ w.castSent 0x20 (w.get F.RHL_PUB_B_DEST 0 k) (!w.flag F.RHL_PUB_A_URGENT 0 k).toNat
        (leBytes 2 id ++ leBytes 2 seq ++ data) ∧
      w.OnlyTold (w.publish k data) := by
  subst hid hseq
  obtain ⟨u, hu⟩ : ∃ u, u = w.modFab (fun b => { b with pubSeq := tabInsert b.pubSeq k ((tabGet w.fab.pubSeq 0 k + 1) % 65536) }) := ⟨_, rfl⟩
  have hpublish : w.publish k data = u.fabCast 0x20 (w.get F.RHL_PUB_B_DEST 0 k) (!w.flag F.RHL_PUB_A_URGENT 0 k).toNat
      (leBytes 2 (w.get F.RHL_PUB_A_SET_ID 0 k) ++ leBytes 2 ((tabGet w.fab.pubSeq 0 k + 1) % 65536) ++ data) := by
    rw [hu]
    rfl
  have hfab : u.fab = { w.fab with pubSeq := tabInsert w.fab.pubSeq k ((tabGet w.fab.pubSeq 0 k + 1) % 65536) } := by rw [hu, Work.modFab_fab]
  have htold : w.OnlyTold u := by
    rw [hu]
    constructor <;> rfl
  rw [hpublish]
  refine ⟨?_, ?_, htold.trans (Work.OnlyTold.fabCast u ..)⟩
  · obtain ⟨ps, hps⟩ := u.fab_fabCast 0x20 (w.get F.RHL_PUB_B_DEST 0 k) (!w.flag F.RHL_PUB_A_URGENT 0 k).toNat
      (leBytes 2 (w.get F.RHL_PUB_A_SET_ID 0 k) ++ leBytes 2 ((tabGet w.fab.pubSeq 0 k + 1) % 65536) ++ data)
    exact ⟨ps, by rw [hps, hfab]⟩
  · rw [Work.sent_fabCast, hu, Work.castSent_modFab _ _ (by rfl) (by rfl) (by rfl), Work.modFab_sent]

/-- The set `k` published, and delivered here too. -/
def Work.setOut : Work :=
  if w.flag F.RHL_PUB_A_EN 0 k ∧ w.tick % Nat.max 1 (w.get F.RHL_PUB_B_PUB_TICKS 0 k) = 0 then
    (w.publish k (w.pubData k)).deliverSet (w.get F.RHL_PUB_A_SET_ID 0 k) (w.pubData k) w.ownAddr
  else w

theorem Work.setOut_off (h : w.flag F.RHL_PUB_A_EN 0 k = false) : w.setOut k = w := by
  unfold Work.setOut
  rw [h]
  exact if_neg (fun h => absurd h.1 (by decide))

theorem dataSetPublish_eq (hpublished : w.fab.published = false) (hjoined : w.joined = true) (hruns : w.fabRuns = true) :
    dataSetPublish w = (List.range 64).foldl (fun v j => v.setOut j) (w.modFab (fun b => { b with published := true })) := by
  unfold dataSetPublish
  rw [if_neg (by simp [hpublished, hjoined, hruns])]
  rfl

/-- The working state when set `k` alone has been published, where no channel binds it. -/
theorem Work.setOut_alone (id seq : Nat) (hid : id = w.get F.RHL_PUB_A_SET_ID 0 k) (hseq : seq = (tabGet w.fab.pubSeq 0 k + 1) % 65536)
    (hdata : data = w.pubData k) (hen : w.flag F.RHL_PUB_A_EN 0 k = true)
    (hdue : w.tick % Nat.max 1 (w.get F.RHL_PUB_B_PUB_TICKS 0 k) = 0)
    (hunbound : ∀ ch : Fin 8, (w.bindings ch).any (fun b => b.fits 2 0 id) = false) :
    w.setOut k = (w.publish k data).dataKept id data := by
  have hset : w.setOut k = (w.publish k data).deliverSet id data w.ownAddr := by
    unfold Work.setOut
    rw [if_pos ⟨hen, hdue⟩, hid, hdata]
  obtain ⟨-, -, htold⟩ := w.publish_shows k data id seq hid hseq
  obtain ⟨-, -, -, -, -, hbind⟩ := (w.publish k data).dataKept_same id data
  rw [hset, Work.deliverSet_eq]
  refine Work.deliverArea_none _ _ _ _ _ _ (fun ch => ?_)
  rw [hbind, Work.bindings_congr ch (by rw [htold.chan]) htold.mem htold.wr (htold.get ..) (htold.get ..), hunbound ch]

end

theorem dataSetPublish_sends (s : State) (k : Fin 64) (id seq : Nat) (d : List Byte) (hjoined : s.work.joined = true)
    (hruns : s.work.fabRuns = true) (hpublished : s.dev.fab.published = false) (hen : s.flag F.RHL_PUB_A_EN 0 k = true)
    (hdue : s.dev.tick % Nat.max 1 (s.get F.RHL_PUB_B_PUB_TICKS 0 k) = 0)
    (halone : ∀ j : Fin 64, j ≠ k → s.flag F.RHL_PUB_A_EN 0 j = false) (hid : id = s.get F.RHL_PUB_A_SET_ID 0 k)
    (hseq : seq = (tabGet s.dev.fab.pubSeq 0 k + 1) % 65536) (hd : d = s.work.pubData k)
    (hunbound : ∀ ch : Fin 8, (s.work.bindings ch).any (fun b => b.fits 2 0 id) = false)
    (t : State) (ht : t = s.run dataSetPublish) :
    t.dev.sent = s.work.castSent 0x20 (s.get F.RHL_PUB_B_DEST 0 k) (!s.flag F.RHL_PUB_A_URGENT 0 k).toNat (leBytes 2 id ++ leBytes 2 seq ++ d) ∧
      t.dev.fab.published = true ∧ tabGet t.dev.fab.pubSeq 0 k = seq ∧
      t.dev.fab.lastData = s.dev.fab.lastData.filter (fun x => x.1 != id) ++ [(id, d)] ∧ s.sameRegs t [] ∧ t.mem = s.mem := by
  subst ht
  obtain ⟨u, hu⟩ : ∃ u, u = s.work.modFab (fun b => { b with published := true }) := ⟨_, rfl⟩
  have hufab : u.fab = { s.dev.fab with published := true } := by rw [hu, Work.modFab_fab]; rfl
  have hcast : ∀ dest cls p, u.castSent 0x20 dest cls p = s.work.castSent 0x20 dest cls p := fun dest cls p => by
    rw [hu, Work.castSent_modFab _ _ (by rfl) (by rfl) (by rfl)]
  have hget : ∀ (f : Fld) (j : Nat), u.get f 0 j = s.get f 0 j := fun f j => by rw [hu, Work.get_modFab, State.work_get]
  have hflag : ∀ (f : Fld) (j : Nat), u.flag f 0 j = s.flag f 0 j := fun f j => by rw [hu, Work.flag_modFab, State.work_flag]
  have hout := u.setOut_alone k d id seq (hid.trans (hget ..).symm) (by rw [hufab]; exact hseq) (by rw [hd, hu]; rfl) (by rw [hflag, hen])
    (by rw [hget, hu]; exact hdue) (fun ch => by rw [hu, Work.bindings_modFab]; exact hunbound ch)
  obtain ⟨⟨ps, hpsfab⟩, hsent, htold⟩ := u.publish_shows k d id seq (hid.trans (hget ..).symm) (by rw [hufab]; exact hseq)
  obtain ⟨hkfab, hkwr, hksent, hkreg, -, -⟩ := (u.publish k d).dataKept_same id d
  have hrun : dataSetPublish s.work = (u.publish k d).dataKept id d := by
    rw [dataSetPublish_eq s.work hpublished hjoined hruns, ← hu, ← hout]
    refine List.foldl_only (List.range 64) k.val List.nodup_range (List.mem_range.mpr k.isLt) (fun v j => v.setOut j) u (fun j hj hne => ?_)
      (fun j hj hne => ?_)
    · exact u.setOut_off j (by rw [hflag]; exact halone ⟨j, List.mem_range.mp hj⟩ (fun h => hne (congrArg Fin.val h)))
    · refine Work.setOut_off _ j ?_
      have hkept : (u.setOut k).flag F.RHL_PUB_A_EN 0 j = u.flag F.RHL_PUB_A_EN 0 j := by
        rw [hout]
        unfold Work.flag Work.get
        rw [hkreg, htold.reg]
      rw [hkept, hflag]
      exact halone ⟨j, List.mem_range.mp hj⟩ (fun h => hne (congrArg Fin.val h))
  refine ⟨?_, ?_, ?_, ?_, fun a _ => ?_, s.run_mem_of_wr _ ?_⟩
  · rw [State.run_dev, hrun, Work.toDev_sent, hksent, hsent, hcast, hget, hflag, hu, Work.modFab_sent]
    rfl
  · rw [State.run_dev, hrun, Work.toDev_fab, hkfab, hpsfab, hufab]
  · rw [State.run_dev, hrun, Work.toDev_fab, hkfab, hpsfab, hufab]
    unfold tabGet
    rw [tabFind_tabInsert_same]
    rfl
  · rw [State.run_dev, hrun, Work.toDev_fab, hkfab, hpsfab, hufab]
  · rw [State.run_reg, hrun, hkreg, htold.reg, hu, Work.reg_modFab, State.work_reg]
  · rw [hrun, hkwr, htold.wr, hu, Work.modFab_wr, State.work_wr]

end Sys2Proof.Machine
end


section
/-! PROOF: wrapped commands and their responses (R308, R353). -/
namespace Sys2Proof.Machine

section
variable (w : Work)

theorem respBytes_congr {v w : Work} (hmask : v.get F.HOST_ATTN_MASK = w.get F.HOST_ATTN_MASK)
    (hactive : v.get F.HOST_ATTN_ACTIVE = w.get F.HOST_ATTN_ACTIVE) : respBytes v = respBytes w := by
  funext r n valid stale
  unfold respBytes
  rw [hmask, hactive]

/-! ### A NOP wrapped -/

/-- The port of the fabric's commands with one completed, under the next RSEQ (R300). -/
def Port.completed (p : Port) (r : Resp) : Port :=
  { flight := none, answered := true, fresh := true, rseq := (p.rseq + 1) % 65536, resp := r }

/-- The working state with a command of the fabric's completed: its response under the next RSEQ, none in flight. -/
def Work.wrapAnswered (op tag st : Nat) (pl : List Byte) : Work :=
  w.modFab (fun b => { b with wrapRun := none, port := b.port.completed ⟨op, tag, st, pl, false, false⟩ })

/-- A command of the fabric's that completes: its response is sent to its source, unless it waits for none. -/
theorem Work.complete_fabric (a op tag st : Nat) (pl : List Byte) (q : WrapReq) (hrun : w.fab.wrapRun = some q) :
    w.complete (.fabric a) op tag st pl = if q.noWait then w.wrapAnswered op tag st pl
      else (w.wrapAnswered op tag st pl).fabCast 0x31 q.src 1 (leBytes 2 q.tag ++
        respBytes (w.wrapAnswered op tag st pl) ⟨op, tag, st, pl, false, false⟩ ((w.fab.port.rseq + 1) % 65536) true false) := by
  have hshape : w.complete (.fabric a) op tag st pl = match w.fab.wrapRun with
      | some q => if q.noWait then w.wrapAnswered op tag st pl
        else (w.wrapAnswered op tag st pl).fabCast 0x31 q.src 1 (leBytes 2 q.tag ++
          respBytes (w.wrapAnswered op tag st pl) ⟨op, tag, st, pl, false, false⟩ ((w.fab.port.rseq + 1) % 65536) true false)
      | none => w.modFab (fun b => { b with port := b.port.completed ⟨op, tag, st, pl, false, false⟩ }) := by
    unfold Work.complete Work.answer
    rfl
  rw [hshape, hrun]

theorem Work.perform_nop (o : Origin) (hadmits : w.modeAdmits 0x7F = true) : w.perform o 0x7F [] = (w, .done stOk []) := by
  unfold Work.perform
  rw [hadmits]
  rfl

theorem Work.execute_nop (a tag : Nat) (hadmits : w.modeAdmits 0x7F = true) :
    w.execute (.fabric a) 0x7F tag [] =
      (w.setFlight (.fabric a) ⟨0x7F, tag, false⟩).complete (.fabric a) 0x7F tag stOk [] := by
  have hadmits' : (w.setFlight (.fabric a) ⟨0x7F, tag, false⟩).modeAdmits 0x7F = true := hadmits
  unfold Work.execute
  rw [Work.perform_nop _ _ hadmits']
  rfl

/-- With nothing queued, no wrapped command runs after another. -/
theorem Work.drainWraps_none (fuel : Nat) (hqueue : w.fab.wrapQ = []) : w.drainWraps fuel = w := by
  cases fuel with
  | zero => rfl
  | succ fuel =>
    unfold Work.drainWraps
    rw [hqueue]
    exact ite_self _

/-- A NOP that an idle node takes up, with its response set. -/
def Work.nopAnswered (q : WrapReq) (tag : Nat) : Work :=
  ((w.wrapTaken q).setFlight (.fabric q.src) ⟨0x7F, tag, false⟩).wrapAnswered 0x7F tag stOk []

theorem Work.nopAnswered_same (q : WrapReq) (tag : Nat) :
    (w.nopAnswered q tag).fab = { w.fab with wrapQ := [], wrapRun := none, port := w.fab.port.completed ⟨0x7F, tag, stOk, [], false, false⟩ } ∧
      (w.nopAnswered q tag).sent = w.sent ∧ (w.nopAnswered q tag).wr = w.wr ∧ (∀ a, (w.nopAnswered q tag).reg a = w.reg a) ∧
      ∀ kind dest cls p, (w.nopAnswered q tag).castSent kind dest cls p = w.castSent kind dest cls p := by
  have hflight : ∀ v : Work, v.setFlight (.fabric q.src) ⟨0x7F, tag, false⟩ =
      v.modFab (fun b => { b with port := { b.port with flight := some ⟨0x7F, tag, false⟩ } }) := fun _ => rfl
  have htaken : w.wrapTaken q = (w.modFab (fun b => { b with wrapQ := [], wrapRun := some q })).ev 0x47 := rfl
  unfold Work.nopAnswered Work.wrapAnswered
  rw [hflight, htaken]
  refine ⟨?_, ?_, ?_, fun a => ?_, fun kind dest cls p => ?_⟩
  · rw [Work.modFab_fab, Work.modFab_fab, Work.ev_fab, Work.modFab_fab]
    rfl
  · rw [Work.modFab_sent, Work.modFab_sent, Work.ev_sent, Work.modFab_sent]
  · rw [Work.modFab_wr, Work.modFab_wr, Work.ev_wr, Work.modFab_wr]
  · rw [Work.reg_modFab, Work.reg_modFab, Work.reg_ev, Work.reg_modFab]
  · rw [Work.castSent_modFab _ _ (by rfl) (by rfl) (by rfl), Work.castSent_modFab _ _ (by rfl) (by rfl) (by rfl), Work.castSent_ev,
      Work.castSent_modFab _ _ (by rfl) (by rfl) (by rfl)]

/-- An idle node serves a wrapped NOP at once (R353). -/
theorem Work.wrapIn_nop (src tag itag : Nat) (quiet : Bool) (q : WrapReq) (hq : q = ⟨src, tag, quiet, 0x7F, itag, []⟩)
    (hserves : w.wrapServes src = true) (hidle : w.fab.wrapRun = none) (hpower : w.pwrState = 0) (hqueue : w.fab.wrapQ = [])
    (hadmits : w.modeAdmits 0x7F = true) :
    w.wrapIn q = if quiet then w.nopAnswered q itag
      else (w.nopAnswered q itag).fabCast 0x31 src 1 (leBytes 2 tag ++
        respBytes (w.nopAnswered q itag) ⟨0x7F, itag, stOk, [], false, false⟩ ((w.fab.port.rseq + 1) % 65536) true false) := by
  have hadmits' : (w.wrapTaken q).modeAdmits 0x7F = true := by
    have hmode : (w.wrapTaken q).mode = w.mode := by
      unfold Work.mode Work.wrapTaken
      rw [Work.get_ev]
      rfl
    unfold Work.modeAdmits at hadmits ⊢
    rw [hmode, hadmits]
  have hrun : (({ w with fab := { w.fab with wrapQ := [] } } : Work).runWrap q) = (w.wrapTaken q).execute (.fabric src) 0x7F itag [] := by
    rw [← Work.serve_of_g3 _ 0x7F itag [] (.fabric src) false (by decide) (by decide)]
    have hfits : wrapRefused 0x7F [] = false := by decide
    have hboot : bootOps.contains 0x7F = true := by decide
    subst hq
    unfold Work.runWrap
    simp only [hfits, hboot, Bool.not_true, Bool.false_eq_true, and_false, if_false]
    rfl
  have hrunning : ((w.wrapTaken q).setFlight (.fabric src) ⟨0x7F, itag, false⟩).fab.wrapRun = some q := by
    change (w.wrapTaken q).fab.wrapRun = some q
    unfold Work.wrapTaken
    rw [Work.ev_fab]
  have hrseq : ((w.wrapTaken q).setFlight (.fabric src) ⟨0x7F, itag, false⟩).fab.port.rseq = w.fab.port.rseq := by
    change (w.wrapTaken q).fab.port.rseq = _
    unfold Work.wrapTaken
    rw [Work.ev_fab]
  have hroom : ¬ 8 ≤ w.fab.wrapQ.length := by rw [hqueue]; decide
  have hexec := Work.execute_nop (w.wrapTaken q) src itag hadmits'
  rw [Work.complete_fabric _ _ _ _ _ _ q hrunning, hrseq] at hexec
  have hempty := (w.nopAnswered_same q itag).1
  have hdone : ∀ v : Work, v.fab.wrapQ = [] → v.drainWraps 8 = v := fun v h => v.drainWraps_none 8 h
  have hin : w.wrapIn q = (((w.wrapTaken q).execute (.fabric src) 0x7F itag []).drainWraps 8) := by
    rw [← hrun]
    unfold Work.wrapIn
    have hserves' : w.wrapServes q.src = true := by rw [hq]; exact hserves
    simp only [hserves', hroom, Bool.not_true, Bool.false_eq_true, if_false]
    exact Work.drainWraps_cons { w with fab := { w.fab with wrapQ := w.fab.wrapQ ++ [q] } } _ [] 8 hidle hpower (by rw [hqueue]; rfl)
  have hsrc : q.src = src := by rw [hq]
  have htag : q.tag = tag := by rw [hq]
  have hquiet : q.noWait = quiet := by rw [hq]
  have hname : ((w.wrapTaken q).setFlight (.fabric src) ⟨0x7F, itag, false⟩).wrapAnswered 0x7F itag stOk [] = w.nopAnswered q itag := by
    unfold Work.nopAnswered
    rw [hsrc]
  rw [hname, hsrc, htag, hquiet] at hexec
  rw [hin, hexec]
  split
  · exact hdone _ (by rw [hempty])
  · refine hdone _ ?_
    obtain ⟨ps, hps⟩ := (w.nopAnswered q itag).fab_fabCast 0x31 src 1 (leBytes 2 tag ++
      respBytes (w.nopAnswered q itag) ⟨0x7F, itag, stOk, [], false, false⟩ ((w.fab.port.rseq + 1) % 65536) true false)
    rw [hps, hempty]

end

section
variable (s : State) (src tag itag : Nat) (hserves : s.work.wrapServes src = true)
include hserves

section
variable (hidle : s.dev.fab.wrapRun = none) (hpower : s.work.pwrState = 0) (hqueue : s.dev.fab.wrapQ = [])
  (hadmits : s.work.modeAdmits 0x7F = true)
include hidle hpower hqueue hadmits

theorem wrapReq_nop (t : State) (ht : t = s.run (fun w => w.wrapIn ⟨src, tag, false, 0x7F, itag, []⟩)) :
    t.dev.sent = s.work.castSent 0x31 src 1 (leBytes 2 tag ++
        respBytes s.work ⟨0x7F, itag, stOk, [], false, false⟩ ((s.dev.fab.port.rseq + 1) % 65536) true false) ∧
      t.dev.fab.wrapQ = [] ∧ t.dev.fab.wrapRun = none ∧ t.dev.fab.port.rseq = (s.dev.fab.port.rseq + 1) % 65536 ∧
      s.sameRegs t [] ∧ t.mem = s.mem := by
  subst ht
  have hrun := s.work.wrapIn_nop src tag itag false _ rfl hserves hidle hpower hqueue hadmits
  obtain ⟨hfab, hsent, hwr, hreg, hcast⟩ := s.work.nopAnswered_same ⟨src, tag, false, 0x7F, itag, []⟩ itag
  rw [if_neg (by decide)] at hrun
  generalize s.work.nopAnswered ⟨src, tag, false, 0x7F, itag, []⟩ itag = v at hrun hfab hsent hwr hreg hcast
  have hresp : respBytes v = respBytes s.work := respBytes_congr (by unfold Work.get; rw [hreg]) (by unfold Work.get; rw [hreg])
  rw [hresp] at hrun
  have htold := Work.OnlyTold.fabCast v 0x31 src 1 (leBytes 2 tag ++
    respBytes s.work ⟨0x7F, itag, stOk, [], false, false⟩ ((s.work.fab.port.rseq + 1) % 65536) true false)
  obtain ⟨ps, hps⟩ := v.fab_fabCast 0x31 src 1 (leBytes 2 tag ++
    respBytes s.work ⟨0x7F, itag, stOk, [], false, false⟩ ((s.work.fab.port.rseq + 1) % 65536) true false)
  refine ⟨?_, ?_, ?_, ?_, fun a _ => ?_, s.run_mem_of_wr _ ?_⟩
  · rw [State.run_dev, hrun, Work.toDev_sent, Work.sent_fabCast, hsent, hcast]
    exact List.nil_append _
  · rw [State.run_dev, hrun, Work.toDev_fab, hps, hfab]
  · rw [State.run_dev, hrun, Work.toDev_fab, hps, hfab]
  · rw [State.run_dev, hrun, Work.toDev_fab, hps, hfab]
    rfl
  · rw [State.run_reg, hrun, htold.reg, hreg, State.work_reg]
  · rw [hrun, htold.wr, hwr, State.work_wr]

theorem wrapReq_nopQuiet (t : State) (ht : t = s.run (fun w => w.wrapIn ⟨src, tag, true, 0x7F, itag, []⟩)) :
    t.dev.sent = [] ∧ t.dev.fab.wrapRun = none ∧ t.dev.fab.port.resp = ⟨0x7F, itag, stOk, [], false, false⟩ ∧
      s.sameRegs t [] ∧ t.mem = s.mem := by
  subst ht
  have hrun := s.work.wrapIn_nop src tag itag true _ rfl hserves hidle hpower hqueue hadmits
  obtain ⟨hfab, hsent, hwr, hreg, -⟩ := s.work.nopAnswered_same ⟨src, tag, true, 0x7F, itag, []⟩ itag
  rw [if_pos rfl] at hrun
  generalize s.work.nopAnswered ⟨src, tag, true, 0x7F, itag, []⟩ itag = v at hrun hfab hsent hwr hreg
  refine ⟨?_, ?_, ?_, fun a _ => ?_, s.run_mem_of_wr _ ?_⟩
  · rw [State.run_dev, hrun, Work.toDev_sent, hsent]
    rfl
  · rw [State.run_dev, hrun, Work.toDev_fab, hfab]
  · rw [State.run_dev, hrun, Work.toDev_fab, hfab]
    rfl
  · rw [State.run_reg, hrun, hreg, State.work_reg]
  · rw [hrun, hwr, State.work_wr]

end

theorem wrapReq_queued (op : Nat) (pl : List Byte) (r : WrapReq) (hbusy : s.dev.fab.wrapRun = some r) (hroom : s.dev.fab.wrapQ.length < 8)
    (t : State) (ht : t = s.run (fun w => w.wrapIn ⟨src, tag, false, op, itag, pl⟩)) :
    t.dev.fab = { s.dev.fab with wrapQ := s.dev.fab.wrapQ ++ [⟨src, tag, false, op, itag, pl⟩] } ∧ t.dev.sent = [] ∧
      s.sameRegs t [] ∧ t.mem = s.mem := by
  subst ht
  have hrun : s.work.wrapIn ⟨src, tag, false, op, itag, pl⟩ =
      s.work.modFab (fun b => { b with wrapQ := b.wrapQ ++ [⟨src, tag, false, op, itag, pl⟩] }) := by
    have hroom' : ¬ 8 ≤ s.work.fab.wrapQ.length := Nat.not_le.mpr hroom
    have hstays : ∀ v : Work, v.fab.wrapRun = some r → v.drainWraps 9 = v := by
      intro v h
      unfold Work.drainWraps
      rw [h]
      rfl
    unfold Work.wrapIn
    simp only [hserves, hroom', Bool.not_true, Bool.false_eq_true, if_false]
    exact hstays _ hbusy
  refine ⟨?_, ?_, fun a _ => ?_, s.run_mem_of_wr _ ?_⟩
  · rw [State.run_dev, hrun, Work.toDev_fab, Work.modFab_fab]
    rfl
  · rw [State.run_dev, hrun, Work.toDev_sent, Work.modFab_sent]
    rfl
  · rw [State.run_reg, hrun, Work.reg_modFab, State.work_reg]
  · rw [hrun, Work.modFab_wr, State.work_wr]

theorem wrapReq_busy (op : Nat) (pl : List Byte) (hfull : 8 ≤ s.dev.fab.wrapQ.length)
    (t : State) (ht : t = s.run (fun w => w.wrapIn ⟨src, tag, false, op, itag, pl⟩)) :
    t.dev.sent = s.work.castSent 0x31 src 1 (leBytes 2 tag ++
        respBytes s.work ⟨op, itag, stBusy, [], false, false⟩ ((s.dev.fab.port.rseq + 1) % 65536) true false) ∧
      t.dev.fab.wrapQ = s.dev.fab.wrapQ ∧ s.sameRegs t [] ∧ t.mem = s.mem := by
  subst ht
  obtain ⟨v, hv⟩ : ∃ v, v = s.work.modFab (fun b => { b with port := { b.port with rseq := (s.dev.fab.port.rseq + 1) % 65536 } }) := ⟨_, rfl⟩
  have hresp : respBytes v = respBytes s.work := respBytes_congr (by rw [hv, Work.get_modFab]) (by rw [hv, Work.get_modFab])
  have hrun : s.work.wrapIn ⟨src, tag, false, op, itag, pl⟩ = v.fabCast 0x31 src 1 (leBytes 2 tag ++
      respBytes s.work ⟨op, itag, stBusy, [], false, false⟩ ((s.dev.fab.port.rseq + 1) % 65536) true false) := by
    have hfull' : 8 ≤ s.work.fab.wrapQ.length := hfull
    rw [← hresp, hv]
    unfold Work.wrapIn
    simp only [hserves, hfull', Bool.not_true, Bool.false_eq_true, if_false, if_true]
    rfl
  have htold := Work.OnlyTold.fabCast v 0x31 src 1 (leBytes 2 tag ++
    respBytes s.work ⟨op, itag, stBusy, [], false, false⟩ ((s.dev.fab.port.rseq + 1) % 65536) true false)
  obtain ⟨ps, hps⟩ := v.fab_fabCast 0x31 src 1 (leBytes 2 tag ++
    respBytes s.work ⟨op, itag, stBusy, [], false, false⟩ ((s.dev.fab.port.rseq + 1) % 65536) true false)
  refine ⟨?_, ?_, fun a _ => ?_, s.run_mem_of_wr _ ?_⟩
  · rw [State.run_dev, hrun, Work.toDev_sent, Work.sent_fabCast, hv, Work.castSent_modFab _ _ (by rfl) (by rfl) (by rfl), Work.modFab_sent]
    exact List.nil_append _
  · rw [State.run_dev, hrun, Work.toDev_fab, hps, hv, Work.modFab_fab]
    rfl
  · rw [State.run_reg, hrun, htold.reg, hv, Work.reg_modFab, State.work_reg]
  · rw [hrun, htold.wr, hv, Work.modFab_wr, State.work_wr]

end

/-! ### The response to a wrapped command (R308) -/

theorem wrapRsp_answers (s : State) (tag : Nat) (rsp : List Byte) (x : WrapWait) (f : Flight)
    (hwait : s.dev.host.wraps.find? (fun y => y.tag == tag) = some x) (hwho : x.who = .host) (hflight : s.dev.host.port.flight = some f)
    (hlate : f.late = false) (t : State) (ht : t = s.run (fun w => wrapRsp w tag rsp)) :
    s.hostAnswered t f.op f.tag stOk rsp ∧ t.dev.host.wraps = s.dev.host.wraps.filter (fun y => y.tag != tag) ∧
      s.sameRegs t hostRegs ∧ t.mem = s.mem := by
  subst ht
  obtain ⟨v, hv⟩ : ∃ v, v = ({ s.work with host := { s.work.host with wraps := s.work.host.wraps.filter (fun y => y.tag != tag) } } : Work) := ⟨_, rfl⟩
  have hport : v.host.port = s.dev.host.port := by rw [hv]; rfl
  have hend : wrapRsp s.work tag rsp = v.complete .host f.op f.tag stOk rsp := by
    have hwait' : s.work.host.wraps.find? (fun y => y.tag == tag) = some x := hwait
    have hshape : wrapRsp s.work tag rsp = v.finish .host stOk rsp := by
      unfold wrapRsp
      rw [hwait', hv]
      dsimp only
      rw [hwho]
    rw [hshape, Work.finish_host v _ _ _ _ f (by rw [hport, hflight]), hlate]
    rfl
  obtain ⟨hanswer, hregs, hmem⟩ := s.answers_of_complete (fun w => wrapRsp w tag rsp) v f.op f.tag stOk rsp [] hend (by rw [hport])
    (fun a _ => by rw [hv]; rfl) (by rw [hv]; rfl)
  refine ⟨hanswer, ?_, hregs, hmem⟩
  rw [State.run_dev, hend]
  refine (Work.part_complete_host v _ _ _ _ (fun w => w.host.wraps) (fun _ _ _ _ _ => rfl) (fun _ _ => rfl)).trans ?_
  rw [hv]
  rfl

/-! ### The obligation -/

/-- Settles O33. -/
theorem fabricTimeAndData : Obligations.FabricTimeAndData := by
  unfold Obligations.FabricTimeAndData
  refine ⟨?_, ?_, ?_, ?_, ?_, ?_, ?_, ?_, ?_, ?_, ?_, ?_, ?_⟩
  case refine_1 =>
    intro s count per err hruns hjoined hsrc hlocked hever hnear
    exact ⟨_, rfl, fabricTime_corrects s count per err hruns hjoined hsrc hlocked hever hnear _ rfl⟩
  case refine_2 =>
    intro s count per err hruns hjoined hsrc hacquire hever hrow hnear hratio
    exact ⟨_, rfl, fabricTime_locks s count per err hruns hjoined hsrc hacquire hever hrow hnear hratio _ rfl⟩
  case refine_3 =>
    intro s count per err hruns hjoined hsrc hlocked hever hnear
    exact ⟨_, rfl, fabricTime_locksAgain s count per err hruns hjoined hsrc hlocked hever hnear _ rfl⟩
  case refine_4 =>
    intro s count per err k hruns hjoining hsrc hpair hshakes hper
    exact ⟨_, rfl, fabricTime_leaves s count per err k hruns hjoining hsrc hpair hshakes hper _ rfl⟩
  case refine_5 =>
    intro s k id seq d hjoined hruns hpublished hen hdue halone hid hseq hd hunbound
    exact ⟨_, rfl, dataSetPublish_sends s k id seq d hjoined hruns hpublished hen hdue halone hid hseq hd hunbound _ rfl⟩
  case refine_6 =>
    intro s src id seq data ch old hjoined hruns hnone hold hnew hbinds hfree hroom hwaiting
    subst hold
    exact ⟨_, rfl, dataSet_delivers s src id seq data hjoined hruns ch hnone hnew hbinds hfree hroom hwaiting _ rfl⟩
  case refine_7 =>
    intro s src id seq data last hjoined hruns hnone hlast hold
    exact ⟨_, rfl, dataSet_dropped s src id seq data hjoined hruns hnone last hlast hold _ rfl⟩
  case refine_8 =>
    intro s src id seq data last pub hjoined hruns hlast hpub
    exact ⟨_, rfl, dataSet_clashes s src id seq data hjoined hruns last pub hlast hpub _ rfl⟩
  case refine_9 =>
    intro s src tag itag hserves hidle hpower hqueue hadmits
    exact ⟨_, rfl, wrapReq_nop s src tag itag hserves hidle hpower hqueue hadmits _ rfl⟩
  case refine_10 =>
    intro s src tag itag bcast hserves hidle hpower hjoined hqueue hadmits
    have hrun : s.run (fun w => if bcast ∧ !w.joined then w else w.wrapIn ⟨src, tag, true || bcast, 0x7F, itag, []⟩) =
        s.run (fun w => w.wrapIn ⟨src, tag, true, 0x7F, itag, []⟩) :=
      s.run_congr _ _ (if_neg (fun h => by rw [hjoined] at h; exact absurd h.2 (by decide)))
    exact ⟨_, congrArg Host.Outcome.next hrun, wrapReq_nopQuiet s src tag itag hserves hidle hpower hqueue hadmits _ rfl⟩
  case refine_11 =>
    intro s src tag itag op pl r hserves hbusy hroom
    exact ⟨_, rfl, wrapReq_queued s src tag itag hserves op pl r hbusy hroom _ rfl⟩
  case refine_12 =>
    intro s src tag itag op pl hserves hfull
    exact ⟨_, rfl, wrapReq_busy s src tag itag hserves op pl hfull _ rfl⟩
  case refine_13 =>
    intro s src tag rsp x f hwait hwho hflight hlate
    exact ⟨_, rfl, wrapRsp_answers s tag rsp x f hwait hwho hflight hlate _ rfl⟩

end Sys2Proof.Machine
end


section
/-! PROOF SUPPORT. Fields put with values that a step has measured, memory set to 0, and the reset record (R391, R395, R402, R403). -/
namespace Sys2Proof.Machine

/-! ### Fields put, one after the other, with measured values -/

section
variable (w : Work) (l : List (Fld × Nat × Nat × Nat))

/-- A field that shares no bit with any field of a list, whatever their values. -/
theorem Work.get_puts_none (f : Fld) (h : l.all (putApart f 0 0) = true) : (w.puts l).get f = w.get f :=
  w.get_puts_apart l f 0 0 (fun p hp => List.all_eq_true.mp h p hp)

/-- The field at place `i`, whatever the values. -/
theorem Work.get_puts_at (i : Nat) (f : Fld) (v : Nat) (hi : l[i]? = some (f, v, 0, 0)) (hf : f.lo ≤ f.hi)
    (h : (l.drop (i + 1)).all (putApart f 0 0) = true) : (w.puts l).get f = v % 2 ^ (f.hi - f.lo + 1) :=
  w.get_puts l i f v 0 0 hi hf (fun p hp => List.all_eq_true.mp h p hp)

/-- A register outside those that the fields lie in. -/
theorem Work.reg_puts_none (m : List Nat) (a : Nat) (h : l.all (fun p => m.contains (p.1.addr p.2.2.1 p.2.2.2)) = true) (ha : a ∉ m) :
    (w.puts l).reg a = w.reg a :=
  w.reg_puts l a (fun p hp e => ha (e ▸ List.contains_iff_mem.mp (List.all_eq_true.mp h p hp)))

end

/-! ### BOOTSEL (R402) -/

/-- The fields that BOOTSEL's reading sets. -/
def bootselPuts (sum : Nat) : List (Fld × Nat × Nat × Nat) :=
  [(F.SYS_BOOTSEL_BAND, bandOf sum, 0, 0), (F.SYS_BOOTSEL_GEN, (bandG1 (bandOf sum)).toNat, 0, 0),
    (F.SYS_BOOTSEL_SRC, bandSrc (bandOf sum), 0, 0), (F.SYS_BOOTSEL_PAIR, bandPair (bandOf sum), 0, 0),
    (F.SYS_BOOTSEL_SAFE, (bandSafe (bandOf sum)).toNat, 0, 0), (F.SYS_BOOTSEL_EDGE, (bandNear sum).toNat, 0, 0),
    (F.SYS_BOOTSEL_CODE, divRound sum 8, 0, 0), (F.HOST_CFG_GEN, (bandG1 (bandOf sum)).toNat, 0, 0),
    (F.PAIR_CFG_ROLE, bandPair (bandOf sum), 0, 0), (F.SYS_MODE_SAFE_START, (bandSafe (bandOf sum)).toNat, 0, 0)]

theorem Work.readBootsel_eq (w : Work) (sum : Nat) : w.readBootsel sum = w.puts (bootselPuts sum) := rfl

theorem bandSrc_lt (b : Nat) : bandSrc b < 4 := by
  unfold bandSrc
  rcases Nat.lt_or_ge b 16 with h | h
  · decide +revert
  · rw [List.getD_eq_default _ _ h]
    decide

theorem bandPair_lt (b : Nat) : bandPair b < 4 := by
  unfold bandPair
  rcases Nat.lt_or_ge b 16 with h | h
  · decide +revert
  · rw [List.getD_eq_default _ _ h]
    decide

/-! ### The reset record (R391, R403) -/

/-- The record that step 1 moves away, and the count of resets. -/
def Work.recordMoved (w : Work) : Work :=
  let v := (w.setReg (R.RST_PREV.addr 0 0) (w.reg (R.RST_REC.addr 0 0))).setReg (R.RST_REC.addr 0 0) 0
  if w.rst.src = 4 then v else v.put F.RST_COUNT_COUNT ((v.get F.RST_COUNT_COUNT + 1) % 2 ^ 16)

/-- The fields of the record. -/
def recordPuts (r : Rst) (band edge : Nat) : List (Fld × Nat × Nat × Nat) :=
  [(F.RST_REC_CAUSE, (causeOrder.find? (fun c => bitOf r.src c)).getD 0, 0, 0), (F.RST_REC_RAIL, r.rail, 0, 0),
    (F.RST_REC_SOURCES, r.src / 2, 0, 0), (F.RST_REC_TRIM_BAD, r.trimBad, 0, 0), (F.RST_REC_BAND, band, 0, 0), (F.RST_REC_EDGE, edge, 0, 0)]

section
variable (w : Work)

theorem Work.puts_append (l m : List (Fld × Nat × Nat × Nat)) : w.puts (l ++ m) = (w.puts l).puts m := by
  unfold Work.puts
  exact List.foldl_append ..

theorem Work.writeRecord_eq (h : w.rst.merged = false) :
    ∃ band edge, w.writeRecord = (w.recordMoved.puts (recordPuts w.rst band edge)).modRst (fun r => { r with merged := true }) := by
  have hmoved : (if w.rst.merged then w
      else
        let v := w.setReg (R.RST_PREV.addr 0 0) (w.reg (R.RST_REC.addr 0 0))
        let v := v.setReg (R.RST_REC.addr 0 0) 0
        if w.rst.src = 4 then v else v.countWrap F.RST_COUNT_COUNT) = w.recordMoved := by
    rw [h]
    rfl
  unfold Work.writeRecord
  dsimp only
  dsimp only at hmoved
  rw [hmoved]
  generalize w.recordMoved = u
  exact ⟨_, _, rfl⟩

theorem Work.recordMoved_shows :
    w.recordMoved.reg (R.RST_PREV.addr 0 0) = w.reg (R.RST_REC.addr 0 0) ∧
      w.recordMoved.get F.RST_COUNT_COUNT = (if w.rst.src = 4 then w.get F.RST_COUNT_COUNT else (w.get F.RST_COUNT_COUNT + 1) % 65536) ∧
      w.recordMoved.wr = w.wr ∧
      ∀ a, a ∉ [R.RST_PREV.addr 0 0, R.RST_REC.addr 0 0, R.RST_COUNT.addr 0 0] → w.recordMoved.reg a = w.reg a := by
  obtain ⟨v, hv⟩ : ∃ v, v = (w.setReg (R.RST_PREV.addr 0 0) (w.reg (R.RST_REC.addr 0 0))).setReg (R.RST_REC.addr 0 0) 0 := ⟨_, rfl⟩
  have hreg : ∀ a, a ≠ R.RST_PREV.addr 0 0 → a ≠ R.RST_REC.addr 0 0 → v.reg a = w.reg a := fun a hprev hrec => by
    rw [hv, Work.reg_setReg_ne _ _ _ _ hrec, Work.reg_setReg_ne _ _ _ _ hprev]
  have hprev : v.reg (R.RST_PREV.addr 0 0) = w.reg (R.RST_REC.addr 0 0) := by
    rw [hv, Work.reg_setReg_ne _ _ _ _ (by decide), Work.reg_setReg_same]
  have hcount : v.get F.RST_COUNT_COUNT = w.get F.RST_COUNT_COUNT := by
    unfold Work.get
    rw [hreg _ (by decide) (by decide)]
  have hwr : v.wr = w.wr := by rw [hv, Work.setReg_wr, Work.setReg_wr]
  have hmoved : w.recordMoved = if w.rst.src = 4 then v else v.put F.RST_COUNT_COUNT ((v.get F.RST_COUNT_COUNT + 1) % 2 ^ 16) := by
    rw [hv]
    rfl
  rw [hmoved]
  split
  · refine ⟨hprev, hcount, hwr, fun a ha => ?_⟩
    simp only [List.mem_cons, List.not_mem_nil, or_false, not_or] at ha
    exact hreg a ha.1 ha.2.1
  · refine ⟨?_, ?_, ?_, fun a ha => ?_⟩
    · rw [Work.reg_put_ne _ F.RST_COUNT_COUNT _ 0 0 _ (by decide), hprev]
    · have hwidth : F.RST_COUNT_COUNT.hi - F.RST_COUNT_COUNT.lo + 1 = 16 := rfl
      rw [Work.get_put_same _ _ _ _ _ (by decide), hwidth, hcount, Nat.mod_mod]
      rfl
    · rw [Work.put_wr, hwr]
    · simp only [List.mem_cons, List.not_mem_nil, or_false, not_or] at ha
      obtain ⟨haprev, harec, hacount⟩ := ha
      rw [Work.reg_put_ne _ F.RST_COUNT_COUNT _ 0 0 a hacount, hreg a haprev harec]

end

/-! ### Memory set to 0 -/

/-- A byte outside a range set to 0. -/
theorem MemOp.apply_wipe_without (lo hi a : Nat) (m : Memory) (h : a < lo ∨ hi ≤ a) :
    tabGet ((MemOp.wipe lo hi).apply m) 0 a = tabGet m 0 a := by
  unfold tabGet
  simp only [MemOp.apply]
  congr 1
  induction m with
  | nil => rfl
  | cons p t ih =>
    obtain ⟨k, v⟩ := p
    simp only [List.filter_cons]
    split
    · simp only [tabFind, ih]
    · rename_i hk
      have hne : k ≠ a := by
        rintro rfl
        simp only [Bool.or_eq_true, decide_eq_true_eq] at hk
        omega
      simp only [tabFind, hne, if_false, ih]

/-- Cells that are left when a range has been set to 0. -/
theorem MemOp.mem_apply_wipe (lo hi : Nat) (m : Memory) (c : Host.Cell) (h : c ∈ (MemOp.wipe lo hi).apply m) : c ∈ m ∧ (c.1 < lo ∨ hi ≤ c.1) := by
  simp only [MemOp.apply, List.mem_filter, Bool.or_eq_true, decide_eq_true_eq] at h
  exact h

/-- A range over more than one bank is set to 0 whatever their health. -/
theorem Work.wipe_wr (w : Work) (lo hi : Nat) (h : bankOf lo ≠ bankOf (hi - 1)) : (w.wipe lo hi).wr = .wipe lo hi :: w.wr := by
  unfold Work.wipe
  rw [if_neg (fun h' => h h'.1)]

end Sys2Proof.Machine
end


section
/-! PROOF: the release order (R392 to R395, R402). -/
namespace Sys2Proof.Machine

/-! ### Each step's equation -/

section
variable (w : Work) (m : Nat) (hhold : w.rst.hold = .none)
include hhold

theorem releaseStep_first (hstep : w.relStep = 0) : releaseStep w true m = ((w.readBootsel m).writeRecord).put F.SYS_REL_STEP 1 := by
  unfold releaseStep
  simp only [hhold, hstep, ne_eq, not_true_eq_false, false_or]
  rfl

theorem releaseStep_trim (hstep : w.relStep = 1) (good : Bool) : releaseStep w good m = w.trimStep good := by
  unfold releaseStep
  simp [hhold, hstep]

theorem releaseStep_third (hstep : w.relStep = 2) :
    releaseStep w true m = (w.put F.SYS_REL_STEP 3).put F.SYS_REL_RC_FALLBACK w.rst.rcMode.toNat := by
  unfold releaseStep
  simp [hhold, hstep]

theorem releaseStep_scrub (hstep : w.relStep = 3) : releaseStep w true m = w.scrubStep m := by
  unfold releaseStep
  simp only [hhold, hstep, ne_eq, not_true_eq_false, false_or]
  rfl

theorem releaseStep_vout (hstep : w.relStep = 5) (hbad : m / 32 % 8 ≠ 0) :
    releaseStep w true m = ((((w.put F.PWR_PMB_STAT_MODE_BAD 1).put F.PWR_CFG_PMB_EN 0).put F.SYS_REL_STEP 6).modRst
      (fun r => { r with voutMode := m % 256 })) := by
  unfold releaseStep
  simp only [hhold, hstep, hbad, ne_eq, not_true_eq_false, false_or, if_false]
  rfl

theorem releaseStep_keys (hstep : w.relStep = 7) (herase : (w.keyCheck m).sec.erase = .none) :
    releaseStep w true m = (w.keyCheck m).put F.SYS_REL_STEP 8 := by
  have hend : ∀ v : Work, v.sec.erase = .none → (if v.sec.erase = .none then v else v.putFlag F.SEC_STAT_ERASING true) = v := fun v h => if_pos h
  unfold releaseStep
  simp only [hhold, hstep, ne_eq, not_true_eq_false, false_or]
  exact hend _ herase

theorem releaseStep_last (hstep : w.relStep = 10) (hrc : w.rst.rcMode = false) :
    releaseStep w true m = if w.get F.SYS_BOOTSEL_SRC = 3 then (w.put F.SYS_REL_STEP 11).put F.RHL_STAT_STATE 5 else w.put F.SYS_REL_STEP 11 := by
  have hsrc : (w.put F.SYS_REL_STEP 11).get F.SYS_BOOTSEL_SRC = w.get F.SYS_BOOTSEL_SRC := Work.get_put_apart _ _ _ _ _ (by decide)
  have hrst : (w.put F.SYS_REL_STEP 11).rst = w.rst := Work.put_rst ..
  have hshape : releaseStep w true m = if (w.put F.SYS_REL_STEP 11).get F.SYS_BOOTSEL_SRC = 3 ∧ (!(w.put F.SYS_REL_STEP 11).rst.rcMode) = true then
      (w.put F.SYS_REL_STEP 11).put F.RHL_STAT_STATE 5 else w.put F.SYS_REL_STEP 11 := by
    unfold releaseStep
    simp only [hhold, hstep, ne_eq, not_true_eq_false, false_or]
    rfl
  rw [hshape, hsrc, hrst, hrc]
  simp only [Bool.not_false, and_true]

/-- The steps that show their number alone. -/
theorem releaseStep_plain (k : Nat) (hk : k ∈ [4, 6, 8, 9]) (hstep : w.relStep = k) : releaseStep w true m = w.put F.SYS_REL_STEP (k + 1) := by
  simp only [List.mem_cons, List.not_mem_nil, or_false] at hk
  rcases hk with rfl | rfl | rfl | rfl <;> unfold releaseStep <;> simp only [hhold, hstep, ne_eq, not_true_eq_false, false_or] <;> rfl

theorem releaseStep_waits (k : Nat) (hstep : w.relStep = k) (hk : k ≠ 1) : releaseStep w false m = w := by
  have hk' : ¬ k + 1 = 2 := by omega
  unfold releaseStep
  simp only [hhold, hstep, hk', ne_eq, not_true_eq_false, false_or, if_false, Bool.not_false, if_true, ite_self]

end

section
variable (w : Work)

theorem Work.relStep_put (v : Nat) (h : v < 16) : (w.put F.SYS_REL_STEP v).relStep = v := by
  unfold Work.relStep
  rw [Work.get_put_same _ _ _ _ _ (by decide)]
  exact Nat.mod_eq_of_lt h

theorem Work.relStep_modRst (f : Rst → Rst) : (w.modRst f).relStep = w.relStep := rfl

theorem Work.relStep_put_apart (f : Fld) (v : Nat) (h : fieldsApart f F.SYS_REL_STEP = true) : (w.put f v).relStep = w.relStep :=
  Work.get_put_apart _ _ _ _ _ h

end

theorem State.relStep_run (s : State) (f : Work → Work) : (s.run f).work.relStep = (f s.work).relStep := rfl

section
variable (s : State)

theorem release_starts (hheld : s.dev.rst.hold = .held)
    (t : State) (ht : t = s.run (fun w => if w.rst.hold = .held then w.modRst (fun r => { r with hold := .none }) else w)) :
    t.dev.rst = { s.dev.rst with hold := .none } ∧ s.sameRegs t [] ∧ t.mem = s.mem := by
  subst ht
  have hrun : (if s.work.rst.hold = .held then s.work.modRst (fun r => { r with hold := .none }) else s.work) =
      s.work.modRst (fun r => { r with hold := .none }) := if_pos hheld
  refine ⟨?_, fun a _ => ?_, s.run_mem_of_wr _ ?_⟩
  · rw [State.run_dev, hrun, Work.toDev_rst, Work.modRst_rst]
    rfl
  · rw [State.run_reg, hrun, Work.reg_modRst, State.work_reg]
  · rw [hrun, Work.modRst_wr, State.work_wr]

variable (hhold : s.dev.rst.hold = .none)
include hhold

theorem release_bootsel (sum : Nat) (hstep : s.work.relStep = 0) (hmerged : s.dev.rst.merged = false)
    (t : State) (ht : t = s.run (fun w => releaseStep w true sum)) :
    t.work.relStep = 1 ∧ t.get F.SYS_BOOTSEL_BAND = bandOf sum % 16 ∧
      t.get F.SYS_BOOTSEL_SRC = bandSrc (bandOf sum) ∧ t.flag F.SYS_BOOTSEL_EDGE = bandNear sum ∧
      t.flag F.SYS_MODE_SAFE_START = bandSafe (bandOf sum) ∧ t.flag F.HOST_CFG_GEN = bandG1 (bandOf sum) ∧
      t.get F.PAIR_CFG_ROLE = bandPair (bandOf sum) ∧ t.reg (R.RST_PREV.addr 0 0) = s.reg (R.RST_REC.addr 0 0) ∧
      t.get F.RST_REC_SOURCES = s.dev.rst.src / 2 % 1024 ∧
      t.get F.RST_REC_CAUSE = ((causeOrder.find? (fun c => bitOf s.dev.rst.src c)).getD 0) % 16 ∧
      t.get F.RST_COUNT_COUNT = (if s.dev.rst.src = 4 then s.get F.RST_COUNT_COUNT else (s.get F.RST_COUNT_COUNT + 1) % 65536) ∧
      s.sameRegs t [R.SYS_REL.addr 0 0, R.SYS_BOOTSEL.addr 0 0, R.SYS_MODE.addr 0 0, R.HOST_CFG.addr 0 0, R.PAIR_CFG.addr 0 0,
        R.RST_REC.addr 0 0, R.RST_PREV.addr 0 0, R.RST_COUNT.addr 0 0] ∧ t.mem = s.mem := by
  subst ht
  obtain ⟨u, hu⟩ : ∃ u, u = s.work.puts (bootselPuts sum) := ⟨_, rfl⟩
  have hrst : u.rst = s.dev.rst := by
    rw [hu, Work.puts_rst]
    rfl
  obtain ⟨band, edge, hrec⟩ := u.writeRecord_eq (by rw [hrst]; exact hmerged)
  obtain ⟨hprev, hcount, hwr, hmoved⟩ := u.recordMoved_shows
  rw [hrst] at hrec hcount
  have hrun : releaseStep s.work true sum =
      ((u.recordMoved.puts (recordPuts s.dev.rst band edge)).modRst (fun r => { r with merged := true })).put F.SYS_REL_STEP 1 := by
    rw [releaseStep_first s.work sum hhold hstep, Work.readBootsel_eq, ← hu, hrec]
  have hputs : ∀ a, a ∉ [R.SYS_BOOTSEL.addr 0 0, R.SYS_MODE.addr 0 0, R.HOST_CFG.addr 0 0, R.PAIR_CFG.addr 0 0] → u.reg a = s.reg a := fun a ha => by
    rw [hu, Work.reg_puts_none _ _ _ a rfl ha, State.work_reg]
  have hend : ∀ a, a ≠ R.SYS_REL.addr 0 0 → a ∉ [R.RST_REC.addr 0 0] → (s.run (fun w => releaseStep w true sum)).reg a = u.recordMoved.reg a := by
    intro a hrel harec
    rw [State.run_reg, hrun, Work.reg_put_ne _ F.SYS_REL_STEP 1 0 0 a hrel, Work.reg_modRst, Work.reg_puts_none _ _ [R.RST_REC.addr 0 0] a rfl harec]
  have hboot : ∀ f : Fld, f.addr 0 0 ≠ R.SYS_REL.addr 0 0 → f.addr 0 0 ∉ [R.RST_REC.addr 0 0] →
      f.addr 0 0 ∉ [R.RST_PREV.addr 0 0, R.RST_REC.addr 0 0, R.RST_COUNT.addr 0 0] →
      (s.run (fun w => releaseStep w true sum)).get f = u.get f := by
    intro f hrel hrecord hmove
    have hreg := (hend _ hrel hrecord).trans (hmoved _ hmove)
    exact congrArg (fun x => bitsOf x f.hi f.lo) hreg
  have hflag : ∀ (f : Fld) (b : Bool), (s.run (fun w => releaseStep w true sum)).get f = b.toNat % 2 →
      (s.run (fun w => releaseStep w true sum)).flag f = b := by
    intro f b hget
    have hdef : (s.run (fun w => releaseStep w true sum)).flag f = ((s.run (fun w => releaseStep w true sum)).get f == 1) := rfl
    rw [hdef, hget]
    cases b <;> rfl
  have hput : ∀ (i : Nat) (f : Fld) (v : Nat), (bootselPuts sum)[i]? = some (f, v, 0, 0) → f.lo ≤ f.hi →
      ((bootselPuts sum).drop (i + 1)).all (putApart f 0 0) = true → u.get f = v % 2 ^ (f.hi - f.lo + 1) := by
    intro i f v hi hf hlater
    rw [hu]
    exact s.work.get_puts_at (bootselPuts sum) i f v hi hf hlater
  have hrecord : ∀ (i : Nat) (f : Fld) (v : Nat), fieldsApart F.SYS_REL_STEP f = true → (recordPuts s.dev.rst band edge)[i]? = some (f, v, 0, 0) →
      f.lo ≤ f.hi → ((recordPuts s.dev.rst band edge).drop (i + 1)).all (putApart f 0 0) = true →
      (s.run (fun w => releaseStep w true sum)).get f = v % 2 ^ (f.hi - f.lo + 1) := by
    intro i f v hapart hi hf hlater
    rw [State.run_get, hrun, Work.get_put_apart _ _ _ _ _ hapart, Work.get_modRst, Work.get_puts_at _ _ i f v hi hf hlater]
  refine ⟨?_, ?_, ?_, ?_, ?_, ?_, ?_, ?_, ?_, ?_, ?_, fun a ha => ?_, s.run_mem_of_wr _ ?_⟩
  · rw [State.relStep_run, hrun, Work.relStep_put _ _ (by decide)]
  · rw [hboot _ (by decide) (by decide) (by decide), hput 0 F.SYS_BOOTSEL_BAND _ rfl (by decide) rfl]
    rfl
  · rw [hboot _ (by decide) (by decide) (by decide), hput 2 F.SYS_BOOTSEL_SRC _ rfl (by decide) rfl]
    exact Nat.mod_eq_of_lt (bandSrc_lt _)
  · exact hflag _ _ (by rw [hboot _ (by decide) (by decide) (by decide), hput 5 F.SYS_BOOTSEL_EDGE _ rfl (by decide) rfl]; rfl)
  · exact hflag _ _ (by rw [hboot _ (by decide) (by decide) (by decide), hput 9 F.SYS_MODE_SAFE_START _ rfl (by decide) rfl]; rfl)
  · exact hflag _ _ (by rw [hboot _ (by decide) (by decide) (by decide), hput 7 F.HOST_CFG_GEN _ rfl (by decide) rfl]; rfl)
  · rw [hboot _ (by decide) (by decide) (by decide), hput 8 F.PAIR_CFG_ROLE _ rfl (by decide) rfl]
    exact Nat.mod_eq_of_lt (bandPair_lt _)
  · rw [hend _ (by decide) (by decide), hprev, hputs _ (by decide)]
  · rw [hrecord 2 F.RST_REC_SOURCES _ (by decide) rfl (by decide) rfl]
    rfl
  · rw [hrecord 0 F.RST_REC_CAUSE _ (by decide) rfl (by decide) rfl]
    rfl
  · have hkept : u.get F.RST_COUNT_COUNT = s.get F.RST_COUNT_COUNT := by
      unfold Work.get
      rw [hputs _ (by decide)]
      rfl
    rw [hkept] at hcount
    rw [← hcount]
    exact congrArg (fun x => bitsOf x F.RST_COUNT_COUNT.hi F.RST_COUNT_COUNT.lo) (hend _ (by decide) (by decide))
  · simp only [List.mem_cons, List.not_mem_nil, or_false, not_or] at ha
    obtain ⟨hrel, hsel, hmode, hhost, hpair, hrec, hprev, hcnt⟩ := ha
    rw [hend a hrel (by simp [hrec]), hmoved a (by simp [hprev, hrec, hcnt]), hputs a (by simp [hsel, hmode, hhost, hpair])]
  · rw [hrun, Work.put_wr, Work.modRst_wr, Work.puts_wr, hwr, hu, Work.puts_wr, State.work_wr]

theorem release_trimmed (hstep : s.work.relStep = 1) (t : State) (ht : t = s.run (fun w => releaseStep w true 0)) :
    t.work.relStep = 2 ∧ t.dev.rst = { s.dev.rst with faultN := false, trimBad := 0 } ∧ s.sameRegs t [R.SYS_REL.addr 0 0] ∧ t.mem = s.mem := by
  subst ht
  have hrun : releaseStep s.work true 0 = (s.work.put F.SYS_REL_STEP 2).modRst (fun r => { r with faultN := false, trimBad := 0 }) :=
    releaseStep_trim s.work 0 hhold hstep true
  refine ⟨?_, ?_, fun a ha => ?_, s.run_mem_of_wr _ ?_⟩
  · rw [State.relStep_run, hrun, Work.relStep_modRst, Work.relStep_put _ _ (by decide)]
  · rw [State.run_dev, hrun, Work.toDev_rst, Work.modRst_rst, Work.put_rst]
    rfl
  · have hne : a ≠ R.SYS_REL.addr 0 0 := fun e => ha (e ▸ List.mem_cons_self)
    rw [State.run_reg, hrun, Work.reg_modRst, Work.reg_put_ne _ F.SYS_REL_STEP 2 0 0 a hne, State.work_reg]
  · rw [hrun, Work.modRst_wr, Work.put_wr, State.work_wr]

theorem release_trimHeld (hstep : s.work.relStep = 1) (hbad : s.dev.rst.trimBad = 2)
    (t : State) (ht : t = s.run (fun w => releaseStep w false 0)) :
    t.work.relStep = 1 ∧ t.flag F.RST_REC_HOLD = true ∧ t.get F.RST_REC_TRIM_BAD = 3 ∧ t.dev.rst.hold = .fault ∧
      t.dev.rst.faultN = true ∧ s.sameRegs t [R.RST_REC.addr 0 0] ∧ t.mem = s.mem := by
  subst ht
  obtain ⟨v, hv⟩ : ∃ v, v = (((s.work.modRst (fun r => { r with trimBad := 3 })).put F.RST_REC_TRIM_BAD 3).put F.RST_REC_HOLD 1) := ⟨_, rfl⟩
  have hrun : releaseStep s.work false 0 = v.modRst (fun r => { r with hold := .fault, faultN := true }) := by
    have hbad' : s.work.rst.trimBad = 2 := hbad
    rw [releaseStep_trim s.work 0 hhold hstep false, hv]
    unfold Work.trimStep
    simp only [hbad', Bool.false_eq_true, if_false]
    rfl
  refine ⟨?_, ?_, ?_, ?_, ?_, fun a ha => ?_, s.run_mem_of_wr _ ?_⟩
  · rw [State.relStep_run, hrun, Work.relStep_modRst, hv, Work.relStep_put_apart _ _ _ (by decide), Work.relStep_put_apart _ _ _ (by decide),
      Work.relStep_modRst, hstep]
  · rw [State.run_flag, hrun, Work.flag_modRst, hv, Work.flag_put_same _ _ _ _ _ rfl]
    rfl
  · rw [State.run_get, hrun, Work.get_modRst, hv, Work.get_put_apart _ _ _ _ _ (by decide), Work.get_put_same _ _ _ _ _ (by decide)]
    rfl
  · rw [State.run_dev, hrun, Work.toDev_rst, Work.modRst_rst]
  · rw [State.run_dev, hrun, Work.toDev_rst, Work.modRst_rst]
  · have hne : a ≠ R.RST_REC.addr 0 0 := fun e => ha (e ▸ List.mem_cons_self)
    rw [State.run_reg, hrun, Work.reg_modRst, hv, Work.reg_put_ne _ F.RST_REC_HOLD 1 0 0 a hne, Work.reg_put_ne _ F.RST_REC_TRIM_BAD 3 0 0 a hne,
      Work.reg_modRst, State.work_reg]
  · rw [hrun, Work.modRst_wr, hv, Work.put_wr, Work.put_wr, Work.modRst_wr, State.work_wr]

end

/-! ### The scrub (R395) -/

section
variable (w : Work)

/-- The memory of the system, the channels and the engines set to 0. -/
def Work.scrubbed : Work := ((w.wipe 0 0x00200000).wipe 0x01000000 0x01100000).wipe 0x02000000 0x02100000

theorem Work.scrubbed_same :
    w.scrubbed.rst = w.rst ∧ (∀ a, w.scrubbed.reg a = w.reg a) ∧
      w.scrubbed.wr = .wipe 0x02000000 0x02100000 :: .wipe 0x01000000 0x01100000 :: .wipe 0 0x00200000 :: w.wr := by
  unfold Work.scrubbed
  refine ⟨?_, fun a => ?_, ?_⟩
  · rw [Work.wipe_rst, Work.wipe_rst, Work.wipe_rst]
  · rw [Work.reg_wipe, Work.reg_wipe, Work.reg_wipe]
  · rw [Work.wipe_wr _ _ _ (by decide), Work.wipe_wr _ _ _ (by decide), Work.wipe_wr _ _ _ (by decide)]

theorem Work.scrubStep_good : w.scrubStep 0 = w.scrubbed.put F.SYS_REL_STEP 4 := rfl

theorem Work.scrubStep_restarts (bad : Nat) (hbad : bad % 65536 ≠ 0) (hfirst : bitOf w.rst.src 10 = false) :
    w.scrubStep bad = (w.scrubbed.put F.SYS_REL_STEP 0).modRst (fun r => { r with src := setBit r.src 10 true, faultN := true }) := by
  have hfirst' : ¬ bitOf w.scrubbed.rst.src 10 = true := by
    rw [w.scrubbed_same.1, hfirst]
    decide
  unfold Work.scrubStep
  rw [if_pos hbad]
  exact if_neg hfirst'

theorem Work.scrubStep_holds (bad : Nat) (hbad : bad % 65536 ≠ 0) (hagain : bitOf w.rst.src 10 = true) :
    w.scrubStep bad = (w.scrubbed.put F.RST_REC_MEMHOLD 1).holdDevice := by
  have hagain' : bitOf w.scrubbed.rst.src 10 = true := by
    rw [w.scrubbed_same.1, hagain]
  unfold Work.scrubStep
  rw [if_pos hbad]
  exact if_pos hagain'

end

section
variable (s : State) (hhold : s.dev.rst.hold = .none) (hstep : s.work.relStep = 3)
include hhold hstep

theorem release_scrubbed (t : State) (ht : t = s.run (fun w => releaseStep w true 0)) :
    t.work.relStep = 4 ∧
      (∀ c ∈ t.mem, 0x03000000 ≤ c.1 ∨ (0x00200000 ≤ c.1 ∧ c.1 < 0x01000000) ∨ (0x01100000 ≤ c.1 ∧ c.1 < 0x02000000) ∨ (0x02100000 ≤ c.1 ∧ c.1 < 0x03000000)) ∧
      s.sameBytesBut t 0 0x03000000 ∧ s.sameRegs t [R.SYS_REL.addr 0 0] := by
  subst ht
  obtain ⟨-, hreg, hwr⟩ := s.work.scrubbed_same
  have hrun : releaseStep s.work true 0 = s.work.scrubbed.put F.SYS_REL_STEP 4 :=
    (releaseStep_scrub s.work 0 hhold hstep).trans s.work.scrubStep_good
  have hmem : (s.run (fun w => releaseStep w true 0)).mem = (MemOp.wipe 0x02000000 0x02100000).apply ((MemOp.wipe 0x01000000 0x01100000).apply
      ((MemOp.wipe 0 0x00200000).apply s.mem)) := by
    rw [State.run_mem, hrun, Work.put_wr, hwr, State.work_wr]
    rfl
  refine ⟨?_, fun c hc => ?_, fun a ha => ?_, fun a ha => ?_⟩
  · rw [State.relStep_run, hrun, Work.relStep_put _ _ (by decide)]
  · rw [hmem] at hc
    obtain ⟨hc, hengines⟩ := MemOp.mem_apply_wipe _ _ _ c hc
    obtain ⟨hc, hchannels⟩ := MemOp.mem_apply_wipe _ _ _ c hc
    obtain ⟨-, hsystem⟩ := MemOp.mem_apply_wipe _ _ _ c hc
    omega
  · unfold State.byte
    rw [hmem, MemOp.apply_wipe_without _ _ _ _ (by omega), MemOp.apply_wipe_without _ _ _ _ (by omega),
      MemOp.apply_wipe_without _ _ _ _ (by omega)]
  · have hne : a ≠ R.SYS_REL.addr 0 0 := fun e => ha (e ▸ List.mem_cons_self)
    rw [State.run_reg, hrun, Work.reg_put_ne _ F.SYS_REL_STEP 4 0 0 a hne, hreg, State.work_reg]

theorem release_scrubRestarts (bad : Nat) (hbad : bad % 65536 ≠ 0) (hfirst : bitOf s.dev.rst.src 10 = false)
    (t : State) (ht : t = s.run (fun w => releaseStep w true bad)) :
    t.work.relStep = 0 ∧ bitOf t.dev.rst.src 10 = true ∧ t.dev.rst.faultN = true ∧ s.sameRegs t [R.SYS_REL.addr 0 0] := by
  subst ht
  obtain ⟨-, hreg, -⟩ := s.work.scrubbed_same
  have hrun := (releaseStep_scrub s.work bad hhold hstep).trans (s.work.scrubStep_restarts bad hbad hfirst)
  refine ⟨?_, ?_, ?_, fun a ha => ?_⟩
  · rw [State.relStep_run, hrun, Work.relStep_modRst, Work.relStep_put _ _ (by decide)]
  · rw [State.run_dev, hrun, Work.toDev_rst, Work.modRst_rst]
    exact bitOf_setBit_same ..
  · rw [State.run_dev, hrun, Work.toDev_rst, Work.modRst_rst]
  · have hne : a ≠ R.SYS_REL.addr 0 0 := fun e => ha (e ▸ List.mem_cons_self)
    rw [State.run_reg, hrun, Work.reg_modRst, Work.reg_put_ne _ F.SYS_REL_STEP 0 0 0 a hne, hreg, State.work_reg]

theorem release_scrubHeld (bad : Nat) (hbad : bad % 65536 ≠ 0) (hagain : bitOf s.dev.rst.src 10 = true)
    (t : State) (ht : t = s.run (fun w => releaseStep w true bad)) :
    t.work.relStep = 3 ∧ t.flag F.RST_REC_MEMHOLD = true ∧ t.dev.rst.hold = .fault ∧ s.sameRegs t [R.RST_REC.addr 0 0] := by
  subst ht
  obtain ⟨-, hreg, -⟩ := s.work.scrubbed_same
  have hrun := (releaseStep_scrub s.work bad hhold hstep).trans (s.work.scrubStep_holds bad hbad hagain)
  unfold Work.holdDevice at hrun
  have hkept : s.work.scrubbed.relStep = 3 := by
    rw [← hstep]
    unfold Work.relStep Work.get
    rw [hreg]
  refine ⟨?_, ?_, ?_, fun a ha => ?_⟩
  · rw [State.relStep_run, hrun, Work.relStep_modRst, Work.relStep_put_apart _ _ _ (by decide), hkept]
  · rw [State.run_flag, hrun, Work.flag_modRst, Work.flag_put_same _ _ _ _ _ rfl]
    rfl
  · rw [State.run_dev, hrun, Work.toDev_rst, Work.modRst_rst]
  · have hne : a ≠ R.RST_REC.addr 0 0 := fun e => ha (e ▸ List.mem_cons_self)
    rw [State.run_reg, hrun, Work.reg_modRst, Work.reg_put_ne _ F.RST_REC_MEMHOLD 1 0 0 a hne, hreg, State.work_reg]

end

end Sys2Proof.Machine
end


section
/-! PROOF: the later steps of the release order, the release of the channels, and a STORE into the boot flash (R74, R392, R393,
R422). -/
namespace Sys2Proof.Machine

/-! ### The key store's check (R422) -/

section
variable (w : Work)

/-- The keys that pass their check, shown. -/
def Work.keysKept (bad : Nat) : Work :=
  ({ w with sec := { w.sec with keys := w.sec.keys.filter (fun x => !bitOf bad (x.1 - 1)) } } : Work).showKeys

theorem maskList_bit (k : Fin 4) : maskList (2 ^ k.val) 4 = [k.val] := by decide +revert

theorem Work.keyCheck_one (k : Fin 4) (hkey : w.sec.keys.any (fun x => x.1 == k.val + 1) = true) :
    ∃ e, w.keyCheck (2 ^ k.val) = (w.keysKept (2 ^ k.val)).raiseEntry devRing e := by
  have hlost : (maskList (2 ^ k.val) 4).filter (fun i => w.sec.keys.any (fun x => x.1 == i + 1)) = [k.val] := by
    rw [maskList_bit, List.filter_cons, hkey]
    rfl
  unfold Work.keyCheck
  simp only [hlost, List.foldl_cons, List.foldl_nil]
  exact ⟨_, rfl⟩

theorem Work.keysKept_shows (bad : Nat) :
    (w.keysKept bad).sec = { w.sec with keys := w.sec.keys.filter (fun x => !bitOf bad (x.1 - 1)) } ∧
      (w.keysKept bad).get F.SEC_STAT_KEYS = listMask ((w.keysKept bad).sec.keys.map (fun x => x.1 - 1)) % 16 ∧
      (w.keysKept bad).wr = w.wr ∧ (w.keysKept bad).dring = w.dring ∧
      ∀ a, a ≠ R.SEC_STAT.addr 0 0 → (w.keysKept bad).reg a = w.reg a := by
  obtain ⟨v, hv⟩ : ∃ v, v = ({ w with sec := { w.sec with keys := w.sec.keys.filter (fun x => !bitOf bad (x.1 - 1)) } } : Work) := ⟨_, rfl⟩
  have hkept : w.keysKept bad = v.put F.SEC_STAT_KEYS (listMask (v.sec.keys.map (fun x => x.1 - 1))) := by rw [hv]; rfl
  have hsec : v.sec = { w.sec with keys := w.sec.keys.filter (fun x => !bitOf bad (x.1 - 1)) } := by rw [hv]
  have hsame : v.wr = w.wr ∧ v.dring = w.dring ∧ ∀ a, v.reg a = w.reg a := by
    rw [hv]
    exact ⟨rfl, rfl, fun _ => rfl⟩
  obtain ⟨hwr, hdring, hreg⟩ := hsame
  rw [hkept]
  refine ⟨?_, ?_, ?_, ?_, fun a ha => ?_⟩
  · rw [Work.put_sec, hsec]
  · rw [Work.get_put_same _ _ _ _ _ (by decide), Work.put_sec]
    rfl
  · rw [Work.put_wr, hwr]
  · rw [Work.put_dring, hdring]
  · rw [Work.reg_put_ne _ F.SEC_STAT_KEYS _ 0 0 a ha, hreg]

end

/-- A step that shows its number alone. -/
theorem release_shows (s : State) (k m : Nat) (v : Work) (hv : ∀ a, a ≠ R.SYS_REL.addr 0 0 → v.reg a = s.reg a) (hrst : v.rst = s.dev.rst)
    (hwr : v.wr = []) (hrel : v.relStep = k) (hrun : releaseStep s.work true m = v) (t : State) (ht : t = s.run (fun w => releaseStep w true m)) :
    t.work.relStep = k ∧ t.dev.rst = s.dev.rst ∧ s.sameRegs t [R.SYS_REL.addr 0 0] ∧ t.mem = s.mem := by
  subst ht
  refine ⟨?_, ?_, fun a ha => ?_, s.run_mem_of_wr _ ?_⟩
  · rw [State.relStep_run, hrun, hrel]
  · rw [State.run_dev, hrun, Work.toDev_rst, hrst]
  · rw [State.run_reg, hrun, hv a (fun e => ha (e ▸ List.mem_cons_self))]
  · rw [hrun, hwr]

section
variable (s : State) (hhold : s.dev.rst.hold = .none)
include hhold

theorem release_keys (bad : Nat) (k : Fin 4) (hstep : s.work.relStep = 7) (herase : s.dev.sec.erase = .none) (hbad : bad = 2 ^ k.val)
    (hkey : s.dev.sec.keys.any (fun x => x.1 == k.val + 1) = true) (t : State) (ht : t = s.run (fun w => releaseStep w true bad)) :
    t.work.relStep = 8 ∧ t.dev.sec.keys = s.dev.sec.keys.filter (fun x => !bitOf bad (x.1 - 1)) ∧
      t.get F.SEC_STAT_KEYS = listMask (t.dev.sec.keys.map (fun x => x.1 - 1)) % 16 ∧
      s.sameRegs t (R.SYS_REL.addr 0 0 :: R.SEC_STAT.addr 0 0 :: ringRegs devRing) ∧ s.sameMemButNext t devRing := by
  subst ht hbad
  obtain ⟨e, hcheck⟩ := s.work.keyCheck_one k hkey
  obtain ⟨hsec, hshown, hwr, hdring, hreg⟩ := s.work.keysKept_shows (2 ^ k.val)
  generalize s.work.keysKept (2 ^ k.val) = v at hcheck hsec hshown hwr hdring hreg
  have hsec' : (v.raiseEntry devRing e).sec = v.sec := (Work.SameDevice.raiseEntry v devRing e).sec
  have hrun : releaseStep s.work true (2 ^ k.val) = (v.raiseEntry devRing e).put F.SYS_REL_STEP 8 := by
    rw [releaseStep_keys s.work (2 ^ k.val) hhold hstep (by rw [hcheck, hsec', hsec]; exact herase), hcheck]
  have hkeys : (s.run (fun w => releaseStep w true (2 ^ k.val))).dev.sec = v.sec := by
    rw [State.run_dev, hrun]
    exact (Work.put_sec ..).trans hsec'
  refine ⟨?_, ?_, ?_, fun a ha => ?_, s.sameMemButNext_devRing _ v e ?_ ?_ ?_⟩
  · rw [State.relStep_run, hrun, Work.relStep_put _ _ (by decide)]
  · rw [hkeys, hsec]
    rfl
  · rw [hkeys, ← hshown, State.run_get, hrun, Work.get_put_apart _ _ _ _ _ (by decide), Work.get_raiseEntry_devRing v e F.SEC_STAT_KEYS (by decide)]
  · simp only [List.mem_cons, not_or] at ha
    obtain ⟨hrel, hstat, hring⟩ := ha
    rw [State.run_reg, hrun, Work.reg_put_ne _ F.SYS_REL_STEP 8 0 0 a hrel, Work.reg_raiseEntry v devRing e a hring, hreg a hstat, State.work_reg]
  · rw [hrun, Work.put_wr]
  · rw [hwr, State.work_wr]
  · rw [hdring]
    rfl

/-! ### The other steps (R392) -/

theorem release_plain (k m : Nat) (hstep : s.work.relStep = k) (hk : k ∈ [2, 4, 6, 8, 9]) (hrc : s.dev.rst.rcMode = false)
    (t : State) (ht : t = s.run (fun w => releaseStep w true m)) :
    t.work.relStep = k + 1 ∧ t.dev.rst = s.dev.rst ∧ s.sameRegs t [R.SYS_REL.addr 0 0] ∧ t.mem = s.mem := by
  have hreg : ∀ v a, a ≠ R.SYS_REL.addr 0 0 → (s.work.put F.SYS_REL_STEP v).reg a = s.reg a := fun v a ha => by
    rw [Work.reg_put_ne _ F.SYS_REL_STEP v 0 0 a ha, State.work_reg]
  have hrst : ∀ v, (s.work.put F.SYS_REL_STEP v).rst = s.dev.rst := fun v => Work.put_rst ..
  have hwr : ∀ v, (s.work.put F.SYS_REL_STEP v).wr = [] := fun v => (Work.put_wr ..).trans s.work_wr
  by_cases hthird : k = 2
  · subst hthird
    refine release_shows s 3 m ((s.work.put F.SYS_REL_STEP 3).put F.SYS_REL_RC_FALLBACK 0) (fun a ha => ?_) ?_ ?_ ?_ ?_ t ht
    · rw [Work.reg_put_ne _ F.SYS_REL_RC_FALLBACK 0 0 0 a ha, hreg 3 a ha]
    · rw [Work.put_rst, hrst]
    · rw [Work.put_wr, hwr]
    · rw [Work.relStep_put_apart _ _ _ (by decide), Work.relStep_put _ _ (by decide)]
    · have hrc' : s.work.rst.rcMode = false := hrc
      rw [releaseStep_third s.work m hhold hstep, hrc', Bool.toNat_false]
  · have hplain : k ∈ [4, 6, 8, 9] := by simpa [hthird] using hk
    have hlt : k + 1 < 16 := by
      simp only [List.mem_cons, List.not_mem_nil, or_false] at hplain
      omega
    exact release_shows s (k + 1) m _ (hreg _) (hrst _) (hwr _) (Work.relStep_put _ _ hlt)
      (releaseStep_plain s.work m hhold k hplain hstep) t ht

theorem release_vout (m : Nat) (hstep : s.work.relStep = 5) (hbad : m / 32 % 8 ≠ 0)
    (t : State) (ht : t = s.run (fun w => releaseStep w true m)) :
    t.work.relStep = 6 ∧ t.flag F.PWR_PMB_STAT_MODE_BAD = true ∧ t.flag F.PWR_CFG_PMB_EN = false ∧
      s.sameRegs t [R.SYS_REL.addr 0 0, R.PWR_PMB_STAT.addr 0 0, R.PWR_CFG.addr 0 0] ∧ t.mem = s.mem := by
  subst ht
  have hrun := releaseStep_vout s.work m hhold hstep hbad
  refine ⟨?_, ?_, ?_, fun a ha => ?_, s.run_mem_of_wr _ ?_⟩
  · rw [State.relStep_run, hrun, Work.relStep_modRst, Work.relStep_put _ _ (by decide)]
  · rw [State.run_flag, hrun, Work.flag_modRst, Work.flag_put_apart _ _ _ _ _ (by decide), Work.flag_put_apart _ _ _ _ _ (by decide),
      Work.flag_put_same _ _ _ _ _ rfl]
    rfl
  · rw [State.run_flag, hrun, Work.flag_modRst, Work.flag_put_apart _ _ _ _ _ (by decide), Work.flag_put_same _ _ _ _ _ rfl]
    rfl
  · simp only [List.mem_cons, List.not_mem_nil, or_false, not_or] at ha
    obtain ⟨hrel, hstat, hcfg⟩ := ha
    rw [State.run_reg, hrun, Work.reg_modRst, Work.reg_put_ne _ F.SYS_REL_STEP 6 0 0 a hrel, Work.reg_put_ne _ F.PWR_CFG_PMB_EN 0 0 0 a hcfg,
      Work.reg_put_ne _ F.PWR_PMB_STAT_MODE_BAD 1 0 0 a hstat, State.work_reg]
  · rw [hrun, Work.modRst_wr, Work.put_wr, Work.put_wr, Work.put_wr, State.work_wr]

theorem release_last (m : Nat) (hstep : s.work.relStep = 10) (hrc : s.dev.rst.rcMode = false)
    (t : State) (ht : t = s.run (fun w => releaseStep w true m)) :
    t.work.relStep = 11 ∧ t.get F.RHL_STAT_STATE = (if s.get F.SYS_BOOTSEL_SRC = 3 then 5 else s.get F.RHL_STAT_STATE) ∧
      s.sameRegs t [R.SYS_REL.addr 0 0, R.RHL_STAT.addr 0 0] ∧ t.mem = s.mem := by
  subst ht
  have hrun := releaseStep_last s.work m hhold hstep hrc
  rw [State.work_get] at hrun
  by_cases hsrc : s.get F.SYS_BOOTSEL_SRC = 3
  · rw [if_pos hsrc] at hrun ⊢
    refine ⟨?_, ?_, fun a ha => ?_, s.run_mem_of_wr _ ?_⟩
    · rw [State.relStep_run, hrun, Work.relStep_put_apart _ _ _ (by decide), Work.relStep_put _ _ (by decide)]
    · rw [State.run_get, hrun, Work.get_put_same _ _ _ _ _ (by decide)]
      rfl
    · simp only [List.mem_cons, List.not_mem_nil, or_false, not_or] at ha
      obtain ⟨hrel, hstat⟩ := ha
      rw [State.run_reg, hrun, Work.reg_put_ne _ F.RHL_STAT_STATE 5 0 0 a hstat, Work.reg_put_ne _ F.SYS_REL_STEP 11 0 0 a hrel, State.work_reg]
    · rw [hrun, Work.put_wr, Work.put_wr, State.work_wr]
  · rw [if_neg hsrc] at hrun ⊢
    refine ⟨?_, ?_, fun a ha => ?_, s.run_mem_of_wr _ ?_⟩
    · rw [State.relStep_run, hrun, Work.relStep_put _ _ (by decide)]
    · rw [State.run_get, hrun, Work.get_put_apart _ _ _ _ _ (by decide), State.work_get]
    · simp only [List.mem_cons, List.not_mem_nil, or_false, not_or] at ha
      obtain ⟨hrel, hstat⟩ := ha
      rw [State.run_reg, hrun, Work.reg_put_ne _ F.SYS_REL_STEP 11 0 0 a hrel, State.work_reg]
    · rw [hrun, Work.put_wr, State.work_wr]

end

/-! ### The release of the channels (R393) -/

section
variable (w : Work)

/-- The channel at the front taken from those still to release, and shown released. -/
def Work.relShown (n : Nat) (rest : List Nat) : Work :=
  (w.modRst (fun r => { r with chLeft := rest })).put F.SYS_REL_CH_REL (setBit (w.get F.SYS_REL_CH_REL) n true)

/-- A channel whose registers and Kiln start again. -/
def Chan.released (safe : Bool) (c : Chan) : Chan :=
  { c with restart := if safe then none else some .image, rewrite := if safe then 2 else 0, lamp := { c.lamp with pumpsOn := true, frozen := none } }

/-- The Kiln's ramp begun, and step 12 complete where no channel is left. -/
def Work.rampShown (n : Nat) (rest : List Nat) : Work :=
  if rest.isEmpty then (w.rampFromRelease n).put F.SYS_REL_STEP 12 else w.rampFromRelease n

theorem channelRelease_eq (n : Nat) (rest : List Nat) (hleft : w.rst.chLeft = n :: rest) :
    channelRelease w =
      ((if (w.relShown n rest).flag F.SYS_MODE_SAFE_START then (w.relShown n rest).putChState n stQuiesced else w.relShown n rest).modChan n
        (Chan.released ((w.relShown n rest).flag F.SYS_MODE_SAFE_START))).rampShown n rest := by
  unfold channelRelease
  rw [hleft]
  rfl

theorem Work.relShown_shows (n : Fin 8) (rest : List Nat) :
    (w.relShown n rest).rst = { w.rst with chLeft := rest } ∧ bitOf ((w.relShown n rest).get F.SYS_REL_CH_REL) n = true ∧
      (w.relShown n rest).flag F.SYS_MODE_SAFE_START = w.flag F.SYS_MODE_SAFE_START ∧ (w.relShown n rest).relStep = w.relStep ∧
      (w.relShown n rest).wr = w.wr ∧ (∀ m, (w.relShown n rest).chan m = w.chan m) ∧
      ∀ a, a ≠ R.SYS_REL.addr 0 0 → (w.relShown n rest).reg a = w.reg a := by
  have hwidth : F.SYS_REL_CH_REL.hi - F.SYS_REL_CH_REL.lo + 1 = 8 := rfl
  have hchan : ∀ (v : Work) (f : Rst → Rst) (m : Nat), (v.modRst f).chan m = v.chan m := fun _ _ _ => rfl
  have hput : ∀ (v : Work) (x m : Nat), (v.put F.SYS_REL_CH_REL x).chan m = v.chan m := fun _ _ _ => rfl
  unfold Work.relShown
  refine ⟨?_, ?_, ?_, ?_, ?_, fun m => ?_, fun a ha => ?_⟩
  · rw [Work.put_rst, Work.modRst_rst]
  · rw [Work.get_put_same _ _ _ _ _ (by decide), hwidth, bitOf_mod _ _ _ n.isLt, bitOf_setBit_same]
  · rw [Work.flag_put_apart _ _ _ _ _ (by decide), Work.flag_modRst]
  · rw [Work.relStep_put_apart _ _ _ (by decide), Work.relStep_modRst]
  · rw [Work.put_wr, Work.modRst_wr]
  · rw [hput, hchan]
  · rw [Work.reg_put_ne _ F.SYS_REL_CH_REL _ 0 0 a ha, Work.reg_modRst]

/-- What the ramp from a release leaves alone. -/
theorem Work.rampFromRelease_same (n : Nat) :
    (w.rampFromRelease n).rst = w.rst ∧ (w.rampFromRelease n).wr = w.wr ∧ (∀ a, (w.rampFromRelease n).reg a = w.reg a) ∧
      ∀ m, m ≠ n → (w.rampFromRelease n).chan m = w.chan m := by
  unfold Work.rampFromRelease
  split
  · exact ⟨rfl, rfl, fun _ => rfl, fun m hm => Work.chan_modChan_ne w n m _ hm⟩
  · exact ⟨rfl, rfl, fun _ => rfl, fun _ _ => rfl⟩

/-- The ramp touches the Kiln alone. -/
theorem Work.rampFromRelease_chan (n : Fin 8) :
    ((w.rampFromRelease n).chan n).restart = (w.chan n).restart ∧
      ((w.chan n).kiln.cold = true → (w.chan n).kiln.faulted = false → bitOf (w.get F.PWR_STAT_LATCHED) n = false →
        ((w.rampFromRelease n).chan n).kiln.ramping = true ∧ ((w.rampFromRelease n).chan n).kiln.cold = false) := by
  unfold Work.rampFromRelease
  split
  next h =>
    unfold Work.modKiln
    rw [Work.chan_modChan_fin]
    exact ⟨rfl, fun _ _ _ => ⟨rfl, rfl⟩⟩
  next h =>
    exact ⟨rfl, fun hcold hgood hlatched => absurd ⟨hcold, by simp [hgood], by simp [hlatched]⟩ h⟩

theorem Work.rampShown_shows (n : Nat) (rest : List Nat) :
    (w.rampShown n rest).rst = w.rst ∧ (w.rampShown n rest).wr = w.wr ∧ (∀ m, (w.rampShown n rest).chan m = (w.rampFromRelease n).chan m) ∧
      (∀ a, a ≠ R.SYS_REL.addr 0 0 → (w.rampShown n rest).reg a = w.reg a) ∧
      (w.rampShown n rest).get F.SYS_REL_CH_REL = w.get F.SYS_REL_CH_REL ∧
      (w.rampShown n rest).relStep = (if rest = [] then 12 else w.relStep) := by
  obtain ⟨hrst, hwr, hreg, -⟩ := w.rampFromRelease_same n
  have hget : ∀ f : Fld, (w.rampFromRelease n).get f = w.get f := fun f => by
    unfold Work.get
    rw [hreg]
  unfold Work.rampShown
  cases rest with
  | nil =>
    have hchan : ∀ m, ((w.rampFromRelease n).put F.SYS_REL_STEP 12).chan m = (w.rampFromRelease n).chan m := fun _ => rfl
    refine ⟨by rw [List.isEmpty_nil, if_pos rfl, Work.put_rst, hrst], by rw [List.isEmpty_nil, if_pos rfl, Work.put_wr, hwr], hchan, fun a ha => ?_, ?_, ?_⟩
    · rw [List.isEmpty_nil, if_pos rfl, Work.reg_put_ne _ F.SYS_REL_STEP 12 0 0 a ha, hreg]
    · rw [List.isEmpty_nil, if_pos rfl, Work.get_put_apart _ _ _ _ _ (by decide), hget]
    · rw [List.isEmpty_nil, if_pos rfl, if_pos rfl, Work.relStep_put _ _ (by decide)]
  | cons i rest =>
    exact ⟨hrst, hwr, fun _ => rfl, fun a _ => hreg a, hget _, hget _⟩

end

section
variable (s : State) (ch : Fin 8) (rest : List Nat) (hleft : s.dev.rst.chLeft = ch.val :: rest)
include hleft

theorem channelRelease_image (hsafe : s.flag F.SYS_MODE_SAFE_START = false) (t : State) (ht : t = s.run channelRelease) :
    t.dev.rst = { s.dev.rst with chLeft := rest } ∧ bitOf (t.get F.SYS_REL_CH_REL) ch = true ∧
      (t.chan ch).restart = some .image ∧ t.work.relStep = (if rest = [] then 12 else s.work.relStep) ∧
      ((s.chan ch).kiln.cold = true → (s.chan ch).kiln.faulted = false → bitOf (s.get F.PWR_STAT_LATCHED) ch = false →
        (t.chan ch).kiln.ramping = true ∧ (t.chan ch).kiln.cold = false) ∧
      (∀ n : Fin 8, n ≠ ch → t.chan n = s.chan n) ∧ s.sameRegs t [R.SYS_REL.addr 0 0] ∧ t.mem = s.mem := by
  subst ht
  have hrun := channelRelease_eq s.work ch rest hleft
  obtain ⟨hrst, hbit, hflag, hstep, hwr, hchan, hreg⟩ := s.work.relShown_shows ch rest
  have hoff : (s.work.relShown ch rest).flag F.SYS_MODE_SAFE_START = false := by rw [hflag, State.work_flag, hsafe]
  simp only [hoff, Bool.false_eq_true, if_false] at hrun
  generalize s.work.relShown ch rest = u at hrun hrst hbit hflag hstep hwr hchan hreg hoff
  obtain ⟨v, hv⟩ : ∃ v, v = u.modChan ch (Chan.released false) := ⟨_, rfl⟩
  rw [← hv] at hrun
  obtain ⟨-, -, -, hne⟩ := v.rampFromRelease_same ch
  obtain ⟨hrestart, hramps⟩ := v.rampFromRelease_chan ch
  have hvchan : v.chan ch = (s.chan ch).released false := by
    rw [hv, Work.chan_modChan_fin, hchan]
    rfl
  have hvreg : ∀ a, v.reg a = u.reg a := fun a => by rw [hv, Work.reg_modChan]
  have hvrst : v.rst = u.rst := by rw [hv, Work.modChan_rst]
  have hvwr : v.wr = u.wr := by rw [hv, Work.modChan_wr]
  obtain ⟨hrst'', hwr'', hchan'', hreg'', hget'', hstep''⟩ := v.rampShown_shows ch rest
  rw [← hrun] at hrst'' hwr'' hchan'' hreg'' hget'' hstep''
  refine ⟨?_, ?_, ?_, ?_, fun hcold hgood hlatched => ?_, fun n hn => ?_, fun a ha => ?_, s.run_mem_of_wr _ ?_⟩
  · rw [State.run_dev, Work.toDev_rst, hrst'', hvrst, hrst]
    rfl
  · rw [State.run_get, hget'', ← hbit]
    unfold Work.get
    rw [hvreg]
  · rw [State.run_chan, hchan'', hrestart, hvchan]
    rfl
  · rw [State.relStep_run, hstep'', ← hstep]
    unfold Work.relStep Work.get
    rw [hvreg]
  · rw [State.run_chan, hchan'']
    refine hramps (by rw [hvchan]; exact hcold) (by rw [hvchan]; exact hgood) ?_
    rw [← hlatched]
    unfold Work.get
    rw [hvreg, hreg _ (by decide)]
    rfl
  · have hne' : n.val ≠ ch.val := fun e => hn (Fin.ext e)
    rw [State.run_chan, hchan'', hne _ hne', hv, Work.chan_modChan_ne _ _ _ _ hne', hchan]
    rfl
  · have hne' : a ≠ R.SYS_REL.addr 0 0 := fun e => ha (e ▸ List.mem_cons_self)
    rw [State.run_reg, hreg'' a hne', hvreg, hreg a hne', State.work_reg]
  · rw [hwr'', hvwr, hwr, State.work_wr]

theorem channelRelease_safe (hsafe : s.flag F.SYS_MODE_SAFE_START = true) (t : State) (ht : t = s.run channelRelease) :
    t.dev.rst = { s.dev.rst with chLeft := rest } ∧ bitOf (t.get F.SYS_REL_CH_REL) ch = true ∧
      t.chState ch = stQuiesced ∧ (t.chan ch).restart = none ∧ (∀ n : Fin 8, n ≠ ch → t.chan n = s.chan n) ∧
      s.sameRegs t [R.SYS_REL.addr 0 0, R.SYS_CH_STATE.addr 0 0] ∧ t.mem = s.mem := by
  subst ht
  have hrun := channelRelease_eq s.work ch rest hleft
  obtain ⟨hrst, hbit, hflag, hstep, hwr, hchan, hreg⟩ := s.work.relShown_shows ch rest
  have hon : (s.work.relShown ch rest).flag F.SYS_MODE_SAFE_START = true := by rw [hflag, State.work_flag, hsafe]
  simp only [hon, if_true] at hrun
  generalize s.work.relShown ch rest = u at hrun hrst hbit hflag hstep hwr hchan hreg hon
  obtain ⟨x, hx⟩ : ∃ x, x = u.putChState ch stQuiesced := ⟨_, rfl⟩
  obtain ⟨v, hv⟩ : ∃ v, v = x.modChan ch (Chan.released true) := ⟨_, rfl⟩
  rw [← hx, ← hv] at hrun
  obtain ⟨-, -, -, hne⟩ := v.rampFromRelease_same ch
  obtain ⟨hrestart, -⟩ := v.rampFromRelease_chan ch
  have hxchan : ∀ m, x.chan m = u.chan m := fun m => by
    rw [hx]
    unfold Work.chan
    rw [Work.ch_putChState]
  have hxreg : ∀ a, a ≠ R.SYS_CH_STATE.addr 0 0 → x.reg a = u.reg a := fun a ha => by
    rw [hx]
    unfold Work.putChState
    rw [Work.reg_put_ne _ F.SYS_CH_STATE_STATES _ 0 0 a ha]
  have hxsame : x.rst = u.rst ∧ x.wr = u.wr := by
    rw [hx]
    unfold Work.putChState
    exact ⟨Work.put_rst .., Work.put_wr ..⟩
  have hvchan : v.chan ch = (s.chan ch).released true := by
    rw [hv, Work.chan_modChan_fin, hxchan, hchan]
    rfl
  have hvreg : ∀ a, v.reg a = x.reg a := fun a => by rw [hv, Work.reg_modChan]
  have hvrst : v.rst = u.rst := by rw [hv, Work.modChan_rst, hxsame.1]
  have hvwr : v.wr = u.wr := by rw [hv, Work.modChan_wr, hxsame.2]
  obtain ⟨hrst'', hwr'', hchan'', hreg'', hget'', hstep''⟩ := v.rampShown_shows ch rest
  rw [← hrun] at hrst'' hwr'' hchan'' hreg'' hget'' hstep''
  refine ⟨?_, ?_, ?_, ?_, fun n hn => ?_, fun a ha => ?_, s.run_mem_of_wr _ ?_⟩
  · rw [State.run_dev, Work.toDev_rst, hrst'', hvrst, hrst]
    rfl
  · rw [State.run_get, hget'', ← hbit]
    unfold Work.get
    rw [hvreg, hxreg _ (by decide)]
  · have hshown := u.chState_putChState ch stQuiesced ch.isLt (by decide)
    rw [← hshown, ← hx]
    unfold Work.chState Work.get
    change bitsOf (bitsOf ((channelRelease s.work).reg _) _ _) _ _ = _
    rw [hreg'' _ (by decide), hvreg]
  · rw [State.run_chan, hchan'', hrestart, hvchan]
    rfl
  · have hne' : n.val ≠ ch.val := fun e => hn (Fin.ext e)
    rw [State.run_chan, hchan'', hne _ hne', hv, Work.chan_modChan_ne _ _ _ _ hne', hxchan, hchan]
    rfl
  · simp only [List.mem_cons, List.not_mem_nil, or_false, not_or] at ha
    obtain ⟨hrel, hstate⟩ := ha
    rw [State.run_reg, hreg'' a hrel, hvreg, hxreg a hstate, hreg a hrel, State.work_reg]
  · rw [hwr'', hvwr, hwr, State.work_wr]

end

end Sys2Proof.Machine
end


section
/-! PROOF: a STORE into the boot flash (R74). -/
namespace Sys2Proof.Machine

section
variable (w : Work)

theorem Work.toDev_img : w.toDev.img = w.img := rfl

theorem Work.putFlag_false (f : Fld) : w.putFlag f false = w.put f 0 := rfl

/-- An entry whose content the spec leaves open. -/
theorem Work.entryOpen_eq (kind : Nat) : ∃ (e : Entry) (k : Nat), w.entryOpen kind = ({ w with free := k } : Work).raiseEntry devRing e := ⟨_, _, rfl⟩

/-- What such an entry leaves of the flash, of a field and of memory. -/
theorem Work.entryOpen_shows (kind : Nat) :
    (w.entryOpen kind).img = w.img ∧ (∀ f : Fld, (ringFree f = true ∧ f.base < 0x40100000) → (w.entryOpen kind).get f = w.get f) ∧
      (∀ a, a ∉ ringRegs devRing → (w.entryOpen kind).reg a = w.reg a) ∧
      ∃ (v : Work) (e : Entry), (w.entryOpen kind).wr = (v.raiseEntry devRing e).wr ∧ v.wr = w.wr ∧ v.dring = w.dring := by
  obtain ⟨e, k, he⟩ := w.entryOpen_eq kind
  obtain ⟨v, hv⟩ : ∃ v, v = ({ w with free := k } : Work) := ⟨_, rfl⟩
  have hdrawn : v.img = w.img ∧ (∀ a, v.reg a = w.reg a) ∧ v.wr = w.wr ∧ v.dring = w.dring := by
    rw [hv]
    exact ⟨rfl, fun _ => rfl, rfl, rfl⟩
  obtain ⟨himg, hreg, hwr, hdring⟩ := hdrawn
  rw [he, ← hv]
  refine ⟨(Work.SameDevice.raiseEntry v devRing e).img.trans himg, fun f hf => ?_, fun a ha => ?_, v, e, rfl, hwr, hdring⟩
  · rw [Work.get_raiseEntry_devRing v e f hf]
    unfold Work.get
    rw [hreg]
  · rw [Work.reg_raiseEntry v devRing e a ha, hreg]

/-- The STORE at an end: no longer busy, with its entry (R74). -/
def Work.storeOver : Work := (w.put F.SYS_IMG_STAT_FLASH_BUSY 0).entryOpen 0x80

theorem Work.storeOver_shows :
    w.storeOver.img = w.img ∧ w.storeOver.flag F.SYS_IMG_STAT_FLASH_BUSY = false ∧
      w.storeOver.flag F.SYS_IMG_STAT_FLASH_FAIL = w.flag F.SYS_IMG_STAT_FLASH_FAIL ∧
      (∀ a, a ∉ R.SYS_IMG_STAT.addr 0 0 :: ringRegs devRing → w.storeOver.reg a = w.reg a) ∧
      ∃ (v : Work) (e : Entry), w.storeOver.wr = (v.raiseEntry devRing e).wr ∧ v.wr = w.wr ∧ v.dring = w.dring := by
  obtain ⟨himg, hget, hreg, v, e, hwr, hvwr, hvdring⟩ := (w.put F.SYS_IMG_STAT_FLASH_BUSY 0).entryOpen_shows 0x80
  unfold Work.storeOver
  refine ⟨?_, ?_, ?_, fun a ha => ?_, v, e, hwr, ?_, ?_⟩
  · rw [himg, Work.put_img]
  · unfold Work.flag
    rw [hget _ (by decide), Work.get_put_same _ _ _ _ _ (by decide)]
    rfl
  · unfold Work.flag
    rw [hget _ (by decide), Work.get_put_apart _ _ _ _ _ (by decide)]
  · simp only [List.mem_cons, not_or] at ha
    obtain ⟨hstat, hring⟩ := ha
    rw [hreg a hring, Work.reg_put_ne _ F.SYS_IMG_STAT_FLASH_BUSY 0 0 0 a hstat]
  · rw [hvwr, Work.put_wr]
  · rw [hvdring, Work.put_dring]

end

section
variable (w : Work) (b : List Byte) (hstore : w.img.store = some (.writePrimary, b))
include hstore

theorem flashStoreEnd_good : flashStoreEnd w true = ({ w with img := { w.img with store := none, primary := b } } : Work).storeOver := by
  simp only [flashStoreEnd, hstore, Work.storeOver, Work.putFlag_false, if_true]

theorem flashStoreEnd_bad :
    flashStoreEnd w false =
      (({ w with img := { w.img with primary := Config.flashResidue w.free, store := none }, free := w.free + 1 } : Work).put F.SYS_IMG_STAT_FLASH_FAIL 1).storeOver := by
  simp only [flashStoreEnd, hstore, Work.storeOver, Work.storeFail, Work.putFlag_false, Work.raise, Bool.false_eq_true, if_false]

end

section
variable (s : State) (b : List Byte)

theorem flashStore_copies (p : List Byte) (hstore : s.dev.img.store = some (.copyFallback, b)) (hp : p = flashImage s.dev.img.primary)
    (t : State) (ht : t = s.run (fun w => flashStore w true)) :
    t.dev.img.store = some (.writePrimary, b) ∧
      t.dev.img.fallback = (if s.work.staticCode none none p = 0 ∧ flashImage s.dev.img.fallback ≠ p then p else s.dev.img.fallback) ∧
      t.dev.img.primary = s.dev.img.primary ∧ s.sameRegs t [] ∧ t.mem = s.mem := by
  subst ht hp
  have hrun : flashStore s.work true = if s.work.staticCode none none (flashImage s.dev.img.primary) = 0 ∧
        flashImage s.dev.img.fallback ≠ flashImage s.dev.img.primary then
      ({ s.work with img := { s.work.img with store := some (.writePrimary, b), fallback := flashImage s.dev.img.primary } } : Work)
      else { s.work with img := { s.work.img with store := some (.writePrimary, b) } } := by
    have hstore' : s.work.img.store = some (.copyFallback, b) := hstore
    unfold flashStore
    rw [hstore']
    dsimp only
    by_cases hdue : s.work.staticCode none none (flashImage s.dev.img.primary) = 0 ∧
        flashImage s.dev.img.fallback ≠ flashImage s.dev.img.primary
    · rw [if_pos hdue]
      exact (if_neg (by simpa using hdue)).trans (if_pos rfl)
    · rw [if_neg hdue]
      exact if_pos ((congrArg not (decide_eq_false hdue)).trans rfl)
  by_cases hdue : s.work.staticCode none none (flashImage s.dev.img.primary) = 0 ∧
      flashImage s.dev.img.fallback ≠ flashImage s.dev.img.primary
  · rw [if_pos hdue] at hrun ⊢
    refine ⟨?_, ?_, ?_, fun a _ => ?_, s.run_mem_of_wr _ ?_⟩
    · rw [State.run_dev, hrun]
    · rw [State.run_dev, hrun]
    · rw [State.run_dev, hrun]
      rfl
    · rw [State.run_reg, hrun]
      rfl
    · rw [hrun]
      rfl
  · rw [if_neg hdue] at hrun ⊢
    refine ⟨?_, ?_, ?_, fun a _ => ?_, s.run_mem_of_wr _ ?_⟩
    · rw [State.run_dev, hrun]
    · rw [State.run_dev, hrun]
      rfl
    · rw [State.run_dev, hrun]
      rfl
    · rw [State.run_reg, hrun]
      rfl
    · rw [hrun]
      rfl

variable (hstore : s.dev.img.store = some (.writePrimary, b))
include hstore

theorem flashStoreEnd_done (t : State) (ht : t = s.run (fun w => flashStoreEnd w true)) :
    t.dev.img = { s.dev.img with store := none, primary := b } ∧ t.flag F.SYS_IMG_STAT_FLASH_BUSY = false ∧
      s.sameRegs t (R.SYS_IMG_STAT.addr 0 0 :: ringRegs devRing) ∧ s.sameMemButNext t devRing := by
  subst ht
  obtain ⟨u, hu⟩ : ∃ u, u = ({ s.work with img := { s.work.img with store := none, primary := b } } : Work) := ⟨_, rfl⟩
  have hrun : flashStoreEnd s.work true = u.storeOver := by
    have hstore' : s.work.img.store = some (.writePrimary, b) := hstore
    rw [hu, flashStoreEnd_good s.work b hstore']
  have hsame : u.img = { s.dev.img with store := none, primary := b } ∧ u.wr = [] ∧ u.dring = s.dev.dring ∧ ∀ a, u.reg a = s.reg a := by
    rw [hu]
    exact ⟨rfl, rfl, rfl, fun _ => rfl⟩
  obtain ⟨himg, hwr, hdring, hreg⟩ := hsame
  obtain ⟨himg', hbusy, -, hreg', v, e, hwr', hvwr, hvdring⟩ := u.storeOver_shows
  refine ⟨?_, ?_, fun a ha => ?_, s.sameMemButNext_devRing _ v e ?_ ?_ ?_⟩
  · rw [State.run_dev, hrun, Work.toDev_img, himg', himg]
  · rw [State.run_flag, hrun, hbusy]
  · rw [State.run_reg, hrun, hreg' a ha, hreg]
  · rw [hrun, hwr']
  · rw [hvwr, hwr]
  · rw [hvdring, hdring]

theorem flashStoreEnd_failed (t : State) (ht : t = s.run (fun w => flashStoreEnd w false)) :
    t.dev.img.store = none ∧ t.dev.img.fallback = s.dev.img.fallback ∧ t.flag F.SYS_IMG_STAT_FLASH_FAIL = true ∧
      t.flag F.SYS_IMG_STAT_FLASH_BUSY = false ∧ s.sameRegs t (R.SYS_IMG_STAT.addr 0 0 :: ringRegs devRing) ∧
      s.sameMemButNext t devRing := by
  subst ht
  obtain ⟨x, hx⟩ : ∃ x, x = ({ s.work with img := { s.work.img with primary := Config.flashResidue s.work.free, store := none }, free := s.work.free + 1 } : Work) :=
    ⟨_, rfl⟩
  have hrun : flashStoreEnd s.work false = (x.put F.SYS_IMG_STAT_FLASH_FAIL 1).storeOver := by
    have hstore' : s.work.img.store = some (.writePrimary, b) := hstore
    rw [hx, flashStoreEnd_bad s.work b hstore']
  have hsame : x.img.store = none ∧ x.img.fallback = s.dev.img.fallback ∧ x.wr = [] ∧ x.dring = s.dev.dring ∧ ∀ a, x.reg a = s.reg a := by
    rw [hx]
    exact ⟨rfl, rfl, rfl, rfl, fun _ => rfl⟩
  obtain ⟨hnone, hfallback, hwr, hdring, hreg⟩ := hsame
  obtain ⟨himg, hbusy, hfail, hreg', v, e, hwr', hvwr, hvdring⟩ := (x.put F.SYS_IMG_STAT_FLASH_FAIL 1).storeOver_shows
  refine ⟨?_, ?_, ?_, ?_, fun a ha => ?_, s.sameMemButNext_devRing _ v e ?_ ?_ ?_⟩
  · rw [State.run_dev, hrun, Work.toDev_img, himg, Work.put_img, hnone]
  · rw [State.run_dev, hrun, Work.toDev_img, himg, Work.put_img, hfallback]
  · rw [State.run_flag, hrun, hfail, Work.flag_put_same _ _ _ _ _ rfl]
    rfl
  · rw [State.run_flag, hrun, hbusy]
  · have hne : a ≠ R.SYS_IMG_STAT.addr 0 0 := fun h => ha (h ▸ List.mem_cons_self)
    rw [State.run_reg, hrun, hreg' a ha, Work.reg_put_ne _ F.SYS_IMG_STAT_FLASH_FAIL 1 0 0 a hne, hreg]
  · rw [hrun, hwr']
  · rw [hvwr, Work.put_wr, hwr]
  · rw [hvdring, Work.put_dring, hdring]

end

/-- Settles O38. -/
theorem releaseAndFlash : Obligations.ReleaseAndFlash := by
  unfold Obligations.ReleaseAndFlash
  refine ⟨?_, ?_, ?_, ?_, ?_, ?_, ?_, ?_, ?_, ?_, ?_, ?_, ?_, ?_, ?_, ?_, ?_⟩
  case refine_1 =>
    intro s hheld
    exact ⟨_, rfl, release_starts s hheld _ rfl⟩
  case refine_2 =>
    intro s sum hhold hstep hmerged
    exact ⟨_, rfl, release_bootsel s hhold sum hstep hmerged _ rfl⟩
  case refine_3 =>
    intro s hhold hstep
    exact ⟨_, rfl, release_trimmed s hhold hstep _ rfl⟩
  case refine_4 =>
    intro s hhold hstep hbad
    exact ⟨_, rfl, release_trimHeld s hhold hstep hbad _ rfl⟩
  case refine_5 =>
    intro s hhold hstep
    exact ⟨_, rfl, release_scrubbed s hhold hstep _ rfl⟩
  case refine_6 =>
    intro s bad hhold hstep hbad hfirst
    exact ⟨_, rfl, release_scrubRestarts s hhold hstep bad hbad hfirst _ rfl⟩
  case refine_7 =>
    intro s bad hhold hstep hbad hagain
    exact ⟨_, rfl, release_scrubHeld s hhold hstep bad hbad hagain _ rfl⟩
  case refine_8 =>
    intro s bad k hhold hstep herase hbad hkey
    exact ⟨_, rfl, release_keys s hhold bad k hstep herase hbad hkey _ rfl⟩
  case refine_9 =>
    intro s k m hhold hstep hk hrc
    exact ⟨_, rfl, release_plain s hhold k m hstep hk hrc _ rfl⟩
  case refine_10 =>
    intro s m hhold hstep hbad
    exact ⟨_, rfl, release_vout s hhold m hstep hbad _ rfl⟩
  case refine_11 =>
    intro s m hhold hstep hrc
    exact ⟨_, rfl, release_last s hhold m hstep hrc _ rfl⟩
  case refine_12 =>
    intro s k m hhold hstep hk
    exact ⟨_, rfl, s.run_of_idle _ (releaseStep_waits s.work m hhold k hstep hk)⟩
  case refine_13 =>
    intro s ch rest hleft hsafe
    exact ⟨_, rfl, channelRelease_image s ch rest hleft hsafe _ rfl⟩
  case refine_14 =>
    intro s ch rest hleft hsafe
    obtain ⟨hrst, hbit, hstate, hrestart, hothers, hregs, hmem⟩ := channelRelease_safe s ch rest hleft hsafe _ rfl
    refine ⟨_, rfl, hrst, hbit, hstate, hrestart, hothers, hregs, fun a _ => ?_⟩
    unfold State.byte
    rw [hmem]
  case refine_15 =>
    intro s p b hstore hp
    exact ⟨_, rfl, flashStore_copies s b p hstore hp _ rfl⟩
  case refine_16 =>
    intro s b hstore
    exact ⟨_, rfl, flashStoreEnd_done s b hstore _ rfl⟩
  case refine_17 =>
    intro s b hstore
    exact ⟨_, rfl, flashStoreEnd_failed s b hstore _ rfl⟩

end Sys2Proof.Machine
end


section
/-! PROOF SUPPORT. The write of one bit of SYS_BLK_RST, and a port at rest (R4, R300, R307, R396). -/
namespace Sys2Proof.Machine

/-! ### A bit of a written word -/

theorem bitOf_setBit_self (v i : Nat) (b : Bool) : bitOf (setBit v i b) i = b := by
  have hbits : bitsOf (setBit v i b) i i = b.toNat := by
    rw [setBit, bitsOf_setBits_same _ _ _ _ (le_refl i)]
    cases b <;> simp
  rw [bitOf_of_bitsOf _ i i i (le_refl i) (le_refl i), hbits, Nat.sub_self]
  cases b <;> rfl

/-- A bit of a field that a write sets is the bit written. -/
theorem bitOf_mergeWord_set (r : RegRow) (f : FieldRow) (old v i : Nat) (hrise : fieldsRise 0 r.fields = true) (hf : f ∈ r.fields)
    (hacc : f.acc = .rw) (hlo : f.lo ≤ i) (hhi : i ≤ f.hi) : bitOf (mergeWord r old v) i = bitOf v i := by
  obtain ⟨-, hread, -⟩ := placeAll_spec (fun f => writtenField f old v) r.fields 0 0 hrise (by decide)
  have hfield : bitsOf (mergeWord r old v) f.hi f.lo = bitsOf v f.hi f.lo := by
    refine (hread f hf).trans ?_
    simp only [writtenField, hacc]
    exact Nat.mod_eq_of_lt (bitsOf_lt v f.hi f.lo)
  rw [bitOf_of_bitsOf _ _ _ _ hlo hhi, hfield, ← bitOf_of_bitsOf _ _ _ _ hlo hhi]

theorem rowAt_blkRst : rowAt (R.SYS_BLK_RST.addr 0 0) = some (rowOf R.SYS_BLK_RST.base, 0) := by decide +kernel

theorem base_blkRst : (rowOf R.SYS_BLK_RST.base).base = R.SYS_BLK_RST.base := by decide +kernel

theorem blkRst_field (i : Fin 9) : (rowOf R.SYS_BLK_RST.base).fields.any (fun f => f.acc == .rw && decide (f.lo ≤ i) && decide (i ≤ f.hi)) = true := by
  decide +revert +kernel

theorem bitOf_blkRst (old v i : Nat) (h : i < 9) : bitOf (mergeWord (rowOf R.SYS_BLK_RST.base) old v) i = bitOf v i := by
  obtain ⟨f, hf, hin⟩ := List.any_eq_true.mp (blkRst_field ⟨i, h⟩)
  simp only [Bool.and_eq_true, beq_iff_eq, decide_eq_true_eq] at hin
  obtain ⟨⟨hacc, hlo⟩, hhi⟩ := hin
  exact bitOf_mergeWord_set _ f old v i (rowAt_rise _ _ _ rowAt_blkRst) hf hacc hlo hhi

/-! ### One bit of SYS_BLK_RST -/

/-- What a write of SYS_BLK_RST does for one of its bits (R396). -/
def Work.blkBit (old new : Nat) (w : Work) (i : Nat) : Work :=
  if bitOf new i ∧ !bitOf old i then w.holdBlock i
  else if bitOf old i ∧ !bitOf new i then w.releaseBlock i
  else w

theorem Work.blkBit_same (old new i : Nat) (w : Work) (h : bitOf new i = bitOf old i) : w.blkBit old new i = w := by
  unfold Work.blkBit
  rw [h]
  cases bitOf old i <;> rfl

/-- The working state with one bit of SYS_BLK_RST written. -/
def State.blkSet (s : State) (bit : Nat) (b : Bool) : Work :=
  s.work.setReg (R.SYS_BLK_RST.addr 0 0)
    (mergeWord (rowOf R.SYS_BLK_RST.base) (s.reg (R.SYS_BLK_RST.addr 0 0)) (setBit (s.reg (R.SYS_BLK_RST.addr 0 0)) bit b))

section
variable (s : State) (bit : Nat) (b : Bool)

theorem State.putWord_blkRst (w : Work) (x : RegW) (hb : x.b = R.SYS_BLK_RST.base) (ha : x.a = R.SYS_BLK_RST.addr 0 0) :
    (w.putWord x).1 = (List.range 9).foldl (fun v i => v.blkBit x.old x.new i) (w.setReg x.a x.new) := by
  have hchan : isChanReg (R.SYS_BLK_RST.addr 0 0) = false := by decide
  have hsys : R.SYS_BLK_RST.addr 0 0 < 0x40008000 ∧ 0x40000000 ≤ R.SYS_BLK_RST.addr 0 0 := by decide
  unfold Work.putWord
  rw [if_neg (by rw [hb]; decide), ha, hchan, if_neg (by decide), if_pos hsys]
  unfold Work.putSys
  rw [if_neg (by rw [hb]; decide), if_neg (by rw [hb]; decide), if_neg (by rw [hb]; decide), if_pos hb, ha]
  rfl

/-- A write of one bit holds or releases its block, and no other (R396). -/
theorem State.bitWrite_blkRst (hbit : bit < 9)
    (haccept : s.accepts (R.SYS_BLK_RST.addr 0 0) (setBit (s.reg (R.SYS_BLK_RST.addr 0 0)) bit b) = true)
    (hold : bitOf (s.reg (R.SYS_BLK_RST.addr 0 0)) bit = !b) :
    s.work.bitWrite (R.SYS_BLK_RST.addr 0 0) bit b = if b then (s.blkSet bit b).holdBlock bit else (s.blkSet bit b).releaseBlock bit := by
  obtain ⟨r, k, hrow, hput⟩ := s.writeReg_of_accepts _ _ haccept
  obtain ⟨rfl, rfl⟩ := Prod.mk.inj (Option.some.inj (rowAt_blkRst.symm.trans hrow))
  have hnew : ∀ i, i < 9 → bitOf (mergeWord (rowOf R.SYS_BLK_RST.base) (s.reg (R.SYS_BLK_RST.addr 0 0))
      (setBit (s.reg (R.SYS_BLK_RST.addr 0 0)) bit b)) i = bitOf (setBit (s.reg (R.SYS_BLK_RST.addr 0 0)) bit b) i := fun i hi => bitOf_blkRst _ _ i hi
  have hother : ∀ i ∈ List.range 9, i ≠ bit → ∀ w : Work, w.blkBit (s.reg (R.SYS_BLK_RST.addr 0 0))
      (mergeWord (rowOf R.SYS_BLK_RST.base) (s.reg (R.SYS_BLK_RST.addr 0 0)) (setBit (s.reg (R.SYS_BLK_RST.addr 0 0)) bit b)) i = w := by
    intro i hi hne w
    refine Work.blkBit_same _ _ i w ?_
    rw [hnew i (List.mem_range.mp hi), bitOf_setBit_ne _ _ _ _ (Ne.symm hne)]
  unfold Work.bitWrite
  rw [State.work_reg, hput, State.putWord_blkRst _ _ base_blkRst rfl]
  refine (List.foldl_only _ bit List.nodup_range (List.mem_range.mpr hbit) _ _ (fun i hi hne => hother i hi hne _)
    (fun i hi hne => hother i hi hne _)).trans ?_
  have hset : bitOf (mergeWord (rowOf R.SYS_BLK_RST.base) (s.reg (R.SYS_BLK_RST.addr 0 0))
      (setBit (s.reg (R.SYS_BLK_RST.addr 0 0)) bit b)) bit = b := (hnew bit hbit).trans (bitOf_setBit_self _ _ _)
  show Work.blkBit (s.reg (R.SYS_BLK_RST.addr 0 0)) (mergeWord (rowOf R.SYS_BLK_RST.base) (s.reg (R.SYS_BLK_RST.addr 0 0))
      (setBit (s.reg (R.SYS_BLK_RST.addr 0 0)) bit b)) (s.blkSet bit b) bit = _
  unfold Work.blkBit
  rw [hset, hold]
  cases b <;> rfl

theorem State.bitOf_blkSet (hbit : bit < 9) : bitOf ((s.blkSet bit b).reg (R.SYS_BLK_RST.addr 0 0)) bit = b := by
  unfold State.blkSet
  rw [Work.reg_setReg_same, bitOf_blkRst _ _ _ hbit, bitOf_setBit_self]

theorem State.reg_blkSet (a : Nat) (h : a ≠ R.SYS_BLK_RST.addr 0 0) : (s.blkSet bit b).reg a = s.reg a := by
  unfold State.blkSet
  rw [Work.reg_setReg_ne _ _ _ _ h, State.work_reg]

theorem State.get_blkSet (f : Fld) (n k : Nat) (h : f.addr n k ≠ R.SYS_BLK_RST.addr 0 0) : (s.blkSet bit b).get f n k = s.get f n k := by
  unfold Work.get
  rw [s.reg_blkSet bit b _ h]
  rfl

@[simp] theorem State.wr_blkSet : (s.blkSet bit b).wr = [] := by
  unfold State.blkSet
  rw [Work.setReg_wr, State.work_wr]

theorem State.flag_blkSet (f : Fld) (hf : f.addr 0 0 = R.SYS_BLK_RST.addr 0 0) (hlo : f.lo = bit) (hhi : f.hi = bit) (hbit : bit < 9) :
    (s.blkSet bit b).flag f = b := by
  have hread := s.bitOf_blkSet bit b hbit
  unfold Work.flag Work.get
  rw [hf, hlo, hhi]
  rw [bitOf_of_bitsOf _ bit bit bit (le_refl _) (le_refl _), Nat.sub_self] at hread
  have hlt : bitsOf ((s.blkSet bit b).reg (R.SYS_BLK_RST.addr 0 0)) bit bit < 2 := by simpa using bitsOf_lt ((s.blkSet bit b).reg (R.SYS_BLK_RST.addr 0 0)) bit bit
  generalize bitsOf ((s.blkSet bit b).reg (R.SYS_BLK_RST.addr 0 0)) bit bit = x at hread hlt ⊢
  interval_cases x <;> simpa using hread

end

/-! ### A port at rest -/

section
variable (w : Work) (o : Origin)

theorem Work.rollBack_idle (hsess : w.img.sess = none) (hmode : w.modeReq = none) (hcmd : w.pwr.cmd = none) : w.rollBack o = w := by
  unfold Work.rollBack
  simp only [hsess, hmode, hcmd]

theorem Work.SameDevice.modMash (n : Nat) (f : Mash → Mash) : w.SameDevice (w.modMash n f) := by
  unfold Work.modMash Work.showMash
  simp only [Work.putFlag_eq]
  exact (Work.SameDevice.modChan w _ _).trans (((Work.SameDevice.put _ _ _ _ _).trans (Work.SameDevice.put _ _ _ _ _)).trans (Work.SameDevice.put _ _ _ _ _))

/-- The registers that show the deliveries of every Mash. -/
def mashStats : List Nat := (List.range 8).map (fun n => R.MASH_STAT.addr n 0)

/-- What goes on without its port changes the deliveries, and the wraps that wait (R307). -/
theorem Work.orphans_eq : ∃ (v : Work) (l : List WrapWait), w.orphans o = { v with host := { v.host with wraps := l } } ∧ w.SameDevice v ∧
    v.wr = w.wr ∧ ∀ a, a ∉ mashStats → v.reg a = w.reg a := by
  have hall : ∀ f : Work → Nat → Mash → Mash, w.SameDevice ((List.range 8).foldl (fun v n => v.modMash n (f v n)) w) ∧
      ((List.range 8).foldl (fun v n => v.modMash n (f v n)) w).wr = w.wr ∧
      ∀ a, a ∉ mashStats → ((List.range 8).foldl (fun v n => v.modMash n (f v n)) w).reg a = w.reg a := by
    intro f
    refine List.foldlRecOn (motive := fun v : Work => w.SameDevice v ∧ v.wr = w.wr ∧ ∀ a, a ∉ mashStats → v.reg a = w.reg a) _ _
      ⟨Work.SameDevice.refl w, rfl, fun _ _ => rfl⟩ fun v hv n hn => ?_
    obtain ⟨hdev, hwr, hreg⟩ := hv
    refine ⟨hdev.trans (Work.SameDevice.modMash v n _), (v.wr_modMash n _).trans hwr, fun a ha => ?_⟩
    have hne : a ≠ R.MASH_STAT.addr n 0 := fun h => ha (List.mem_map.mpr ⟨n, hn, h.symm⟩)
    exact (v.reg_modMash n _ a hne).trans (hreg a ha)
  obtain ⟨hdev, hwr, hreg⟩ := hall fun v n m => { m with queue := m.queue.map (·.orphan o), waiting := m.waiting.map (·.orphan o), drawn := m.drawn.map (fun x => { x with deliv := x.deliv.orphan o }) }
  exact ⟨_, _, rfl, hdev, hwr, hreg⟩

theorem Work.orphans_wr : (w.orphans o).wr = w.wr := by
  obtain ⟨v, l, heq, -, hwr, -⟩ := w.orphans_eq o
  rw [heq]
  exact hwr

theorem Work.orphans_tun : (w.orphans o).tun = w.tun := by
  obtain ⟨v, l, heq, hdev, -⟩ := w.orphans_eq o
  rw [heq]
  exact hdev.tun

theorem Work.orphans_fab : (w.orphans o).fab = w.fab := by
  obtain ⟨v, l, heq, hdev, -⟩ := w.orphans_eq o
  rw [heq]
  exact hdev.fab

theorem Work.orphans_img : (w.orphans o).img = w.img := by
  obtain ⟨v, l, heq, hdev, -⟩ := w.orphans_eq o
  rw [heq]
  exact hdev.img

theorem Work.orphans_rst : (w.orphans o).rst = w.rst := by
  obtain ⟨v, l, heq, hdev, -⟩ := w.orphans_eq o
  rw [heq]
  exact hdev.rst

theorem Work.reg_orphans (a : Nat) (h : a ∉ mashStats) : (w.orphans o).reg a = w.reg a := by
  obtain ⟨v, l, heq, -, -, hreg⟩ := w.orphans_eq o
  rw [heq]
  exact hreg a h

end

section
variable (w : Work)

theorem Work.portReset_idle (o : Origin) (hsess : w.img.sess = none) (hmode : w.modeReq = none) (hcmd : w.pwr.cmd = none) :
    w.portReset o = ((w.orphans o).setPort o Port.init).showPort o := by
  unfold Work.portReset
  rw [w.rollBack_idle o hsess hmode hcmd]

theorem Work.tunEng_of_tun {v : Work} (h : v.tun = w.tun) (e : Nat) : v.tunEng e = w.tunEng e := by
  unfold Work.tunEng
  rw [h]

theorem Work.tunEng_put (f : Fld) (v n k : Nat) (e : Nat) : (w.put f v n k).tunEng e = w.tunEng e := w.tunEng_of_tun (w.put_tun f v n k) e

theorem Work.wr_modTun (e : Nat) (f : TunEng → TunEng) : (w.modTun e f).wr = w.wr := id rfl

/-- A Tun engine's port at rest (R307). -/
theorem Work.portReset_tun (e : Fin 4) (hsess : w.img.sess = none) (hmode : w.modeReq = none) (hcmd : w.pwr.cmd = none) :
    (w.portReset (.tun e)).tunEng e = { w.tunEng e with port := Port.init } ∧ (w.portReset (.tun e)).wr = w.wr ∧
      ∀ a, a ≠ R.TUN_STAT.addr 0 e → a ∉ mashStats → (w.portReset (.tun e)).reg a = w.reg a := by
  rw [w.portReset_idle _ hsess hmode hcmd]
  unfold Work.showPort Work.setPort
  dsimp only
  rw [Work.putFlag_eq]
  refine ⟨?_, ?_, fun a hstat ha => ?_⟩
  · rw [Work.tunEng_put, Work.tunEng_modTun, w.tunEng_of_tun (w.orphans_tun _)]
  · rw [Work.put_wr, Work.wr_modTun, w.orphans_wr]
  · rw [Work.reg_put_ne _ F.TUN_STAT_VR_BUSY _ 0 e a hstat, Work.reg_modTun, w.reg_orphans _ a ha]

theorem Work.rst_showHost : w.showHost.rst = w.rst := by
  simp only [Work.showHost, Work.putFlag_eq, Work.put_rst]

/-- The host port at rest. -/
theorem Work.portReset_host (hsess : w.img.sess = none) (hmode : w.modeReq = none) (hcmd : w.pwr.cmd = none) :
    (w.portReset .host).host.port = Port.init ∧ (w.portReset .host).wr = w.wr ∧ (w.portReset .host).rst = w.rst ∧
      ∀ a, a ∉ hostRegs → a ∉ mashStats → (w.portReset .host).reg a = w.reg a := by
  have hset : ∀ v : Work, (v.setPort .host Port.init).host.port = Port.init ∧ (v.setPort .host Port.init).wr = v.wr ∧
      (v.setPort .host Port.init).rst = v.rst ∧ ∀ a, (v.setPort .host Port.init).reg a = v.reg a := fun _ => ⟨rfl, rfl, rfl, fun _ => rfl⟩
  rw [w.portReset_idle _ hsess hmode hcmd]
  obtain ⟨hport, hwr, hrst, hreg⟩ := hset (w.orphans .host)
  have hshow : ∀ v : Work, v.showPort .host = v.showHost := fun _ => rfl
  rw [hshow]
  refine ⟨?_, ?_, ?_, fun a hhost ha => ?_⟩
  · rw [Work.host_showHost, hport]
  · rw [Work.wr_showHost, hwr, w.orphans_wr]
  · rw [Work.rst_showHost, hrst, w.orphans_rst]
  · rw [Work.reg_showHost _ a hhost, hreg, w.reg_orphans _ a ha]

/-- The fabric's port at rest. -/
theorem Work.portReset_fabric (hsess : w.img.sess = none) (hmode : w.modeReq = none) (hcmd : w.pwr.cmd = none) :
    (w.portReset (.fabric 0)).fab = { w.fab with port := Port.init } ∧ (w.portReset (.fabric 0)).wr = w.wr ∧
      (w.portReset (.fabric 0)).img = w.img ∧ ∀ a, a ∉ mashStats → (w.portReset (.fabric 0)).reg a = w.reg a := by
  have hset : ∀ v : Work, (v.setPort (.fabric 0) Port.init).fab = { v.fab with port := Port.init } ∧ (v.setPort (.fabric 0) Port.init).wr = v.wr ∧
      (v.setPort (.fabric 0) Port.init).img = v.img ∧ ∀ a, (v.setPort (.fabric 0) Port.init).reg a = v.reg a := fun _ => ⟨rfl, rfl, rfl, fun _ => rfl⟩
  have hshow : ∀ v : Work, v.showPort (.fabric 0) = v := fun _ => rfl
  rw [w.portReset_idle _ hsess hmode hcmd, hshow]
  obtain ⟨hfab, hwr, himg, hreg⟩ := hset (w.orphans (.fabric 0))
  exact ⟨by rw [hfab, w.orphans_fab], by rw [hwr, w.orphans_wr], by rw [himg, w.orphans_img], fun a ha => by rw [hreg, w.reg_orphans _ a ha]⟩

end

end Sys2Proof.Machine
end


section
/-! PROOF. Blocks of the shared side held by their bits (R307, R329, R396, R397). -/
namespace Sys2Proof.Machine

/-! ### What a block's hold does -/

section
variable (w : Work)

/-- The stop of a Tun engine, as its registers show it. -/
theorem Work.stopShown (v : Work) (e : Fin 4) (u : Work)
    (hu : u = (v.put F.TUN_CTL_RUNNING (setBit (v.get F.TUN_CTL_RUNNING) e false)).put F.TUN_STAT_STATE 0 0 e) :
    bitOf (u.get F.TUN_CTL_RUNNING) e = false ∧ u.get F.TUN_STAT_STATE 0 e = 0 ∧ u.tunEng e = v.tunEng e ∧ u.wr = v.wr ∧
      ∀ a, a ≠ R.TUN_CTL.addr 0 0 → a ≠ R.TUN_STAT.addr 0 e → u.reg a = v.reg a := by
  subst hu
  have hctl : ∀ e : Fin 4, F.TUN_CTL_RUNNING.addr 0 0 ≠ F.TUN_STAT_STATE.addr 0 e := by decide
  have hwidth : F.TUN_CTL_RUNNING.hi - F.TUN_CTL_RUNNING.lo + 1 = 4 := rfl
  refine ⟨?_, ?_, ?_, ?_, fun a hrun hstat => ?_⟩
  · rw [Work.get_put_addr _ _ _ _ _ _ _ _ (hctl e), Work.get_put_same _ _ _ _ _ (by decide), hwidth, bitOf_mod _ _ _ e.isLt, bitOf_setBit_same]
  · rw [Work.get_put_same _ _ _ _ _ (by decide)]
    rfl
  · rw [Work.tunEng_put, Work.tunEng_put]
  · rw [Work.put_wr, Work.put_wr]
  · rw [Work.reg_put_ne _ F.TUN_STAT_STATE _ 0 e a hstat, Work.reg_put_ne _ F.TUN_CTL_RUNNING _ 0 0 a hrun]

theorem Work.holdBlock_tun (e : Fin 4) (hsess : w.img.sess = none) (hmode : w.modeReq = none) (hcmd : w.pwr.cmd = none) :
    (w.holdBlock e).tunEng e = { w.tunEng e with port := Port.init, held := true, wdog := none, fitted := 0 } ∧
      bitOf ((w.holdBlock e).get F.TUN_CTL_RUNNING) e = false ∧ (w.holdBlock e).get F.TUN_STAT_STATE 0 e = 0 ∧
      (w.holdBlock e).wr = w.wr ∧
      ∀ a, a ∉ [R.TUN_CTL.addr 0 0, R.TUN_STAT.addr 0 e] ++ mashStats → (w.holdBlock e).reg a = w.reg a := by
  obtain ⟨htun, hwr, hreg⟩ := w.portReset_tun e hsess hmode hcmd
  unfold Work.holdBlock
  rw [if_pos e.isLt]
  obtain ⟨v, hv⟩ : ∃ v, v = (w.portReset (.tun e)).modTun e (fun t => { t with held := true, wdog := none, fitted := 0 }) := ⟨_, rfl⟩
  dsimp only
  rw [← hv]
  obtain ⟨hrunning, hstate, htun', hwr', hreg'⟩ := Work.stopShown v e _ rfl
  refine ⟨?_, hrunning, hstate, ?_, fun a ha => ?_⟩
  · rw [htun', hv, Work.tunEng_modTun, htun]
  · rw [hwr', hv, Work.wr_modTun, hwr]
  · simp only [List.mem_append, List.mem_cons, List.not_mem_nil, or_false, not_or] at ha
    obtain ⟨⟨hctl, hstat⟩, hmash⟩ := ha
    rw [hreg' a hctl hstat, hv, Work.reg_modTun, hreg a hstat hmash]

/-- A host port with nothing on its way. -/
def Work.hostQuiet (w : Work) : Work := { w with host := { w.host with widthPend := none, out := [], held := none } }

theorem Work.hostQuiet_shows : w.hostQuiet.host.port = w.host.port ∧ w.hostQuiet.host.widthPend = none ∧ w.hostQuiet.host.held = none ∧
    w.hostQuiet.wr = w.wr ∧ ∀ a, w.hostQuiet.reg a = w.reg a := ⟨rfl, rfl, rfl, rfl, fun _ => rfl⟩

theorem Work.holdBlock_host (hsess : w.img.sess = none) (hmode : w.modeReq = none) (hcmd : w.pwr.cmd = none) :
    (w.holdBlock 4).host.port = Port.init ∧ (w.holdBlock 4).host.widthPend = none ∧ (w.holdBlock 4).host.held = none ∧
      (w.holdBlock 4).wr = w.wr ∧ ∀ a, a ∉ hostRegs → a ∉ mashStats → (w.holdBlock 4).reg a = w.reg a := by
  obtain ⟨hport, hwr, -, hreg⟩ := w.portReset_host hsess hmode hcmd
  have heq : w.holdBlock 4 = (w.portReset .host).hostQuiet := rfl
  obtain ⟨hport', hwidth, hheld, hwr', hreg'⟩ := (w.portReset .host).hostQuiet_shows
  rw [heq]
  exact ⟨hport'.trans hport, hwidth, hheld, hwr'.trans hwr, fun a hhost hmash => (hreg' a).trans (hreg a hhost hmash)⟩

/-- The ports of the fabric with their links down. -/
def Work.portsDown (w : Work) : Work :=
  [0, 1, 2].foldl (fun w p => (w.putFlag F.RHL_PORT_LINK false 0 p).putFlag F.RHL_PORT_HOLD false 0 p) w

theorem Work.portsDown_shows :
    (∀ p : Fin 3, w.portsDown.flag F.RHL_PORT_LINK 0 p = false ∧ w.portsDown.flag F.RHL_PORT_HOLD 0 p = false) ∧
      w.portsDown.fab = w.fab ∧ w.portsDown.wr = w.wr ∧
      ∀ a, a ∉ (List.range 3).map (fun p => R.RHL_PORT.addr 0 p) → w.portsDown.reg a = w.reg a := by
  have heq : w.portsDown = w.puts [(F.RHL_PORT_LINK, 0, 0, 0), (F.RHL_PORT_HOLD, 0, 0, 0), (F.RHL_PORT_LINK, 0, 0, 1), (F.RHL_PORT_HOLD, 0, 0, 1),
      (F.RHL_PORT_LINK, 0, 0, 2), (F.RHL_PORT_HOLD, 0, 0, 2)] := rfl
  have hlink : ∀ p : Fin 3, w.portsDown.get F.RHL_PORT_LINK 0 p = 0 ∧ w.portsDown.get F.RHL_PORT_HOLD 0 p = 0 := by
    intro p
    rw [heq]
    fin_cases p
    · exact ⟨w.get_puts _ 0 _ 0 0 0 rfl (by decide) (by decide), w.get_puts _ 1 _ 0 0 0 rfl (by decide) (by decide)⟩
    · exact ⟨w.get_puts _ 2 _ 0 0 1 rfl (by decide) (by decide), w.get_puts _ 3 _ 0 0 1 rfl (by decide) (by decide)⟩
    · exact ⟨w.get_puts _ 4 _ 0 0 2 rfl (by decide) (by decide), w.get_puts _ 5 _ 0 0 2 rfl (by decide) (by decide)⟩
  refine ⟨fun p => ?_, ?_, ?_, fun a ha => ?_⟩
  · obtain ⟨hl, hh⟩ := hlink p
    unfold Work.flag
    rw [hl, hh]
    exact ⟨rfl, rfl⟩
  · unfold Work.portsDown
    simp only [List.foldl_cons, List.foldl_nil, Work.putFlag_eq, Work.put_fab]
  · rw [heq, Work.puts_wr]
  · rw [heq]
    exact w.reg_puts_none _ ((List.range 3).map (fun p => R.RHL_PORT.addr 0 p)) a rfl ha

/-- The fabric with nothing on its way and no routes. -/
def Work.fabQuiet (w : Work) : Work :=
  { w with fab := { w.fab with ports := List.replicate 3 FabPort.init, shakes := [], wrapQ := [], wrapRun := none, routes := none } }

theorem Work.fabQuiet_shows (f : Fab) (h : w.fab = f) :
    w.fabQuiet.fab = { f with ports := List.replicate 3 FabPort.init, shakes := [], wrapQ := [], wrapRun := none, routes := none } ∧
      w.fabQuiet.wr = w.wr ∧ ∀ a, w.fabQuiet.reg a = w.reg a := by
  subst h
  exact ⟨rfl, rfl, fun _ => rfl⟩

/-- The fabric block at rest, but for what it leaves the lock. -/
def Work.fabRest (w : Work) : Work := (w.portReset (.fabric 0)).portsDown.fabQuiet.put F.RHL_STAT_STATE 0

theorem Work.holdBlock_fab (hsess : w.img.sess = none) (hsrc : w.fabRest.get F.SYS_TICK_CFG_LOCK_SRC ≠ 1) : w.holdBlock 5 = w.fabRest := by
  unfold Work.holdBlock
  rw [if_neg (by decide)]
  simp only [hsess]
  exact if_neg (fun h => hsrc h.1)

theorem rhlPort_apart (p : Fin 3) : F.RHL_PORT_LINK.addr 0 p ≠ F.RHL_STAT_STATE.addr 0 0 := by decide +revert

theorem Work.fabRest_shows (hsess : w.img.sess = none) (hmode : w.modeReq = none) (hcmd : w.pwr.cmd = none) :
    w.fabRest.get F.RHL_STAT_STATE = 0 ∧
      w.fabRest.fab = { w.fab with port := Port.init, ports := List.replicate 3 FabPort.init, shakes := [], wrapQ := [], wrapRun := none, routes := none } ∧
      (∀ p : Fin 3, w.fabRest.flag F.RHL_PORT_LINK 0 p = false ∧ w.fabRest.flag F.RHL_PORT_HOLD 0 p = false) ∧ w.fabRest.wr = w.wr ∧
      ∀ a, a ≠ R.RHL_STAT.addr 0 0 → a ∉ (List.range 3).map (fun p => R.RHL_PORT.addr 0 p) → a ∉ mashStats → w.fabRest.reg a = w.reg a := by
  obtain ⟨hfab, hwr, -, hreg⟩ := w.portReset_fabric hsess hmode hcmd
  obtain ⟨hdown, hfab', hwr', hreg'⟩ := (w.portReset (.fabric 0)).portsDown_shows
  obtain ⟨hquiet, hwr'', hreg''⟩ := (w.portReset (.fabric 0)).portsDown.fabQuiet_shows _ (hfab'.trans hfab)
  have hflag : ∀ (f : Fld) (p : Fin 3), f.base = R.RHL_PORT.base → f.stride = R.RHL_PORT.stride →
      w.fabRest.flag f 0 p = (w.portReset (.fabric 0)).portsDown.flag f 0 p := by
    intro f p hbase hstride
    have haddr : f.addr 0 p = F.RHL_PORT_LINK.addr 0 p := by
      unfold Fld.addr
      rw [hbase, hstride]
      rfl
    unfold Work.flag Work.get Work.fabRest
    rw [haddr, Work.reg_put_ne _ F.RHL_STAT_STATE 0 0 0 _ (rhlPort_apart p), hreg'']
  refine ⟨?_, ?_, fun p => ?_, ?_, fun a hstat hports hmash => ?_⟩
  · unfold Work.fabRest
    rw [Work.get_put_same _ _ _ _ _ (by decide)]
    rfl
  · unfold Work.fabRest
    rw [Work.put_fab, hquiet]
  · obtain ⟨hl, hh⟩ := hdown p
    exact ⟨(hflag F.RHL_PORT_LINK p rfl rfl).trans hl, (hflag F.RHL_PORT_HOLD p rfl rfl).trans hh⟩
  · unfold Work.fabRest
    rw [Work.put_wr, hwr'', hwr', hwr]
  · unfold Work.fabRest
    rw [Work.reg_put_ne _ F.RHL_STAT_STATE 0 0 0 a hstat, hreg'', hreg' a hports, hreg a hmash]

theorem Work.holdBlock_pair : (w.holdBlock 6).pair = { w.pair with release := union w.pair.release w.activeMask, leadOut := true, hand := [] } ∧
    (w.holdBlock 6).wr = w.wr ∧ ∀ a, (w.holdBlock 6).reg a = w.reg a := by
  have heq : w.holdBlock 6 = (w.releaseAll).modPair (fun p => { p with leadOut := true, hand := [] }) := rfl
  rw [heq]
  unfold Work.releaseAll
  rw [Work.modPair_pair, Work.modPair_pair, Work.modPair_wr, Work.modPair_wr]
  exact ⟨rfl, rfl, fun a => by rw [Work.reg_modPair, Work.reg_modPair]⟩

/-- The network ports with their links down, and PTP stopped. -/
def Work.netRest (w : Work) : Work := w.puts [(F.NET_PORT_LINK, 0, 0, 0), (F.NET_PORT_LINK, 0, 0, 1), (F.NET_PTP_STAT_STATE, 0, 0, 0)]

theorem Work.holdBlock_net : w.holdBlock 7 =
    if w.netRest.get F.SYS_TICK_CFG_LOCK_SRC = 2 ∧ (w.netRest.lockState = lkAcquire ∨ w.netRest.lockState = lkLocked) then
      (w.netRest.setLock lkHoldover).lockEntry else w.netRest := rfl

/-- Registers of the network block's links and of PTP. -/
def netLinkRegs : List Nat := [R.NET_PORT.addr 0 0, R.NET_PORT.addr 0 1, R.NET_PTP_STAT.addr 0 0]

theorem Work.netRest_shows : (∀ p : Fin 2, w.netRest.flag F.NET_PORT_LINK 0 p = false) ∧ w.netRest.get F.NET_PTP_STAT_STATE = 0 ∧
    w.netRest.wr = w.wr ∧ w.netRest.dring = w.dring ∧ ∀ a, a ∉ netLinkRegs → w.netRest.reg a = w.reg a := by
  have hlink : ∀ p : Fin 2, w.netRest.get F.NET_PORT_LINK 0 p = 0 := by
    intro p
    unfold Work.netRest
    fin_cases p
    · exact w.get_puts _ 0 _ 0 0 0 rfl (by decide) (by decide)
    · exact w.get_puts _ 1 _ 0 0 1 rfl (by decide) (by decide)
  refine ⟨fun p => ?_, ?_, ?_, ?_, fun a ha => ?_⟩
  · unfold Work.flag
    rw [hlink]
    rfl
  · exact w.get_puts _ 2 _ 0 0 0 rfl (by decide) (by decide)
  · exact w.puts_wr _
  · unfold Work.netRest Work.puts
    simp only [List.foldl_cons, List.foldl_nil, Work.put_dring]
  · exact w.reg_puts_none _ netLinkRegs a rfl ha

theorem Work.holdBlock_steep : (w.holdBlock 8).flag F.STEEP_STAT_BORROWED = false ∧ (w.holdBlock 8).get F.STEEP_STAT_PHASE = 0 ∧
    (w.holdBlock 8).memsys = w.memsys ∧ (w.holdBlock 8).wr = w.wr ∧ ∀ a, a ≠ R.STEEP_STAT.addr 0 0 → (w.holdBlock 8).reg a = w.reg a := by
  have heq : w.holdBlock 8 = (w.put F.STEEP_STAT_BORROWED 0).put F.STEEP_STAT_PHASE 0 := rfl
  rw [heq]
  refine ⟨?_, ?_, ?_, ?_, fun a ha => ?_⟩
  · rw [Work.flag_put_apart _ _ _ _ _ rfl, Work.flag_put_same _ _ _ _ _ rfl]
    rfl
  · rw [Work.get_put_same _ _ _ _ _ (by decide)]
    rfl
  · rw [Work.put_memsys, Work.put_memsys]
  · rw [Work.put_wr, Work.put_wr]
  · rw [Work.reg_put_ne _ F.STEEP_STAT_PHASE 0 0 0 a ha, Work.reg_put_ne _ F.STEEP_STAT_BORROWED 0 0 0 a ha]

end

end Sys2Proof.Machine
end


section
/-! PROOF. The seven holds of blocks, as commands (R396). -/
namespace Sys2Proof.Machine

section
variable (s : State)

theorem Work.toDev_host (w : Work) : w.toDev.host = w.host := rfl

theorem State.run_tunEng (f : Work → Work) (e : Nat) : (s.run f).work.tunEng e = (f s.work).tunEng e := id rfl

theorem State.blkSet_img (bit : Nat) (b : Bool) : (s.blkSet bit b).img = s.dev.img := by
  unfold State.blkSet
  rw [Work.setReg_img]
  rfl

theorem State.blkSet_modeReq (bit : Nat) (b : Bool) : (s.blkSet bit b).modeReq = s.dev.modeReq := by
  unfold State.blkSet
  rw [Work.setReg_modeReq]
  rfl

theorem State.blkSet_pwr (bit : Nat) (b : Bool) : (s.blkSet bit b).pwr = s.dev.pwr := by
  unfold State.blkSet
  rw [Work.setReg_pwr]
  rfl

theorem State.blkSet_fab (bit : Nat) (b : Bool) : (s.blkSet bit b).fab = s.dev.fab := by
  unfold State.blkSet
  rw [Work.setReg_fab]
  rfl

theorem State.blkSet_pair (bit : Nat) (b : Bool) : (s.blkSet bit b).pair = s.dev.pair := by
  unfold State.blkSet
  rw [Work.setReg_pair]
  rfl

theorem State.blkSet_memsys (bit : Nat) (b : Bool) : (s.blkSet bit b).memsys = s.dev.memsys := by
  unfold State.blkSet
  rw [Work.setReg_memsys]
  rfl

theorem State.blkSet_dring (bit : Nat) (b : Bool) : (s.blkSet bit b).dring = s.dev.dring := by
  unfold State.blkSet
  rw [Work.setReg_dring]
  rfl

theorem State.blkSet_tunEng (bit : Nat) (b : Bool) (e : Nat) : (s.blkSet bit b).tunEng e = s.work.tunEng e := by
  refine Work.tunEng_of_tun _ ?_ e
  unfold State.blkSet
  rw [Work.setReg_tun]

end

section
variable (s : State) (bit : Nat) (hbit : bit < 9)
  (haccept : s.accepts (R.SYS_BLK_RST.addr 0 0) (setBit (s.reg (R.SYS_BLK_RST.addr 0 0)) bit true) = true)
  (hclear : bitOf (s.reg (R.SYS_BLK_RST.addr 0 0)) bit = false)
include hbit haccept hclear

theorem State.hold_run : s.work.bitWrite (R.SYS_BLK_RST.addr 0 0) bit true = (s.blkSet bit true).holdBlock bit :=
  (s.bitWrite_blkRst bit true hbit haccept hclear).trans (if_pos rfl)

/-- A block's hold, seen from the state: the bit reads 1, and what the hold leaves alone reads what it read. -/
theorem State.hold_frame (regs : List Nat) (hself : R.SYS_BLK_RST.addr 0 0 ∉ regs)
    (hreg : ∀ a, a ∉ regs → ((s.blkSet bit true).holdBlock bit).reg a = (s.blkSet bit true).reg a) :
    bitOf ((s.run (fun w => w.bitWrite (R.SYS_BLK_RST.addr 0 0) bit true)).reg (R.SYS_BLK_RST.addr 0 0)) bit = true ∧
      s.sameRegs (s.run (fun w => w.bitWrite (R.SYS_BLK_RST.addr 0 0) bit true)) (R.SYS_BLK_RST.addr 0 0 :: regs) := by
  have hrun := s.hold_run bit hbit haccept hclear
  refine ⟨?_, fun a ha => ?_⟩
  · rw [State.run_reg, hrun, hreg _ hself, s.bitOf_blkSet bit true hbit]
  · simp only [List.mem_cons, not_or] at ha
    obtain ⟨hne, hout⟩ := ha
    rw [State.run_reg, hrun, hreg a hout, s.reg_blkSet bit true a hne]

end

theorem blkRst_notMash : R.SYS_BLK_RST.addr 0 0 ∉ mashStats := by decide

section
variable (s : State)

/-- A Tun engine held (R307, R329). -/
theorem blockResets_tun (e : Fin 4)
    (haccept : s.accepts (R.SYS_BLK_RST.addr 0 0) (setBit (s.reg (R.SYS_BLK_RST.addr 0 0)) e true) = true)
    (hclear : bitOf (s.reg (R.SYS_BLK_RST.addr 0 0)) e = false) (hsess : s.dev.img.sess = none) (hmode : s.dev.modeReq = none)
    (hcmd : s.dev.pwr.cmd = none) (t : State) (ht : t = s.run (fun w => w.bitWrite (R.SYS_BLK_RST.addr 0 0) e true)) :
    bitOf (t.reg (R.SYS_BLK_RST.addr 0 0)) e = true ∧ (t.work.tunEng e).held = true ∧
      (t.work.tunEng e).port = Port.init ∧ (t.work.tunEng e).wdog = none ∧
      (t.work.tunEng e).outSets = (s.work.tunEng e).outSets ∧ bitOf (t.get F.TUN_CTL_RUNNING) e = false ∧
      t.get F.TUN_STAT_STATE 0 e = 0 ∧
      s.sameRegs t ([R.SYS_BLK_RST.addr 0 0, R.TUN_CTL.addr 0 0, R.TUN_STAT.addr 0 e] ++ (List.range 8).map (fun n => R.MASH_STAT.addr n 0)) ∧
      t.mem = s.mem := by
  subst ht
  have hbit : e.val < 9 := by omega
  have hself : ∀ e : Fin 4, R.SYS_BLK_RST.addr 0 0 ∉ [R.TUN_CTL.addr 0 0, R.TUN_STAT.addr 0 e] ++ mashStats := by decide
  obtain ⟨htun, hrunning, hstate, hwr, hreg⟩ := (s.blkSet e true).holdBlock_tun e (by rw [s.blkSet_img, hsess])
    (by rw [s.blkSet_modeReq, hmode]) (by rw [s.blkSet_pwr, hcmd])
  have hrun := s.hold_run e hbit haccept hclear
  obtain ⟨hset, hframe⟩ := s.hold_frame e hbit haccept hclear _ (hself e) hreg
  rw [State.run_tunEng, hrun, htun, s.blkSet_tunEng]
  refine ⟨hset, rfl, rfl, rfl, rfl, ?_, ?_, hframe, s.run_mem_of_wr _ ?_⟩
  · rw [State.run_get, hrun, hrunning]
  · rw [State.run_get, hrun, hstate]
  · rw [hrun, hwr, State.wr_blkSet]

/-- The host port held (R307). -/
theorem blockResets_host
    (haccept : s.accepts (R.SYS_BLK_RST.addr 0 0) (setBit (s.reg (R.SYS_BLK_RST.addr 0 0)) 4 true) = true)
    (hclear : bitOf (s.reg (R.SYS_BLK_RST.addr 0 0)) 4 = false) (hsess : s.dev.img.sess = none) (hmode : s.dev.modeReq = none)
    (hcmd : s.dev.pwr.cmd = none) (t : State) (ht : t = s.run (fun w => w.bitWrite (R.SYS_BLK_RST.addr 0 0) 4 true)) :
    bitOf (t.reg (R.SYS_BLK_RST.addr 0 0)) 4 = true ∧ t.dev.host.port = Port.init ∧ t.dev.host.widthPend = none ∧
      t.dev.host.held = none ∧ t.work.hostDeaf = true ∧
      s.sameRegs t (R.SYS_BLK_RST.addr 0 0 :: hostRegs ++ (List.range 8).map (fun n => R.MASH_STAT.addr n 0)) ∧
      t.mem = s.mem := by
  subst ht
  have hself : R.SYS_BLK_RST.addr 0 0 ∉ hostRegs ++ mashStats := by decide
  obtain ⟨hport, hwidth, hheld, hwr, hreg⟩ := (s.blkSet 4 true).holdBlock_host (by rw [s.blkSet_img, hsess])
    (by rw [s.blkSet_modeReq, hmode]) (by rw [s.blkSet_pwr, hcmd])
  have hreg' : ∀ a, a ∉ hostRegs ++ mashStats → ((s.blkSet 4 true).holdBlock 4).reg a = (s.blkSet 4 true).reg a := by
    intro a ha
    simp only [List.mem_append, not_or] at ha
    exact hreg a ha.1 ha.2
  have hrun := s.hold_run 4 (by decide) haccept hclear
  obtain ⟨hset, hframe⟩ := s.hold_frame 4 (by decide) haccept hclear _ hself hreg'
  have hdeaf : (s.run (fun w => w.bitWrite (R.SYS_BLK_RST.addr 0 0) 4 true)).flag F.SYS_BLK_RST_HOST = true := by
    rw [State.run_flag, hrun]
    unfold Work.flag Work.get
    rw [hreg' (F.SYS_BLK_RST_HOST.addr 0 0) hself]
    exact s.flag_blkSet 4 true F.SYS_BLK_RST_HOST rfl rfl rfl (by decide)
  refine ⟨hset, ?_, ?_, ?_, ?_, hframe, s.run_mem_of_wr _ ?_⟩
  · rw [State.run_dev, hrun, Work.toDev_host, hport]
  · rw [State.run_dev, hrun, Work.toDev_host, hwidth]
  · rw [State.run_dev, hrun, Work.toDev_host, hheld]
  · unfold Work.hostDeaf
    rw [State.work_flag, hdeaf, Bool.or_true]
  · rw [hrun, hwr, State.wr_blkSet]

theorem tickCfg_notFab : F.SYS_TICK_CFG_LOCK_SRC.addr 0 0 ∉ (List.range 3).map (fun p => R.RHL_PORT.addr 0 p) ∧
    F.SYS_TICK_CFG_LOCK_SRC.addr 0 0 ∉ mashStats := by decide

/-- The fabric block held. -/
theorem blockResets_fabric
    (haccept : s.accepts (R.SYS_BLK_RST.addr 0 0) (setBit (s.reg (R.SYS_BLK_RST.addr 0 0)) 5 true) = true)
    (hclear : bitOf (s.reg (R.SYS_BLK_RST.addr 0 0)) 5 = false) (hsess : s.dev.img.sess = none) (hmode : s.dev.modeReq = none)
    (hcmd : s.dev.pwr.cmd = none) (hsrc : s.get F.SYS_TICK_CFG_LOCK_SRC ≠ 1) (t : State)
    (ht : t = s.run (fun w => w.bitWrite (R.SYS_BLK_RST.addr 0 0) 5 true)) :
    bitOf (t.reg (R.SYS_BLK_RST.addr 0 0)) 5 = true ∧ t.get F.RHL_STAT_STATE = 0 ∧
      t.dev.fab = { s.dev.fab with port := Port.init, ports := List.replicate 3 FabPort.init, shakes := [], wrapQ := [], wrapRun := none, routes := none } ∧
      (∀ p : Fin 3, t.flag F.RHL_PORT_LINK 0 p = false ∧ t.flag F.RHL_PORT_HOLD 0 p = false) ∧
      s.sameRegs t ([R.SYS_BLK_RST.addr 0 0, R.RHL_STAT.addr 0 0] ++ (List.range 3).map (fun p => R.RHL_PORT.addr 0 p) ++ (List.range 8).map (fun n => R.MASH_STAT.addr n 0)) ∧
      t.mem = s.mem := by
  subst ht
  have hself : R.SYS_BLK_RST.addr 0 0 ∉ [R.RHL_STAT.addr 0 0] ++ (List.range 3).map (fun p => R.RHL_PORT.addr 0 p) ++ mashStats := by decide
  have hsess' : (s.blkSet 5 true).img.sess = none := by rw [s.blkSet_img, hsess]
  obtain ⟨hstate, hfab, hports, hwr, hreg⟩ := (s.blkSet 5 true).fabRest_shows hsess' (by rw [s.blkSet_modeReq, hmode]) (by rw [s.blkSet_pwr, hcmd])
  obtain ⟨hnotPorts, hnotMash⟩ := tickCfg_notFab
  have hlock : (s.blkSet 5 true).fabRest.get F.SYS_TICK_CFG_LOCK_SRC ≠ 1 := by
    unfold Work.get
    rw [hreg _ (by decide) hnotPorts hnotMash]
    exact fun h => hsrc ((s.get_blkSet 5 true F.SYS_TICK_CFG_LOCK_SRC 0 0 (by decide)).symm.trans h)
  have hhold := (s.blkSet 5 true).holdBlock_fab hsess' hlock
  have hrun := (s.hold_run 5 (by decide) haccept hclear).trans hhold
  obtain ⟨hset, hframe⟩ := s.hold_frame 5 (by decide) haccept hclear _ hself (fun a ha => by
    simp only [List.mem_append, List.mem_singleton, not_or] at ha
    rw [hhold]
    exact hreg a ha.1.1 ha.1.2 ha.2)
  refine ⟨hset, ?_, ?_, fun p => ?_, hframe, s.run_mem_of_wr _ ?_⟩
  · rw [State.run_get, hrun, hstate]
  · rw [State.run_dev, hrun, Work.toDev_fab, hfab, s.blkSet_fab]
  · rw [State.run_flag, State.run_flag, hrun]
    exact hports p
  · rw [hrun, hwr, State.wr_blkSet]

/-- The pair block held. -/
theorem blockResets_pair
    (haccept : s.accepts (R.SYS_BLK_RST.addr 0 0) (setBit (s.reg (R.SYS_BLK_RST.addr 0 0)) 6 true) = true)
    (hclear : bitOf (s.reg (R.SYS_BLK_RST.addr 0 0)) 6 = false) (t : State)
    (ht : t = s.run (fun w => w.bitWrite (R.SYS_BLK_RST.addr 0 0) 6 true)) :
    bitOf (t.reg (R.SYS_BLK_RST.addr 0 0)) 6 = true ∧
      t.dev.pair = { s.dev.pair with release := union s.dev.pair.release s.work.activeMask, leadOut := true, hand := [] } ∧
      s.sameRegs t [R.SYS_BLK_RST.addr 0 0] ∧ t.mem = s.mem := by
  subst ht
  obtain ⟨hpair, hwr, hreg⟩ := (s.blkSet 6 true).holdBlock_pair
  have hrun := s.hold_run 6 (by decide) haccept hclear
  have hactive : (s.blkSet 6 true).activeMask = s.work.activeMask := s.get_blkSet 6 true F.PAIR_STAT_ACTIVE 0 0 (by decide)
  obtain ⟨hset, hframe⟩ := s.hold_frame 6 (by decide) haccept hclear [] List.not_mem_nil (fun a _ => hreg a)
  refine ⟨hset, ?_, hframe, s.run_mem_of_wr _ ?_⟩
  · rw [State.run_dev, hrun, Work.toDev_pair, hpair, s.blkSet_pair, hactive]
  · rw [hrun, hwr, State.wr_blkSet]

/-- The lock's state and source, which the network block does not show. -/
theorem tick_notNet : F.SYS_TICK_CFG_LOCK_SRC.addr 0 0 ∉ netLinkRegs ∧ F.SYS_TICK_STAT_LOCK_STATE.addr 0 0 ∉ netLinkRegs ∧
    F.SYS_TICK_CFG_LOCK_SRC.addr 0 0 ≠ R.SYS_BLK_RST.addr 0 0 ∧ F.SYS_TICK_STAT_LOCK_STATE.addr 0 0 ≠ R.SYS_BLK_RST.addr 0 0 := by decide

theorem State.get_netRest (f : Fld) (hnet : f.addr 0 0 ∉ netLinkRegs) (hself : f.addr 0 0 ≠ R.SYS_BLK_RST.addr 0 0) :
    (s.blkSet 7 true).netRest.get f = s.get f := by
  obtain ⟨-, -, -, -, hreg⟩ := (s.blkSet 7 true).netRest_shows
  refine Eq.trans ?_ (s.get_blkSet 7 true f 0 0 hself)
  unfold Work.get
  rw [hreg _ hnet]

/-- The network block held, where the lock does not stand on it. -/
theorem blockResets_net
    (haccept : s.accepts (R.SYS_BLK_RST.addr 0 0) (setBit (s.reg (R.SYS_BLK_RST.addr 0 0)) 7 true) = true)
    (hclear : bitOf (s.reg (R.SYS_BLK_RST.addr 0 0)) 7 = false) (hsrc : s.get F.SYS_TICK_CFG_LOCK_SRC ≠ 2) (t : State)
    (ht : t = s.run (fun w => w.bitWrite (R.SYS_BLK_RST.addr 0 0) 7 true)) :
    bitOf (t.reg (R.SYS_BLK_RST.addr 0 0)) 7 = true ∧ (∀ p : Fin 2, t.flag F.NET_PORT_LINK 0 p = false) ∧
      t.get F.NET_PTP_STAT_STATE = 0 ∧
      s.sameRegs t [R.SYS_BLK_RST.addr 0 0, R.NET_PORT.addr 0 0, R.NET_PORT.addr 0 1, R.NET_PTP_STAT.addr 0 0] ∧
      t.mem = s.mem := by
  subst ht
  obtain ⟨hlink, hptp, hwr, -, hreg⟩ := (s.blkSet 7 true).netRest_shows
  obtain ⟨hcfg, -, hcfg', -⟩ := tick_notNet
  have hhold : (s.blkSet 7 true).holdBlock 7 = (s.blkSet 7 true).netRest :=
    (s.blkSet 7 true).holdBlock_net.trans (if_neg (fun h => hsrc ((s.get_netRest _ hcfg hcfg').symm.trans h.1)))
  have hrun := (s.hold_run 7 (by decide) haccept hclear).trans hhold
  obtain ⟨hset, hframe⟩ := s.hold_frame 7 (by decide) haccept hclear netLinkRegs (by decide) (fun a ha => by
    rw [hhold]
    exact hreg a ha)
  refine ⟨hset, fun p => ?_, ?_, hframe, s.run_mem_of_wr _ ?_⟩
  · rw [State.run_flag, hrun, hlink]
  · rw [State.run_get, hrun, hptp]
  · rw [hrun, hwr, State.wr_blkSet]

/-- The lock in holdover, with its entry, and the ring's memory beside. -/
theorem Work.holdover_shows (w u : Work) (hu : u = (w.setLock lkHoldover).lockEntry) :
    u.get F.SYS_TICK_STAT_LOCK_STATE = lkHoldover ∧
      (∀ a, a ≠ R.SYS_TICK_STAT.addr 0 0 → a ∉ ringRegs devRing → u.reg a = w.reg a) ∧
      ∃ (v : Work) (e : Entry), u.wr = (v.raiseEntry devRing e).wr ∧ v.wr = w.wr ∧ v.dring = w.dring := by
  subst hu
  unfold Work.lockEntry Work.setLock
  obtain ⟨-, hget, hreg, v, e, hwr, hvwr, hvdring⟩ :=
    ((w.put F.SYS_TICK_STAT_LOCK_STATE lkHoldover).modLock (fun l => { l with inRow := 0 })).entryOpen_shows 0x81
  refine ⟨?_, fun a hstat hring => ?_, v, e, hwr, ?_, ?_⟩
  · rw [hget _ (by decide), Work.get_modLock, Work.get_put_same _ _ _ _ _ (by decide)]
    rfl
  · rw [hreg a hring, Work.reg_modLock, Work.reg_put_ne _ F.SYS_TICK_STAT_LOCK_STATE _ 0 0 a hstat]
  · rw [hvwr, Work.modLock_wr, Work.put_wr]
  · rw [hvdring, Work.modLock_dring, Work.put_dring]

/-- The network block held, where the lock stands on it. -/
theorem blockResets_netLock
    (haccept : s.accepts (R.SYS_BLK_RST.addr 0 0) (setBit (s.reg (R.SYS_BLK_RST.addr 0 0)) 7 true) = true)
    (hclear : bitOf (s.reg (R.SYS_BLK_RST.addr 0 0)) 7 = false) (hsrc : s.get F.SYS_TICK_CFG_LOCK_SRC = 2)
    (hlocked : s.work.lockState = lkLocked) (t : State) (ht : t = s.run (fun w => w.bitWrite (R.SYS_BLK_RST.addr 0 0) 7 true)) :
    bitOf (t.reg (R.SYS_BLK_RST.addr 0 0)) 7 = true ∧ t.get F.SYS_TICK_STAT_LOCK_STATE = lkHoldover ∧
      s.sameRegs t ([R.SYS_BLK_RST.addr 0 0, R.NET_PORT.addr 0 0, R.NET_PORT.addr 0 1, R.NET_PTP_STAT.addr 0 0, R.SYS_TICK_STAT.addr 0 0] ++ ringRegs devRing) ∧
      s.sameMemButNext t devRing := by
  subst ht
  obtain ⟨-, -, hwr, hdring, hreg⟩ := (s.blkSet 7 true).netRest_shows
  obtain ⟨hcfg, hstat, hcfg', hstat'⟩ := tick_notNet
  have hstate : (s.blkSet 7 true).netRest.lockState = lkLocked := (s.get_netRest _ hstat hstat').trans hlocked
  have hhold : (s.blkSet 7 true).holdBlock 7 = ((s.blkSet 7 true).netRest.setLock lkHoldover).lockEntry :=
    (s.blkSet 7 true).holdBlock_net.trans (if_pos ⟨(s.get_netRest _ hcfg hcfg').trans hsrc, .inr hstate⟩)
  have hrun := (s.hold_run 7 (by decide) haccept hclear).trans hhold
  obtain ⟨hover, hreg', v, e, hwr', hvwr, hvdring⟩ := (s.blkSet 7 true).netRest.holdover_shows _ rfl
  obtain ⟨hset, hframe⟩ := s.hold_frame 7 (by decide) haccept hclear (netLinkRegs ++ [R.SYS_TICK_STAT.addr 0 0] ++ ringRegs devRing) (by decide)
    (fun a ha => by
      simp only [List.mem_append, List.mem_singleton, not_or] at ha
      obtain ⟨⟨hnet, htick⟩, hring⟩ := ha
      rw [hhold, hreg' a htick hring, hreg a hnet])
  refine ⟨hset, ?_, hframe, s.sameMemButNext_devRing _ v e ?_ ?_ ?_⟩
  · rw [State.run_get, hrun, hover]
  · rw [hrun, hwr']
  · rw [hvwr, hwr, State.wr_blkSet]
  · rw [hvdring, hdring, s.blkSet_dring]

/-- Steep's block held. -/
theorem blockResets_steep
    (haccept : s.accepts (R.SYS_BLK_RST.addr 0 0) (setBit (s.reg (R.SYS_BLK_RST.addr 0 0)) 8 true) = true)
    (hclear : bitOf (s.reg (R.SYS_BLK_RST.addr 0 0)) 8 = false) (t : State)
    (ht : t = s.run (fun w => w.bitWrite (R.SYS_BLK_RST.addr 0 0) 8 true)) :
    bitOf (t.reg (R.SYS_BLK_RST.addr 0 0)) 8 = true ∧ t.flag F.STEEP_STAT_BORROWED = false ∧
      t.get F.STEEP_STAT_PHASE = 0 ∧ t.dev.memsys = s.dev.memsys ∧
      s.sameRegs t [R.SYS_BLK_RST.addr 0 0, R.STEEP_STAT.addr 0 0] ∧ t.mem = s.mem := by
  subst ht
  obtain ⟨hborrow, hphase, hmemsys, hwr, hreg⟩ := (s.blkSet 8 true).holdBlock_steep
  have hrun := s.hold_run 8 (by decide) haccept hclear
  obtain ⟨hset, hframe⟩ := s.hold_frame 8 (by decide) haccept hclear [R.STEEP_STAT.addr 0 0] (by decide)
    (fun a ha => hreg a (fun h => ha (List.mem_singleton.mpr h)))
  refine ⟨hset, ?_, ?_, ?_, hframe, s.run_mem_of_wr _ ?_⟩
  · rw [State.run_flag, hrun, hborrow]
  · rw [State.run_get, hrun, hphase]
  · rw [State.run_dev, hrun, Work.toDev_memsys, hmemsys, s.blkSet_memsys]
  · rw [hrun, hwr, State.wr_blkSet]

end

end Sys2Proof.Machine
end


section
/-! PROOF SUPPORT. Settings taken over from an image, and an engine checked (R4, R329, R396). -/
namespace Sys2Proof.Machine

/-! ### Settings of an image -/

theorem tabFind_none_of_notMem {α : Type} (t : Tab α) (k : Nat) (h : k ∉ t.map (·.1)) : tabFind t k = none := by
  induction t with
  | nil => rfl
  | cons p t ih =>
    obtain ⟨k', v⟩ := p
    simp only [List.map_cons, List.mem_cons, not_or] at h
    obtain ⟨hne, hrest⟩ := h
    exact (if_neg (Ne.symm hne)).trans (ih hrest)

/-- A setting that stands is taken over once. -/
theorem mergeAcc_idem (r : RegRow) (old new : Nat) (hrise : fieldsRise 0 r.fields = true) :
    mergeAcc setAcc r (mergeAcc setAcc r old new) new = mergeAcc setAcc r old new := by
  obtain ⟨-, hread, -⟩ := placeAll_spec (fun f => bitsOf (if setAcc f.acc then new else old) f.hi f.lo) r.fields 0 0 hrise (by decide)
  have hfield : ∀ f ∈ r.fields, bitsOf (mergeAcc setAcc r old new) f.hi f.lo = bitsOf (if setAcc f.acc then new else old) f.hi f.lo :=
    fun f hf => (hread f hf).trans (Nat.mod_eq_of_lt (bitsOf_lt _ _ _))
  have hsame : ∀ f ∈ r.fields, bitsOf (if setAcc f.acc then new else mergeAcc setAcc r old new) f.hi f.lo =
      bitsOf (if setAcc f.acc then new else old) f.hi f.lo := by
    intro f hf
    cases hset : setAcc f.acc
    · have := hfield f hf
      rw [hset] at this
      exact this
    · rfl
  have hfold : ∀ (old' : Nat), (∀ f ∈ r.fields, bitsOf (if setAcc f.acc then new else old') f.hi f.lo =
      bitsOf (if setAcc f.acc then new else old) f.hi f.lo) → mergeAcc setAcc r old' new = mergeAcc setAcc r old new := by
    intro old' h
    unfold mergeAcc
    refine List.foldl_ext _ _ _ fun acc f hf => ?_
    rw [h f hf]
  exact hfold _ hsame

/-- The registers of the network block that a row describes. -/
theorem rowsNET_of_rowAt (a : Nat) (r : RegRow) (k : Nat) (h : rowAt a = some (r, k)) (hlo : 0x40070000 ≤ a) (hhi : a < 0x40080000) :
    r ∈ rowsNET := by
  have hrows : blockRows a = rowsNET := by
    unfold blockRows
    rw [if_neg (by omega), if_neg (by omega), if_neg (by omega), if_neg (by omega), if_neg (by omega), if_neg (by omega), if_neg (by omega),
      if_neg (by omega), if_neg (by omega), if_pos hhi]
  unfold rowAt at h
  obtain ⟨r', hfind, heq⟩ := Option.map_eq_some_iff.mp h
  obtain rfl : r' = r := congrArg Prod.fst heq
  rw [← hrows]
  exact List.mem_of_find?_eq_some hfind

/-- A register of the network block resets to what its fields reset to. -/
def netResets (r : RegRow) : Bool :=
  let x := r.fields.foldl (fun acc f => acc + placeField f f.reset) 0
  decide (0x40070000 ≤ r.base) && mergeAcc setAcc r x x == x

theorem rowsNET_reset : rowsNET.all netResets = true := by decide +kernel

theorem mergeAcc_netReset (a : Nat) (r : RegRow) (k : Nat) (h : rowAt a = some (r, k)) (hlo : 0x40070000 ≤ a) (hhi : a < 0x40080000) :
    mergeAcc setAcc r (resetWord a) (resetWord a) = resetWord a := by
  have hall := List.all_eq_true.mp rowsNET_reset r (rowsNET_of_rowAt a r k h hlo hhi)
  simp only [netResets, Bool.and_eq_true, decide_eq_true_eq, beq_iff_eq] at hall
  obtain ⟨hbase, hfix⟩ := hall
  have hword : resetWord a = r.fields.foldl (fun acc f => acc + placeField f f.reset) 0 := by
    unfold resetWord
    rw [h]
    dsimp only
    rw [if_neg (by omega), if_neg (by omega), if_neg (by omega), if_neg (by omega)]
  rw [hword, hfix]

/-- What each address of a list sets, in a register that it sets to a fixed point. -/
theorem Work.reg_foldl_step (l : List Nat) (step : Work → Nat → Work) (g : Nat → Nat) (a : Nat) (hg : ∀ x, g (g x) = g x)
    (hsame : ∀ w : Work, (step w a).reg a = g (w.reg a)) (hother : ∀ (w : Work) (b : Nat), b ≠ a → (step w b).reg a = w.reg a) (w : Work) :
    (l.foldl step w).reg a = if a ∈ l then g (w.reg a) else w.reg a := by
  induction l generalizing w with
  | nil => rfl
  | cons b l ih =>
    rw [List.foldl_cons, ih]
    by_cases hb : b = a
    · subst hb
      rw [hsame, if_pos List.mem_cons_self, hg, ite_self]
    · have hmem : a ∈ b :: l ↔ a ∈ l := by simp [Ne.symm hb]
      rw [hother w b hb]
      simp only [hmem]

section
variable (w : Work) (regs : Tab Nat) (hit : Nat → Bool)

theorem Work.wr_takeSets : (w.takeSets regs hit).wr = w.wr := by
  refine List.foldlRecOn (motive := fun v : Work => v.wr = w.wr) _ _ rfl fun v hv b _ => ?_
  split
  · exact (Work.setReg_wr _ _ _).trans hv
  · exact hv

/-- A register that is picked takes its settings. -/
theorem Work.reg_takeSets_hit (a : Nat) (r : RegRow) (k : Nat) (hrow : rowAt a = some (r, k)) (hhit : hit a = true)
    (hreset : mergeAcc setAcc r (resetWord a) (resetWord a) = resetWord a) :
    (w.takeSets regs hit).reg a = mergeAcc setAcc r (w.reg a) (tabGet regs (resetWord a) a) := by
  refine (Work.reg_foldl_step _ _ (fun x => mergeAcc setAcc r x (tabGet regs (resetWord a) a)) a
    (fun x => mergeAcc_idem r x _ (rowAt_rise a r k hrow)) (fun v => ?_) (fun v b hb => ?_) w).trans ?_
  · rw [hrow]
    exact v.reg_setReg_same _ _
  · split
    · exact v.reg_setReg_ne _ _ _ (Ne.symm hb)
    · rfl
  · by_cases hmem : a ∈ ((w.regs ++ regs).map (·.1)).filter hit
    · rw [if_pos hmem]
    · have hout : a ∉ w.regs.map (·.1) ∧ a ∉ regs.map (·.1) := by
        simpa [List.mem_filter, hhit, not_or] using hmem
      obtain ⟨hw, hregs⟩ := hout
      have hkeep : w.reg a = resetWord a := by
        unfold Work.reg tabGet
        rw [tabFind_none_of_notMem _ _ hw]
        rfl
      have hnew : tabGet regs (resetWord a) a = resetWord a := by
        unfold tabGet
        rw [tabFind_none_of_notMem _ _ hregs]
        rfl
      rw [if_neg hmem, hnew, hkeep, hreset]

end

/-! ### An engine checked -/

theorem Work.bankFailed_congr {v w : Work} (hfailed : v.get F.MEM_FAILED_FAILED = w.get F.MEM_FAILED_FAILED)
    (haon : v.get F.MEM_STAT_AON_FAILED = w.get F.MEM_STAT_AON_FAILED) (b : Nat) : v.bankFailed b = w.bankFailed b := by
  unfold Work.bankFailed Work.flag
  rw [hfailed, haon]

theorem Work.cell_congr {v w : Work} (hmem : v.mem = w.mem) (hwr : v.wr = w.wr) (a : Nat) : v.cell a = w.cell a := by
  unfold Work.cell
  rw [hmem, hwr]

theorem Work.peeks_congr {v w : Work} (hcell : ∀ a, v.cell a = w.cell a) (hfail : ∀ b, v.bankFailed b = w.bankFailed b) (a k : Nat) :
    v.peeks a k = w.peeks a k := by
  have hpeek : v.peek = w.peek := by
    funext a
    unfold Work.peek
    cases bankOf a with
    | none => rfl
    | some b => simp only [hfail, hcell]
  unfold Work.peeks
  rw [hpeek]

theorem Work.codeGood_congr {v w : Work} (e : Nat) (hcode : (v.tunEng e).code = (w.tunEng e).code)
    (hpeeks : ∀ a k, v.peeks a k = w.peeks a k) : v.codeGood e = w.codeGood e := by
  unfold Work.codeGood
  dsimp only
  rw [hcode, hpeeks]

/-- A wipe leaves every byte outside its range. -/
theorem Work.byte_wipe (w : Work) (lo hi a : Nat) (m : Memory) (h : a < lo ∨ hi ≤ a) :
    tabGet (commitMem (w.wipe lo hi).wr m) 0 a = tabGet (commitMem w.wr m) 0 a := by
  unfold Work.wipe
  dsimp only
  split
  · rfl
  · exact MemOp.apply_wipe_without lo hi a _ h

/-- An engine's check, as its registers and memory show it. -/
theorem Work.checkEngine_shows (w : Work) (e : Fin 4) (good : Bool) :
    ((w.checkEngine e good).tunEng e).held = (w.tunEng e).held ∧ ((w.checkEngine e good).tunEng e).wdog = some good ∧
      (good = false → (w.checkEngine e good).flag F.TUN_ERR_CODE_BAD 0 e = true) ∧
      (∀ a, a ∉ [R.TUN_CTL.addr 0 0, R.TUN_STAT.addr 0 e, R.TUN_ERR.addr 0 e] → (w.checkEngine e good).reg a = w.reg a) ∧
      (w.checkEngine e good).wr = (w.wipe (0x02000000 + 0x40000 * e + (w.tunEng e).code.length) (0x02000000 + 0x40000 * e + 0x40000)).wr := by
  obtain ⟨x, hx⟩ : ∃ x, x = w.wipe (0x02000000 + 0x40000 * e + (w.tunEng e).code.length) (0x02000000 + 0x40000 * e + 0x40000) := ⟨_, rfl⟩
  obtain ⟨y, hy⟩ : ∃ y, y = x.modTun e (fun t => { t with outSets := [], inSets := t.inSets.map (fun s => (s.1, List.replicate s.2.length 0)), wdog := some good, fitted := 0, ages := [] }) :=
    ⟨_, rfl⟩
  obtain ⟨z, hz⟩ : ∃ z, z = (y.put F.TUN_CTL_RUNNING (setBit (y.get F.TUN_CTL_RUNNING) e false)).put F.TUN_STAT_STATE 0 0 e := ⟨_, rfl⟩
  have heq : w.checkEngine e good = if good then z else z.put F.TUN_ERR_CODE_BAD 1 0 e := by
    rw [hz, hy, hx]
    rfl
  have hx' : x.tun = w.tun ∧ ∀ a, x.reg a = w.reg a := by
    rw [hx]
    exact ⟨Work.wipe_tun .., fun a => Work.reg_wipe ..⟩
  obtain ⟨hxtun, hxreg⟩ := hx'
  obtain ⟨-, -, hztun, hzwr, hzreg⟩ := Work.stopShown y e z hz
  have htun : z.tunEng e = { w.tunEng e with outSets := [], inSets := (w.tunEng e).inSets.map (fun s => (s.1, List.replicate s.2.length 0)), wdog := some good, fitted := 0, ages := [] } := by
    rw [hztun, hy, Work.tunEng_modTun, w.tunEng_of_tun hxtun]
  have hlast : (w.checkEngine e good).tunEng e = z.tunEng e ∧ (w.checkEngine e good).wr = z.wr ∧
      (∀ a, a ≠ R.TUN_ERR.addr 0 e → (w.checkEngine e good).reg a = z.reg a) ∧
      (good = false → (w.checkEngine e good).flag F.TUN_ERR_CODE_BAD 0 e = true) := by
    rw [heq]
    cases good
    · rw [if_neg (by decide)]
      refine ⟨Work.tunEng_put .., Work.put_wr .., fun a ha => Work.reg_put_ne _ F.TUN_ERR_CODE_BAD 1 0 e a ha, fun _ => ?_⟩
      rw [Work.flag_put_same _ _ _ _ _ rfl]
      rfl
    · exact ⟨rfl, rfl, fun _ _ => rfl, fun h => absurd h (by decide)⟩
  obtain ⟨hlasttun, hlastwr, hlastreg, hbad⟩ := hlast
  refine ⟨?_, ?_, hbad, fun a ha => ?_, ?_⟩
  · rw [hlasttun, htun]
  · rw [hlasttun, htun]
  · simp only [List.mem_cons, List.not_mem_nil, or_false, not_or] at ha
    obtain ⟨hctl, hstat, herr⟩ := ha
    rw [hlastreg a herr, hzreg a hctl hstat, hy, Work.reg_modTun, hxreg]
  · rw [hlastwr, hzwr, hy, Work.wr_modTun, hx]

end Sys2Proof.Machine
end


section
/-! PROOF. Blocks of the shared side released by their bits (R329, R376, R396). -/
namespace Sys2Proof.Machine

section
variable (w : Work)

/-- A Tun engine released, before its check. -/
def Work.tunFreed (w : Work) (e : Nat) : Work := w.modTun e (fun t => { t with held := false })

theorem Work.tunFreed_shows (e : Fin 4) : (w.tunFreed e).tunEng e = { w.tunEng e with held := false } ∧ (w.tunFreed e).wr = w.wr ∧
    (w.tunFreed e).mem = w.mem ∧ ∀ a, (w.tunFreed e).reg a = w.reg a :=
  ⟨w.tunEng_modTun e _, w.wr_modTun e _, rfl, w.reg_modTun e _⟩

/-- An engine that holds no code, or whose bank failed, stays stopped (R376). -/
theorem Work.releaseBlock_stopped (e : Fin 4) (h : (w.tunEng e).code = [] ∨ w.bankFailed (24 + 2 * e) = true ∨ w.bankFailed (25 + 2 * e) = true) :
    w.releaseBlock e = w.tunFreed e := by
  obtain ⟨htun, -, -, hreg⟩ := w.tunFreed_shows e
  have hcode : ((w.tunFreed e).tunEng e).code = (w.tunEng e).code := by rw [htun]
  have hfail : ∀ b, (w.tunFreed e).bankFailed b = w.bankFailed b :=
    Work.bankFailed_congr (by unfold Work.get; rw [hreg]) (by unfold Work.get; rw [hreg])
  unfold Work.releaseBlock
  rw [if_pos e.isLt]
  refine if_pos ?_
  change ((w.tunFreed e).tunEng e).code.isEmpty = true ∨ (w.tunFreed e).bankFailed (24 + 2 * e) = true ∨ (w.tunFreed e).bankFailed (25 + 2 * e) = true
  rw [hcode, hfail, hfail, List.isEmpty_iff]
  exact h

/-- Another is checked (R329). -/
theorem Work.releaseBlock_checked (e : Fin 4) (hcode : (w.tunEng e).code ≠ []) (hlow : w.bankFailed (24 + 2 * e) = false)
    (hhigh : w.bankFailed (25 + 2 * e) = false) : w.releaseBlock e = (w.tunFreed e).checkEngine e (w.codeGood e) := by
  obtain ⟨htun, hwr, hmem, hreg⟩ := w.tunFreed_shows e
  have hcode' : ((w.tunFreed e).tunEng e).code = (w.tunEng e).code := by rw [htun]
  have hfail : ∀ b, (w.tunFreed e).bankFailed b = w.bankFailed b :=
    Work.bankFailed_congr (by unfold Work.get; rw [hreg]) (by unfold Work.get; rw [hreg])
  have hgood : (w.tunFreed e).codeGood e = w.codeGood e :=
    Work.codeGood_congr e hcode' (Work.peeks_congr (Work.cell_congr hmem hwr) hfail)
  rw [← hgood]
  unfold Work.releaseBlock
  rw [if_pos e.isLt]
  refine if_neg ?_
  change ¬(((w.tunFreed e).tunEng e).code.isEmpty = true ∨ (w.tunFreed e).bankFailed (24 + 2 * e) = true ∨ (w.tunFreed e).bankFailed (25 + 2 * e) = true)
  rw [hcode', hfail, hfail, List.isEmpty_iff, hlow, hhigh]
  simp [hcode]

end

section
variable (s : State) (bit : Nat)

theorem State.bankFailed_blkSet (b : Bool) (k : Nat) : (s.blkSet bit b).bankFailed k = s.work.bankFailed k :=
  Work.bankFailed_congr (s.get_blkSet bit b F.MEM_FAILED_FAILED 0 0 (by decide)) (s.get_blkSet bit b F.MEM_STAT_AON_FAILED 0 0 (by decide)) k

theorem State.codeGood_blkSet (b : Bool) (e : Nat) : (s.blkSet bit b).codeGood e = s.work.codeGood e := by
  refine Work.codeGood_congr e (by rw [s.blkSet_tunEng]) (Work.peeks_congr (Work.cell_congr ?_ (s.wr_blkSet bit b)) (s.bankFailed_blkSet bit b))
  unfold State.blkSet
  rw [Work.setReg_mem]

variable (hbit : bit < 9)
  (haccept : s.accepts (R.SYS_BLK_RST.addr 0 0) (setBit (s.reg (R.SYS_BLK_RST.addr 0 0)) bit false) = true)
  (hset : bitOf (s.reg (R.SYS_BLK_RST.addr 0 0)) bit = true)
include hbit haccept hset

theorem State.release_run : s.work.bitWrite (R.SYS_BLK_RST.addr 0 0) bit false = (s.blkSet bit false).releaseBlock bit :=
  (s.bitWrite_blkRst bit false hbit haccept hset).trans (if_neg (by decide))

/-- A block's release, seen from the state. -/
theorem State.release_frame (regs : List Nat) (hself : R.SYS_BLK_RST.addr 0 0 ∉ regs)
    (hreg : ∀ a, a ∉ regs → ((s.blkSet bit false).releaseBlock bit).reg a = (s.blkSet bit false).reg a) :
    bitOf ((s.run (fun w => w.bitWrite (R.SYS_BLK_RST.addr 0 0) bit false)).reg (R.SYS_BLK_RST.addr 0 0)) bit = false ∧
      s.sameRegs (s.run (fun w => w.bitWrite (R.SYS_BLK_RST.addr 0 0) bit false)) (R.SYS_BLK_RST.addr 0 0 :: regs) := by
  have hrun := s.release_run bit hbit haccept hset
  refine ⟨?_, fun a ha => ?_⟩
  · rw [State.run_reg, hrun, hreg _ hself, s.bitOf_blkSet bit false hbit]
  · simp only [List.mem_cons, not_or] at ha
    obtain ⟨hne, hout⟩ := ha
    rw [State.run_reg, hrun, hreg a hout, s.reg_blkSet bit false a hne]

/-- A block that is released and nothing more. -/
theorem State.release_idle (hidle : (s.blkSet bit false).releaseBlock bit = s.blkSet bit false) (t : State)
    (ht : t = s.run (fun w => w.bitWrite (R.SYS_BLK_RST.addr 0 0) bit false)) :
    bitOf (t.reg (R.SYS_BLK_RST.addr 0 0)) bit = false ∧ s.sameRegs t [R.SYS_BLK_RST.addr 0 0] ∧ t.mem = s.mem := by
  subst ht
  obtain ⟨hclear, hframe⟩ := s.release_frame bit hbit haccept hset [] List.not_mem_nil (fun a _ => by rw [hidle])
  refine ⟨hclear, hframe, s.run_mem_of_wr _ ?_⟩
  rw [s.release_run bit hbit haccept hset, hidle, State.wr_blkSet]

end

section
variable (s : State) (e : Fin 4)
  (haccept : s.accepts (R.SYS_BLK_RST.addr 0 0) (setBit (s.reg (R.SYS_BLK_RST.addr 0 0)) e false) = true)
  (hset : bitOf (s.reg (R.SYS_BLK_RST.addr 0 0)) e = true) (t : State)
  (ht : t = s.run (fun w => w.bitWrite (R.SYS_BLK_RST.addr 0 0) e false))
include haccept hset ht

theorem blockResets_tunStopped
    (hstop : (s.work.tunEng e).code = [] ∨ s.work.bankFailed (24 + 2 * e) = true ∨ s.work.bankFailed (25 + 2 * e) = true) :
    bitOf (t.reg (R.SYS_BLK_RST.addr 0 0)) e = false ∧ t.work.tunEng e = { s.work.tunEng e with held := false } ∧
      s.sameRegs t [R.SYS_BLK_RST.addr 0 0] ∧ t.mem = s.mem := by
  subst ht
  have hbit : e.val < 9 := by omega
  obtain ⟨htun, hwr, -, hreg⟩ := (s.blkSet e false).tunFreed_shows e
  have hfreed : (s.blkSet e false).releaseBlock e = (s.blkSet e false).tunFreed e :=
    (s.blkSet e false).releaseBlock_stopped e (by rw [s.blkSet_tunEng, s.bankFailed_blkSet, s.bankFailed_blkSet]; exact hstop)
  have hrun := (s.release_run e hbit haccept hset).trans hfreed
  obtain ⟨hclear, hframe⟩ := s.release_frame e hbit haccept hset [] List.not_mem_nil (fun a _ => by rw [hfreed, hreg])
  refine ⟨hclear, ?_, hframe, s.run_mem_of_wr _ ?_⟩
  · rw [State.run_tunEng, hrun, htun, s.blkSet_tunEng]
  · rw [hrun, hwr, State.wr_blkSet]

theorem blockResets_tunChecked (hcode : (s.work.tunEng e).code ≠ []) (hlow : s.work.bankFailed (24 + 2 * e) = false)
    (hhigh : s.work.bankFailed (25 + 2 * e) = false) :
    bitOf (t.reg (R.SYS_BLK_RST.addr 0 0)) e = false ∧ (t.work.tunEng e).held = false ∧
      (t.work.tunEng e).wdog = some (s.work.codeGood e) ∧
      (s.work.codeGood e = false → t.flag F.TUN_ERR_CODE_BAD 0 e = true) ∧
      s.sameRegs t [R.SYS_BLK_RST.addr 0 0, R.TUN_CTL.addr 0 0, R.TUN_STAT.addr 0 e, R.TUN_ERR.addr 0 e] ∧
      s.sameBytesBut t (0x02000000 + 0x40000 * e + (s.work.tunEng e).code.length) (0x40000 - (s.work.tunEng e).code.length) := by
  subst ht
  have hbit : e.val < 9 := by omega
  have hself : ∀ e : Fin 4, R.SYS_BLK_RST.addr 0 0 ∉ [R.TUN_CTL.addr 0 0, R.TUN_STAT.addr 0 e, R.TUN_ERR.addr 0 e] := by decide
  obtain ⟨htun, hwr, -, hreg⟩ := (s.blkSet e false).tunFreed_shows e
  have hchecked : (s.blkSet e false).releaseBlock e = ((s.blkSet e false).tunFreed e).checkEngine e (s.work.codeGood e) := by
    rw [(s.blkSet e false).releaseBlock_checked e (by rw [s.blkSet_tunEng]; exact hcode) (by rw [s.bankFailed_blkSet]; exact hlow)
      (by rw [s.bankFailed_blkSet]; exact hhigh), s.codeGood_blkSet]
  have hrun := (s.release_run e hbit haccept hset).trans hchecked
  obtain ⟨hheld, hwdog, hbad, hreg', hwr'⟩ := ((s.blkSet e false).tunFreed e).checkEngine_shows e (s.work.codeGood e)
  obtain ⟨hclear, hframe⟩ := s.release_frame e hbit haccept hset _ (hself e) (fun a ha => by rw [hchecked, hreg' a ha, hreg])
  refine ⟨hclear, ?_, ?_, fun h => ?_, hframe, fun a ha => ?_⟩
  · rw [State.run_tunEng, hrun, hheld, htun]
  · rw [State.run_tunEng, hrun, hwdog]
  · rw [State.run_flag, hrun, hbad h]
  · have hlen : (((s.blkSet e false).tunFreed e).tunEng e).code.length = (s.work.tunEng e).code.length := by rw [htun, s.blkSet_tunEng]
    by_cases hshort : (s.work.tunEng e).code.length ≤ 0x40000
    · unfold State.byte
      rw [State.run_mem, hrun, hwr', hlen, Work.byte_wipe _ _ _ _ _ (by omega), hwr, State.wr_blkSet, commitMem_nil]
    · unfold State.byte
      rw [State.run_mem, hrun, hwr', hlen, Work.byte_wipe _ _ _ _ _ (by omega), hwr, State.wr_blkSet, commitMem_nil]

end

section
variable (s : State)

theorem Work.releaseBlock_pair (w : Work) : (w.releaseBlock 6).pair = Pair.init ∧ (w.releaseBlock 6).flag F.PAIR_STAT_LINK = false ∧
    (w.releaseBlock 6).wr = w.wr ∧ ∀ a, a ≠ R.PAIR_STAT.addr 0 0 → (w.releaseBlock 6).reg a = w.reg a := by
  have heq : w.releaseBlock 6 = (w.put F.PAIR_STAT_LINK 0).modPair (fun _ => Pair.init) := rfl
  rw [heq]
  refine ⟨?_, ?_, ?_, fun a ha => ?_⟩
  · rw [Work.modPair_pair]
  · rw [Work.flag_modPair, Work.flag_put_same _ _ _ _ _ rfl]
    rfl
  · rw [Work.modPair_wr, Work.put_wr]
  · rw [Work.reg_modPair, Work.reg_put_ne _ F.PAIR_STAT_LINK 0 0 0 a ha]

/-- The addresses of the network block. -/
def netArea (a : Nat) : Bool := decide (0x40070000 ≤ a) && decide (a < 0x40080000)

theorem Work.releaseBlock_net (w : Work) : w.releaseBlock 7 = if w.img.whole.isSome then w.takeSets w.img.net netArea else w := rfl

/-- The pair block released. -/
theorem blockResets_pairReleased
    (haccept : s.accepts (R.SYS_BLK_RST.addr 0 0) (setBit (s.reg (R.SYS_BLK_RST.addr 0 0)) 6 false) = true)
    (hset : bitOf (s.reg (R.SYS_BLK_RST.addr 0 0)) 6 = true) (t : State)
    (ht : t = s.run (fun w => w.bitWrite (R.SYS_BLK_RST.addr 0 0) 6 false)) :
    bitOf (t.reg (R.SYS_BLK_RST.addr 0 0)) 6 = false ∧ t.dev.pair = Pair.init ∧ t.flag F.PAIR_STAT_LINK = false ∧
      s.sameRegs t [R.SYS_BLK_RST.addr 0 0, R.PAIR_STAT.addr 0 0] ∧ t.mem = s.mem := by
  subst ht
  obtain ⟨hpair, hlink, hwr, hreg⟩ := (s.blkSet 6 false).releaseBlock_pair
  have hrun := s.release_run 6 (by decide) haccept hset
  obtain ⟨hclear, hframe⟩ := s.release_frame 6 (by decide) haccept hset [R.PAIR_STAT.addr 0 0] (by decide)
    (fun a ha => hreg a (fun h => ha (List.mem_singleton.mpr h)))
  refine ⟨hclear, ?_, ?_, hframe, s.run_mem_of_wr _ ?_⟩
  · rw [State.run_dev, hrun, Work.toDev_pair, hpair]
  · rw [State.run_flag, hrun, hlink]
  · rw [hrun, hwr, State.wr_blkSet]

/-- Steep's block released, and the network block of a device without an image. -/
theorem blockResets_plain (bit : Fin 9)
    (haccept : s.accepts (R.SYS_BLK_RST.addr 0 0) (setBit (s.reg (R.SYS_BLK_RST.addr 0 0)) bit false) = true)
    (hset : bitOf (s.reg (R.SYS_BLK_RST.addr 0 0)) bit = true) (hplain : bit.val = 8 ∨ (bit.val = 7 ∧ s.dev.img.whole = none)) (t : State)
    (ht : t = s.run (fun w => w.bitWrite (R.SYS_BLK_RST.addr 0 0) bit false)) :
    bitOf (t.reg (R.SYS_BLK_RST.addr 0 0)) bit = false ∧ s.sameRegs t [R.SYS_BLK_RST.addr 0 0] ∧ t.mem = s.mem := by
  refine s.release_idle bit bit.isLt haccept hset ?_ t ht
  rcases hplain with h | ⟨h, hnone⟩
  · rw [h]
    rfl
  · rw [h, Work.releaseBlock_net, s.blkSet_img, hnone]
    rfl

/-- The network block of a configured device goes back to the settings of its image. -/
theorem blockResets_netSettings (a : Nat)
    (haccept : s.accepts (R.SYS_BLK_RST.addr 0 0) (setBit (s.reg (R.SYS_BLK_RST.addr 0 0)) 7 false) = true)
    (hset : bitOf (s.reg (R.SYS_BLK_RST.addr 0 0)) 7 = true) (hwhole : s.dev.img.whole.isSome = true) (hrow : (rowAt a).isSome = true)
    (hlo : 0x40070000 ≤ a) (hhi : a < 0x40080000) (t : State)
    (ht : t = s.run (fun w => w.bitWrite (R.SYS_BLK_RST.addr 0 0) 7 false)) :
    bitOf (t.reg (R.SYS_BLK_RST.addr 0 0)) 7 = false ∧
      (rowAt a).all (fun x => t.reg a == mergeAcc setAcc x.1 (s.reg a) (tabGet s.dev.img.net (resetWord a) a)) = true ∧
      t.mem = s.mem := by
  subst ht
  obtain ⟨⟨r, k⟩, hat⟩ := Option.isSome_iff_exists.mp hrow
  have hsets : (s.blkSet 7 false).releaseBlock 7 = (s.blkSet 7 false).takeSets s.dev.img.net netArea := by
    rw [Work.releaseBlock_net, s.blkSet_img, if_pos hwhole]
  have hrun := (s.release_run 7 (by decide) haccept hset).trans hsets
  have hne : a ≠ R.SYS_BLK_RST.addr 0 0 := by
    have hself : R.SYS_BLK_RST.addr 0 0 = 0x40000304 := rfl
    omega
  refine ⟨?_, ?_, s.run_mem_of_wr _ ?_⟩
  · rw [State.run_reg, hrun, Work.reg_takeSets _ _ _ (by decide), s.bitOf_blkSet 7 false (by decide)]
  · rw [hat, Option.all_some, State.run_reg, hrun,
      Work.reg_takeSets_hit _ _ _ a r k hat (by simp [netArea, hlo, hhi]) (mergeAcc_netReset a r k hat hlo hhi), s.reg_blkSet 7 false a hne]
    exact beq_self_eq_true _
  · rw [hrun, Work.wr_takeSets, State.wr_blkSet]

end

/-- Settles O39. -/
theorem blockResets : Obligations.BlockResets := by
  unfold Obligations.BlockResets
  refine ⟨?_, ?_, ?_, ?_, ?_, ?_, ?_, ?_, ?_, ?_, ?_, ?_, ?_⟩
  case refine_1 =>
    intro s o e haccept hclear hsess hmode hcmd
    exact ⟨_, rfl, blockResets_tun s e haccept hclear hsess hmode hcmd _ rfl⟩
  case refine_2 =>
    intro s o haccept hclear hsess hmode hcmd
    exact ⟨_, rfl, blockResets_host s haccept hclear hsess hmode hcmd _ rfl⟩
  case refine_3 =>
    intro s o haccept hclear hsess hmode hcmd hsrc
    exact ⟨_, rfl, blockResets_fabric s haccept hclear hsess hmode hcmd hsrc _ rfl⟩
  case refine_4 =>
    intro s o haccept hclear
    exact ⟨_, rfl, blockResets_pair s haccept hclear _ rfl⟩
  case refine_5 =>
    intro s o haccept hclear hsrc
    exact ⟨_, rfl, blockResets_net s haccept hclear hsrc _ rfl⟩
  case refine_6 =>
    intro s o haccept hclear hsrc hlocked
    exact ⟨_, rfl, blockResets_netLock s haccept hclear hsrc hlocked _ rfl⟩
  case refine_7 =>
    intro s o haccept hclear
    exact ⟨_, rfl, blockResets_steep s haccept hclear _ rfl⟩
  case refine_8 =>
    intro s o e haccept hset hcode
    obtain ⟨hclear, htun, hframe, hmem⟩ := blockResets_tunStopped s e haccept hset _ rfl (.inl hcode)
    exact ⟨_, rfl, hclear, by rw [htun], hframe, hmem⟩
  case refine_9 =>
    intro s o e haccept hset hcode hlow hhigh
    exact ⟨_, rfl, blockResets_tunChecked s e haccept hset _ rfl hcode hlow hhigh⟩
  case refine_10 =>
    intro s o e haccept hset hfailed
    obtain ⟨hclear, htun, hframe, hmem⟩ := blockResets_tunStopped s e haccept hset _ rfl (.inr hfailed)
    exact ⟨_, rfl, hclear, by rw [htun], by rw [htun], hframe, hmem⟩
  case refine_11 =>
    intro s o haccept hset
    exact ⟨_, rfl, blockResets_pairReleased s haccept hset _ rfl⟩
  case refine_12 =>
    intro s o bit haccept hset hplain
    exact ⟨_, rfl, blockResets_plain s bit haccept hset hplain _ rfl⟩
  case refine_13 =>
    intro s o a haccept hset hwhole hrow hlo hhi
    exact ⟨_, rfl, blockResets_netSettings s a haccept hset hwhole hrow hlo hhi _ rfl⟩

end Sys2Proof.Machine
end


section
/-! PROOF SUPPORT. What the entry to a mode leaves of the mode's own register and of the host (R17, R21). -/
namespace Sys2Proof.Machine

/-- A step leaves the register that shows the mode, the MODE that waits, and the host. -/
structure Work.ModeApart (w v : Work) : Prop where
  reg : v.reg (R.SYS_MODE.addr 0 0) = w.reg (R.SYS_MODE.addr 0 0)
  modeReq : v.modeReq = w.modeReq
  host : v.host = w.host

namespace Work.ModeApart

theorem refl (w : Work) : w.ModeApart w := ⟨rfl, rfl, rfl⟩

theorem trans {w u v : Work} (h : w.ModeApart u) (h' : u.ModeApart v) : w.ModeApart v :=
  ⟨h'.reg.trans h.reg, h'.modeReq.trans h.modeReq, h'.host.trans h.host⟩

theorem foldl {α : Type} (w : Work) (l : List α) (f : Work → α → Work) (h : ∀ (v : Work), ∀ x ∈ l, v.ModeApart (f v x)) : w.ModeApart (l.foldl f w) :=
  List.foldlRecOn (motive := fun v : Work => w.ModeApart v) _ _ (refl w) fun v hv x hx => hv.trans (h v x hx)

theorem ite {c : Prop} [Decidable c] {w u v : Work} (hu : w.ModeApart u) (hv : w.ModeApart v) : w.ModeApart (if c then u else v) :=
  iteInduction (motive := fun x : Work => w.ModeApart x) (fun _ => hu) (fun _ => hv)

variable (w : Work)

theorem addr_ne (f : Fld) (n k : Nat) (h : 0x40000004 < f.base) : R.SYS_MODE.addr 0 0 ≠ f.addr n k := by
  have hmode : R.SYS_MODE.addr 0 0 = 0x40000004 := rfl
  unfold Fld.addr at hmode ⊢
  omega

theorem setReg (a v : Nat) (h : R.SYS_MODE.addr 0 0 ≠ a) : w.ModeApart (w.setReg a v) := ⟨w.reg_setReg_ne _ _ _ h, w.setReg_modeReq a v, w.setReg_host a v⟩

theorem put (f : Fld) (v n k : Nat) (h : 0x40000004 < f.base) : w.ModeApart (w.put f v n k) :=
  ⟨w.reg_put_ne f v n k _ (addr_ne f n k h), w.put_modeReq f v n k, w.put_host f v n k⟩

theorem putFlag (f : Fld) (b : Bool) (n k : Nat) (h : 0x40000004 < f.base) : w.ModeApart (w.putFlag f b n k) := put w f b.toNat n k h

theorem modChan (n : Nat) (f : Chan → Chan) : w.ModeApart (w.modChan n f) := ⟨w.reg_modChan n f _, w.modChan_modeReq n f, w.modChan_host n f⟩

theorem modLock (f : Lock → Lock) : w.ModeApart (w.modLock f) := ⟨w.reg_modLock f _, rfl, rfl⟩

theorem putChState (n v : Nat) : w.ModeApart (w.putChState n v) := put w F.SYS_CH_STATE_STATES _ 0 0 (by decide)

/-! ### Pin engines -/

theorem showEng (n e : Nat) : w.ModeApart (w.showEng n e) := by
  unfold Work.showEng
  dsimp only
  iterate 13 refine trans ?_ (put _ _ _ _ _ (by decide))
  exact put _ _ _ _ _ (by decide)

theorem setEng (n e : Nat) (x : Engine) : w.ModeApart (w.setEng n e x) := (modChan w n _).trans (showEng _ n e)

theorem adoptLoop (n e : Nat) : w.ModeApart (w.adoptLoop n e) :=
  ((put w F.PSQ_LOOP_HEAD_ACT _ n e (by decide)).trans (put _ F.PSQ_LOOP_TAIL_ACT _ n e (by decide))).trans (put _ F.PSQ_STAT_LOOP_PEND _ n 0 (by decide))

theorem loopWritten (n e : Nat) : w.ModeApart (w.loopWritten n e) :=
  (put w F.PSQ_STAT_LOOP_PEND _ n 0 (by decide)).trans (ite (refl _) (adoptLoop _ n e))

theorem stopEng (n e : Nat) : w.ModeApart (w.stopEng n e) :=
  (((put w F.PSQ_STAT_RUNNING _ n 0 (by decide)).trans (put _ F.PSQ_STAT_PENDING _ n 0 (by decide))).trans (ite (adoptLoop _ n e) (refl _))).trans
    (setEng _ n e _)

theorem startEng (n e : Nat) : w.ModeApart (w.startEng n e) :=
  ((put w F.PSQ_STAT_RUNNING _ n 0 (by decide)).trans (put _ F.PSQ_STAT_PENDING _ n 0 (by decide))).trans (setEng _ n e _)

theorem psqRun (n run boundary : Nat) : w.ModeApart (w.psqRun n run boundary) :=
  foldl w _ _ fun v e _ => ite (stopEng v n e) (ite (refl v) (ite (put v F.PSQ_STAT_PENDING _ n 0 (by decide)) (startEng v n e)))

/-! ### The plan of a channel and the tick -/

theorem askQuiesce (n : Nat) : w.ModeApart (w.askQuiesce n) := ite (modChan w n _) (refl w)

theorem adoptPlan (n : Nat) (p : PlanSet) : w.ModeApart (w.adoptPlan n p) := by
  unfold Work.adoptPlan
  dsimp only
  refine trans ?_ (putFlag _ _ _ _ _ (by decide))
  iterate 5 refine trans ?_ (put _ _ _ _ _ (by decide))
  exact (modChan w n _).trans (foldl _ _ _ fun v k _ => setReg v _ _ (addr_ne _ n k (by decide)))

theorem restoreSeq (n : Nat) : w.ModeApart (w.restoreSeq n) := by
  unfold Work.restoreSeq
  dsimp only
  have hrun : w.ModeApart (((w.modChan n (fun c => { c with seq := { c.seq with commit := none } })).putFlag F.SEQ_CTL_COMMIT false n).putFlag
      F.SEQ_CTL_RUN (w.imageOf n).isSome n) :=
    ((modChan w n _).trans (putFlag _ F.SEQ_CTL_COMMIT _ n 0 (by decide))).trans (putFlag _ F.SEQ_CTL_RUN _ n 0 (by decide))
  have hasked := hrun.trans (ite (c := (!(w.imageOf n).isSome) = true ∧ (((w.modChan n (fun c => { c with seq := { c.seq with commit := none } })).putFlag
      F.SEQ_CTL_COMMIT false n).putFlag F.SEQ_CTL_RUN (w.imageOf n).isSome n |>.chan n).running = true) (askQuiesce _ n) (refl _))
  exact ite hasked ((hasked.trans (adoptPlan _ n _)).trans (modChan _ n _))

theorem setLock (st : Nat) : w.ModeApart (w.setLock st) := (put w F.SYS_TICK_STAT_LOCK_STATE st 0 0 (by decide)).trans (modLock _ _)

theorem adoptTickCfg : w.ModeApart w.adoptTickCfg := by
  unfold Work.adoptTickCfg
  split
  · exact refl w
  · next v _ =>
    have hset : ∀ x y : Nat, w.ModeApart ((w.setReg (R.SYS_TICK_CFG.addr 0 0) x).modLock (fun l => { l with cfgPend := none, periodUs := bitsOf x 11 0, own := y })) :=
      fun x y => (setReg w _ x (by decide)).trans (modLock _ _)
    exact ite (((hset _ _).trans (setLock _ _)).trans (modLock _ _)) (ite (((hset _ _).trans (setLock _ _)).trans (modLock _ _)) (hset _ _))

/-! ### What the image sets -/

/-- No field of SYS_MODE is a setting that the image brings back. -/
theorem sysMode_notRwx : (rowAt (R.SYS_MODE.addr 0 0)).all (fun x => !x.1.fields.any (fun f => f.acc == .rwx)) = true := by decide +kernel

theorem modMash (n : Nat) (f : Mash → Mash) : w.ModeApart (w.modMash n f) :=
  ⟨w.reg_modMash n f _ (addr_ne _ n 0 (by decide)), (Work.SameDevice.modMash w n f).modeReq, (Work.SameDevice.modMash w n f).host⟩

end Work.ModeApart

/-- The settings that the image brings back, register by register (R21). -/
def Work.rwxSets (w t : Work) (l : List Nat) : Work :=
  l.foldl (fun w a =>
    match rowAt a with
    | some (r, _) =>
      if !(isChanReg a && decide (foldChannel a = R.SEQ_CTL.base)) && r.fields.any (fun f => f.acc == .rwx) then
        w.setReg a (mergeAcc (· == .rwx) r (w.reg a) (t.reg a)) else w
    | none => w) w

theorem Work.ModeApart.rwxSets (w t : Work) (l : List Nat) : w.ModeApart (w.rwxSets t l) := by
  refine foldl w _ _ fun v a _ => ?_
  split
  · next r k hrow =>
    by_cases hself : R.SYS_MODE.addr 0 0 = a
    · subst hself
      have hnone := sysMode_notRwx
      rw [hrow, Option.all_some, Bool.not_eq_true'] at hnone
      rw [hnone, Bool.and_false]
      exact refl v
    · exact ite (setReg v a _ hself) (refl v)
  · exact refl v

theorem Work.ModeApart.restoreRwx (w : Work) : w.ModeApart w.restoreRwx := by
  unfold Work.restoreRwx
  split
  · exact refl w
  · next t _ =>
    have hlock : ∀ v : Work, v.ModeApart ({ v with lock := { v.lock with cfgPend := t.lock.cfgPend } } : Work).adoptTickCfg := fun v =>
      (modLock v (fun l => { l with cfgPend := t.lock.cfgPend })).trans (adoptTickCfg _)
    refine ((rwxSets w t _).trans (ite (hlock _) (refl _))).trans (foldl _ _ _ fun v n _ => ?_)
    dsimp only
    refine trans ?_ (restoreSeq _ n)
    refine trans ?_ (foldl _ _ _ fun u e _ => showEng u n e)
    refine trans ?_ (foldl _ _ _ fun u e _ => ite (refl u) (loopWritten u n e))
    exact (modMash v n _).trans (ite (refl _) (psqRun _ n _ 0))

/-! ### Entries -/

theorem Work.ModeApart.restartRest (w : Work) : w.ModeApart w.restartRest :=
  foldl w _ _ fun v n _ => ite ((modChan v n _).trans (putFlag _ F.SEQ_CTL_RUN true n 0 (by decide))) (refl v)

theorem Work.ModeApart.turnCold (w : Work) (n : Nat) : w.ModeApart (w.turnCold n) := by
  unfold Work.turnCold Work.clearLedger Work.setVlcd Work.modKiln
  exact (((put w F.KILN_STAT_VLCD_ACT 0 n 0 (by decide)).trans (putFlag _ F.KILN_STAT_READY false n 0 (by decide))).trans (modChan _ n _)).trans (modChan _ n _)

theorem Work.ModeApart.modLamps (w : Work) (n : Nat) (l : List Nat) (f : Lamp → Lamp) : w.ModeApart (l.foldl (fun v k => v.modLamp n k f) w) :=
  foldl w l _ fun v k _ => by
    unfold Work.modLamp Work.modStr
    exact modChan v n _

theorem Work.ModeApart.stringDark (w : Work) (n : Nat) : w.ModeApart (w.stringDark n) :=
  (modLamps w n _ _).trans (putFlag _ F.LAMP_STAT_SEN false n 0 (by decide))

theorem Work.ModeApart.stringOff (w : Work) (n : Nat) : w.ModeApart (w.stringOff n) := by
  unfold Work.stringOff Work.modStr
  dsimp only
  generalize hdark : w.stringDark n = u
  have hu : w.ModeApart u := hdark ▸ stringDark w n
  exact ((hu.trans (modLamps u n _ _)).trans (putFlag _ F.LAMP_STAT_PUMP_READY false n 0 (by decide))).trans (modChan _ n _)

theorem Work.ModeApart.allToReset (w : Work) : w.ModeApart w.allToReset :=
  foldl w _ _ fun v n _ => ite (refl v) (((turnCold v n).trans (stringOff _ n)).trans (putChState _ n _))

theorem Work.ModeApart.enterMode (w : Work) (target mask : Nat) : (w.setMode target mask).ModeApart (w.enterMode target mask) :=
  ite (foldl _ _ _ fun v n _ => ite (putChState v n _) (refl v)) (ite (allToReset _)
    (((foldl _ _ _ fun v n _ => ite (putChState v n _) (refl v)).trans (restoreRwx _)).trans (restartRest _)))

end Sys2Proof.Machine
end


section
/-! PROOF. MODE and its commit (R17, R18, R423 to R426). -/
namespace Sys2Proof.Machine

/-! ### The payload -/

section
variable (x m : Byte) (resp : List Byte)

theorem modeTarget : leAt ([x, m, 0, 0] ++ resp) 0 1 = x.toNat := by simp [leAt, takeAt, leVal]

theorem modeMask : leAt ([x, m, 0, 0] ++ resp) 1 1 = m.toNat := by simp [leAt, takeAt, leVal]

theorem modeZero : leAt ([x, m, 0, 0] ++ resp) 2 2 = 0 := by simp [leAt, takeAt, leVal]

end

theorem Work.perform_mode (w : Work) (o : Origin) (pl : List Byte) : w.perform o 0x30 pl = modeOp w o pl := by
  have hadmits : w.modeAdmits 0x30 = true := rfl
  unfold Work.perform
  rw [hadmits]
  rfl

/-! ### Admission -/

/-- A MODE that waits. -/
def Work.modeWaits (w : Work) (r : ModeReq) : Work := ({ w with modeReq := some r } : Work).put F.SYS_MODE_PENDING 1

theorem Work.modeWaits_shows (w : Work) (r : ModeReq) : (w.modeWaits r).modeReq = some r ∧ (w.modeWaits r).flag F.SYS_MODE_PENDING = true ∧
    (w.modeWaits r).host = w.host ∧ (w.modeWaits r).wr = w.wr ∧
    (∀ a, a ≠ R.SYS_MODE.addr 0 0 → (w.modeWaits r).reg a = w.reg a) := by
  have hreg : ∀ v : Work, ∀ a, ({ v with modeReq := some r } : Work).reg a = v.reg a := fun _ _ => rfl
  unfold Work.modeWaits
  refine ⟨?_, ?_, ?_, ?_, fun a ha => ?_⟩
  · rw [Work.put_modeReq]
  · rw [Work.flag_put_same _ _ _ _ _ rfl]
    rfl
  · rw [Work.put_host]
  · rw [Work.put_wr]
  · rw [Work.reg_put_ne _ F.SYS_MODE_PENDING 1 0 0 a ha, hreg]

theorem Work.modeQuiesce_operate (w : Work) (mask : Nat) : w.modeQuiesce mdOperate mask = [] := by
  unfold Work.modeQuiesce
  refine List.filter_eq_nil_iff.mpr fun n _ => ?_
  have hnone : ((mdOperate == mdRecovery) || (mdOperate == mdTest && bitOf mask n)) = false := by
    rw [show (mdOperate == mdRecovery) = false from rfl, show (mdOperate == mdTest) = false from rfl, Bool.false_and, Bool.or_false]
  rw [hnone, Bool.and_false]
  decide

theorem modeOp_operate (w : Work) (m : Byte) (hreq : w.modeReq = none) (hallowed : w.modeAllowed mdOperate = true) :
    modeOp w .host [2, m, 0, 0] = (w.modeWaits ⟨.host, mdOperate, 0, 0, false⟩, .waits) := by
  have htarget : leAt [2, m, 0, 0] 0 1 = mdOperate := modeTarget 2 m []
  have hzero : leAt [2, m, 0, 0] 2 2 = 0 := modeZero 2 m []
  unfold modeOp
  simp only [htarget, hzero, hreq, hallowed]
  rw [if_neg (by simp), if_neg (by simp), if_neg (by simp), if_neg (by simp [mdOperate, mdTest])]
  simp only [show decide (mdOperate = mdTest) = false from rfl, show decide (mdOperate = mdRecovery) = false from rfl, Bool.or_self,
    Bool.false_eq_true, if_false, Bool.not_true, Work.modeQuiesce_operate, List.foldl_nil]
  rfl

theorem modeOp_barred (w : Work) (x m : Byte) (hallowed : w.modeAllowed x.toNat = false) : modeOp w .host [x, m, 0, 0] = w.reply stState := by
  have htarget : leAt [x, m, 0, 0] 0 1 = x.toNat := modeTarget x m []
  have hzero : leAt [x, m, 0, 0] 2 2 = 0 := modeZero x m []
  unfold modeOp
  simp only [htarget, hzero, hallowed]
  rw [if_neg (by simp), if_pos (by simp)]

/-- A MODE of a sound payload that the device may take, whose response is checked where it needs one (R423 to R426). -/
def Work.modeTaken (w : Work) (o : Origin) (target mask : Nat) (checked : Work × Bool) : Work × Reply :=
  if target = mdTest ∧ w.testBarred mask then w.reply stState
  else if !checked.2 then checked.1.reply stAuth
  else
    (((checked.1.modeQuiesce target mask).foldl (fun w n => w.askQuiesce n) checked.1).modeWaits
      ⟨o, target, if target = mdTest then mask else 0, listMask (checked.1.modeQuiesce target mask), false⟩, .waits)

theorem modeOp_taken (w : Work) (o : Origin) (pl : List Byte) (hlen : pl.length = 36) (hzero : leAt pl 2 2 = 0) (hreq : w.modeReq = none)
    (hallowed : w.modeAllowed (leAt pl 0 1) = true)
    (hneeds : (decide (leAt pl 0 1 = mdTest) || decide (leAt pl 0 1 = mdRecovery)) = true) :
    modeOp w o pl = w.modeTaken o (leAt pl 0 1) (leAt pl 1 1) (w.checkChallenge (leAt pl 0 1) (leAt pl 1 1) (pl.drop 4)) := by
  unfold modeOp Work.modeTaken
  simp only [hzero, hlen, hreq, hallowed, hneeds, if_true]
  rw [if_neg (by simp), if_neg (by simp), if_neg (by simp)]
  generalize w.checkChallenge (leAt pl 0 1) (leAt pl 1 1) (pl.drop 4) = checked
  obtain ⟨v, ok⟩ := checked
  simp only [Work.modeWaits, Work.putFlag_eq, Bool.toNat_true]

/-- A MODE that needs a challenge goes by what the check answers. -/
theorem modeOp_challenged (w : Work) (x m : Byte) (resp : List Byte) (hreq : w.modeReq = none) (hx : x.toNat = mdTest ∨ x.toNat = mdRecovery)
    (hallowed : w.modeAllowed x.toNat = true) (hbarred : x.toNat = mdTest → w.testBarred m.toNat = false) (hlen : resp.length = 32) :
    modeOp w .host ([x, m, 0, 0] ++ resp) = if (w.checkChallenge x.toNat m.toNat resp).2 then
      ((((w.checkChallenge x.toNat m.toNat resp).1.modeQuiesce x.toNat m.toNat).foldl (fun w n => w.askQuiesce n) (w.checkChallenge x.toNat m.toNat resp).1).modeWaits
        ⟨.host, x.toNat, if x.toNat = mdTest then m.toNat else 0, listMask ((w.checkChallenge x.toNat m.toNat resp).1.modeQuiesce x.toNat m.toNat), false⟩, .waits)
      else (w.checkChallenge x.toNat m.toNat resp).1.reply stAuth := by
  have hdrop : ([x, m, 0, 0] ++ resp).drop 4 = resp := rfl
  have hopen : ¬(x.toNat = mdTest ∧ w.testBarred m.toNat = true) := by
    rintro ⟨htest, hbar⟩
    rw [hbarred htest] at hbar
    cases hbar
  rw [modeOp_taken w .host _ (by simp [hlen]) (modeZero x m resp) hreq (by rw [modeTarget]; exact hallowed) (by rw [modeTarget]; simpa using hx),
    modeTarget, modeMask, hdrop]
  generalize w.checkChallenge x.toNat m.toNat resp = checked
  unfold Work.modeTaken
  rw [if_neg hopen]
  cases checked.2
  · simp only [Bool.not_false, if_true, Bool.false_eq_true, if_false]
  · simp only [Bool.not_true, Bool.false_eq_true, if_false, if_true]

section
variable (s : State) (op tag : Nat)

theorem State.modeAllowed_taken (target : Nat) : (s.taken op tag).modeAllowed target = s.work.modeAllowed target := by
  unfold Work.modeAllowed
  rw [State.mode_taken, s.flag_taken op tag F.SYS_IMG_STAT_ACTIVE 0 0 (by decide), State.work_flag]

theorem State.pairMask_taken : (s.taken op tag).pairMask = s.work.pairMask := by
  unfold Work.pairMask
  rw [s.get_taken op tag F.PAIR_CFG_PAIR_MASK 0 0 (by decide), s.flag_taken op tag F.PAIR_CFG_EN 0 0 (by decide), State.work_flag, State.work_get]

theorem State.testBarred_taken (mask : Nat) : (s.taken op tag).testBarred mask = s.work.testBarred mask := by
  have hactive : (s.taken op tag).activeMask = s.work.activeMask := s.get_taken op tag F.PAIR_STAT_ACTIVE 0 0 (by decide)
  have hup : (s.taken op tag).pairUp = s.work.pairUp := by
    unfold Work.pairUp Work.pairOn
    rw [s.flag_taken op tag F.PAIR_CFG_EN 0 0 (by decide), s.get_taken op tag F.PAIR_CFG_ROLE 0 0 (by decide),
      s.flag_taken op tag F.SYS_BLK_RST_PAIR 0 0 (by decide), s.flag_taken op tag F.PAIR_STAT_LINK 0 0 (by decide)]
    rfl
  have hready : (s.taken op tag).pair.partner.ready = s.work.pair.partner.ready := by rw [State.pair_taken]; rfl
  unfold Work.testBarred
  simp only [Work.paired, s.pairMask_taken op tag, hactive, hup, hready]

theorem nonce_notHost : (List.range 4).all (fun k => !hostRegs.contains (R.SEC_NONCE.addr 0 k)) = true := by decide

theorem State.challenge_taken (target mask : Nat) : (s.taken op tag).challenge target mask = s.work.challenge target mask := by
  have hnonce : (List.range 4).map (fun k => leBytes 4 ((s.taken op tag).reg (R.SEC_NONCE.addr 0 k))) =
      (List.range 4).map (fun k => leBytes 4 (s.work.reg (R.SEC_NONCE.addr 0 k))) := by
    refine List.map_congr_left fun k hk => ?_
    have hout : R.SEC_NONCE.addr 0 k ∉ hostRegs := by
      have h := List.all_eq_true.mp nonce_notHost k hk
      simpa using h
    rw [s.reg_taken op tag _ hout, State.work_reg]
  unfold Work.challenge
  rw [hnonce, s.reg_taken op tag (R.RHL_UID_LO.addr 0 0) (by decide), s.reg_taken op tag (R.RHL_UID_HI.addr 0 0) (by decide),
    s.get_taken op tag F.SYS_MODE_MODE_SEQ 0 0 (by decide)]

end

/-! ### The challenge -/

section
variable (w : Work)

/-- The nonce gone. -/
theorem Work.dropNonce_shows : w.ModeApart w.dropNonce ∧ w.dropNonce.flag F.SEC_STAT_NONCE_VALID = false := by
  obtain ⟨u, hu⟩ : ∃ u, u = (List.range 4).foldl (fun v k => v.setReg (R.SEC_NONCE.addr 0 k) (([] : List Nat).getD k 0)) w := ⟨_, rfl⟩
  have hapart : w.ModeApart u := hu ▸ Work.ModeApart.foldl w _ _ fun v k _ => Work.ModeApart.setReg v _ _ (Work.ModeApart.addr_ne _ 0 k (by decide))
  have heq : w.dropNonce = u.put F.SEC_STAT_NONCE_VALID 0 := by rw [hu]; rfl
  rw [heq]
  refine ⟨hapart.trans (Work.ModeApart.put u F.SEC_STAT_NONCE_VALID 0 0 0 (by decide)), ?_⟩
  rw [Work.flag_put_same _ _ _ _ _ rfl]
  rfl

/-- A check that failed: no nonce, and one failure more, up to four (R424). -/
theorem Work.failCheck_shows : w.failCheck.host = w.host ∧ w.failCheck.modeReq = w.modeReq ∧ w.failCheck.flag F.SEC_STAT_NONCE_VALID = false ∧
    w.failCheck.get F.SEC_STAT_FAILS = Nat.min 4 (w.get F.SEC_STAT_FAILS + 1) := by
  obtain ⟨happart, hvalid⟩ := w.dropNonce_shows
  obtain ⟨u, hu⟩ : ∃ u, u = w.dropNonce.put F.SEC_STAT_FAILS (Nat.min 4 (w.fails + 1)) := ⟨_, rfl⟩
  have hshown : u.host = w.host ∧ u.modeReq = w.modeReq ∧ u.flag F.SEC_STAT_NONCE_VALID = false ∧
      u.get F.SEC_STAT_FAILS = Nat.min 4 (w.get F.SEC_STAT_FAILS + 1) := by
    rw [hu]
    refine ⟨?_, ?_, ?_, ?_⟩
    · rw [Work.put_host, happart.host]
    · rw [Work.put_modeReq, happart.modeReq]
    · rw [Work.flag_put_apart _ _ _ _ _ rfl, hvalid]
    · rw [Work.get_put_same _ _ _ _ _ (by decide), Work.fails]
      exact Nat.mod_eq_of_lt (lt_of_le_of_lt (Nat.min_le_left ..) (by decide))
  obtain ⟨hhost, hreq, hvalid', hfails'⟩ := hshown
  have heq : w.failCheck = if u.fails = 4 then (u.put F.SEC_STAT_LOCKOUT 1).secEntry seLockout u.fails else u := by
    rw [hu]
    simp only [Work.failCheck, Work.putFlag_eq, Bool.toNat_true]
  rw [heq]
  split
  · unfold Work.secEntry
    rw [Work.entryNow_eq]
    obtain ⟨v, hv⟩ : ∃ v, v = u.put F.SEC_STAT_LOCKOUT 1 := ⟨_, rfl⟩
    rw [← hv]
    refine ⟨?_, ?_, ?_, ?_⟩
    · rw [(Work.SameDevice.raiseEntry v _ _).host, hv, Work.put_host, hhost]
    · rw [(Work.SameDevice.raiseEntry v _ _).modeReq, hv, Work.put_modeReq, hreq]
    · unfold Work.flag
      rw [Work.get_raiseEntry_devRing v _ _ (by decide), hv]
      exact (Work.flag_put_apart _ _ _ _ _ rfl).trans hvalid'
    · rw [Work.get_raiseEntry_devRing v _ _ (by decide), hv, Work.get_put_apart _ _ _ _ _ (by decide), hfails']
  · exact ⟨hhost, hreq, hvalid', hfails'⟩

variable (target mask : Nat) (k resp : List Byte) (hlock : w.flag F.SEC_STAT_LOCKOUT = false) (hkey : w.key 4 = some k)
include hlock hkey

theorem Work.checkChallenge_good (hvalid : w.flag F.SEC_STAT_NONCE_VALID = true) (h : resp = Config.hmacSha256 k (w.challenge target mask)) :
    w.checkChallenge target mask resp = (w.dropNonce.put F.SEC_STAT_FAILS 0, true) := by
  unfold Work.checkChallenge
  rw [hlock, if_neg (by decide), hkey]
  exact if_pos ⟨hvalid, h⟩

theorem Work.checkChallenge_bad (h : resp ≠ Config.hmacSha256 k (w.challenge target mask)) :
    w.checkChallenge target mask resp = (w.failCheck, false) := by
  unfold Work.checkChallenge
  rw [hlock, if_neg (by decide), hkey]
  exact if_neg (fun hp => h hp.2)

end

end Sys2Proof.Machine
end


section
/-! PROOF. The five statements on MODE and its commit (R17, R18, R304, R423 to R426). -/
namespace Sys2Proof.Machine

theorem Work.reg_askQuiesce (w : Work) (n a : Nat) : (w.askQuiesce n).reg a = w.reg a :=
  iteInduction (motive := fun v : Work => v.reg a = w.reg a) (fun _ => w.reg_modChan n _ a) (fun _ => rfl)

theorem Work.toDev_modeReq (w : Work) : w.toDev.modeReq = w.modeReq := rfl

theorem State.flag_of_get (t : State) (v : Work) (f : Fld) (h : t.get f = v.get f) : t.flag f = v.flag f := congrArg (· == 1) h

/-- Channels asked to quiesce for a MODE. -/
def Work.askAll (w : Work) (l : List Nat) : Work := l.foldl (fun w n => w.askQuiesce n) w

theorem Work.askAll_eq (w : Work) (l : List Nat) : w.askAll l = l.foldl (fun w n => w.askQuiesce n) w := rfl

theorem Work.askAll_shows (w : Work) (l : List Nat) : w.ModeApart (w.askAll l) ∧ ∀ a, (w.askAll l).reg a = w.reg a :=
  ⟨Work.ModeApart.foldl w l _ fun v n _ => Work.ModeApart.askQuiesce v n, fun a => w.reg_foldl_same a l _ fun v n _ => v.reg_askQuiesce n a⟩

section
variable (s : State) (tag : Nat)

/-- MODE to OPERATE waits for its commit. -/
theorem modeCommands_operate (m : Byte) (hready : s.hostReady = true) (hreq : s.dev.modeReq = none) (hallowed : s.work.modeAllowed mdOperate = true)
    (t : State) (ht : t = s.run (fun w => w.command .host 0x30 tag [2, m, 0, 0])) :
    t.dev.modeReq = some ⟨.host, mdOperate, 0, 0, false⟩ ∧ t.flag F.SYS_MODE_PENDING = true ∧
      t.hostFlight 0x30 tag ∧ s.sameRegs t (R.SYS_MODE.addr 0 0 :: hostRegs) ∧ t.mem = s.mem := by
  subst ht
  have hperform : (s.taken 0x30 tag).perform .host 0x30 [2, m, 0, 0] = ((s.taken 0x30 tag).modeWaits ⟨.host, mdOperate, 0, 0, false⟩, .waits) := by
    rw [Work.perform_mode]
    exact modeOp_operate _ m (by rw [State.modeReq_taken, hreq]) (by rw [State.modeAllowed_taken, hallowed])
  have hrun := s.command_host_waits 0x30 tag _ _ hready (by decide) (by decide) hperform
  obtain ⟨hwaits, hpending, hhost, hwr, hreg⟩ := (s.taken 0x30 tag).modeWaits_shows ⟨.host, mdOperate, 0, 0, false⟩
  refine ⟨?_, ?_, ?_, fun a ha => ?_, s.run_mem_of_wr _ ?_⟩
  · rw [State.run_dev, hrun, Work.toDev_modeReq, hwaits]
  · rw [State.run_flag, hrun, hpending]
  · rw [State.hostFlight, State.run_dev, hrun, Work.toDev_host, hhost, State.hostPort_taken]
  · simp only [List.mem_cons, not_or] at ha
    obtain ⟨hmode, hout⟩ := ha
    rw [State.run_reg, hrun, hreg a hmode, s.reg_taken 0x30 tag a hout, State.work_reg]
  · rw [hrun, hwr, State.wr_taken]

/-- MODE to a mode that needs a challenge (R423 to R426). -/
theorem modeCommands_challenge (x m : Byte) (k resp : List Byte) (hready : s.hostReady = true) (hreq : s.dev.modeReq = none)
    (hx : x.toNat = mdTest ∨ x.toNat = mdRecovery) (hallowed : s.work.modeAllowed x.toNat = true)
    (hbarred : x.toNat = mdTest → s.work.testBarred m.toNat = false) (hlen : resp.length = 32) (hkey : s.work.key 4 = some k)
    (hlock : s.flag F.SEC_STAT_LOCKOUT = false) (hvalid : s.flag F.SEC_STAT_NONCE_VALID = true) (t : State)
    (ht : t = s.run (fun w => w.command .host 0x30 tag ([x, m, 0, 0] ++ resp))) :
    t.flag F.SEC_STAT_NONCE_VALID = false ∧
      (resp = Config.hmacSha256 k (s.work.challenge x.toNat m.toNat) → t.hostFlight 0x30 tag ∧ t.flag F.SYS_MODE_PENDING = true ∧ t.get F.SEC_STAT_FAILS = 0) ∧
      (resp ≠ Config.hmacSha256 k (s.work.challenge x.toNat m.toNat) → s.hostAnswered t 0x30 tag stAuth [] ∧ t.dev.modeReq = none ∧ t.get F.SEC_STAT_FAILS = Nat.min 4 (s.get F.SEC_STAT_FAILS + 1)) := by
  subst ht
  obtain ⟨w, hw⟩ : ∃ w, w = s.taken 0x30 tag := ⟨_, rfl⟩
  have hperform := modeOp_challenged w x m resp (by rw [hw, State.modeReq_taken, hreq]) hx (by rw [hw, State.modeAllowed_taken, hallowed])
    (fun h => by rw [hw, State.testBarred_taken, hbarred h]) hlen
  have hkey' : w.key 4 = some k := by
    unfold Work.key
    rw [hw, State.sec_taken]
    exact hkey
  have hlock' : w.flag F.SEC_STAT_LOCKOUT = false := by rw [hw, s.flag_taken 0x30 tag _ 0 0 (by decide), hlock]
  have hvalid' : w.flag F.SEC_STAT_NONCE_VALID = true := by rw [hw, s.flag_taken 0x30 tag _ 0 0 (by decide), hvalid]
  have hchallenge : w.challenge x.toNat m.toNat = s.work.challenge x.toNat m.toNat := by rw [hw, State.challenge_taken]
  by_cases hgood : resp = Config.hmacSha256 k (s.work.challenge x.toNat m.toNat)
  · rw [w.checkChallenge_good x.toNat m.toNat k resp hlock' hkey' hvalid' (by rw [hchallenge]; exact hgood), if_pos rfl] at hperform
    obtain ⟨happart, hgone⟩ := w.dropNonce_shows
    obtain ⟨v, hv⟩ : ∃ v, v = w.dropNonce.put F.SEC_STAT_FAILS 0 := ⟨_, rfl⟩
    rw [← hv, ← Work.askAll_eq] at hperform
    obtain ⟨hasked, hregs⟩ := v.askAll_shows (v.modeQuiesce x.toNat m.toNat)
    generalize v.askAll (v.modeQuiesce x.toNat m.toNat) = y at hperform hasked hregs
    generalize (⟨.host, x.toNat, if x.toNat = mdTest then m.toNat else 0, listMask (v.modeQuiesce x.toNat m.toNat), false⟩ : ModeReq) = r at hperform
    obtain ⟨-, hpending, hhost, -, hreg⟩ := y.modeWaits_shows r
    generalize y.modeWaits r = u at hperform hpending hhost hreg
    have hrun := s.command_host_waits 0x30 tag _ u hready (by decide) (by decide) (by rw [Work.perform_mode, ← hw]; exact hperform)
    have hflag : v.flag F.SEC_STAT_NONCE_VALID = false := by rw [hv, Work.flag_put_apart _ _ _ _ _ rfl, hgone]
    have hfails : v.get F.SEC_STAT_FAILS = 0 := by
      rw [hv, Work.get_put_same _ _ _ _ _ (by decide)]
      rfl
    have hsec : ∀ f : Fld, f.addr 0 0 ≠ R.SYS_MODE.addr 0 0 →
        (s.run (fun w => w.command .host 0x30 tag ([x, m, 0, 0] ++ resp))).get f = v.get f := by
      intro f hf
      rw [State.run_get, hrun]
      unfold Work.get
      exact congrArg (fun y => bitsOf y f.hi f.lo) ((hreg _ hf).trans (hregs _))
    refine ⟨?_, fun _ => ⟨?_, ?_, ?_⟩, fun hbad => absurd hgood hbad⟩
    · exact (State.flag_of_get _ _ _ (hsec F.SEC_STAT_NONCE_VALID (by decide))).trans hflag
    · rw [State.hostFlight, State.run_dev, hrun, Work.toDev_host]
      refine (congrArg (fun h : HostP => h.port.flight) (hhost.trans (hasked.host.trans ?_))).trans (congrArg Port.flight (s.hostPort_taken 0x30 tag))
      rw [hv, Work.put_host, happart.host, hw]
    · rw [State.run_flag, hrun]
      exact hpending
    · rw [hsec _ (by decide), hfails]
  · rw [w.checkChallenge_bad x.toNat m.toNat k resp hlock' hkey' (by rw [hchallenge]; exact hgood), if_neg Bool.false_ne_true] at hperform
    obtain ⟨hhost, hreq', hgone, hfails⟩ := w.failCheck_shows
    obtain ⟨hend, hanswer⟩ := s.command_answers 0x30 tag stAuth _ [] w.failCheck hready (by decide) (by decide)
      (by rw [Work.perform_mode, ← hw]; exact hperform) (by rw [hhost, hw])
    have hsec : ∀ f : Fld, f.addr 0 0 ∉ hostRegs →
        (s.run (fun w => w.command .host 0x30 tag ([x, m, 0, 0] ++ resp))).get f = w.failCheck.get f := by
      intro f hf
      rw [State.run_get, hend]
      unfold Work.get
      rw [Work.reg_complete_host _ _ _ _ _ _ _ _ hf]
    refine ⟨?_, fun hok => absurd hok hgood, fun _ => ⟨hanswer, ?_, ?_⟩⟩
    · exact (State.flag_of_get _ _ _ (hsec F.SEC_STAT_NONCE_VALID (by decide))).trans hgone
    · rw [State.run_dev, hend]
      refine (Work.part_complete_host _ _ _ _ _ (fun w => w.modeReq) (fun _ _ _ _ _ => rfl) (fun _ _ => rfl)).trans ?_
      rw [hreq', hw, State.modeReq_taken, hreq]
    · rw [hsec _ (by decide), hfails, hw, s.get_taken 0x30 tag _ 0 0 (by decide), State.work_get]

/-- A MODE that the table bars. -/
theorem modeCommands_barred (x m : Byte) (hready : s.hostReady = true) (hallowed : s.work.modeAllowed x.toNat = false)
    (t : State) (ht : t = s.run (fun w => w.command .host 0x30 tag [x, m, 0, 0])) :
    t.work.mode = s.work.mode ∧ t.dev.modeReq = s.dev.modeReq ∧ s.hostAnswered t 0x30 tag stState [] ∧
      s.sameRegs t hostRegs ∧ t.mem = s.mem := by
  subst ht
  have hperform : (s.taken 0x30 tag).perform .host 0x30 [x, m, 0, 0] = ((s.taken 0x30 tag), .done stState []) := by
    rw [Work.perform_mode]
    exact modeOp_barred _ x m (by rw [State.modeAllowed_taken, hallowed])
  obtain ⟨hend, hanswer⟩ := s.command_answers 0x30 tag stState _ [] _ hready (by decide) (by decide) hperform rfl
  obtain ⟨hregs, hmem⟩ := s.frame_of_answers 0x30 tag stState _ [] _ [] hend (fun _ _ => rfl) (by rw [State.wr_taken])
  refine ⟨?_, ?_, hanswer, hregs, hmem⟩
  · exact congrArg (fun y => bitsOf y F.SYS_MODE_MODE.hi F.SYS_MODE_MODE.lo) (hregs (R.SYS_MODE.addr 0 0) (by decide))
  · rw [State.run_dev, hend]
    refine (Work.part_complete_host _ _ _ _ _ (fun w => w.modeReq) (fun _ _ _ _ _ => rfl) (fun _ _ => rfl)).trans ?_
    rw [State.modeReq_taken]

end

end Sys2Proof.Machine
end


section
/-! PROOF. The commit of a MODE, and the statement on MODE (R17, R18, R21, R426). -/
namespace Sys2Proof.Machine

section
variable (w : Work)

/-- A MODE that waits no more. -/
def Work.modeOver (w : Work) : Work := ({ w with modeReq := none } : Work).put F.SYS_MODE_PENDING 0

theorem Work.modeOver_shows : w.modeOver.modeReq = none ∧ w.modeOver.flag F.SYS_MODE_PENDING = false ∧ w.modeOver.host = w.host ∧
    w.modeOver.wr = w.wr ∧ (∀ f : Fld, fieldsApart F.SYS_MODE_PENDING f = true → w.modeOver.get f = w.get f) ∧
    (∀ a, a ≠ R.SYS_MODE.addr 0 0 → w.modeOver.reg a = w.reg a) := by
  obtain ⟨v, hv⟩ : ∃ v, v = ({ w with modeReq := none } : Work) := ⟨_, rfl⟩
  have hsame : v.modeReq = none ∧ v.host = w.host ∧ v.wr = w.wr ∧ ∀ a, v.reg a = w.reg a := by
    rw [hv]
    exact ⟨rfl, rfl, rfl, fun _ => rfl⟩
  obtain ⟨hreq, hhost, hwr, hreg⟩ := hsame
  have heq : w.modeOver = v.put F.SYS_MODE_PENDING 0 := by rw [hv]; rfl
  rw [heq]
  refine ⟨?_, ?_, ?_, ?_, fun f hf => ?_, fun a ha => ?_⟩
  · rw [Work.put_modeReq, hreq]
  · rw [Work.flag_put_same _ _ _ _ _ rfl]
    rfl
  · rw [Work.put_host, hhost]
  · rw [Work.put_wr, hwr]
  · rw [Work.get_put_apart _ _ _ _ _ hf]
    unfold Work.get
    rw [hreg]
  · rw [Work.reg_put_ne _ F.SYS_MODE_PENDING 0 0 0 a ha, hreg]

theorem Work.modeAllowed_modeOver (target : Nat) : w.modeOver.modeAllowed target = w.modeAllowed target := by
  obtain ⟨-, -, -, -, hget, hreg⟩ := w.modeOver_shows
  have hmode : w.modeOver.mode = w.mode := hget F.SYS_MODE_MODE (by decide)
  have hactive : w.modeOver.flag F.SYS_IMG_STAT_ACTIVE = w.flag F.SYS_IMG_STAT_ACTIVE := by
    unfold Work.flag Work.get
    rw [hreg _ (by decide)]
  unfold Work.modeAllowed
  rw [hmode, hactive]

/-- The commit of a MODE of the host whose channels are at rest. -/
theorem modeCommit_eq (r : ModeReq) (hreq : w.modeReq = some r) (hhost : r.origin = .host) (hready : r.ready = true)
    (hrest : (maskList r.quiesce 8).all w.atRest = true) :
    modeCommit w = if w.modeAllowed r.target then (w.modeOver.enterMode r.target r.mask).finish .host stOk else w.modeOver.finish .host stState := by
  rw [← w.modeAllowed_modeOver]
  unfold modeCommit
  rw [hreq]
  dsimp only
  rw [hready, hrest, hhost, Work.putFlag_eq, if_neg (by decide)]
  rfl

/-- A mode entered, as its register shows it. -/
theorem Work.setMode_shows (target mask : Nat) (ht : target < 8) (hm : mask < 256) :
    (w.setMode target mask).get F.SYS_MODE_MODE = target ∧ (w.setMode target mask).get F.SYS_MODE_TEST_MASK = mask ∧
      (w.setMode target mask).get F.SYS_MODE_MODE_SEQ = (w.get F.SYS_MODE_MODE_SEQ + 1) % 256 ∧
      (w.setMode target mask).get F.SYS_MODE_PENDING = w.get F.SYS_MODE_PENDING ∧ (w.setMode target mask).host = w.host ∧
      (w.setMode target mask).modeReq = w.modeReq ∧ (w.setMode target mask).wr = w.wr ∧
      ∀ a, a ≠ R.SYS_MODE.addr 0 0 → (w.setMode target mask).reg a = w.reg a := by
  have heq : w.setMode target mask = ((w.put F.SYS_MODE_MODE target).put F.SYS_MODE_TEST_MASK mask).put F.SYS_MODE_MODE_SEQ
      ((((w.put F.SYS_MODE_MODE target).put F.SYS_MODE_TEST_MASK mask).get F.SYS_MODE_MODE_SEQ + 1) %
        2 ^ (F.SYS_MODE_MODE_SEQ.hi - F.SYS_MODE_MODE_SEQ.lo + 1)) := by
    unfold Work.setMode
    rw [Work.countWrap_eq]
  have hseq : F.SYS_MODE_MODE_SEQ.hi - F.SYS_MODE_MODE_SEQ.lo + 1 = 8 := rfl
  rw [heq]
  refine ⟨?_, ?_, ?_, ?_, ?_, ?_, ?_, fun a ha => ?_⟩
  · rw [Work.get_put_apart _ _ _ _ _ (by decide), Work.get_put_apart _ _ _ _ _ (by decide), Work.get_put_same _ _ _ _ _ (by decide)]
    exact Nat.mod_eq_of_lt ht
  · rw [Work.get_put_apart _ _ _ _ _ (by decide), Work.get_put_same _ _ _ _ _ (by decide)]
    exact Nat.mod_eq_of_lt hm
  · rw [Work.get_put_same _ _ _ _ _ (by decide), Work.get_put_apart _ _ _ _ _ (by decide), Work.get_put_apart _ _ _ _ _ (by decide), hseq, Nat.mod_mod]
    rfl
  · rw [Work.get_put_apart _ _ _ _ _ (by decide), Work.get_put_apart _ _ _ _ _ (by decide), Work.get_put_apart _ _ _ _ _ (by decide)]
  · rw [Work.put_host, Work.put_host, Work.put_host]
  · rw [Work.put_modeReq, Work.put_modeReq, Work.put_modeReq]
  · rw [Work.put_wr, Work.put_wr, Work.put_wr]
  · rw [Work.reg_put_ne _ F.SYS_MODE_MODE_SEQ _ 0 0 a ha, Work.reg_put_ne _ F.SYS_MODE_TEST_MASK _ 0 0 a ha, Work.reg_put_ne _ F.SYS_MODE_MODE _ 0 0 a ha]

/-- The entry to the test mode changes the states of the channels of its mask alone (R426). -/
theorem Work.enterMode_test (mask : Nat) : (w.enterMode mdTest mask).wr = (w.setMode mdTest mask).wr ∧
    ∀ a, a ≠ R.SYS_CH_STATE.addr 0 0 → (w.enterMode mdTest mask).reg a = (w.setMode mdTest mask).reg a := by
  obtain ⟨f, hf⟩ : ∃ f : Work → Nat → Work, f = fun w n => if w.chState n = stQuiesced ∨ w.chState n = stRunning then w.putChState n stTest else w := ⟨_, rfl⟩
  have heq : w.enterMode mdTest mask = (maskList mask 8).foldl f (w.setMode mdTest mask) := by
    rw [hf]
    unfold Work.enterMode
    exact if_pos rfl
  have hstep : ∀ (v : Work) (n : Nat), (f v n).wr = v.wr ∧ ∀ a, a ≠ R.SYS_CH_STATE.addr 0 0 → (f v n).reg a = v.reg a := by
    intro v n
    rw [hf]
    refine iteInduction (motive := fun u : Work => u.wr = v.wr ∧ ∀ a, a ≠ R.SYS_CH_STATE.addr 0 0 → u.reg a = v.reg a) (fun _ => ?_) (fun _ => ?_)
    · exact ⟨v.put_wr F.SYS_CH_STATE_STATES _ 0 0, fun a ha => v.reg_putChState n _ a ha⟩
    · exact ⟨rfl, fun _ _ => rfl⟩
  rw [heq]
  refine ⟨?_, fun a ha => Work.reg_foldl_same _ a _ _ fun v n _ => (hstep v n).2 a ha⟩
  exact List.foldlRecOn (motive := fun v : Work => v.wr = (w.setMode mdTest mask).wr) _ _ rfl fun v hv n _ => (hstep v n).1.trans hv

end

section
variable (s : State) (r : ModeReq) (f : Flight) (hreq : s.dev.modeReq = some r) (hhost : r.origin = .host)
  (hflight : s.dev.host.port.flight = some f) (hlate : f.late = false) (hready : r.ready = true)
  (hrest : (maskList r.quiesce 8).all s.work.atRest = true) (t : State) (ht : t = s.run modeCommit)
include hreq hhost hflight hlate hready hrest ht

/-- A MODE committed. -/
theorem modeCommands_commit (hallowed : s.work.modeAllowed r.target = true) (htarget : r.target < 8) (hmask : r.mask < 256) :
    t.get F.SYS_MODE_MODE = r.target ∧ t.get F.SYS_MODE_TEST_MASK = r.mask ∧
      t.get F.SYS_MODE_MODE_SEQ = (s.get F.SYS_MODE_MODE_SEQ + 1) % 256 ∧ t.flag F.SYS_MODE_PENDING = false ∧
      t.dev.modeReq = none ∧ s.hostAnswered t f.op f.tag stOk [] ∧
      (r.target = mdTest → s.sameRegs t (R.SYS_MODE.addr 0 0 :: R.SYS_CH_STATE.addr 0 0 :: hostRegs) ∧ t.mem = s.mem) := by
  subst ht
  obtain ⟨hover, hpending, hhost', hwr, hget, hreg⟩ := s.work.modeOver_shows
  obtain ⟨hmode, htest, hseq, hpend, hset, hsetreq, hsetwr, hsetreg⟩ := s.work.modeOver.setMode_shows r.target r.mask htarget hmask
  have hentered := Work.ModeApart.enterMode s.work.modeOver r.target r.mask
  obtain ⟨u, hu⟩ : ∃ u, u = s.work.modeOver.enterMode r.target r.mask := ⟨_, rfl⟩
  rw [← hu] at hentered
  have hport : u.host = s.dev.host := (hentered.host.trans hset).trans hhost'
  have hrun : modeCommit s.work = u.complete .host f.op f.tag stOk := by
    rw [modeCommit_eq s.work r hreq hhost hready hrest, if_pos hallowed, ← hu, Work.finish_host u stOk [] false false f (by rw [hport, hflight]), hlate]
    rfl
  have hshown : ∀ g : Fld, g.addr 0 0 = R.SYS_MODE.addr 0 0 → (s.run modeCommit).get g = (s.work.modeOver.setMode r.target r.mask).get g := by
    intro g hg
    rw [State.run_get, hrun]
    unfold Work.get
    rw [hg, Work.reg_complete_host _ _ _ _ _ _ _ _ (by decide), hentered.reg]
  refine ⟨?_, ?_, ?_, ?_, ?_, ?_, fun h => ⟨fun a ha => ?_, s.run_mem_of_wr _ ?_⟩⟩
  · rw [hshown F.SYS_MODE_MODE rfl, hmode]
  · rw [hshown F.SYS_MODE_TEST_MASK rfl, htest]
  · rw [hshown F.SYS_MODE_MODE_SEQ rfl, hseq, hget _ (by decide), State.work_get]
  · exact (State.flag_of_get _ s.work.modeOver _ ((hshown F.SYS_MODE_PENDING rfl).trans hpend)).trans hpending
  · rw [State.run_dev, hrun]
    refine (Work.part_complete_host _ _ _ _ _ (fun w => w.modeReq) (fun _ _ _ _ _ => rfl) (fun _ _ => rfl)).trans ?_
    rw [hentered.modeReq, hsetreq, hover]
  · change (s.run modeCommit).dev.host.port = _
    rw [State.run_dev, hrun, Work.toDev_host, Work.host_complete, hport]
  · simp only [List.mem_cons, not_or] at ha
    obtain ⟨hself, hstates, hout⟩ := ha
    obtain ⟨-, htestreg⟩ := s.work.modeOver.enterMode_test r.mask
    rw [State.run_reg, hrun, Work.reg_complete_host _ _ _ _ _ _ _ _ hout, hu, h, htestreg a hstates, ← h, hsetreg a hself, hreg a hself, State.work_reg]
  · obtain ⟨htestwr, -⟩ := s.work.modeOver.enterMode_test r.mask
    rw [hrun, Work.wr_complete_host, hu, h, htestwr, ← h, hsetwr, hwr, State.work_wr]

/-- A MODE that the table bars at its commit. -/
theorem modeCommands_late (hallowed : s.work.modeAllowed r.target = false) :
    t.work.mode = s.work.mode ∧ t.flag F.SYS_MODE_PENDING = false ∧ t.dev.modeReq = none ∧
      s.hostAnswered t f.op f.tag stState [] ∧ s.sameRegs t (R.SYS_MODE.addr 0 0 :: hostRegs) ∧ t.mem = s.mem := by
  subst ht
  obtain ⟨hover, hpending, hhost', hwr, hget, hreg⟩ := s.work.modeOver_shows
  obtain ⟨u, hu⟩ : ∃ u, u = s.work.modeOver := ⟨_, rfl⟩
  rw [← hu] at hover hpending hhost' hwr hget hreg
  have hrun : modeCommit s.work = u.complete .host f.op f.tag stState := by
    rw [modeCommit_eq s.work r hreq hhost hready hrest, hallowed, if_neg Bool.false_ne_true, ← hu,
      Work.finish_host u stState [] false false f (by rw [hhost']; exact hflight), hlate]
    rfl
  have hshown : ∀ g : Fld, g.addr 0 0 = R.SYS_MODE.addr 0 0 → (s.run modeCommit).get g = u.get g := by
    intro g hg
    rw [State.run_get, hrun]
    unfold Work.get
    rw [hg, Work.reg_complete_host _ _ _ _ _ _ _ _ (by decide)]
  obtain ⟨hanswer, hregs, hmem⟩ := s.answers_of_complete modeCommit u f.op f.tag stState [] [R.SYS_MODE.addr 0 0] hrun (by rw [hhost']; rfl)
    (fun a ha => by
      simp only [List.mem_append, List.mem_singleton, not_or] at ha
      rw [hreg a ha.1, State.work_reg]) (by rw [hwr, State.work_wr])
  refine ⟨?_, ?_, ?_, hanswer, hregs, hmem⟩
  · exact (hshown F.SYS_MODE_MODE rfl).trans (hget _ (by decide))
  · exact (State.flag_of_get _ _ _ (hshown F.SYS_MODE_PENDING rfl)).trans hpending
  · rw [State.run_dev, hrun]
    exact (Work.part_complete_host _ _ _ _ _ (fun w => w.modeReq) (fun _ _ _ _ _ => rfl) (fun _ _ => rfl)).trans hover

end

/-- Settles O8. -/
theorem modeCommands : Obligations.ModeCommands := by
  unfold Obligations.ModeCommands
  refine ⟨?_, ?_, ?_, ?_, ?_⟩
  case refine_1 =>
    intro s tag m hready hreq hallowed
    exact ⟨_, rfl, modeCommands_operate s tag m hready hreq hallowed _ rfl⟩
  case refine_2 =>
    intro s tag x m k resp hready hreq hx hallowed hbarred hlen hkey hlock hvalid
    exact ⟨_, rfl, modeCommands_challenge s tag x m k resp hready hreq hx hallowed hbarred hlen hkey hlock hvalid _ rfl⟩
  case refine_3 =>
    intro s r f hreq hallowed htarget hmask hhost hflight hlate hready hrest
    exact ⟨_, rfl, modeCommands_commit s r f hreq hhost hflight hlate hready hrest _ rfl hallowed htarget hmask⟩
  case refine_4 =>
    intro s r f hreq hallowed hhost hflight hlate hready hrest
    exact ⟨_, rfl, modeCommands_late s r f hreq hhost hflight hlate hready hrest _ rfl hallowed⟩
  case refine_5 =>
    intro s tag x m hready hallowed
    exact ⟨_, rfl, modeCommands_barred s tag x m hready hallowed _ rfl⟩

end Sys2Proof.Machine
end


section
/-! PROOF. A ring whose record names an owner beyond the 512 addresses that RHL_ROUTE holds. -/
namespace Sys2Proof.Machine

/-- The record of a ring of two with an owner at address 512. -/
def ringFarOwner : RingInfo := { len := 2, pos := 0, fwd := 0, back := 1, members := [], owners := [(512, 1)], broken := [] }

/-- A released device that boots over the fabric, with link 0 up, in the ring of `ringFarOwner`. -/
def State.farOwner : State :=
  { State.reset with
    dev := { Dev.init with
      regs := [(F.SYS_REL_STEP.addr 0 0, 12), (R.RHL_STAT.addr 0 0, 5), (R.RHL_PORT.addr 0 0, setBits 0 F.RHL_PORT_LINK.hi F.RHL_PORT_LINK.lo 1)]
      rst := { Rst.init with hold := .none }
      fab := { Dev.init.fab with ring := some ringFarOwner, broken := [] } } }

/-- The word behind the 32 of RHL_ROUTE. -/
theorem State.farOwner_route : State.farOwner.reg 0x40050480 ≠ (State.farOwner.run (fun w => linkDown w 0)).reg 0x40050480 := by
  decide +kernel

/-- Refutes O31: its clause on the break of a ring link lets RHL_ROUTE, its 32 words, change and no register behind them, yet the
routes heal for every owner in the ring's record, and one at address 512 has its route in the word behind. -/
theorem not_linksAndFrames : ¬ Obligations.LinksAndFrames := by
  unfold Obligations.LinksAndFrames
  rintro ⟨-, hbreak, -⟩
  obtain ⟨t, hnext, -, -, -, -, hregs⟩ := hbreak State.farOwner 0 ringFarOwner (by decide +kernel) (by decide +kernel) rfl (by decide)
    (by decide) (by decide) rfl
  obtain rfl : State.farOwner.run (fun w => linkDown w 0) = t := Host.Outcome.next.inj hnext
  exact State.farOwner_route (hregs 0x40050480 (by decide)).symm

end Sys2Proof.Machine
end
